-- ==== Sys2Proof/Word.lean ====
section
/-! DEFINITION. The words of the ALV9604 (R6, R7): registers are 16 bits wide, frames and images are bytes. -/

namespace Sys2Proof

/-- The native word: every register is 16 bits wide (00_scope.md, Registers, words and wide values). -/
abbrev Word := BitVec 16

/-- One byte of an image, a frame or a payload. -/
abbrev Byte := BitVec 8

end Sys2Proof
end

