-- ==== Sys2Proof/Syntax.lean ====
section
/-! DEFINITION. The commands of the block: one constructor per row of spec/opcode_table.json, with the facts the world
outside the model supplies (levels, counts, received data) as operands. -/

namespace Sys2Proof

/-- What the SFDP area of the flash holds (R47): its signature, DWORDs 1, 3 and 15 of the Basic Flash Parameter Table, and whether the quad-enable
bit that DWORD 15 names reads 1. -/
structure Sfdp where
  signature : BitVec 32
  dword1 : BitVec 32
  dword3 : BitVec 32
  dword15 : BitVec 32
  quadEnabled : Bool
  deriving DecidableEq, Repr

/-- What a memory word holds (R393, Table 18.4): something with another copy; a sample of a berth's input, by branch and index; a deinterleaver
cell of a berth; an entry of the change or of the error journal, by number; something else without another copy. -/
inductive WordUse where
  | copied
  | input (n branch index : Nat)
  | cell (n : Nat)
  | change (number : Nat)
  | error (number : Nat)
  | single
  deriving DecidableEq, Repr

/-- What the checker meets in a memory word beside what the model holds of it: whether its content has been written since its last read, the stored
bits (Table 18.1) that have flipped since, and what it holds. -/
structure WordSeen where
  written : Bool
  upset : List Nat
  use : WordUse
  deriving DecidableEq, Repr

/-- A channel of the SURVEY inventory (R39, R259): frequency in Hz, standard code, mean power in 0.01 dBm, identifier. -/
structure Found where
  hz : Nat
  standard : Nat
  power : Int
  ident : Nat
  deriving DecidableEq, Repr

/-- One AF table (Table 3.6): table index, kind, identifier, frequencies in Hz. -/
structure AfEntry where
  index : Nat
  kind : Nat
  ident : Nat
  freqs : List Nat
  deriving DecidableEq, Repr

/-- A FIG of Table 9.3 as the FIC decoder finds it (EN 300 401 gives its bits; the spec gives its content). -/
inductive Fig where
  /-- 0/0: EId, Al flag, CIF count of the frame's first CIF, and the occurrence change where a change is signalled. -/
  | ensemble (eid : Nat) (al : Bool) (cif : Nat) (occurrence : Option Nat)
  /-- 0/1: C/N, subchannel, start, size and protection. -/
  | organisation (next : Bool) (subch start size protection : Nat)
  /-- 0/2: C/N, SId, and a component: its subchannel and, for audio, its ASCTy. -/
  | service (next : Bool) (sid subch : Nat) (ascty : Option Nat)
  /-- 0/3: a packet-mode component whose DG flag says that data groups are used, or not. -/
  | packet (subch addr : Nat) (groups : Bool)
  /-- 0/14: FEC scheme of a packet-mode subchannel. -/
  | fec (subch scheme : Nat)
  /-- 0/10: the date and time, in ms since 1 January 1970 (log entry 124). -/
  | dateTime (ms : Nat)
  /-- 0/19: cluster and the Alarm bit of its ASw flags. -/
  | announce (cluster : Nat) (alarm : Bool)
  /-- 0/21: an entry of a DAB ensemble (R&M 0b0000): its region, EId and frequencies in Hz. -/
  | frequencies (region eid : Nat) (hz : List Nat)
  /-- 0/24: the other ensembles that carry a service. -/
  | otherEnsembles (sid : Nat) (eids : List Nat)
  /-- Any other FIG. -/
  | other
  deriving DecidableEq, Repr

/-- A decoded FIB: whether its CRC holds, its 32 bytes, and its FIGs. -/
structure Fib where
  crcOk : Bool
  bytes : List Byte
  figs : List Fig
  deriving DecidableEq, Repr

/-- What an equalised OFDM cell carries (R246). -/
inductive CellPart where
  | data
  | plp (id : Nat)
  | l1
  | msc
  | sdc
  | fic
  | fac
  | other
  deriving DecidableEq, Repr

/-- An equalised cell, for DAB a differential product (R246): what it carries, the signal it is formed of (0 combined, else the branch), whether
it derives from an erasure or from samples that carry SETTLING, the bits of its constellation and its α, and its value, rotation undone, in
1/4,096 of half the distance between neighbouring points. Log entry 8: PRESUMED. -/
structure Cell where
  part : CellPart
  branch : Nat
  out : Bool
  bits : Nat
  alpha : Nat
  i : Int
  q : Int
  deriving DecidableEq, Repr

/-- What an FFT crane estimates in a frame (R246 to R249): its cells; the residual of the carrier from pilot phases or the reference frequency,
in mHz; the start of the frame through path 0: the index of the lane sample at or before it, and the rest in ps; the power of the channel impulse response of both branches, at
equal steps over its span; and T_u in ps, D_p and B_occ in Hz. Log entry 8: PRESUMED. -/
structure Ofdm where
  cells : List Cell
  residual : Int
  start : Nat
  rest : Nat
  response1 : List Nat
  response2 : List Nat
  useful : Nat
  dp : Nat
  occupied : Nat
  deriving DecidableEq, Repr

/-- A DAB transmission frame: the mode (1 to 4) at whose period it was looked for, whether its null symbol and PRS were found, its
FIBs in order, the ANT-pin time of its start, and the crane's estimates. Log entry 8: PRESUMED. -/
structure DabFrame where
  mode : Nat
  found : Bool
  fibs : List Fib
  ts : BitVec 64
  ofdm : Ofdm
  deriving DecidableEq, Repr

/-- A packet of a packet-mode subchannel, after packet-mode FEC: its CRC-16, address, first and last flags, continuity index, useful data, and the
bytes of it that the FEC corrected; of a last packet also the length of its data group's header, the group's CRC flag, and whether the group's CRC-16 holds. -/
structure Packet where
  crcOk : Bool
  addr : Nat
  first : Bool
  last : Bool
  ci : Nat
  data : List Byte
  fixed : Nat
  head : Nat
  crcFlag : Bool
  crcGood : Bool
  deriving DecidableEq, Repr

/-- A subchannel of a deinterleaved CIF: its logical frame; for DAB+ whether the fire code holds over the five logical frames that end
with this one, and what RS(120,110) makes of them (bytes without parity, corrected bytes, uncorrectable codewords); for packet mode the
packets. -/
structure SubchData where
  subch : Nat
  bytes : List Byte
  fire : Bool
  super : List Byte
  fixed : Nat
  failed : Nat
  packets : List Packet
  deriving DecidableEq, Repr

/-- A DRM transmission frame: robustness mode (1 A to 5 E), spectrum occupancy, index within the super frame, its FAC and whether the
CRC-8 holds, the FAC's service parameters (short ID, identifier), whether it signals a reconfiguration, its ANT-pin time, and the crane's
estimates. Log entry 8: PRESUMED. -/
structure DrmFrame where
  mode : Nat
  occupancy : Nat
  index : Nat
  facOk : Bool
  fac : List Byte
  services : List (Nat × Nat)
  reconfig : Bool
  ts : BitVec 64
  ofdm : Ofdm
  deriving DecidableEq, Repr

/-- A unit of the MSC (Table 9.7): stream, whether the SDC describes it as audio, frame index and ANT-pin time of its first frame, bytes,
and for audio the frames failing their CRC and the frames. -/
structure DrmUnit where
  stream : Nat
  audio : Bool
  frame : Nat
  ts : BitVec 64
  bytes : List Byte
  failed : Nat
  frames : Nat
  deriving DecidableEq, Repr

/-- A DRM super frame: its ANT-pin time, its SDC and whether the CRC-16 holds, whether the MSC uses a hierarchical mapping, its units, the MSC
bytes of each of its transmission frames with the frame's ANT-pin time, and the frequency entries of the SDC (types 3 and 11): by which
number (type, region and schedule) an entry is told apart, the services it names, and its frequencies in Hz. -/
structure DrmSuper where
  ts : BitVec 64
  sdcOk : Bool
  sdc : List Byte
  hierarchical : Bool
  units : List DrmUnit
  msc : List (BitVec 64 × List Byte)
  afs : List (Nat × List Nat × List Nat)
  deriving DecidableEq, Repr

/-- A PLP of L1-post (R229): PLP_ID, PLP_GROUP_ID, whether it is a common PLP, whether its FEC frames are of 64,800 bits or of 16,200, bits of
a cell, PLP_NUM_BLOCKS_MAX, decoded rate in 0.1 Mbit/s, and whether it carries a transport stream. -/
structure Plp where
  id : Nat
  group : Nat
  common : Bool
  long : Bool
  bits : Nat
  blocksMax : Nat
  rate : Nat
  stream : Bool
  deriving DecidableEq, Repr

/-- A TS packet as decoded: its 188 bytes, the UP CRC-8 that took the place of its sync byte in normal mode of DVB-T2, whether RS(204,188) failed
on it, the DNP count before it, its share of the corrections, and for DVB-T the ANT-pin time of the symbol that carries its sync byte. -/
structure TsPacket where
  bytes : List Byte
  crc : Option Nat
  bad : Bool
  dnp : Nat
  fixed : Nat
  ts : BitVec 64
  deriving DecidableEq, Repr

/-- An FEC frame after LDPC and BCH: whether the BBHeader passes its CRC-8, whether BCH succeeded, the packets whose last byte lies in it, and its
LDPC iterations. -/
structure FecFrame where
  headerOk : Bool
  bchOk : Bool
  packets : List TsPacket
  iterations : Nat
  deriving DecidableEq, Repr

/-- What a DVB-T2 berth takes from L1-pre (R224, R226): the FFT size as an `FFT_MAX` code, the codes of guard interval and pilot pattern, the
frame length and FEF_LENGTH in elementary periods, and FEF_INTERVAL in T2 frames, 0 without FEF parts. -/
structure L1Pre where
  fft : Nat
  guard : Nat
  pilots : Nat
  frame : Nat
  fefLength : Nat
  fefInterval : Nat
  deriving DecidableEq, Repr

/-- A DVB-T2 frame at an expected P1 position: whether a P1 was found, 16 times its S1 field plus its S2 field, FRAME_IDX, L1-pre and L1-post with
whether they pass their CRC-32 (as their bits, padding removed) and what they say: of L1-pre the fields named, of L1-post the PLPs and the
extension blocks (type, first bit); the ANT-pin time of the P1 symbol, and the crane's estimates. Log entry 8: PRESUMED. -/
structure T2Frame where
  found : Bool
  fields : Nat
  index : Nat
  preOk : Bool
  pre : List Bool
  l1 : L1Pre
  postOk : Bool
  post : List Bool
  plps : List Plp
  extensions : List (Nat × Bool)
  ts : BitVec 64
  ofdm : Ofdm
  deriving DecidableEq, Repr

/-- A DVB-T OFDM frame: whether timing and continual pilots were found (not, where the pilots were lost in 8 symbols in a row), whether the TPS
passes its BCH check, the 68 TPS bits, the parameters they name (constellation, hierarchy, code rate, guard interval, as one number), whether the
multiplex is hierarchical, the FFT size as an `FFT_MAX` code, the decoded rate in 0.1 Mbit/s, the frame number, the packets of both streams, the
ANT-pin time of the frame, and the crane's estimates. Log entry 8: PRESUMED. -/
structure DvbtFrame where
  found : Bool
  tpsOk : Bool
  tps : List Bool
  params : Nat
  hierarchical : Bool
  fft : Nat
  rate : Nat
  number : Nat
  hp : List TsPacket
  lp : List TsPacket
  ts : BitVec 64
  ofdm : Ofdm
  deriving DecidableEq, Repr

/-- The commands, in the order of the table. -/
inductive Instr where
  /-- VKEEP_POWER_ON (R446): VKEEP rises through its 0.72 V power-on threshold, releasing the power-on reset with a new epoch and empty journals. -/
  | vkeepPowerOn
  /-- VKEEP_FALL (R445): VKEEP falls below 0.66 V; KEEP loses its contents and the device is held in power-on reset. -/
  | vkeepFall
  /-- RESET_PIN_WARM (R45): RESET_N has been low for 1 µs; the device classes a warm reset and runs the shutdown steps 2 to 5 of R41. -/
  | resetPinWarm
  /-- RESET_PIN_FULL (R44): RESET_N is still low at 10 ms; the reset becomes a full reset with a new epoch and cleared STORE, QUAY and key store. -/
  | resetPinFull
  /-- RESET_N_RELEASE (R45): RESET_N rises, allowing WIND to begin once the shutdown steps have ended. -/
  | resetNRelease
  /-- WIND_BEGIN (R446): Once reset is released and the supplies have been in range for 1 ms, the supervisor powers every domain on and starts
  WIND. Operands: `sfdp`: what the reader finds in the SFDP area; `hdr0`, `hdr1`: the header bytes read of copies 0 and 1. -/
  | windBegin (sfdp : Sfdp) (hdr0 hdr1 : List Byte)
  /-- WIND_COPY_READ_DONE (R55): The flash read of an image copy completes; the copy is checked and either applied or rejected. Operands: `img`:
  bytes 0 to L - 1 of the copy, as read. -/
  | windCopyReadDone (copy : Nat) (img : List Byte)
  /-- REGULATE_CAPTURE_DONE (R99): A 14 ms calibrator capture ends and is checked against the factory vectors; a failure is repeated or marks the
  intake faulty. Operands: `k`: intake 1 or 2; `pass`: every bin within 1.5 dB and 10 degrees of the factory vectors; `meas`: the gain and phase
  measured, 256 bins as the comb captures so far give them, or 16 groups of a state capture. -/
  | regulateCaptureDone (k : Nat) (pass : Bool) (meas : List (Word × Word))
  /-- REGULATE_END (R99): The tables are built and all movements are locked, so REGULATE ends with REGULATED or REGULATED_NO_REFIN. Operands:
  `ms`: length of the REGULATE; `dIntake`: D_intake of intakes 1 and 2 by gain state, `uIntake`: U_intake of both, as measured, in ps. -/
  | regulateEnd (ms : Nat) (dIntake : List Nat × List Nat) (uIntake : Nat × Nat)
  /-- REGULATE_LOCK_TIMEOUT (R26): At 3 s into REGULATE a pair is still unlocked or no reference is usable, and the device enters ANCHOR. -/
  | regulateLockTimeout
  /-- ENTER_SURVEY (R29): The ENTER_SURVEY mode command takes the device from RUN into SURVEY. Operands: `confirm`: the CONFIRM field written. -/
  | enterSurvey (confirm : Byte)
  /-- END_SURVEY (R40): The END_SURVEY mode command returns the device from SURVEY to RUN and restarts the stopped berths. Operands: `confirm`:
  the CONFIRM field written. -/
  | endSurvey (confirm : Byte)
  /-- ENTER_ANCHOR (R41): The ENTER_ANCHOR mode command takes the device to ANCHOR. Operands: `confirm`: the CONFIRM field written. -/
  | enterAnchor (confirm : Byte)
  /-- REWIND (R45): The REWIND mode command starts a warm reset with the same epoch. Operands: `confirm`: the CONFIRM field written. -/
  | rewind (confirm : Byte)
  /-- FULL_RESET (R44): The FULL_RESET mode command starts a full reset with a new epoch. Operands: `confirm`: the CONFIRM field written. -/
  | fullReset (confirm : Byte)
  /-- CANCEL_SURVEY_SCHEDULE (R29): The mode command writes 0 to GLB_SURVEY_AT and clears SURVEY_DEFERRED. Operands: `confirm`: the CONFIRM field
  written. -/
  | cancelSurveySchedule (confirm : Byte)
  /-- SURVEY_AT_WRITE (R37): The highest word of GLB_SURVEY_AT is written; a non-zero value at or below the present seconds makes the schedule
  due at once. Operands: `w`: the word written to 0x0012; the lower words are the staged ones (R8). -/
  | surveyAtWrite (w : Word)
  /-- SURVEY_SCHEDULE_DUE (R37): The timestamp counter reaches GLB_SURVEY_AT; SURVEY starts in RUN, and otherwise is deferred to the next entry
  into RUN. -/
  | surveyScheduleDue
  /-- SURVEY_COMPLETE (R40): The full-band scan completes, inventory records are emitted, and the device returns to RUN. Operands: `found`: the
  channel inventory; `tables`: the AF table entries that the scan changes. -/
  | surveyComplete (found : List Found) (tables : List AfEntry)
  /-- SURVEY_LIMIT_EXPIRE (R40): SURVEY has lasted GLB_SURVEY_LIMIT seconds, and the device returns to RUN. -/
  | surveyLimitExpire
  /-- TAMPER_ALARM (R349): TAMPER_N has been low for 200 ns with TAMPER_EN set, raising a security alarm. -/
  | tamperAlarm
  /-- SUPPLY_GLITCH (R349): VCORE or VKEEP has been outside its glitch window for 10 ns, raising a security alarm. -/
  | supplyGlitch
  /-- TEMPERATURE_ALARM (R349): The junction temperature passes above 125 °C or below −50 °C, raising a security alarm. -/
  | temperatureAlarm
  /-- REFIN_LOST (R81): REFIN misses an edge or fails two frequency windows; the device enters DRIFT and holds over, or enters ANCHOR when no
  TCXO is qualified. Operands: `edge`: a missing edge (otherwise two windows out of tolerance). -/
  | refinLost (edge : Bool)
  /-- TCXO_LOST (R66): TCXO_IN misses an edge for 37.5 ns or fails its window; TCXO_OK clears, and in DRIFT the device enters ANCHOR. Operands:
  `edge`: a missing edge (otherwise a window out of tolerance). -/
  | tcxoLost (edge : Bool)
  /-- REF_COUNT_WINDOW_END (R66): A 100 ms reference-counter window ends; the frequency of each input is judged and the qualification counts
  advance or restart. Operands: cycles of REFIN and of TCXO_IN counted in the window; 0 when the input is absent. -/
  | refCountWindowEnd (refin tcxo : Nat)
  /-- BAND_SEARCH_DONE (R68): A movement's 7-step binary band search completes, its loop closes, and its lock windows start. Operands: `m`:
  movement 0 A to 3 D; `counts`: the f_VCO/8 counts of the 7 steps, bit 6 first. -/
  | bandSearchDone (m : Nat) (counts : List Nat)
  /-- LOCK_WINDOW_END (R69): A 1,024-period lock window ends; the movement declares lock after 4 windows in tolerance, or loss of lock after 2
  windows out of tolerance. Operands: `count`: feedback edges in the 1,024-period window. -/
  | lockWindowEnd (m count : Nat)
  /-- LOCK_BOUND_EXPIRE (R69): A movement misses its lock bound; it searches once more, and after a second miss it has failed its re-check. -/
  | lockBoundExpire (m : Nat)
  /-- PFD_SLIP (R70): The PFD phase error exceeds a quarter comparison period, and the locked movement declares loss of lock. -/
  | pfdSlip (m : Nat)
  /-- TWIN_GUARD_CHECK (R70): Once per reference period the twin guard compares the counts of both members and declares the one further from
  nominal lost. Operands: `pair`: 0 A/B, 1 C/D; `c0`, `c1`: f_VCO/2 counts of the two members in one reference period, in hundredths. -/
  | twinGuardCheck (pair : Nat) (c0 c1 : Nat)
  /-- TWIN_TRIM_DONE (R76): The vernier trim of a re-locked member completes, and the loads move back at a period boundary. Operands: `skew`:
  residual lag in ps. -/
  | twinTrimDone (pair : Nat) (skew : Word)
  /-- AUDIO_FAMILY_WRITE (R79): A write of TB_AUDIO_CFG.FAMILY starts the four-step change of N of the audio pair, or is refused. Operands: `w`:
  the word written to TB_AUDIO_CFG. -/
  | audioFamilyWrite (w : Word)
  /-- RELOCK_CMD (R80): A write of TB_PAIR_CMD forces a re-lock of one movement, or is refused. Operands: `w`: the word written to TB_PAIR_CMD. -/
  | relockCmd (w : Word)
  /-- TCXO_OFFSET_WINDOW_END (R82): A 10 s window ends and TB_TCXO_OFFSET is updated with the measured TCXO offset. Operands: `off`: the offset
  measured over 10 s, 0.01 ppb. -/
  | tcxoOffsetWindowEnd (off : BitVec 32)
  /-- PPS_EDGE (R85): An active PPS_IN edge arrives and is used for qualification, steering, ignored as stray, or as the time for a pending
  TB_TIME_SET. Operands: `err`: edge less its predicted second, ps; `gap`: time since the previous active edge less 1 s, ns. -/
  | ppsEdge (err : Int) (gap : Int)
  /-- PPS_LOST (R86): No edge arrives within 10 µs after a predicted second, and PPS_IN counts as lost. -/
  | ppsLost
  /-- TIME_SET_WRITE (R87): The highest word of TB_TIME_SET is written, and the seconds value is applied at the next qualified PPS edge or whole
  second. Operands: `w`: the word written to 0x0156. -/
  | timeSetWrite (w : Word)
  /-- ADC_BLOCK (R110): A 256-sample ADC block completes and is health-checked, and gain-state changes take effect at it. Operands: `xs`: the
  samples, the oldest first; `fault`: a failing check that the samples do not show: 1 parity, 4 clock, 5 supply, 0 none; `pops`: blocks that the
  channeliser takes meanwhile. -/
  | adcBlock (k : Nat) (xs : List (BitVec 14)) (fault pops : Nat)
  /-- AGC_WINDOW_END (R92): A 10 ms AGC measurement window ends, and the AGC may lower or raise the net gain. Operands: `level`: wideband RMS of
  the window, 0.01 dBFS. -/
  | agcWindowEnd (k : Nat) (level : Int)
  /-- INTAKE_SELFTEST_DONE (R111): An intake's 2 ms calibrator-tone self-test ends, and the event is classed TRANSIENT, repeated, or LASTING with
  the intake retired. -/
  | intakeSelftestDone (k : Nat) (pass : Bool)
  /-- NO_SIGNAL_TIMEOUT (R112): The wideband level has stayed below −60 dBFS for 1 s at the ceiling gain, and NO_SIGNAL sets. -/
  | noSignalTimeout (k : Nat)
  /-- VREF_CHECK (R97): The 100 ms comparison of VREF_CAL with the bandgap updates CAL_VREF and VREF_OK. Operands: `tenthMv`: VREF_CAL as
  measured, 0.1 mV. -/
  | vrefCheck (tenthMv : Nat)
  /-- CAL_VISIT_DUE (R101): A background calibration visit of an intake falls due and injects a tone into a free bin when nothing blocks it.
  Operands: `quiet`: the bins whose level stayed below -70 dBFS for 100 ms. -/
  | calVisitDue (k : Nat) (quiet : List Nat)
  /-- CAL_VISIT_DONE (R102): A 2 ms background injection ends and the intake's drift term is updated. Operands: `gain`, `phase`: measured drift,
  0.001 dB and 0.01 degrees. -/
  | calVisitDone (k : Nat) (gain phase : Int)
  /-- CAL_VISIT_SKIP (R101): A visit cannot take place within 1 s of its due time; it is skipped, and STALE sets after 6 skips. -/
  | calVisitSkip (k : Nat)
  /-- FEED_ENABLE_WRITE (R104): A write of FEED_CFG.ENABLE switches a feed on with a soft start, or off. Operands: `w`: the word written to
  FEED_CFG(k). -/
  | feedEnableWrite (k : Nat) (w : Word)
  /-- FEED_SOFT_START_END (R104): The PWM soft-start ramp ends, and FEEDk_EN stays high. -/
  | feedSoftStartEnd (k : Nat)
  /-- FEED_SHORT (R105): The sensed current crosses FEED_SHORT, and the comparator drives FEEDk_EN low within 2 µs. Operands: `ma`: the sensed
  current. -/
  | feedShort (k ma : Nat)
  /-- FEED_I2T_TRIP (R106): The I²t accumulator exceeds FEED_I2T, and the feed is cut. Operands: `ma`: the sensed current, `us`: the microseconds
  for which it has stood. -/
  | feedI2tTrip (k ma us : Nat)
  /-- FEED_COOL_OFF_END (R107): The cool-off after a trip ends, and the feed restarts when ENABLE and AUTO_RETRY are set. -/
  | feedCoolOffEnd (k : Nat)
  /-- FEED_STUCK (R108): Current still flows 1 ms after FEEDk_EN fell, and STUCK_EV sets. Operands: `ma`: the sensed current. -/
  | feedStuck (k ma : Nat)
  /-- LANE_START (R134): A lane told to run starts at the next channeliser block with zeroed histories and phases. Operands: `n`: the berth whose
  lane was told to start; the block after the write begins. -/
  | laneStart (n : Nat)
  /-- LANE_STOP (R134): A lane told to stop completes its current output sample and reads STOPPED. Operands: `n`: berth. -/
  | laneStop (n : Nat)
  /-- GLB_SYNCRESET_WRITE (R135): The highest word of GLB_SYNCRESET is written, arming a synchronising reset of the berths named. Operands: `w`:
  the word written to 0x0025. -/
  | glbSyncresetWrite (w : Word)
  /-- LANE_SYNC_RESET (R135): At the first channeliser block after the write, every running lane of the named berths restarts on the same block. -/
  | laneSyncReset
  /-- LANE_SETTLED (R136): A lane's first N_settle output samples after a start or reset have been emitted, and SETTLING ends. -/
  | laneSettled (n : Nat)
  /-- DETECTOR_WINDOW_END (R129): A detector window of 2^w samples ends, and the peak, RMS and envelope registers load, or DET_STALE sets.
  Operands: `n`: berth. -/
  | detectorWindowEnd (n : Nat)
  /-- LANE_RESIDUE_FAULT (R138): A residue check or a bank error detects a lane fault, and the sample concerned is marked as an erasure.
  Operands: `l`: lane; `bank`: an uncorrectable bank word (otherwise a residue failure); `branch2`: the failure lies in the branch of intake 2 of
  a diversity lane. -/
  | laneResidueFault (l : Nat) (bank branch2 : Bool)
  /-- PATROL_START (R140): A free spare copies a running lane and starts mirroring it. Operands: `l`: the free spare. -/
  | patrolStart (l : Nat)
  /-- PATROL_COMPARE_END (R140): A patrol's 100 ms bit-for-bit comparison ends, and a mismatch leads to a spare self-test and a takeover.
  Operands: `l`: the patrolling spare; `equal`: bit-for-bit equal; `spareOk`: on a mismatch, the spare passes its own self-test. -/
  | patrolCompareEnd (l : Nat) (equal : Bool) (spareOk : Bool)
  /-- TAKEOVER_SWITCH (R141): The spare has settled and matches the lane, and the berth's output switches to it between two samples. Operands:
  `n`: berth. -/
  | takeoverSwitch (n : Nat)
  /-- LANE_SELFTEST_DONE (R142): A lane's calibrator-tone and bank read-back self-test ends, and the lane becomes a spare or is retired. -/
  | laneSelftestDone (l : Nat) (pass : Bool)
  /-- BERTH_RUN_WRITE (R155): RUN at 1 is armed for a berth, and the admission check runs against the loads, occupancy and count limits.
  Operands: `w`: the word written to BTH_CTRL(n), with RUN at 1. -/
  | berthRunWrite (n : Nat) (w : Word)
  /-- STANDARD_CHANGE (R436): A write that changes BTH_CTRL.STANDARD loads all eight service words with the new map's reset values. Operands:
  `w`: the word written to BTH_CTRL(n), with another STANDARD. -/
  | standardChange (n : Nat) (w : Word)
  /-- BERTH_STOP_COMPLETE (R147): A stopping berth completes its current frame, reads STOPPED, and releases its loads. -/
  | berthStopComplete (n : Nat)
  /-- TICKET_READY (R150): A berth's next ticket becomes ready and enters its class's ready queue. Operands: `cls`: crane class; `kinds`: the
  urgent kinds (Table 17.1) among whose tickets R382 counts it. -/
  | ticketReady (n cls : Nat) (kinds : List Nat)
  /-- BEAT_END (R151): A crane's beat ends by its length or by the ticket's completion, and the crane chooses its next work. Operands: `c`:
  crane; `complete`: the ticket completed in the beat; `noCredit`: its output found too few credits; `progress`: input position reached. -/
  | beatEnd (c : Nat) (complete : Bool) (noCredit : Bool) (progress : Nat)
  /-- TICKET_UNPARK (R263): Credits become available, and a parked ticket rejoins the tail of its ready queue. -/
  | ticketUnpark (n : Nat)
  /-- BERTH_INPUT_OVERWRITE (R264): A parked berth's lane would overwrite unconsumed input; its oldest frame is discarded and the mark is moved.
  Operands: `n`: berth; `len`: samples of the frame. -/
  | berthInputOverwrite (n len : Nat)
  /-- CRANE_FAULT (R161): A crane check detects a fault; the crane stops, and the spare replays the ticket from its last mark. Operands:
  `detector`: 0x0401 or 0x0402. -/
  | craneFault (c detector : Nat)
  /-- BEAT_WATCHDOG_EXPIRE (R395): No beat end comes by 2 × B_c + t_sw after a beat began, and the crane fault detector 0x0403 fires. -/
  | beatWatchdogExpire (c : Nat)
  /-- CRANE_SELFTEST_DONE (R161): A crane's known-answer self-test ends, and the crane becomes the spare, returns to work, or is retired. -/
  | craneSelftestDone (c : Nat) (pass : Bool)
  /-- CRANE_SELFTEST_CMD (R163): CRN_CMD with SELFTEST hands a working crane's ticket to the spare at its next beat end and then tests the crane.
  Operands: `w`: the word written to CRN_CMD(c). -/
  | craneSelftestCmd (c : Nat) (w : Word)
  /-- CONSIGNMENT_ARRIVAL (R162): A consignment arrives at the hold entrance and is accepted, dropped as a duplicate, or refused. Operands: `n`:
  berth; `c`: the crane that produced it; the other operands are the consignment. -/
  | consignmentArrival (n c : Nat) (seq : BitVec 32) (content : Nat) (settling injected : Bool) (ts : BitVec 64) (payload : List Byte)
  /-- AM_DEPTH_UPDATE (R169): Once a second an AM berth loads the peak modulation depths of the last second. -/
  | amDepthUpdate (n : Nat)
  /-- STEREO_PILOT_TIMER (R170): The pilot deviation has stayed past its threshold for 100 ms, and stereo is declared or dropped. Operands:
  `above`: the pilot deviation stayed at or above 3.4 kHz for 100 ms (otherwise below 2.0 kHz). -/
  | stereoPilotTimer (n : Nat) (above : Bool)
  /-- RDS_BLOCK (R175): An RDS block is demodulated, checked against its offset word, and corrected within the limit. Operands: `raw`: the 26
  bits received, the first one highest; `ts`: the ANT-pin time of the first. -/
  | rdsBlock (n : Nat) (raw : BitVec 32) (ts : BitVec 64)
  /-- AF_SOUNDING_DONE (R181): A spare lane's sounding of an AF candidate ends with a measured level. Operands: `ml`: the spare lane that sounded. -/
  | afSoundingDone (ml : Nat)
  /-- AF_BAN_EXPIRE (R182): A candidate's 60 s ban expires. -/
  | afBanExpire (h cand : Nat)
  /-- AF_FADE_START (R182): A candidate meets the FOLLOW conditions, and a fade starts with the partner in STARTING. Operands: `qHome`: quality Q
  of the home over the last second, 0.001 dBm. -/
  | afFadeStart (h : Nat) (qHome : Int)
  /-- FADE_PARTNER_SETTLED (R185): The partner's lane has settled, and the fade leaves STARTING. -/
  | fadePartnerSettled (h : Nat)
  /-- FADE_PI_TIMEOUT (R185): No matching PI arrives within 1 s, and the fade ends with PI_TIMEOUT. -/
  | fadePiTimeout (h : Nat)
  /-- FADE_DWELL_WINDOW (R186): A 100 ms dwell window ends with the quality comparison, which either counts toward DWELL or ends the fade with
  QUALITY. Operands: qualities of the window, 0.001 dBm. -/
  | fadeDwellWindow (h : Nat) (qHome qPartner : Int)
  /-- FADE_ALIGN_DONE (R187): The delay alignment ends, and the partner's delay is applied or the fade fails. -/
  | fadeAlignDone (h : Nat)
  /-- FADE_RAMP_DONE (R188): The raised-cosine audio ramp over N samples completes, and the fade enters SWAP. -/
  | fadeRampDone (h : Nat)
  /-- FADE_SWAP (R189): At the next 1 ms block the home and partner exchange lanes and lane fields, and the partner stops. -/
  | fadeSwap (h : Nat)
  /-- FADE_GO_CMD (R190): BTH_SVC6 with CONFIRM 0x5A and GO starts a command fade at the home's next 1 ms block, or is refused. Operands: `w`:
  the word written to BTH_SVC6(h). -/
  | fadeGoCmd (h : Nat) (w : Word)
  /-- FADE_ABORT_CMD (R190): BTH_SVC6 with ABORT ends a fade with ABORT_CMD, and the ramp returns along its mirror. Operands: `w`: the word
  written to BTH_SVC6(h). -/
  | fadeAbortCmd (h : Nat) (w : Word)
  /-- DAB_FRAME (R197): A DAB transmission frame is received; the FIC is decoded at once and the MSC symbols are stored for deinterleaving. -/
  | dabFrame (n : Nat) (f : DabFrame)
  /-- DAB_ALARM_TIMEOUT (R201): No FIG 0/19 for cluster 0xFF arrives for 2 s, and the alarm state ends. -/
  | dabAlarmTimeout (n : Nat)
  /-- DAB_SYNC_LOSS (R196): The PRS is missed in 3 frames or no FIB passes for 1 s; the berth returns to SEARCH and voids incomplete units. -/
  | dabSyncLoss (n : Nat)
  /-- DAB_RECONFIG_APPLY (R200): The signalled CIF arrives, and the new organisation applies with CONFIG incremented. Operands: `cif`: the CIF
  count that begins. -/
  | dabReconfigApply (n : Nat) (cif : Nat)
  /-- CIF_DEINTERLEAVED (R197): A CIF leaves the time deinterleaver once CIF 15 later is received, and its subchannels are decoded. Operands:
  `subs`: the decoded subchannels. -/
  | cifDeinterleaved (n : Nat) (cif : Nat) (ts : BitVec 64) (subs : List SubchData)
  /-- DRM_FRAME (R208): A DRM transmission frame is received, its FAC is decoded, and its MSC cells are stored. -/
  | drmFrame (n : Nat) (f : DrmFrame)
  /-- DRM_SUPERFRAME (R208): A DRM super frame completes; its SDC is decoded, its MSC is decoded by levels, and its units are emitted. -/
  | drmSuperframe (n : Nat) (f : DrmSuper)
  /-- DRM_SYNC_LOSS (R207): No FAC passes its CRC for 2 s, and the berth returns to SEARCH. -/
  | drmSyncLoss (n : Nat)
  /-- DRM_RECONFIG_APPLY (R208): A signalled reconfiguration applies at its super frame boundary. -/
  | drmReconfigApply (n : Nat)
  /-- DIGITAL_FADE_START (R215): A DAB or DRM FOLLOW berth starts a fade to the best candidate. Operands: `pHome`: level of the home over the
  last second, 0.001 dBm. -/
  | digitalFadeStart (h : Nat) (pHome : Int)
  /-- DIGITAL_VERIFY_TIMEOUT (R216): The partner has not shown the reference identifier within 3 s or 4 s, and the fade ends with PI_TIMEOUT. -/
  | digitalVerifyTimeout (h : Nat)
  /-- DIGITAL_DWELL_WINDOW (R217): A 100 ms MER comparison window of a DAB or DRM fade ends. Operands: of both members, the sums of |ẑ|² and of
  |z − ẑ|² over the cells of the window (R246). -/
  | digitalDwellWindow (h : Nat) (home partner : Nat × Nat)
  /-- DIGITAL_ALIGN_DONE (R218): ALIGN chooses a seamless or cut swap and the swap point c, or fails. -/
  | digitalAlignDone (h : Nat)
  /-- DIGITAL_SWAP (R219): At the start of c the home and partner exchange lanes, decoders and areas. -/
  | digitalSwap (h : Nat)
  /-- FADE_PARTNER_DRAINED (R219): The old decoder's last unit has left, and the partner stops. -/
  | fadePartnerDrained (h : Nat)
  /-- T2_FRAME (R227): A DVB-T2 frame is received, P1 and L1 are decoded, and cells are written into the time deinterleaver. -/
  | t2Frame (n : Nat) (f : T2Frame)
  /-- EWS_TIMEOUT (R236): No L1 passes its CRC for 2 s, and the EWS state ends. -/
  | ewsTimeout (n : Nat)
  /-- DVBT_FRAME (R225): A DVB-T OFDM frame is received, the TPS is decoded, and the stream is decoded. -/
  | dvbtFrame (n : Nat) (f : DvbtFrame)
  /-- DVB_SYNC_LOSS (R224): P1 is missed 3 times or L1 fails for 1 s, and the DVB berth returns to SEARCH. -/
  | dvbSyncLoss (n : Nat)
  /-- L1_CHANGE_APPLY (R230): An announced L1 change applies at its T2 frame, and memory is judged again. Operands: `plps`: the PLPs of the new
  L1-post; `ts`: the ANT-pin time of the frame. -/
  | l1ChangeApply (n : Nat) (plps : List Plp) (ts : BitVec 64)
  /-- INTERLEAVING_FRAME_COMPLETE (R227): An interleaving frame is complete, and its FEC frames are LDPC-decoded and rebuilt into TS packets.
  Operands: `fecs`: its FEC frames, decoded. -/
  | interleavingFrameComplete (n : Nat) (plp frameIdx : Nat) (ts : BitVec 64) (fecs : List FecFrame)
  /-- DG_REASSEMBLY_TIMEOUT (R237): A reassembly is not complete within 2 s of its first section, and it is discarded. Operands: `ref`: datagram
  reference. -/
  | dgReassemblyTimeout (n ref : Nat)
  /-- RECORD_WINDOW_END (R255): A berth's record window on the fixed grid ends. -/
  | recordWindowEnd (n : Nat)
  /-- RECORD_COMPLETE (R255): The last frame or unit belonging to an ended window is decoded, and the record is emitted as a consignment. -/
  | recordComplete (n : Nat)
  /-- INTAKE_RECORD_WINDOW_END (R255): A window of the intake record grid ends, and the supervisor emits an intake record. -/
  | intakeRecordWindowEnd
  /-- QUAY_FRAME_START (R289): At a frame boundary a running quay not held off starts the oldest consignment in its hold. -/
  | quayFrameStart (q : Nat)
  /-- QUAY_FRAME_END (R276): The last CRC byte of a frame is committed to the serialiser, and the consignment is released. -/
  | quayFrameEnd (q : Nat)
  /-- QUAY_HOLD_RISE (R290): Qn_HOLD rises, and SOF decisions 30 ns later are withheld. -/
  | quayHoldRise (q : Nat)
  /-- QUAY_HOLD_FALL (R290): Qn_HOLD falls, and the quay may start frames again 30 ns later. -/
  | quayHoldFall (q : Nat)
  /-- QUAY_HOLD_LONG (R291): Qn_HOLD stays high beyond QY_HOLD_LIMIT, and the quay notices it. -/
  | quayHoldLong (q : Nat)
  /-- LANDING_ALIGNED (R294): After 16 clean comma columns the landing port sets ALIGNED. -/
  | landingAligned
  /-- LANDING_ALIGN_LOST (R294): Four code errors within 64 columns clear ALIGNED and restart alignment. -/
  | landingAlignLost
  /-- LANDING_FRAME_JUDGED (R297): A landing frame is judged for refused bytes, CRC, header and duplicates, and is accepted or discarded.
  Operands: `codeError`: a code error fell inside the frame; `eofOk`: LENGTH agrees with the EOF position. -/
  | landingFrameJudged (codeError : Bool) (eofOk : Bool)
  /-- LANDING_FRAME_HANDOFF (R299): The destination has credit, and an accepted landing frame passes to the pilot schedule or the bond request
  hold. -/
  | landingFrameHandoff
  /-- AU_START_WRITE (R314): A write of AU_START is a synchronising reset of the named audio ports. Operands: `w`: the word written to AU_START. -/
  | auStartWrite (w : Word)
  /-- AUDIO_START_INSTANT (R313): A port reaches its start instant; a master sends its first sync, or a slave takes frame 0. Operands: `p`: audio
  port. -/
  | audioStartInstant (p : Nat)
  /-- AUDIO_SETTLED (R312): The converter holds 64 input samples of every routed berth, and the port leaves SETTLING and ramps. -/
  | audioSettled (p : Nat)
  /-- AUDIO_FADE_DONE (R312): A 64-frame fade or ramp completes, and the port reaches SILENT, PLAYING or STOPPED. -/
  | audioFadeDone (p : Nat)
  /-- AUDIO_SLOT_LATE (R311): The FIFO falls to LOW while a slot's audio is missing, and the slot is faded and written as zeros. -/
  | audioSlotLate (p slot : Nat)
  /-- AUDIO_UNDERRUN (R316): The output stage needs a frame and the drain FIFO is empty, so the port fades its guard line. -/
  | audioUnderrun (p : Nat)
  /-- AUDIO_CONVERTER_RESUME (R316): The converter runs again and computes frames from 65 positions ahead, and the port ramps. -/
  | audioConverterResume (p : Nat)
  /-- AUDIO_RATE_WINDOW (R307): A 100 ms window of a slave port ends, and AU_RATE and FS_FOUND are updated. Operands: `rate`: mean frame rate,
  0.001 Hz. -/
  | audioRateWindow (p : Nat) (rate : BitVec 32)
  /-- SLAVE_CLOCK_STOP (R317): No sync edge arrives within 2 frame periods, and the slave port mutes. -/
  | slaveClockStop (p : Nat)
  /-- SLAVE_FRAME_GLITCH (R317): A frame arrives with a wrong bit-clock count, and the port mutes and re-aligns. -/
  | slaveFrameGlitch (p : Nat)
  /-- SLAVE_RATE_CHANGE (R317): Eight frame periods lie outside ±0.2 %, and the port mutes and retargets. -/
  | slaveRateChange (p : Nat)
  /-- SLAVE_CLOCK_QUALIFIED (R317): Sixteen good frames qualify the slave clock, and the port ramps. -/
  | slaveClockQualified (p : Nat)
  /-- LOAD_KEY (R326): The BOND_CMD operation unwraps the staged key into a slot, defers it, or is refused. -/
  | loadKey (confirm : Byte) (slot : Nat)
  /-- ERASE_SLOT (R347): The BOND_CMD operation erases one slot at once and ends its requests with KEY_GONE. -/
  | eraseSlot (confirm : Byte) (slot : Nat)
  /-- ERASE_ALL (R347): The BOND_CMD operation erases every slot at once. -/
  | eraseAll (confirm : Byte)
  /-- PROGRAM_KEK (R328): The BOND_CMD operation starts burning the device KEK into OTP, or is refused. -/
  | programKek (confirm : Byte)
  /-- KEK_BURN_DONE (R328): The fuses are burned; KEK_LOCKED sets and the check value loads. -/
  | kekBurnDone
  /-- BOND_REQUEST_ACCEPT (R330): A request enters the 64-entry request hold with its generation bound, once it has credit. Operands: `src`:
  producer of the work; `mode`: Table 15.1; `data`: the envelope, or the unit with its sector header. -/
  | bondRequestAccept (src : Nat) (srcSeq : BitVec 32) (mode : Nat) (ts : BitVec 64) (data : List Byte)
  /-- BOND_REQUEST_SERVE (R331): The engine takes the head request and processes it block by block. Operands: `bytes`: payload bytes the engine
  processes until the next stop point; `roundOk`: the duplicated round computation agrees. -/
  | bondRequestServe (bytes : Nat) (roundOk : Bool)
  /-- BOND_RESIDUE_FAULT (R395): A bond datapath residue failure stops the engine, discards unaccepted output, and re-serves the request after
  self-test. -/
  | bondResidueFault
  /-- GCM_VERDICT (R336): A GCM request's checks and tag end in ACCEPT or REJECT, and the plaintext and verdict marker are written. -/
  | gcmVerdict
  /-- XTS_SECTOR_DONE (R344): An XTS request completes, and its data unit leaves as sector consignments or a REJECT marker. -/
  | xtsSectorDone
  /-- CAPTURE_FLUSH_TIMEOUT (R343): A unit's first byte has waited CAP_FLUSH ms, and the unit is closed early with 0xFF fill. -/
  | captureFlushTimeout (c : Nat)
  /-- IV_ENTRY_EXPIRE (R341): An IV table entry expires BOND_IV_HOLD seconds after its last change. -/
  | ivEntryExpire (slot : Nat) (gen : Word) (iv : List Byte)
  /-- ENTROPY_HEALTH_FAIL (R324): An entropy health test fails, and the engine stops before its next block. -/
  | entropyHealthFail
  /-- ENTROPY_RETRY (R324): Every 10 ms the seed is retried, and the engine resumes when a test passes. -/
  | entropyRetry (pass : Bool)
  /-- DRBG_RESEED (R324): The DRBG reseeds after 1 s or 2¹⁶ generate calls. -/
  | drbgReseed
  /-- KEY_SHARE_REFRESH (R323): Every 1 s the key shares in each slot are re-randomised. -/
  | keyShareRefresh
  /-- PILOT_REQUEST_ACCEPT (R360): A host, relay or periodic transmit request enters the pilot schedule and takes a producer 0x64 number.
  Operands: `src`: 0x63 host, 0x62 relay; `cont`: CONT of the landing frame; `data`: Table 16.3 payload, or the relayed stream. -/
  | pilotRequestAccept (src : Nat) (srcSeq : BitVec 32) (cont : Bool) (data : List Byte)
  /-- PERIODIC_DUE (R362): A periodic entry falls due at its second and becomes a request, or is skipped. Operands: `e`: periodic entry. -/
  | periodicDue (e : Nat)
  /-- PILOT_SCHEDULE_STEP (R363): The request at the head of the schedule passes through the checks of steps 1 to 7 in order. -/
  | pilotScheduleStep
  /-- LOCK_WAIT_EXPIRE (R358): The accumulated lock wait exceeds the hold limit, and the request ends LATE. -/
  | lockWaitExpire
  /-- BUDGET_WAIT_EXPIRE (R365): A request has waited PLT_WAIT seconds for budget, and it ends NO_BUDGET. -/
  | budgetWaitExpire
  /-- CCA_MEASURE_DONE (R364): The clear-channel measurement ends; a clear channel gives the start decision, and a busy one gives a backoff or
  CHANNEL_BUSY. -/
  | ccaMeasureDone
  /-- CCA_BACKOFF_END (R364): A random backoff ends, and the clear-channel check runs again. -/
  | ccaBackoffEnd
  /-- PILOT_WINDOW_OPEN (R357): At t_d + 1.2 µs TRSW0 and TRSW1 switch to transmit, and the pilot window opens. Operands: `clamped`: the output
  detector clamps. -/
  | pilotWindowOpen (clamped : Bool)
  /-- PILOT_AIR_END (R357): The last FCS bit ends, the DAC goes to 0, and the switches return to receive. -/
  | pilotAirEnd
  /-- PILOT_TURNROUND_END (R357): The TX-to-RX turn-round ends; the pilot window closes, the request ends, and a listen window may open. -/
  | pilotTurnroundEnd
  /-- LISTEN_WINDOW_END (R366): The listen window's time expires, and LISTENING clears. -/
  | listenWindowEnd
  /-- DUTY_BIN_EXPIRE (R365): A 1 s air-time bin leaves the rolling-hour sum 3,601 s after its start. Operands: `second`: the second in which the
  bin started. -/
  | dutyBinExpire (second : Nat)
  /-- PREAMBLE_DECLARED (R370): A receive berth's correlator declares a preamble, which starts or restarts synchronisation or preempts a frame.
  Operands: `timing`: where its bits begin, in 1/64 bit period; `freq`: the frequency estimate, 10 Hz, within ±30 kHz. -/
  | preambleDeclared (n timing : Nat) (freq : Int)
  /-- SFD_FOUND (R370): The SFD is found, AFC freezes, and the berth reads the PHR. Operands: `freq`: the frozen AFC offset, 10 Hz, within ±30 kHz. -/
  | sfdFound (n : Nat) (freq : Int)
  /-- SFD_TIMEOUT (R370): No SFD comes within 272 bit periods, and the reception counts as FALSE_PREAMBLE. -/
  | sfdTimeout (n : Nat)
  /-- PHR_RECEIVED (R370): The PHR is read and checked, or the frame ends with PHR_INVALID. Operands: `phr`: bit 15 mode switch, bit 12 FCS type,
  bit 11 DW, bits [10:0] frame length; `snr`: measured over SFD and PHR, 0.1 dB. -/
  | phrReceived (n : Nat) (phr : Word) (snr : Int)
  /-- PILOT_FRAME_RECEIVED (R372): The PSDU ends; the FCS is checked and a frame-received consignment is emitted. Operands: `psdu`: the octets on
  the air, FCS included; `freqs`: f_measured at the symbol centres of PHR and PSDU, Hz. -/
  | pilotFrameReceived (n : Nat) (psdu : List Byte) (freqs : List Int)
  /-- CAPTURE_OVERRUN (R373): A pilot capture FIFO overruns, the frame ends CAPTURE_LOST, and the berth returns to SEARCH. Operands: `fifo`:
  pilot receive capture FIFO 0 to 3. -/
  | captureOverrun (fifo : Nat)
  /-- ALERT_HOLD_EXPIRE (R379): An alert source's hold time expires, and the source ends when its state allows. Operands: the source whose hold
  time expires. -/
  | alertHoldExpire (kind src : Nat)
  /-- ALERT_TEST (R378): ALERT_CMD with TEST starts the test source, and ALERT_N falls. Operands: `w`: the word written to ALERT_CMD. -/
  | alertTest (w : Word)
  /-- ALERT_CLEAR (R379): ALERT_CMD with CLEAR ends the sources that wait for a clear. Operands: `w`: the word written to ALERT_CMD. -/
  | alertClear (w : Word)
  /-- URG_ENTRY_WRITE (R387): A write of URG_ENTRY_C commits the staged words of the selected urgent-class entry, or is refused. Operands: `w`:
  the word written to URG_ENTRY_C. -/
  | urgEntryWrite (w : Word)
  /-- SCRUB_WORD_READ (R392): The scrubber reads one protected word and handles it by the DEC-TED rules. Operands: the word read, in the fields
  of INJ_ADDR; `seen`: what the checker meets there. -/
  | scrubWordRead (mem bank row col : Nat) (seen : WordSeen)
  /-- SCRUB_PASS_LATE (R392): A scrub pass has not ended within 1.1 times its period, and SCRUB_LATE sets. -/
  | scrubPassLate (mem : Nat)
  /-- MEMORY_SELFTEST_DONE (R391): A memory word's pattern self-test ends, and the word is classed TRANSIENT, repeated, or LASTING. -/
  | memorySelftestDone (mem bank row col : Nat) (pass : Bool)
  /-- ROW_REPLACE_DONE (R401): A retired row has been copied into a spare row, and the row map is updated. -/
  | rowReplaceDone (mem bank row : Nat)
  /-- UNIT_SELFTEST_DONE (R398): The self-test of an audio converter, the bond engine or the TX DAC ends and is classified. Operands: `ty`:
  UNIT_TYPE 0x8 bond engine, 0x9 audio converter, 0xA TX DAC. -/
  | unitSelftestDone (ty idx : Nat) (pass : Bool)
  /-- RETEST (R400): The PROT_CMD operation starts two self-test runs of a retired unit, or is refused. Operands: `w`: the word written to
  PROT_CMD. -/
  | retest (w : Word)
  /-- RETEST_DONE (R400): The RETEST runs end, and the unit is restored on PASS or stays retired on FAIL. -/
  | retestDone (pass : Bool)
  /-- INJECT_ARM (R405): INJ_CMD with ARM arms an injection, or is refused. Operands: `w`: the word written to INJ_CMD. -/
  | injectArm (w : Word)
  /-- INJECT_CANCEL (R406): INJ_CMD with CANCEL disarms the injection. Operands: `w`: the word written to INJ_CMD. -/
  | injectCancel (w : Word)
  /-- DOMAIN_FAULT (R402): The supervisor declares a domain fault, and the restart sequence begins at its isolation step. Operands: `d`: domain
  code; `cause`: sub-cause of R402. -/
  | domainFault (d cause : Nat)
  /-- DOMAIN_HEARTBEAT_TIMEOUT (R402): A domain does not answer the heartbeat within 1 ms, and a domain fault follows. -/
  | domainHeartbeatTimeout (d : Nat)
  /-- DOMAIN_RESTART_STEP_DONE (R402): A timed step of a domain restart completes, and the next step begins. -/
  | domainRestartStepDone (d : Nat)
  /-- CUSTODY_REBUILD_DONE (R277): The custody rebuild ends; copies are checked against their descriptors, and resends follow. Operands: `errs`:
  the bytes that the rebuild reads wrong: the item's producer and sequence number, the byte's place in its content, and the bits inverted. -/
  | custodyRebuildDone (errs : List (Nat × BitVec 32 × Nat × BitVec 8))
  /-- DOMAIN_RESTART_TIMEOUT (R43): The domain is not ready within 50 ms, and the device enters ANCHOR with DOMAIN_FAULT. -/
  | domainRestartTimeout (d : Nat)
  /-- INTAKE_DOMAIN_OFF (R438): DOM_CTRL.INTAKEk_ON written to 0 switches the intake domain off. Operands: DOM_CTRL is written with INTAKEk_ON at
  0 and its other bits as they stand. -/
  | intakeDomainOff (k : Nat)
  /-- INTAKE_DOMAIN_ON (R438): DOM_CTRL.INTAKEk_ON written to 1 switches the intake domain on, with its registers restored. Operands: as
  INTAKE_DOMAIN_OFF, at 1. -/
  | intakeDomainOn (k : Nat)
  /-- QUAY_DOMAIN_RETAIN (R438): DOM_CTRL.QUAY_ON written to 0 stops the quays and pilot link and passes QUAY to retention. Operands: DOM_CTRL is
  written with QUAY_ON at 0 and its other bits as they stand. -/
  | quayDomainRetain
  /-- QUAY_DOMAIN_ON (R438): DOM_CTRL.QUAY_ON written to 1 brings QUAY on, and held consignments leave. Operands: as QUAY_DOMAIN_RETAIN, at 1. -/
  | quayDomainOn
  /-- DOMAIN_SWITCH_DONE (R438): A commanded domain switch completes, and SWITCH_EV sets. -/
  | domainSwitchDone (d : Nat)
  /-- SUPPLY_RANGE_EXIT (R440): A supply's 1 ms mean leaves its range; RANGE_EV sets and a domain fault follows for the domains it feeds.
  Operands: `sup`: supply; `mv`: the 1 ms mean. -/
  | supplyRangeExit (sup mv : Nat)
  /-- TEMP_WARN_RISE (R440): The junction reaches SUP_TEMP_WARN, and TEMP_WARN rises. Operands: `temp`: junction, signed 0.01 degrees. -/
  | tempWarnRise (temp : Word)
  /-- TW_START (R416): A START with the port's address opens a two-wire transaction. -/
  | twStart (addr : BitVec 7) (read : Bool)
  /-- TW_POINTER_SET (R417): Two register-address bytes load the port's pointer. -/
  | twPointerSet (ra : Word)
  /-- TW_WORD_WRITE (R418): A complete written word is applied as one access at the pointer, and the pointer advances. -/
  | twWordWrite (w : Word)
  /-- TW_WORD_READ (R420): A word is sampled for reading; its side effects act at the end of its sixteenth bit, and the pointer advances.
  Operands: `ack`: the controller acknowledges the last byte. -/
  | twWordRead (ack : Bool)
  /-- TW_STOP (R416): A STOP in place ends the transaction. -/
  | twStop
  /-- TW_FRAME_ERROR (R423): A START or STOP out of place discards the word in progress and counts a FRAME error. Operands: `start`: a START out
  of place (otherwise a STOP); `partialWord`: a word was in progress. -/
  | twFrameError (start : Bool) (partialWord : Bool)
  /-- TW_SDA_RELEASE_TIMEOUT (R425): SCL has stayed high for 1 ms while the port drives SDA low, so the port releases and abandons the transaction. -/
  | twSdaReleaseTimeout (partialWord : Bool)
  /-- TW_STRETCH_TIMEOUT (R422): A read value is not ready 1.5 ms into a stretch, and 0x0000 is sent as a stale read. -/
  | twStretchTimeout
  /-- TW_SCL_TIMEOUT (R427): SCL has been low for 25 ms in an open transaction, and the port returns to idle. -/
  | twSclTimeout (partialWord : Bool)
  /-- TW_SDA_TIMEOUT (R427): SDA has been held low by another device for 25 ms, and SDA_STUCK sets. -/
  | twSdaTimeout
  /-- ATTN_PULSE_START (R429): After 100 µs of idle bus the port pulls SDA low for a queued attention pulse. -/
  | attnPulseStart
  /-- ATTN_PULSE_END (R429): The 40 µs pulse ends, SDA is released, and ATTN_SENT increments. -/
  | attnPulseEnd
  /-- ATTN_COLLIDE (R429): SCL falls during a pulse; the port releases SDA and queues the pulse again. -/
  | attnCollide
  /-- ATTN_REPEAT (R429): The reminder period expires while an enabled source stays set, and a further pulse is queued. -/
  | attnRepeat
  /-- COMMIT_OPEN (R60): The COMMIT operation OPEN opens a group for the block's LIVE writes. Operands: `a`: address of the COMMIT register. -/
  | commitOpen (a : Word)
  /-- COMMIT_GO (R60): The COMMIT operation GO judges the group and arms it, or refuses it with REFUSED_VALUE. Operands: `a`: address of the
  COMMIT register. -/
  | commitGo (a : Word)
  /-- COMMIT_ABORT (R60): The COMMIT operation ABORT discards the unarmed shadow and closes the group. Operands: `a`: address of the COMMIT
  register. -/
  | commitAbort (a : Word)
  /-- LIVE_CHANGE_APPLY (R59): An armed LIVE change takes effect at its block's next natural boundary. Operands: `a`: address of the COMMIT
  register of the block whose boundary passes; `u`: for the COMMIT register of several blocks, the movement output or the crane class. -/
  | liveChangeApply (a : Word) (u : Nat)
  /-- JNL_SELECT_WRITE (R64): The high word of JNL_SELECT copies the named change-journal entry into JNL_ENTRY, or sets SELECT_MISS. Operands:
  `w`: the word written to 0x2803. -/
  | jnlSelectWrite (w : Word)
  /-- JNL_CLEAR_LOST (R64): Writing 1 to JNL_STATUS.CLEAR_LOST zeroes UNREAD_LOST. Operands: `w`: the word written to JNL_STATUS. -/
  | jnlClearLost (w : Word)
  /-- ERR_SELECT_WRITE (R410): The high word of ERR_SELECT copies the named error-journal entry into ERR_ENTRY. Operands: `w`: the word written
  to 0x2813. -/
  | errSelectWrite (w : Word)
  /-- ERR_CLEAR_LOST (R410): Writing 1 to ERR_STATUS.CLEAR_LOST zeroes the error journal's UNREAD_LOST. Operands: `w`: the word written to
  ERR_STATUS. -/
  | errClearLost (w : Word)
  /-- LST_SEL_WRITE (R443): A write of LST_SEL copies the lading statistics of the named pair into the window. Operands: `w`: the word written to
  LST_SEL. -/
  | lstSelWrite (w : Word)
  /-- READ_WITH_EFFECT (R10): A read of an RC field clears it, and a read of a wide value's low word snapshots its upper words. -/
  | readWithEffect (a : Word)
  /-- REGISTER_WRITE (R12): A write to a register without a row of its own is judged by access type, class, mode and value, then applied or
  refused. -/
  | registerWrite (a w : Word)
  /-- LANDING_COLUMN_RECEIVED (R296): A data column of a landing frame arrives and is pushed into the landing FIFO or refused at full, with
  L_STOP and L_FULL following within 20 ns and CODE_EV set on a code error. Operands: `g0`, `g1`: the code groups on the two lanes, bit a the most
  significant, of a data column or of another; `pops`: 2-byte words the fabric takes at the same edge. -/
  | landingColumnReceived (g0 g1 : BitVec 10) (pops : Nat)
  /-- TIME_SET_WHOLE_SECOND (R87): With no qualified PPS_IN, a pending TB_TIME_SET seconds value takes effect at the timestamp counter's next
  whole second, and nanoseconds restart at 0. -/
  | timeSetWholeSecond
  /-- TW_LINE_RISEN (R427): A stuck TW_SCL or TW_SDA line rises again, so SCL_LOW or SDA_LOW clears, the port resumes, and the PORT attention
  source is raised. Operands: `scl`: TW_SCL rose (otherwise TW_SDA). -/
  | twLineRisen (scl : Bool)
  /-- SUPPLY_RANGE_RETURN (R440): A supply's 1 ms mean returns into its operating range, and its IN_RANGE bit sets again. Operands: as
  SUPPLY_RANGE_EXIT. -/
  | supplyRangeReturn (sup mv : Nat)
  /-- TEMP_WARN_FALL (R440): The junction temperature falls 3 °C below SUP_TEMP_WARN, and TEMP_WARN falls. Operands: `temp`: junction, signed
  0.01 degrees. -/
  | tempWarnFall (temp : Word)
  /-- FEED_TRIP_AGE_OUT (R107): A feed trip becomes older than 10 minutes and leaves the FEED_STATUS.TRIPS count on which LATCHED is judged. -/
  | feedTripAgeOut (k : Nat)
  deriving DecidableEq, Repr

end Sys2Proof
end

