-- ==== Sys2Proof/Machine/Bits.lean ====
section
/-! DEFINITION. Bit fields, byte orders, sign extension, saturating counts and the CRC-32 of R49, used by every family. -/

namespace Sys2Proof.Machine

/-- Bits [lo + width - 1 : lo] of a number. -/
def bits (x lo width : Nat) : Nat := x / 2 ^ lo % 2 ^ width

/-- Bit `i` of a number. -/
def bit (x i : Nat) : Bool := bits x i 1 == 1

/-- A Bool as a register bit. -/
def b2n (b : Bool) : Nat := if b then 1 else 0

/-- Two's complement reading of the low `width` bits. -/
def sext (width x : Nat) : Int :=
  let v := x % 2 ^ width
  if v < 2 ^ (width - 1) then (v : Int) else (v : Int) - (2 ^ width : Nat)

/-- Two's complement writing in `width` bits. -/
def toBits (width : Nat) (x : Int) : Nat := (x % (2 ^ width : Nat)).toNat

/-- Clamps an integer to the signed range of 16 bits. -/
def clamp16 (x : Int) : Int := if x < -32768 then -32768 else if x > 32767 then 32767 else x

/-- Adds to a count that saturates at the top of its width. -/
def satAdd (width x k : Nat) : Nat := if x + k < 2 ^ width then x + k else 2 ^ width - 1

/-- The `n` bytes of a number, most significant first. -/
def be : Nat → Nat → List Byte
  | 0, _ => []
  | n + 1, x => BitVec.ofNat 8 (x / 256 ^ n) :: be n x

/-- The `n` bytes of a number, least significant first. -/
def le : Nat → Nat → List Byte
  | 0, _ => []
  | n + 1, x => BitVec.ofNat 8 x :: le n (x / 256)

/-- The number that bytes spell, most significant first. -/
def ofBe (l : List Byte) : Nat := l.foldl (fun a b => a * 256 + b.toNat) 0

/-- The number that bytes spell, least significant first. -/
def ofLe (l : List Byte) : Nat := l.foldr (fun b a => b.toNat + 256 * a) 0

/-- `n` bytes from position `i`; what lies past the end is left out. -/
def slice (l : List Byte) (i n : Nat) : List Byte := (l.drop i).take n

/-- Byte `i` as a number, 0 past the end. -/
def byteAt (l : List Byte) (i : Nat) : Nat := ((l[i]?).getD 0).toNat

/-- One bit of the CRC-32 shift register, reflected (polynomial 0x04C11DB7, R49). -/
def crcBit (c : BitVec 32) : BitVec 32 := if c.getLsbD 0 then (c >>> 1) ^^^ 0xEDB88320#32 else c >>> 1

/-- One byte into the CRC-32 register. -/
def crcByte (c : BitVec 32) (b : Byte) : BitVec 32 :=
  crcBit (crcBit (crcBit (crcBit (crcBit (crcBit (crcBit (crcBit (c ^^^ b.zeroExtend 32))))))))

/-- CRC-32 of IEEE 802.3 (R49): initial value and final XOR 0xFFFFFFFF. -/
def crc32 (l : List Byte) : BitVec 32 := ~~~ (l.foldl crcByte 0xFFFFFFFF#32)

/-- One bit of a CRC register of `w` bits, most significant bit first. -/
def msbBit (w poly c : Nat) : Nat := if Nat.blt (2 * c) (2 ^ w) then 2 * c else (2 * c - 2 ^ w) ^^^ poly

/-- A CRC of `w` bits over bytes, each from its most significant bit. -/
def msbCrc (w poly init : Nat) (l : List Byte) : Nat :=
  l.foldl (fun c b => (msbBit w poly)^[8] (c ^^^ (b.toNat * 2 ^ (w - 8)))) init

/-- Serial comparison of 32-bit numbers: `a` follows `b` (R272; R54 for generations). -/
def follows (a b : Nat) : Bool :=
  let d := (a + 2 ^ 32 - b % 2 ^ 32) % 2 ^ 32
  Nat.ble 1 d && Nat.ble d 0x7FFFFFFF

/-- The newer of two 32-bit numbers: `a` where it follows `b`. -/
def newer (a b : Nat) : Nat := if follows a b then a else b

/-- Whether a number lies in a range. -/
def inR (lo hi x : Nat) : Bool := Nat.ble lo x && Nat.ble x hi

/-- Division rounded up. -/
def ceilDiv (a b : Nat) : Nat := (a + b - 1) / b

end Sys2Proof.Machine
end

