-- ==== Sys2Proof/Machine/Aes.lean ====
section
/-! DEFINITION. The ciphers of the bond engine, which the spec takes from their standards: AES (FIPS 197), GCM with a 96-bit IV
(NIST SP 800-38D), XTS on whole blocks (IEEE 1619) and the key unwrapping of RFC 3394 (R322, R326, R335, R344; log entry 4). -/

namespace Sys2Proof.Machine

/-- Multiplication by x in GF(2⁸) modulo x⁸ + x⁴ + x³ + x + 1. -/
def xtime (b : Byte) : Byte := if b.getLsbD 7 then (b <<< 1) ^^^ 0x1B#8 else b <<< 1

/-- Multiplication in GF(2⁸), `n` bits of the second factor. -/
def gmulN : Nat → Byte → Byte → Byte
  | 0, _, _ => 0#8
  | n + 1, a, b => (if b.getLsbD 0 then a else 0#8) ^^^ gmulN n (xtime a) (b >>> 1)

/-- The substitution values for the bytes xy of FIPS 197, one number for a row x with its column 0 first. -/
def sboxRows : List Nat := [
    0x637C777BF26B6FC53001672BFED7AB76, 0xCA82C97DFA5947F0ADD4A2AF9CA472C0, 0xB7FD9326363FF7CC34A5E5F171D83115, 0x04C723C31896059A071280E2EB27B275,
    0x09832C1A1B6E5AA0523BD6B329E32F84, 0x53D100ED20FCB15B6ACBBE394A4C58CF, 0xD0EFAAFB434D338545F9027F503C9FA8, 0x51A3408F929D38F5BCB6DA2110FFF3D2,
    0xCD0C13EC5F974417C4A77E3D645D1973, 0x60814FDC222A908846EEB814DE5E0BDB, 0xE0323A0A4906245CC2D3AC629195E479, 0xE7C8376D8DD54EA96C56F4EA657AAE08,
    0xBA78252E1CA6B4C6E8DD741F4BBD8B8A, 0x703EB5664803F60E613557B986C11D9E, 0xE1F8981169D98E949B1E87E9CE5528DF, 0x8CA1890DBFE6426841992D0FB054BB16]

/-- The inverse substitution values of FIPS 197, laid out alike. -/
def sboxInvRows : List Nat := [
    0x52096AD53036A538BF40A39E81F3D7FB, 0x7CE339829B2FFF87348E4344C4DEE9CB, 0x547B9432A6C2233DEE4C950B42FAC34E, 0x082EA16628D924B2765BA2496D8BD125,
    0x72F8F66486689816D4A45CCC5D65B692, 0x6C704850FDEDB9DA5E154657A78D9D84, 0x90D8AB008CBCD30AF7E45805B8B34506, 0xD02C1E8FCA3F0F02C1AFBD0301138A6B,
    0x3A9111414F67DCEA97F2CFCEF0B4E673, 0x96AC7422E7AD3585E2F937E81C75DF6E, 0x47F11A711D29C5896FB7620EAA18BE1B, 0xFC563E4BC6D279209ADBC0FE78CD5AF4,
    0x1FDDA8338807C731B11210592780EC5F, 0x60517FA919B54A0D2DE57A9F93C99CEF, 0xA0E03B4DAE2AF5B0C8EBBB3C83539961, 0x172B047EBA77D626E169146355210C7D]

/-- The value of a substitution table for a byte. -/
def substitute (rows : List Nat) (a : Byte) : Byte :=
  BitVec.ofNat 8 (((rows[a.toNat / 16]?).getD 0) >>> (8 * (15 - a.toNat % 16)))

/-- The S-box. -/
def sbox (a : Byte) : Byte := substitute sboxRows a

/-- The inverse S-box. -/
def sboxInv (a : Byte) : Byte := substitute sboxInvRows a

/-- Byte-wise exclusive or. -/
def xorBytes (a b : List Byte) : List Byte := List.zipWith (· ^^^ ·) a b

/-- Byte `i` of a list, 0 past the end. -/
def at8 (l : List Byte) (i : Nat) : Byte := (l[i]?).getD 0#8

/-- One more word of the expanded key: `i` its number, `nk` the words of the key, `w` the words so far, newest first. -/
def nextWord (nk i : Nat) (w : List (List Byte)) : List Byte :=
  let prev := w.headD []
  let old := (w[nk - 1]?).getD []
  let t :=
    if i % nk = 0 then
      let r := ((prev.drop 1) ++ (prev.take 1)).map sbox
      xorBytes r [(List.range (i / nk - 1)).foldl (fun c _ => xtime c) 0x01#8, 0#8, 0#8, 0#8]
    else if 6 < nk && i % nk = 4 then prev.map sbox
    else prev
  xorBytes old t

/-- Words 4 bytes long of a key, first word first. -/
def words4 (l : List Byte) : List (List Byte) := (List.range (l.length / 4)).map (fun i => slice l (4 * i) 4)

/-- The round keys of a key of 16 or 32 bytes. -/
def expandKey (key : List Byte) : List (List Byte) :=
  let nk := key.length / 4
  let total := 4 * (nk + 7)
  let w := (List.range (total - nk)).foldl (fun acc j => nextWord nk (nk + j) acc :: acc) (words4 key).reverse
  let l := w.reverse
  (List.range (nk + 7)).map (fun r => ((l.drop (4 * r)).take 4).flatten)

/-- ShiftRows of a column-major state, or its inverse. -/
def shiftRows (inv : Bool) (s : List Byte) : List Byte :=
  (List.range 16).map (fun i => at8 s ((i % 4) + 4 * ((i / 4 + (if inv then 4 - i % 4 else i % 4)) % 4)))

/-- MixColumns with the given first row of its matrix, whose values have 4 bits. -/
def mixColumns (m : List Byte) (s : List Byte) : List Byte :=
  (List.range 16).map (fun i =>
    (List.range 4).foldl (fun a j => a ^^^ gmulN 4 (at8 s (4 * (i / 4) + j)) (at8 m ((4 + j - i % 4) % 4))) 0#8)

/-- AES encryption of one block under expanded round keys. -/
def aesRounds (rk : List (List Byte)) (block : List Byte) : List Byte :=
  match rk with
  | [] => block
  | k0 :: rest =>
    let s := xorBytes block k0
    let s := (rest.take (rest.length - 1)).foldl (fun s k =>
      xorBytes (mixColumns [2#8, 3#8, 1#8, 1#8] (shiftRows false (s.map sbox))) k) s
    xorBytes (shiftRows false (s.map sbox)) (rest.getLastD [])

/-- AES decryption of one block under expanded round keys. -/
def aesRoundsInv (rk : List (List Byte)) (block : List Byte) : List Byte :=
  match rk.reverse with
  | [] => block
  | kn :: rest =>
    let s := xorBytes block kn
    let s := (rest.take (rest.length - 1)).foldl (fun s k =>
      mixColumns [14#8, 11#8, 13#8, 9#8] (xorBytes ((shiftRows true s).map sboxInv) k)) s
    xorBytes ((shiftRows true s).map sboxInv) (rest.getLastD [])

/-- AES-128 or AES-256 encryption, by the length of the key. -/
def aesEnc (key block : List Byte) : List Byte := aesRounds (expandKey key) block

/-- The 24-bit check value of a key: the first 3 bytes of the encryption of a block of zeros (R328). -/
def keyCheck (key : List Byte) : Nat := ofBe ((aesEnc key (List.replicate 16 0#8)).take 3)

/-- Blocks of 16 bytes, the last one filled with zeros. -/
def blocks16 (l : List Byte) : List (List Byte) :=
  (List.range (ceilDiv l.length 16)).map (fun i =>
    let b := slice l (16 * i) 16
    b ++ List.replicate (16 - b.length) 0#8)

/-- One step of multiplication in GF(2¹²⁸) as GCM orders its bits. -/
def ghashStep (zv : BitVec 128 × BitVec 128) (x : BitVec 128) (i : Nat) : BitVec 128 × BitVec 128 :=
  let z := if x.getLsbD (127 - i) then zv.1 ^^^ zv.2 else zv.1
  (z, if zv.2.getLsbD 0 then (zv.2 >>> 1) ^^^ (0xE1#128 <<< 120) else zv.2 >>> 1)

/-- Multiplication in GF(2¹²⁸) as GCM orders its bits. -/
def ghashMul (x h : BitVec 128) : BitVec 128 := ((List.range 128).foldl (fun zv i => ghashStep zv x i) (0#128, h)).1

/-- GHASH over blocks. -/
def ghash (h : BitVec 128) (l : List (List Byte)) : BitVec 128 :=
  l.foldl (fun y b => ghashMul (y ^^^ BitVec.ofNat 128 (ofBe b)) h) 0#128

/-- The counter-mode key stream over text: block 2 onwards of a 96-bit IV. -/
def gcmText (key iv text : List Byte) : List Byte :=
  let rk := expandKey key
  (xorBytes text ((List.range (ceilDiv text.length 16)).map (fun i => aesRounds rk (iv ++ be 4 (i + 2)))).flatten)

/-- The 16-byte GCM tag of additional data and ciphertext. Log entry 4: PRESUMED. -/
def gcmTag (key iv aad ct : List Byte) : List Byte :=
  let rk := expandKey key
  let h := BitVec.ofNat 128 (ofBe (aesRounds rk (List.replicate 16 0#8)))
  let s := ghash h (blocks16 aad ++ blocks16 ct ++ [be 8 (8 * aad.length) ++ be 8 (8 * ct.length)])
  xorBytes (aesRounds rk (iv ++ be 4 1)) (be 16 s.toNat)

/-- Multiplication of an XTS tweak by α: little-endian, with 0x87 folded in. -/
def xtsDouble (t : List Byte) : List Byte :=
  let x := 2 * ofLe t
  let y := le 16 x
  if x / 2 ^ 128 = 0 then y else (at8 y 0 ^^^ 0x87#8) :: y.drop 1

/-- XTS over the whole blocks of a data unit: the data-unit number is a 128-bit little-endian tweak. Log entry 4: PRESUMED. -/
def xts (decrypt : Bool) (key1 key2 : List Byte) (dun : Nat) (unit : List Byte) : List Byte :=
  let rk := expandKey key1
  let t0 := aesEnc key2 (le 16 dun)
  ((blocks16 unit).foldl (fun (a : List Byte × List (List Byte)) b =>
    let x := xorBytes b a.1
    let y := if decrypt then aesRoundsInv rk x else aesRounds rk x
    (xtsDouble a.1, xorBytes y a.1 :: a.2)) (t0, [])).2.reverse.flatten

/-- One step of the RFC 3394 unwrapping: `t` its step number, `i` the register it changes. -/
def unwrapStep (rk : List (List Byte)) (a : List Byte) (r : List (List Byte)) (t i : Nat) : List Byte × List (List Byte) :=
  let b := aesRoundsInv rk (xorBytes a (be 8 t) ++ ((r[i]?).getD []))
  (b.take 8, r.set i (b.drop 8))

/-- RFC 3394 unwrapping with the default initial value: the key, or none where the integrity check fails (R326). Log entry 4: PRESUMED. -/
def unwrapKey (kek wrapped : List Byte) : Option (List Byte) :=
  let n := wrapped.length / 8 - 1
  let rk := expandKey kek
  let r := (List.range n).map (fun i => slice wrapped (8 * (i + 1)) 8)
  let steps := (List.range (6 * n)).reverse
  let z := steps.foldl (fun (x : List Byte × List (List Byte)) j => unwrapStep rk x.1 x.2 (j + 1) (j % n)) (wrapped.take 8, r)
  if z.1 = List.replicate 8 0xA6#8 then some z.2.flatten else none

end Sys2Proof.Machine
end

