-- ==== Sys2Proof/Config.lean ====
section
/-! DEFINITION. What an implementation fixes and the spec leaves open: free values without a body. -/

namespace Sys2Proof.Config

/-- The n-th draw of a value the spec leaves to chance (the epoch of R273, the backoff of R364, the random values of
R324): a free value. Nothing constrains it (log entry 3). Log entry 3: DESIGN CHOICE. -/
opaque free : Nat → BitVec 64

/-- The three strapping pins TW_ADDR2 to TW_ADDR0, sampled at the release of every reset (R413; log entry 6). Log entry 6: DESIGN CHOICE. -/
opaque twStraps : BitVec 3

/-! The signal chain: values of coefficients, and which neighbour of an exact value a stage takes, where the spec gives a width and no
rounding (log entry 119). -/

/-- Whether stage `site` rounds the exact value `num ÷ den` up. Log entry 119: DESIGN CHOICE. -/
opaque roundsUp : Nat → Int → Nat → Bool

/-- The level shown for a power of 0, in units of 1 ÷ `unit` dB (R129, R243). Log entry 119: DESIGN CHOICE. -/
opaque logOfZero : Nat → Int

/-- The 1,536 coefficients of a channeliser's branch filters (Table 6.1). Log entry 119: DESIGN CHOICE. -/
opaque branch : Nat → Int

/-- The taps of the synthesis filter for a group of g bins, in units of 2⁻¹⁷ (R118). Log entry 119: DESIGN CHOICE. -/
opaque synthesis : Nat → Nat → Int

/-- Tap `i` of phase `p` of the resampler, an 18-bit word (Table 6.4). Log entry 119: DESIGN CHOICE. -/
opaque polyphase : Nat → Nat → Int

/-- Tap `i` of phase `f` of the fractional delay, in units of 2⁻¹⁷ (Table 6.4). Log entry 119: DESIGN CHOICE. -/
opaque fraction : Nat → Nat → Int

/-- Where between its neighbours a local maximum lies, in 2⁻¹⁶ of a step (R248). Log entry 119: DESIGN CHOICE. -/
opaque vertex : Nat → Nat → Nat → Int

/-- The external loss in 0.001 dB that the wideband level of an intake record takes, from the 16 entries of R244, which give it by frequency.
Log entry 127: DESIGN CHOICE. -/
opaque widebandLoss : List Nat → Int

/-! Analogue services (08_analogue_services.md, 14_audio_ports.md; log entry 123). -/

/-- The weights of two branches neither of whose envelopes fluctuates, from their powers (R171). Log entry 137: DESIGN CHOICE. -/
opaque flatWeights : Nat → Nat → Nat × Nat

/-- The direction of a complex sum of 0, in units of 2⁻¹⁷ (R171). Log entry 123: DESIGN CHOICE. -/
opaque noDirection : Int × Int

/-- The deviation in Hz that the discriminator shows where a sample or the one before it is 0 (R170). Log entry 123: DESIGN CHOICE. -/
opaque noDeviation : Int

/-- The 19 kHz pilot loop: its state after one MPX sample (R170). Log entry 123: DESIGN CHOICE. -/
opaque pilotLoop : Nat → Int → Nat

/-- The 38 kHz carrier in phase with the pilot, in units of 2⁻¹⁷, at a state of the loop (R170). Log entry 123: DESIGN CHOICE. -/
opaque subcarrier : Nat → Int

/-- The audio filter, 0 for FM at one of its three decimation phases, 1 + BW for AM, over the newest 768 samples (R168, R170).
Log entry 123: DESIGN CHOICE. -/
opaque audioFilter : Nat → Nat → List Int → Int

/-- De-emphasis of 50 µs (1) or 75 µs (2): the output after one with an input (R170). Log entry 123: DESIGN CHOICE. -/
opaque deemphasis : Nat → Int → Int → Int

/-- The carrier loop of synchronous detection: its state after one sample (R168). Log entry 123: DESIGN CHOICE. -/
opaque carrierLoop : Nat → Int → Int → Nat

/-- The frequency in mHz that the carrier loop tracks, at a state of it (R247). Log entry 123: DESIGN CHOICE. -/
opaque loopOffset : Nat → Int

/-- A sample in the carrier's phase: in-phase and quadrature component (R168). Log entry 123: DESIGN CHOICE. -/
opaque derotate : Nat → Int × Int → Int × Int

/-- The sample-rate converter: the audio at an instant in ps of a port at the rate of code `fs`, from blocks of 48 samples with their times
(R308). Log entry 123: DESIGN CHOICE. -/
opaque convert : Nat → Int → List (Int × List Int) → Int

/-- Whether a sync edge comes in at a slave port in a tick (R308, R313). Log entry 90: DESIGN CHOICE. -/
opaque frameSync : Nat → Nat → Bool

/-! Pilot link (16_pilot_link.md; log entry 131). -/

/-- What is left of the driver's error after its correction from a temperature word and the `VRF` level in mV, in 0.01 dB (R354). Log entry 131:
DESIGN CHOICE. -/
opaque driver : Nat → Nat → Int

/-- The power that the clear-channel detector finds on a channel at a rate, |x|² over 8 bit periods, from the bin's samples (R364). Log entry 131:
DESIGN CHOICE. -/
opaque channelPower : Nat → Nat → List (Int × Int) → Nat

/-- The level in 0.001 dBm that the clear-channel check takes where no intake is on and valid (R364). Log entry 131: DESIGN CHOICE. -/
opaque noIntake : Int

/-! Supplies, temperature and JTAG (20_register_map.md, 21_electrical.md). -/

/-- The bits of the JTAG instruction register beside the two that CAPTURE-IR fixes (R460). Log entry 134: PRESUMED. -/
opaque tapWidth : Nat

/-- The JTAG instruction of a code other than all ones: 0 IDCODE, 1 SAMPLE/PRELOAD, 2 EXTEST (R460). Log entry 134: PRESUMED. -/
opaque tapCode : List Bool → Nat

/-- The vendor identity in OTP (R460). Log entry 134: PRESUMED. -/
opaque vendor : BitVec 11

/-- The level of a boundary cell at a time (R460). Log entry 134: PRESUMED. -/
opaque pinLevel : Nat → Nat → Bool

end Sys2Proof.Config
end

