-- ==== Sys2Proof/Machine/Tbl.lean ====
section
/-! DEFINITION. Sparse tables keyed by a number, in one canonical form: keys strictly rising, and no entry equal to what
an unlisted key reads as. Registers and the per-unit state are held in them. -/

namespace Sys2Proof.Machine

/-- A sparse table: what it lists. What an unlisted key reads as is given to `get` and `set` as `d`. -/
abbrev Tbl (α : Type) := List (Nat × α)

/-- The value at a key: the listed one, else `d k`. -/
def Tbl.get {α : Type} (d : Nat → α) : Tbl α → Nat → α
  | [], k => d k
  | (j, v) :: t, k => if j = k then v else Tbl.get d t k

/-- Puts an entry before the first larger key. -/
def Tbl.insert {α : Type} (k : Nat) (v : α) : Tbl α → Tbl α
  | [] => [(k, v)]
  | (j, w) :: t => if k < j then (k, v) :: (j, w) :: t else (j, w) :: Tbl.insert k v t

/-- Takes a key out. -/
def Tbl.erase {α : Type} (k : Nat) (t : Tbl α) : Tbl α := t.filter (fun e => e.1 != k)

/-- Writes a key; writing what an unlisted key reads as takes the entry out. -/
def Tbl.set {α : Type} [DecidableEq α] (d : Nat → α) (t : Tbl α) (k : Nat) (v : α) : Tbl α :=
  if v = d k then Tbl.erase k t else Tbl.insert k v (Tbl.erase k t)

/-- The listed entry of a key. -/
def Tbl.entry {α : Type} (t : Tbl α) (k : Nat) : Option α := (t.find? (·.1 == k)).map (·.2)

/-- Gives a key a listed entry, or none. -/
def Tbl.give {α : Type} (t : Tbl α) (k : Nat) : Option α → Tbl α
  | some v => Tbl.insert k v (Tbl.erase k t)
  | none => Tbl.erase k t

/-- The canonical form. -/
def Tbl.wf {α : Type} [DecidableEq α] (d : Nat → α) (t : Tbl α) : Bool :=
  decide (t.Pairwise (fun a b => a.1 < b.1)) && t.all (fun e => decide (e.2 ≠ d e.1))

/-- The keys of a table. -/
def Tbl.keys {α : Type} (t : Tbl α) : List Nat := t.map (·.1)

end Sys2Proof.Machine
end

