-- ==== Sys2Proof/Machine/State.lean ====
section
/-! DEFINITION. The state of the block: the registers as fields of the spec's tables, and the state inside each of its
blocks, as plain data. -/

namespace Sys2Proof.Machine

/-- Why the machine stops. No command of the table stops it: a fault of a unit is an event with an effect (Table 18.5),
so no meaning raises one and the type is empty (safe). -/
inductive Fault where
  deriving DecidableEq, Repr

/-- Why a command has no meaning. -/
inductive Refusal where
  /-- Raised by an arm of `exec` whose command has no meaning yet (safe: it stops). -/
  | notModelled (mnemonic : String)
  deriving DecidableEq, Repr

/-- The six operating modes (Table 2.1). -/
inductive Mode where
  | wind | regulate | run | survey | drift | anchor
  deriving DecidableEq, Repr

/-- A field of a register: the address of its (lowest) word, its lowest bit there, and its width. A wide value (R7)
is one field with bit 0 of its lowest word as its lowest bit. -/
structure Fld where
  addr : Nat
  lo : Nat
  width : Nat
  deriving DecidableEq, Repr

/-- Words of a wide value that have been written and wait for the highest one (R8). -/
structure Stage where
  base : Nat
  words : List (Nat × Nat)
  deriving DecidableEq, Repr

/-- A LIVE change that waits (R59, R60): the COMMIT register of its owning block, the field, the value, and whether it is
armed or still collects in an open group. -/
structure Shadow where
  commit : Nat
  fld : Fld
  val : Nat
  armed : Bool
  deriving DecidableEq, Repr

/-- An entry of the change journal (Table 3.17). -/
structure JEntry where
  ts : Nat
  address : Nat
  old : Nat
  new : Nat
  source : Nat
  result : Nat
  detail : Nat
  number : Nat
  epoch : Nat
  deriving DecidableEq, Repr

/-- An entry of the error journal (Table 18.9). -/
structure EEntry where
  ts : Nat
  detector : Nat
  unitType : Nat
  index : Nat
  outcome : Nat
  attempt : Nat
  injected : Bool
  urgent : Bool
  d0 : Nat
  d1 : Nat
  d2 : Nat
  d3 : Nat
  number : Nat
  epoch : Nat
  deriving DecidableEq, Repr

/-- A reset under way (R31, R44, R45): the cause and detail of Table 2.9, the rank of R31, the mode left, whether a command word brought
it, and whether its shutdown steps have ended, so that WIND is awaited (R446). -/
structure Boot where
  cause : Nat
  detail : Nat
  rank : Nat
  old : Nat
  cmd : Bool
  ended : Bool
  deriving DecidableEq, Repr

/-- An instruction that the flash reader has issued (R46, R47): its code, the address, the dummy and mode clocks, and whether data comes on
four lines. -/
structure FlashRead where
  code : Nat
  addr : Nat
  dummy : Nat
  quad : Bool
  deriving DecidableEq, Repr

/-- WIND (R46, R47, R54, R55): when it began (`State.clock`), whether the flash allows 1-1-4 reads and with how many dummy and mode clocks,
the two headers, the copies still to be read, the newer first, and the instructions that the reader has issued, the last one first. -/
structure Wind where
  since : Nat
  quad : Bool
  clocks : Nat
  headers : List (List Byte)
  todo : List Nat
  reads : List FlashRead
  deriving DecidableEq, Repr

/-- A step of a pair's work: a movement searches and locks, or the loads move to it after a trim (R76, R78). -/
inductive Job where
  | lock (m : Nat)
  | move (m : Nat)
  deriving DecidableEq, Repr

/-- A movement beyond its registers (R69, R79): lock windows in tolerance in a row, out of tolerance in a row, lock bounds missed, and
the audio family of its N. -/
structure Mov where
  good : Nat
  bad : Nat
  missed : Nat
  fam : Nat
  deriving DecidableEq, Repr

/-- A pair (R78, R79, R81): the steps still to do, the first of them under way; the reference and the audio family that they bring. -/
structure Pair where
  todo : List Job
  tcxo : Bool
  fam : Nat
  deriving DecidableEq, Repr

/-- The KEEP reference counters (R66, R36): for each input whether it was there in the last window, the windows in tolerance in a row
(at most 10), for `REFIN` the windows out of ±20 ppm in a row, and whether `REFIN` was lost and has not qualified again. -/
structure RefCount where
  lost : Bool
  refin : Bool
  refinGood : Nat
  refinBad : Nat
  tcxo : Bool
  tcxoGood : Nat
  deriving DecidableEq, Repr

/-- An intake beyond its registers: valid blocks still missing of the 12 of R110; AGC windows below T − 3 dB in a row (R92), and the
gain state that the next block brings (R91); the time of the last gain change, and of the last raise or attack (R92, R101);
the bin of the injection in progress (R101); captures of the sweep done, whether the present one is a repeat, and whether the last
REGULATE skipped this intake (R34, R99, R100, R438). -/
structure Intake where
  missing : Nat
  low : Nat
  next : Option Nat
  gainAt : Nat
  raiseAt : Nat
  bin : Nat
  captures : Nat
  again : Bool
  skipped : Bool
  deriving DecidableEq, Repr

/-- A complex sample of 16-bit I and Q with its marks (`Machine/Dsp.lean`): settling, erased, and what its detectors leave out. -/
structure Smp where
  re : Int
  im : Int
  marks : Nat
  deriving DecidableEq, Repr

/-- An ADC block in the intake-to-channeliser FIFO (R16, R20, R91, R96, R110): its 256 samples, when it was complete (the counter, in ns), the
gain state, whether that changed at it, whether it is valid, whether it lies in a pilot window, whether it stands for a refused block, and
the correction of R82 in force, in 0.01 ppb. -/
structure AdcBlk where
  samples : List Int
  time : Nat
  state : Nat
  changed : Bool
  valid : Bool
  pilot : Bool
  zero : Bool
  /-- An injected event made it zeros, or its branch invalid (R407). -/
  injected : Bool
  off : Int
  /-- The external losses in 0.001 dB, none while PLANE is 0, and the external delay in ps, when the block was taken (R260). -/
  loss : List Nat
  late : Nat
  deriving DecidableEq, Repr

/-- A channeliser (Table 6.1): the number of the next block, the three integrators and the three combs' delay lines (modulo 2⁴¹), the comb
results still in the branch filters, which of the last 12 blocks were zeros in place of a refused one, and which an injected event changed, the
FIFO before it (oldest first), and the 256 bin samples of the last block. -/
structure Chan where
  block : Nat
  i1 : Nat
  i2 : Nat
  i3 : Nat
  d1 : List Nat
  d2 : List Nat
  d3 : List Nat
  hist : List Int
  zeros : List Bool
  faked : List Bool
  fifo : List AdcBlk
  bins : List Smp
  deriving DecidableEq, Repr

/-- The chain of one branch of a lane (Table 6.4), histories newest first: bin samples of the stitch; composite samples so far; the phase of
the NCO in 1 ÷ (g × 2²⁴) of a cycle, and of its correction in mHz; the FIR's and the resampler's inputs; FIR outputs so far; the instant of
the next resampled sample, whole and in 1 ÷ (L × 10¹²); the delay line; the index of the next output sample, that of the chain's
first one; whether the next output sample is an erasure; the block that it took last, as the counter in ns plus 1 (0 none), with the index
before that; the FREQ that its NCO works with, none before its first composite sample (R119); and the marks of the FIR outputs since its last
output sample (R130); and the last output value that is no erasure (R154). -/
structure Chain where
  stitch : List (List Smp)
  comps : Nat
  phase : Nat
  trim : Nat
  fir : List Smp
  firs : Nat
  rs : List Smp
  whole : Nat
  frac : Nat
  line : List Smp
  index : Nat
  born : Nat
  erase : Bool
  lastAt : Nat
  was : Nat
  freq : Option Int
  pend : Nat
  good : Int × Int
  deriving DecidableEq, Repr

/-- A detector window (R129, R130): samples, those ignored, the largest and the sum of |x|², the envelope, and its extremes. -/
structure Det where
  count : Nat
  ignored : Nat
  peak : Nat
  sum : Nat
  env : Int
  envMax : Int
  envMin : Int
  deriving DecidableEq, Repr

/-- A lane output sample in a berth's input (R131, R160): its index, value and marks, its stamp (ps of the counter), and when it arrived
(`State.clock`). -/
structure BSmp where
  index : Nat
  re : Int
  im : Int
  marks : Nat
  stamp : Int
  time : Nat
  deriving DecidableEq, Repr

/-- What a physical lane does (R138 to R143): carries a berth, is an idle spare, sounds for a home berth, patrols a berth's lane,
takes a berth over, runs its self-test, or is retired. -/
inductive LaneRole where
  | carries (n : Nat)
  | spare
  | sounds (n : Nat)
  | patrols (n : Nat)
  | takes (n : Nat)
  | testing
  | retired
  deriving DecidableEq, Repr

/-- The loads of a berth in CLU (R155, Table 7.7). -/
structure Load where
  fft : Nat
  trellis : Nat
  ldpc : Nat
  block : Nat
  narrow : Nat
  deriving DecidableEq, Repr

/-- A consignment, or a bond request, that found no credit and waits at the hold entrance (R263, R409). -/
structure Wait where
  request : Bool
  content : Nat
  flags : Nat
  ts : Nat
  payload : List Byte
  urgent : Bool
  deriving DecidableEq, Repr

/-- RDS reception of an FM berth (R175 to R180): the position of the next block and how many have come in order; whether each of the
last 50 blocks failed; the group in progress, whether it still decodes, its blocks (bits corrected, information), whether its third block
is C′, the time of block A, and the time before which no group may begin (R189); whether it decided the alarm; the last two PIs (PI, without
correction), whether a group without a PI came after them, and whether this group has shown one; the PI learned; for PTY 31 and PTY 30 whether
the last group carried it and how many good groups since did not; the AF list that arrives (codes expected, codes), the last complete ones and
those in force, by the tuned frequency of method B (0: method A). -/
structure Rds where
  pos : Nat
  run : Nat
  hist : List Bool
  ok : Bool
  blocks : List (Nat × Nat)
  cPrime : Bool
  ts : Nat
  since : Nat
  urgent : Bool
  pis : List (Nat × Bool)
  gap : Bool
  shown : Bool
  learned : Option Nat
  on31 : Bool
  off31 : Nat
  test : Bool
  on30 : Bool
  off30 : Nat
  afRx : Option (Nat × List Nat)
  afLast : List (Nat × List Nat)
  afList : List (Nat × List Nat)
  deriving DecidableEq, Repr

/-- A fade of a home berth (R184 to R191, R215 to R220): started by command; its candidate in Hz; windows of DWELL passed, or
identifiers matched in VERIFY; the identifiers the partner showed last that differ; whether DWELL is waived; how many samples of the ramp have
run, and whether it returns (R188, R190); for a DAB or DRM swap when ALIGN began, whether the swap is
seamless, the lead Δ, the swap point c as a CIF count and as a time at the home's ANT pins, all times in ns, whether the partner has drained, and
the new decoder's units that wait for that (content, flags, timestamp, payload). -/
structure Fade where
  cmd : Bool
  cand : Nat
  count : Nat
  differs : Nat
  waived : Bool
  ramp : Nat
  back : Bool
  alignNs : Nat
  seamless : Bool
  lead : Int
  point : Nat
  pointNs : Nat
  drained : Bool
  units : List (Nat × Nat × Nat × List Byte)
  deriving DecidableEq, Repr

/-- Following of a home berth: since when (`State.clock`) its sync has been lost; its soundings (Hz, level in 0.001 dBm, `State.clock`);
the candidates banned; its fade; the switch counter and CUT (R219); and the swap point in ns of the last cut, before which no unit of the new
decoder begins, 0 none. -/
structure Follow where
  lostAt : Nat
  heard : List (Nat × Int × Nat)
  bans : List Nat
  fade : Option Fade
  switch : Nat
  cut : Bool
  since : Nat
  deriving DecidableEq, Repr

/-- A subchannel organisation (FIG 0/1). -/
structure Org where
  subch : Nat
  start : Nat
  size : Nat
  protection : Nat
  deriving DecidableEq, Repr

/-- Superframe state of a DAB+ subchannel (R203): whether sync holds; CIFs since the last superframe end; superframes in a row whose fire
code failed; whether a fire code has held; and the counts and times of the last four CIFs. -/
structure SuperSt where
  subch : Nat
  sync : Bool
  age : Nat
  bad : Nat
  seen : Bool
  past : List (Nat × Nat)
  deriving DecidableEq, Repr

/-- A data group in reassembly (R204): subchannel and packet address, the continuity index expected, its bytes, the count and time of
its first CIF, corrected bytes, and whether it is void. -/
structure Group where
  subch : Nat
  addr : Nat
  next : Nat
  bytes : List Byte
  cif : Nat
  ts : Nat
  fixed : Nat
  void : Bool
  deriving DecidableEq, Repr

/-- A received entry of frequencies or ensembles: what tells it apart, the reception before, and the one in force, each as the identifiers it is
for and its list (R213). -/
structure Heard where
  key : Nat
  before : List Nat × List Nat
  list : List Nat × List Nat
  deriving DecidableEq, Repr

/-- The decoder of a DAB berth (R196 to R204). -/
structure Dab where
  /-- PRS found in a row, by mode; the mode in force; PRS missed in a row; frames in a row with a good FIB. -/
  found : List (Nat × Nat)
  mode : Nat
  missed : Nat
  fibRun : Nat
  /-- The EIds of the last two FIG 0/0, that of this frame, that of the frame before, the EId learned, and FIG 0/19 in a row with the Alarm
  bit at 0. -/
  eids : List Nat
  eidNow : Option Nat
  eidPrev : Option Nat
  learned : Option Nat
  alarmOff : Nat
  /-- The organisation and services in force, and those signalled as next. -/
  org : List Org
  nextOrg : List Org
  audio : List (Nat × Option Nat)
  nextAudio : List (Nat × Option Nat)
  sids : List Nat
  packets : List (Nat × Nat × Bool)
  fec : List (Nat × Nat)
  /-- The occurrence change of a signalled change, the CIF count of the last frame, when that frame began, and the reconfiguration counter. -/
  occurrence : Option Nat
  cif : Nat
  start : Option Nat
  config : Nat
  /-- The organisations and audio of CIFs that may still lie in the deinterleaver, each with the CIF at which it ended, oldest first. -/
  was : List (Nat × List Org × List (Nat × Option Nat))
  supers : List SuperSt
  groups : List Group
  /-- FIG 0/21 by region and EId, and FIG 0/24 by SId. -/
  freqs : List Heard
  others : List Heard
  deriving DecidableEq, Repr

/-- The decoder of a DRM berth (R207 to R210): FACs in a row that pass with the same mode and occupancy, and those; identifiers of short
ID 0 of the last two FACs, the one learned; the identifiers of this super frame and of the one before; super frames in a row without the
reference, and in a row in which it appeared; the reconfiguration counter; the SDC's frequency entries by service; the time of the last
super frame; and the MSC bytes of the last frames with their times, newest first: the alignment buffer (R194, R218). -/
structure Drm where
  run : Nat
  seen : Nat × Nat
  idents : List Nat
  learned : Option Nat
  ids : List Nat × List Nat
  absent : Nat
  present : Nat
  config : Nat
  freqs : List Heard
  superAt : Option Nat
  msc : List (Nat × List Byte)
  deriving DecidableEq, Repr

/-- A datagram in reassembly (R237): reference, version, last_section_number, the sections received, and the time of the first. -/
structure Reasm where
  ref : Nat
  version : Nat
  last : Nat
  parts : List (Nat × List Byte)
  ts : Nat
  deriving DecidableEq, Repr

/-- The sections of a PID as its packets come (R237): PID and PLP, the continuity counter last seen, and the bytes of the section in progress. -/
structure Sect where
  src : Nat
  cc : Option Nat
  bytes : Option (List Byte)
  deriving DecidableEq, Repr

/-- The decoder of a DVB-T or DVB-T2 berth (R224 to R238). -/
structure Dvb where
  /-- Frames found in a row with the same fields, those fields, frames missed in a row, frames in a row whose L1 or TPS passed. -/
  found : Nat
  fields : Nat
  missed : Nat
  good : Nat
  /-- The PLPs of L1-post in force, the L1-pre in force, and the bits of the L1 signalling or the TPS held (R224, Table 10.2). -/
  plps : List Plp
  l1 : L1Pre
  bits : List Bool
  /-- The FEF part that is skipped: from and until which time in ns (R226). -/
  fef : Option (Nat × Nat)
  /-- How far the cranes' order has come since the berth began: the ticket of 0 none, 1 the first class, 2 the second (R227). -/
  stage : Nat
  /-- PLPs that are decoded, and those that left the selection: from and until which interleaving frame, by its time (R228). -/
  act : List (Nat × Nat)
  left : List (Nat × Nat × Nat)
  /-- PLPs whose next consignment carries GAP (R233). -/
  gaps : List Nat
  /-- The L1 or TPS change counter (R230). -/
  config : Nat
  /-- PLPs last found not decoded, with why (R229). -/
  refused : List (Nat × Nat)
  /-- Frames in a row in which the EWS flag read 0 (R236). -/
  ewsOff : Nat
  /-- DVB-T: the parameters in force and those seen last (R225). -/
  params : Nat
  paramsSeen : Nat
  /-- The section on DG_PID in progress, and the reassemblies. -/
  sect : Sect
  reasm : List Reasm
  /-- Envelopes completed: reference, version, `State.clock` (R238). -/
  past : List (Nat × Nat × Nat)
  deriving DecidableEq, Repr

/-- A block of 48 PCM samples of an AM or FM berth (R173): the index of its first lane sample, when that arrived (`State.clock`), the ANT-pin
time of its signal in ps, L and R, whether it is silence for input that settles, and the MPX of an FM block. -/
structure Pcm where
  first : Nat
  time : Nat
  stamp : Int
  left : List Int
  right : List Int
  silent : Bool
  mpx : List Int
  deriving DecidableEq, Repr

/-- The FM measurements in progress (Table 8.1): blocks of the second, largest |MPX|, the sums of the 19 kHz and the 57 kHz components, the
sum of MPX² of this second and of the seconds before; blocks of the 100 ms, and over them samples, the sums of |x| and |x|², and, for each
level offset of R243, samples and their |x|². -/
structure Meter where
  blocks : Nat
  peak : Nat
  pilot : Int × Int
  rds : Int × Int
  square : Nat
  seconds : List Nat
  short : Nat
  count : Nat
  mags : Nat
  squares : Nat
  parts : List (Int × Nat × Nat)
  deriving DecidableEq, Repr

/-- The demodulator of an AM or FM berth (R168 to R173): the index of the next lane sample, and the combined sample before it; histories,
newest first, of MPX or of |x|, and of the difference signal or of the in-phase component; for how many samples more the audio stands on
samples that settle; the loop's state (carrier or 19 kHz pilot) and the de-emphasis of both channels; of the blocks of the last second the sums of
|x| and of the in-phase component; of those of the last 100 ms in-phase and quadrature power; of the envelope since the last depth update the
sum, the count, the largest and the least; for how many blocks, 100 at most, the pilot deviation has stood at 3.4 kHz or above, and below
2.0 kHz; and the FM measurements. -/
structure Aud where
  next : Nat
  prev : Int × Int
  det : List Int
  diff : List Int
  settle : Nat
  loop : Nat
  emph : Int × Int
  means : List (Nat × Int)
  powers : List (Nat × Nat)
  depth : Int × Nat × Int × Int
  above : Nat
  below : Nat
  meter : Meter
  deriving DecidableEq, Repr

/-- A reception in progress at a pilot-link receive berth (R370, R371): its bit timing in 1/64 bit period; its frequency estimate in 10 Hz, frozen
at the SFD; its level at the declaration, then at the SFD, in 0.001 dBm; the branches valid; the time of the first SFD bit; the listen window
that held the SFD; the PHR; its LQI; and its level over SFD and PHR in 0.1 dBm. -/
structure Rx where
  timing : Nat
  freq : Int
  level : Int
  branches : Nat
  ts : Nat
  listen : Nat
  phr : Nat
  lqi : Nat
  power : Int
  deriving DecidableEq, Repr

/-- The context of a berth (R160): what its decoders hold, where it is not what they hold at a start, the sync and status that its service
words show, and its outputs that wait for credit (R263). -/
structure Ctx where
  rds : Option Rds
  dab : Option Dab
  drm : Option Drm
  dvb : Option Dvb
  aud : Option Aud
  rx : Option Rx
  sync : List Nat
  out : List Wait
  deriving DecidableEq, Repr

/-- A mark (R160): the next sequence number, the input position (the index of the first sample not consumed), the generation stamp, the
berth context, and the ticket's progress: the beats it has had. -/
structure Mark where
  seq : Nat
  progress : Nat
  gen : Nat
  ctx : Ctx
  beats : Nat
  deriving DecidableEq, Repr

/-- A berth beyond its registers: the loads it holds in `ENG_LOAD`, its partner's in FOLLOW included (R155, R183); its two mark buffers, the
one committed last and the one before (R160); whether its ticket is parked (R263), promoted for its next beat end (R382), a replay,
and when it became ready; whether the ticket's work is done and only its outputs wait (R150); whether the berth is being shed (R163), or
was stopped by SURVEY (R38); whether it was told to run in SURVEY and waits for its end (R58); and whether it holds its area of STORE (R223). -/
structure Berth where
  held : Option Load
  mark : Mark
  markOld : Mark
  parked : Bool
  promoted : Bool
  replay : Bool
  readyAt : Nat
  finished : Bool
  shedding : Bool
  survey : Bool
  told : Bool
  area : Bool
  deriving DecidableEq, Repr

/-- A result of a record (Table 11.7). -/
structure RecEntry where
  qty : Nat
  index : Nat
  value : Int
  deriving DecidableEq, Repr

/-- Level sums of a record window (R243, R245): the branch, what refers a power to the plane and what refers it to the ADC, in 0.001 dB, the
samples counted, the sum and the largest of |x|². -/
structure Level where
  branch : Nat
  offset : Int
  atAdc : Int
  count : Nat
  sum : Nat
  peak : Nat
  deriving DecidableEq, Repr

/-- A record window (R255, R258): its start, the precision bits so far (Table 11.5), the level sums, and counts and results of other quantities
by 256 × QTY + INDEX; the frequency that the NCO brings to 0 Hz and the residual, each as a sum in mHz and its count (R247); the sums of |ẑ|² and
|z − ẑ|² over its cells, by signal (R246); the impulse response's power, its span in ps, and B_occ in Hz (R248); the start of its first frame in
ps (R249). STANDARD and `MSR_ECHO` in force, the end of its grid interval in ns of the counter, and the time in DRIFT by its last moment there
(R253). Once it has ended, its end, the CONFIG and switch counters there, |`TB_PPS_ERROR`| and `LN_GD_RESIDUAL` there (Table 11.5), and the
entries of the AF candidates (R257). -/
structure Win where
  start : Nat
  bits : Nat
  levels : List Level
  vals : List (Nat × Int)
  tuned : Int × Nat
  res : Int × Nat
  mer : List (Nat × Nat × Nat)
  echo : List Nat
  span : Nat
  occupied : Nat
  first : Option Int
  std : Nat
  cfg : Nat
  due : Nat
  drift : Nat
  stop : Nat
  config : Nat
  switch : Nat
  pps : Nat
  gd : Nat
  found : List RecEntry
  deriving DecidableEq, Repr

/-- What custody keeps of an item beside its first copy (R275): the descriptor's length and CRC-32 of the content, and the second copy. -/
structure Copy where
  len : Nat
  crc : Nat
  data : List Byte
  deriving DecidableEq, Repr

/-- A consignment in custody (R275): the header fields fixed at its acceptance (R284), its payload, the hold whose blocks
it occupies, its route, whether it left, or will leave, as a resend, and its second copy and descriptor. -/
structure Item where
  prod : Nat
  seq : Nat
  content : Nat
  flags : Nat
  epoch : Nat
  ts : Nat
  payload : List Byte
  hold : Nat
  quay : Nat
  /-- Its blocks come from the urgent reserve (R265). -/
  reserve : Bool
  /-- Its next sending carries REPLAY-CHECKED (R274). -/
  replay : Bool
  /-- The capture channel that takes it in place of the quay (R342). -/
  capture : Option Nat
  copy : Copy
  deriving DecidableEq, Repr

/-- A producer of Table 12.4: the number it gives next, the newest released, and the deduplication state of R162: the highest
number accepted and the last eight CRCs. -/
structure Producer where
  next : Nat
  released : Nat
  highest : Option Nat
  crcs : List (Nat × Nat)
  deriving DecidableEq, Repr

/-- Lading statistics of a producer and content (R443). -/
structure Stat where
  frames : Nat
  bytes : Nat
  lastSeq : Nat
  lastTime : Nat
  resends : Nat
  deriving DecidableEq, Repr

/-- A column of a port (Table 13.1): SOF, idle, EOF, or the bytes of its lanes, with K23.7 where there is none. -/
inductive Column where
  | sof | idle | eof
  | data (lanes : List (Option Byte))
  deriving DecidableEq, Repr

/-- A quay beyond its registers: the consignment on the serialiser (producer, sequence) and the columns of its frame (R281); the running disparity of
each lane where that frame, or the idle columns under way, begin (true: positive, R280); since when (`State.clock`) it sends idle columns, and whether
it has sent no frame since its start; and how many nanoseconds of the second that runs it has sent frames and was held off (R292). -/
structure Quay where
  sending : Option (Nat × Nat)
  line : List Column
  disparity : List Bool
  idleAt : Nat
  fresh : Bool
  busyNs : Nat
  heldNs : Nat
  deriving DecidableEq, Repr

/-- The landing frame that arrives (R296, R297): its frame bytes, those refused included; the words it put into the FIFO; whether a
byte of it was refused, and whether a code error fell inside it. -/
structure LandRx where
  bytes : List Byte
  words : Nat
  refused : Bool
  code : Bool
  /-- SOF has come: a frame is in progress. -/
  opened : Bool
  /-- K23.7 has come: the column before EOF. -/
  filled : Bool
  /-- A column stands where the frame allows none. -/
  misplaced : Bool
  /-- The running disparity of each lane (true: positive, R280). -/
  disparity : List Bool
  deriving DecidableEq, Repr

/-- An accepted landing frame in the FIFO (R297, R299): its number as producer 0x63, its bytes, its words, those already popped, and its second copy
and descriptor (R275). -/
structure LFrame where
  seq : Nat
  bytes : List Byte
  words : Nat
  taken : Nat
  copy : Copy
  deriving DecidableEq, Repr

/-- A host channel (R298, R299): the epoch and the highest sequence number accepted; and the item whose CONT run is open: its content,
the bond request or transmit request that it feeds, and the epoch and sequence number of its last frame. -/
structure LandChan where
  epoch : Nat
  seq : Nat
  item : Option (Nat × Nat × Nat × Nat)
  deriving DecidableEq, Repr

/-- A frame as the converter of a port has computed it: its number and the 24-bit samples of its slots (R305, R309). -/
structure AFrame where
  number : Nat
  words : List Int
  deriving DecidableEq, Repr

/-- A fade or ramp of one slot: its first frame, whether it rises, and the step where it begins (R311). -/
structure SlotMove where
  slot : Nat
  frame : Nat
  up : Bool
  step : Nat
  deriving DecidableEq, Repr

/-- An audio port (R308 to R316): its start instant; when it began (`State.clock`); its rate code; whether it stops after its fade, is silent for
SURVEY, and lacks its converter since an underrun; the instant of frame 0, and of the sync edge of the frame at the pin, in ns of the counter; that
frame's number; the frame at which the fade or ramp under way began, and its step there; the first frame that the converter computes after it ran
again, 0 none, and the one that it computes next; the drain FIFO and the guard line, oldest first, and the frame sent before the one at the pin; the
fades and ramps of its slots; and the slots, bit by bit, whose last frame had audio. -/
structure Port where
  startAt : Option Nat
  began : Nat
  fs : Nat
  stop : Bool
  survey : Bool
  dry : Bool
  zero : Nat
  edge : Nat
  frames : Nat
  moveAt : Nat
  moveFrom : Nat
  fresh : Nat
  next : Nat
  fifo : List AFrame
  guard : List AFrame
  sent : Option AFrame
  moves : List SlotMove
  heard : Nat
  deriving DecidableEq, Repr

/-- The CTR_DRBG of the bond engine (R324): its key and counter block V, and the generate calls since its seed. -/
structure Drbg where
  key : List Byte
  v : List Byte
  calls : Nat
  deriving DecidableEq, Repr

/-- A bond slot (R325, R347): its key, usage and generation; the mask as long as the key, under which its shares are held (R323); and a
rewrite that waits, with whether it came from the image. -/
structure Slot where
  key : Option (List Byte)
  usage : Nat
  gen : Nat
  mask : List Byte
  pending : Option (List Byte × Nat × Bool)
  deriving DecidableEq, Repr

/-- A bond request (Table 15.2). -/
structure BReq where
  id : Nat
  src : Nat
  srcSeq : Nat
  /-- Table 15.1: 1 GCM decrypt, 2 XTS encrypt, 3 XTS decrypt. -/
  mode : Nat
  slot : Nat
  /-- The generations bound: of the slot, and of the odd slot above it for XTS. -/
  gen : Nat
  gen2 : Nat
  urgent : Bool
  ts : Nat
  /-- What has been staged: the envelope, or the parts of a landing item, frame by frame. -/
  frames : List (List Byte)
  /-- The whole item is staged. -/
  complete : Bool
  /-- Its landing item broke (R299). -/
  broken : Bool
  /-- Bytes processed, and output consignments already accepted (PROGRESS). -/
  progress : Nat
  outs : Nat
  /-- It made the IN_FLIGHT entry of the IV table. -/
  owns : Bool
  /-- It has ended: its outputs wait for credit, or its relay does (R276, R340). -/
  ended : Bool
  channel : Nat
  dun : Nat
  /-- Berth consignments released with it (R344). -/
  fed : List (Nat × Nat)
  /-- The landing frames that it holds before it is accepted, and that are released with its acceptance (R276, R299, R330). -/
  landed : List Nat
  copy : Copy
  deriving DecidableEq, Repr

/-- An entry of the IV table (R341): state 0 IN_FLIGHT, 1 ACCEPTED, 2 REJECTED. -/
structure IvEntry where
  slot : Nat
  gen : Nat
  iv : List Byte
  state : Nat
  time : Nat
  deriving DecidableEq, Repr

/-- A capture channel (R343): the bytes of its stream not yet cut into units; where consignments end (producer, sequence, position)
and begin (position, timestamp, sequence) among them; and the last one begun before them. -/
structure Cap where
  buf : List Byte
  owed : List (Nat × Nat × Nat)
  begins : List (Nat × Nat × Nat)
  cur : Nat × Nat
  /-- How many bytes at the front belong to a unit that was closed early and waits for credit; 0 none. -/
  closed : Nat
  deriving DecidableEq, Repr

/-- Where the request at the head of the pilot schedule stands (R363, Table 16.2). -/
inductive TxStage where
  | idle | lockWait | listenWait | rxWait | budgetWait | cca | backoff | started | window | turnround
  deriving DecidableEq, Repr

/-- A transmit request (R360): its number as producer 0x64; its source and the number of the work it carries; what it asks of the
frame; the payloads not yet sent; the frames sent; and what it has waited and tried (R358, R364). -/
structure TxReq where
  seq : Nat
  source : Nat
  srcSeq : Nat
  urgent : Bool
  malformed : Bool
  channel : Nat
  rate : Nat
  power : Nat
  preamble : Nat
  whiten : Bool
  listenMs : Nat
  hold : Nat
  payloads : List (List Byte)
  sent : Nat
  charged : Bool
  attempts : Nat
  disturbed : Bool
  /-- The periodic entry it comes from (R362). -/
  entry : Option Nat
  /-- The landing frames of a malformed item, which are released with it (R360). -/
  landed : List Nat
  copy : Copy
  deriving DecidableEq, Repr

/-- A periodic entry of the image's pilot schedule (Table 3.9). -/
structure Periodic where
  period : Nat
  offset : Nat
  channel : Nat
  listenMs : Nat
  payload : List Byte
  deriving DecidableEq, Repr

/-- A relayed stream that waits for credit of the pilot schedule (R340): the GCM request's source and number, its urgency, the IV
tail, whether it may be split, and the stream. -/
structure Relay where
  source : Nat
  srcSeq : Nat
  urgent : Bool
  ivTail : List Byte
  fragment : Bool
  stream : List Byte
  deriving DecidableEq, Repr

/-- An active alert source (R378, R379): kind 1 to 4, 0x10 mode or 0x20 test; its source (berth, 0xFE the landing port, the
CAUSE of a mode source); whether its state is on; its hold in ms (0 until cleared), and whether that still runs. -/
structure Alert where
  kind : Nat
  src : Nat
  stateOn : Bool
  hold : Nat
  running : Bool
  deriving DecidableEq, Repr

/-- Protection state of a unit of Table 18.9 (R398, R399): the detector and the INJECTED mark of the self-test that runs, its
failed runs, when the TRANSIENT events of the last 60 s were (in `State.clock`), and whether the unit is retired. -/
structure UnitRec where
  testing : Bool
  detector : Nat
  injected : Bool
  runs : Nat
  past : List Nat
  retired : Bool
  deriving DecidableEq, Repr

/-- An armed injection (R405, R406): what was written when it was armed, and the firings left. -/
structure Inj where
  code : Nat
  ty : Nat
  index : Nat
  addr : Nat
  bits : Nat
  persist : Bool
  left : Nat
  deriving DecidableEq, Repr

/-- The two-wire port (R416 to R429): whether a transaction is open on the bus, whether it addresses this port, whether the bus is ignored until
the next STOP (Table 19.1), whether words are read, the pointer, whether a pulse of attention is on the line, and the word that the last read
sampled (R420). -/
structure TwoWire where
  opened : Bool
  mine : Bool
  ignore : Bool
  reading : Bool
  pointer : Nat
  pulse : Bool
  word : Nat
  deriving DecidableEq, Repr

/-- A switched domain (R402, R403, R438): the step of its restart that runs (0 none), whether it restarts as a dependant, whether an
injected firing caused it, the times of its faults in the last 60 s (`State.clock`), and the state that a commanded switch brings. -/
structure Dom where
  step : Nat
  dependant : Bool
  injected : Bool
  faults : List Nat
  goal : Option Nat
  deriving DecidableEq, Repr


/-- States of the TAP controller (R460). -/
inductive TapState where
  | reset | idle | selectDr | captureDr | shiftDr | exit1Dr | pauseDr | exit2Dr | updateDr
  | selectIr | captureIr | shiftIr | exit1Ir | pauseIr | exit2Ir | updateIr
  deriving DecidableEq, Repr

/-- The instructions of the TAP (R460). -/
inductive TapInstr where
  | bypass | idcode | sample | extest
  deriving DecidableEq, Repr

/-- The JTAG port (R460): controller, instruction in force, the selected shift register, bit 0 first, and the levels that the boundary-scan
register last took at UPDATE-DR. -/
structure Tap where
  state : TapState
  instr : TapInstr
  shift : List Bool
  drive : List Bool
  deriving DecidableEq, Repr

set_option maxRecDepth 4000

/-- The state of the block. Fields whose docstring begins "Model:" are the model's own and not the spec's. -/
structure State where
  /-- The commands that wait, first in first out. -/
  pending : List Instr
  /-- The registers, a value per field, at the storage address `phys` gives (R432). -/
  regs : Tbl Nat
  /-- Written words of a wide value (R8). -/
  stage : Option Stage
  /-- The snapshot of each wide value whose low word has been read (R7). -/
  snap : List (Nat × Nat)
  /-- Changes armed or collected in groups (R59, R60). -/
  shadow : List Shadow
  /-- The table or hold to which the one open AF group or hold group belongs (R279, R441), by COMMIT address. -/
  groupOf : List (Nat × Nat)
  /-- Seconds of the timestamp counter (R83). -/
  sec : Nat
  /-- Nanoseconds of the timestamp counter, below 10^9 (R83). -/
  ns : Nat
  /-- Model: how many free values have been drawn (log entry 3). -/
  freeCtr : Nat
  /-- The mode (R26, Table 2.2 MODE). -/
  mode : Mode
  /-- The change journal, newest entry first, at most 1,024 (R62). -/
  jnl : List JEntry
  /-- Entries of the change journal written since the last power-on reset (NUMBER of the next is this plus 1; R63). -/
  jnlCount : Nat
  /-- Entries of the change journal overwritten since the last CLEAR_LOST, at most 0xFFFF (Table 3.19). -/
  jnlLost : Nat
  /-- The error journal, newest entry first, at most 4,096 (R408). -/
  err : List EEntry
  /-- Entries of the error journal written since the last power-on reset (R408). -/
  errCount : Nat
  /-- Entries waiting to leave as journal-event consignments, oldest first, at most 256 (R409). -/
  errExport : List EEntry
  /-- The reset under way; State.reset: the power-on reset whose WIND is awaited (R446). -/
  boot : Option Boot
  /-- WIND in progress (R55). -/
  wind : Option Wind
  /-- `VKEEP` lies below its power-on threshold (R44, R445). -/
  dead : Bool
  /-- The level of `RESET_N`: whether it is low (R44). -/
  pinLow : Bool
  /-- Entry into ANCHOR, or the first part of a warm reset, waits for the quays to end their frames (R41, R45). -/
  closing : Bool
  /-- Pairs with a trim or a switch under way: 0 sample, 1 audio (R76, R358). -/
  trimming : List Nat
  /-- The movements A to D (R69). -/
  movs : Tbl Mov
  /-- The pairs: 0 sample, 1 audio (R78). -/
  pairs : Tbl Pair
  /-- The reference counters (R66). -/
  refCount : RefCount
  /-- Active edges of `PPS_IN` in a row that came 1 s ± 1 µs after the one before (R85). -/
  ppsGood : Nat
  /-- Whether the next edge of `PPS_IN` steps the counter (R86). -/
  ppsStep : Bool
  /-- Steering of the counter (R85): what remains, and what is not yet a whole nanosecond, in ps. -/
  steer : Int × Int
  /-- What the correction of R82 has not yet made a whole nanosecond of the counter, in 10⁻¹¹ ns (R84). -/
  fine : Int
  /-- The seconds of `TB_TIME_SET` that wait to take effect (R87). -/
  timeSet : Option Nat
  /-- Intakes with a calibrator injection in progress (R93, R100). -/
  visiting : List Nat
  /-- The intakes 1 and 2 (R91, R110). -/
  intakes : Tbl Intake
  /-- Captures repeated in this REGULATE (R100). -/
  repeats : Nat
  /-- The captures of this REGULATE from which the tables are built at its end: 64 × (intake − 1) + capture; gain and phase (R99). -/
  captured : Tbl (List (Nat × Nat))
  /-- The calibration tables (R99): 1,024 × (intake − 1) + bin, or + 256 + 16 × state + group; gain and phase. -/
  calTable : Tbl (Nat × Nat)
  /-- The I²t accumulator B of each feed, in mA² × µs (R106). -/
  feedHeat : Tbl Nat
  /-- Trips of each feed in the last 10 minutes (R107). -/
  feedTrips : Tbl Nat
  /-- The bins of each intake whose level stayed below −70 dBFS over 100 ms, as last measured (R101). -/
  quiet : Tbl (List Nat)
  /-- The free bin to which a lane under self-test is set (R142). -/
  testBins : Tbl Nat
  /-- The channelisers of intakes 1 and 2 (Table 6.1). -/
  chans : Tbl Chan
  /-- The roles of the 104 lanes (R139); berth n starts on lane n, lanes 96 to 103 are spares. -/
  lanes : Tbl LaneRole
  /-- The chains of the lanes: 2 × lane + branch; branch 0 is the single one, or intake 1's (Table 6.4). -/
  chains : Tbl Chain
  /-- The open detector window of each berth's lane (R129). -/
  dets : Tbl Det
  /-- The detector window that is complete and whose end has not been taken (R129). -/
  detFull : Tbl Det
  /-- The chain gain of each berth's lane in 0.001 dB, as worked out at its last start or reset (R243). -/
  gChain : Tbl Int
  /-- The spares that sound, the one that started last first (R139). -/
  sounding : List Nat
  /-- The detector window of the sounding in progress (R181). -/
  soundDet : Det
  /-- The berths of a synchronising reset that waits for the next channeliser block (R135). -/
  syncMask : Nat
  /-- The berth at which the next patrol begins to look for a running lane (R140). -/
  patrolAt : Nat
  /-- D_intake of intakes 1 and 2 in ps, by gain state, as REGULATE measured it (Table 6.6). -/
  dIntake : List Nat × List Nat
  /-- U_intake of intakes 1 and 2 in ps (R133). -/
  uIntake : Nat × Nat
  /-- The berths (R147, R160). -/
  berths : Tbl Berth
  /-- Input of the berths from their last mark on, oldest first: 2 × berth + branch (R154, R160). -/
  inputs : Tbl (List BSmp)
  /-- The ready queue of each crane class: berths, the head first (R151). -/
  ready : Tbl (List Nat)
  /-- Cranes that hand their ticket to the spare at their next beat end (R163). -/
  handover : List Nat
  /-- Cranes that already run the new beat length while others of their class finish a beat with the old one (R153); 0 none. -/
  beatOf : Tbl Nat
  /-- How many nanoseconds of the second that runs each crane has served (R165). -/
  craneNs : Tbl Nat
  /-- Consignments that wait for credit, by producer, oldest first (R263). -/
  outbox : Tbl (List Wait)
  /-- RDS reception of FM berths (R175). -/
  rds : Tbl Rds
  /-- Following and fades, by home berth (R180 to R191). -/
  follow : Tbl Follow
  /-- The candidate that a spare sounds: spare, home and candidate (R181). -/
  soundingAt : Option (Nat × Nat × Nat)
  /-- Decoders of DAB berths (R196). -/
  dab : Tbl Dab
  /-- Decoders of DRM berths (R207). -/
  drm : Tbl Drm
  /-- Decoders of DVB-T and DVB-T2 berths (R224). -/
  dvb : Tbl Dvb
  /-- Demodulators of AM and FM berths (R168 to R173). -/
  aud : Tbl Aud
  /-- The last audio blocks of AM and FM berths, oldest first (R173, R308). -/
  pcm : Tbl (List Pcm)
  /-- Index of the first lane output sample of each SCOPE berth since its last start or synchronising reset, plus 1 (R287). -/
  scopeAt : Tbl Nat
  /-- The open record window of each berth; 0xFE the intake records (R255). -/
  windows : Tbl (Option Win)
  /-- Windows that have ended and wait for their last frame or unit, by berth, oldest first (R255). -/
  ended : Tbl (List Win)
  /-- When DRIFT began, in `State.clock` (R253). -/
  driftAt : Nat
  /-- Consignments accepted and not released, oldest acceptance first (R275, R276). -/
  custody : List Item
  /-- The producers of Table 12.4 by ID (R271). -/
  prods : Tbl Producer
  /-- Lading statistics, by 16 × producer + content, content 0 for all types (R443). -/
  stats : Tbl Stat
  /-- The quays (R289). -/
  quays : Tbl Quay
  /-- The levels at the `Qn_HOLD` pins, bit n for quay n (R290). -/
  holdPins : Nat
  /-- For the request hold (from 0 on) and the pilot schedule (from 256 on), by source, one more than the newest number of work taken there; 0
  none (R276). -/
  taken : Tbl Nat
  /-- The epoch in force (R273); State.reset: a value of that form chosen by the model (log entry 5). -/
  epoch : Nat
  /-- Whether a custody rebuild runs (R277). -/
  rebuilding : Bool
  /-- The landing frame that arrives (R296). -/
  landRx : LandRx
  /-- Accepted frames in the landing FIFO, oldest first (R299). -/
  landFifo : List LFrame
  /-- The host channels 0x80 to 0x83, by their low two bits (R298). -/
  landChans : Tbl LandChan
  /-- The audio ports (R306). -/
  ports : Tbl Port
  /-- Words of the drain bank of each clocked FIFO (holds 100 to 103 and 109 to 115) that are not popped yet (R266). -/
  banks : Tbl Nat
  /-- The 32 bond slots (R325). -/
  slots : Tbl Slot
  /-- The request hold, in the order in which it is served (R329, R331). -/
  bondReqs : List BReq
  /-- Model: the number of the next request, by which requests are told apart. -/
  bondNext : Nat
  /-- The request that the engine serves (R331). -/
  bondNow : Option Nat
  /-- The IV table, the oldest change first (R341). -/
  ivTable : List IvEntry
  /-- The words of `BOND_KEY_WRAP` (R326). -/
  keyWrap : Tbl Nat
  /-- The words of `BOND_KEK_DATA` (R328). -/
  kekData : Tbl Nat
  /-- The device KEK in OTP (R328); State.reset: blank (log entry 7). -/
  kek : Option (List Byte)
  /-- The KEK being burned (R328). -/
  kekBurn : Option (List Byte)
  /-- The DRBG (R324); none until it is seeded. -/
  drbg : Option Drbg
  /-- The capture channels (R342). -/
  caps : Tbl Cap
  /-- The pilot schedule, in acceptance order, at most 32 requests (R360). -/
  schedule : List TxReq
  /-- Where the request that the schedule serves stands: its number and stage (R363). -/
  txAt : Nat × TxStage
  /-- TRSW0 and TRSW1 at transmit (R357); each pin shows it against its polarity bit. -/
  trsw : Bool
  /-- Whether a pilot window is open (R96). -/
  pilotWindow : Bool
  /-- The frame on air: channel, power and octets (R356, R357, Table 16.1). -/
  onAir : Option (Nat × Nat × List Byte)
  /-- Air time used, by the second of its bin, in 10 µs (R365). -/
  dutyBins : List (Nat × Nat)
  /-- The periodic entries of the image (R362). -/
  periodics : List Periodic
  /-- The open listen window: the number of its request, and its channel (R366). -/
  listen : Option (Nat × Nat)
  /-- The last listen windows, the newest first: request, channel, when each opened and closed, in ns of the counter (R366). -/
  listens : List (Nat × Nat × Nat × Option Nat)
  /-- Relayed streams that wait for credit (R340). -/
  relays : List Relay
  /-- Receptions in progress at pilot-link receive berths (R370). -/
  rx : Tbl Rx
  /-- The newest lane samples of each pilot-link receive berth, the newest first, at most 256: ANT-pin time in ps, level offset, |x|² (R370, R371). -/
  rxHeard : Tbl (List (Int × Int × Nat))
  /-- The backoff drawn, in 0.1 ms (R364). -/
  backoff : Nat
  /-- The bin samples that the clear-channel measurement has taken from each intake (R364). -/
  cca : Tbl (List Smp)
  /-- The active alert sources (R378). -/
  alerts : List Alert
  /-- Sources of kind 4 that fell due in SURVEY: source and hold (R380). -/
  alertDue : List (Nat × Nat)
  /-- `ALERT_CMD` words written in SURVEY, in order (R380). -/
  alertCmds : List Nat
  /-- Protection state of the units, by 4,096 × UNIT_TYPE + INDEX (R398, R399). -/
  units : Tbl UnitRec
  /-- The armed injection (R405). -/
  inj : Option Inj
  /-- Model: nanoseconds since the power-on reset, by which the intervals of R43 and R398 are judged. -/
  clock : Nat
  /-- Memory words with errors: the wrong bits of the 79 stored ones (Table 18.1), by the address of `INJ_ADDR` (R390, R405). -/
  flips : Tbl Nat
  /-- Protection state of memory words, by the address of `INJ_ADDR` (R398). -/
  words : Tbl UnitRec
  /-- Model: words in which bits flipped by an injection are wrong (R407). -/
  injWords : List Nat
  /-- Model: words whose running self-test ends by writing them back as read (R391). -/
  singles : List Nat
  /-- Journal entries whose word is uncorrectable, with its address (Table 18.4). -/
  damaged : List (WordUse × Nat)
  /-- Model: this command has written an entry that carries INJECTED (R407). -/
  injSeen : Bool
  /-- Model: device-wide precision bits that an injected event set (R407). -/
  injBits : Nat
  /-- Model: the device-wide precision bits at the end of the last command (R407). -/
  precNow : Nat
  /-- Model: berths, by bit, whose lane output carries SETTLING from an injected event (R407). -/
  tainted : Nat
  /-- Model: intakes whose FIFO refuses its next block because an injection says so (R405). -/
  injStall : List Nat
  /-- Replaced rows (R401): the spare row, by bits [31:12] of the row's addresses in the form of `INJ_ADDR`. -/
  rowMap : Tbl Nat
  /-- Rows classed LASTING whose copy is under way (R401), as in `rowMap`. -/
  rowsDue : List Nat
  /-- The RETEST that runs (R400): unit type and index. -/
  retesting : Option (Nat × Nat)
  /-- The two-wire port (R416). -/
  tw : TwoWire
  /-- The JTAG port (R460). -/
  jtag : Tap
  /-- The switched domains by the codes of Table 2.9. -/
  doms : Tbl Dom
  deriving DecidableEq, Repr

/-- The machine right after reset: a power-on reset has just ended and WIND begins (R44, R446).
Log entry 5: DESIGN CHOICE. Log entry 7: DESIGN CHOICE. Log entry 107: DESIGN CHOICE. -/
def State.reset : State where
  pending := []
  regs := []
  stage := none
  snap := []
  shadow := []
  groupOf := []
  sec := 0
  ns := 0
  freeCtr := 0
  mode := .wind
  jnl := []
  jnlCount := 0
  jnlLost := 0
  err := []
  errCount := 0
  errExport := []
  boot := some ⟨1, 0, 1, 0, false, true⟩
  wind := none
  dead := false
  pinLow := false
  closing := false
  trimming := []
  movs := []
  pairs := []
  refCount := ⟨false, false, 0, 0, false, 0⟩
  ppsGood := 0
  ppsStep := false
  steer := (0, 0)
  fine := 0
  timeSet := none
  visiting := []
  intakes := []
  repeats := 0
  captured := []
  calTable := []
  feedHeat := []
  feedTrips := []
  quiet := []
  testBins := []
  chans := []
  lanes := []
  chains := []
  dets := []
  detFull := []
  gChain := []
  sounding := []
  soundDet := ⟨0, 0, 0, 0, 0, 0, 0⟩
  syncMask := 0
  patrolAt := 0
  dIntake := ([], [])
  uIntake := (0, 0)
  berths := []
  inputs := []
  ready := []
  handover := []
  beatOf := []
  craneNs := []
  outbox := []
  rds := []
  follow := []
  soundingAt := none
  dab := []
  drm := []
  dvb := []
  aud := []
  pcm := []
  scopeAt := []
  windows := []
  ended := []
  driftAt := 0
  custody := []
  prods := []
  stats := []
  quays := []
  holdPins := 0
  taken := []
  epoch := 0x10001
  rebuilding := false
  landRx := ⟨[], 0, false, false, false, false, false, []⟩
  landFifo := []
  landChans := []
  ports := []
  banks := []
  slots := []
  bondReqs := []
  bondNext := 1
  bondNow := none
  ivTable := []
  keyWrap := []
  kekData := []
  kek := none
  kekBurn := none
  drbg := none
  caps := []
  schedule := []
  txAt := (0, .idle)
  trsw := false
  pilotWindow := false
  onAir := none
  dutyBins := []
  periodics := []
  listen := none
  listens := []
  relays := []
  rx := []
  rxHeard := []
  backoff := 0
  cca := []
  alerts := []
  alertDue := []
  alertCmds := []
  units := []
  inj := none
  clock := 0
  flips := []
  words := []
  injWords := []
  singles := []
  damaged := []
  injSeen := false
  injBits := 0
  precNow := 0
  tainted := 0
  injStall := []
  rowMap := []
  rowsDue := []
  retesting := none
  tw := ⟨false, false, false, false, 0, false, 0⟩
  jtag := ⟨.reset, .idcode, [], []⟩
  doms := []

end Sys2Proof.Machine
end

