-- ==== Sys2Proof/Machine/Fields.lean ====
section
/-! DEFINITION. A name for every field of the register tables, as the tables name it: register, then field. Fields of
the berth, lane, crane, quay, port, capture and similar windows take the unit's number. -/

namespace Sys2Proof.Machine.F

def GLB_MODE_CMD_PENDING : Fld := ⟨0x0004, 15, 1⟩
def GLB_MODE_SURVEY_DEFERRED : Fld := ⟨0x0004, 14, 1⟩
def GLB_MODE_PREV_MODE : Fld := ⟨0x0004, 8, 4⟩
def GLB_MODE_MODE : Fld := ⟨0x0004, 0, 4⟩
def GLB_MODE_CMD_CONFIRM : Fld := ⟨0x0005, 8, 8⟩
def GLB_MODE_CMD_CMD : Fld := ⟨0x0005, 0, 4⟩
def GLB_MODE_CAUSE_DETAIL : Fld := ⟨0x0006, 8, 8⟩
def GLB_MODE_CAUSE_CAUSE : Fld := ⟨0x0006, 0, 8⟩
def GLB_RESET_CAUSE_WARM_ANCHOR : Fld := ⟨0x0007, 5, 1⟩
def GLB_RESET_CAUSE_WARM_CMD : Fld := ⟨0x0007, 4, 1⟩
def GLB_RESET_CAUSE_WARM_PIN : Fld := ⟨0x0007, 3, 1⟩
def GLB_RESET_CAUSE_FULL_CMD : Fld := ⟨0x0007, 2, 1⟩
def GLB_RESET_CAUSE_FULL_PIN : Fld := ⟨0x0007, 1, 1⟩
def GLB_RESET_CAUSE_POWER_ON : Fld := ⟨0x0007, 0, 1⟩
def GLB_SURVEY_AT_SECONDS : Fld := ⟨0x0010, 0, 34⟩
def GLB_SURVEY_LIMIT_SECONDS : Fld := ⟨0x0013, 0, 16⟩
def GLB_WIND_STATUS_COPY1_RESULT : Fld := ⟨0x0008, 12, 4⟩
def GLB_WIND_STATUS_COPY0_RESULT : Fld := ⟨0x0008, 8, 4⟩
def GLB_WIND_STATUS_QUAD : Fld := ⟨0x0008, 5, 1⟩
def GLB_WIND_STATUS_SFDP_OK : Fld := ⟨0x0008, 4, 1⟩
def GLB_WIND_STATUS_COPY_USED : Fld := ⟨0x0008, 0, 2⟩
def GLB_WIND_DETAIL_SECTION1 : Fld := ⟨0x0009, 8, 8⟩
def GLB_WIND_DETAIL_SECTION0 : Fld := ⟨0x0009, 0, 8⟩
def GLB_WIND_GEN_GENERATION : Fld := ⟨0x000A, 0, 32⟩
def GLB_WIND_TIME_DURATION : Fld := ⟨0x000C, 0, 16⟩
def JNL_NEWEST_NUMBER : Fld := ⟨0x2800, 0, 32⟩
def JNL_SELECT_NUMBER : Fld := ⟨0x2802, 0, 32⟩
def JNL_ENTRY_ENTRY (n : Nat) : Fld := ⟨0x2804 + n, 0, 16⟩
def JNL_STATUS_SELECT_MISS : Fld := ⟨0x280F, 15, 1⟩
def JNL_STATUS_CLEAR_LOST : Fld := ⟨0x280F, 14, 1⟩
def JNL_STATUS_UNREAD_LOST : Fld := ⟨0x280F, 0, 14⟩
def TB_REF_CFG_TCXO_FITTED : Fld := ⟨0x0100, 2, 1⟩
def TB_REF_CFG_PPS_EDGE : Fld := ⟨0x0100, 1, 1⟩
def TB_REF_CFG_REFIN_FREQ : Fld := ⟨0x0100, 0, 1⟩
def TB_PAIR_CMD_RELOCK : Fld := ⟨0x0105, 0, 4⟩
def TB_AUDIO_CFG_FAMILY : Fld := ⟨0x0106, 0, 1⟩
def TB_PPS_COMP_DELAY : Fld := ⟨0x0107, 0, 16⟩
def TB_REF_STATUS_REFIN_OK : Fld := ⟨0x0101, 15, 1⟩
def TB_REF_STATUS_TCXO_OK : Fld := ⟨0x0101, 14, 1⟩
def TB_REF_STATUS_PPS_OK : Fld := ⟨0x0101, 13, 1⟩
def TB_REF_STATUS_OFFSET_VALID : Fld := ⟨0x0101, 12, 1⟩
def TB_REF_STATUS_REFIN_LOST_EV : Fld := ⟨0x0101, 7, 1⟩
def TB_REF_STATUS_TCXO_LOST_EV : Fld := ⟨0x0101, 6, 1⟩
def TB_REF_STATUS_PPS_LOST_EV : Fld := ⟨0x0101, 5, 1⟩
def TB_REF_STATUS_SWITCH_EV : Fld := ⟨0x0101, 4, 1⟩
def TB_REF_STATUS_CMD_REFUSED : Fld := ⟨0x0101, 3, 1⟩
def TB_MOV_STATUS_LOCKED (n : Nat) : Fld := ⟨0x0110 + n, 15, 1⟩
def TB_MOV_STATUS_CARRYING (n : Nat) : Fld := ⟨0x0110 + n, 14, 1⟩
def TB_MOV_STATUS_STATE (n : Nat) : Fld := ⟨0x0110 + n, 12, 2⟩
def TB_MOV_STATUS_ON_TCXO (n : Nat) : Fld := ⟨0x0110 + n, 11, 1⟩
def TB_MOV_STATUS_HOLDOVER (n : Nat) : Fld := ⟨0x0110 + n, 10, 1⟩
def TB_MOV_STATUS_RETIRED (n : Nat) : Fld := ⟨0x0110 + n, 9, 1⟩
def TB_MOV_STATUS_BAND (n : Nat) : Fld := ⟨0x0110 + n, 0, 7⟩
def TB_MOV_COUNT_LOSS_COUNT (n : Nat) : Fld := ⟨0x0114 + n, 8, 8⟩
def TB_MOV_COUNT_SWITCH_COUNT (n : Nat) : Fld := ⟨0x0114 + n, 0, 8⟩
def TB_TCXO_OFFSET_OFFSET : Fld := ⟨0x0102, 0, 32⟩
def TB_TWIN_SKEW_SAMPLE : Fld := ⟨0x015A, 0, 16⟩
def TB_TWIN_SKEW_AUDIO : Fld := ⟨0x015B, 0, 16⟩
def TB_OUT_CFG_ENABLE (n : Nat) : Fld := ⟨0x0120 + 0x2 * n, 15, 1⟩
def TB_OUT_CFG_RUNNING (n : Nat) : Fld := ⟨0x0120 + 0x2 * n, 14, 1⟩
def TB_OUT_CFG_DELAY (n : Nat) : Fld := ⟨0x0120 + 0x2 * n, 0, 6⟩
def TB_OUT_DIV_DIV (n : Nat) : Fld := ⟨0x0121 + 0x2 * n, 0, 11⟩
def TB_TIME_TIME : Fld := ⟨0x0150, 0, 64⟩
def TB_TIME_SET_SECONDS : Fld := ⟨0x0154, 0, 34⟩
def TB_PPS_STATUS_QUALIFIED : Fld := ⟨0x0157, 15, 1⟩
def TB_PPS_STATUS_SLEWING : Fld := ⟨0x0157, 14, 1⟩
def TB_PPS_STATUS_HOLDOVER : Fld := ⟨0x0157, 13, 1⟩
def TB_PPS_STATUS_STEPPED : Fld := ⟨0x0157, 12, 1⟩
def TB_PPS_STATUS_COARSE : Fld := ⟨0x0157, 11, 1⟩
def TB_PPS_STATUS_STRAY : Fld := ⟨0x0157, 0, 8⟩
def TB_PPS_ERROR_ERROR : Fld := ⟨0x0158, 0, 32⟩
def INT_CFG_AGC_MODE (n : Nat) : Fld := ⟨0x0200 + 0x20 * (n - 1), 12, 2⟩
def INT_CFG_AGC_TARGET (n : Nat) : Fld := ⟨0x0200 + 0x20 * (n - 1), 8, 4⟩
def INT_CFG_MAN_GAIN (n : Nat) : Fld := ⟨0x0200 + 0x20 * (n - 1), 0, 6⟩
def INT_GAIN_NET_GAIN (n : Nat) : Fld := ⟨0x0201 + 0x20 * (n - 1), 8, 8⟩
def INT_GAIN_STATE (n : Nat) : Fld := ⟨0x0201 + 0x20 * (n - 1), 0, 6⟩
def INT_STATUS_RUNNING (n : Nat) : Fld := ⟨0x0202 + 0x20 * (n - 1), 15, 1⟩
def INT_STATUS_RETIRED (n : Nat) : Fld := ⟨0x0202 + 0x20 * (n - 1), 14, 1⟩
def INT_STATUS_NO_SIGNAL (n : Nat) : Fld := ⟨0x0202 + 0x20 * (n - 1), 13, 1⟩
def INT_STATUS_PILOT_TX (n : Nat) : Fld := ⟨0x0202 + 0x20 * (n - 1), 12, 1⟩
def INT_STATUS_AGC_HELD (n : Nat) : Fld := ⟨0x0202 + 0x20 * (n - 1), 11, 1⟩
def INT_STATUS_CEILING (n : Nat) : Fld := ⟨0x0202 + 0x20 * (n - 1), 10, 1⟩
def INT_STATUS_FAULT_EV (n : Nat) : Fld := ⟨0x0202 + 0x20 * (n - 1), 5, 1⟩
def INT_STATUS_CLIP_EV (n : Nat) : Fld := ⟨0x0202 + 0x20 * (n - 1), 4, 1⟩
def INT_STATUS_CHAN_OVERRUN (n : Nat) : Fld := ⟨0x0202 + 0x20 * (n - 1), 3, 1⟩
def INT_STATUS_NO_SIGNAL_EV (n : Nat) : Fld := ⟨0x0202 + 0x20 * (n - 1), 2, 1⟩
def INT_STATUS_GAIN_EV (n : Nat) : Fld := ⟨0x0202 + 0x20 * (n - 1), 1, 1⟩
def INT_CHAN_DROP_COUNT_COUNT (n : Nat) : Fld := ⟨0x0203 + 0x20 * (n - 1), 0, 16⟩
def INT_CLIP_COUNT_COUNT (n : Nat) : Fld := ⟨0x0204 + 0x20 * (n - 1), 0, 16⟩
def INT_LEVEL_ADC_LEVEL (n : Nat) : Fld := ⟨0x0205 + 0x20 * (n - 1), 0, 16⟩
def INT_INPUT_LEVEL_INPUT (n : Nat) : Fld := ⟨0x0206 + 0x20 * (n - 1), 0, 16⟩
def INT_PILOT_CFG_ISOLATION (n : Nat) : Fld := ⟨0x0207 + 0x20 * (n - 1), 0, 8⟩
def INT_HEALTH_LAST_CHECK (n : Nat) : Fld := ⟨0x0208 + 0x20 * (n - 1), 12, 4⟩
def INT_HEALTH_FAULT_COUNT (n : Nat) : Fld := ⟨0x0208 + 0x20 * (n - 1), 0, 8⟩
def INT_DRIFT_GAIN (n : Nat) : Fld := ⟨0x0209 + 0x20 * (n - 1), 0, 16⟩
def INT_DRIFT_PHASE (n : Nat) : Fld := ⟨0x020A + 0x20 * (n - 1), 0, 16⟩
def CAL_STATUS_VREF_OK : Fld := ⟨0x0240, 15, 1⟩
def CAL_STATUS_OTP_OK : Fld := ⟨0x0240, 14, 1⟩
def CAL_STATUS_VREF_FAULT_EV : Fld := ⟨0x0240, 7, 1⟩
def CAL_STATUS_DRIFT_LARGE1 : Fld := ⟨0x0240, 6, 1⟩
def CAL_STATUS_DRIFT_LARGE2 : Fld := ⟨0x0240, 5, 1⟩
def CAL_STATUS_STALE1 : Fld := ⟨0x0240, 4, 1⟩
def CAL_STATUS_STALE2 : Fld := ⟨0x0240, 3, 1⟩
def CAL_VREF_VOLTAGE : Fld := ⟨0x0241, 0, 16⟩
def CAL_LAST_BIN_INTAKE2 : Fld := ⟨0x0242, 8, 8⟩
def CAL_LAST_BIN_INTAKE1 : Fld := ⟨0x0242, 0, 8⟩
def CAL_SKIPS_INTAKE2 : Fld := ⟨0x0243, 8, 8⟩
def CAL_SKIPS_INTAKE1 : Fld := ⟨0x0243, 0, 8⟩
def CAL_TABLE_SELECT_INTAKE : Fld := ⟨0x0244, 15, 1⟩
def CAL_TABLE_SELECT_KIND : Fld := ⟨0x0244, 14, 1⟩
def CAL_TABLE_SELECT_INDEX : Fld := ⟨0x0244, 0, 10⟩
def CAL_TABLE_DATA_GAIN : Fld := ⟨0x0245, 0, 16⟩
def CAL_TABLE_DATA_PHASE : Fld := ⟨0x0246, 0, 16⟩
def CAL_REG_TIME_DURATION : Fld := ⟨0x0247, 0, 16⟩
def FEED_CFG_ENABLE (n : Nat) : Fld := ⟨0x0260 + 0x10 * (n - 1), 15, 1⟩
def FEED_CFG_AUTO_RETRY (n : Nat) : Fld := ⟨0x0260 + 0x10 * (n - 1), 14, 1⟩
def FEED_CFG_SENSE_MOHM (n : Nat) : Fld := ⟨0x0260 + 0x10 * (n - 1), 0, 8⟩
def FEED_TRIP_I_CONT (n : Nat) : Fld := ⟨0x0261 + 0x10 * (n - 1), 0, 16⟩
def FEED_SHORT_I_SHORT (n : Nat) : Fld := ⟨0x0262 + 0x10 * (n - 1), 0, 16⟩
def FEED_I2T_BUDGET (n : Nat) : Fld := ⟨0x0263 + 0x10 * (n - 1), 0, 16⟩
def FEED_SOFT_TIME (n : Nat) : Fld := ⟨0x0264 + 0x10 * (n - 1), 0, 16⟩
def FEED_COOL_TIME (n : Nat) : Fld := ⟨0x0265 + 0x10 * (n - 1), 0, 16⟩
def FEED_STATUS_ON (n : Nat) : Fld := ⟨0x0266 + 0x10 * (n - 1), 15, 1⟩
def FEED_STATUS_SOFT (n : Nat) : Fld := ⟨0x0266 + 0x10 * (n - 1), 14, 1⟩
def FEED_STATUS_COOLING (n : Nat) : Fld := ⟨0x0266 + 0x10 * (n - 1), 13, 1⟩
def FEED_STATUS_LATCHED (n : Nat) : Fld := ⟨0x0266 + 0x10 * (n - 1), 12, 1⟩
def FEED_STATUS_SHORT_EV (n : Nat) : Fld := ⟨0x0266 + 0x10 * (n - 1), 7, 1⟩
def FEED_STATUS_I2T_EV (n : Nat) : Fld := ⟨0x0266 + 0x10 * (n - 1), 6, 1⟩
def FEED_STATUS_STUCK_EV (n : Nat) : Fld := ⟨0x0266 + 0x10 * (n - 1), 5, 1⟩
def FEED_STATUS_REFUSED_EV (n : Nat) : Fld := ⟨0x0266 + 0x10 * (n - 1), 4, 1⟩
def FEED_STATUS_TRIPS (n : Nat) : Fld := ⟨0x0266 + 0x10 * (n - 1), 0, 4⟩
def FEED_CURRENT_CURRENT (n : Nat) : Fld := ⟨0x0267 + 0x10 * (n - 1), 0, 16⟩
def LN_CTRL_RUN (n : Nat) : Fld := ⟨0x0410 + 0x40 * n, 15, 1⟩
def LN_CTRL_STOPPED (n : Nat) : Fld := ⟨0x0410 + 0x40 * n, 14, 1⟩
def LN_CTRL_DIVERSITY (n : Nat) : Fld := ⟨0x0410 + 0x40 * n, 13, 1⟩
def LN_CTRL_INTAKE (n : Nat) : Fld := ⟨0x0410 + 0x40 * n, 12, 1⟩
def LN_CTRL_GROUP_SIZE (n : Nat) : Fld := ⟨0x0410 + 0x40 * n, 10, 2⟩
def LN_CTRL_BANK (n : Nat) : Fld := ⟨0x0410 + 0x40 * n, 9, 1⟩
def LN_CTRL_FIRST_BIN (n : Nat) : Fld := ⟨0x0410 + 0x40 * n, 0, 8⟩
def LN_PHYS_TAKEOVER (n : Nat) : Fld := ⟨0x0411 + 0x40 * n, 15, 1⟩
def LN_PHYS_LANE (n : Nat) : Fld := ⟨0x0411 + 0x40 * n, 0, 7⟩
def LN_NCO_FREQ (n : Nat) : Fld := ⟨0x0412 + 0x40 * n, 0, 32⟩
def LN_FIR_DECIM (n : Nat) : Fld := ⟨0x0414 + 0x40 * n, 8, 5⟩
def LN_FIR_SHIFT (n : Nat) : Fld := ⟨0x0414 + 0x40 * n, 0, 4⟩
def LN_RS_L_L (n : Nat) : Fld := ⟨0x0415 + 0x40 * n, 0, 24⟩
def LN_RS_M_M (n : Nat) : Fld := ⟨0x0417 + 0x40 * n, 0, 24⟩
def LN_DELAY (n : Nat) : Fld := ⟨0x0419 + 0x40 * n, 0, 18⟩
def LN_DET_CFG_BRANCH (n : Nat) : Fld := ⟨0x041B + 0x40 * n, 15, 1⟩
def LN_DET_CFG_WINDOW (n : Nat) : Fld := ⟨0x041B + 0x40 * n, 8, 5⟩
def LN_DET_CFG_ENV_K (n : Nat) : Fld := ⟨0x041B + 0x40 * n, 0, 4⟩
def LN_PEAK_PEAK (n : Nat) : Fld := ⟨0x041C + 0x40 * n, 0, 16⟩
def LN_RMS_RMS (n : Nat) : Fld := ⟨0x041D + 0x40 * n, 0, 16⟩
def LN_ENV_MAX_MAX (n : Nat) : Fld := ⟨0x041E + 0x40 * n, 0, 16⟩
def LN_ENV_MIN_MIN (n : Nat) : Fld := ⟨0x041F + 0x40 * n, 0, 16⟩
def LN_STATUS_SETTLING (n : Nat) : Fld := ⟨0x0420 + 0x40 * n, 15, 1⟩
def LN_STATUS_ASYM (n : Nat) : Fld := ⟨0x0420 + 0x40 * n, 14, 1⟩
def LN_STATUS_VALID1 (n : Nat) : Fld := ⟨0x0420 + 0x40 * n, 13, 1⟩
def LN_STATUS_VALID2 (n : Nat) : Fld := ⟨0x0420 + 0x40 * n, 12, 1⟩
def LN_STATUS_DET_STALE (n : Nat) : Fld := ⟨0x0420 + 0x40 * n, 11, 1⟩
def LN_STATUS_DELAY_EV (n : Nat) : Fld := ⟨0x0420 + 0x40 * n, 4, 1⟩
def LN_STATUS_FAULT_EV (n : Nat) : Fld := ⟨0x0420 + 0x40 * n, 3, 1⟩
def LN_STATUS_CLIP_EV (n : Nat) : Fld := ⟨0x0420 + 0x40 * n, 2, 1⟩
def LN_STATUS_TAKEOVER_EV (n : Nat) : Fld := ⟨0x0420 + 0x40 * n, 1, 1⟩
def LN_CLIP_COUNT_RS (n : Nat) : Fld := ⟨0x0421 + 0x40 * n, 8, 8⟩
def LN_CLIP_COUNT_FIR (n : Nat) : Fld := ⟨0x0421 + 0x40 * n, 0, 8⟩
def LN_SETTLE_N_SETTLE (n : Nat) : Fld := ⟨0x0422 + 0x40 * n, 0, 16⟩
def LN_GD_APPLIED_D_TOTAL (n : Nat) : Fld := ⟨0x0423 + 0x40 * n, 0, 48⟩
def LN_GD_RESIDUAL_RESIDUAL (n : Nat) : Fld := ⟨0x0426 + 0x40 * n, 0, 16⟩
def LN_GD_INTAKE_D_INTAKE (n : Nat) : Fld := ⟨0x0427 + 0x40 * n, 0, 16⟩
def LN_COMMIT_PENDING (n : Nat) : Fld := ⟨0x0428 + 0x40 * n, 15, 1⟩
def LN_COMMIT_GROUP_OPEN (n : Nat) : Fld := ⟨0x0428 + 0x40 * n, 14, 1⟩
def LN_BANK_SEL_BY_BERTH : Fld := ⟨0x3000, 15, 1⟩
def LN_BANK_SEL_BANK : Fld := ⟨0x3000, 14, 1⟩
def LN_BANK_SEL_INDEX : Fld := ⟨0x3000, 0, 7⟩
def LN_BANK_LEN_TAPS : Fld := ⟨0x3001, 0, 9⟩
def LN_BANK_TAP_COEF (n : Nat) : Fld := ⟨0x3100 + n, 0, 16⟩
def GLB_SYNCRESET_MASK : Fld := ⟨0x0020, 0, 96⟩
def BTH_CTRL_RUN (n : Nat) : Fld := ⟨0x0400 + 0x40 * n, 15, 1⟩
def BTH_CTRL_STOPPED (n : Nat) : Fld := ⟨0x0400 + 0x40 * n, 14, 1⟩
def BTH_CTRL_PRIORITY (n : Nat) : Fld := ⟨0x0400 + 0x40 * n, 12, 2⟩
def BTH_CTRL_STANDARD (n : Nat) : Fld := ⟨0x0400 + 0x40 * n, 8, 4⟩
def BTH_STATUS_STATE (n : Nat) : Fld := ⟨0x0401 + 0x40 * n, 13, 3⟩
def BTH_STATUS_OVER_DECL (n : Nat) : Fld := ⟨0x0401 + 0x40 * n, 12, 1⟩
def BTH_STATUS_URGENT_ELIGIBLE (n : Nat) : Fld := ⟨0x0401 + 0x40 * n, 11, 1⟩
def BTH_DECL_FFT_MAX (n : Nat) : Fld := ⟨0x0402 + 0x40 * n, 9, 3⟩
def BTH_DECL_RATE_MAX (n : Nat) : Fld := ⟨0x0402 + 0x40 * n, 0, 9⟩
def BTH_TICKET_IN_FLIGHT (n : Nat) : Fld := ⟨0x0403 + 0x40 * n, 15, 1⟩
def BTH_TICKET_URGENT (n : Nat) : Fld := ⟨0x0403 + 0x40 * n, 14, 1⟩
def BTH_TICKET_CLASS (n : Nat) : Fld := ⟨0x0403 + 0x40 * n, 11, 3⟩
def BTH_TICKET_CRANE (n : Nat) : Fld := ⟨0x0403 + 0x40 * n, 0, 6⟩
def BTH_SEQ_NEXT (n : Nat) : Fld := ⟨0x0404 + 0x40 * n, 0, 32⟩
def BTH_EVENTS_SHED_EV (n : Nat) : Fld := ⟨0x0406 + 0x40 * n, 5, 1⟩
def BTH_EVENTS_OVER_DECL_EV (n : Nat) : Fld := ⟨0x0406 + 0x40 * n, 4, 1⟩
def BTH_EVENTS_REPLAY_EV (n : Nat) : Fld := ⟨0x0406 + 0x40 * n, 3, 1⟩
def BTH_EVENTS_DEDUP_EV (n : Nat) : Fld := ⟨0x0406 + 0x40 * n, 2, 1⟩
def BTH_EVENTS_DEDUP_MISMATCH_EV (n : Nat) : Fld := ⟨0x0406 + 0x40 * n, 1, 1⟩
def BTH_EVENTS_ADMIT_REFUSED_EV (n : Nat) : Fld := ⟨0x0406 + 0x40 * n, 0, 1⟩
def BTH_COMMIT_PENDING (n : Nat) : Fld := ⟨0x0407 + 0x40 * n, 15, 1⟩
def BTH_COMMIT_GROUP_OPEN (n : Nat) : Fld := ⟨0x0407 + 0x40 * n, 14, 1⟩
def BTH_LOAD_A_FFT (n : Nat) : Fld := ⟨0x0429 + 0x40 * n, 8, 8⟩
def BTH_LOAD_A_NARROW (n : Nat) : Fld := ⟨0x0429 + 0x40 * n, 0, 8⟩
def BTH_LOAD_B_BLOCK (n : Nat) : Fld := ⟨0x042A + 0x40 * n, 10, 6⟩
def BTH_LOAD_B_TRELLIS (n : Nat) : Fld := ⟨0x042A + 0x40 * n, 0, 10⟩
def BTH_LOAD_C_LDPC (n : Nat) : Fld := ⟨0x042B + 0x40 * n, 0, 9⟩
def BTH_OCCUPANCY_OMEGA (n : Nat) : Fld := ⟨0x042C + 0x40 * n, 0, 10⟩
def BTH_REPLAY_REPLAYS (n : Nat) : Fld := ⟨0x042D + 0x40 * n, 8, 8⟩
def BTH_REPLAY_DEDUPS (n : Nat) : Fld := ⟨0x042D + 0x40 * n, 0, 8⟩
def BTH_WAIT_MAX_WAIT (n : Nat) : Fld := ⟨0x042E + 0x40 * n, 0, 16⟩
def BTH_ERASURES_COUNT (n : Nat) : Fld := ⟨0x042F + 0x40 * n, 0, 16⟩
def CRN_STATUS_ROLE (n : Nat) : Fld := ⟨0x1C00 + 0x10 * n, 14, 2⟩
def CRN_STATUS_CLASS (n : Nat) : Fld := ⟨0x1C00 + 0x10 * n, 11, 3⟩
def CRN_STATUS_BUSY (n : Nat) : Fld := ⟨0x1C00 + 0x10 * n, 10, 1⟩
def CRN_STATUS_URGENT (n : Nat) : Fld := ⟨0x1C00 + 0x10 * n, 9, 1⟩
def CRN_STATUS_BERTH (n : Nat) : Fld := ⟨0x1C00 + 0x10 * n, 0, 7⟩
def CRN_EVENTS_FAULT_EV (n : Nat) : Fld := ⟨0x1C01 + 0x10 * n, 3, 1⟩
def CRN_EVENTS_TRANSIENT_EV (n : Nat) : Fld := ⟨0x1C01 + 0x10 * n, 2, 1⟩
def CRN_EVENTS_LASTING_EV (n : Nat) : Fld := ⟨0x1C01 + 0x10 * n, 1, 1⟩
def CRN_EVENTS_TAKEOVER_EV (n : Nat) : Fld := ⟨0x1C01 + 0x10 * n, 0, 1⟩
def CRN_BEATS_COUNT (n : Nat) : Fld := ⟨0x1C02 + 0x10 * n, 0, 32⟩
def CRN_LOAD_BUSY (n : Nat) : Fld := ⟨0x1C04 + 0x10 * n, 0, 16⟩
def CRN_FAULTS_FAULTS (n : Nat) : Fld := ⟨0x1C05 + 0x10 * n, 8, 8⟩
def CRN_FAULTS_REPLAYS (n : Nat) : Fld := ⟨0x1C05 + 0x10 * n, 0, 8⟩
def CRN_LAST_FAULT_DETECTOR (n : Nat) : Fld := ⟨0x1C06 + 0x10 * n, 0, 16⟩
def CRN_CMD_CONFIRM (n : Nat) : Fld := ⟨0x1C07 + 0x10 * n, 8, 8⟩
def CRN_CMD_SELFTEST (n : Nat) : Fld := ⟨0x1C07 + 0x10 * n, 0, 1⟩
def ENG_BEAT_LENGTH (n : Nat) : Fld := ⟨0x0040 + n, 0, 8⟩
def ENG_COMMIT_PENDING : Fld := ⟨0x0045, 15, 1⟩
def ENG_COMMIT_GROUP_OPEN : Fld := ⟨0x0045, 14, 1⟩
def ENG_STATUS_NO_SPARE : Fld := ⟨0x0046, 11, 5⟩
def ENG_STATUS_OVERLOAD : Fld := ⟨0x0046, 10, 1⟩
def ENG_STATUS_SHED_EV : Fld := ⟨0x0046, 3, 1⟩
def ENG_STATUS_ADMIT_REFUSED_EV : Fld := ⟨0x0046, 2, 1⟩
def ENG_STATUS_DEDUP_MISMATCH_EV : Fld := ⟨0x0046, 1, 1⟩
def ENG_STATUS_REPLAY_EV : Fld := ⟨0x0046, 0, 1⟩
def ENG_LOAD_SUM (n : Nat) : Fld := ⟨0x0048 + n, 0, 16⟩
def ENG_CAP_CAP (n : Nat) : Fld := ⟨0x004D + n, 0, 16⟩
def FM_SVC0_MODE (n : Nat) : Fld := ⟨0x0408 + 0x40 * n, 14, 2⟩
def FM_SVC0_RBDS (n : Nat) : Fld := ⟨0x0408 + 0x40 * n, 13, 1⟩
def FM_SVC0_DEEMPH (n : Nat) : Fld := ⟨0x0408 + 0x40 * n, 11, 2⟩
def FM_SVC0_FORCE_MONO (n : Nat) : Fld := ⟨0x0408 + 0x40 * n, 10, 1⟩
def FM_SVC0_RDS_CORR (n : Nat) : Fld := ⟨0x0408 + 0x40 * n, 5, 3⟩
def FM_SVC1_ENABLE (n : Nat) : Fld := ⟨0x0409 + 0x40 * n, 15, 1⟩
def FM_SVC1_PORT (n : Nat) : Fld := ⟨0x0409 + 0x40 * n, 13, 2⟩
def FM_SVC1_SLOT_L (n : Nat) : Fld := ⟨0x0409 + 0x40 * n, 8, 5⟩
def FM_SVC1_SLOT_R (n : Nat) : Fld := ⟨0x0409 + 0x40 * n, 0, 5⟩
def FM_SVC2_AF_MODE (n : Nat) : Fld := ⟨0x040A + 0x40 * n, 14, 2⟩
def FM_SVC2_REG_ALLOW (n : Nat) : Fld := ⟨0x040A + 0x40 * n, 13, 1⟩
def FM_SVC2_USE_LIST (n : Nat) : Fld := ⟨0x040A + 0x40 * n, 12, 1⟩
def FM_SVC2_USE_TABLE (n : Nat) : Fld := ⟨0x040A + 0x40 * n, 11, 1⟩
def FM_SVC2_PARTNER (n : Nat) : Fld := ⟨0x040A + 0x40 * n, 0, 7⟩
def FM_SVC3_AF_TABLE (n : Nat) : Fld := ⟨0x040B + 0x40 * n, 8, 8⟩
def FM_SVC3_MARGIN (n : Nat) : Fld := ⟨0x040B + 0x40 * n, 0, 8⟩
def FM_SVC4_DWELL (n : Nat) : Fld := ⟨0x040C + 0x40 * n, 8, 8⟩
def FM_SVC4_RAMP (n : Nat) : Fld := ⟨0x040C + 0x40 * n, 0, 8⟩
def FM_SVC5_EXPECT_PI (n : Nat) : Fld := ⟨0x040D + 0x40 * n, 0, 16⟩
def FM_SVC6_CONFIRM (n : Nat) : Fld := ⟨0x040E + 0x40 * n, 8, 8⟩
def FM_SVC6_ABORT (n : Nat) : Fld := ⟨0x040E + 0x40 * n, 1, 1⟩
def FM_SVC6_GO (n : Nat) : Fld := ⟨0x040E + 0x40 * n, 0, 1⟩
def FM_SVC7_RDS_SYNC (n : Nat) : Fld := ⟨0x040F + 0x40 * n, 15, 1⟩
def FM_SVC7_STEREO (n : Nat) : Fld := ⟨0x040F + 0x40 * n, 14, 1⟩
def FM_SVC7_ALARM (n : Nat) : Fld := ⟨0x040F + 0x40 * n, 13, 1⟩
def FM_SVC7_XF_STATE (n : Nat) : Fld := ⟨0x040F + 0x40 * n, 10, 3⟩
def FM_SVC7_XF_RESULT (n : Nat) : Fld := ⟨0x040F + 0x40 * n, 6, 4⟩
def FM_SVC7_PI_MATCH (n : Nat) : Fld := ⟨0x040F + 0x40 * n, 5, 1⟩
def FM_SVC7_XF_DONE_EV (n : Nat) : Fld := ⟨0x040F + 0x40 * n, 4, 1⟩
def FM_SVC7_AF_SWITCH_EV (n : Nat) : Fld := ⟨0x040F + 0x40 * n, 3, 1⟩
def FM_SVC7_ALARM_EV (n : Nat) : Fld := ⟨0x040F + 0x40 * n, 2, 1⟩
def FM_SVC7_PI_CHANGE_EV (n : Nat) : Fld := ⟨0x040F + 0x40 * n, 1, 1⟩
def FM_SVC7_TEST_EV (n : Nat) : Fld := ⟨0x040F + 0x40 * n, 0, 1⟩
def AM_SVC0_DETECT (n : Nat) : Fld := ⟨0x0408 + 0x40 * n, 15, 1⟩
def AM_SVC0_BW (n : Nat) : Fld := ⟨0x0408 + 0x40 * n, 11, 4⟩
def AM_SVC2_PARTNER (n : Nat) : Fld := ⟨0x040A + 0x40 * n, 0, 7⟩
def AM_SVC3_DEPTH_POS (n : Nat) : Fld := ⟨0x040B + 0x40 * n, 0, 16⟩
def AM_SVC4_DEPTH_NEG (n : Nat) : Fld := ⟨0x040C + 0x40 * n, 0, 16⟩
def AM_SVC5_RAMP (n : Nat) : Fld := ⟨0x040D + 0x40 * n, 0, 8⟩
def AM_SVC7_CARRIER_LOCK (n : Nat) : Fld := ⟨0x040F + 0x40 * n, 15, 1⟩
def AM_SVC7_XF_STATE (n : Nat) : Fld := ⟨0x040F + 0x40 * n, 10, 3⟩
def AM_SVC7_XF_RESULT (n : Nat) : Fld := ⟨0x040F + 0x40 * n, 6, 4⟩
def AM_SVC7_XF_DONE_EV (n : Nat) : Fld := ⟨0x040F + 0x40 * n, 4, 1⟩
def DAB_SVC0_TMODE (n : Nat) : Fld := ⟨0x0408 + 0x40 * n, 13, 3⟩
def DAB_SVC0_FIC_OUT (n : Nat) : Fld := ⟨0x0408 + 0x40 * n, 12, 1⟩
def DAB_SVC0_AF_MODE (n : Nat) : Fld := ⟨0x0408 + 0x40 * n, 10, 2⟩
def DAB_SVC0_ALARM_REQ_AL (n : Nat) : Fld := ⟨0x0408 + 0x40 * n, 9, 1⟩
def DAB_SVC0_DG_ENABLE (n : Nat) : Fld := ⟨0x0408 + 0x40 * n, 8, 1⟩
def DAB_SVC0_USE_LIST (n : Nat) : Fld := ⟨0x0408 + 0x40 * n, 7, 1⟩
def DAB_SVC0_DG_SUBCH (n : Nat) : Fld := ⟨0x0408 + 0x40 * n, 0, 6⟩
def DAB_SVC1_DG_CRC_EV (n : Nat) : Fld := ⟨0x0409 + 0x40 * n, 15, 1⟩
def DAB_SVC1_DG_MALFORMED_EV (n : Nat) : Fld := ⟨0x0409 + 0x40 * n, 14, 1⟩
def DAB_SVC1_DG_PADDR (n : Nat) : Fld := ⟨0x0409 + 0x40 * n, 0, 10⟩
def DAB_SVC2_EXPECT_EID (n : Nat) : Fld := ⟨0x040A + 0x40 * n, 0, 16⟩
def DAB_SVC3_AF_TABLE (n : Nat) : Fld := ⟨0x040B + 0x40 * n, 8, 8⟩
def DAB_SVC3_MARGIN (n : Nat) : Fld := ⟨0x040B + 0x40 * n, 0, 8⟩
def DAB_SVC4_DWELL (n : Nat) : Fld := ⟨0x040C + 0x40 * n, 8, 8⟩
def DAB_SVC4_PARTNER (n : Nat) : Fld := ⟨0x040C + 0x40 * n, 0, 7⟩
def DAB_SVC5_SYNC (n : Nat) : Fld := ⟨0x040D + 0x40 * n, 14, 2⟩
def DAB_SVC5_TMODE_FOUND (n : Nat) : Fld := ⟨0x040D + 0x40 * n, 11, 3⟩
def DAB_SVC5_EID_MATCH (n : Nat) : Fld := ⟨0x040D + 0x40 * n, 10, 1⟩
def DAB_SVC5_ALARM (n : Nat) : Fld := ⟨0x040D + 0x40 * n, 9, 1⟩
def DAB_SVC5_AL_FLAG (n : Nat) : Fld := ⟨0x040D + 0x40 * n, 8, 1⟩
def DAB_SVC5_RECONFIG_PENDING (n : Nat) : Fld := ⟨0x040D + 0x40 * n, 7, 1⟩
def DAB_SVC5_ALARM_EV (n : Nat) : Fld := ⟨0x040D + 0x40 * n, 4, 1⟩
def DAB_SVC5_EID_CHANGE_EV (n : Nat) : Fld := ⟨0x040D + 0x40 * n, 3, 1⟩
def DAB_SVC5_RECONFIG_EV (n : Nat) : Fld := ⟨0x040D + 0x40 * n, 2, 1⟩
def DAB_SVC5_SYNC_LOST_EV (n : Nat) : Fld := ⟨0x040D + 0x40 * n, 1, 1⟩
def DAB_SVC7_XF_STATE (n : Nat) : Fld := ⟨0x040F + 0x40 * n, 10, 3⟩
def DAB_SVC7_XF_RESULT (n : Nat) : Fld := ⟨0x040F + 0x40 * n, 6, 4⟩
def DAB_SVC7_XF_DONE_EV (n : Nat) : Fld := ⟨0x040F + 0x40 * n, 4, 1⟩
def DAB_SVC7_AF_SWITCH_EV (n : Nat) : Fld := ⟨0x040F + 0x40 * n, 3, 1⟩
def DRM_SVC0_RMODE (n : Nat) : Fld := ⟨0x0408 + 0x40 * n, 13, 3⟩
def DRM_SVC0_FACSDC_OUT (n : Nat) : Fld := ⟨0x0408 + 0x40 * n, 12, 1⟩
def DRM_SVC0_AF_MODE (n : Nat) : Fld := ⟨0x0408 + 0x40 * n, 10, 2⟩
def DRM_SVC0_USE_LIST (n : Nat) : Fld := ⟨0x0408 + 0x40 * n, 9, 1⟩
def DRM_SVC1_EXPECT_SID_LO (n : Nat) : Fld := ⟨0x0409 + 0x40 * n, 0, 16⟩
def DRM_SVC2_EXPECT_SID_HI (n : Nat) : Fld := ⟨0x040A + 0x40 * n, 0, 8⟩
def DRM_SVC5_SYNC (n : Nat) : Fld := ⟨0x040D + 0x40 * n, 14, 2⟩
def DRM_SVC5_RMODE_FOUND (n : Nat) : Fld := ⟨0x040D + 0x40 * n, 11, 3⟩
def DRM_SVC5_SO_FOUND (n : Nat) : Fld := ⟨0x040D + 0x40 * n, 8, 3⟩
def DRM_SVC5_SID_MATCH (n : Nat) : Fld := ⟨0x040D + 0x40 * n, 7, 1⟩
def DRM_SVC5_RECONFIG_PENDING (n : Nat) : Fld := ⟨0x040D + 0x40 * n, 6, 1⟩
def DRM_SVC5_SID_CHANGE_EV (n : Nat) : Fld := ⟨0x040D + 0x40 * n, 3, 1⟩
def DRM_SVC5_RECONFIG_EV (n : Nat) : Fld := ⟨0x040D + 0x40 * n, 2, 1⟩
def DRM_SVC5_SYNC_LOST_EV (n : Nat) : Fld := ⟨0x040D + 0x40 * n, 1, 1⟩
def T2_SVC0_PROFILE (n : Nat) : Fld := ⟨0x0408 + 0x40 * n, 15, 1⟩
def T2_SVC0_L1_OUT (n : Nat) : Fld := ⟨0x0408 + 0x40 * n, 14, 1⟩
def T2_SVC0_PLP_ALL (n : Nat) : Fld := ⟨0x0408 + 0x40 * n, 13, 1⟩
def T2_SVC0_NULL_REINSERT (n : Nat) : Fld := ⟨0x0408 + 0x40 * n, 12, 1⟩
def T2_SVC0_PLP_EN (n : Nat) : Fld := ⟨0x0408 + 0x40 * n, 0, 8⟩
def T2_SVC1_SLOT_ODD (n : Nat) : Fld := ⟨0x0409 + 0x40 * n, 8, 8⟩
def T2_SVC1_SLOT_EVEN (n : Nat) : Fld := ⟨0x0409 + 0x40 * n, 0, 8⟩
def T2_SVC2_SLOT_ODD (n : Nat) : Fld := ⟨0x040A + 0x40 * n, 8, 8⟩
def T2_SVC2_SLOT_EVEN (n : Nat) : Fld := ⟨0x040A + 0x40 * n, 0, 8⟩
def T2_SVC3_SLOT_ODD (n : Nat) : Fld := ⟨0x040B + 0x40 * n, 8, 8⟩
def T2_SVC3_SLOT_EVEN (n : Nat) : Fld := ⟨0x040B + 0x40 * n, 0, 8⟩
def T2_SVC4_SLOT_ODD (n : Nat) : Fld := ⟨0x040C + 0x40 * n, 8, 8⟩
def T2_SVC4_SLOT_EVEN (n : Nat) : Fld := ⟨0x040C + 0x40 * n, 0, 8⟩
def T2_SVC5_DG_ENABLE (n : Nat) : Fld := ⟨0x040D + 0x40 * n, 15, 1⟩
def T2_SVC5_DG_PID (n : Nat) : Fld := ⟨0x040D + 0x40 * n, 0, 13⟩
def T2_SVC6_DG_PLP (n : Nat) : Fld := ⟨0x040E + 0x40 * n, 8, 8⟩
def T2_SVC6_DG_TABLE_ID (n : Nat) : Fld := ⟨0x040E + 0x40 * n, 0, 8⟩
def T2_SVC7_SYNC (n : Nat) : Fld := ⟨0x040F + 0x40 * n, 14, 2⟩
def T2_SVC7_EWS (n : Nat) : Fld := ⟨0x040F + 0x40 * n, 13, 1⟩
def T2_SVC7_EWS_EV (n : Nat) : Fld := ⟨0x040F + 0x40 * n, 12, 1⟩
def T2_SVC7_L1_CHANGE_EV (n : Nat) : Fld := ⟨0x040F + 0x40 * n, 11, 1⟩
def T2_SVC7_SYNC_LOST_EV (n : Nat) : Fld := ⟨0x040F + 0x40 * n, 10, 1⟩
def T2_SVC7_DG_CRC_EV (n : Nat) : Fld := ⟨0x040F + 0x40 * n, 9, 1⟩
def T2_SVC7_DG_MALFORMED_EV (n : Nat) : Fld := ⟨0x040F + 0x40 * n, 8, 1⟩
def T2_SVC7_PLP_ACTIVE (n : Nat) : Fld := ⟨0x040F + 0x40 * n, 0, 8⟩
def DVBT_SVC0_HP_LP (n : Nat) : Fld := ⟨0x0408 + 0x40 * n, 15, 1⟩
def DVBT_SVC0_L1_OUT (n : Nat) : Fld := ⟨0x0408 + 0x40 * n, 14, 1⟩
def DVBT_SVC6_DG_TABLE_ID (n : Nat) : Fld := ⟨0x040E + 0x40 * n, 0, 8⟩
def DVBT_SVC7_SYNC (n : Nat) : Fld := ⟨0x040F + 0x40 * n, 14, 2⟩
def DVBT_SVC7_STREAM_ACTIVE (n : Nat) : Fld := ⟨0x040F + 0x40 * n, 0, 1⟩
def DVB_EWS_CFG_SOURCE : Fld := ⟨0x0060, 14, 2⟩
def DVB_EWS_CFG_POS : Fld := ⟨0x0060, 0, 8⟩
def MSR_CFG_PLANE : Fld := ⟨0x0070, 15, 1⟩
def MSR_CFG_INTAKE_PERIOD : Fld := ⟨0x0070, 0, 10⟩
def MSR_TCXO_DRIFT_DRIFT : Fld := ⟨0x0071, 0, 16⟩
def MSR_PRECISION_BITS : Fld := ⟨0x0072, 0, 16⟩
def MSR_SEL_BERTH : Fld := ⟨0x0073, 0, 7⟩
def MSR_PERIOD_PERIOD : Fld := ⟨0x0074, 0, 10⟩
def MSR_ECHO_ECHO_EN : Fld := ⟨0x0075, 15, 1⟩
def MSR_ECHO_CAND_EN : Fld := ⟨0x0075, 14, 1⟩
def MSR_ECHO_MAX : Fld := ⟨0x0075, 8, 4⟩
def MSR_ECHO_THRESH : Fld := ⟨0x0075, 0, 6⟩
def MSR_WINDOW_LAST : Fld := ⟨0x0076, 0, 16⟩
def INT_EXT_DELAY_DELAY (n : Nat) : Fld := ⟨0x020B + 0x20 * (n - 1), 0, 16⟩
def INT_EXT_LOSS_LOSS (k j : Nat) : Fld := ⟨0x0210 + 0x20 * (k - 1) + j, 0, 16⟩
def HLD_SEL_HOLD : Fld := ⟨0x2000, 0, 7⟩
def HLD_CAP_CAP : Fld := ⟨0x2001, 0, 16⟩
def HLD_HIGH_HIGH : Fld := ⟨0x2002, 0, 16⟩
def HLD_LOW_LOW : Fld := ⟨0x2003, 0, 16⟩
def HLD_COMMIT_PENDING : Fld := ⟨0x2004, 15, 1⟩
def HLD_COMMIT_GROUP_OPEN : Fld := ⟨0x2004, 14, 1⟩
def HLD_FILL_FILL : Fld := ⟨0x2005, 0, 16⟩
def HLD_PEAK_PEAK : Fld := ⟨0x2006, 0, 16⟩
def HLD_STATUS_ABOVE : Fld := ⟨0x2007, 15, 1⟩
def HLD_STATUS_FULL : Fld := ⟨0x2007, 14, 1⟩
def HLD_STATUS_HIGH_EV : Fld := ⟨0x2007, 6, 1⟩
def HLD_STATUS_LOW_EV : Fld := ⟨0x2007, 5, 1⟩
def HLD_STATUS_OVERRUN_EV : Fld := ⟨0x2007, 4, 1⟩
def HLD_STATUS_UNDERRUN_EV : Fld := ⟨0x2007, 3, 1⟩
def HLD_STATUS_PARK_EV : Fld := ⟨0x2007, 2, 1⟩
def HLD_STATUS_DROP_EV : Fld := ⟨0x2007, 1, 1⟩
def HLD_CROSS_HIGH : Fld := ⟨0x2008, 8, 8⟩
def HLD_CROSS_LOW : Fld := ⟨0x2008, 0, 8⟩
def HLD_NOTIFY_HIGH_EN : Fld := ⟨0x2009, 1, 1⟩
def HLD_NOTIFY_LOW_EN : Fld := ⟨0x2009, 0, 1⟩
def HLD_PARKS_COUNT : Fld := ⟨0x200A, 0, 16⟩
def HLD_DROPS_COUNT : Fld := ⟨0x200B, 0, 16⟩
def HLD_SUMMARY_EVENTS : Fld := ⟨0x2010, 0, 128⟩
def HLD_EPOCH_EPOCH : Fld := ⟨0x2020, 0, 32⟩
def HLD_SEQ_SEL_PRODUCER : Fld := ⟨0x2022, 0, 8⟩
def HLD_SEQ_NEXT_NEXT : Fld := ⟨0x2023, 0, 32⟩
def HLD_SEQ_RELEASED_LAST : Fld := ⟨0x2025, 0, 32⟩
def HLD_CUSTODY_REBUILDING : Fld := ⟨0x2027, 15, 1⟩
def HLD_CUSTODY_REBUILT_EV : Fld := ⟨0x2027, 2, 1⟩
def HLD_CUSTODY_LOST_EV : Fld := ⟨0x2027, 1, 1⟩
def HLD_CUSTODY_RESERVE_EV : Fld := ⟨0x2027, 0, 1⟩
def HLD_HELD_ITEMS_COUNT : Fld := ⟨0x2028, 0, 16⟩
def QY_CTRL_RUN (n : Nat) : Fld := ⟨0x2100 + 0x10 * n, 15, 1⟩
def QY_CTRL_STOPPED (n : Nat) : Fld := ⟨0x2100 + 0x10 * n, 14, 1⟩
def QY_CTRL_HOLD_EN (n : Nat) : Fld := ⟨0x2100 + 0x10 * n, 13, 1⟩
def QY_STATUS_HOLD_IN (n : Nat) : Fld := ⟨0x2101 + 0x10 * n, 15, 1⟩
def QY_STATUS_SENDING (n : Nat) : Fld := ⟨0x2101 + 0x10 * n, 14, 1⟩
def QY_STATUS_HELD_OFF (n : Nat) : Fld := ⟨0x2101 + 0x10 * n, 13, 1⟩
def QY_STATUS_HOLD_LONG_EV (n : Nat) : Fld := ⟨0x2101 + 0x10 * n, 2, 1⟩
def QY_STATUS_RESEND_EV (n : Nat) : Fld := ⟨0x2101 + 0x10 * n, 1, 1⟩
def QY_HOLD_LIMIT_LIMIT (n : Nat) : Fld := ⟨0x2102 + 0x10 * n, 0, 16⟩
def QY_BUSY_BUSY (n : Nat) : Fld := ⟨0x2103 + 0x10 * n, 0, 16⟩
def QY_HELD_HELD (n : Nat) : Fld := ⟨0x2104 + 0x10 * n, 0, 16⟩
def QY_FRAMES_COUNT (n : Nat) : Fld := ⟨0x2105 + 0x10 * n, 0, 32⟩
def QY_COMMIT_PENDING (n : Nat) : Fld := ⟨0x2107 + 0x10 * n, 15, 1⟩
def QY_COMMIT_GROUP_OPEN (n : Nat) : Fld := ⟨0x2107 + 0x10 * n, 14, 1⟩
def QY_ROUTE_RECORDS (n : Nat) : Fld := ⟨0x2140 + n, 4, 2⟩
def QY_ROUTE_DATA (n : Nat) : Fld := ⟨0x2140 + n, 0, 2⟩
def QY_TYPE_ROUTE_MODE (n : Nat) : Fld := ⟨0x21B1 + (n - 1), 0, 3⟩
def LAND_CTRL_RUN : Fld := ⟨0x2200, 15, 1⟩
def LAND_CTRL_STOPPED : Fld := ⟨0x2200, 14, 1⟩
def LAND_COMMIT_PENDING : Fld := ⟨0x2201, 15, 1⟩
def LAND_COMMIT_GROUP_OPEN : Fld := ⟨0x2201, 14, 1⟩
def LAND_STATUS_ALIGNED : Fld := ⟨0x2202, 15, 1⟩
def LAND_STATUS_STOP : Fld := ⟨0x2202, 14, 1⟩
def LAND_STATUS_FULL : Fld := ⟨0x2202, 13, 1⟩
def LAND_STATUS_OVERRUN : Fld := ⟨0x2202, 7, 1⟩
def LAND_STATUS_CRC_EV : Fld := ⟨0x2202, 6, 1⟩
def LAND_STATUS_HEADER_EV : Fld := ⟨0x2202, 5, 1⟩
def LAND_STATUS_DUP_EV : Fld := ⟨0x2202, 4, 1⟩
def LAND_STATUS_FRAG_EV : Fld := ⟨0x2202, 3, 1⟩
def LAND_STATUS_CODE_EV : Fld := ⟨0x2202, 2, 1⟩
def LAND_STATUS_ALIGN_LOST_EV : Fld := ⟨0x2202, 1, 1⟩
def LAND_ACCEPTED_COUNT : Fld := ⟨0x2203, 0, 32⟩
def LAND_DISCARDS_CRC : Fld := ⟨0x2205, 8, 8⟩
def LAND_DISCARDS_OVERRUN : Fld := ⟨0x2205, 0, 8⟩
def LAND_OTHER_HEADER : Fld := ⟨0x2206, 8, 8⟩
def LAND_OTHER_DUPS : Fld := ⟨0x2206, 0, 8⟩
def LAND_CHAN_SEL_CHANNEL : Fld := ⟨0x2207, 0, 2⟩
def LAND_CHAN_EPOCH_EPOCH : Fld := ⟨0x2208, 0, 32⟩
def LAND_CHAN_SEQ_SEQ : Fld := ⟨0x220A, 0, 32⟩
def AU_CTRL_RUN (n : Nat) : Fld := ⟨0x2300 + 0x10 * n, 15, 1⟩
def AU_CTRL_STOPPED (n : Nat) : Fld := ⟨0x2300 + 0x10 * n, 14, 1⟩
def AU_CTRL_MASTER (n : Nat) : Fld := ⟨0x2300 + 0x10 * n, 13, 1⟩
def AU_CTRL_MCLK_EN (n : Nat) : Fld := ⟨0x2300 + 0x10 * n, 12, 1⟩
def AU_CTRL_MUTE (n : Nat) : Fld := ⟨0x2300 + 0x10 * n, 11, 1⟩
def AU_CTRL_IDLE_HIZ (n : Nat) : Fld := ⟨0x2300 + 0x10 * n, 10, 1⟩
def AU_CTRL_FS_WIDTH (n : Nat) : Fld := ⟨0x2300 + 0x10 * n, 9, 1⟩
def AU_CTRL_FS_POL (n : Nat) : Fld := ⟨0x2300 + 0x10 * n, 8, 1⟩
def AU_CTRL_BCLK_INV (n : Nat) : Fld := ⟨0x2300 + 0x10 * n, 7, 1⟩
def AU_CFG_FS (n : Nat) : Fld := ⟨0x2301 + 0x10 * n, 13, 3⟩
def AU_CFG_SLOTS (n : Nat) : Fld := ⟨0x2301 + 0x10 * n, 8, 5⟩
def AU_CFG_WIDTH (n : Nat) : Fld := ⟨0x2301 + 0x10 * n, 6, 2⟩
def AU_CFG_OFFSET (n : Nat) : Fld := ⟨0x2301 + 0x10 * n, 0, 5⟩
def AU_STATUS_CLOCK_OK (n : Nat) : Fld := ⟨0x2302 + 0x10 * n, 15, 1⟩
def AU_STATUS_OUT_STATE (n : Nat) : Fld := ⟨0x2302 + 0x10 * n, 12, 3⟩
def AU_STATUS_UNSUPPORTED (n : Nat) : Fld := ⟨0x2302 + 0x10 * n, 11, 1⟩
def AU_STATUS_UNDERRUN (n : Nat) : Fld := ⟨0x2302 + 0x10 * n, 6, 1⟩
def AU_STATUS_LATE_EV (n : Nat) : Fld := ⟨0x2302 + 0x10 * n, 5, 1⟩
def AU_STATUS_CLK_STOP_EV (n : Nat) : Fld := ⟨0x2302 + 0x10 * n, 4, 1⟩
def AU_STATUS_GLITCH_EV (n : Nat) : Fld := ⟨0x2302 + 0x10 * n, 3, 1⟩
def AU_STATUS_RATE_EV (n : Nat) : Fld := ⟨0x2302 + 0x10 * n, 2, 1⟩
def AU_STATUS_START_LATE_EV (n : Nat) : Fld := ⟨0x2302 + 0x10 * n, 1, 1⟩
def AU_CLOCK_FS_FOUND (n : Nat) : Fld := ⟨0x2303 + 0x10 * n, 13, 3⟩
def AU_RATE_RATE (n : Nat) : Fld := ⟨0x2304 + 0x10 * n, 0, 32⟩
def AU_POSITION_FRAME (n : Nat) : Fld := ⟨0x2306 + 0x10 * n, 0, 48⟩
def AU_LATE_SLOTS (n : Nat) : Fld := ⟨0x2309 + 0x10 * n, 0, 32⟩
def AU_COUNTS_UNDERRUNS (n : Nat) : Fld := ⟨0x230B + 0x10 * n, 8, 8⟩
def AU_COUNTS_GLITCHES (n : Nat) : Fld := ⟨0x230B + 0x10 * n, 0, 8⟩
def AU_DIV_DIV (n : Nat) : Fld := ⟨0x230C + 0x10 * n, 0, 11⟩
def AU_COMMIT_PENDING (n : Nat) : Fld := ⟨0x230D + 0x10 * n, 15, 1⟩
def AU_COMMIT_GROUP_OPEN (n : Nat) : Fld := ⟨0x230D + 0x10 * n, 14, 1⟩
def AU_START_PORTS : Fld := ⟨0x2340, 0, 4⟩
def AU_START_AT_SECONDS : Fld := ⟨0x2341, 0, 34⟩
def AU_LATENCY_L_AU : Fld := ⟨0x2344, 0, 8⟩
def BOND_CTRL_TAMPER_EN : Fld := ⟨0x2400, 15, 1⟩
def BOND_CMD_CONFIRM : Fld := ⟨0x2401, 8, 8⟩
def BOND_CMD_SLOT : Fld := ⟨0x2401, 3, 5⟩
def BOND_CMD_OP : Fld := ⟨0x2401, 0, 3⟩
def BOND_STATUS_ENGINE_OK : Fld := ⟨0x2402, 15, 1⟩
def BOND_STATUS_ENTROPY_FAIL : Fld := ⟨0x2402, 14, 1⟩
def BOND_STATUS_KEK_LOCKED : Fld := ⟨0x2402, 13, 1⟩
def BOND_STATUS_ERASED : Fld := ⟨0x2402, 12, 1⟩
def BOND_STATUS_TAG_FAIL : Fld := ⟨0x2402, 7, 1⟩
def BOND_STATUS_LENGTH_EV : Fld := ⟨0x2402, 6, 1⟩
def BOND_STATUS_KEY_GONE_EV : Fld := ⟨0x2402, 5, 1⟩
def BOND_STATUS_DUP_EV : Fld := ⟨0x2402, 4, 1⟩
def BOND_STATUS_CMD_REFUSED : Fld := ⟨0x2402, 3, 1⟩
def BOND_STATUS_UNWRAP_EV : Fld := ⟨0x2402, 2, 1⟩
def BOND_STATUS_IV_EVICT_EV : Fld := ⟨0x2402, 1, 1⟩
def BOND_KEY_CFG_SIZE : Fld := ⟨0x2403, 8, 1⟩
def BOND_KEY_CFG_USAGE : Fld := ⟨0x2403, 0, 2⟩
def BOND_KEY_WRAP_WRAP (n : Nat) : Fld := ⟨0x2404 + n, 0, 16⟩
def BOND_SLOT_SEL_SLOT : Fld := ⟨0x2418, 0, 5⟩
def BOND_SLOT_INFO_STATE : Fld := ⟨0x2419, 14, 2⟩
def BOND_SLOT_INFO_SIZE : Fld := ⟨0x2419, 13, 1⟩
def BOND_SLOT_INFO_USAGE : Fld := ⟨0x2419, 11, 2⟩
def BOND_SLOT_INFO_IN_FLIGHT : Fld := ⟨0x2419, 0, 7⟩
def BOND_SLOT_GEN_GENERATION : Fld := ⟨0x241A, 0, 16⟩
def BOND_KEK_KCV_KCV : Fld := ⟨0x241B, 0, 24⟩
def BOND_ALARM_CAUSES : Fld := ⟨0x241D, 0, 5⟩
def BOND_IV_HOLD_SECONDS : Fld := ⟨0x241E, 0, 16⟩
def BOND_IV_FILL_ENTRIES : Fld := ⟨0x241F, 0, 13⟩
def BOND_KEK_DATA_KEK (n : Nat) : Fld := ⟨0x2420 + n, 0, 16⟩
def BOND_ACCEPTS_COUNT : Fld := ⟨0x2430, 0, 32⟩
def BOND_REJECTS_COUNT : Fld := ⟨0x2432, 0, 32⟩
def BOND_DUPS_COUNT : Fld := ⟨0x2434, 0, 16⟩
def BOND_LENGTH_ERRORS_COUNT : Fld := ⟨0x2435, 0, 16⟩
def CAP_CTRL_RUN (n : Nat) : Fld := ⟨0x2440 + 0x10 * n, 15, 1⟩
def CAP_CTRL_STOPPED (n : Nat) : Fld := ⟨0x2440 + 0x10 * n, 14, 1⟩
def CAP_CTRL_FILLING (n : Nat) : Fld := ⟨0x2440 + 0x10 * n, 13, 1⟩
def CAP_CFG_BERTH (n : Nat) : Fld := ⟨0x2441 + 0x10 * n, 9, 7⟩
def CAP_CFG_PAIR (n : Nat) : Fld := ⟨0x2441 + 0x10 * n, 4, 5⟩
def CAP_CFG_TYPES (n : Nat) : Fld := ⟨0x2441 + 0x10 * n, 2, 2⟩
def CAP_UNIT_UNIT16 (n : Nat) : Fld := ⟨0x2442 + 0x10 * n, 0, 13⟩
def CAP_FLUSH_MS (n : Nat) : Fld := ⟨0x2443 + 0x10 * n, 0, 16⟩
def CAP_DUN_DUN (n : Nat) : Fld := ⟨0x2444 + 0x10 * n, 0, 64⟩
def CAP_UNITS_COUNT (n : Nat) : Fld := ⟨0x2448 + 0x10 * n, 0, 32⟩
def CAP_COMMIT_PENDING (n : Nat) : Fld := ⟨0x244A + 0x10 * n, 15, 1⟩
def CAP_COMMIT_GROUP_OPEN (n : Nat) : Fld := ⟨0x244A + 0x10 * n, 14, 1⟩
def PLT_CTRL_RUN : Fld := ⟨0x2500, 15, 1⟩
def PLT_CTRL_STOPPED : Fld := ⟨0x2500, 14, 1⟩
def PLT_CTRL_TX_BUSY : Fld := ⟨0x2500, 13, 1⟩
def PLT_CTRL_LISTENING : Fld := ⟨0x2500, 12, 1⟩
def PLT_COMMIT_PENDING : Fld := ⟨0x2501, 15, 1⟩
def PLT_COMMIT_GROUP_OPEN : Fld := ⟨0x2501, 14, 1⟩
def PLT_STATUS_PAIR_READY : Fld := ⟨0x2502, 15, 1⟩
def PLT_STATUS_CAPTURE_OVERRUN : Fld := ⟨0x2502, 7, 1⟩
def PLT_STATUS_CLAMP_EV : Fld := ⟨0x2502, 6, 1⟩
def PLT_STATUS_LATE_EV : Fld := ⟨0x2502, 5, 1⟩
def PLT_STATUS_NO_BUDGET_EV : Fld := ⟨0x2502, 4, 1⟩
def PLT_STATUS_BUSY_EV : Fld := ⟨0x2502, 3, 1⟩
def PLT_STATUS_DISTURBED_EV : Fld := ⟨0x2502, 2, 1⟩
def PLT_STATUS_PERIODIC_SKIP_EV : Fld := ⟨0x2502, 1, 1⟩
def PLT_TX_CFG_PREAMBLE : Fld := ⟨0x2503, 10, 6⟩
def PLT_TX_CFG_WHITEN : Fld := ⟨0x2503, 9, 1⟩
def PLT_TX_CFG_RATE : Fld := ⟨0x2503, 8, 1⟩
def PLT_TX_CFG_POWER : Fld := ⟨0x2503, 0, 7⟩
def PLT_RX_CFG_CAPTURE : Fld := ⟨0x2504, 12, 4⟩
def PLT_RX_CFG_REPORT_FAILED : Fld := ⟨0x2504, 11, 1⟩
def PLT_RX_CFG_CCA_THRESH : Fld := ⟨0x2504, 0, 8⟩
def PLT_DUTY_BUDGET : Fld := ⟨0x2505, 0, 16⟩
def PLT_RESERVE_PERCENT : Fld := ⟨0x2506, 0, 8⟩
def PLT_HOLD_LIMIT : Fld := ⟨0x2507, 0, 16⟩
def PLT_WAIT_SECONDS : Fld := ⟨0x2508, 0, 16⟩
def PLT_RELAY_LISTEN_MS : Fld := ⟨0x2509, 6, 10⟩
def PLT_RELAY_CHANNEL : Fld := ⟨0x2509, 0, 6⟩
def PLT_PERIODIC_EN_ENABLE : Fld := ⟨0x250A, 0, 32⟩
def PLT_DUTY_USED_USED : Fld := ⟨0x250C, 0, 16⟩
def PLT_DUTY_LEFT_LEFT : Fld := ⟨0x250D, 0, 16⟩
def PLT_LAST_RESULT : Fld := ⟨0x250E, 12, 4⟩
def PLT_LAST_FRAGMENTS : Fld := ⟨0x250E, 8, 4⟩
def PLT_LAST_SOURCE : Fld := ⟨0x250E, 0, 8⟩
def PLT_LAST_SEQ_SEQ : Fld := ⟨0x250F, 0, 32⟩
def PLT_SENT_COUNT : Fld := ⟨0x2511, 0, 32⟩
def PLT_REJECTS_A_LATE : Fld := ⟨0x2513, 8, 8⟩
def PLT_REJECTS_A_NO_BUDGET : Fld := ⟨0x2513, 0, 8⟩
def PLT_REJECTS_B_BUSY : Fld := ⟨0x2514, 8, 8⟩
def PLT_REJECTS_B_OTHER : Fld := ⟨0x2514, 0, 8⟩
def PLT_TX_LEVEL_LEVEL : Fld := ⟨0x2515, 0, 16⟩
def PLT_PINS_TRSW1_POL : Fld := ⟨0x2516, 1, 1⟩
def PLT_PINS_TRSW0_POL : Fld := ⟨0x2516, 0, 1⟩
def PRX_SVC0_CHANNEL (n : Nat) : Fld := ⟨0x0408 + 0x40 * n, 10, 6⟩
def PRX_SVC0_RATE (n : Nat) : Fld := ⟨0x0408 + 0x40 * n, 9, 1⟩
def PRX_SVC1_STATE (n : Nat) : Fld := ⟨0x0409 + 0x40 * n, 13, 3⟩
def PRX_SVC1_LISTEN_OPEN (n : Nat) : Fld := ⟨0x0409 + 0x40 * n, 12, 1⟩
def PRX_SVC1_FRAME_EV (n : Nat) : Fld := ⟨0x0409 + 0x40 * n, 6, 1⟩
def PRX_SVC1_FCS_FAIL_EV (n : Nat) : Fld := ⟨0x0409 + 0x40 * n, 5, 1⟩
def PRX_SVC1_PREEMPT_EV (n : Nat) : Fld := ⟨0x0409 + 0x40 * n, 4, 1⟩
def PRX_SVC1_FALSE_PREAMBLE_EV (n : Nat) : Fld := ⟨0x0409 + 0x40 * n, 3, 1⟩
def PRX_SVC1_BLANKED_EV (n : Nat) : Fld := ⟨0x0409 + 0x40 * n, 2, 1⟩
def PRX_SVC1_CAPTURE_OVERRUN_EV (n : Nat) : Fld := ⟨0x0409 + 0x40 * n, 1, 1⟩
def PRX_SVC1_PHR_INVALID_EV (n : Nat) : Fld := ⟨0x0409 + 0x40 * n, 0, 1⟩
def PRX_SVC2_FRAMES_OK (n : Nat) : Fld := ⟨0x040A + 0x40 * n, 0, 16⟩
def PRX_SVC3_FCS_FAIL (n : Nat) : Fld := ⟨0x040B + 0x40 * n, 8, 8⟩
def PRX_SVC3_PREEMPTED (n : Nat) : Fld := ⟨0x040B + 0x40 * n, 0, 8⟩
def PRX_SVC4_FALSE_PREAMBLE (n : Nat) : Fld := ⟨0x040C + 0x40 * n, 8, 8⟩
def PRX_SVC4_BLANKED (n : Nat) : Fld := ⟨0x040C + 0x40 * n, 0, 8⟩
def PRX_SVC5_LAST_LQI (n : Nat) : Fld := ⟨0x040D + 0x40 * n, 8, 8⟩
def PRX_SVC6_LAST_FEV (n : Nat) : Fld := ⟨0x040E + 0x40 * n, 0, 16⟩
def PRX_SVC7_LAST_FOFFSET (n : Nat) : Fld := ⟨0x040F + 0x40 * n, 0, 16⟩
def ALERT_STATUS_PIN : Fld := ⟨0x0080, 15, 1⟩
def ALERT_STATUS_FROZEN : Fld := ⟨0x0080, 14, 1⟩
def ALERT_STATUS_CLEAR_PENDING : Fld := ⟨0x0080, 13, 1⟩
def ALERT_STATUS_TEST : Fld := ⟨0x0080, 12, 1⟩
def ALERT_STATUS_MODE : Fld := ⟨0x0080, 11, 1⟩
def ALERT_STATUS_KIND : Fld := ⟨0x0080, 3, 4⟩
def ALERT_STATUS_START_EV : Fld := ⟨0x0080, 1, 1⟩
def ALERT_CMD_CONFIRM : Fld := ⟨0x0081, 8, 8⟩
def ALERT_CMD_TEST : Fld := ⟨0x0081, 1, 1⟩
def ALERT_CMD_CLEAR : Fld := ⟨0x0081, 0, 1⟩
def ALERT_FIRST_KIND : Fld := ⟨0x0082, 8, 8⟩
def ALERT_FIRST_DETAIL : Fld := ⟨0x0082, 0, 8⟩
def ALERT_TIME_TIME : Fld := ⟨0x0083, 0, 64⟩
def ALERT_COUNT_COUNT : Fld := ⟨0x0087, 0, 16⟩
def URG_SEL_ENTRY : Fld := ⟨0x0088, 0, 6⟩
def URG_ENTRY_A_KIND : Fld := ⟨0x0089, 8, 8⟩
def URG_ENTRY_A_BERTH : Fld := ⟨0x0089, 0, 8⟩
def URG_ENTRY_B_ACTION : Fld := ⟨0x008A, 0, 2⟩
def URG_ENTRY_C_HOLD : Fld := ⟨0x008B, 0, 16⟩
def URG_BERTH_SEL_BERTH : Fld := ⟨0x008C, 0, 7⟩
def URG_OWN_S_OWN : Fld := ⟨0x008D, 0, 16⟩
def ERR_NEWEST_NUMBER : Fld := ⟨0x2810, 0, 32⟩
def ERR_SELECT_NUMBER : Fld := ⟨0x2812, 0, 32⟩
def ERR_ENTRY_ENTRY (n : Nat) : Fld := ⟨0x2814 + n, 0, 16⟩
def ERR_STATUS_SELECT_MISS : Fld := ⟨0x2824, 15, 1⟩
def ERR_STATUS_CLEAR_LOST : Fld := ⟨0x2824, 14, 1⟩
def ERR_STATUS_DAMAGED_EV : Fld := ⟨0x2824, 13, 1⟩
def ERR_STATUS_EXPORT_MISSED : Fld := ⟨0x2824, 8, 5⟩
def ERR_STATUS_UNREAD_LOST : Fld := ⟨0x2824, 0, 8⟩
def ERR_EXPORT_NOTICE : Fld := ⟨0x2825, 6, 1⟩
def ERR_EXPORT_MODE : Fld := ⟨0x2825, 5, 1⟩
def ERR_EXPORT_STATE : Fld := ⟨0x2825, 4, 1⟩
def ERR_EXPORT_LASTING : Fld := ⟨0x2825, 3, 1⟩
def ERR_EXPORT_TRANSIENT : Fld := ⟨0x2825, 2, 1⟩
def ERR_EXPORT_CORRECTED : Fld := ⟨0x2825, 1, 1⟩
def PROT_STATUS_SCRUB_LATE : Fld := ⟨0x2600, 15, 1⟩
def PROT_STATUS_NO_SPARE_ROW : Fld := ⟨0x2600, 14, 1⟩
def PROT_STATUS_CORR_EV : Fld := ⟨0x2600, 4, 1⟩
def PROT_STATUS_UNCORR_EV : Fld := ⟨0x2600, 3, 1⟩
def PROT_STATUS_LASTING_EV : Fld := ⟨0x2600, 2, 1⟩
def PROT_STATUS_INJECTED_EV : Fld := ⟨0x2600, 1, 1⟩
def PROT_CORRECTED_COUNT : Fld := ⟨0x2601, 0, 16⟩
def PROT_UNCORRECTABLE_COUNT : Fld := ⟨0x2602, 0, 16⟩
def PROT_SPARE_ROWS_STORE : Fld := ⟨0x2603, 0, 16⟩
def PROT_SPARE_ROWS_OTHER : Fld := ⟨0x2604, 0, 16⟩
def PROT_LANES_RETIRED : Fld := ⟨0x2605, 8, 8⟩
def PROT_LANES_SPARES : Fld := ⟨0x2605, 0, 8⟩
def PROT_PATROLS_COUNT : Fld := ⟨0x2606, 0, 16⟩
def PROT_TAKEOVERS_TAKEOVERS : Fld := ⟨0x2607, 8, 8⟩
def PROT_TAKEOVERS_MISMATCHES : Fld := ⟨0x2607, 0, 8⟩
def PROT_CRANES_RETIRED_MASK : Fld := ⟨0x2608, 0, 33⟩
def PROT_UNITS_RETIRED_MOVEMENTS : Fld := ⟨0x260B, 12, 4⟩
def PROT_UNITS_RETIRED_INTAKES : Fld := ⟨0x260B, 10, 2⟩
def PROT_UNITS_RETIRED_CONVERTERS : Fld := ⟨0x260B, 6, 4⟩
def PROT_UNITS_RETIRED_BOND : Fld := ⟨0x260B, 5, 1⟩
def PROT_UNITS_RETIRED_TXDAC : Fld := ⟨0x260B, 4, 1⟩
def PROT_CMD_CONFIRM : Fld := ⟨0x260C, 8, 8⟩
def PROT_CMD_OP : Fld := ⟨0x260C, 0, 4⟩
def PROT_CMD_UNIT_TYPE : Fld := ⟨0x260D, 12, 4⟩
def PROT_CMD_UNIT_INDEX : Fld := ⟨0x260D, 0, 12⟩
def PROT_LAST_RESULT : Fld := ⟨0x260E, 14, 2⟩
def PROT_SCRUB_PASSES_STORE : Fld := ⟨0x260F, 8, 8⟩
def PROT_SCRUB_PASSES_KEEP : Fld := ⟨0x260F, 0, 8⟩
def INJ_DETECTOR_CODE : Fld := ⟨0x2700, 0, 16⟩
def INJ_UNIT_TYPE : Fld := ⟨0x2701, 12, 4⟩
def INJ_UNIT_INDEX : Fld := ⟨0x2701, 0, 12⟩
def INJ_ADDR_MEMORY : Fld := ⟨0x2702, 28, 4⟩
def INJ_ADDR_BANK : Fld := ⟨0x2702, 22, 6⟩
def INJ_ADDR_ROW : Fld := ⟨0x2702, 12, 10⟩
def INJ_ADDR_COLUMN : Fld := ⟨0x2702, 0, 7⟩
def INJ_CFG_PERSIST : Fld := ⟨0x2704, 15, 1⟩
def INJ_CFG_BITS : Fld := ⟨0x2704, 12, 2⟩
def INJ_CFG_COUNT : Fld := ⟨0x2704, 0, 8⟩
def INJ_CMD_CONFIRM : Fld := ⟨0x2705, 8, 8⟩
def INJ_CMD_CANCEL : Fld := ⟨0x2705, 1, 1⟩
def INJ_CMD_ARM : Fld := ⟨0x2705, 0, 1⟩
def INJ_STATUS_ARMED : Fld := ⟨0x2706, 15, 1⟩
def INJ_STATUS_PERSISTING : Fld := ⟨0x2706, 14, 1⟩
def INJ_STATUS_REFUSED_EV : Fld := ⟨0x2706, 8, 1⟩
def INJ_STATUS_FIRED : Fld := ⟨0x2706, 0, 8⟩
def TW_CFG_ATTN : Fld := ⟨0x2900, 15, 1⟩
def TW_CFG_REPEAT : Fld := ⟨0x2900, 8, 4⟩
def TW_STATUS_SCL_LOW : Fld := ⟨0x2901, 15, 1⟩
def TW_STATUS_SDA_LOW : Fld := ⟨0x2901, 14, 1⟩
def TW_STATUS_ATTN_PENDING : Fld := ⟨0x2901, 13, 1⟩
def TW_STATUS_DOMAIN_OFF_EV : Fld := ⟨0x2901, 8, 1⟩
def TW_STATUS_SCL_STUCK : Fld := ⟨0x2901, 7, 1⟩
def TW_STATUS_SDA_STUCK : Fld := ⟨0x2901, 6, 1⟩
def TW_STATUS_FRAME_EV : Fld := ⟨0x2901, 5, 1⟩
def TW_STATUS_PARTIAL_EV : Fld := ⟨0x2901, 4, 1⟩
def TW_STATUS_REFUSED_EV : Fld := ⟨0x2901, 3, 1⟩
def TW_STATUS_STALE_READ_EV : Fld := ⟨0x2901, 2, 1⟩
def TW_STATUS_ABANDON_EV : Fld := ⟨0x2901, 1, 1⟩
def TW_ATTN_SRC_SOURCES : Fld := ⟨0x2902, 0, 8⟩
def TW_ATTN_EN_ENABLE : Fld := ⟨0x2903, 0, 8⟩
def TW_ADDR_ADDRESS : Fld := ⟨0x2904, 0, 7⟩
def TW_LAST_REFUSED_ADDRESS : Fld := ⟨0x2905, 0, 16⟩
def TW_COUNTS_FRAME : Fld := ⟨0x2906, 8, 8⟩
def TW_COUNTS_STALE : Fld := ⟨0x2906, 0, 8⟩
def TW_COUNTS_ATTN_SENT : Fld := ⟨0x2907, 8, 8⟩
def TW_COUNTS_ATTN_COLLIDE : Fld := ⟨0x2907, 0, 8⟩
def GLB_IDENTITY_IDENTITY : Fld := ⟨0x0000, 0, 16⟩
def GLB_REVISION_REVISION : Fld := ⟨0x0001, 0, 16⟩
def GLB_STATUS_FIXED_REFUSED : Fld := ⟨0x0002, 15, 1⟩
def GLB_STATUS_HELD_REFUSED : Fld := ⟨0x0002, 14, 1⟩
def GLB_STATUS_MODE_REFUSED : Fld := ⟨0x0002, 13, 1⟩
def GLB_STATUS_WIDE_DISCARD : Fld := ⟨0x0002, 12, 1⟩
def GLB_STATUS_VALUE_REFUSED : Fld := ⟨0x0002, 11, 1⟩
def GLB_STATUS_UNDEFINED_REFUSED : Fld := ⟨0x0002, 10, 1⟩
def DOM_CTRL_QUAY_ON : Fld := ⟨0x2A00, 2, 1⟩
def DOM_CTRL_INTAKE2_ON : Fld := ⟨0x2A00, 1, 1⟩
def DOM_CTRL_INTAKE1_ON : Fld := ⟨0x2A00, 0, 1⟩
def DOM_STATUS_ORDER_REFUSED : Fld := ⟨0x2A01, 15, 1⟩
def DOM_STATUS_FAULT_EV : Fld := ⟨0x2A01, 14, 1⟩
def DOM_STATUS_RESTART_EV : Fld := ⟨0x2A01, 13, 1⟩
def DOM_STATUS_SWITCH_EV : Fld := ⟨0x2A01, 12, 1⟩
def DOM_STATE (d : Nat) : Fld := ⟨0x2A02, 2 * d - 2, 2⟩
def DOM_LAST_FAULT_DOMAIN : Fld := ⟨0x2A03, 8, 8⟩
def DOM_LAST_FAULT_SUBCAUSE : Fld := ⟨0x2A03, 0, 4⟩
def DOM_COUNTS_FAULTS (n : Nat) : Fld := ⟨0x2A04 + (n - 1), 8, 8⟩
def DOM_COUNTS_RESTARTS (n : Nat) : Fld := ⟨0x2A04 + (n - 1), 0, 8⟩
def SUP_LEVEL_MV (n : Nat) : Fld := ⟨0x2A10 + n, 0, 16⟩
def SUP_MIN_MV (n : Nat) : Fld := ⟨0x2A18 + n, 0, 16⟩
def SUP_MAX_MV (n : Nat) : Fld := ⟨0x2A20 + n, 0, 16⟩
def SUP_STATUS_TEMP_WARN : Fld := ⟨0x2A28, 15, 1⟩
def SUP_STATUS_TEMP_WARN_EV : Fld := ⟨0x2A28, 14, 1⟩
def SUP_STATUS_RANGE_EV : Fld := ⟨0x2A28, 8, 6⟩
def SUP_STATUS_IN_RANGE : Fld := ⟨0x2A28, 0, 6⟩
def SUP_TEMP_TEMP : Fld := ⟨0x2A30, 0, 16⟩
def SUP_TEMP_MIN_TEMP : Fld := ⟨0x2A31, 0, 16⟩
def SUP_TEMP_MAX_TEMP : Fld := ⟨0x2A32, 0, 16⟩
def SUP_TEMP_WARN_DEG : Fld := ⟨0x2A33, 0, 8⟩
def AF_COMMIT_PENDING : Fld := ⟨0x300E, 15, 1⟩
def AF_COMMIT_GROUP_OPEN : Fld := ⟨0x300E, 14, 1⟩
def AF_FILL_TOTAL : Fld := ⟨0x300F, 0, 13⟩
def AF_SEL_INDEX : Fld := ⟨0x3010, 0, 8⟩
def AF_HEAD_KIND : Fld := ⟨0x3011, 8, 8⟩
def AF_HEAD_COUNT : Fld := ⟨0x3011, 0, 6⟩
def AF_ID_IDENTIFIER : Fld := ⟨0x3012, 0, 32⟩
def AF_FREQ_HZ (n : Nat) : Fld := ⟨0x3014 + 0x2 * n, 0, 32⟩
def LST_SEL_CONTENT : Fld := ⟨0x3800, 8, 5⟩
def LST_SEL_PRODUCER : Fld := ⟨0x3800, 0, 8⟩
def LST_FRAMES_COUNT : Fld := ⟨0x3801, 0, 32⟩
def LST_BYTES_COUNT : Fld := ⟨0x3803, 0, 64⟩
def LST_LAST_SEQ_SEQ : Fld := ⟨0x3807, 0, 32⟩
def LST_LAST_TIME_TIME : Fld := ⟨0x3809, 0, 64⟩
def LST_RESENDS_COUNT : Fld := ⟨0x380D, 0, 16⟩
def LST_ROUTE_CAPTURED : Fld := ⟨0x380E, 15, 1⟩
def LST_ROUTE_QUAY : Fld := ⟨0x380E, 0, 2⟩
def TB_COMMIT_PENDING : Fld := ⟨0x0104, 15, 1⟩
def TB_COMMIT_GROUP_OPEN : Fld := ⟨0x0104, 14, 1⟩

end Sys2Proof.Machine.F
end

