-- ==== Sys2Proof/Machine/RegMap.lean ====
section
/-! DEFINITION. The register map: for every register its address, its fields with access type, class and reset value
(20_register_map.md and the tables of the owning chapters). -/

namespace Sys2Proof.Machine

/-- Access types (Table 0.4). -/
inductive Acc where
  | ro | rw | wo | w1c | rc
  deriving DecidableEq, Repr

/-- Field classes (Table 0.5); `livePriv` is LIVE on the privileged and HELD on the ordinary movement outputs (Table 4.11). -/
inductive Cls where
  | none | fixed | held | live | livePriv
  deriving DecidableEq, Repr

/-- A field: lowest bit, width, access, class, reset value. -/
structure FDesc where
  lo : Nat
  width : Nat
  acc : Acc
  cls : Cls
  reset : Nat
  deriving DecidableEq, Repr

/-- A register or an indexed set of registers: address of the first, distance, how many, words of each, fields. -/
structure RDesc where
  base : Nat
  stride : Nat
  count : Nat
  words : Nat
  fields : List FDesc
  deriving DecidableEq, Repr

/-- Registers of the block Global (Tables 2.2, 2.3, 2.4, 2.5, 2.6, 2.7, 3.11, 3.12, 6.11, 7.15, 10.7, 11.10, 17.8, 20.3). -/
def regsGlobalA : List RDesc := [
  ⟨0x0000, 0x1, 1, 1, [⟨0, 16, .ro, .none, 0x9604⟩]⟩,  -- GLB_IDENTITY
  ⟨0x0001, 0x1, 1, 1, [⟨0, 16, .ro, .none, 0xb0⟩]⟩,  -- GLB_REVISION
  ⟨0x0002, 0x1, 1, 1, [⟨15, 1, .w1c, .none, 0⟩, ⟨14, 1, .w1c, .none, 0⟩, ⟨13, 1, .w1c, .none, 0⟩, ⟨12, 1, .w1c, .none, 0⟩, ⟨11, 1, .w1c, .none, 0⟩, ⟨10, 1, .w1c, .none, 0⟩]⟩,  -- GLB_STATUS
  ⟨0x0004, 0x1, 1, 1, [⟨15, 1, .ro, .none, 0⟩, ⟨14, 1, .ro, .none, 0⟩, ⟨8, 4, .ro, .none, 0⟩, ⟨0, 4, .ro, .none, 1⟩]⟩,  -- GLB_MODE
  ⟨0x0005, 0x1, 1, 1, [⟨8, 8, .wo, .live, 0⟩, ⟨0, 4, .wo, .live, 0⟩]⟩,  -- GLB_MODE_CMD
  ⟨0x0006, 0x1, 1, 1, [⟨8, 8, .ro, .none, 0⟩, ⟨0, 8, .ro, .none, 1⟩]⟩,  -- GLB_MODE_CAUSE
  ⟨0x0007, 0x1, 1, 1, [⟨5, 1, .rc, .none, 0⟩, ⟨4, 1, .rc, .none, 0⟩, ⟨3, 1, .rc, .none, 0⟩, ⟨2, 1, .rc, .none, 0⟩, ⟨1, 1, .rc, .none, 0⟩, ⟨0, 1, .rc, .none, 1⟩]⟩,  -- GLB_RESET_CAUSE
  ⟨0x0008, 0x1, 1, 1, [⟨12, 4, .ro, .none, 0xf⟩, ⟨8, 4, .ro, .none, 0xf⟩, ⟨5, 1, .ro, .none, 0⟩, ⟨4, 1, .ro, .none, 0⟩, ⟨0, 2, .ro, .none, 3⟩]⟩,  -- GLB_WIND_STATUS
  ⟨0x0009, 0x1, 1, 1, [⟨8, 8, .ro, .none, 0xff⟩, ⟨0, 8, .ro, .none, 0xff⟩]⟩,  -- GLB_WIND_DETAIL
  ⟨0x000A, 0x2, 1, 2, [⟨0, 32, .ro, .none, 0⟩]⟩,  -- GLB_WIND_GEN
  ⟨0x000C, 0x1, 1, 1, [⟨0, 16, .ro, .none, 0⟩]⟩,  -- GLB_WIND_TIME
  ⟨0x0010, 0x3, 1, 3, [⟨0, 34, .rw, .live, 0⟩]⟩,  -- GLB_SURVEY_AT
  ⟨0x0013, 0x1, 1, 1, [⟨0, 16, .rw, .live, 0x384⟩]⟩,  -- GLB_SURVEY_LIMIT
  ⟨0x0020, 0x6, 1, 6, [⟨0, 96, .wo, .live, 0⟩]⟩,  -- GLB_SYNCRESET
  ⟨0x0040, 0x1, 5, 1, [⟨0, 8, .rw, .live, 0⟩]⟩,  -- ENG_BEAT
  ⟨0x0045, 0x1, 1, 1, [⟨15, 1, .ro, .none, 0⟩, ⟨14, 1, .ro, .none, 0⟩, ⟨2, 1, .wo, .live, 0⟩, ⟨1, 1, .wo, .live, 0⟩, ⟨0, 1, .wo, .live, 0⟩]⟩,  -- ENG_COMMIT
  ⟨0x0046, 0x1, 1, 1, [⟨11, 5, .ro, .none, 0⟩, ⟨10, 1, .ro, .none, 0⟩, ⟨3, 1, .w1c, .none, 0⟩, ⟨2, 1, .w1c, .none, 0⟩, ⟨1, 1, .w1c, .none, 0⟩, ⟨0, 1, .w1c, .none, 0⟩]⟩,  -- ENG_STATUS
  ⟨0x0048, 0x1, 5, 1, [⟨0, 16, .ro, .none, 0⟩]⟩,  -- ENG_LOAD
  ⟨0x004D, 0x1, 5, 1, [⟨0, 16, .ro, .none, 0⟩]⟩,  -- ENG_CAP
  ⟨0x0060, 0x1, 1, 1, [⟨14, 2, .rw, .fixed, 0⟩, ⟨0, 8, .rw, .fixed, 0⟩]⟩,  -- DVB_EWS_CFG
  ⟨0x0070, 0x1, 1, 1, [⟨15, 1, .rw, .live, 0⟩, ⟨0, 10, .rw, .live, 0xa⟩]⟩,  -- MSR_CFG
  ⟨0x0071, 0x1, 1, 1, [⟨0, 16, .rw, .fixed, 0xffff⟩]⟩,  -- MSR_TCXO_DRIFT
  ⟨0x0072, 0x1, 1, 1, [⟨0, 16, .ro, .none, 0⟩]⟩,  -- MSR_PRECISION
  ⟨0x0073, 0x1, 1, 1, [⟨0, 7, .rw, .live, 0⟩]⟩ ]  -- MSR_SEL

/-- Registers of the block Global (Tables 2.2, 2.3, 2.4, 2.5, 2.6, 2.7, 3.11, 3.12, 6.11, 7.15, 10.7, 11.10, 17.8, 20.3). -/
def regsGlobalB : List RDesc := [
  ⟨0x0074, 0x1, 1, 1, [⟨0, 10, .rw, .live, 0xa⟩]⟩,  -- MSR_PERIOD
  ⟨0x0075, 0x1, 1, 1, [⟨15, 1, .rw, .live, 0⟩, ⟨14, 1, .rw, .live, 0⟩, ⟨8, 4, .rw, .live, 8⟩, ⟨0, 6, .rw, .live, 0x1e⟩]⟩,  -- MSR_ECHO
  ⟨0x0076, 0x1, 1, 1, [⟨0, 16, .ro, .none, 0⟩]⟩,  -- MSR_WINDOW
  ⟨0x0080, 0x1, 1, 1, [⟨15, 1, .ro, .none, 0⟩, ⟨14, 1, .ro, .none, 0⟩, ⟨13, 1, .ro, .none, 0⟩, ⟨12, 1, .ro, .none, 0⟩, ⟨11, 1, .ro, .none, 0⟩, ⟨3, 4, .ro, .none, 0⟩, ⟨1, 1, .w1c, .none, 0⟩]⟩,  -- ALERT_STATUS
  ⟨0x0081, 0x1, 1, 1, [⟨8, 8, .wo, .live, 0⟩, ⟨1, 1, .wo, .live, 0⟩, ⟨0, 1, .wo, .live, 0⟩]⟩,  -- ALERT_CMD
  ⟨0x0082, 0x1, 1, 1, [⟨8, 8, .ro, .none, 0⟩, ⟨0, 8, .ro, .none, 0⟩]⟩,  -- ALERT_FIRST
  ⟨0x0083, 0x4, 1, 4, [⟨0, 64, .ro, .none, 0⟩]⟩,  -- ALERT_TIME
  ⟨0x0087, 0x1, 1, 1, [⟨0, 16, .rc, .none, 0⟩]⟩,  -- ALERT_COUNT
  ⟨0x0088, 0x1, 1, 1, [⟨0, 6, .rw, .live, 0⟩]⟩,  -- URG_SEL
  ⟨0x0089, 0x1, 1, 1, [⟨8, 8, .rw, .live, 0⟩, ⟨0, 8, .rw, .live, 0⟩]⟩,  -- URG_ENTRY_A
  ⟨0x008A, 0x1, 1, 1, [⟨0, 2, .rw, .live, 0⟩]⟩,  -- URG_ENTRY_B
  ⟨0x008B, 0x1, 1, 1, [⟨0, 16, .rw, .live, 0⟩]⟩,  -- URG_ENTRY_C
  ⟨0x008C, 0x1, 1, 1, [⟨0, 7, .rw, .live, 0⟩]⟩,  -- URG_BERTH_SEL
  ⟨0x008D, 0x1, 1, 1, [⟨0, 16, .ro, .none, 0⟩]⟩ ]  -- URG_OWN

/-- The block Global in one list. -/
def regsGlobal : List RDesc := regsGlobalA ++ regsGlobalB

/-- Registers of the block Journals (Tables 3.20, 18.12). -/
def regsJournals : List RDesc := [
  ⟨0x2800, 0x2, 1, 2, [⟨0, 32, .ro, .none, 0⟩]⟩,  -- JNL_NEWEST
  ⟨0x2802, 0x2, 1, 2, [⟨0, 32, .rw, .live, 0⟩]⟩,  -- JNL_SELECT
  ⟨0x2804, 0x1, 11, 1, [⟨0, 16, .ro, .none, 0⟩]⟩,  -- JNL_ENTRY
  ⟨0x280F, 0x1, 1, 1, [⟨15, 1, .ro, .none, 0⟩, ⟨14, 1, .w1c, .none, 0⟩, ⟨0, 14, .ro, .none, 0⟩]⟩,  -- JNL_STATUS
  ⟨0x2810, 0x2, 1, 2, [⟨0, 32, .ro, .none, 0⟩]⟩,  -- ERR_NEWEST
  ⟨0x2812, 0x2, 1, 2, [⟨0, 32, .rw, .live, 0⟩]⟩,  -- ERR_SELECT
  ⟨0x2814, 0x1, 16, 1, [⟨0, 16, .ro, .none, 0⟩]⟩,  -- ERR_ENTRY
  ⟨0x2824, 0x1, 1, 1, [⟨15, 1, .ro, .none, 0⟩, ⟨14, 1, .w1c, .none, 0⟩, ⟨13, 1, .w1c, .none, 0⟩, ⟨8, 5, .rc, .none, 0⟩, ⟨0, 8, .ro, .none, 0⟩]⟩,  -- ERR_STATUS
  ⟨0x2825, 0x1, 1, 1, [⟨6, 1, .rw, .live, 1⟩, ⟨5, 1, .rw, .live, 1⟩, ⟨4, 1, .rw, .live, 1⟩, ⟨3, 1, .rw, .live, 1⟩, ⟨2, 1, .rw, .live, 1⟩, ⟨1, 1, .rw, .live, 0⟩]⟩ ]  -- ERR_EXPORT

/-- Registers of the block Timebase (Tables 3.16, 4.7, 4.8, 4.9, 4.10, 4.11, 4.12). -/
def regsTimebase : List RDesc := [
  ⟨0x0100, 0x1, 1, 1, [⟨2, 1, .rw, .fixed, 0⟩, ⟨1, 1, .rw, .fixed, 0⟩, ⟨0, 1, .rw, .fixed, 0⟩]⟩,  -- TB_REF_CFG
  ⟨0x0101, 0x1, 1, 1, [⟨15, 1, .ro, .none, 0⟩, ⟨14, 1, .ro, .none, 0⟩, ⟨13, 1, .ro, .none, 0⟩, ⟨12, 1, .ro, .none, 0⟩, ⟨7, 1, .w1c, .none, 0⟩, ⟨6, 1, .w1c, .none, 0⟩, ⟨5, 1, .w1c, .none, 0⟩, ⟨4, 1, .w1c, .none, 0⟩, ⟨3, 1, .w1c, .none, 0⟩]⟩,  -- TB_REF_STATUS
  ⟨0x0102, 0x2, 1, 2, [⟨0, 32, .ro, .none, 0⟩]⟩,  -- TB_TCXO_OFFSET
  ⟨0x0104, 0x1, 1, 1, [⟨15, 1, .ro, .none, 0⟩, ⟨14, 1, .ro, .none, 0⟩, ⟨2, 1, .wo, .live, 0⟩, ⟨1, 1, .wo, .live, 0⟩, ⟨0, 1, .wo, .live, 0⟩]⟩,  -- TB_COMMIT
  ⟨0x0105, 0x1, 1, 1, [⟨0, 4, .wo, .live, 0⟩]⟩,  -- TB_PAIR_CMD
  ⟨0x0106, 0x1, 1, 1, [⟨0, 1, .rw, .live, 0⟩]⟩,  -- TB_AUDIO_CFG
  ⟨0x0107, 0x1, 1, 1, [⟨0, 16, .rw, .live, 0⟩]⟩,  -- TB_PPS_COMP
  ⟨0x0110, 0x1, 4, 1, [⟨15, 1, .ro, .none, 0⟩, ⟨14, 1, .ro, .none, 0⟩, ⟨12, 2, .ro, .none, 0⟩, ⟨11, 1, .ro, .none, 0⟩, ⟨10, 1, .ro, .none, 0⟩, ⟨9, 1, .ro, .none, 0⟩, ⟨0, 7, .ro, .none, 0⟩]⟩,  -- TB_MOV_STATUS
  ⟨0x0114, 0x1, 4, 1, [⟨8, 8, .rc, .none, 0⟩, ⟨0, 8, .rc, .none, 0⟩]⟩,  -- TB_MOV_COUNT
  ⟨0x0120, 0x2, 18, 1, [⟨15, 1, .rw, .live, 0⟩, ⟨14, 1, .ro, .none, 0⟩, ⟨0, 6, .rw, .livePriv, 0⟩]⟩,  -- TB_OUT_CFG
  ⟨0x0121, 0x2, 18, 1, [⟨0, 11, .rw, .livePriv, 0⟩]⟩,  -- TB_OUT_DIV
  ⟨0x0150, 0x4, 1, 4, [⟨0, 64, .ro, .none, 0⟩]⟩,  -- TB_TIME
  ⟨0x0154, 0x3, 1, 3, [⟨0, 34, .rw, .live, 0⟩]⟩,  -- TB_TIME_SET
  ⟨0x0157, 0x1, 1, 1, [⟨15, 1, .ro, .none, 0⟩, ⟨14, 1, .ro, .none, 0⟩, ⟨13, 1, .ro, .none, 0⟩, ⟨12, 1, .w1c, .none, 0⟩, ⟨11, 1, .ro, .none, 0⟩, ⟨0, 8, .rc, .none, 0⟩]⟩,  -- TB_PPS_STATUS
  ⟨0x0158, 0x2, 1, 2, [⟨0, 32, .ro, .none, 0⟩]⟩,  -- TB_PPS_ERROR
  ⟨0x015A, 0x1, 1, 1, [⟨0, 16, .ro, .none, 0⟩]⟩,  -- TB_TWIN_SKEW
  ⟨0x015B, 0x1, 1, 1, [⟨0, 16, .ro, .none, 0⟩]⟩ ]  -- TB_TWIN_SKEW

/-- Registers of the block Intakes (Tables 5.5, 5.6, 5.7, 5.8, 5.9, 11.11). -/
def regsIntakesA : List RDesc := [
  ⟨0x0200, 0x20, 2, 1, [⟨12, 2, .rw, .live, 0⟩, ⟨8, 4, .rw, .live, 6⟩, ⟨0, 6, .rw, .live, 0x2c⟩]⟩,  -- INT_CFG
  ⟨0x0201, 0x20, 2, 1, [⟨8, 8, .ro, .none, 0⟩, ⟨0, 6, .ro, .none, 0x2c⟩]⟩,  -- INT_GAIN
  ⟨0x0202, 0x20, 2, 1, [⟨15, 1, .ro, .none, 0⟩, ⟨14, 1, .ro, .none, 0⟩, ⟨13, 1, .ro, .none, 0⟩, ⟨12, 1, .ro, .none, 0⟩, ⟨11, 1, .ro, .none, 0⟩, ⟨10, 1, .ro, .none, 0⟩, ⟨5, 1, .w1c, .none, 0⟩, ⟨4, 1, .w1c, .none, 0⟩, ⟨3, 1, .w1c, .none, 0⟩, ⟨2, 1, .w1c, .none, 0⟩, ⟨1, 1, .w1c, .none, 0⟩]⟩,  -- INT_STATUS
  ⟨0x0203, 0x20, 2, 1, [⟨0, 16, .rc, .none, 0⟩]⟩,  -- INT_CHAN_DROP_COUNT
  ⟨0x0204, 0x20, 2, 1, [⟨0, 16, .rc, .none, 0⟩]⟩,  -- INT_CLIP_COUNT
  ⟨0x0205, 0x20, 2, 1, [⟨0, 16, .ro, .none, 0x8000⟩]⟩,  -- INT_LEVEL
  ⟨0x0206, 0x20, 2, 1, [⟨0, 16, .ro, .none, 0x8000⟩]⟩,  -- INT_INPUT_LEVEL
  ⟨0x0207, 0x20, 2, 1, [⟨0, 8, .rw, .fixed, 0x1e⟩]⟩,  -- INT_PILOT_CFG
  ⟨0x0208, 0x20, 2, 1, [⟨12, 4, .ro, .none, 0⟩, ⟨0, 8, .rc, .none, 0⟩]⟩,  -- INT_HEALTH
  ⟨0x0209, 0x20, 2, 1, [⟨0, 16, .ro, .none, 0⟩]⟩,  -- INT_DRIFT
  ⟨0x020A, 0x20, 2, 1, [⟨0, 16, .ro, .none, 0⟩]⟩,  -- INT_DRIFT
  ⟨0x020B, 0x20, 2, 1, [⟨0, 16, .rw, .live, 0⟩]⟩,  -- INT_EXT_DELAY
  ⟨0x0210, 0x1, 16, 1, [⟨0, 16, .rw, .live, 0⟩]⟩,  -- INT_EXT_LOSS
  ⟨0x0230, 0x1, 16, 1, [⟨0, 16, .rw, .live, 0⟩]⟩,  -- INT_EXT_LOSS
  ⟨0x0240, 0x1, 1, 1, [⟨15, 1, .ro, .none, 0⟩, ⟨14, 1, .ro, .none, 0⟩, ⟨7, 1, .w1c, .none, 0⟩, ⟨6, 1, .ro, .none, 0⟩, ⟨5, 1, .ro, .none, 0⟩, ⟨4, 1, .ro, .none, 0⟩, ⟨3, 1, .ro, .none, 0⟩]⟩,  -- CAL_STATUS
  ⟨0x0241, 0x1, 1, 1, [⟨0, 16, .ro, .none, 0⟩]⟩,  -- CAL_VREF
  ⟨0x0242, 0x1, 1, 1, [⟨8, 8, .ro, .none, 0⟩, ⟨0, 8, .ro, .none, 0⟩]⟩,  -- CAL_LAST_BIN
  ⟨0x0243, 0x1, 1, 1, [⟨8, 8, .ro, .none, 0⟩, ⟨0, 8, .ro, .none, 0⟩]⟩,  -- CAL_SKIPS
  ⟨0x0244, 0x1, 1, 1, [⟨15, 1, .rw, .live, 0⟩, ⟨14, 1, .rw, .live, 0⟩, ⟨0, 10, .rw, .live, 0⟩]⟩,  -- CAL_TABLE_SELECT
  ⟨0x0245, 0x1, 1, 1, [⟨0, 16, .ro, .none, 0⟩]⟩,  -- CAL_TABLE_DATA
  ⟨0x0246, 0x1, 1, 1, [⟨0, 16, .ro, .none, 0⟩]⟩,  -- CAL_TABLE_DATA
  ⟨0x0247, 0x1, 1, 1, [⟨0, 16, .ro, .none, 0⟩]⟩,  -- CAL_REG_TIME
  ⟨0x0260, 0x10, 2, 1, [⟨15, 1, .rw, .live, 0⟩, ⟨14, 1, .rw, .live, 1⟩, ⟨0, 8, .rw, .fixed, 0x64⟩]⟩,  -- FEED_CFG
  ⟨0x0261, 0x10, 2, 1, [⟨0, 16, .rw, .fixed, 0x12c⟩]⟩ ]  -- FEED_TRIP

/-- Registers of the block Intakes (Tables 5.5, 5.6, 5.7, 5.8, 5.9, 11.11). -/
def regsIntakesB : List RDesc := [
  ⟨0x0262, 0x10, 2, 1, [⟨0, 16, .rw, .fixed, 0x3e8⟩]⟩,  -- FEED_SHORT
  ⟨0x0263, 0x10, 2, 1, [⟨0, 16, .rw, .fixed, 0x10e⟩]⟩,  -- FEED_I2T
  ⟨0x0264, 0x10, 2, 1, [⟨0, 16, .rw, .fixed, 0xa⟩]⟩,  -- FEED_SOFT
  ⟨0x0265, 0x10, 2, 1, [⟨0, 16, .rw, .fixed, 0x1e⟩]⟩,  -- FEED_COOL
  ⟨0x0266, 0x10, 2, 1, [⟨15, 1, .ro, .none, 0⟩, ⟨14, 1, .ro, .none, 0⟩, ⟨13, 1, .ro, .none, 0⟩, ⟨12, 1, .ro, .none, 0⟩, ⟨7, 1, .w1c, .none, 0⟩, ⟨6, 1, .w1c, .none, 0⟩, ⟨5, 1, .w1c, .none, 0⟩, ⟨4, 1, .w1c, .none, 0⟩, ⟨0, 4, .ro, .none, 0⟩]⟩,  -- FEED_STATUS
  ⟨0x0267, 0x10, 2, 1, [⟨0, 16, .ro, .none, 0⟩]⟩ ]  -- FEED_CURRENT

/-- The block Intakes in one list. -/
def regsIntakes : List RDesc := regsIntakesA ++ regsIntakesB

/-- Registers of the block Berth (Tables 6.8, 6.9, 7.12, 7.13). -/
def regsBerthA : List RDesc := [
  ⟨0x0400, 0x40, 96, 1, [⟨15, 1, .rw, .live, 0⟩, ⟨14, 1, .ro, .none, 1⟩, ⟨12, 2, .rw, .live, 0⟩, ⟨8, 4, .rw, .held, 0⟩]⟩,  -- BTH_CTRL
  ⟨0x0401, 0x40, 96, 1, [⟨13, 3, .ro, .none, 0⟩, ⟨12, 1, .ro, .none, 0⟩, ⟨11, 1, .ro, .none, 0⟩]⟩,  -- BTH_STATUS
  ⟨0x0402, 0x40, 96, 1, [⟨9, 3, .rw, .held, 7⟩, ⟨0, 9, .rw, .held, 0x190⟩]⟩,  -- BTH_DECL
  ⟨0x0403, 0x40, 96, 1, [⟨15, 1, .ro, .none, 0⟩, ⟨14, 1, .ro, .none, 0⟩, ⟨11, 3, .ro, .none, 0⟩, ⟨0, 6, .ro, .none, 0x3f⟩]⟩,  -- BTH_TICKET
  ⟨0x0404, 0x40, 96, 2, [⟨0, 32, .ro, .none, 0⟩]⟩,  -- BTH_SEQ
  ⟨0x0406, 0x40, 96, 1, [⟨5, 1, .w1c, .none, 0⟩, ⟨4, 1, .w1c, .none, 0⟩, ⟨3, 1, .w1c, .none, 0⟩, ⟨2, 1, .w1c, .none, 0⟩, ⟨1, 1, .w1c, .none, 0⟩, ⟨0, 1, .w1c, .none, 0⟩]⟩,  -- BTH_EVENTS
  ⟨0x0407, 0x40, 96, 1, [⟨15, 1, .ro, .none, 0⟩, ⟨14, 1, .ro, .none, 0⟩, ⟨2, 1, .wo, .live, 0⟩, ⟨1, 1, .wo, .live, 0⟩, ⟨0, 1, .wo, .live, 0⟩]⟩,  -- BTH_COMMIT
  ⟨0x0410, 0x40, 96, 1, [⟨15, 1, .rw, .live, 0⟩, ⟨14, 1, .ro, .none, 1⟩, ⟨13, 1, .rw, .held, 0⟩, ⟨12, 1, .rw, .held, 0⟩, ⟨10, 2, .rw, .held, 1⟩, ⟨9, 1, .rw, .held, 0⟩, ⟨0, 8, .rw, .held, 0⟩]⟩,  -- LN_CTRL
  ⟨0x0411, 0x40, 96, 1, [⟨15, 1, .ro, .none, 0⟩, ⟨0, 7, .ro, .none, 0⟩]⟩,  -- LN_PHYS
  ⟨0x0412, 0x40, 96, 2, [⟨0, 32, .rw, .live, 0⟩]⟩,  -- LN_NCO
  ⟨0x0414, 0x40, 96, 1, [⟨8, 5, .rw, .held, 1⟩, ⟨0, 4, .rw, .held, 0⟩]⟩,  -- LN_FIR
  ⟨0x0415, 0x40, 96, 2, [⟨0, 24, .rw, .held, 1⟩]⟩,  -- LN_RS_L
  ⟨0x0417, 0x40, 96, 2, [⟨0, 24, .rw, .held, 1⟩]⟩,  -- LN_RS_M
  ⟨0x0419, 0x40, 96, 2, [⟨0, 18, .rw, .live, 0⟩]⟩,  -- LN_DELAY
  ⟨0x041B, 0x40, 96, 1, [⟨15, 1, .rw, .live, 0⟩, ⟨8, 5, .rw, .live, 0xa⟩, ⟨0, 4, .rw, .live, 4⟩]⟩,  -- LN_DET_CFG
  ⟨0x041C, 0x40, 96, 1, [⟨0, 16, .ro, .none, 0x8000⟩]⟩,  -- LN_PEAK
  ⟨0x041D, 0x40, 96, 1, [⟨0, 16, .ro, .none, 0x8000⟩]⟩,  -- LN_RMS
  ⟨0x041E, 0x40, 96, 1, [⟨0, 16, .ro, .none, 0⟩]⟩,  -- LN_ENV_MAX
  ⟨0x041F, 0x40, 96, 1, [⟨0, 16, .ro, .none, 0⟩]⟩,  -- LN_ENV_MIN
  ⟨0x0420, 0x40, 96, 1, [⟨15, 1, .ro, .none, 0⟩, ⟨14, 1, .ro, .none, 0⟩, ⟨13, 1, .ro, .none, 0⟩, ⟨12, 1, .ro, .none, 0⟩, ⟨11, 1, .ro, .none, 0⟩, ⟨4, 1, .w1c, .none, 0⟩, ⟨3, 1, .w1c, .none, 0⟩, ⟨2, 1, .w1c, .none, 0⟩, ⟨1, 1, .w1c, .none, 0⟩]⟩,  -- LN_STATUS
  ⟨0x0421, 0x40, 96, 1, [⟨8, 8, .rc, .none, 0⟩, ⟨0, 8, .rc, .none, 0⟩]⟩,  -- LN_CLIP_COUNT
  ⟨0x0422, 0x40, 96, 1, [⟨0, 16, .ro, .none, 0⟩]⟩,  -- LN_SETTLE
  ⟨0x0423, 0x40, 96, 3, [⟨0, 48, .ro, .none, 0⟩]⟩,  -- LN_GD_APPLIED
  ⟨0x0426, 0x40, 96, 1, [⟨0, 16, .ro, .none, 0xffff⟩]⟩ ]  -- LN_GD_RESIDUAL

/-- Registers of the block Berth (Tables 6.8, 6.9, 7.12, 7.13). -/
def regsBerthB : List RDesc := [
  ⟨0x0427, 0x40, 96, 1, [⟨0, 16, .ro, .none, 0⟩]⟩,  -- LN_GD_INTAKE
  ⟨0x0428, 0x40, 96, 1, [⟨15, 1, .ro, .none, 0⟩, ⟨14, 1, .ro, .none, 0⟩, ⟨2, 1, .wo, .live, 0⟩, ⟨1, 1, .wo, .live, 0⟩, ⟨0, 1, .wo, .live, 0⟩]⟩,  -- LN_COMMIT
  ⟨0x0429, 0x40, 96, 1, [⟨8, 8, .ro, .none, 0⟩, ⟨0, 8, .ro, .none, 0⟩]⟩,  -- BTH_LOAD_A
  ⟨0x042A, 0x40, 96, 1, [⟨10, 6, .ro, .none, 0⟩, ⟨0, 10, .ro, .none, 0⟩]⟩,  -- BTH_LOAD_B
  ⟨0x042B, 0x40, 96, 1, [⟨0, 9, .ro, .none, 0⟩]⟩,  -- BTH_LOAD_C
  ⟨0x042C, 0x40, 96, 1, [⟨0, 10, .ro, .none, 0⟩]⟩,  -- BTH_OCCUPANCY
  ⟨0x042D, 0x40, 96, 1, [⟨8, 8, .rc, .none, 0⟩, ⟨0, 8, .rc, .none, 0⟩]⟩,  -- BTH_REPLAY
  ⟨0x042E, 0x40, 96, 1, [⟨0, 16, .rc, .none, 0⟩]⟩,  -- BTH_WAIT_MAX
  ⟨0x042F, 0x40, 96, 1, [⟨0, 16, .rc, .none, 0⟩]⟩ ]  -- BTH_ERASURES

/-- The block Berth in one list. -/
def regsBerth : List RDesc := regsBerthA ++ regsBerthB

/-- Registers of the block Indirect (Tables 6.10, 20.8, 20.9). -/
def regsIndirect : List RDesc := [
  ⟨0x3000, 0x1, 1, 1, [⟨15, 1, .rw, .live, 0⟩, ⟨14, 1, .rw, .live, 0⟩, ⟨0, 7, .rw, .live, 0⟩]⟩,  -- LN_BANK_SEL
  ⟨0x3001, 0x1, 1, 1, [⟨0, 9, .rw, .held, 1⟩]⟩,  -- LN_BANK_LEN
  ⟨0x300E, 0x1, 1, 1, [⟨15, 1, .ro, .none, 0⟩, ⟨14, 1, .ro, .none, 0⟩, ⟨2, 1, .wo, .live, 0⟩, ⟨1, 1, .wo, .live, 0⟩, ⟨0, 1, .wo, .live, 0⟩]⟩,  -- AF_COMMIT
  ⟨0x300F, 0x1, 1, 1, [⟨0, 13, .ro, .none, 0⟩]⟩,  -- AF_FILL
  ⟨0x3010, 0x1, 1, 1, [⟨0, 8, .rw, .live, 0⟩]⟩,  -- AF_SEL
  ⟨0x3011, 0x1, 1, 1, [⟨8, 8, .rw, .live, 0⟩, ⟨0, 6, .rw, .live, 0⟩]⟩,  -- AF_HEAD
  ⟨0x3012, 0x2, 1, 2, [⟨0, 32, .rw, .live, 0⟩]⟩,  -- AF_ID
  ⟨0x3014, 0x2, 32, 2, [⟨0, 32, .rw, .live, 0⟩]⟩,  -- AF_FREQ
  ⟨0x3100, 0x1, 384, 1, [⟨0, 16, .rw, .held, 0⟩]⟩,  -- LN_BANK_TAP
  ⟨0x3800, 0x1, 1, 1, [⟨8, 5, .rw, .live, 0⟩, ⟨0, 8, .rw, .live, 0⟩]⟩,  -- LST_SEL
  ⟨0x3801, 0x2, 1, 2, [⟨0, 32, .ro, .none, 0⟩]⟩,  -- LST_FRAMES
  ⟨0x3803, 0x4, 1, 4, [⟨0, 64, .ro, .none, 0⟩]⟩,  -- LST_BYTES
  ⟨0x3807, 0x2, 1, 2, [⟨0, 32, .ro, .none, 0xffffffff⟩]⟩,  -- LST_LAST_SEQ
  ⟨0x3809, 0x4, 1, 4, [⟨0, 64, .ro, .none, 0⟩]⟩,  -- LST_LAST_TIME
  ⟨0x380D, 0x1, 1, 1, [⟨0, 16, .ro, .none, 0⟩]⟩,  -- LST_RESENDS
  ⟨0x380E, 0x1, 1, 1, [⟨15, 1, .ro, .none, 0⟩, ⟨0, 2, .ro, .none, 0⟩]⟩ ]  -- LST_ROUTE

/-- Registers of the block Crane (Table 7.14). -/
def regsCrane : List RDesc := [
  ⟨0x1C00, 0x10, 33, 1, [⟨14, 2, .ro, .none, 0⟩, ⟨11, 3, .ro, .none, 0⟩, ⟨10, 1, .ro, .none, 0⟩, ⟨9, 1, .ro, .none, 0⟩, ⟨0, 7, .ro, .none, 0x7f⟩]⟩,  -- CRN_STATUS
  ⟨0x1C01, 0x10, 33, 1, [⟨3, 1, .w1c, .none, 0⟩, ⟨2, 1, .w1c, .none, 0⟩, ⟨1, 1, .w1c, .none, 0⟩, ⟨0, 1, .w1c, .none, 0⟩]⟩,  -- CRN_EVENTS
  ⟨0x1C02, 0x10, 33, 2, [⟨0, 32, .ro, .none, 0⟩]⟩,  -- CRN_BEATS
  ⟨0x1C04, 0x10, 33, 1, [⟨0, 16, .ro, .none, 0⟩]⟩,  -- CRN_LOAD
  ⟨0x1C05, 0x10, 33, 1, [⟨8, 8, .rc, .none, 0⟩, ⟨0, 8, .rc, .none, 0⟩]⟩,  -- CRN_FAULTS
  ⟨0x1C06, 0x10, 33, 1, [⟨0, 16, .ro, .none, 0⟩]⟩,  -- CRN_LAST_FAULT
  ⟨0x1C07, 0x10, 33, 1, [⟨8, 8, .wo, .live, 0⟩, ⟨0, 1, .wo, .live, 0⟩]⟩ ]  -- CRN_CMD

/-- Service words under Fm (Table 8.7). -/
def regsSvcFm : List RDesc := [
  ⟨0x0408, 0x40, 96, 1, [⟨14, 2, .rw, .held, 2⟩, ⟨13, 1, .rw, .held, 0⟩, ⟨11, 2, .rw, .live, 1⟩, ⟨10, 1, .rw, .live, 0⟩, ⟨5, 3, .rw, .live, 2⟩]⟩,  -- BTH_SVC0
  ⟨0x0409, 0x40, 96, 1, [⟨15, 1, .rw, .live, 0⟩, ⟨13, 2, .rw, .live, 0⟩, ⟨8, 5, .rw, .live, 0⟩, ⟨0, 5, .rw, .live, 1⟩]⟩,  -- BTH_SVC1
  ⟨0x040A, 0x40, 96, 1, [⟨14, 2, .rw, .held, 0⟩, ⟨13, 1, .rw, .live, 0⟩, ⟨12, 1, .rw, .live, 1⟩, ⟨11, 1, .rw, .live, 1⟩, ⟨0, 7, .rw, .held, 0x7f⟩]⟩,  -- BTH_SVC2
  ⟨0x040B, 0x40, 96, 1, [⟨8, 8, .rw, .live, 0xff⟩, ⟨0, 8, .rw, .live, 0x3c⟩]⟩,  -- BTH_SVC3
  ⟨0x040C, 0x40, 96, 1, [⟨8, 8, .rw, .live, 0x1e⟩, ⟨0, 8, .rw, .live, 0x32⟩]⟩,  -- BTH_SVC4
  ⟨0x040D, 0x40, 96, 1, [⟨0, 16, .rw, .live, 0⟩]⟩,  -- BTH_SVC5
  ⟨0x040E, 0x40, 96, 1, [⟨8, 8, .wo, .live, 0⟩, ⟨1, 1, .wo, .live, 0⟩, ⟨0, 1, .wo, .live, 0⟩]⟩,  -- BTH_SVC6
  ⟨0x040F, 0x40, 96, 1, [⟨15, 1, .ro, .none, 0⟩, ⟨14, 1, .ro, .none, 0⟩, ⟨13, 1, .ro, .none, 0⟩, ⟨10, 3, .ro, .none, 0⟩, ⟨6, 4, .ro, .none, 0⟩, ⟨5, 1, .ro, .none, 0⟩, ⟨4, 1, .w1c, .none, 0⟩, ⟨3, 1, .w1c, .none, 0⟩, ⟨2, 1, .w1c, .none, 0⟩, ⟨1, 1, .w1c, .none, 0⟩, ⟨0, 1, .w1c, .none, 0⟩]⟩ ]  -- BTH_SVC7

/-- Service words under Am (Table 8.8). -/
def regsSvcAm : List RDesc := [
  ⟨0x0408, 0x40, 96, 1, [⟨15, 1, .rw, .held, 0⟩, ⟨11, 4, .rw, .live, 0xf⟩]⟩,  -- BTH_SVC0
  ⟨0x0409, 0x40, 96, 1, [⟨15, 1, .rw, .live, 0⟩, ⟨13, 2, .rw, .live, 0⟩, ⟨8, 5, .rw, .live, 0⟩, ⟨0, 5, .rw, .live, 1⟩]⟩,  -- BTH_SVC1
  ⟨0x040A, 0x40, 96, 1, [⟨0, 7, .rw, .held, 0x7f⟩]⟩,  -- BTH_SVC2
  ⟨0x040B, 0x40, 96, 1, [⟨0, 16, .ro, .none, 0⟩]⟩,  -- BTH_SVC3
  ⟨0x040C, 0x40, 96, 1, [⟨0, 16, .ro, .none, 0⟩]⟩,  -- BTH_SVC4
  ⟨0x040D, 0x40, 96, 1, [⟨0, 8, .rw, .live, 0x32⟩]⟩,  -- BTH_SVC5
  ⟨0x040E, 0x40, 96, 1, [⟨8, 8, .wo, .live, 0⟩, ⟨1, 1, .wo, .live, 0⟩, ⟨0, 1, .wo, .live, 0⟩]⟩,  -- BTH_SVC6
  ⟨0x040F, 0x40, 96, 1, [⟨15, 1, .ro, .none, 0⟩, ⟨10, 3, .ro, .none, 0⟩, ⟨6, 4, .ro, .none, 0⟩, ⟨4, 1, .w1c, .none, 0⟩]⟩ ]  -- BTH_SVC7

/-- Service words under Dab (Table 9.12). -/
def regsSvcDab : List RDesc := [
  ⟨0x0408, 0x40, 96, 1, [⟨13, 3, .rw, .held, 0⟩, ⟨12, 1, .rw, .live, 1⟩, ⟨10, 2, .rw, .held, 0⟩, ⟨9, 1, .rw, .live, 1⟩, ⟨8, 1, .rw, .live, 0⟩, ⟨7, 1, .rw, .live, 1⟩, ⟨0, 6, .rw, .live, 0⟩]⟩,  -- BTH_SVC0
  ⟨0x0409, 0x40, 96, 1, [⟨15, 1, .w1c, .none, 0⟩, ⟨14, 1, .w1c, .none, 0⟩, ⟨0, 10, .rw, .live, 0⟩]⟩,  -- BTH_SVC1
  ⟨0x040A, 0x40, 96, 1, [⟨0, 16, .rw, .live, 0⟩]⟩,  -- BTH_SVC2
  ⟨0x040B, 0x40, 96, 1, [⟨8, 8, .rw, .live, 0xff⟩, ⟨0, 8, .rw, .live, 0x3c⟩]⟩,  -- BTH_SVC3
  ⟨0x040C, 0x40, 96, 1, [⟨8, 8, .rw, .live, 0x1e⟩, ⟨0, 7, .rw, .held, 0x7f⟩]⟩,  -- BTH_SVC4
  ⟨0x040D, 0x40, 96, 1, [⟨14, 2, .ro, .none, 0⟩, ⟨11, 3, .ro, .none, 0⟩, ⟨10, 1, .ro, .none, 0⟩, ⟨9, 1, .ro, .none, 0⟩, ⟨8, 1, .ro, .none, 0⟩, ⟨7, 1, .ro, .none, 0⟩, ⟨4, 1, .w1c, .none, 0⟩, ⟨3, 1, .w1c, .none, 0⟩, ⟨2, 1, .w1c, .none, 0⟩, ⟨1, 1, .w1c, .none, 0⟩]⟩,  -- BTH_SVC5
  ⟨0x040E, 0x40, 96, 1, [⟨8, 8, .wo, .live, 0⟩, ⟨1, 1, .wo, .live, 0⟩, ⟨0, 1, .wo, .live, 0⟩]⟩,  -- BTH_SVC6
  ⟨0x040F, 0x40, 96, 1, [⟨10, 3, .ro, .none, 0⟩, ⟨6, 4, .ro, .none, 0⟩, ⟨4, 1, .w1c, .none, 0⟩, ⟨3, 1, .w1c, .none, 0⟩]⟩ ]  -- BTH_SVC7

/-- Service words under Drm (Table 9.13). -/
def regsSvcDrm : List RDesc := [
  ⟨0x0408, 0x40, 96, 1, [⟨13, 3, .rw, .held, 0⟩, ⟨12, 1, .rw, .live, 0⟩, ⟨10, 2, .rw, .held, 0⟩, ⟨9, 1, .rw, .live, 1⟩]⟩,  -- BTH_SVC0
  ⟨0x0409, 0x40, 96, 1, [⟨0, 16, .rw, .live, 0⟩]⟩,  -- BTH_SVC1
  ⟨0x040A, 0x40, 96, 1, [⟨0, 8, .rw, .live, 0⟩]⟩,  -- BTH_SVC2
  ⟨0x040B, 0x40, 96, 1, [⟨8, 8, .rw, .live, 0xff⟩, ⟨0, 8, .rw, .live, 0x3c⟩]⟩,  -- BTH_SVC3
  ⟨0x040C, 0x40, 96, 1, [⟨8, 8, .rw, .live, 0x1e⟩, ⟨0, 7, .rw, .held, 0x7f⟩]⟩,  -- BTH_SVC4
  ⟨0x040D, 0x40, 96, 1, [⟨14, 2, .ro, .none, 0⟩, ⟨11, 3, .ro, .none, 0⟩, ⟨8, 3, .ro, .none, 0⟩, ⟨7, 1, .ro, .none, 0⟩, ⟨6, 1, .ro, .none, 0⟩, ⟨3, 1, .w1c, .none, 0⟩, ⟨2, 1, .w1c, .none, 0⟩, ⟨1, 1, .w1c, .none, 0⟩]⟩,  -- BTH_SVC5
  ⟨0x040E, 0x40, 96, 1, [⟨8, 8, .wo, .live, 0⟩, ⟨1, 1, .wo, .live, 0⟩, ⟨0, 1, .wo, .live, 0⟩]⟩,  -- BTH_SVC6
  ⟨0x040F, 0x40, 96, 1, [⟨10, 3, .ro, .none, 0⟩, ⟨6, 4, .ro, .none, 0⟩, ⟨4, 1, .w1c, .none, 0⟩, ⟨3, 1, .w1c, .none, 0⟩]⟩ ]  -- BTH_SVC7

/-- Service words under T2 (Table 10.5). -/
def regsSvcT2 : List RDesc := [
  ⟨0x0408, 0x40, 96, 1, [⟨15, 1, .rw, .held, 0⟩, ⟨14, 1, .rw, .live, 0⟩, ⟨13, 1, .rw, .live, 1⟩, ⟨12, 1, .rw, .live, 1⟩, ⟨0, 8, .rw, .live, 0⟩]⟩,  -- BTH_SVC0
  ⟨0x0409, 0x40, 96, 1, [⟨8, 8, .rw, .live, 0⟩, ⟨0, 8, .rw, .live, 0⟩]⟩,  -- BTH_SVC1
  ⟨0x040A, 0x40, 96, 1, [⟨8, 8, .rw, .live, 0⟩, ⟨0, 8, .rw, .live, 0⟩]⟩,  -- BTH_SVC2
  ⟨0x040B, 0x40, 96, 1, [⟨8, 8, .rw, .live, 0⟩, ⟨0, 8, .rw, .live, 0⟩]⟩,  -- BTH_SVC3
  ⟨0x040C, 0x40, 96, 1, [⟨8, 8, .rw, .live, 0⟩, ⟨0, 8, .rw, .live, 0⟩]⟩,  -- BTH_SVC4
  ⟨0x040D, 0x40, 96, 1, [⟨15, 1, .rw, .live, 0⟩, ⟨0, 13, .rw, .live, 0x1fff⟩]⟩,  -- BTH_SVC5
  ⟨0x040E, 0x40, 96, 1, [⟨8, 8, .rw, .live, 0⟩, ⟨0, 8, .rw, .live, 0⟩]⟩,  -- BTH_SVC6
  ⟨0x040F, 0x40, 96, 1, [⟨14, 2, .ro, .none, 0⟩, ⟨13, 1, .ro, .none, 0⟩, ⟨12, 1, .w1c, .none, 0⟩, ⟨11, 1, .w1c, .none, 0⟩, ⟨10, 1, .w1c, .none, 0⟩, ⟨9, 1, .w1c, .none, 0⟩, ⟨8, 1, .w1c, .none, 0⟩, ⟨0, 8, .ro, .none, 0⟩]⟩ ]  -- BTH_SVC7

/-- Service words under Dvbt (Table 10.6). -/
def regsSvcDvbt : List RDesc := [
  ⟨0x0408, 0x40, 96, 1, [⟨15, 1, .rw, .live, 0⟩, ⟨14, 1, .rw, .live, 0⟩]⟩,  -- BTH_SVC0
  ⟨0x040D, 0x40, 96, 1, [⟨15, 1, .rw, .live, 0⟩, ⟨0, 13, .rw, .live, 0x1fff⟩]⟩,  -- BTH_SVC5
  ⟨0x040E, 0x40, 96, 1, [⟨0, 8, .rw, .live, 0⟩]⟩,  -- BTH_SVC6
  ⟨0x040F, 0x40, 96, 1, [⟨14, 2, .ro, .none, 0⟩, ⟨0, 1, .ro, .none, 0⟩, ⟨11, 1, .w1c, .none, 0⟩, ⟨10, 1, .w1c, .none, 0⟩, ⟨9, 1, .w1c, .none, 0⟩, ⟨8, 1, .w1c, .none, 0⟩]⟩ ]  -- BTH_SVC7

/-- Registers of the block Holds (Tables 12.8, 12.9). -/
def regsHolds : List RDesc := [
  ⟨0x2000, 0x1, 1, 1, [⟨0, 7, .rw, .live, 0⟩]⟩,  -- HLD_SEL
  ⟨0x2001, 0x1, 1, 1, [⟨0, 16, .rw, .fixed, 0⟩]⟩,  -- HLD_CAP
  ⟨0x2002, 0x1, 1, 1, [⟨0, 16, .rw, .live, 0⟩]⟩,  -- HLD_HIGH
  ⟨0x2003, 0x1, 1, 1, [⟨0, 16, .rw, .live, 0⟩]⟩,  -- HLD_LOW
  ⟨0x2004, 0x1, 1, 1, [⟨15, 1, .ro, .none, 0⟩, ⟨14, 1, .ro, .none, 0⟩, ⟨2, 1, .wo, .live, 0⟩, ⟨1, 1, .wo, .live, 0⟩, ⟨0, 1, .wo, .live, 0⟩]⟩,  -- HLD_COMMIT
  ⟨0x2005, 0x1, 1, 1, [⟨0, 16, .ro, .none, 0⟩]⟩,  -- HLD_FILL
  ⟨0x2006, 0x1, 1, 1, [⟨0, 16, .rc, .none, 0⟩]⟩,  -- HLD_PEAK
  ⟨0x2007, 0x1, 1, 1, [⟨15, 1, .ro, .none, 0⟩, ⟨14, 1, .ro, .none, 0⟩, ⟨6, 1, .w1c, .none, 0⟩, ⟨5, 1, .w1c, .none, 0⟩, ⟨4, 1, .w1c, .none, 0⟩, ⟨3, 1, .w1c, .none, 0⟩, ⟨2, 1, .w1c, .none, 0⟩, ⟨1, 1, .w1c, .none, 0⟩]⟩,  -- HLD_STATUS
  ⟨0x2008, 0x1, 1, 1, [⟨8, 8, .rc, .none, 0⟩, ⟨0, 8, .rc, .none, 0⟩]⟩,  -- HLD_CROSS
  ⟨0x2009, 0x1, 1, 1, [⟨1, 1, .rw, .live, 1⟩, ⟨0, 1, .rw, .live, 0⟩]⟩,  -- HLD_NOTIFY
  ⟨0x200A, 0x1, 1, 1, [⟨0, 16, .rc, .none, 0⟩]⟩,  -- HLD_PARKS
  ⟨0x200B, 0x1, 1, 1, [⟨0, 16, .rc, .none, 0⟩]⟩,  -- HLD_DROPS
  ⟨0x2010, 0x8, 1, 8, [⟨0, 128, .ro, .none, 0⟩]⟩,  -- HLD_SUMMARY
  ⟨0x2020, 0x2, 1, 2, [⟨0, 32, .ro, .none, 0⟩]⟩,  -- HLD_EPOCH
  ⟨0x2022, 0x1, 1, 1, [⟨0, 8, .rw, .live, 0⟩]⟩,  -- HLD_SEQ_SEL
  ⟨0x2023, 0x2, 1, 2, [⟨0, 32, .ro, .none, 0⟩]⟩,  -- HLD_SEQ_NEXT
  ⟨0x2025, 0x2, 1, 2, [⟨0, 32, .ro, .none, 0xffffffff⟩]⟩,  -- HLD_SEQ_RELEASED
  ⟨0x2027, 0x1, 1, 1, [⟨15, 1, .ro, .none, 0⟩, ⟨2, 1, .w1c, .none, 0⟩, ⟨1, 1, .w1c, .none, 0⟩, ⟨0, 1, .w1c, .none, 0⟩]⟩,  -- HLD_CUSTODY
  ⟨0x2028, 0x1, 1, 1, [⟨0, 16, .ro, .none, 0⟩]⟩ ]  -- HLD_HELD_ITEMS

/-- Registers of the block Quays (Tables 13.6, 13.7). -/
def regsQuays : List RDesc := [
  ⟨0x2100, 0x10, 4, 1, [⟨15, 1, .rw, .live, 0⟩, ⟨14, 1, .ro, .none, 1⟩, ⟨13, 1, .rw, .held, 1⟩]⟩,  -- QY_CTRL
  ⟨0x2101, 0x10, 4, 1, [⟨15, 1, .ro, .none, 0⟩, ⟨14, 1, .ro, .none, 0⟩, ⟨13, 1, .ro, .none, 0⟩, ⟨2, 1, .w1c, .none, 0⟩, ⟨1, 1, .w1c, .none, 0⟩]⟩,  -- QY_STATUS
  ⟨0x2102, 0x10, 4, 1, [⟨0, 16, .rw, .live, 0x64⟩]⟩,  -- QY_HOLD_LIMIT
  ⟨0x2103, 0x10, 4, 1, [⟨0, 16, .ro, .none, 0⟩]⟩,  -- QY_BUSY
  ⟨0x2104, 0x10, 4, 1, [⟨0, 16, .ro, .none, 0⟩]⟩,  -- QY_HELD
  ⟨0x2105, 0x10, 4, 2, [⟨0, 32, .ro, .none, 0⟩]⟩,  -- QY_FRAMES
  ⟨0x2107, 0x10, 4, 1, [⟨15, 1, .ro, .none, 0⟩, ⟨14, 1, .ro, .none, 0⟩, ⟨2, 1, .wo, .live, 0⟩, ⟨1, 1, .wo, .live, 0⟩, ⟨0, 1, .wo, .live, 0⟩]⟩,  -- QY_COMMIT
  ⟨0x2140, 0x1, 101, 1, [⟨4, 2, .rw, .live, 0⟩, ⟨0, 2, .rw, .live, 0⟩]⟩,  -- QY_ROUTE
  ⟨0x21B1, 0x1, 14, 1, [⟨0, 3, .rw, .live, 0⟩]⟩ ]  -- QY_TYPE_ROUTE

/-- Registers of the block Landing (Table 13.8). -/
def regsLanding : List RDesc := [
  ⟨0x2200, 0x1, 1, 1, [⟨15, 1, .rw, .live, 0⟩, ⟨14, 1, .ro, .none, 1⟩]⟩,  -- LAND_CTRL
  ⟨0x2201, 0x1, 1, 1, [⟨15, 1, .ro, .none, 0⟩, ⟨14, 1, .ro, .none, 0⟩, ⟨2, 1, .wo, .live, 0⟩, ⟨1, 1, .wo, .live, 0⟩, ⟨0, 1, .wo, .live, 0⟩]⟩,  -- LAND_COMMIT
  ⟨0x2202, 0x1, 1, 1, [⟨15, 1, .ro, .none, 0⟩, ⟨14, 1, .ro, .none, 1⟩, ⟨13, 1, .ro, .none, 1⟩, ⟨7, 1, .w1c, .none, 0⟩, ⟨6, 1, .w1c, .none, 0⟩, ⟨5, 1, .w1c, .none, 0⟩, ⟨4, 1, .w1c, .none, 0⟩, ⟨3, 1, .w1c, .none, 0⟩, ⟨2, 1, .w1c, .none, 0⟩, ⟨1, 1, .w1c, .none, 0⟩]⟩,  -- LAND_STATUS
  ⟨0x2203, 0x2, 1, 2, [⟨0, 32, .ro, .none, 0⟩]⟩,  -- LAND_ACCEPTED
  ⟨0x2205, 0x1, 1, 1, [⟨8, 8, .rc, .none, 0⟩, ⟨0, 8, .rc, .none, 0⟩]⟩,  -- LAND_DISCARDS
  ⟨0x2206, 0x1, 1, 1, [⟨8, 8, .rc, .none, 0⟩, ⟨0, 8, .rc, .none, 0⟩]⟩,  -- LAND_OTHER
  ⟨0x2207, 0x1, 1, 1, [⟨0, 2, .rw, .live, 0⟩]⟩,  -- LAND_CHAN_SEL
  ⟨0x2208, 0x2, 1, 2, [⟨0, 32, .ro, .none, 0⟩]⟩,  -- LAND_CHAN_EPOCH
  ⟨0x220A, 0x2, 1, 2, [⟨0, 32, .ro, .none, 0⟩]⟩ ]  -- LAND_CHAN_SEQ

/-- Registers of the block Audio (Tables 14.6, 14.7). -/
def regsAudio : List RDesc := [
  ⟨0x2300, 0x10, 4, 1, [⟨15, 1, .rw, .live, 0⟩, ⟨14, 1, .ro, .none, 1⟩, ⟨13, 1, .rw, .held, 1⟩, ⟨12, 1, .rw, .live, 0⟩, ⟨11, 1, .rw, .live, 0⟩, ⟨10, 1, .rw, .held, 0⟩, ⟨9, 1, .rw, .held, 0⟩, ⟨8, 1, .rw, .held, 0⟩, ⟨7, 1, .rw, .held, 0⟩]⟩,  -- AU_CTRL
  ⟨0x2301, 0x10, 4, 1, [⟨13, 3, .rw, .held, 2⟩, ⟨8, 5, .rw, .held, 1⟩, ⟨6, 2, .rw, .held, 3⟩, ⟨0, 5, .rw, .held, 1⟩]⟩,  -- AU_CFG
  ⟨0x2302, 0x10, 4, 1, [⟨15, 1, .ro, .none, 0⟩, ⟨12, 3, .ro, .none, 0⟩, ⟨11, 1, .ro, .none, 0⟩, ⟨6, 1, .w1c, .none, 0⟩, ⟨5, 1, .w1c, .none, 0⟩, ⟨4, 1, .w1c, .none, 0⟩, ⟨3, 1, .w1c, .none, 0⟩, ⟨2, 1, .w1c, .none, 0⟩, ⟨1, 1, .w1c, .none, 0⟩]⟩,  -- AU_STATUS
  ⟨0x2303, 0x10, 4, 1, [⟨13, 3, .ro, .none, 7⟩]⟩,  -- AU_CLOCK
  ⟨0x2304, 0x10, 4, 2, [⟨0, 32, .ro, .none, 0⟩]⟩,  -- AU_RATE
  ⟨0x2306, 0x10, 4, 3, [⟨0, 48, .ro, .none, 0⟩]⟩,  -- AU_POSITION
  ⟨0x2309, 0x10, 4, 2, [⟨0, 32, .ro, .none, 0⟩]⟩,  -- AU_LATE
  ⟨0x230B, 0x10, 4, 1, [⟨8, 8, .rc, .none, 0⟩, ⟨0, 8, .rc, .none, 0⟩]⟩,  -- AU_COUNTS
  ⟨0x230C, 0x10, 4, 1, [⟨0, 11, .ro, .none, 0⟩]⟩,  -- AU_DIV
  ⟨0x230D, 0x10, 4, 1, [⟨15, 1, .ro, .none, 0⟩, ⟨14, 1, .ro, .none, 0⟩, ⟨2, 1, .wo, .live, 0⟩, ⟨1, 1, .wo, .live, 0⟩, ⟨0, 1, .wo, .live, 0⟩]⟩,  -- AU_COMMIT
  ⟨0x2340, 0x1, 1, 1, [⟨0, 4, .wo, .live, 0⟩]⟩,  -- AU_START
  ⟨0x2341, 0x3, 1, 3, [⟨0, 34, .rw, .live, 0⟩]⟩,  -- AU_START_AT
  ⟨0x2344, 0x1, 1, 1, [⟨0, 8, .rw, .fixed, 0x28⟩]⟩ ]  -- AU_LATENCY

/-- Registers of the block Bond (Tables 15.11, 15.12). -/
def regsBond : List RDesc := [
  ⟨0x2400, 0x1, 1, 1, [⟨15, 1, .rw, .fixed, 0⟩]⟩,  -- BOND_CTRL
  ⟨0x2401, 0x1, 1, 1, [⟨8, 8, .wo, .live, 0⟩, ⟨3, 5, .wo, .live, 0⟩, ⟨0, 3, .wo, .live, 0⟩]⟩,  -- BOND_CMD
  ⟨0x2402, 0x1, 1, 1, [⟨15, 1, .ro, .none, 0⟩, ⟨14, 1, .ro, .none, 0⟩, ⟨13, 1, .ro, .none, 0⟩, ⟨12, 1, .ro, .none, 0⟩, ⟨7, 1, .w1c, .none, 0⟩, ⟨6, 1, .w1c, .none, 0⟩, ⟨5, 1, .w1c, .none, 0⟩, ⟨4, 1, .w1c, .none, 0⟩, ⟨3, 1, .w1c, .none, 0⟩, ⟨2, 1, .w1c, .none, 0⟩, ⟨1, 1, .w1c, .none, 0⟩]⟩,  -- BOND_STATUS
  ⟨0x2403, 0x1, 1, 1, [⟨8, 1, .rw, .live, 0⟩, ⟨0, 2, .rw, .live, 1⟩]⟩,  -- BOND_KEY_CFG
  ⟨0x2404, 0x1, 20, 1, [⟨0, 16, .wo, .live, 0⟩]⟩,  -- BOND_KEY_WRAP
  ⟨0x2418, 0x1, 1, 1, [⟨0, 5, .rw, .live, 0⟩]⟩,  -- BOND_SLOT_SEL
  ⟨0x2419, 0x1, 1, 1, [⟨14, 2, .ro, .none, 0⟩, ⟨13, 1, .ro, .none, 0⟩, ⟨11, 2, .ro, .none, 0⟩, ⟨0, 7, .ro, .none, 0⟩]⟩,  -- BOND_SLOT_INFO
  ⟨0x241A, 0x1, 1, 1, [⟨0, 16, .ro, .none, 0⟩]⟩,  -- BOND_SLOT_GEN
  ⟨0x241B, 0x2, 1, 2, [⟨0, 24, .ro, .none, 0⟩]⟩,  -- BOND_KEK_KCV
  ⟨0x241D, 0x1, 1, 1, [⟨0, 5, .ro, .none, 0⟩]⟩,  -- BOND_ALARM
  ⟨0x241E, 0x1, 1, 1, [⟨0, 16, .rw, .live, 0x258⟩]⟩,  -- BOND_IV_HOLD
  ⟨0x241F, 0x1, 1, 1, [⟨0, 13, .ro, .none, 0⟩]⟩,  -- BOND_IV_FILL
  ⟨0x2420, 0x1, 16, 1, [⟨0, 16, .wo, .live, 0⟩]⟩,  -- BOND_KEK_DATA
  ⟨0x2430, 0x2, 1, 2, [⟨0, 32, .ro, .none, 0⟩]⟩,  -- BOND_ACCEPTS
  ⟨0x2432, 0x2, 1, 2, [⟨0, 32, .ro, .none, 0⟩]⟩,  -- BOND_REJECTS
  ⟨0x2434, 0x1, 1, 1, [⟨0, 16, .rc, .none, 0⟩]⟩,  -- BOND_DUPS
  ⟨0x2435, 0x1, 1, 1, [⟨0, 16, .rc, .none, 0⟩]⟩,  -- BOND_LENGTH_ERRORS
  ⟨0x2440, 0x10, 8, 1, [⟨15, 1, .rw, .live, 0⟩, ⟨14, 1, .ro, .none, 1⟩, ⟨13, 1, .ro, .none, 0⟩]⟩,  -- CAP_CTRL
  ⟨0x2441, 0x10, 8, 1, [⟨9, 7, .rw, .held, 0x7f⟩, ⟨4, 5, .rw, .held, 0⟩, ⟨2, 2, .rw, .held, 1⟩]⟩,  -- CAP_CFG
  ⟨0x2442, 0x10, 8, 1, [⟨0, 13, .rw, .held, 0x20⟩]⟩,  -- CAP_UNIT
  ⟨0x2443, 0x10, 8, 1, [⟨0, 16, .rw, .live, 0x64⟩]⟩,  -- CAP_FLUSH
  ⟨0x2444, 0x10, 8, 4, [⟨0, 64, .rw, .held, 0⟩]⟩,  -- CAP_DUN
  ⟨0x2448, 0x10, 8, 2, [⟨0, 32, .ro, .none, 0⟩]⟩,  -- CAP_UNITS
  ⟨0x244A, 0x10, 8, 1, [⟨15, 1, .ro, .none, 0⟩, ⟨14, 1, .ro, .none, 0⟩, ⟨2, 1, .wo, .live, 0⟩, ⟨1, 1, .wo, .live, 0⟩, ⟨0, 1, .wo, .live, 0⟩]⟩ ]  -- CAP_COMMIT

/-- Registers of the block Pilot (Table 16.8). -/
def regsPilot : List RDesc := [
  ⟨0x2500, 0x1, 1, 1, [⟨15, 1, .rw, .live, 0⟩, ⟨14, 1, .ro, .none, 1⟩, ⟨13, 1, .ro, .none, 0⟩, ⟨12, 1, .ro, .none, 0⟩]⟩,  -- PLT_CTRL
  ⟨0x2501, 0x1, 1, 1, [⟨15, 1, .ro, .none, 0⟩, ⟨14, 1, .ro, .none, 0⟩, ⟨2, 1, .wo, .live, 0⟩, ⟨1, 1, .wo, .live, 0⟩, ⟨0, 1, .wo, .live, 0⟩]⟩,  -- PLT_COMMIT
  ⟨0x2502, 0x1, 1, 1, [⟨15, 1, .ro, .none, 0⟩, ⟨7, 1, .w1c, .none, 0⟩, ⟨6, 1, .w1c, .none, 0⟩, ⟨5, 1, .w1c, .none, 0⟩, ⟨4, 1, .w1c, .none, 0⟩, ⟨3, 1, .w1c, .none, 0⟩, ⟨2, 1, .w1c, .none, 0⟩, ⟨1, 1, .w1c, .none, 0⟩]⟩,  -- PLT_STATUS
  ⟨0x2503, 0x1, 1, 1, [⟨10, 6, .rw, .live, 8⟩, ⟨9, 1, .rw, .live, 1⟩, ⟨8, 1, .rw, .live, 0⟩, ⟨0, 7, .rw, .live, 0x60⟩]⟩,  -- PLT_TX_CFG
  ⟨0x2504, 0x1, 1, 1, [⟨12, 4, .rw, .live, 6⟩, ⟨11, 1, .rw, .live, 0⟩, ⟨0, 8, .rw, .live, 0xab⟩]⟩,  -- PLT_RX_CFG
  ⟨0x2505, 0x1, 1, 1, [⟨0, 16, .rw, .fixed, 0x64⟩]⟩,  -- PLT_DUTY
  ⟨0x2506, 0x1, 1, 1, [⟨0, 8, .rw, .live, 0xa⟩]⟩,  -- PLT_RESERVE
  ⟨0x2507, 0x1, 1, 1, [⟨0, 16, .rw, .live, 0x32⟩]⟩,  -- PLT_HOLD
  ⟨0x2508, 0x1, 1, 1, [⟨0, 16, .rw, .live, 0x3c⟩]⟩,  -- PLT_WAIT
  ⟨0x2509, 0x1, 1, 1, [⟨6, 10, .rw, .live, 0xc8⟩, ⟨0, 6, .rw, .live, 0⟩]⟩,  -- PLT_RELAY
  ⟨0x250A, 0x2, 1, 2, [⟨0, 32, .rw, .live, 0xffffffff⟩]⟩,  -- PLT_PERIODIC_EN
  ⟨0x250C, 0x1, 1, 1, [⟨0, 16, .ro, .none, 0⟩]⟩,  -- PLT_DUTY_USED
  ⟨0x250D, 0x1, 1, 1, [⟨0, 16, .ro, .none, 0⟩]⟩,  -- PLT_DUTY_LEFT
  ⟨0x250E, 0x1, 1, 1, [⟨12, 4, .ro, .none, 0⟩, ⟨8, 4, .ro, .none, 0⟩, ⟨0, 8, .ro, .none, 0⟩]⟩,  -- PLT_LAST
  ⟨0x250F, 0x2, 1, 2, [⟨0, 32, .ro, .none, 0⟩]⟩,  -- PLT_LAST_SEQ
  ⟨0x2511, 0x2, 1, 2, [⟨0, 32, .ro, .none, 0⟩]⟩,  -- PLT_SENT
  ⟨0x2513, 0x1, 1, 1, [⟨8, 8, .rc, .none, 0⟩, ⟨0, 8, .rc, .none, 0⟩]⟩,  -- PLT_REJECTS_A
  ⟨0x2514, 0x1, 1, 1, [⟨8, 8, .rc, .none, 0⟩, ⟨0, 8, .rc, .none, 0⟩]⟩,  -- PLT_REJECTS_B
  ⟨0x2515, 0x1, 1, 1, [⟨0, 16, .ro, .none, 0⟩]⟩,  -- PLT_TX_LEVEL
  ⟨0x2516, 0x1, 1, 1, [⟨1, 1, .rw, .fixed, 0⟩, ⟨0, 1, .rw, .fixed, 0⟩]⟩ ]  -- PLT_PINS

/-- Service words under Prx (Table 16.9). -/
def regsSvcPrx : List RDesc := [
  ⟨0x0408, 0x40, 96, 1, [⟨10, 6, .rw, .held, 0⟩, ⟨9, 1, .rw, .live, 0⟩]⟩,  -- BTH_SVC0
  ⟨0x0409, 0x40, 96, 1, [⟨13, 3, .ro, .none, 0⟩, ⟨12, 1, .ro, .none, 0⟩, ⟨6, 1, .w1c, .none, 0⟩, ⟨5, 1, .w1c, .none, 0⟩, ⟨4, 1, .w1c, .none, 0⟩, ⟨3, 1, .w1c, .none, 0⟩, ⟨2, 1, .w1c, .none, 0⟩, ⟨1, 1, .w1c, .none, 0⟩, ⟨0, 1, .w1c, .none, 0⟩]⟩,  -- BTH_SVC1
  ⟨0x040A, 0x40, 96, 1, [⟨0, 16, .rc, .none, 0⟩]⟩,  -- BTH_SVC2
  ⟨0x040B, 0x40, 96, 1, [⟨8, 8, .rc, .none, 0⟩, ⟨0, 8, .rc, .none, 0⟩]⟩,  -- BTH_SVC3
  ⟨0x040C, 0x40, 96, 1, [⟨8, 8, .rc, .none, 0⟩, ⟨0, 8, .rc, .none, 0⟩]⟩,  -- BTH_SVC4
  ⟨0x040D, 0x40, 96, 1, [⟨8, 8, .ro, .none, 0⟩]⟩,  -- BTH_SVC5
  ⟨0x040E, 0x40, 96, 1, [⟨0, 16, .ro, .none, 0⟩]⟩,  -- BTH_SVC6
  ⟨0x040F, 0x40, 96, 1, [⟨0, 16, .ro, .none, 0⟩]⟩ ]  -- BTH_SVC7

/-- Registers of the block Protection (Table 18.13). -/
def regsProtection : List RDesc := [
  ⟨0x2600, 0x1, 1, 1, [⟨15, 1, .ro, .none, 0⟩, ⟨14, 1, .ro, .none, 0⟩, ⟨4, 1, .w1c, .none, 0⟩, ⟨3, 1, .w1c, .none, 0⟩, ⟨2, 1, .w1c, .none, 0⟩, ⟨1, 1, .w1c, .none, 0⟩]⟩,  -- PROT_STATUS
  ⟨0x2601, 0x1, 1, 1, [⟨0, 16, .rc, .none, 0⟩]⟩,  -- PROT_CORRECTED
  ⟨0x2602, 0x1, 1, 1, [⟨0, 16, .rc, .none, 0⟩]⟩,  -- PROT_UNCORRECTABLE
  ⟨0x2603, 0x1, 1, 1, [⟨0, 16, .ro, .none, 0x180⟩]⟩,  -- PROT_SPARE_ROWS
  ⟨0x2604, 0x1, 1, 1, [⟨0, 16, .ro, .none, 0x94⟩]⟩,  -- PROT_SPARE_ROWS
  ⟨0x2605, 0x1, 1, 1, [⟨8, 8, .ro, .none, 0⟩, ⟨0, 8, .ro, .none, 8⟩]⟩,  -- PROT_LANES
  ⟨0x2606, 0x1, 1, 1, [⟨0, 16, .rc, .none, 0⟩]⟩,  -- PROT_PATROLS
  ⟨0x2607, 0x1, 1, 1, [⟨8, 8, .rc, .none, 0⟩, ⟨0, 8, .rc, .none, 0⟩]⟩,  -- PROT_TAKEOVERS
  ⟨0x2608, 0x3, 1, 3, [⟨0, 33, .ro, .none, 0⟩]⟩,  -- PROT_CRANES_RETIRED
  ⟨0x260B, 0x1, 1, 1, [⟨12, 4, .ro, .none, 0⟩, ⟨10, 2, .ro, .none, 0⟩, ⟨6, 4, .ro, .none, 0⟩, ⟨5, 1, .ro, .none, 0⟩, ⟨4, 1, .ro, .none, 0⟩]⟩,  -- PROT_UNITS_RETIRED
  ⟨0x260C, 0x1, 1, 1, [⟨8, 8, .wo, .live, 0⟩, ⟨0, 4, .wo, .live, 0⟩]⟩,  -- PROT_CMD
  ⟨0x260D, 0x1, 1, 1, [⟨12, 4, .rw, .live, 0⟩, ⟨0, 12, .rw, .live, 0⟩]⟩,  -- PROT_CMD_UNIT
  ⟨0x260E, 0x1, 1, 1, [⟨14, 2, .ro, .none, 0⟩]⟩,  -- PROT_LAST
  ⟨0x260F, 0x1, 1, 1, [⟨8, 8, .ro, .none, 0⟩, ⟨0, 8, .ro, .none, 0⟩]⟩ ]  -- PROT_SCRUB_PASSES

/-- Registers of the block Injection (Table 18.14). -/
def regsInjection : List RDesc := [
  ⟨0x2700, 0x1, 1, 1, [⟨0, 16, .rw, .live, 0⟩]⟩,  -- INJ_DETECTOR
  ⟨0x2701, 0x1, 1, 1, [⟨12, 4, .rw, .live, 0⟩, ⟨0, 12, .rw, .live, 0⟩]⟩,  -- INJ_UNIT
  ⟨0x2702, 0x2, 1, 2, [⟨28, 4, .rw, .live, 0⟩, ⟨22, 6, .rw, .live, 0⟩, ⟨12, 10, .rw, .live, 0⟩, ⟨0, 7, .rw, .live, 0⟩]⟩,  -- INJ_ADDR
  ⟨0x2704, 0x1, 1, 1, [⟨15, 1, .rw, .live, 0⟩, ⟨12, 2, .rw, .live, 1⟩, ⟨0, 8, .rw, .live, 1⟩]⟩,  -- INJ_CFG
  ⟨0x2705, 0x1, 1, 1, [⟨8, 8, .wo, .live, 0⟩, ⟨1, 1, .wo, .live, 0⟩, ⟨0, 1, .wo, .live, 0⟩]⟩,  -- INJ_CMD
  ⟨0x2706, 0x1, 1, 1, [⟨15, 1, .ro, .none, 0⟩, ⟨14, 1, .ro, .none, 0⟩, ⟨8, 1, .w1c, .none, 0⟩, ⟨0, 8, .ro, .none, 0⟩]⟩ ]  -- INJ_STATUS

/-- Registers of the block TwoWire (Table 19.6). -/
def regsTwoWire : List RDesc := [
  ⟨0x2900, 0x1, 1, 1, [⟨15, 1, .rw, .live, 1⟩, ⟨8, 4, .rw, .live, 0⟩]⟩,  -- TW_CFG
  ⟨0x2901, 0x1, 1, 1, [⟨15, 1, .ro, .none, 0⟩, ⟨14, 1, .ro, .none, 0⟩, ⟨13, 1, .ro, .none, 0⟩, ⟨8, 1, .w1c, .none, 0⟩, ⟨7, 1, .w1c, .none, 0⟩, ⟨6, 1, .w1c, .none, 0⟩, ⟨5, 1, .w1c, .none, 0⟩, ⟨4, 1, .w1c, .none, 0⟩, ⟨3, 1, .w1c, .none, 0⟩, ⟨2, 1, .w1c, .none, 0⟩, ⟨1, 1, .w1c, .none, 0⟩]⟩,  -- TW_STATUS
  ⟨0x2902, 0x1, 1, 1, [⟨0, 8, .w1c, .none, 0⟩]⟩,  -- TW_ATTN_SRC
  ⟨0x2903, 0x1, 1, 1, [⟨0, 8, .rw, .live, 0xff⟩]⟩,  -- TW_ATTN_EN
  ⟨0x2904, 0x1, 1, 1, [⟨0, 7, .ro, .none, 0⟩]⟩,  -- TW_ADDR
  ⟨0x2905, 0x1, 1, 1, [⟨0, 16, .ro, .none, 0⟩]⟩,  -- TW_LAST_REFUSED
  ⟨0x2906, 0x1, 1, 1, [⟨8, 8, .rc, .none, 0⟩, ⟨0, 8, .rc, .none, 0⟩]⟩,  -- TW_COUNTS
  ⟨0x2907, 0x1, 1, 1, [⟨8, 8, .rc, .none, 0⟩, ⟨0, 8, .rc, .none, 0⟩]⟩ ]  -- TW_COUNTS

/-- Registers of the block Domains (Tables 20.6, 20.7). -/
def regsDomains : List RDesc := [
  ⟨0x2A00, 0x1, 1, 1, [⟨2, 1, .rw, .live, 1⟩, ⟨1, 1, .rw, .live, 1⟩, ⟨0, 1, .rw, .live, 1⟩]⟩,  -- DOM_CTRL
  ⟨0x2A01, 0x1, 1, 1, [⟨15, 1, .w1c, .none, 0⟩, ⟨14, 1, .w1c, .none, 0⟩, ⟨13, 1, .w1c, .none, 0⟩, ⟨12, 1, .w1c, .none, 0⟩]⟩,  -- DOM_STATUS
  ⟨0x2A02, 0x1, 1, 1, [⟨0, 2, .ro, .none, 0⟩, ⟨2, 2, .ro, .none, 0⟩, ⟨4, 2, .ro, .none, 0⟩, ⟨6, 2, .ro, .none, 0⟩, ⟨8, 2, .ro, .none, 0⟩, ⟨10, 2, .ro, .none, 0⟩, ⟨12, 2, .ro, .none, 0⟩]⟩,  -- DOM_STATE
  ⟨0x2A03, 0x1, 1, 1, [⟨8, 8, .ro, .none, 0⟩, ⟨0, 4, .ro, .none, 0⟩]⟩,  -- DOM_LAST_FAULT
  ⟨0x2A04, 0x1, 7, 1, [⟨8, 8, .rc, .none, 0⟩, ⟨0, 8, .rc, .none, 0⟩]⟩,  -- DOM_COUNTS
  ⟨0x2A10, 0x1, 6, 1, [⟨0, 16, .ro, .none, 0⟩]⟩,  -- SUP_LEVEL
  ⟨0x2A18, 0x1, 6, 1, [⟨0, 16, .rc, .none, 0xffff⟩]⟩,  -- SUP_MIN
  ⟨0x2A20, 0x1, 6, 1, [⟨0, 16, .rc, .none, 0⟩]⟩,  -- SUP_MAX
  ⟨0x2A28, 0x1, 1, 1, [⟨15, 1, .ro, .none, 0⟩, ⟨14, 1, .w1c, .none, 0⟩, ⟨8, 6, .w1c, .none, 0⟩, ⟨0, 6, .ro, .none, 0⟩]⟩,  -- SUP_STATUS
  ⟨0x2A30, 0x1, 1, 1, [⟨0, 16, .ro, .none, 0⟩]⟩,  -- SUP_TEMP
  ⟨0x2A31, 0x1, 1, 1, [⟨0, 16, .rc, .none, 0x7fff⟩]⟩,  -- SUP_TEMP_MIN
  ⟨0x2A32, 0x1, 1, 1, [⟨0, 16, .rc, .none, 0x8000⟩]⟩,  -- SUP_TEMP_MAX
  ⟨0x2A33, 0x1, 1, 1, [⟨0, 8, .rw, .live, 0x69⟩]⟩ ]  -- SUP_TEMP_WARN

/-- The service words of a berth under a standard (Table 20.5); none: all bits reserved. -/
def svcMap : Nat → List RDesc
  | 1 => regsSvcAm
  | 2 => regsSvcFm
  | 3 => regsSvcDrm
  | 4 => regsSvcDab
  | 5 => regsSvcDvbt
  | 6 => regsSvcT2
  | 7 => regsSvcPrx
  | _ => []

/-- The registers of the block in whose range an address lies (Table 20.1); the service words are not among them. -/
def blockOf (a : Nat) : List RDesc :=
  if a < 0x100 then regsGlobal
  else if a < 0x200 then regsTimebase
  else if a < 0x300 then regsIntakes
  else if a < 0x400 then []
  else if a < 0x1C00 then regsBerth
  else if a < 0x1E10 then regsCrane
  else if a < 0x2000 then []
  else if a < 0x2100 then regsHolds
  else if a < 0x2200 then regsQuays
  else if a < 0x2300 then regsLanding
  else if a < 0x2400 then regsAudio
  else if a < 0x2500 then regsBond
  else if a < 0x2600 then regsPilot
  else if a < 0x2700 then regsProtection
  else if a < 0x2800 then regsInjection
  else if a < 0x2900 then regsJournals
  else if a < 0x2A00 then regsTwoWire
  else if a < 0x2B00 then regsDomains
  else if a < 0x3000 then []
  else if a < 0x4000 then regsIndirect
  else []

/-- Whether an address lies in a register (or in an indexed set of them). -/
def RDesc.covers (r : RDesc) (a : Nat) : Bool :=
  Nat.ble r.base a && Nat.blt ((a - r.base) / r.stride) r.count && Nat.blt ((a - r.base) % r.stride) r.words

/-- The register at an address, with the address of its lowest word; `std` is the STANDARD of the berth whose window it is. -/
def regAt (std a : Nat) : Option (RDesc × Nat) :=
  let find (l : List RDesc) := (l.find? (·.covers a)).map (fun r => (r, a - (a - r.base) % r.stride))
  if Nat.ble 0x400 a && Nat.blt a 0x1C00 && Nat.ble 8 ((a - 0x400) % 0x40) && Nat.blt ((a - 0x400) % 0x40) 0x10 then
    some ((find (svcMap std)).getD (⟨a, 0x40, 96, 1, []⟩, a))
  else find (blockOf a)

/-! Storage addresses. The registers of a window that a selector points at an item are held once per item, above the
16-bit space. -/

/-- Where the registers 0x2001 to 0x200B of hold `h` are held (R279). -/
def holdAddr (h : Nat) (a : Nat) : Nat := 0x10000 + 0x10 * h + (a - 0x2000)

/-- Where `MSR_PERIOD`, `MSR_ECHO` and `MSR_WINDOW` (0x0074 to 0x0076) of berth `n` are held. -/
def msrAddr (n : Nat) (a : Nat) : Nat := 0x12000 + 4 * n + (a - 0x74)

/-- Where entry `i` of the urgent-class table (0x0089 to 0x008B) is held. -/
def urgAddr (i : Nat) (a : Nat) : Nat := 0x13000 + 4 * i + (a - 0x89)

/-- Where `AF_HEAD`, `AF_ID` and `AF_FREQ` (0x3011 to 0x3053) of table `i` are held (R441). -/
def afAddr (i : Nat) (a : Nat) : Nat := 0x20000 + 0x80 * i + (a - 0x3011)

/-- Where `LN_BANK_LEN` and `LN_BANK_TAP` of a bank (lane × 2 + bank) are held (R145). -/
def bankAddr (b : Nat) (a : Nat) : Nat := 0x40000 + 0x200 * b + (if a = 0x3001 then 0 else a - 0x3100 + 0x40)

/-- The address in the 16-bit map whose layout a storage address has. -/
def mapAddr (a : Nat) : Nat :=
  if a < 0x10000 then a
  else if a < 0x12000 then 0x2000 + (a - 0x10000) % 0x10
  else if a < 0x13000 then 0x74 + (a - 0x12000) % 4
  else if a < 0x20000 then 0x89 + (a - 0x13000) % 4
  else if a < 0x40000 then 0x3011 + (a - 0x20000) % 0x80
  else let o := (a - 0x40000) % 0x200; if o < 0x40 then 0x3001 else 0x3100 + (o - 0x40)

/-- The first crane of each class and how many of its cranes work with all of them present (Table 7.2). -/
def classFirst : Nat → Nat
  | 0 => 0 | 1 => 7 | 2 => 14 | 3 => 19 | _ => 24

/-- How many cranes a class has (Table 7.2). -/
def classSize : Nat → Nat
  | 0 => 7 | 1 => 7 | 2 => 5 | 3 => 5 | _ => 9

/-- The class of a crane (Table 7.2). -/
def classOf (c : Nat) : Nat :=
  if c < 7 then 0 else if c < 14 then 1 else if c < 19 then 2 else if c < 24 then 3 else 4

/-- CLU per working crane (Table 7.6). -/
def cluPerCrane : Nat → Nat
  | 0 => 1000 | 1 => 1200 | 2 => 600 | 3 => 400 | _ => 1000

/-- Capacity, HIGH and LOW of a hold at reset (Table 12.1). -/
def holdReset (h : Nat) : Nat × Nat × Nat :=
  if h < 96 then (64, 48, 16)
  else if h < 100 then (8192, 6144, 2048)
  else if h < 104 then (96, 72, 24)
  else if h = 104 then (64, 48, 16)
  else if h = 105 then (1024, 768, 256)
  else if h = 106 then (32, 24, 8)
  else if h = 107 then (256, 192, 64)
  else if h = 108 then (128, 96, 32)
  else if h = 109 then (16384, 12288, 4096)
  else if h < 112 then (16, 12, 4)
  else (2048, 1536, 512)

/-- The divider range of each movement output (Table 4.3). -/
def outDivRange (o : Nat) : Nat × Nat :=
  if o < 4 then (2, 2) else if o < 8 then (48, 48) else if o = 8 then (96, 192) else if o = 9 then (8, 1024)
  else if o < 14 then (200, 200) else (50, 1024)

/-- Reset values that a table gives per unit: dividers, lanes, cranes, beats, capacities, holds, urgent entries. -/
def unitReset (a lo : Nat) : Option Nat :=
  let m := mapAddr a
  if a < 0x10000 then
    if Nat.ble 0x121 a && Nat.blt a 0x145 && a % 2 = 1 then some (outDivRange ((a - 0x121) / 2)).1
    else if Nat.ble 0x400 a && Nat.blt a 0x1C00 && (a - 0x400) % 0x40 = 0x11 && lo = 0 then some ((a - 0x400) / 0x40)
    else if Nat.ble 0x1C00 a && Nat.blt a 0x1E10 && (a - 0x1C00) % 0x10 = 0 && lo = 14 then
      let c := (a - 0x1C00) / 0x10
      some (if c = 6 || c = 13 || c = 18 || c = 23 || c = 32 then 1 else 0)
    else if Nat.ble 0x1C00 a && Nat.blt a 0x1E10 && (a - 0x1C00) % 0x10 = 0 && lo = 11 then
      some (classOf ((a - 0x1C00) / 0x10))
    else if Nat.ble 0x40 a && Nat.blt a 0x45 then some ([220, 100, 250, 50, 50].getD (a - 0x40) 0)
    else if Nat.ble 0x4D a && Nat.blt a 0x52 then some ([6000, 7200, 2400, 1600, 8000].getD (a - 0x4D) 0)
    else none
  else if a < 0x12000 then
    let r := holdReset ((a - 0x10000) / 0x10)
    if m = 0x2001 then some r.1 else if m = 0x2002 then some r.2.1 else if m = 0x2003 then some r.2.2 else none
  else if Nat.ble 0x13000 a && Nat.blt a 0x13010 then
    if m = 0x89 && lo = 8 then some ((a - 0x13000) / 4 + 1)
    else if m = 0x89 && lo = 0 then some 0xFF
    else if m = 0x8A then some 3 else some 0
  else none

/-- The key of a field in `State.regs`. -/
def Fld.key (f : Fld) : Nat := f.addr * 16 + f.lo

/-- What a field holds that `State.regs` does not list: its reset value. -/
def regDefault (key : Nat) : Nat :=
  let a := key / 16
  let lo := key % 16
  match unitReset a lo with
  | some v => v
  | none =>
    match regAt 0 (mapAddr a) with
    | some (r, _) => ((r.fields.find? (fun f => f.lo == lo)).map (·.reset)).getD 0
    | none => 0

end Sys2Proof.Machine
end

