-- ==== Sys2Proof/Machine/Updates.lean ====
section
/-! DEFINITION. One update per field of the state, so that a change of one field is written, and reasoned about, in one way. -/

namespace Sys2Proof.Machine

/-- Gives `pending` a new value. -/
@[simps] def State.setPending (s : State) (v : List Instr) : State := { s with pending := v }

/-- Gives `regs` a new value. -/
@[simps] def State.setRegs (s : State) (v : Tbl Nat) : State := { s with regs := v }

/-- Gives `stage` a new value. -/
@[simps] def State.setStage (s : State) (v : Option Stage) : State := { s with stage := v }

/-- Gives `snap` a new value. -/
@[simps] def State.setSnap (s : State) (v : List (Nat × Nat)) : State := { s with snap := v }

/-- Gives `shadow` a new value. -/
@[simps] def State.setShadow (s : State) (v : List Shadow) : State := { s with shadow := v }

/-- Gives `groupOf` a new value. -/
@[simps] def State.setGroupOf (s : State) (v : List (Nat × Nat)) : State := { s with groupOf := v }

/-- Gives `sec` a new value. -/
@[simps] def State.setSec (s : State) (v : Nat) : State := { s with sec := v }

/-- Gives `ns` a new value. -/
@[simps] def State.setNs (s : State) (v : Nat) : State := { s with ns := v }

/-- Gives `freeCtr` a new value. -/
@[simps] def State.setFreeCtr (s : State) (v : Nat) : State := { s with freeCtr := v }

/-- Gives `mode` a new value. -/
@[simps] def State.setMode (s : State) (v : Mode) : State := { s with mode := v }

/-- Gives `jnl` a new value. -/
@[simps] def State.setJnl (s : State) (v : List JEntry) : State := { s with jnl := v }

/-- Gives `jnlCount` a new value. -/
@[simps] def State.setJnlCount (s : State) (v : Nat) : State := { s with jnlCount := v }

/-- Gives `err` a new value. -/
@[simps] def State.setErr (s : State) (v : List EEntry) : State := { s with err := v }

/-- Gives `errCount` a new value. -/
@[simps] def State.setErrCount (s : State) (v : Nat) : State := { s with errCount := v }

/-- Gives `errExport` a new value. -/
@[simps] def State.setErrExport (s : State) (v : List EEntry) : State := { s with errExport := v }

/-- Gives `boot` a new value. -/
@[simps] def State.setBoot (s : State) (v : Option Boot) : State := { s with boot := v }

/-- Gives `wind` a new value. -/
@[simps] def State.setWind (s : State) (v : Option Wind) : State := { s with wind := v }

/-- Gives `dead` a new value. -/
@[simps] def State.setDead (s : State) (v : Bool) : State := { s with dead := v }

/-- Gives `pinLow` a new value. -/
@[simps] def State.setPinLow (s : State) (v : Bool) : State := { s with pinLow := v }

/-- Gives `closing` a new value. -/
@[simps] def State.setClosing (s : State) (v : Bool) : State := { s with closing := v }

/-- Gives `trimming` a new value. -/
@[simps] def State.setTrimming (s : State) (v : List Nat) : State := { s with trimming := v }

/-- Gives `movs` a new value. -/
@[simps] def State.setMovs (s : State) (v : Tbl Mov) : State := { s with movs := v }

/-- Gives `pairs` a new value. -/
@[simps] def State.setPairs (s : State) (v : Tbl Pair) : State := { s with pairs := v }

/-- Gives `refCount` a new value. -/
@[simps] def State.setRefCount (s : State) (v : RefCount) : State := { s with refCount := v }

/-- Gives `ppsGood` a new value. -/
@[simps] def State.setPpsGood (s : State) (v : Nat) : State := { s with ppsGood := v }

/-- Gives `ppsStep` a new value. -/
@[simps] def State.setPpsStep (s : State) (v : Bool) : State := { s with ppsStep := v }

/-- Gives `steer` a new value. -/
@[simps] def State.setSteer (s : State) (v : Int × Int) : State := { s with steer := v }

/-- Gives `timeSet` a new value. -/
@[simps] def State.setTimeSet (s : State) (v : Option Nat) : State := { s with timeSet := v }

/-- Gives `visiting` a new value. -/
@[simps] def State.setVisiting (s : State) (v : List Nat) : State := { s with visiting := v }

/-- Gives `intakes` a new value. -/
@[simps] def State.setIntakes (s : State) (v : Tbl Intake) : State := { s with intakes := v }

/-- Gives `repeats` a new value. -/
@[simps] def State.setRepeats (s : State) (v : Nat) : State := { s with repeats := v }

/-- Gives `calTable` a new value. -/
@[simps] def State.setCalTable (s : State) (v : Tbl (Nat × Nat)) : State := { s with calTable := v }

/-- Gives `lanes` a new value. -/
@[simps] def State.setLanes (s : State) (v : Tbl LaneRole) : State := { s with lanes := v }

/-- Gives `sounding` a new value. -/
@[simps] def State.setSounding (s : State) (v : List Nat) : State := { s with sounding := v }

/-- Gives `syncMask` a new value. -/
@[simps] def State.setSyncMask (s : State) (v : Nat) : State := { s with syncMask := v }

/-- Gives `patrolAt` a new value. -/
@[simps] def State.setPatrolAt (s : State) (v : Nat) : State := { s with patrolAt := v }

/-- Gives `dIntake` a new value. -/
@[simps] def State.setDIntake (s : State) (v : List Nat × List Nat) : State := { s with dIntake := v }

/-- Gives `uIntake` a new value. -/
@[simps] def State.setUIntake (s : State) (v : Nat × Nat) : State := { s with uIntake := v }

/-- Gives `berths` a new value. -/
@[simps] def State.setBerths (s : State) (v : Tbl Berth) : State := { s with berths := v }

/-- Gives `ready` a new value. -/
@[simps] def State.setReady (s : State) (v : Tbl (List Nat)) : State := { s with ready := v }

/-- Gives `handover` a new value. -/
@[simps] def State.setHandover (s : State) (v : List Nat) : State := { s with handover := v }

/-- Gives `outbox` a new value. -/
@[simps] def State.setOutbox (s : State) (v : Tbl (List Wait)) : State := { s with outbox := v }

/-- Gives `rds` a new value. -/
@[simps] def State.setRds (s : State) (v : Tbl Rds) : State := { s with rds := v }

/-- Gives `follow` a new value. -/
@[simps] def State.setFollow (s : State) (v : Tbl Follow) : State := { s with follow := v }

/-- Gives `soundingAt` a new value. -/
@[simps] def State.setSoundingAt (s : State) (v : Option (Nat × Nat × Nat)) : State := { s with soundingAt := v }

/-- Gives `dab` a new value. -/
@[simps] def State.setDab (s : State) (v : Tbl Dab) : State := { s with dab := v }

/-- Gives `drm` a new value. -/
@[simps] def State.setDrm (s : State) (v : Tbl Drm) : State := { s with drm := v }

/-- Gives `dvb` a new value. -/
@[simps] def State.setDvb (s : State) (v : Tbl Dvb) : State := { s with dvb := v }

/-- Gives `windows` a new value. -/
@[simps] def State.setWindows (s : State) (v : Tbl (Option Win)) : State := { s with windows := v }

/-- Gives `ended` a new value. -/
@[simps] def State.setEnded (s : State) (v : Tbl (List Win)) : State := { s with ended := v }

/-- Gives `driftAt` a new value. -/
@[simps] def State.setDriftAt (s : State) (v : Nat) : State := { s with driftAt := v }

/-- Gives `custody` a new value. -/
@[simps] def State.setCustody (s : State) (v : List Item) : State := { s with custody := v }

/-- Gives `prods` a new value. -/
@[simps] def State.setProds (s : State) (v : Tbl Producer) : State := { s with prods := v }

/-- Gives `stats` a new value. -/
@[simps] def State.setStats (s : State) (v : Tbl Stat) : State := { s with stats := v }

/-- Gives `quays` a new value. -/
@[simps] def State.setQuays (s : State) (v : Tbl Quay) : State := { s with quays := v }

/-- Gives `epoch` a new value. -/
@[simps] def State.setEpoch (s : State) (v : Nat) : State := { s with epoch := v }

/-- Gives `holdPins` a new value. -/
@[simps] def State.setHoldPins (s : State) (v : Nat) : State := { s with holdPins := v }

/-- Gives `taken` a new value. -/
@[simps] def State.setTaken (s : State) (v : Tbl Nat) : State := { s with taken := v }

/-- Gives `rebuilding` a new value. -/
@[simps] def State.setRebuilding (s : State) (v : Bool) : State := { s with rebuilding := v }

/-- Gives `landRx` a new value. -/
@[simps] def State.setLandRx (s : State) (v : LandRx) : State := { s with landRx := v }

/-- Gives `landFifo` a new value. -/
@[simps] def State.setLandFifo (s : State) (v : List LFrame) : State := { s with landFifo := v }

/-- Gives `landChans` a new value. -/
@[simps] def State.setLandChans (s : State) (v : Tbl LandChan) : State := { s with landChans := v }

/-- Gives `ports` a new value. -/
@[simps] def State.setPorts (s : State) (v : Tbl Port) : State := { s with ports := v }
/-- Writes the banks of the clocked FIFOs. -/
@[simps] def State.setBanks (s : State) (v : Tbl Nat) : State := { s with banks := v }

/-- Gives `slots` a new value. -/
@[simps] def State.setSlots (s : State) (v : Tbl Slot) : State := { s with slots := v }

/-- Gives `bondReqs` a new value. -/
@[simps] def State.setBondReqs (s : State) (v : List BReq) : State := { s with bondReqs := v }

/-- Gives `bondNext` a new value. -/
@[simps] def State.setBondNext (s : State) (v : Nat) : State := { s with bondNext := v }

/-- Gives `bondNow` a new value. -/
@[simps] def State.setBondNow (s : State) (v : Option Nat) : State := { s with bondNow := v }

/-- Gives `ivTable` a new value. -/
@[simps] def State.setIvTable (s : State) (v : List IvEntry) : State := { s with ivTable := v }

/-- Gives `keyWrap` a new value. -/
@[simps] def State.setKeyWrap (s : State) (v : Tbl Nat) : State := { s with keyWrap := v }

/-- Gives `kekData` a new value. -/
@[simps] def State.setKekData (s : State) (v : Tbl Nat) : State := { s with kekData := v }

/-- Gives `kek` a new value. -/
@[simps] def State.setKek (s : State) (v : Option (List Byte)) : State := { s with kek := v }

/-- Gives `kekBurn` a new value. -/
@[simps] def State.setKekBurn (s : State) (v : Option (List Byte)) : State := { s with kekBurn := v }

/-- Gives `drbg` a new value. -/
@[simps] def State.setDrbg (s : State) (v : Option Drbg) : State := { s with drbg := v }

/-- Gives `caps` a new value. -/
@[simps] def State.setCaps (s : State) (v : Tbl Cap) : State := { s with caps := v }

/-- Gives `schedule` a new value. -/
@[simps] def State.setSchedule (s : State) (v : List TxReq) : State := { s with schedule := v }

/-- Gives `txAt` a new value. -/
@[simps] def State.setTxAt (s : State) (v : Nat × TxStage) : State := { s with txAt := v }

/-- Gives `trsw` a new value. -/
@[simps] def State.setTrsw (s : State) (v : Bool) : State := { s with trsw := v }

/-- Gives `pilotWindow` a new value. -/
@[simps] def State.setPilotWindow (s : State) (v : Bool) : State := { s with pilotWindow := v }

/-- Gives `onAir` a new value. -/
@[simps] def State.setOnAir (s : State) (v : Option (Nat × Nat × List Byte)) : State := { s with onAir := v }

/-- Gives `dutyBins` a new value. -/
@[simps] def State.setDutyBins (s : State) (v : List (Nat × Nat)) : State := { s with dutyBins := v }

/-- Gives `periodics` a new value. -/
@[simps] def State.setPeriodics (s : State) (v : List Periodic) : State := { s with periodics := v }

/-- Gives `listen` a new value. -/
@[simps] def State.setListen (s : State) (v : Option (Nat × Nat)) : State := { s with listen := v }

/-- Gives `relays` a new value. -/
@[simps] def State.setRelays (s : State) (v : List Relay) : State := { s with relays := v }

/-- Gives `rx` a new value. -/
@[simps] def State.setRx (s : State) (v : Tbl Rx) : State := { s with rx := v }

/-- Gives `backoff` a new value. -/
@[simps] def State.setBackoff (s : State) (v : Nat) : State := { s with backoff := v }

/-- Gives `alerts` a new value. -/
@[simps] def State.setAlerts (s : State) (v : List Alert) : State := { s with alerts := v }

/-- Gives `alertDue` a new value. -/
@[simps] def State.setAlertDue (s : State) (v : List (Nat × Nat)) : State := { s with alertDue := v }

/-- Gives `alertCmds` a new value. -/
@[simps] def State.setAlertCmds (s : State) (v : List Nat) : State := { s with alertCmds := v }

/-- Gives `units` a new value. -/
@[simps] def State.setUnits (s : State) (v : Tbl UnitRec) : State := { s with units := v }

/-- Gives `inj` a new value. -/
@[simps] def State.setInj (s : State) (v : Option Inj) : State := { s with inj := v }

/-- Gives `clock` a new value. -/
@[simps] def State.setClock (s : State) (v : Nat) : State := { s with clock := v }

/-- Gives `flips` a new value. -/
@[simps] def State.setFlips (s : State) (v : Tbl Nat) : State := { s with flips := v }

/-- Gives `words` a new value. -/
@[simps] def State.setWords (s : State) (v : Tbl UnitRec) : State := { s with words := v }

/-- Gives `rowMap` a new value. -/
@[simps] def State.setRowMap (s : State) (v : Tbl Nat) : State := { s with rowMap := v }

/-- Gives `rowsDue` a new value. -/
@[simps] def State.setRowsDue (s : State) (v : List Nat) : State := { s with rowsDue := v }

/-- Gives `retesting` a new value. -/
@[simps] def State.setRetesting (s : State) (v : Option (Nat × Nat)) : State := { s with retesting := v }

/-- Gives `tw` a new value. -/
@[simps] def State.setTw (s : State) (v : TwoWire) : State := { s with tw := v }

/-- Gives `doms` a new value. -/
@[simps] def State.setDoms (s : State) (v : Tbl Dom) : State := { s with doms := v }

/-- Gives `jnlLost` a new value. -/
@[simps] def State.setJnlLost (s : State) (v : Nat) : State := { s with jnlLost := v }

/-- Gives `fine` a new value. -/
@[simps] def State.setFine (s : State) (v : Int) : State := { s with fine := v }

/-- Gives `beatOf` a new value. -/
@[simps] def State.setBeatOf (s : State) (v : Tbl Nat) : State := { s with beatOf := v }

/-- Gives `chans` a new value. -/
@[simps] def State.setChans (s : State) (v : Tbl Chan) : State := { s with chans := v }

/-- Gives `chains` a new value. -/
@[simps] def State.setChains (s : State) (v : Tbl Chain) : State := { s with chains := v }

/-- Gives `dets` a new value. -/
@[simps] def State.setDets (s : State) (v : Tbl Det) : State := { s with dets := v }

/-- Gives `detFull` a new value. -/
@[simps] def State.setDetFull (s : State) (v : Tbl Det) : State := { s with detFull := v }

/-- Gives `inputs` a new value. -/
@[simps] def State.setInputs (s : State) (v : Tbl (List BSmp)) : State := { s with inputs := v }

/-- Gives `feedHeat` a new value. -/
@[simps] def State.setFeedHeat (s : State) (v : Tbl Nat) : State := { s with feedHeat := v }

/-- Gives `feedTrips` a new value. -/
@[simps] def State.setFeedTrips (s : State) (v : Tbl Nat) : State := { s with feedTrips := v }

/-- Gives `quiet` a new value. -/
@[simps] def State.setQuiet (s : State) (v : Tbl (List Nat)) : State := { s with quiet := v }

/-- Gives `testBins` a new value. -/
@[simps] def State.setTestBins (s : State) (v : Tbl Nat) : State := { s with testBins := v }

/-- Gives `captured` a new value. -/
@[simps] def State.setCaptured (s : State) (v : Tbl (List (Nat × Nat))) : State := { s with captured := v }

/-- Gives `aud` a new value. -/
@[simps] def State.setAud (s : State) (v : Tbl Aud) : State := { s with aud := v }

/-- Gives `pcm` a new value. -/
@[simps] def State.setPcm (s : State) (v : Tbl (List Pcm)) : State := { s with pcm := v }

/-- Gives `craneNs` a new value. -/
@[simps] def State.setCraneNs (s : State) (v : Tbl Nat) : State := { s with craneNs := v }

/-- Gives `gChain` a new value. -/
@[simps] def State.setGChain (s : State) (v : Tbl Int) : State := { s with gChain := v }

/-- Gives `soundDet` a new value. -/
@[simps] def State.setSoundDet (s : State) (v : Det) : State := { s with soundDet := v }

/-- Gives `scopeAt` a new value. -/
@[simps] def State.setScopeAt (s : State) (v : Tbl Nat) : State := { s with scopeAt := v }

/-- Gives `cca` a new value. -/
@[simps] def State.setCca (s : State) (v : Tbl (List Smp)) : State := { s with cca := v }

/-- Gives `listens` a new value. -/
@[simps] def State.setListens (s : State) (v : List (Nat × Nat × Nat × Option Nat)) : State := { s with listens := v }

/-- Gives `rxHeard` a new value. -/
@[simps] def State.setRxHeard (s : State) (v : Tbl (List (Int × Int × Nat))) : State := { s with rxHeard := v }

/-- Gives `injWords` a new value. -/
@[simps] def State.setInjWords (s : State) (v : List Nat) : State := { s with injWords := v }

/-- Gives `singles` a new value. -/
@[simps] def State.setSingles (s : State) (v : List Nat) : State := { s with singles := v }

/-- Gives `damaged` a new value. -/
@[simps] def State.setDamaged (s : State) (v : List (WordUse × Nat)) : State := { s with damaged := v }

/-- Gives `injSeen` a new value. -/
@[simps] def State.setInjSeen (s : State) (v : Bool) : State := { s with injSeen := v }

/-- Gives `injBits` a new value. -/
@[simps] def State.setInjBits (s : State) (v : Nat) : State := { s with injBits := v }

/-- Gives `precNow` a new value. -/
@[simps] def State.setPrecNow (s : State) (v : Nat) : State := { s with precNow := v }

/-- Gives `tainted` a new value. -/
@[simps] def State.setTainted (s : State) (v : Nat) : State := { s with tainted := v }

/-- Gives `injStall` a new value. -/
@[simps] def State.setInjStall (s : State) (v : List Nat) : State := { s with injStall := v }

/-- Gives `jtag` a new value. -/
@[simps] def State.setJtag (s : State) (v : Tap) : State := { s with jtag := v }

end Sys2Proof.Machine
end

