-- ==== Sys2Proof/Machine/Ops.lean ====
section
/-! DEFINITION. The named operations over the state that every family uses: register fields, time, the two journals,
the request for attention, holds and custody. -/

namespace Sys2Proof.Machine

/-! Register fields. -/

/-- The value of a field. -/
def State.get (s : State) (f : Fld) : Nat := Tbl.get regDefault s.regs f.key

/-- Writes a field, cut to its width. -/
@[simps] def State.put (s : State) (f : Fld) (v : Nat) : State :=
  { s with regs := Tbl.set regDefault s.regs f.key (v % 2 ^ f.width) }

/-- Whether a one-bit field reads 1. -/
def State.on (s : State) (f : Fld) : Bool := s.get f == 1

/-- Sets a one-bit field. -/
def State.up (s : State) (f : Fld) : State := s.put f 1

/-- Clears a field. -/
def State.down (s : State) (f : Fld) : State := s.put f 0

/-- Increments a count that saturates. -/
def State.bump (s : State) (f : Fld) : State := s.put f (satAdd f.width (s.get f) 1)

/-- Increments a count that wraps. -/
def State.bumpWrap (s : State) (f : Fld) : State := s.put f (s.get f + 1)

/-- Does something only where a condition holds. -/
def State.when (s : State) (c : Bool) (g : State → State) : State := if c then g s else s

/-- Does something for each item of a list, first to last. -/
def State.each {α : Type} (s : State) (l : List α) (g : α → State → State) : State := l.foldl (fun t a => g a t) s

/-- Returns registers to their reset values: everything held at storage addresses that `p` names. -/
def State.resetRegs (s : State) (p : Nat → Bool) : State :=
  { s with regs := s.regs.filter (fun e => !p (e.1 / 16)) }

/-! Time and free values. -/

/-- The timestamp (R83): seconds in bits [63:30], nanoseconds in [29:0]. -/
def State.ts (s : State) : Nat := s.sec % 2 ^ 34 * 2 ^ 30 + s.ns

/-- The timestamp in nanoseconds. -/
def State.nowNs (s : State) : Nat := s.sec * 1000000000 + s.ns

/-- One free value, and the state that has drawn it (log entry 3). Log entry 3: DESIGN CHOICE. -/
def State.draw (s : State) : Nat × State := ((Config.free s.freeCtr).toNat, { s with freeCtr := s.freeCtr + 1 })

/-- The code of a mode (Table 2.1). -/
def Mode.code : Mode → Nat
  | .wind => 1 | .regulate => 2 | .run => 3 | .survey => 4 | .drift => 5 | .anchor => 6

/-- RUN or DRIFT: normal service. -/
def State.serving (s : State) : Bool := s.mode == .run || s.mode == .drift

/-! The change journal (R62 to R64). -/

/-- Writes one entry of the change journal; a full ring loses its oldest entry (R62, R63). -/
def State.journal (s : State) (address old new source result detail : Nat) : State :=
  let n := s.jnlCount + 1
  let e : JEntry := ⟨s.ts, address, old % 65536, new % 65536, source, result, detail % 256, n % 2 ^ 32, s.epoch % 65536⟩
  let t := (s.setJnl ((e :: s.jnl).take 1024)).setJnlCount n
  let t := t.put F.JNL_NEWEST_NUMBER n
  if s.jnl.length < 1024 then t else (t.bump F.JNL_STATUS_UNREAD_LOST).setJnlLost (min 65535 (s.jnlLost + 1))

/-- Journal sources (Table 3.17). -/
def srcImage : Nat := 1
/-- See `srcImage`. -/
def srcTwoWire : Nat := 2
/-- See `srcImage`. -/
def srcSurvey : Nat := 3
/-- See `srcImage`. -/
def srcSupervisor : Nat := 4

/-- A write of the supervisor to a register field, in force at once and journaled (R62): the words of the register are
given as they were and as they become. -/
def State.supWrite (s : State) (f : Fld) (v : Nat) : State :=
  let old := s.get f
  let t := (List.range (ceilDiv (f.lo + f.width) 16)).foldl (fun (u : State) i =>
    u.journal (f.addr + i) (bits (old * 2 ^ f.lo) (16 * i) 16) (bits (v * 2 ^ f.lo) (16 * i) 16) srcSupervisor 0 0) s
  t.put f v

/-! The request for attention (R429). -/

/-- Raises a source of `TW_ATTN_SRC`: the bit latches, and an enabled source queues a pulse. -/
def State.attn (s : State) (b : Nat) : State :=
  let src := s.get F.TW_ATTN_SRC_SOURCES
  let t := if bit src b then s else s.put F.TW_ATTN_SRC_SOURCES (src + 2 ^ b)
  if bit (s.get F.TW_ATTN_EN_ENABLE) b && s.on F.TW_CFG_ATTN then t.up F.TW_STATUS_ATTN_PENDING else t

/-! Holds: fill and watermarks (R261 to R270). -/

/-- A field of the selected-hold window, for hold `h`. -/
def Fld.ofHold (f : Fld) (h : Nat) : Fld := { f with addr := holdAddr h f.addr }

/-- Whether hold `h` is a clocked FIFO (Table 12.1, kind K). -/
def holdClocked (h : Nat) : Bool := (Nat.ble 100 h && Nat.ble h 103) || Nat.ble 109 h

/-- Latches an event bit of a hold; where `HLD_NOTIFY` enables it and it was clear, the request HOLD is raised (R270). -/
def State.holdEvent (s : State) (h : Nat) (f : Fld) (enabled : Bool) : State :=
  let was := s.on (f.ofHold h)
  (s.up (f.ofHold h)).when (enabled && !was) (·.attn 1)

/-- Judges ABOVE of a hold against its marks (R269, R270). -/
def State.holdJudge (s : State) (h : Nat) : State :=
  let fill := s.get (F.HLD_FILL_FILL.ofHold h)
  let above := s.on (F.HLD_STATUS_ABOVE.ofHold h)
  if !above && Nat.ble (s.get (F.HLD_HIGH_HIGH.ofHold h)) fill then
    ((s.up (F.HLD_STATUS_ABOVE.ofHold h)).bump (F.HLD_CROSS_HIGH.ofHold h)).holdEvent h F.HLD_STATUS_HIGH_EV
      (s.on (F.HLD_NOTIFY_HIGH_EN.ofHold h))
  else if above && Nat.ble fill (s.get (F.HLD_LOW_LOW.ofHold h)) then
    ((s.down (F.HLD_STATUS_ABOVE.ofHold h)).bump (F.HLD_CROSS_LOW.ofHold h)).holdEvent h F.HLD_STATUS_LOW_EV
      (s.on (F.HLD_NOTIFY_LOW_EN.ofHold h))
  else s

/-- Gives a hold a new fill: the fill, the peak, FULL and the watermarks (R268 to R270). -/
def State.holdFill (s : State) (h fill : Nat) : State :=
  let s := s.put (F.HLD_FILL_FILL.ofHold h) fill
  let s := s.when (Nat.blt (s.get (F.HLD_PEAK_PEAK.ofHold h)) fill) (·.put (F.HLD_PEAK_PEAK.ofHold h) fill)
  let s := s.put (F.HLD_STATUS_FULL.ofHold h) (b2n (Nat.ble (s.get (F.HLD_CAP_CAP.ofHold h)) fill))
  s.holdJudge h

/-- Words of the drain bank of a clocked FIFO that are not popped yet. -/
def State.drainBank (s : State) (h : Nat) : Nat := Tbl.get (fun _ => 0) s.banks h

/-- An edge of a clocked FIFO that leaves it `fill` words: the pops have read the drain bank, the pushes stand in the fill bank, and where the drain
bank is empty the banks swap (R266, R267). -/
def State.ringFill (s : State) (h popped fill : Nat) : State :=
  let left := min fill (s.drainBank h - popped)
  (s.setBanks (Tbl.set (fun _ => 0) s.banks h (if left = 0 then fill else left))).holdFill h fill

/-- A change of a clocked FIFO in which nothing is pushed, or nothing popped. -/
def State.ringShow (s : State) (h fill : Nat) : State := s.ringFill h (s.get (F.HLD_FILL_FILL.ofHold h) - fill) fill

/-! Custody (R271 to R278). -/

/-- What an unlisted producer holds: no number given (R272), none released. -/
def Producer.reset : Producer := ⟨0, 0xFFFFFFFF, none, []⟩

/-- A producer. -/
def State.prod (s : State) (p : Nat) : Producer := Tbl.get (fun _ => Producer.reset) s.prods p

/-- Writes a producer. -/
def State.putProd (s : State) (p : Nat) (v : Producer) : State :=
  { s with prods := Tbl.set (fun _ => Producer.reset) s.prods p v }

/-- Pool blocks that a payload occupies with its header and CRC (R261). -/
def blocks (payload : List Byte) : Nat := ceilDiv (payload.length + 28) 256

/-- Pool blocks charged to a hold: those of the consignments it accepted, without those of the urgent reserve. -/
def State.charged (s : State) (h : Nat) : Nat :=
  ((s.custody.filter (fun i => i.hold == h && !i.reserve)).map (fun i => blocks i.payload)).sum

/-- Pool blocks waiting for a quay. -/
def State.queued (s : State) (q : Nat) : Nat :=
  ((s.custody.filter (fun i => i.quay == q && i.capture.isNone)).map (fun i => blocks i.payload)).sum

/-- Blocks of the urgent reserve in use (R265). -/
def State.reserved (s : State) : Nat := ((s.custody.filter (·.reserve)).map (fun i => blocks i.payload)).sum

/-- Brings the fill of a producer's hold and of a quay hold up to date with custody. -/
def State.refreshHolds (s : State) (h q : Nat) : State :=
  let s := s.holdFill h (s.charged h)
  s.holdFill (96 + q) (s.queued q)

/-- The hold of a producer's consignments (Table 12.1). -/
def holdOfProducer (p : Nat) : Nat :=
  if p < 96 then p else if p = 0x60 then 107 else if p = 0x61 then 108 else 105

/-- Whether a hold has credits for a payload (R262). -/
def State.credit (s : State) (h : Nat) (payload : List Byte) : Bool :=
  Nat.ble (s.charged h + blocks payload) (s.get (F.HLD_CAP_CAP.ofHold h))

/-- Whether the urgent reserve of 256 blocks has room for a payload (R265). -/
def State.reserveCredit (s : State) (payload : List Byte) : Bool := Nat.ble (s.reserved + blocks payload) 256

/-- The quay of a consignment, decided at its acceptance (R288). -/
def State.route (s : State) (p content : Nat) : Nat :=
  let m := s.get (F.QY_TYPE_ROUTE_MODE content)
  if 4 ≤ m then m - 4
  else if content = 8 then s.get (F.QY_ROUTE_RECORDS p) else s.get (F.QY_ROUTE_DATA p)

/-- The running capture channel that takes a berth's content (R342): TYPES bit 0 names TS packets, bit 1 I/Q snapshots. -/
def State.captureOf (s : State) (p content : Nat) : Option Nat :=
  if p < 96 && (content = 1 || content = 9) then
    (List.range 8).find? (fun c => s.on (F.CAP_CTRL_RUN c) && s.get (F.CAP_CFG_BERTH c) == p &&
      bit (s.get (F.CAP_CFG_TYPES c)) (if content = 1 then 0 else 1))
  else none

/-- Flag bits of the lading header (Table 13.3). -/
def flagSettling : Nat := 0x8000
/-- See `flagSettling`. -/
def flagProvisional : Nat := 0x4000
/-- See `flagSettling`. -/
def flagUrgent : Nat := 0x2000
/-- See `flagSettling`. -/
def flagDegraded : Nat := 0x1000
/-- See `flagSettling`. -/
def flagInjected : Nat := 0x0800
/-- See `flagSettling`. -/
def flagReplay : Nat := 0x0400

/-- The flags of Table 13.3 that a consignment carries at its acceptance; DEGRADED follows the mode. -/
def State.flags (s : State) (settling provisional urgent injected : Bool) : Nat :=
  (if settling then flagSettling else 0) + (if provisional then flagProvisional else 0) +
  (if urgent then flagUrgent else 0) + (if s.mode == .drift then flagDegraded else 0) +
  (if injected then flagInjected else 0)

/-- The second copy and the descriptor of content (R275). -/
def Copy.of (l : List Byte) : Copy := ⟨l.length, (crc32 l).toNat, l⟩

/-- A quay's lanes idle at negative running disparity (R280). -/
def lanesFresh : List Bool := [false, false, false, false]

/-- What an unlisted quay holds. -/
def Quay.reset : Quay := ⟨none, [], lanesFresh, 0, true, 0, 0⟩

/-- A quay. -/
def State.quay (s : State) (q : Nat) : Quay := Tbl.get (fun _ => Quay.reset) s.quays q

/-- The oldest consignment of a quay (R276, R289). -/
def State.quayHead (s : State) (q : Nat) : Option Item := s.custody.find? (fun i => i.quay == q && i.capture.isNone)

/-- Whether `Qn_HOLD` holds off quay `q` (R290). -/
def State.heldOff (s : State) (q : Nat) : Bool := s.on (F.QY_CTRL_HOLD_EN q) && s.on (F.QY_STATUS_HOLD_IN q)

/-- Shows HELD_OFF: a start of frame is withheld now. -/
def State.showHeld (s : State) (q : Nat) : State :=
  s.put (F.QY_STATUS_HELD_OFF q) (b2n (s.heldOff q && !s.on (F.QY_CTRL_STOPPED q) && (s.quay q).sending.isNone &&
    (s.quayHead q).isSome))

/-- The flags of a consignment at its acceptance: DEGRADED is that of the mode now (Table 13.3). -/
def State.flagsNow (s : State) (flags : Nat) : Nat :=
  flags - (flags &&& flagDegraded) + (if s.mode == .drift then flagDegraded else 0)

/-- A producer gives its next number to work whose content is `data`: the counter, the highest number and the CRCs of the hold entrance advance
(R271, R275). -/
def State.numbered (s : State) (p : Nat) (data : List Byte) : State :=
  let x := s.prod p
  s.putProd p ⟨(x.next + 1) % 2 ^ 32, x.released, some x.next, ((x.next, (crc32 data).toNat) :: x.crcs).take 8⟩

/-- Accepts a consignment at the hold entrance: its number, header and route are fixed, both copies and the descriptor
exist, and the deduplication state of its producer advances (R24, R271, R275, R284, R285, R288). -/
def State.accept (s : State) (p content flags ts : Nat) (payload : List Byte) (reserve : Bool) : State :=
  let pr := s.prod p
  let cap := s.captureOf p content
  let q := s.route p content
  let it : Item := ⟨p, pr.next, content, s.flagsNow flags, s.epoch, ts, payload, holdOfProducer p, q, reserve, false, cap, Copy.of payload⟩
  let s := ({ s with custody := s.custody ++ [it] }).numbered p payload
  (s.refreshHolds (holdOfProducer p) q).showHeld q

/-- A number of a producer is released; `HLD_SEQ_RELEASED` shows the newest (R276, R279). -/
def State.releaseNo (s : State) (p seq : Nat) : State := s.putProd p { s.prod p with released := newer seq (s.prod p).released }

/-- Releases an item: its copies and descriptor are freed and its blocks return as credits (R262, R276). -/
def State.release (s : State) (p seq : Nat) : State :=
  match s.custody.find? (fun i => i.prod == p && i.seq == seq) with
  | none => s
  | some it =>
    let s := { s with custody := s.custody.filter (fun i => !(i.prod == p && i.seq == seq)) }
    (s.releaseNo p seq).refreshHolds it.hold it.quay

/-! The error journal (R396, R408 to R410). -/

/-- Outcomes of error-journal entries (Table 18.10). -/
inductive Outc where
  | detected | corrected | transient | lasting | noSpare | restored | lost | mode | stateStart | stateEnd | notice
  deriving DecidableEq, Repr

/-- The code of an outcome. -/
def Outc.code : Outc → Nat
  | .detected => 0 | .corrected => 1 | .transient => 2 | .lasting => 3 | .noSpare => 4 | .restored => 5
  | .lost => 6 | .mode => 7 | .stateStart => 8 | .stateEnd => 9 | .notice => 10

/-- Unit types (Table 18.9). -/
inductive UnitType where
  | movement | intake | lane | crane | word | hold | domain | bond | converter | txDac | supervisor | berth | feed
  deriving DecidableEq, Repr

/-- The code of a unit type. -/
def UnitType.code : UnitType → Nat
  | .movement => 1 | .intake => 2 | .lane => 3 | .crane => 4 | .word => 5 | .hold => 6 | .domain => 7 | .bond => 8
  | .converter => 9 | .txDac => 10 | .supervisor => 11 | .berth => 12 | .feed => 13

/-- What an entry says beside its detector, unit and outcome. -/
structure EArgs where
  attempt : Nat := 0
  injected : Bool := false
  urgent : Bool := false
  d0 : Nat := 0
  d1 : Nat := 0
  d2 : Nat := 0
  d3 : Nat := 0
  deriving DecidableEq, Repr

/-- The 16 words of an entry (Table 18.9). -/
def EEntry.words (e : EEntry) : List Nat :=
  [bits e.ts 0 16, bits e.ts 16 16, bits e.ts 32 16, bits e.ts 48 16, e.detector, e.unitType * 4096 + e.index % 4096,
   e.outcome * 4096 + e.attempt % 16 * 256 + b2n e.injected * 128 + b2n e.urgent * 64,
   e.d0 % 65536, e.d1 % 65536, e.d2 % 65536, e.d3 % 65536, bits e.number 0 16, bits e.number 16 16, e.epoch, 0, 0]

/-- The 36-byte payload of a journal-event consignment (R409). -/
def EEntry.payload (e : EEntry) : List Byte := [0x81#8, 0x01#8, 0#8, 0#8] ++ (e.words.map (be 2)).flatten

/-- Whether an entry also leaves as a consignment: the classes of `ERR_EXPORT`, and the forced urgent states (R409). -/
def State.exported (s : State) (e : EEntry) : Bool :=
  let st := e.outcome == 8 || e.outcome == 9
  if st && (e.detector == 0x0C01 || e.detector == 0x0C02 || e.detector == 0x0C03) then true
  else if st then s.on F.ERR_EXPORT_STATE
  else if e.outcome == 7 then s.on F.ERR_EXPORT_MODE
  else if e.outcome == 10 || e.outcome == 0 then s.on F.ERR_EXPORT_NOTICE
  else if e.outcome == 3 || e.outcome == 4 || e.outcome == 6 then s.on F.ERR_EXPORT_LASTING
  else if e.outcome == 2 || e.outcome == 5 then s.on F.ERR_EXPORT_TRANSIENT
  else if e.outcome == 1 then s.on F.ERR_EXPORT_CORRECTED
  else false

/-- Accepts a waiting journal-event consignment where it finds credit; an URGENT entry may take the reserve (R381, R409). -/
def State.exportOne (s : State) (e : EEntry) : Option State :=
  let fl := s.flags false false e.urgent e.injected
  if s.credit 108 e.payload then some (s.accept 0x61 0x0E fl e.ts e.payload false)
  else if e.urgent && s.reserveCredit e.payload then some (s.accept 0x61 0x0E fl e.ts e.payload true)
  else none

/-- Lets the waiting entries leave: the first while it finds credit, else the first that is URGENT (R381, R409). -/
def State.exportDrain (s : State) : State :=
  (List.range s.errExport.length).foldl (fun (t : State) _ =>
    match t.errExport.head?, t.errExport.find? (·.urgent) with
    | some e, u =>
      match t.exportOne e with
      | some t => t.setErrExport (t.errExport.drop 1)
      | none =>
        match u with
        | some e =>
          (match t.exportOne e with
           | some t => t.setErrExport (t.errExport.erase e)
           | none => t)
        | none => t
    | none, _ => t) s

/-- Writes one entry of the error journal: the ring, its export, and the request PROTECTION for LASTING, NO_SPARE and LOST
(R396, R408, R409). -/
def State.error (s : State) (detector : Nat) (u : UnitType) (index : Nat) (o : Outc) (a : EArgs := {}) : State :=
  let n := s.errCount + 1
  let e : EEntry := ⟨s.ts, detector, u.code, index, o.code, a.attempt, a.injected, a.urgent, a.d0, a.d1, a.d2, a.d3,
    n % 2 ^ 32, s.epoch % 65536⟩
  let full := Nat.ble 4096 s.err.length
  let s := (s.setErr ((e :: s.err).take 4096)).setErrCount n
  let s := (s.put F.ERR_NEWEST_NUMBER n).when full (·.bump F.ERR_STATUS_UNREAD_LOST)
  let s := s.when a.injected (fun s => (s.up F.PROT_STATUS_INJECTED_EV).setInjSeen true)
  let s := s.when (o == .lasting || o == .noSpare || o == .lost) (·.attn 5)
  if s.exported e then
    if s.errExport.length < 256 then (s.setErrExport (s.errExport ++ [e])).exportDrain
    else s.bump F.ERR_STATUS_EXPORT_MISSED
  else s

end Sys2Proof.Machine
end

