-- ==== Sys2Proof/Machine/Drbg.lean ====
section
/-! DEFINITION. The CTR_DRBG of the bond engine with AES-256 and a derivation function (NIST SP 800-90A), which the spec takes from its standard,
and the random bytes that the block draws from it (R323, R324, R364; log entry 4). -/

namespace Sys2Proof.Machine

/-- Output blocks of a generator: the encryptions of the `k` counter blocks behind V. -/
def Drbg.blocks (g : Drbg) (k : Nat) : List Byte :=
  let rk := expandKey g.key
  ((List.range k).map (fun i => aesRounds rk (be 16 ((ofBe g.v + i + 1) % 2 ^ 128)))).flatten

/-- The update of key and V with 48 bytes of provided data. Log entry 4: PRESUMED. -/
def Drbg.update (g : Drbg) (data : List Byte) : Drbg :=
  let x := xorBytes (g.blocks 3) data
  { g with key := x.take 32, v := (x.drop 32).take 16 }

/-- Chained encryption of whole blocks: the last block of the chain. -/
def chainLast (rk : List (List Byte)) (l : List Byte) : List Byte :=
  (blocks16 l).foldl (fun c b => aesRounds rk (xorBytes c b)) (List.replicate 16 0#8)

/-- The derivation function: 48 bytes from an input of any length. Log entry 4: PRESUMED. -/
def derive48 (input : List Byte) : List Byte :=
  let rk := expandKey ((List.range 32).map (BitVec.ofNat 8))
  let text := be 4 input.length ++ be 4 48 ++ input ++ [0x80#8]
  let t := ((List.range 3).map (fun i => chainLast rk (be 4 i ++ List.replicate 12 0#8 ++ text))).flatten
  let rk2 := expandKey (t.take 32)
  let x1 := aesRounds rk2 (t.drop 32)
  let x2 := aesRounds rk2 x1
  x1 ++ x2 ++ aesRounds rk2 x2

/-- A generator with fresh entropy: one that runs is reseeded, and otherwise one is made (R324). Log entry 4: PRESUMED. -/
def Drbg.fresh (g : Option Drbg) (entropy : List Byte) : Drbg :=
  let old := g.getD ⟨List.replicate 32 0#8, List.replicate 16 0#8, 0⟩
  { old.update (derive48 entropy) with calls := 0 }

/-- A generate call for `n` bytes. Log entry 4: PRESUMED. -/
def Drbg.generate (g : Drbg) (n : Nat) : List Byte × Drbg :=
  let k := ceilDiv n 16
  let moved := { g with v := be 16 ((ofBe g.v + k) % 2 ^ 128), calls := g.calls + 1 }
  ((g.blocks k).take n, moved.update (List.replicate 48 0#8))

/-- 384 bits of the entropy source: free values (R324, log entry 3). Log entry 3: DESIGN CHOICE. -/
def State.entropy (s : State) : List Byte × State :=
  (((List.range 6).map (fun i => be 8 (Config.free (s.freeCtr + i)).toNat)).flatten, s.setFreeCtr (s.freeCtr + 6))

/-- The generator as a generate call finds it: after 2¹⁶ calls it is reseeded first (R324). -/
def State.drbgReady (s : State) : Drbg × State :=
  let renewed := (Drbg.fresh s.drbg s.entropy.1, s.entropy.2)
  match s.drbg with
  | some g => if Nat.blt g.calls 65536 then (g, s) else renewed
  | none => renewed

/-- `n` random bytes of the DRBG (R323, R324, R364). Log entry 145: DESIGN CHOICE. -/
def State.random (s : State) (n : Nat) : List Byte × State :=
  let g := s.drbgReady
  let r := g.1.generate n
  (r.1, g.2.setDrbg (some r.2))

end Sys2Proof.Machine
end

