-- ==== Sys2Proof/Machine/Access.lean ====
section
/-! DEFINITION. How a register access is judged: the domain and the owner of a register, the mode rule, reserved encodings,
the field classes, staging of wide values, and the shadows of LIVE changes (R7 to R13, R32, R58 to R61, R421, R432 to R436). -/

namespace Sys2Proof.Machine

/-- Result codes of the change journal (Table 3.18). -/
def resAccepted : Nat := 0
/-- See `resAccepted`. -/
def resLive : Nat := 1
/-- See `resAccepted`. -/
def resFixed : Nat := 2
/-- See `resAccepted`. -/
def resHeld : Nat := 3
/-- See `resAccepted`. -/
def resMode : Nat := 4
/-- See `resAccepted`. -/
def resUndefined : Nat := 5
/-- See `resAccepted`. -/
def resWide : Nat := 6
/-- See `resAccepted`. -/
def resOrder : Nat := 7
/-- See `resAccepted`. -/
def resValue : Nat := 8

/-- The power domain in which a register lies (Tables 20.1 and 20.4): 0 KEEP, else the code of Table 2.9. -/
def domainOf (a : Nat) : Nat :=
  let within (lo hi : Nat) : Bool := Nat.ble lo a && Nat.ble a hi
  if within 0x104 0x106 || within 0x120 0x143 then 1
  else if within 0x200 0x20A then 2
  else if within 0x220 0x22A then 3
  else if within 0x400 0x1BFF then
    let o := (a - 0x400) % 0x40
    if o = 4 || o = 5 then 0 else if Nat.ble 0x10 o && Nat.ble o 0x28 then 4 else 6
  else if within 0x1C00 0x1E0F then 5
  else if within 0x2100 0x21FF then 7
  else if within 0x2200 0x22FF then (if within 0x2208 0x220B then 0 else 7)
  else if within 0x2300 0x23FF then 7
  else if within 0x2440 0x24BF then 7
  else if within 0x2500 0x25FF then (if within 0x250C 0x250D then 0 else 7)
  else if within 0x3000 0x3001 || within 0x3100 0x327F then 4
  else 0

/-- Whether a domain is on: KEEP always, another where `DOM_STATE` reads 0b01. -/
def State.domOn (s : State) (d : Nat) : Bool := d == 0 || s.get (F.DOM_STATE d) == 1

/-- The berth in whose window an address lies. -/
def berthOf (a : Nat) : Nat := (a - 0x400) / 0x40

/-- The STANDARD that decides the service words at an address (R435, R436). -/
def State.stdAt (s : State) (a : Nat) : Nat :=
  if Nat.ble 0x400 a && Nat.blt a 0x1C00 then s.get (F.BTH_CTRL_STANDARD (berthOf a)) else 0

/-- The lane a bank access names: the lane of INDEX, or the lane that carries berth INDEX (R145). -/
def State.bankSel (s : State) : Nat :=
  let i := s.get F.LN_BANK_SEL_INDEX
  let l := if s.on F.LN_BANK_SEL_BY_BERTH then s.get (F.LN_PHYS_LANE i) else i
  2 * l + s.get F.LN_BANK_SEL_BANK

/-- The storage address behind a bus address: the selected item's copy for the registers of a selected window. Log entry 105: DEDUCED. -/
def State.phys (s : State) (a : Nat) : Nat :=
  let within (lo hi : Nat) : Bool := Nat.ble lo a && Nat.ble a hi
  if within 0x2001 0x2003 || within 0x2005 0x200B then holdAddr (s.get F.HLD_SEL_HOLD) a
  else if within 0x74 0x76 then msrAddr (s.get F.MSR_SEL_BERTH) a
  else if within 0x89 0x8B then urgAddr (s.get F.URG_SEL_ENTRY) a
  else if within 0x3011 0x3053 then afAddr (s.get F.AF_SEL_INDEX) a
  else if within 0x3001 0x3001 || within 0x3100 0x327F then bankAddr s.bankSel a
  else a

/-- The value that a register's fields hold together. Log entry 100: DEDUCED. -/
def State.regValue (s : State) (r : RDesc) (base : Nat) : Nat :=
  (r.fields.map (fun f => s.get ⟨s.phys base, f.lo, f.width⟩ * 2 ^ f.lo)).sum

/-- The COMMIT register of the block that owns a register's LIVE fields; none: the supervisor owns them, and they act when
written (R28, R60). -/
def commitOf (a : Nat) : Option Nat :=
  let within (lo hi : Nat) : Bool := Nat.ble lo a && Nat.ble a hi
  if within 0x120 0x143 then some 0x104
  else if within 0x400 0x1BFF then
    let o := (a - 0x400) % 0x40
    if o = 4 || o = 5 then none
    else if o < 0x10 then some (a - o + 0x07) else if Nat.ble o 0x28 then some (a - o + 0x28) else none
  else if within 0x40 0x44 then some 0x45
  else if within 0x2002 0x2003 then some 0x2004
  else if within 0x2100 0x213F then some (a - a % 0x10 + 0x7)
  else if a = 0x2200 then some 0x2201
  else if within 0x2300 0x233F then some (a - a % 0x10 + 0xD)
  else if within 0x2440 0x24BF then some (a - a % 0x10 + 0xA)
  else if within 0x2500 0x250B then some 0x2501
  else if within 0x3011 0x3053 then some 0x300E
  else none

/-- The COMMIT register for an access now: `MSR_PERIOD` and `MSR_ECHO` belong to the berth that `MSR_SEL` names (R259). -/
def State.commitAt (s : State) (a : Nat) : Option Nat :=
  if a = 0x74 || a = 0x75 then some (0x407 + 0x40 * s.get F.MSR_SEL_BERTH) else commitOf a

/-- Whether a COMMIT register is one (the form of Table 3.16). -/
def isCommit (a : Nat) : Bool :=
  a == 0x104 || a == 0x45 || a == 0x2004 || a == 0x2201 || a == 0x2501 || a == 0x300E ||
  (Nat.ble 0x400 a && Nat.blt a 0x1C00 && ((a - 0x400) % 0x40 == 0x07 || (a - 0x400) % 0x40 == 0x28)) ||
  (Nat.ble 0x2100 a && Nat.blt a 0x2140 && a % 0x10 == 7) ||
  (Nat.ble 0x2300 a && Nat.blt a 0x2340 && a % 0x10 == 0xD) ||
  (Nat.ble 0x2440 a && Nat.blt a 0x24C0 && a % 0x10 == 0xA)

/-- PENDING of a COMMIT register. -/
def fPending (c : Nat) : Fld := ⟨c, 15, 1⟩

/-- GROUP_OPEN of a COMMIT register. -/
def fGroup (c : Nat) : Fld := ⟨c, 14, 1⟩

/-- Whether a berth counts as running for its HELD and LIVE fields (R58): from RUN until STOPPED shows, so also one that was told to run in
SURVEY and waits for its end; a berth that was shed, or that SURVEY stopped, has stopped. -/
def State.berthUp (s : State) (n : Nat) : Bool :=
  !s.on (F.BTH_CTRL_STOPPED n) ||
  (s.mode == .survey && s.on (F.BTH_CTRL_RUN n) && s.berths.any (fun e => e.1 == n && e.2.told))

/-- Whether the block that owns a register runs, for its HELD and LIVE fields (R58): from its run control's setting until its
stopped status shows stopped. The holds and the AF tables have no run control and always run: their boundary is the next handshake (R269, R279,
R441). A crane class without a beat and a pilot link with nothing on the air count as stopped. Log entry 14: DEDUCED. -/
def State.blockRuns (s : State) (a : Nat) : Bool :=
  let within (lo hi : Nat) : Bool := Nat.ble lo a && Nat.ble a hi
  if within 0x120 0x143 then s.on (F.TB_OUT_CFG_RUNNING ((a - 0x120) / 2))
  else if within 0x400 0x1BFF then
    if (a - 0x400) % 0x40 < 0x10 || Nat.ble 0x29 ((a - 0x400) % 0x40) then s.berthUp (berthOf a)
    else s.on (F.LN_CTRL_RUN (berthOf a)) || !s.on (F.LN_CTRL_STOPPED (berthOf a))
  else if a = 0x74 || a = 0x75 then s.berthUp (s.get F.MSR_SEL_BERTH)
  else if within 0x40 0x44 then
    (List.range (classSize (a - 0x40))).any (fun i => s.on (F.CRN_STATUS_BUSY (classFirst (a - 0x40) + i)))
  else if within 0x2002 0x2003 || within 0x3011 0x3053 then true
  else if within 0x2100 0x213F then !s.on (F.QY_CTRL_STOPPED ((a - 0x2100) / 0x10))
  else if a = 0x2200 then !s.on F.LAND_CTRL_STOPPED
  else if within 0x2300 0x233F then s.on (F.AU_CTRL_RUN ((a - 0x2300) / 0x10)) || !s.on (F.AU_CTRL_STOPPED ((a - 0x2300) / 0x10))
  else if within 0x2440 0x24BF then !s.on (F.CAP_CTRL_STOPPED ((a - 0x2440) / 0x10))
  else if within 0x2500 0x250B then s.on F.PLT_CTRL_TX_BUSY
  else if a = 0x3001 || within 0x3100 0x327F then
    -- both banks of a lane are HELD while the lane runs (R124)
    let l := s.bankSel / 2
    (List.range 96).any (fun n => (s.on (F.LN_CTRL_RUN n) || !s.on (F.LN_CTRL_STOPPED n)) && s.get (F.LN_PHYS_LANE n) == l) ||
    s.lanes.any (fun e => e.1 == l && (match e.2 with
      | .sounds _ | .patrols _ | .takes _ | .testing => true
      | _ => false))
  else false

/-! Reserved encodings (the Meaning columns of the register tables). -/


/-- A producer ID of Table 12.4. -/
def isProducer (p : Nat) : Bool := Nat.ble p 0x64

/-- A berth number, or the value that names none. -/
def isBerthOr (none b : Nat) : Bool := Nat.blt b 96 || b == none

/-- Whether a value of a service word holds no reserved encoding under a standard (Tables 8.7, 8.8, 9.12, 9.13, 10.5, 10.6, 16.9);
`o` is the number of the word. -/
def legalSvc (std o v : Nat) : Bool :=
  if std = 2 then
    if o = 0 then bits v 14 2 != 3 && bits v 11 2 != 3 && Nat.ble (bits v 5 3) 5
    else if o = 2 then bits v 14 2 != 3 && isBerthOr 0x7F (bits v 0 7)
    else if o = 4 then bits v 8 8 != 0 && inR 2 200 (bits v 0 8)
    else true
  else if std = 1 then
    if o = 2 then isBerthOr 0x7F (bits v 0 7) else if o = 5 then inR 2 200 (bits v 0 8) else true
  else if std = 4 then
    if o = 0 then Nat.ble (bits v 13 3) 4 && bits v 10 2 != 3
    else if o = 4 then bits v 8 8 != 0 && isBerthOr 0x7F (bits v 0 7)
    else true
  else if std = 3 then
    if o = 0 then Nat.ble (bits v 13 3) 5 && bits v 10 2 != 3
    else if o = 4 then bits v 8 8 != 0 && isBerthOr 0x7F (bits v 0 7)
    else true
  else if std = 7 then (if o = 0 then Nat.ble (bits v 10 6) 34 else true)
  else true

/-- Whether the value of a register holds no reserved encoding; `b` is the address of the register, or of the first of its
indexed set, and `i` its index there. Log entry 19: DESIGN CHOICE. -/
def legalReg (b i v : Nat) : Bool :=
  if b = 0x121 then
    let r := outDivRange i
    inR r.1 r.2 (bits v 0 11) && (i != 8 || bits v 0 11 == 96 || bits v 0 11 == 192)
  else if b = 0x200 then bits v 12 2 != 3 && bits v 4 2 != 3
  else if b = 0x207 then Nat.ble 30 (bits v 0 8)
  else if b = 0x244 then (if bit v 14 then Nat.blt (bits v 0 10) 768 else Nat.blt (bits v 0 10) 256)
  else if b = 0x260 then inR 10 250 (bits v 0 8)
  else if b = 0x261 then inR 10 2000 v
  else if b = 0x263 then v != 0
  else if b = 0x264 then inR 1 50 v
  else if b = 0x265 then inR 1 600 v
  else if b = 0x410 then
    bits v 10 2 != 0 && Nat.ble (bits v 0 8 + bits v 10 2 - 1) 255
  else if b = 0x414 then inR 1 16 (bits v 8 5)
  else if b = 0x415 || b = 0x417 then bits v 0 24 != 0
  else if b = 0x41B then inR 4 20 (bits v 8 5)
  else if b = 0x3000 then (if bit v 15 then Nat.blt (bits v 0 7) 96 else Nat.blt (bits v 0 7) 104)
  else if b = 0x3001 then inR 1 384 (bits v 0 9)
  else if b = 0x40 then inR 10 250 (bits v 0 8)
  else if b = 0x400 then Nat.ble (bits v 8 4) 8
  else if b = 0x402 then Nat.ble (bits v 0 9) 400
  else if b = 0x60 then bits v 14 2 != 3 && (bits v 14 2 != 1 || Nat.ble (bits v 0 8) 167)
  else if b = 0x70 || b = 0x74 then Nat.ble (bits v 0 10) 600
  else if b = 0x73 || b = 0x8C then Nat.blt (bits v 0 7) 96
  else if b = 0x75 then inR 1 8 (bits v 8 4) && inR 10 50 (bits v 0 6)
  else if b = 0x2000 then Nat.ble (bits v 0 7) 115
  else if b = 0x2022 then isProducer (bits v 0 8)
  else if b = 0x21B1 then bits v 0 3 == 0 || Nat.ble 4 (bits v 0 3)
  else if b = 0x2301 then Nat.ble (bits v 13 3) 4
  else if b = 0x2344 then inR 10 250 (bits v 0 8)
  else if b = 0x2403 then bits v 0 2 != 0
  else if b = 0x241E then Nat.ble 10 v
  else if b = 0x2441 then isBerthOr 0x7F (bits v 9 7) && bits v 4 1 == 0 && bits v 2 2 != 0
  else if b = 0x2442 then inR 32 4096 (bits v 0 13)
  else if b = 0x2443 then Nat.ble v 10000
  else if b = 0x2503 then inR 4 32 (bits v 10 6) && Nat.ble (bits v 0 7) 96
  else if b = 0x2504 then inR 146 206 (bits v 0 8)
  else if b = 0x2505 then inR 1 1000 v
  else if b = 0x2506 then Nat.ble (bits v 0 8) 50
  else if b = 0x2507 then inR 1 1000 v
  else if b = 0x2508 then inR 1 3600 v
  else if b = 0x2509 then Nat.ble (bits v 6 10) 1000 && Nat.ble (bits v 0 6) 34
  else if b = 0x89 then Nat.ble (bits v 8 8) 4 && (Nat.blt (bits v 0 8) 96 || bits v 0 8 == 0xFF)
  else if b = 0x2702 then inR 1 6 (bits v 28 4)
  else if b = 0x2704 then bits v 12 2 != 0 && bits v 0 8 != 0
  else if b = 0x2A33 then inR 60 120 (bits v 0 8)
  else if b = 0x3010 then Nat.ble (bits v 0 8) 254
  else if b = 0x3011 then Nat.ble (bits v 8 8) 3 && Nat.ble (bits v 0 6) 32
  else if b = 0x3014 then v == 0 || inR 100000 960000000 v
  else if b = 0x3800 then Nat.ble (bits v 8 5) 14 && isProducer (bits v 0 8)
  else true

/-- Whether the whole value of a register is free of reserved encodings, its berth's standard included. -/
def legal (std : Nat) (r : RDesc) (base v : Nat) : Bool :=
  if Nat.ble 0x400 base && Nat.blt base 0x1C00 && Nat.ble 8 ((base - 0x400) % 0x40) && Nat.blt ((base - 0x400) % 0x40) 0x10
  then legalSvc std ((base - 0x400) % 0x40 - 8) v
  else legalReg r.base ((base - r.base) / r.stride) v

/-! Refusals. -/

/-- Whether accesses to an address stay out of the change journal: those to the journals' own registers (R64, R410). -/
def unjournaled (a : Nat) : Bool := Nat.ble 0x2800 a && Nat.blt a 0x2900 && (regAt 0 a).isSome

/-- The key-entry words, whose values no journal entry shows (R327). -/
def keyEntry (a : Nat) : Bool := inR 0x2404 0x2417 a || inR 0x2420 0x242F a

/-- Journals a register write, without the value of a key-entry word (R13, R63, R327). -/
def State.journalWrite (s : State) (src a old new res : Nat) : State :=
  if unjournaled a then s
  else if keyEntry a then s.journal a 0 0 src res 0
  else s.journal a old new src res 0

/-- Sets the refusal bit of a result (R434): `GLB_STATUS`, or `DOM_STATUS.ORDER_REFUSED`. -/
def State.refusalBit (s : State) (res : Nat) : State :=
  if res = resFixed then s.up F.GLB_STATUS_FIXED_REFUSED
  else if res = resHeld then s.up F.GLB_STATUS_HELD_REFUSED
  else if res = resMode then s.up F.GLB_STATUS_MODE_REFUSED
  else if res = resUndefined then s.up F.GLB_STATUS_UNDEFINED_REFUSED
  else if res = resWide then s.up F.GLB_STATUS_WIDE_DISCARD
  else if res = resOrder then s.up F.DOM_STATUS_ORDER_REFUSED
  else if res = resValue then s.up F.GLB_STATUS_VALUE_REFUSED
  else s

/-- A refused write: the old value stays, the refusal is journaled and its bit set; from the two-wire port it also sets
REFUSED_EV and loads `TW_LAST_REFUSED` (R13, R63, R417, R434). -/
def State.refuse (s : State) (src a old new res : Nat) : State :=
  let s := (s.journalWrite src a old new res).refusalBit res
  if src = srcTwoWire then (s.put F.TW_LAST_REFUSED_ADDRESS a).up F.TW_STATUS_REFUSED_EV else s

/-- The word in force at an address, as the journal records it. -/
def State.wordAt (s : State) (a : Nat) : Nat :=
  match regAt (s.stdAt a) a with
  | none => 0
  | some (r, base) => bits (s.regValue r base) (16 * (a - base)) 16

/-- How many words are staged together from an address: those of the wide value, and the three words of an urgent-class
entry (R8, R387). -/
def State.stageSpan (s : State) (base : Nat) : Nat :=
  if base = 0x89 then 3
  else match regAt (s.stdAt base) base with
    | none => 1
    | some (r, _) => r.words

/-- An access outside a partly written wide value discards its staged words: WIDE_DISCARD is set and a refused write of the
highest staged word recorded (R8, R419). Log entry 110: DESIGN CHOICE. -/
def State.touch (s : State) (a : Nat) : State :=
  match s.stage with
  | none => s
  | some st =>
    if inR st.base (st.base + s.stageSpan st.base - 1) a then s
    else
      let w := (st.words.map (·.1)).foldl max 0
      let new := ((st.words.find? (·.1 == w)).map (·.2)).getD 0
      ({ s with stage := none }).refuse srcTwoWire (st.base + w) (s.wordAt (st.base + w)) new resWide

/-- The mode and domain rules for a write (R32, R421): whether they refuse it. `TB_PAIR_CMD` has a mode rule of its own (R80). -/
def State.gated (s : State) (src a : Nat) : Bool :=
  let quiet := s.mode == .wind || s.mode == .regulate || s.mode == .anchor
  (src == srcTwoWire && quiet && !(a == 5 || a == 0x105 || inR 0x2900 0x29FF a ||
    (s.mode == .anchor && inR 0x2800 0x28FF a))) || !s.domOn (domainOf a)

/-- Whether a field of a class may change while its block runs or does not (Table 0.5). -/
def classRefusal (src : Nat) (cls : Cls) (runs privileged : Bool) : Option Nat :=
  if src = srcImage || src = srcSupervisor then none
  else match cls with
    | .fixed => some resFixed
    | .held => if runs then some resHeld else none
    | .livePriv => if !privileged && runs then some resHeld else none
    | _ => none

/-- The privileged outputs of Table 4.3: 0 to 3 and 10 to 17. -/
def privileged (o : Nat) : Bool := Nat.blt o 4 || Nat.ble 10 o

/-- Whether the open group of a COMMIT register collects a write to an address now: for the AF tables and the holds only while
the selector names the group's item (R279, R441). -/
def State.groupTakes (s : State) (c : Nat) : Bool :=
  s.on (fGroup c) &&
    (if c = 0x2004 then s.groupOf.contains (c, s.get F.HLD_SEL_HOLD)
     else if c = 0x300E then s.groupOf.contains (c, s.get F.AF_SEL_INDEX) else true)

/-- Puts a LIVE change into the shadow, in place of an earlier one to the same field of the same kind (R60). -/
def State.shade (s : State) (c : Nat) (f : Fld) (v : Nat) (armed : Bool) : State :=
  let keep := s.shadow.filter (fun x => !(x.commit == c && x.fld == f && x.armed == armed))
  let s := { s with shadow := keep ++ [({ commit := c, fld := f, val := v, armed := armed } : Shadow)] }
  s.when armed (·.up (fPending c))

/-- One field of an accepted write: W1C clears, RW sets or goes to the shadow, RO, RC and WO keep what they hold (R10, R12, R52). -/
def State.writeField (s : State) (src base : Nat) (f : FDesc) (new : Nat) : State :=
  let fld : Fld := ⟨s.phys base, f.lo, f.width⟩
  let v := bits new f.lo f.width
  match f.acc with
  | .w1c => if src = srcImage then s else s.put fld (s.get fld - (s.get fld &&& v))
  | .rw =>
    let live := match f.cls with
      | .live => true
      | .livePriv => privileged ((base - 0x120) / 2)
      | _ => false
    if !live || src = srcImage then s.put fld v
    else match s.commitAt base with
      | none => s.put fld v
      | some c =>
        if s.groupTakes c then s.shade c fld v false
        else if s.blockRuns base then s.shade c fld v true
        else s.put fld v
  | _ => s

/-- Whether an accepted write leaves something in a shadow, so that the journal says ACCEPTED_LIVE (R63). -/
def State.shadows (s : State) (src base : Nat) (r : RDesc) : Bool :=
  src != srcImage && (match s.commitAt base with
    | none => false
    | some c => s.groupTakes c || s.blockRuns base) &&
  r.fields.any (fun f => f.acc == .rw && (f.cls == .live || (f.cls == .livePriv && privileged ((base - 0x120) / 2))))

/-- The first class rule that a write of a whole word breaks (R12). -/
def State.classBreak (s : State) (src base : Nat) (r : RDesc) (old new : Nat) : Option Nat :=
  let runs := s.blockRuns base
  let priv := privileged ((base - 0x120) / 2)
  r.fields.findSome? (fun f =>
    if f.acc == .rw && bits old f.lo f.width != bits new f.lo f.width then classRefusal src f.cls runs priv else none)

/-- Applies an accepted write: the journal entry of every word, then every field (R12, R13). Log entry 13: DEDUCED. Log entry 18: DEDUCED. -/
def State.acceptWrite (s : State) (src base : Nat) (r : RDesc) (old new : Nat) : State :=
  let res := if s.shadows src base r then resLive else resAccepted
  let s := (List.range r.words).foldl (fun (t : State) i =>
    t.journalWrite src (base + i) (bits old (16 * i) 16) (bits new (16 * i) 16) res) s
  s.each r.fields (fun f t => t.writeField src base f new)

/-- A value rule of a block for a register write: the old and new values of the register give the result of a refusal. -/
abbrev Rule := State → Nat → Nat → Option Nat

/-- Judges a complete value for a register and applies or refuses it (R12); where it is accepted, the old and new values.
Log entry 111: DESIGN CHOICE. -/
def State.judge (s : State) (src a base : Nat) (r : RDesc) (new : Nat) (rule : Rule) : State × Option (Nat × Nat) :=
  let old := s.regValue r base
  let w := a - base
  let no (res : Nat) : State × Option (Nat × Nat) :=
    (s.refuse src a (bits old (16 * w) 16) (bits new (16 * w) 16) res, none)
  match s.classBreak src base r old new with
  | some res => no res
  | none =>
    if !legal (s.stdAt base) r base new then no resValue
    else match rule s old new with
      | some res => no res
      | none => (s.acceptWrite src base r old new, some (old, new))

/-- The staged words of a wide value over the value in force (R8). -/
def overlay (old : Nat) (words : List (Nat × Nat)) (n : Nat) : Nat :=
  ((List.range n).map (fun i => ((words.find? (·.1 == i)).map (·.2)).getD (bits old (16 * i) 16) * 2 ^ (16 * i))).sum

/-- Puts a word among the staged ones; a word written twice keeps its later value (R8). -/
def Stage.add (st : Option Stage) (base i w : Nat) : Stage :=
  match st with
  | some x => ⟨base, (i, w) :: x.words.filter (·.1 != i)⟩
  | none => ⟨base, [(i, w)]⟩

/-- A write of one word to an address, by the rules of every register (R8, R9, R12, R32, R421, R433). The second component is
present where a value was accepted: the old and new values of the register. Log entry 11: DEDUCED. -/
def State.writeAt (s : State) (src a w : Nat) (rule : Rule) : State × Option (Nat × Nat) :=
  match regAt (s.stdAt a) a with
  | none => (s.refuse src a 0 w resUndefined, none)
  | some (r, base) =>
    let old := bits (s.regValue r base) (16 * (a - base)) 16
    if s.gated src a then
      let s := s.when (src == srcTwoWire && !s.domOn (domainOf a)) (·.up F.TW_STATUS_DOMAIN_OFF_EV)
      (s.refuse src a old w resMode, none)
    else if r.words = 1 then s.judge src a base r w rule
    else
      let st := Stage.add s.stage base (a - base) w
      if a - base + 1 < r.words then ({ s with stage := some st }, none)
      else ({ s with stage := none }).judge src a base r (overlay (s.regValue r base) st.words r.words) rule

/-- Whether an access to an address discards staged words (R8). -/
def State.discards (s : State) (a : Nat) : Bool :=
  match s.stage with
  | none => false
  | some st => !inR st.base (st.base + s.stageSpan st.base - 1) a

/-- A write of one word, an access that may discard staged words first: that event wins over a clear of its bits by the same write (R8, R11).
Log entry 11: DEDUCED. -/
def State.write (s : State) (src a w : Nat) (rule : Rule := fun _ _ _ => none) : State × Option (Nat × Nat) :=
  if src = srcTwoWire then
    let r := (s.touch a).writeAt src a w rule
    (r.1.when (s.discards a) (fun t => (t.up F.GLB_STATUS_WIDE_DISCARD).up F.TW_STATUS_REFUSED_EV), r.2)
  else s.writeAt src a w rule

/-! Shadows at a boundary (R59). -/

/-- Applies every armed change of a block. Log entry 15: DESIGN CHOICE. -/
def State.applyArmed (s : State) (c : Nat) : State :=
  let mine := s.shadow.filter (fun x => x.commit == c && x.armed)
  let s := { s with shadow := s.shadow.filter (fun x => !(x.commit == c && x.armed)) }
  (s.each mine (fun x t => t.put x.fld x.val)).down (fPending c)

/-- Applies the armed changes of a COMMIT register to the fields that `p` names; PENDING stays while others wait (R59, R88, R153). -/
def State.applyFields (s : State) (c : Nat) (p : Fld → Bool) : State :=
  let mine := s.shadow.filter (fun x => x.commit == c && x.armed && p x.fld)
  let s := { s with shadow := s.shadow.filter (fun x => !(x.commit == c && x.armed && p x.fld)) }
  let s := s.each mine (fun x t => t.put x.fld x.val)
  s.when (!s.shadow.any (fun x => x.commit == c && x.armed)) (·.down (fPending c))

/-- Discards the unarmed changes of a block and closes its group (R60). -/
def State.abortGroup (s : State) (c : Nat) : State :=
  ({ s with shadow := s.shadow.filter (fun x => !(x.commit == c && !x.armed)),
            groupOf := s.groupOf.filter (·.1 != c) }).down (fGroup c)

/-- The value a field would hold with the armed and the collected changes of its block in force. -/
def State.withShadow (s : State) (c : Nat) (f : Fld) (armedOnly : Bool) : Nat :=
  match (s.shadow.filter (fun x => x.commit == c && x.fld == f && (x.armed || !armedOnly))).getLast? with
  | some x => x.val
  | none => s.get f

/-- Whether a change of a field is armed. -/
def State.armedFor (s : State) (f : Fld) (v : Nat) : Bool := s.shadow.any (fun x => x.fld == f && x.armed && x.val == v)

end Sys2Proof.Machine
end

