-- ==== Sys2Proof/Machine/Alert.lean ====
section
/-! DEFINITION. Urgent-class events and `ALERT_N` (17_urgent_path.md): the urgent-class table, alert sources, their starts, holds,
ends and clears. -/

namespace Sys2Proof.Machine

/-- A field of entry `i` of the urgent-class table. -/
def Fld.ofUrg (f : Fld) (i : Nat) : Fld := { f with addr := urgAddr i f.addr }

/-- The entries of the urgent-class table that match an event of a kind from a source (R377). -/
def State.urgMatching (s : State) (kind src : Nat) : List Nat :=
  (List.range 64).filter (fun i =>
    s.get (F.URG_ENTRY_A_KIND.ofUrg i) == kind &&
    (s.get (F.URG_ENTRY_A_BERTH.ofUrg i) == 0xFF || (src != 0xFE && s.get (F.URG_ENTRY_A_BERTH.ofUrg i) == src)))

/-- The combined action: the OR of the matching entries (R377). -/
def State.urgAction (s : State) (kind src : Nat) : Nat :=
  (s.urgMatching kind src).foldl (fun a i => a ||| s.get (F.URG_ENTRY_B_ACTION.ofUrg i)) 0

/-- The combined hold: the largest, 0 counting as larger than any other (R377). -/
def State.urgHold (s : State) (kind src : Nat) : Nat :=
  let hs := (s.urgMatching kind src).map (fun i => s.get (F.URG_ENTRY_C_HOLD.ofUrg i))
  if hs.contains 0 then 0 else hs.foldl max 0

/-- Brings the source bits of `ALERT_STATUS` up to date (R378, Table 17.8). -/
def State.alertShow (s : State) : State :=
  let k (i : Nat) : Nat := b2n (s.alerts.any (·.kind == i))
  let s := s.put F.ALERT_STATUS_PIN (b2n (!s.alerts.isEmpty))
  let s := s.put F.ALERT_STATUS_TEST (k 0x20)
  let s := s.put F.ALERT_STATUS_MODE (k 0x10)
  s.put F.ALERT_STATUS_KIND (k 1 + 2 * k 2 + 4 * k 3 + 8 * k 4)

/-- Starts an alert source, or restarts its hold where it is active (R378, R379). -/
def State.alertStart (s : State) (kind src hold : Nat) (stateOn : Bool) : State :=
  let first := s.alerts.isEmpty
  let rest := s.alerts.filter (fun a => !(a.kind == kind && a.src == src))
  let s := s.when first (fun s => ((s.put F.ALERT_FIRST_KIND kind).put F.ALERT_FIRST_DETAIL
    (if kind = 0x20 then 0 else src)).put F.ALERT_TIME_TIME s.ts)
  let s := (s.bump F.ALERT_COUNT_COUNT).up F.ALERT_STATUS_START_EV
  (s.setAlerts (rest ++ [⟨kind, src, stateOn, hold, hold != 0⟩])).alertShow

/-- Ends the sources that nothing keeps active any more: those with a hold whose hold has run out and whose state is off. Outside RUN and
DRIFT every active source stays (R379, R380, R386). Log entry 98: DEDUCED. -/
def State.alertSweep (s : State) : State :=
  if !(s.mode == .run || s.mode == .drift) then s
  else (s.setAlerts (s.alerts.filter (fun a => a.hold == 0 || a.running || a.stateOn))).alertShow

/-- The state behind a source ends; a source without a hold is latched from now on (R379). -/
def State.alertStateOff (s : State) (kind src : Nat) : State :=
  (s.setAlerts (s.alerts.map (fun a => if a.kind == kind && a.src == src then { a with stateOn := false } else a))).alertSweep

/-- CLEAR: ends every source that waits for one (R379). -/
def State.alertClear (s : State) : State :=
  (s.setAlerts (s.alerts.filter (fun a => a.hold != 0 || a.stateOn))).alertShow

/-- The effect of an accepted `ALERT_CMD` word; in SURVEY it is held until SURVEY is left (R379, R380). -/
def State.alertCommand (s : State) (w : Nat) : State :=
  if s.mode == .survey then
    (s.setAlertCmds (s.alertCmds ++ [w])).when (bit w 0) (·.up F.ALERT_STATUS_CLEAR_PENDING)
  else
    let s := s.when (bit w 0) (·.alertClear)
    s.when (bit w 1) (·.alertStart 0x20 0 0 false)

/-- SURVEY is left: the timers run again, and what waited takes effect, the starts first, then the commands in the order written (R380). -/
def State.alertThaw (s : State) : State :=
  let due := s.alertDue
  let cmds := s.alertCmds
  let s := { s with alertDue := [], alertCmds := [] }
  let s := (s.down F.ALERT_STATUS_FROZEN).down F.ALERT_STATUS_CLEAR_PENDING
  let s := s.each ((List.range 256).flatMap (fun n => due.filter (·.1 == n))) (fun d t => t.alertStart 4 d.1 d.2 false)
  s.each cmds (fun w t => t.alertCommand w)

/-- Full and power-on resets clear every source (R380). -/
def State.alertReset (s : State) : State :=
  let s := { s with alerts := [], alertDue := [], alertCmds := [] }
  ((s.down F.ALERT_STATUS_FROZEN).down F.ALERT_STATUS_CLEAR_PENDING).alertShow

/-- A state of kind 1 to 3 starts at a berth: the entry with URGENT, and the alert source where the action says so (R376, R378, R381). -/
def State.urgentStart (s : State) (kind n : Nat) (injected : Bool := false) : State :=
  let s := s.error (0x0C00 + kind) .berth n .stateStart { urgent := true, injected := injected, d0 := kind, d1 := n }
  s.when (bit (s.urgAction kind n) 0) (·.alertStart kind n (s.urgHold kind n) true)

/-- A state of kind 1 to 3 ends (R376, R379, R381, R386). -/
def State.urgentEnd (s : State) (kind n : Nat) (injected : Bool := false) : State :=
  let s := s.error (0x0C00 + kind) .berth n .stateEnd { urgent := true, injected := injected, d0 := kind, d1 := n }
  s.alertStateOff kind n

/-- An urgent ACCEPT verdict (kind 4): the notice, and the alert source where the action says so; in SURVEY the source waits (R376, R378, R380). -/
def State.urgentAccept (s : State) (src : Nat) (injected : Bool := false) : State :=
  let s := s.error 0x0C04 .berth src .notice { urgent := true, injected := injected, d0 := 4, d1 := src }
  if bit (s.urgAction 4 src) 0 then
    if s.mode == .survey then { s with alertDue := s.alertDue ++ [(src, s.urgHold 4 src)] }
    else s.alertStart 4 src (s.urgHold 4 src) false
  else s

/-- The refusal rule of `ALERT_CMD` (R379). -/
def alertRule : Rule := fun _ _ new =>
  if bits new 8 8 != 0x5A || (bit new 0 && bit new 1) then some resValue else none

/-- A write of `ALERT_CMD`, from any source (R378, R379). -/
def State.alertWrite (s : State) (src w : Nat) : State :=
  match s.write src 0x81 w alertRule with
  | (s, some _) => s.alertCommand w
  | (s, none) => s

/-- The hold of a source runs out; SURVEY freezes the timers (R379, R380). -/
def State.alertExpire (s : State) (kind src : Nat) : State :=
  if s.mode == .survey then s
  else (s.setAlerts (s.alerts.map (fun a => if a.kind == kind && a.src == src && a.hold != 0
    then { a with running := false } else a))).alertSweep

/-- Stages a word of an urgent-class entry, or completes the entry: the three words take effect together for the entry that
`URG_SEL` names, or are refused together (R387). -/
def State.urgEntryWrite (s : State) (src a w : Nat) : State :=
  let s := if src = srcTwoWire then s.touch a else s
  if s.gated src a then s.refuse src a (s.wordAt a) w resMode
  else
    let st := Stage.add s.stage 0x89 (a - 0x89) w
    if a < 0x8B then { s with stage := some st }
    else
      let s := { s with stage := none }
      let word (i : Nat) : Nat := ((st.words.find? (·.1 == i)).map (·.2)).getD (s.wordAt (0x89 + i))
      if !legalReg 0x89 0 (word 0) || Nat.blt 3 (word 1) then
        s.refuse src 0x8B (s.wordAt 0x8B) (word 2) resValue
      else
        let s := s.each [0, 1, 2] (fun i t => t.journalWrite src (0x89 + i) (s.wordAt (0x89 + i)) (word i) resAccepted)
        let i := s.get F.URG_SEL_ENTRY
        (((s.put (F.URG_ENTRY_A_KIND.ofUrg i) (bits (word 0) 8 8)).put (F.URG_ENTRY_A_BERTH.ofUrg i) (bits (word 0) 0 8)).put
          (F.URG_ENTRY_B_ACTION.ofUrg i) (word 1)).put (F.URG_ENTRY_C_HOLD.ofUrg i) (word 2)

end Sys2Proof.Machine
end

