-- ==== Sys2Proof/Machine/Units.lean ====
section
/-! DEFINITION. Detection, targeted self-test, classification and retirement of a unit (R396 to R399), shared by every block. -/

namespace Sys2Proof.Machine

/-- What an unlisted unit holds: in service, nothing recorded. -/
def UnitRec.reset : UnitRec := ⟨false, 0, false, 0, [], false⟩

/-- The protection state of a unit. -/
def State.unit (s : State) (u : UnitType) (i : Nat) : UnitRec :=
  Tbl.get (fun _ => UnitRec.reset) s.units (4096 * u.code + i)

/-- Writes the protection state of a unit. -/
def State.putUnit (s : State) (u : UnitType) (i : Nat) (r : UnitRec) : State :=
  { s with units := Tbl.set (fun _ => UnitRec.reset) s.units (4096 * u.code + i) r }

/-- Whether a unit is retired (R399). -/
def State.isRetired (s : State) (u : UnitType) (i : Nat) : Bool := (s.unit u i).retired

/-- Whether every self-test of a unit fails because an injection with PERSIST on it is armed (R406). -/
def State.persistFails (s : State) (u : UnitType) (i : Nat) : Bool :=
  match s.inj with
  | some j => j.persist && j.ty == u.code && j.index == i
  | none => false

/-! Words of the protected memories (R388 to R391); their code is in `Memory`. -/

/-- Memory of an address. -/
def memOf (a : Nat) : Nat := bits a 28 4

/-- Wrong bits of a word. -/
def State.flipsAt (s : State) (a : Nat) : Nat := Tbl.get (fun _ => 0) s.flips a

/-- Writes the wrong bits of a word. -/
def State.putFlips (s : State) (a e : Nat) : State := s.setFlips (Tbl.set (fun _ => 0) s.flips a e)

/-- Protection state of a word. -/
def State.word (s : State) (a : Nat) : UnitRec := Tbl.get (fun _ => UnitRec.reset) s.words a

/-- Writes the protection state of a word. -/
def State.putWord (s : State) (a : Nat) (r : UnitRec) : State := s.setWords (Tbl.set (fun _ => UnitRec.reset) s.words a r)

/-- Bits of a word that an armed injection with PERSIST keeps wrong (R406). -/
def State.stuckBits (s : State) (a : Nat) : Nat :=
  match s.inj with
  | some j => if j.persist && inR 0x0501 0x0507 j.code && j.addr == a then 2 ^ j.bits - 1 else 0
  | none => 0

/-- The memories of a domain are written with zeros and valid check bits: nothing is wrong in them but what an injection keeps stuck, and no
self-test runs (R402). -/
def State.clearWords (s : State) (mems : List Nat) : State :=
  let mine (a : Nat) : Bool := mems.contains (memOf a)
  let stuck := s.inj.toList.filter (fun j => j.persist && inR 0x0501 0x0507 j.code && mine j.addr)
  let s := s.setFlips (s.flips.filter (fun e => !mine e.1))
  let s := s.setWords (s.words.map (fun e => if mine e.1 then (e.1, { e.2 with testing := false, runs := 0 }) else e))
  let s := (s.setInjWords (s.injWords.filter (fun a => !mine a))).setSingles (s.singles.filter (fun a => !mine a))
  s.each stuck (fun j t => (t.putFlips j.addr (2 ^ j.bits - 1)).setInjWords (j.addr :: t.injWords))

/-! Retirement. -/

/-- Sets or clears a bit of a mask field. -/
def State.mask (s : State) (f : Fld) (b : Nat) (v : Bool) : State :=
  let old := s.get f
  if bit old b == v then s else s.put f (if v then old + 2 ^ b else old - 2 ^ b)

/-- Shows a retirement in the registers of Table 18.13 and in the unit's own status (R399). -/
def State.showRetired (s : State) (u : UnitType) (i : Nat) (v : Bool) : State :=
  match u with
  | .movement => (s.mask F.PROT_UNITS_RETIRED_MOVEMENTS i v).put (F.TB_MOV_STATUS_RETIRED i) (b2n v)
  | .intake => (s.mask F.PROT_UNITS_RETIRED_INTAKES (i - 1) v).put (F.INT_STATUS_RETIRED i) (b2n v)
  | .crane => s.mask F.PROT_CRANES_RETIRED_MASK i v
  | .converter => s.mask F.PROT_UNITS_RETIRED_CONVERTERS i v
  | .bond => s.put F.PROT_UNITS_RETIRED_BOND (b2n v)
  | .txDac => s.put F.PROT_UNITS_RETIRED_TXDAC (b2n v)
  | _ => s

/-- A unit is retired (R399). -/
def State.retire (s : State) (u : UnitType) (i : Nat) : State :=
  let r := s.unit u i
  ((s.putUnit u i { r with testing := false, retired := true, past := [] }).up F.PROT_STATUS_LASTING_EV).showRetired u i true

/-- A detection starts the unit's self-test; one that arrives while the test runs joins it, and a retired unit has none (R396,
R398). -/
def State.startTest (s : State) (u : UnitType) (i detector : Nat) (injected : Bool) : State :=
  let r := s.unit u i
  if r.testing || r.retired then s
  else s.putUnit u i { r with testing := true, detector := detector, injected := injected, runs := 0 }

/-- How a self-test run ends (R398). -/
inductive Verdict where
  | none | again | transient | lasting
  deriving DecidableEq, Repr

/-- Sixty seconds, in which a third TRANSIENT event counts as LASTING (R398). -/
def minuteNs : Nat := 60000000000

/-- The self-test run of a unit ends: TRANSIENT on a pass, a repeat on the first failure, LASTING on the second, and LASTING too
for the third TRANSIENT within 60 s. The classification is journaled; LASTING retires the unit (R398, R399). Log entry 32: DEDUCED. -/
def State.classify (s : State) (u : UnitType) (i : Nat) (pass : Bool) : State × Verdict :=
  let r := s.unit u i
  let runs := r.runs + 1
  if !r.testing then (s, .none)
  else if pass && !s.persistFails u i then
    let past := s.clock :: r.past.filter (fun t => s.clock < t + minuteNs)
    if 3 ≤ past.length then
      ((s.error r.detector u i .lasting { attempt := runs, injected := r.injected, d3 := 3 }).retire u i, .lasting)
    else
      ((s.error r.detector u i .transient { attempt := runs, injected := r.injected }).putUnit u i
        { r with testing := false, past := past }, .transient)
  else if r.runs = 0 then (s.putUnit u i { r with runs := 1 }, .again)
  else ((s.error r.detector u i .lasting { attempt := runs, injected := r.injected }).retire u i, .lasting)

end Sys2Proof.Machine
end

