-- ==== Sys2Proof/Machine/BondCore.lean ====
section
/-! DEFINITION. Lading frames, bond slots and requests, and the capture channels that feed the bond engine (R275, R283 to R285,
R325 to R332, R342, R343, R347). -/

namespace Sys2Proof.Machine

/-! Lading frames (R283). -/

/-- A lading frame: 24-byte header, payload, and the CRC-32 over both, least significant byte first (R283, Table 13.2). -/
def lading (producer content flags seq epoch ts : Nat) (payload : List Byte) : List Byte :=
  let body := be 1 producer ++ be 1 content ++ be 2 flags ++ be 2 payload.length ++ [0x01#8, 0#8] ++ be 4 seq ++ be 4 epoch ++
    be 8 ts ++ payload
  body ++ le 4 (crc32 body).toNat

/-- The frame of an item in custody; a resend carries REPLAY-CHECKED (R274). -/
def Item.frame (i : Item) : List Byte :=
  lading i.prod i.content (i.flags + if i.replay then flagReplay else 0) i.seq i.epoch i.ts i.payload

/-! Slots. -/

/-- An empty slot. -/
def Slot.reset : Slot := ⟨none, 0, 0, [], none⟩

/-- A slot. -/
def State.slot (s : State) (i : Nat) : Slot := Tbl.get (fun _ => Slot.reset) s.slots i

/-- Writes a slot. -/
def State.putSlot (s : State) (i : Nat) (v : Slot) : State := s.setSlots (Tbl.set (fun _ => Slot.reset) s.slots i v)

/-- The generation that a slot will have when a request accepted now is served (R330). -/
def Slot.bound (x : Slot) : Nat := if x.pending.isSome then (x.gen + 1) % 65536 else x.gen

/-! Requests. -/

/-- The bytes of a request, joined. -/
def BReq.data (r : BReq) : List Byte := r.frames.flatten

/-- Header length HL of an envelope (Table 15.3). -/
def envHl (e : List Byte) : Nat := ofBe (slice e 3 2)

/-- Ciphertext length C of an envelope. -/
def envC (e : List Byte) : Nat := e.length - (33 + envHl e)

/-- Whether a request is long enough to stream; the others are held whole (R337, R338). -/
def BReq.streams (r : BReq) : Bool := r.mode == 1 && Nat.blt 65536 (envC r.data)

/-- Staging bytes that a request holds: a streamed one frees what it has decrypted (R329). -/
def BReq.staged (r : BReq) : Nat := if r.streams then r.data.length - r.progress else r.data.length

/-- Whether the request hold has an entry and staging for a request of `n` bytes (R329). -/
def State.bondCredit (s : State) (n : Nat) : Bool :=
  Nat.blt s.bondReqs.length 64 && Nat.ble ((s.bondReqs.map BReq.staged).sum + n) 524288

/-- Changes the request hold, and the fill of hold 104 with it. -/
def State.putReqs (s : State) (l : List BReq) : State := (s.setBondReqs l).holdFill 104 l.length

/-- Changes the request with a number. -/
def State.updReq (s : State) (id : Nat) (g : BReq → BReq) : State :=
  s.setBondReqs (s.bondReqs.map (fun r => if r.id == id then g r else r))

/-- Whether a GCM envelope from a source counts as urgent (R332). -/
def State.gcmUrgent (s : State) (src : Nat) (env : List Byte) : Bool :=
  bit (byteAt env 1) 0 && bit (s.urgAction 4 (if src < 96 then src else 0xFE)) 1

/-- The slot that a request's first frame names: byte 2 of an envelope or of a sector header. -/
def slotByte (f : List Byte) : Nat := byteAt f 2 % 32

/-- Puts a request into the hold: an urgent one behind the urgent ones already there (R331). -/
def State.enterReq (s : State) (r : BReq) : State :=
  let r := { r with id := s.bondNext, copy := Copy.of r.data }
  let s := { s with bondNext := s.bondNext + 1 }
  if r.urgent then s.putReqs (s.bondReqs.filter (·.urgent) ++ [r] ++ s.bondReqs.filter (fun x => !x.urgent))
  else s.putReqs (s.bondReqs ++ [r])

/-- Whether work of a source enters its acceptance point again: its number is not after the newest that was taken there (R272, R276); `key` is the
source for the request hold, and 256 above it for the pilot schedule. Log entry 143: DEDUCED. -/
def State.isTaken (s : State) (key seq : Nat) : Bool :=
  let n := Tbl.get (fun _ => 0) s.taken key
  n != 0 && !follows seq (n - 1)

/-- The number of work that an acceptance point has taken (R276). -/
def State.take (s : State) (key seq : Nat) : State := s.setTaken (Tbl.set (fun _ => 0) s.taken key (seq + 1))

/-- Accepts a request with its generations bound (R330). A first landing frame of an item of several is held unaccepted until the item is whole
or streams. -/
def State.acceptReq (s : State) (src srcSeq mode ts : Nat) (frame : List Byte) (complete : Bool) : State :=
  let sl := slotByte frame
  s.enterReq
  { id := 0, src := src, srcSeq := srcSeq, mode := mode, slot := sl, gen := (s.slot sl).bound,
    gen2 := (s.slot (sl + 1)).bound, urgent := mode == 1 && s.gcmUrgent src frame, ts := ts, frames := [frame],
    complete := complete, broken := false, progress := 0, outs := 0, owns := false, ended := false,
    channel := byteAt frame 1, dun := ofBe (slice frame 8 8), fed := [], landed := if complete then [] else [srcSeq], copy := Copy.of [] }

/-- Accepts a datagram of a berth as a bond request: it takes the berth's next number (R271, R330). -/
def State.acceptDatagram (s : State) (n ts : Nat) (env : List Byte) : State :=
  (s.numbered n env).acceptReq n (s.prod n).next 1 ts env true

/-! Capture channels (R342, R343). -/

/-- What an unlisted capture channel holds. -/
def Cap.reset : Cap := ⟨[], [], [], (0, 0), 0⟩

/-- A capture channel. -/
def State.cap (s : State) (c : Nat) : Cap := Tbl.get (fun _ => Cap.reset) s.caps c

/-- Writes a capture channel, and shows FILLING. -/
def State.putCap (s : State) (c : Nat) (v : Cap) : State :=
  ({ s with caps := Tbl.set (fun _ => Cap.reset) s.caps c v }).put (F.CAP_CTRL_FILLING c) (b2n (!v.buf.isEmpty))

/-- Unit size U of a channel. -/
def State.capUnit (s : State) (c : Nat) : Nat := 16 * s.get (F.CAP_UNIT_UNIT16 c)

/-- How many bytes the next unit of a channel takes from its stream: U, or fewer where it was closed early; none while neither (R343). -/
def State.capNext (s : State) (c : Nat) : Nat :=
  let u := s.capUnit c
  let k := s.cap c
  if k.closed != 0 && Nat.blt k.closed u then k.closed else if Nat.ble u k.buf.length then u else 0

/-- Cuts the next unit of a channel and accepts its XTS-encrypt request; an early-closed unit is filled with 0xFF (R343, R344). -/
def State.capCut (s : State) (c : Nat) : State :=
  let n := s.capNext c
  let k := s.cap c
  let unit := k.buf.take n ++ List.replicate (s.capUnit c - n) 0xFF#8
  let inUnit := k.begins.filter (fun b => Nat.blt b.1 n)
  let first := match inUnit.head? with | some b => b.2.1 | none => k.cur.1
  let last := match inUnit.getLast? with | some b => (b.2.1, b.2.2) | none => k.cur
  let fed := (k.owed.filter (fun e => Nat.ble e.2.2 n)).map (fun e => (e.1, e.2.1))
  let pair := s.get (F.CAP_CFG_PAIR c)
  let dun := s.get (F.CAP_DUN_DUN c)
  let s := s.putCap c ⟨k.buf.drop n, (k.owed.filter (fun e => Nat.blt n e.2.2)).map (fun e => (e.1, e.2.1, e.2.2 - n)),
    (k.begins.filter (fun b => Nat.ble n b.1)).map (fun b => (b.1 - n, b.2.1, b.2.2)), last, k.closed - n⟩
  let s := s.put (F.CAP_DUN_DUN c) (dun + 1)
  s.enterReq
  { id := 0, src := s.get (F.CAP_CFG_BERTH c), srcSeq := last.2, mode := 2, slot := pair, gen := (s.slot pair).bound,
    gen2 := (s.slot (pair + 1)).bound, urgent := false, ts := first, frames := [unit], complete := true, broken := false,
    progress := 0, outs := 0, owns := false, ended := false, channel := c, dun := dun, fed := fed, landed := [], copy := Copy.of [] }

/-- A channel that was told to stop reads STOPPED once its last unit has been closed (R351). -/
def State.capShow (s : State) (c : Nat) : State :=
  s.when (!s.on (F.CAP_CTRL_RUN c) && (s.cap c).buf.isEmpty) (·.up (F.CAP_CTRL_STOPPED c))

/-- Cuts the units of a channel that are full or closed, while the request hold has credit (R329, R343). -/
def State.capPump (s : State) (c : Nat) : State :=
  let s := (List.range ((s.cap c).buf.length / 512 + 1)).foldl (fun (t : State) _ =>
    if t.capNext c != 0 && t.bondCredit (t.capUnit c) then t.capCut c else t) s
  s.capShow c

/-- Closes the unit of a channel early (R343). -/
def State.capClose (s : State) (c : Nat) : State := (s.putCap c { s.cap c with closed := (s.cap c).buf.length }).capPump c

/-- A unit's first byte has waited `CAP_FLUSH` ms, which at 0 never ends (R343, Table 15.12). -/
def State.capFlush (s : State) (c : Nat) : State := if s.get (F.CAP_FLUSH_MS c) = 0 then s else s.capClose c

/-- The hold entrance has accepted a consignment: an urgent ACCEPT marker of the bond engine starts the alert source of kind 4 (R376, R378). -/
def State.markerAccepted (s : State) (p content flags : Nat) (payload : List Byte) : State :=
  let src := byteAt payload 3
  s.when (p == 0x62 && content == 0x0B && flags &&& flagUrgent != 0) (·.urgentAccept (if src < 96 then src else 0xFE))

/-- Accepts a consignment; one that a capture channel takes enters its stream as a complete lading frame (R342, R343). -/
def State.acceptFeed (s : State) (p content flags ts : Nat) (payload : List Byte) (reserve : Bool) : State :=
  let seq := (s.prod p).next
  let f := lading p content flags seq s.epoch ts payload
  match s.captureOf p content with
  | none => (s.accept p content flags ts payload reserve).markerAccepted p content flags payload
  | some c =>
    let s := s.accept p content flags ts payload reserve
    let k := s.cap c
    (s.putCap c { k with buf := k.buf ++ f, owed := k.owed ++ [(p, seq, k.buf.length + f.length)],
                         begins := k.begins ++ [(k.buf.length, ts, seq)] }).capPump c

/-- A channel told to stop closes its unit and reads STOPPED (R351). -/
def State.capStop (s : State) (c : Nat) : State := (s.down (F.CAP_CTRL_RUN c)).capClose c

end Sys2Proof.Machine
end

