-- ==== Sys2Proof/Machine/Numbers.lean ====
section
/-! DEFINITION. Roots, logarithms, powers, sines and angles in integer arithmetic, by which the model computes what the rules give by a formula
(R91, R118, R119, R129, R170, R171, R188, R243 to R251, R312). Each real value is worked out in fixed point, far finer than the word that it
becomes, and the word is the one nearest to it (log entry 119). -/

namespace Sys2Proof.Machine

/-- The quotient nearest to `num ÷ den`, a half rounded up. -/
def roundDiv (num : Int) (den : Nat) : Int := (2 * num + den) / (2 * den : Nat)

/-- The word that stage `site` makes of the exact value `num ÷ den`, where the spec gives a width and no rounding: that value, or one of its two
neighbours. Log entry 119: DESIGN CHOICE. -/
def narrow (site : Nat) (num : Int) (den : Nat) : Int :=
  num / (den : Int) + (if num % (den : Int) != 0 && Config.roundsUp site num den then 1 else 0)

/-- The word nearest to `num ÷ den`, where the spec says that stage `site` rounds; of two equally near, either. Log entry 119: DESIGN CHOICE. -/
def rounded (site : Nat) (num : Int) (den : Nat) : Int :=
  let r := 2 * (num % (den : Int))
  num / (den : Int) + (if (den : Int) < r || (r == (den : Int) && Config.roundsUp site num den) then 1 else 0)

/-! Roots. -/

/-- The bits of a square root from bit `w` − 1 down: `r` is the root of the bits above. -/
def rootFrom (n : Nat) : Nat → Nat → Nat
  | 0, r => r
  | w + 1, r => rootFrom n w (if (r + 2 ^ w) ^ 2 ≤ n then r + 2 ^ w else r)

/-- The whole part of a square root. -/
def root (n : Nat) : Nat := rootFrom n (n.log2 / 2 + 1) 0

/-! Fixed point: 96 fraction bits. -/

/-- One. -/
def fix : Nat := 2 ^ 96

/-- Binary digits of the logarithm of `x` in [1, 2), `n` of them, after those of `acc`: each squares `x`. -/
def logBits : Nat → Nat → Nat → Nat
  | 0, _, acc => acc
  | n + 1, x, acc =>
    let y := x * x / fix
    if Nat.ble (2 * fix) y then logBits n (y / 2) (2 * acc + 1) else logBits n y (2 * acc)

/-- log₂ of `num ÷ den` with 60 fraction bits; of a quotient above 0. -/
def log2Of (num den : Nat) : Int :=
  let e : Int := (num.log2 : Int) - den.log2
  let x := if 0 ≤ e then num * fix / (den * 2 ^ e.toNat) else num * fix * 2 ^ (-e).toNat / den
  let e := if Nat.blt x fix then e - 1 else e
  let x := if Nat.blt x fix then 2 * x else x
  e * 2 ^ 60 + (logBits 60 x 0 : Nat)

/-- log₁₀ 2 with 96 fraction bits. -/
def logTen : Nat := 23850053418134191015272426710

/-- 10 × log₁₀ of `num ÷ den` in units of 1 ÷ `unit` dB, the nearest; the logarithm of 0 is a free value. Log entry 119: DESIGN CHOICE. -/
def decibel (unit num den : Nat) : Int :=
  if num = 0 || den = 0 then Config.logOfZero unit else roundDiv (10 * unit * log2Of num den * logTen) (2 ^ 156)

/-- 10 × log₁₀ of `num ÷ den` in 0.01 dB (R129). -/
def centibel (num den : Nat) : Int := decibel 100 num den

/-- 10 × log₁₀ of `num ÷ den` in 0.001 dB (R243). -/
def millibel (num den : Nat) : Int := decibel 1000 num den

/-- ln 10 with 96 fraction bits. -/
def lnTen : Nat := 182429585950654714090129938606

/-- Terms of the exponential series of `y`, from the `k`-th, which is `term` × y ÷ k. -/
def expFrom (y : Nat) : Nat → Nat → Nat → Nat → Nat
  | 0, _, _, acc => acc
  | n + 1, k, term, acc => let t := term * y / (k * fix); expFrom y n (k + 1) t (acc + t)

/-- 10^(`num` ÷ `den`) with 96 fraction bits. -/
def tenTo (num : Int) (den : Nat) : Nat :=
  let whole := num / (den : Int)
  let f := expFrom ((num % (den : Int)).toNat * lnTen / den) 48 1 fix fix
  if 0 ≤ whole then f * 10 ^ whole.toNat else f / 10 ^ (-whole).toNat

/-- The mean power in 0.001 dBm of parts, each given by its samples and its level in 0.001 dBm (R245); none is a level of 0. -/
def meanPower (parts : List (Nat × Int)) : Int :=
  match parts with
  | [p] => p.2
  | _ => millibel ((parts.map (fun p => p.1 * tenTo p.2 10000)).sum) ((parts.map (·.1)).sum * fix)

/-- 10^(x ÷ 20) for x in 0.001 dB, in 10⁻⁶ (Table 11.4). -/
def amplitude (x : Int) : Nat := (roundDiv (tenTo x 20000 * 10 ^ 6 : Nat) fix).toNat

/-! Sines and angles. -/

/-- 2π with 96 fraction bits. -/
def twoPi : Nat := 497805226624462170461043889244

/-- Terms of cosine and sine of `y`, from the `k`-th of the exponential series of i × y. -/
def trigFrom (y : Int) : Nat → Nat → Int → Int × Int → Int × Int
  | 0, _, _, acc => acc
  | n + 1, k, term, acc =>
    let t := term * y / (k * fix : Nat)
    let m := k % 4
    trigFrom y n (k + 1) t (if m = 0 then (acc.1 + t, acc.2) else if m = 1 then (acc.1, acc.2 + t) else if m = 2 then (acc.1 - t, acc.2) else (acc.1, acc.2 - t))

/-- Cosine and sine of `num ÷ den` of a cycle in units of 2^−`w`, the nearest. -/
def turn (w num den : Nat) : Int × Int :=
  -- from −1/2 to 1/2 of a cycle
  let n := num % den
  let n : Int := if den < 2 * n then (n : Int) - den else n
  let v := trigFrom (n * twoPi / (den : Int)) 60 1 fix (fix, 0)
  (roundDiv (v.1 * 2 ^ w) fix, roundDiv (v.2 * 2 ^ w) fix)

/-- The direction of a complex number in units of 2⁻¹⁷; that of 0 is a free value (R171). Log entry 123: DESIGN CHOICE. -/
def direction (re im : Int) : Int × Int :=
  let r := root ((re * re + im * im).toNat * 2 ^ 80)
  if r = 0 then Config.noDirection else (roundDiv (re * 2 ^ 57) r, roundDiv (im * 2 ^ 57) r)

/-- Binary digits of an angle in cycles, after those of `acc`: each squares the number. -/
def angleBits : Nat → Int → Int → Nat → Nat
  | 0, _, _, acc => acc
  | n + 1, re, im, acc =>
    let bit := decide (im < 0) || (decide (im = 0) && decide (re < 0))
    let x := re * re - im * im
    let y := 2 * re * im
    let k := (max x.natAbs y.natAbs).log2 - 100
    angleBits n (x / (2 ^ k : Nat)) (y / (2 ^ k : Nat)) (2 * acc + (if bit then 1 else 0))

/-- The angle of a complex number other than 0 in 2⁻⁴⁸ cycles, below a whole one. -/
def angle (re im : Int) : Nat := angleBits 48 (re * 2 ^ 100) (im * 2 ^ 100) 0

end Sys2Proof.Machine
end

