-- ==== Sys2Proof/Machine/Dsp.lean ====
section
/-! DEFINITION. The arithmetic of the signal chain (06_lanes.md): channeliser, stitch, NCO, FIR, resampler, fractional delay and detectors, as
functions of the stage's own state. The values of coefficients, and a rounding that the spec does not give, are `Config`'s (log entry 119). -/

namespace Sys2Proof.Machine

/-! Marks of a sample. -/

/-- A mark: the sample carries SETTLING. -/
def mkSettling : Nat := 0
/-- A mark: the sample is an erasure for its branch (R138). -/
def mkErased : Nat := 1
/-- A mark: it comes from a block in which a gain change takes effect (R91). -/
def mkGain : Nat := 2
/-- A mark: it falls in a pilot window, in bins 184 to 186 (R96). -/
def mkPilot : Nat := 3
/-- A mark: it belongs to an invalid branch (R128). -/
def mkInvalid : Nat := 4

/-- A mark: SETTLING comes from an injected event (R407). -/
def mkInjected : Nat := 5

/-- The gain state of the intake when the sample's block was taken (R243): above the marks. -/
def gainOf (marks : Nat) : Nat := marks / 2 ^ 8 % 2 ^ 8

/-- L_ext in 0.001 dB when the sample's block was taken (R244, R260): above the gain state. -/
def lossOf (marks : Nat) : Nat := marks / 2 ^ 16 % 2 ^ 16

/-- The external delay in ps when the sample's block was taken, 0 while PLANE is 0 (R249, R260). -/
def lateOf (marks : Nat) : Nat := marks / 2 ^ 32

/-- Marks where a condition holds. -/
def markIf (b : Bool) (m : Nat) : Nat := if b then 2 ^ m else 0

/-- Sets a mark. -/
def withMark (marks m : Nat) : Nat := if bit marks m then marks else marks + 2 ^ m

/-- Marks with those of `ks` that `more` holds too. -/
def joinMarks (ks : List Nat) (m more : Nat) : Nat := ks.foldl (fun m k => if bit more k then withMark m k else m) m

/-- The marks that say which blocks and bins a sample comes from (R91, R96, R128): what a stage forms of several samples has come in since its
last output carries those of each. -/
def mkOrigins : List Nat := [mkGain, mkPilot, mkInvalid]

/-- The marks of what a stage forms of samples, the newest first, of which `fresh` came in since its last output: the newest one's, with those
that say where the fresh ones come from, and SETTLING and INJECTED where any carries them. -/
def marksOf (fresh : Nat) (xs : List Smp) : Nat :=
  let m := ((xs.head?).map (·.marks)).getD 0
  let m := (xs.take fresh).foldl (fun m x => joinMarks mkOrigins m x.marks) m
  xs.foldl (fun m x => joinMarks [mkSettling, mkInjected] m x.marks) m

/-- L_ext at a frequency (in 2⁻³² Hz) in 0.001 dB from the losses at the centres of the bin groups: interpolated between them, 0 without any
(R244). -/
def lossAt (e : List Nat) (f : Int) : Int :=
  let unit := 75000000 * 2 ^ 32
  let d := f - 35156250 * 2 ^ 32
  let at_ (j : Nat) : Int := (e.getD j 0 : Nat)
  let j := d.toNat / unit
  if d ≤ 0 then at_ 0 else if 15 ≤ j then at_ 15 else at_ j + roundDiv ((at_ (j + 1) - at_ j) * (d.toNat % unit : Nat)) unit

/-- A word of `w` bits in two's complement, saturating. -/
def clampTo (w : Nat) (x : Int) : Int := max (-(2 ^ (w - 1) : Nat)) (min ((2 ^ (w - 1) : Nat) - 1) x)

/-! The channeliser (Table 6.1, R114 to R116). -/

/-- The modulus of integrators and combs (R115). -/
def chanMod : Nat := 2 ^ 41

/-- A channeliser that has seen no sample. -/
def Chan.reset : Chan := ⟨0, 0, 0, 0, [], [], [], [], [], [], [], []⟩

/-- One ADC sample: three integrators, three combs with a delay of 512 samples, all modulo 2⁴¹, and the comb result rounded to 18 bits
(Table 6.1, R115). -/
def Chan.sample (c : Chan) (x : Int) : Chan :=
  let i1 := (c.i1 + toBits 41 x) % chanMod
  let i2 := (c.i2 + i1) % chanMod
  let i3 := (c.i3 + i2) % chanMod
  let comb (v : Nat) (d : List Nat) : Nat := (v + chanMod - d.getD 511 0) % chanMod
  let y1 := comb i3 c.d1
  let y2 := comb y1 c.d2
  let y3 := comb y2 c.d3
  { c with
    i1 := i1, i2 := i2, i3 := i3
    d1 := (i3 :: c.d1).take 512, d2 := (y1 :: c.d2).take 512, d3 := (y2 :: c.d3).take 512
    hist := (clampTo 18 (rounded 0 (sext 41 y3) (2 ^ 23)) :: c.hist).take 1536 }

/-- Output of branch `j` of the 512, three taps each (Table 6.1). -/
def Chan.branch (c : Chan) (j : Nat) : Int :=
  clampTo 20 (narrow 1 (((List.range 3).map (fun t => Config.branch (j + 512 * t) * c.hist.getD (j + 512 * t) 0)).sum) (2 ^ 17))

/-- A complex product over a power of two, as `site` rounds it, in 16 bits. -/
def mixed (site den : Nat) (x y : Int × Int) : Int × Int :=
  (clamp16 (rounded site (x.1 * y.1 - x.2 * y.2) den), clamp16 (rounded site (x.1 * y.2 + x.2 * y.1) den))

/-- Cosine and sine of the 512 parts of a cycle, in units of 2⁻²². -/
def twiddles : List (Int × Int) := (List.range 512).map (fun i => turn 22 i 512)

/-- Bin `k` of the 512-point transform of real branch outputs, the newest first: Σ x(m) × e^(−2πi·k·m ÷ 512), m the place in time; 24 bits, of
which six are a fraction of a bin sample. Branches of gain 1 give the scale of Table 6.2. Log entry 119: DESIGN CHOICE. -/
def transform (w : List (Int × Int)) (k : Nat) (outs : List Int) : Int × Int :=
  let sum := outs.zipIdx.foldl (fun (a : Int × Int) x =>
    let t := w.getD (k * (511 - x.2) % 512) (0, 0)
    (a.1 + x.1 * t.1, a.2 - x.1 * t.2)) (0, 0)
  (clampTo 24 (narrow 13 sum.1 (2 ^ 27)), clampTo 24 (narrow 13 sum.2 (2 ^ 27)))

/-- The factor of a gain correction in 0.001 dB and a phase correction in 0.01°, in units of 2⁻¹⁴ (R91, R100, R102). -/
def factor (gain phase : Int) : Int × Int :=
  let a := tenTo gain 20000
  let w := turn 40 (phase % 36000).toNat 36000
  (roundDiv (a * w.1) (2 ^ 122), roundDiv (a * w.2) (2 ^ 122))

/-- Sample of bin `k` of block `n`: transform, removal of (−1)^(k·n), and the correction in 0.001 dB and 0.01° (R91, R102, R114, R116). -/
def binSample (w : List (Int × Int)) (n k : Nat) (outs : List Int) (corr : Int × Int) : Int × Int :=
  let v := transform w k outs
  let v := if k * n % 2 = 0 then v else (-v.1, -v.2)
  mixed 2 (2 ^ 20) v (factor corr.1 corr.2)

/-- A block: its samples run through the front end, and the 256 bin samples are formed (R114). A refused block puts zeros in its place; what
derives from one carries SETTLING (R20). -/
def Chan.run (c : Chan) (b : AdcBlk) (corr : Nat → Int × Int) : Chan :=
  let c := b.samples.foldl Chan.sample c
  let outs := (List.range 512).map c.branch
  let zeros := (b.zero :: c.zeros).take 12
  let faked := (b.injected :: c.faked).take 12
  let marks (k : Nat) : Nat := markIf (zeros.any id) mkSettling + markIf b.changed mkGain + markIf (b.pilot && inR 184 186 k) mkPilot +
    markIf (!b.valid) mkInvalid + markIf (faked.any id) mkInjected + 256 * b.state
  { c with
    block := c.block + 1, zeros := zeros, faked := faked
    bins := (List.range 256).map (fun k => let v := binSample twiddles c.block k outs (corr k); ⟨v.1, v.2, marks k⟩) }

/-! The lane chain (Table 6.4). -/

/-- What a lane's chain works with: group size, decimation, shift, taps, L, M, FREQ, delay (W × 64 + F), the first bin, samples that settle,
D_total in ps. -/
structure LaneCfg where
  g : Nat
  df : Nat
  shift : Nat
  taps : List Int
  l : Nat
  m : Nat
  freq : Int
  delay : Nat
  first : Nat
  settle : Nat
  dTotal : Nat
  deriving DecidableEq, Repr

/-- A chain with zeroed histories and phases whose next output sample has index `index` (R134). -/
def Chain.start (index : Nat) : Chain := ⟨[], 0, 0, 0, [], 0, [], 0, 0, [], index, index, false, 0, index, none, 0, (0, 0)⟩

/-- A chain that follows another with its phases: zeroed histories, the same instants (R140, R141). -/
def Chain.follow (c : Chain) : Chain := { c with stitch := [], fir := [], rs := [], line := [], born := c.index, erase := false }

/-- Composite sample `t` of a block (R118): the bin itself, or the bins' outputs of the synthesis filter, shifted to their offsets from the
composite's centre and added. `n` is the number of the block, by which the shift keeps its phase. -/
def stitched (g n t : Nat) (hist : List (List Smp)) : Smp :=
  if g = 1 then ((hist.head?).bind (·.head?)).getD ⟨0, 0, 0⟩
  else
    let taps := 24 * g + 1
    let idx := (List.range (ceilDiv (taps - t) g))
    let one (i : Nat) : Int × Int :=
      let x (j : Nat) : Smp := (hist.getD j []).getD i ⟨0, 0, 0⟩
      let v : Int × Int := ((idx.map (fun j => Config.synthesis g (t + g * j) * (x j).re)).sum,
        (idx.map (fun j => Config.synthesis g (t + g * j) * (x j).im)).sum)
      let w := turn 17 (((2 * i : Nat) - (g - 1 : Nat) : Int) * (g * n + t : Nat) % (4 * g : Nat)).toNat (4 * g)
      (v.1 * w.1 - v.2 * w.2, v.1 * w.2 + v.2 * w.1)
    let parts := (List.range g).map one
    let part (l : List Int) : Int := clamp16 (narrow 3 l.sum (2 ^ 34))
    ⟨part (parts.map (·.1)), part (parts.map (·.2)), marksOf 1 (hist.map (fun b => ⟨0, 0, marksOf g b⟩))⟩

/-- The shift that a reference correction of `off` × 10⁻¹¹ adds to FREQ × Δ, in mHz: ε × (f_c − FREQ × Δ) (R120). -/
def trimMilli (c : LaneCfg) (freq off : Int) : Int :=
  off * ((2 * c.first + c.g - 1 : Nat) * (2343750000 * 2 ^ 32 : Int) - freq * 2400000000000) / (2 ^ 32 * 10 ^ 11)

/-- The NCO (R119, R120): the sample mixed with the phase in 18 bits, which then moves on by FREQ in 1 ÷ (g × 2²⁴) of a cycle, exactly, and by
the correction in mHz. A changed FREQ waits for the next output sample. -/
def Chain.nco (h : Chain) (c : LaneCfg) (off : Int) (x : Smp) : Chain × Smp :=
  let pm := c.g * 2 ^ 24
  let tm := c.g * 9375000000
  let f := h.freq.getD c.freq
  let v := mixed 4 (2 ^ 17) (x.re, x.im) (turn 17 ((h.phase * tm + h.trim * pm) * 2 ^ 18 / (pm * tm)) (2 ^ 18))
  ({ h with phase := ((h.phase + f) % (pm : Int)).toNat, trim := ((h.trim + trimMilli c f off) % (tm : Int)).toNat, freq := some f },
    ⟨v.1, v.2, x.marks⟩)

/-- The accumulator rounded half up by 15 − S bits (R121). -/
def firRound (shift : Nat) (acc : Int) : Int := (2 * acc + 2 ^ (15 - shift)) / 2 ^ (16 - shift)

/-- Saturation to ±32,767 (R121). -/
def firClamp (x : Int) : Int := max (-32767) (min 32767 x)

/-- The FIR's sum of taps times samples, tap 0 on the newest (R121). -/
def firSum (taps : List Int) (xs : List Int) : Int := (List.zipWith (· * ·) taps xs).sum

/-- How many of the parts of a sample a saturation changed. -/
def satCount (a b : Int × Int) : Nat := (if a.1 = b.1 then 0 else 1) + (if a.2 = b.2 then 0 else 1)

/-- The FIR on a composite sample: every D_F-th gives an output (R121). With it come the saturations. -/
def Chain.filter (h : Chain) (c : LaneCfg) (x : Smp) : Chain × Option Smp × Nat :=
  let xs := (x :: h.fir).take c.taps.length
  let out := h.comps % c.df = 0
  let h := { h with fir := xs, comps := h.comps + 1 }
  if out then
    let raw := (firRound c.shift (firSum c.taps (xs.map (·.re))), firRound c.shift (firSum c.taps (xs.map (·.im))))
    let y := (firClamp raw.1, firClamp raw.2)
    (h, some ⟨y.1, y.2, marksOf c.df xs⟩, satCount raw y)
  else (h, none, 0)

/-- Units of the resampler's instant: 1 ÷ (L × 10¹²) of a FIR output. -/
def rsUnit (l : Nat) : Nat := l * 10 ^ 12

/-- The step of the resampler's instant: M ÷ L, over 1 − ε while a correction is set (R120, R126). -/
def rsStep (c : LaneCfg) (off : Int) : Nat := ((c.m * 10 ^ 23 : Nat) / (100000000000 - off)).toNat

/-- A resampled sample at the fraction of its instant: 16 taps, the two nearest of 1,024 phases interpolated (R126). -/
def resampled (frac unit : Nat) (xs : List Smp) : (Int × Int) :=
  let p := frac * 1024 / unit
  let r := frac * 1024 % unit
  let coef (i : Nat) : Int := Config.polyphase p i * (unit - r : Nat) + Config.polyphase (p + 1) i * r
  let part (l : List Int) : Int := narrow 5 ((List.zipWith (· * ·) ((List.range 16).map coef) l).sum) (2 ^ 17 * unit)
  (part (xs.map (·.re)), part (xs.map (·.im)))

/-- The fractional delay: 8 taps at W in the delay line (R127). -/
def delayed (delay : Nat) (line : List Smp) : (Int × Int) :=
  let xs := (line.drop (delay / 64)).take 8
  let part (l : List Int) : Int :=
    narrow 6 ((List.zipWith (· * ·) ((List.range 8).map (Config.fraction (delay % 64))) l).sum) (2 ^ 17)
  (part (xs.map (·.re)), part (xs.map (·.im)))

/-- Both parts saturated in 16 bits. -/
def clampPair (x : Int × Int) : Int × Int := (clamp16 x.1, clamp16 x.2)

/-- What a block of composite samples stands on: the counter (ns) when the ADC block was complete, the first composite sample's number. -/
structure BlockAt where
  time : Nat
  comp : Nat
  deriving DecidableEq, Repr

/-- The stamp of an output sample in ps: its instant on the ADC grid, less D_total (R131). Composite sample periods last 320,000 ÷ 3g ps. -/
def stampOf (c : LaneCfg) (b : BlockAt) (h : Chain) : Int :=
  let unit := rsUnit c.l
  let at_ : Int := ((h.whole * unit + h.frac) * c.df : Nat) - (b.comp * unit : Nat)
  1000 * b.time + at_ * 320000 / (3 * c.g * unit : Nat) - c.dTotal

/-- One output sample, where the newest FIR output reaches its instant: resampler, delay line, marks and stamp (R126, R127, R131, R136,
R138); with it the NCO takes a changed FREQ (R119). With it come the saturations. -/
def Chain.emit (h : Chain) (c : LaneCfg) (off : Int) (b : BlockAt) : Chain × Option (BSmp × Nat) :=
  if Nat.blt h.whole h.firs then
    let unit := rsUnit c.l
    let raw := resampled h.frac unit h.rs
    let r := clampPair raw
    let line := (⟨r.1, r.2, joinMarks mkOrigins (marksOf 1 h.rs) h.pend⟩ :: h.line).take 4104
    let rawD := delayed c.delay line
    let y := clampPair rawD
    let used := (line.drop (c.delay / 64)).take 8
    let m := ((used.head?).map (·.marks)).getD 0
    let m := if used.any (fun x => bit x.marks mkSettling) || Nat.blt (h.index - h.born) c.settle then withMark m mkSettling else m
    let m := if h.erase then withMark m mkErased else m
    let m := if used.any (fun x => bit x.marks mkInjected) then withMark m mkInjected else m
    let out : BSmp := ⟨h.index, y.1, y.2, m, stampOf c b h, 0⟩
    let good := if h.erase then h.good else y
    let next := h.frac + rsStep c off
    ({ h with
        line := line, whole := h.whole + next / unit, frac := next % unit, index := h.index + 1, erase := false, freq := some c.freq, pend := 0, good := good },
      some (out, satCount raw r + satCount rawD y))
  else (h, none)

/-- What a chain gives for input: the chain, its output samples in order, and the saturations of FIR and of resampler and delay. -/
structure LaneOut where
  chain : Chain
  outs : List BSmp
  fir : Nat
  rs : Nat
  deriving DecidableEq, Repr

/-- Output samples that a FIR output brings: one, or two where the corrected ratio asks a second (R126). -/
def Chain.emits (h : Chain) (c : LaneCfg) (off : Int) (b : BlockAt) : LaneOut :=
  (List.range 2).foldl (fun (o : LaneOut) _ =>
    match o.chain.emit c off b with
    | (h, some (y, n)) => ⟨h, o.outs ++ [y], o.fir, o.rs + n⟩
    | (h, none) => { o with chain := h }) ⟨h, [], 0, 0⟩

/-- A composite sample through NCO, FIR, resampler and delay (Table 6.4). -/
def Chain.step (h : Chain) (c : LaneCfg) (off : Int) (b : BlockAt) (x : Smp) : LaneOut :=
  let (h, x) := h.nco c off x
  match h.filter c x with
  | (h, none, n) => ⟨h, [], n, 0⟩
  | (h, some y, n) =>
    let h := { h with rs := (y :: h.rs).take 16, firs := h.firs + 1, pend := joinMarks mkOrigins h.pend y.marks }
    let o := h.emits c off b
    { o with fir := n }

/-- A block of bin samples through the chain: the group's composite samples, one after the other (R118, R120). -/
def Chain.block (h : Chain) (c : LaneCfg) (off : Int) (n time : Nat) (bins : List Smp) : LaneOut :=
  let h := { h with stitch := (bins :: h.stitch).take 25, lastAt := time + 1, was := h.index }
  let b : BlockAt := ⟨time, h.comps⟩
  (List.range c.g).foldl (fun (o : LaneOut) t =>
    let p := o.chain.step c off b (stitched c.g n t o.chain.stitch)
    ⟨p.chain, o.outs ++ p.outs, o.fir + p.fir, o.rs + p.rs⟩) ⟨h, [], 0, 0⟩

/-! Detectors (R129, R130). -/

/-- A detector window that has seen no sample. -/
def Det.reset : Det := ⟨0, 0, 0, 0, 0, 0, 0⟩

/-- Whether the detectors ignore a sample (R130). -/
def detIgnores (marks : Nat) : Bool := bit marks mkSettling || bit marks mkGain || bit marks mkPilot || bit marks mkInvalid

/-- A sample into the window, with the envelope's k; the envelope in units of 2⁻¹⁶ (R129, R130). Log entry 119: DESIGN CHOICE. -/
def Det.step (d : Det) (k : Nat) (x : BSmp) : Det :=
  if detIgnores x.marks then { d with count := d.count + 1, ignored := d.ignored + 1 }
  else
    let p := (x.re * x.re + x.im * x.im).toNat
    let e := d.env + narrow 7 (root (p * 2 ^ 32) - d.env) (2 ^ k)
    let first := d.count == d.ignored
    { count := d.count + 1, ignored := d.ignored, peak := max d.peak p, sum := d.sum + p, env := e
      envMax := if first then e else max d.envMax e, envMin := if first then e else min d.envMin e }

/-- The window after one that is complete: the envelope goes on. -/
def Det.next (d : Det) : Det := { Det.reset with env := d.env }

end Sys2Proof.Machine
end

