-- ==== Sys2Proof/Machine/Levels.lean ====
section
/-! DEFINITION. Record windows and what lane samples and decoders add to them, and the level chain (R243 to R245, R255). -/

namespace Sys2Proof.Machine

/-- Nanoseconds of a timestamp since the time origin. -/
def tsNs (t : Nat) : Nat := t / 2 ^ 30 * 1000000000 + t % 2 ^ 30

/-- The timestamp of a stamp in ps of the counter (R83). -/
def tsOfPs (ps : Int) : Nat := (ps / 1000).toNat / 1000000000 * 2 ^ 30 + (ps / 1000).toNat % 1000000000

/-- The timestamp at nanoseconds since the time origin. -/
def tsOfNs (ns : Nat) : Nat := ns / 1000000000 * 2 ^ 30 + ns % 1000000000

/-- The open window of a berth. -/
def State.window (s : State) (n : Nat) : Option Win := Tbl.get (fun _ => none) s.windows n

/-- Writes it. -/
def State.putWindow (s : State) (n : Nat) (w : Option Win) : State := { s with windows := Tbl.set (fun _ => none) s.windows n w }

/-- The ended windows of a berth whose records are not emitted yet. -/
def State.closed (s : State) (n : Nat) : List Win := Tbl.get (fun _ => []) s.ended n

/-- Writes them. -/
def State.putClosed (s : State) (n : Nat) (l : List Win) : State := { s with ended := Tbl.set (fun _ => []) s.ended n l }

/-- Bits of Table 11.5. -/
def pbDegraded : Nat := 15
/-- See `pbDegraded`. -/
def pbPpsHold : Nat := 14
/-- See `pbDegraded`. -/
def pbPpsSlew : Nat := 13
/-- See `pbDegraded`. -/
def pbPpsStep : Nat := 12
/-- See `pbDegraded`. -/
def pbCoarse : Nat := 11
/-- See `pbDegraded`. -/
def pbVref : Nat := 10
/-- See `pbDegraded`. -/
def pbOtp : Nat := 9
/-- See `pbDegraded`. -/
def pbStale : Nat := 8
/-- See `pbDegraded`. -/
def pbDrift : Nat := 7
/-- See `pbDegraded`. -/
def pbGd : Nat := 6
/-- See `pbDegraded`. -/
def pbPartial : Nat := 5
/-- See `pbDegraded`. -/
def pbBranch : Nat := 4
/-- See `pbDegraded`. -/
def pbClip : Nat := 3
/-- See `pbDegraded`. -/
def pbOffset : Nat := 2

/-- The key of the intake record window. -/
def winIntake : Nat := 0xFE
/-- The key of the inventory window: the scan. -/
def winScan : Nat := 0xFD

/-- Adds precision bits to the open window of a berth, and the time in DRIFT where it stands in DRIFT (R252, R253). -/
def State.markWindow (s : State) (n extra : Nat) : State :=
  match s.window n with
  | some w => s.putWindow n (some { w with bits := w.bits ||| extra, drift := if s.mode == .drift then s.clock - s.driftAt else w.drift })
  | none => s

/-- The frequency that a lane's NCO brings to 0 Hz, in 2^-32 Hz (R118, R119, R247). -/
def State.tuned (s : State) (n : Nat) : Int :=
  ((2 * s.get (F.LN_CTRL_FIRST_BIN n) + s.get (F.LN_CTRL_GROUP_SIZE n) - 1 : Nat) : Int) * 2343750 * 4294967296 -
    sext 32 (s.get (F.LN_NCO_FREQ n)) * 2400000000

/-- Net gain of a gain state in dB: LNA gain less attenuation. -/
def netOf (state : Nat) : Int := (12 * (state / 16) : Nat) - (2 * (state % 16) : Nat)

/-- A window that begins. -/
def Win.new (start bits : Nat) : Win := ⟨start, bits, [], [], (0, 0), (0, 0), [], [], 0, 0, none, 0, 0, 0, 0, 0, 0, 0, 0, 0, []⟩

/-! What a window collects (R245, R255). -/

/-- The position of a sample or frame with a stamp (in ps) among the ended windows of a berth: the first that holds it. -/
def holdsStamp (ps : Int) (w : Win) : Bool := decide (1000 * (tsNs w.start : Int) ≤ ps) && decide (ps < 1000 * (tsNs w.stop : Int))

/-- Changes the window of a berth that holds a stamp in ps: the open one, or one that has ended and whose record has not left. -/
def State.inWindow (s : State) (n : Nat) (ps : Int) (g : Win → Win) : State :=
  match s.window n with
  | some w =>
    if 1000 * (tsNs w.start : Int) ≤ ps then s.putWindow n (some (g w))
    else s.putClosed n ((s.closed n).map (fun w => if holdsStamp ps w then g w else w))
  | none => s.putClosed n ((s.closed n).map (fun w => if holdsStamp ps w then g w else w))

/-- Adds precision bits to a window. -/
def Win.mark (w : Win) (extra : Nat) : Win := { w with bits := w.bits ||| extra }

/-- The key of a quantity of a window. -/
def qtyKey (q i : Nat) : Nat := 256 * q + i

/-- The value of a quantity in a window. -/
def Win.val (w : Win) (q i : Nat) : Option Int := (w.vals.find? (·.1 == qtyKey q i)).map (·.2)

/-- Gives a quantity of a window a result: the last one counts (R255). -/
def Win.give (w : Win) (q i : Nat) (v : Int) : Win := { w with vals := w.vals.filter (·.1 != qtyKey q i) ++ [(qtyKey q i, v)] }

/-- Adds to a count of a window. -/
def Win.add (w : Win) (q i k : Nat) : Win := w.give q i ((w.val q i).getD 0 + k)

/-- Adds to the residual of the carrier: a sum in mHz, and how many it stands for (R247). -/
def Win.residual (w : Win) (sum : Int) (n : Nat) : Win := { w with res := (w.res.1 + sum, w.res.2 + n) }

/-- Adds the frequency that the NCO brought to 0 Hz at a sample, in 2⁻³² Hz, to 1 mHz (R247). -/
def Win.tune (w : Win) (f : Int) : Win := { w with tuned := (w.tuned.1 + roundDiv (1000 * f) (2 ^ 32), w.tuned.2 + 1) }

/-- Adds samples with the sum and the largest of their |x|² to the level sums of a window: `off` refers a power to the plane, `adc` to the ADC. -/
def Win.levelSum (w : Win) (b : Nat) (off adc : Int) (count sum : Nat) (peak : Nat := 0) : Win :=
  let same (l : Level) : Bool := l.branch == b && l.offset == off && l.atAdc == adc
  let l := (w.levels.find? same).getD ⟨b, off, adc, 0, 0, 0⟩
  { w with levels := w.levels.filter (fun x => !same x) ++
      [{ l with count := l.count + count, sum := l.sum + sum, peak := max l.peak peak }] }

/-- Adds a sample's |x|² to the level sums of a window. -/
def Win.level (w : Win) (b : Nat) (off adc : Int) (p : Nat) : Win := w.levelSum b off adc 1 p p

/-- The mean power of a branch over a window in 0.001 dBm, each part at its own offset from dB over `full` (R243, R245). Log entry 84: DEDUCED. -/
def Win.power (w : Win) (b full : Nat) : Int :=
  meanPower ((w.levels.filter (·.branch == b)).map (fun l => (l.count, millibel l.sum (l.count * full) + l.offset)))

/-- The mean power of a branch over a window at the ADC, in 0.001 dB of full scale (R251). -/
def Win.adcPower (w : Win) (b : Nat) : Int :=
  meanPower ((w.levels.filter (·.branch == b)).map (fun l => (l.count, millibel l.sum (l.count * 32768 ^ 2) + l.atAdc)))

/-- The largest power of a branch over a window (R245). -/
def Win.peakPower (w : Win) (b full : Nat) : Option Int :=
  ((w.levels.filter (·.branch == b)).map (fun l => millibel l.peak full + l.offset)).max?

/-- The samples of a branch that a window counted (R245). -/
def Win.counted (w : Win) (b : Nat) : Nat := ((w.levels.filter (·.branch == b)).map (·.count)).sum

/-! The level chain (R243, R244). -/

/-- The external losses of an intake at the centres of the bin groups, none while PLANE is 0 (R244). -/
def State.losses (s : State) (k : Nat) : List Nat :=
  if s.on F.MSR_CFG_PLANE then (List.range 16).map (fun j => s.get (F.INT_EXT_LOSS_LOSS k j)) else []

/-- L_ext of an intake at a frequency (in 2⁻³² Hz) in 0.001 dB, as its registers stand (R244). -/
def State.extLoss (s : State) (k : Nat) (f : Int) : Int := lossAt (s.losses k) f

/-- The chain gain of berth `n`'s lane (R243). -/
def State.chainGain (s : State) (n : Nat) : Int := Tbl.get (fun _ => 0) s.gChain n

/-- What refers the power of a lane sample in dB over full scale to the ADC, in 0.001 dB of its full scale: 6.02 dB − G_chain (R243). -/
def State.adcOffset (s : State) (n : Nat) : Int := 6020 - s.chainGain n

/-- What refers it to the ANT pins: that and P_FS,nom, in the gain state under which the sample's block was taken (R243). -/
def State.pinOffset (s : State) (n state : Nat) : Int := s.adcOffset n + (-10000 - 1000 * netOf state)

/-- What the formula of R243 adds to the power of a lane sample with marks, in 0.001 dB: that of the ANT pins, and L_ext when its block was
taken (R260). -/
def State.levelOffset (s : State) (n marks : Nat) : Int := s.pinOffset n (gainOf marks) + (lossOf marks : Nat)

/-- G_chain from the taps of a bank and the shift, in 0.001 dB (R243). -/
def chainGainOf (taps : List Int) (shift : Nat) : Int := millibel ((taps.sum * 2 ^ shift) ^ 2).toNat (32768 ^ 2)

/-- The mean power of samples at a level offset, in 0.001 dBm (R243). -/
def powerOf (sum count : Nat) (off : Int) : Int := millibel sum (count * 32768 ^ 2) + off

/-- MER of cells from the sums of |ẑ|² and |z − ẑ|², in 0.001 dB, capped at 60 dB (R246). -/
def merOf (c : Nat × Nat) : Int := if c.2 = 0 then 60000 else min 60000 (millibel c.1 c.2)

/-- Adds to a count of the window that holds a timestamp (R255). -/
def State.tally (s : State) (n q i k ts : Nat) : State := s.inWindow n (1000 * (tsNs ts : Int)) (·.add q i k)

end Sys2Proof.Machine
end

