-- ==== Sys2Proof/Machine/Berths.lean ====
section
/-! DEFINITION. Berths, crane loads and admission, tickets, beats, marks, replay and the hold entrance
(07_berths_cranes.md, R262 to R265). -/

namespace Sys2Proof.Machine

/-! Berths. -/

/-- No loads. -/
def Load.zero : Load := ⟨0, 0, 0, 0, 0⟩

/-- A mark of a berth that has not started. -/
def Mark.reset : Mark := ⟨0, 0, 0, ⟨none, none, none, none, none, none, [], []⟩, 0⟩

/-- What an unlisted berth holds. -/
def Berth.reset : Berth := ⟨none, Mark.reset, Mark.reset, false, false, false, 0, false, false, false, false, false⟩

/-- A berth. -/
def State.berth (s : State) (n : Nat) : Berth := Tbl.get (fun _ => Berth.reset) s.berths n

/-- Writes a berth. -/
def State.putBerth (s : State) (n : Nat) (b : Berth) : State :=
  { s with berths := Tbl.set (fun _ => Berth.reset) s.berths n b }

/-- The input of a branch of a berth, from its last mark on, oldest first. -/
def State.input (s : State) (n b : Nat) : List BSmp := Tbl.get (fun _ => []) s.inputs (2 * n + b)

/-- Writes it. -/
def State.putInput (s : State) (n b : Nat) (l : List BSmp) : State := s.setInputs (Tbl.set (fun _ => []) s.inputs (2 * n + b) l)

/-- States of `BTH_STATUS.STATE` (Table 7.1). -/
def bsStopped : Nat := 0
/-- See `bsStopped`. -/
def bsWaitLane : Nat := 1
/-- See `bsStopped`. -/
def bsRunning : Nat := 2
/-- See `bsStopped`. -/
def bsStopping : Nat := 3
/-- See `bsStopped`. -/
def bsShed : Nat := 4

/-- The state of a berth. -/
def State.bstate (s : State) (n : Nat) : Nat := s.get (F.BTH_STATUS_STATE n)

/-- The standard of a berth. -/
def State.std (s : State) (n : Nat) : Nat := s.get (F.BTH_CTRL_STANDARD n)

/-- The fields of the service words that show what a standard's decoder has found: they belong to its context, and exchange at a swap. An alarm
state is the service's (R160, R189, R219). -/
def decoderFields (std : Nat) : List (Nat → Fld) :=
  if std = 1 then [F.AM_SVC7_CARRIER_LOCK]
  else if std = 2 then [F.FM_SVC7_RDS_SYNC, F.FM_SVC7_STEREO, F.FM_SVC7_PI_MATCH]
  else if std = 3 then [F.DRM_SVC5_SYNC, F.DRM_SVC5_RMODE_FOUND, F.DRM_SVC5_SO_FOUND, F.DRM_SVC5_SID_MATCH, F.DRM_SVC5_RECONFIG_PENDING]
  else if std = 4 then [F.DAB_SVC5_SYNC, F.DAB_SVC5_TMODE_FOUND, F.DAB_SVC5_EID_MATCH, F.DAB_SVC5_AL_FLAG, F.DAB_SVC5_RECONFIG_PENDING]
  else if std = 5 then [F.DVBT_SVC7_SYNC, F.DVBT_SVC7_STREAM_ACTIVE]
  else if std = 6 then [F.T2_SVC7_SYNC, F.T2_SVC7_PLP_ACTIVE]
  else if std = 7 then [F.PRX_SVC1_STATE, F.PRX_SVC1_LISTEN_OPEN]
  else []

/-- The consignments of a producer that wait for credit. -/
def State.waiting (s : State) (p : Nat) : List Wait := Tbl.get (fun _ => []) s.outbox p

/-- Writes the consignments of a producer that wait. -/
def State.putWaiting (s : State) (p : Nat) (l : List Wait) : State := { s with outbox := Tbl.set (fun _ => []) s.outbox p l }

/-- The context of a berth (R160). -/
def State.ctx (s : State) (n : Nat) : Ctx :=
  ⟨Tbl.entry s.rds n, Tbl.entry s.dab n, Tbl.entry s.drm n, Tbl.entry s.dvb n, Tbl.entry s.aud n, Tbl.entry s.rx n,
    (decoderFields (s.std n)).map (fun f => s.get (f n)), s.waiting n⟩

/-- Loads a context of a berth (R161). -/
def State.loadCtx (s : State) (n : Nat) (c : Ctx) : State :=
  let s := ((((s.setRds (Tbl.give s.rds n c.rds)).setDab (Tbl.give s.dab n c.dab)).setDrm (Tbl.give s.drm n c.drm)).setDvb
    (Tbl.give s.dvb n c.dvb)).setAud (Tbl.give s.aud n c.aud)
  ((s.setRx (Tbl.give s.rx n c.rx)).each ((decoderFields (s.std n)).zip c.sync) (fun e t => t.put (e.1 n) e.2)).putWaiting n c.out

/-- What an unlisted DVB berth holds. -/
def Dvb.reset : Dvb := ⟨0, 0, 0, 0, [], ⟨0, 0, 0, 0, 0, 0⟩, [], none, 0, [], [], [], 0, [], 0, 0, 0, ⟨0, none, none⟩, [], []⟩

/-- The decoder of a DVB berth. -/
def State.dvbOf (s : State) (n : Nat) : Dvb := Tbl.get (fun _ => Dvb.reset) s.dvb n

/-- Writes it. -/
def State.putDvb (s : State) (n : Nat) (v : Dvb) : State := { s with dvb := Tbl.set (fun _ => Dvb.reset) s.dvb n v }

/-- Whether a time in ns lies in a FEF part that a DVB-T2 berth skips (R226). -/
def State.inFef (s : State) (n ns : Nat) : Bool :=
  match (s.dvbOf n).fef with
  | some (a, b) => s.std n == 6 && Nat.ble a ns && Nat.blt ns b
  | none => false

/-- Whether a berth works on input: RUNNING, or STOPPING and not yet at its frame boundary. -/
def State.working (s : State) (n : Nat) : Bool := s.bstate n == bsRunning || s.bstate n == bsStopping

/-- Whether a berth still works on the input it has: it works, or its lane has stopped under its ticket in flight, which completes (R147). -/
def State.serves (s : State) (n : Nat) : Bool := s.working n || (s.bstate n == bsWaitLane && s.on (F.BTH_TICKET_IN_FLIGHT n))

/-! Loads (R155, Table 7.7). -/

/-- FFT crane time per symbol in 0.1 µs (Table 7.3), by the FFT_MAX code. -/
def tFft (k : Nat) : Nat := [20, 35, 65, 120, 250, 520, 1050, 2100].getD k 2100

/-- The lane output rate in Hz as a fraction: f_out = g × 9.375 MHz ÷ D_F × L ÷ M (R126). -/
def State.laneRate (s : State) (n : Nat) : Nat × Nat :=
  (s.get (F.LN_CTRL_GROUP_SIZE n) * 9375000 * s.get (F.LN_RS_L_L n), s.get (F.LN_FIR_DECIM n) * s.get (F.LN_RS_M_M n))

/-- Whether a lane's output rate is exactly `num / den` Hz. -/
def State.rateIs (s : State) (n num den : Nat) : Bool :=
  (s.laneRate n).1 * den == num * (s.laneRate n).2 && (s.laneRate n).1 != 0

/-- FFT load of a DVB berth: transform FFT_MAX, shortest guard interval 1/`g`. -/
def State.dvbFft (s : State) (n g d : Nat) : Nat :=
  let k := s.get (F.BTH_DECL_FFT_MAX n)
  let r := s.laneRate n
  ceilDiv (100 * tFft k * d * r.1 * g) (256 * 2 ^ k * 1000000 * r.2 * (g + 1))

/-- FFT load of a DAB berth by its mode (Table 9.2, R195). -/
def dabFft (mode d : Nat) : Nat :=
  let row := if mode = 1 then (10, 20) else if mode = 2 then (12, 23) else if mode = 4 then (11, 21) else (13, 26)
  if d = 2 then row.2 else row.1

/-- The loads that a berth's configuration asks (Table 7.7). -/
def State.loadsOf (s : State) (n : Nat) : Load :=
  let d := if s.on (F.LN_CTRL_DIVERSITY n) then 2 else 1
  let std := s.std n
  let r := s.get (F.BTH_DECL_RATE_MAX n)
  if std = 1 then { Load.zero with narrow := (if s.on (F.AM_SVC0_DETECT n) then 24 else 18) + 8 * (d - 1) }
  else if std = 2 then { Load.zero with narrow := [40, 55, 71, 71].getD (s.get (F.FM_SVC0_MODE n)) 71 + 21 * (d - 1) }
  else if std = 3 then ⟨if s.get (F.DRM_SVC0_RMODE n) = 5 then 1 + d else 1, 2, 0, 1, 5⟩
  else if std = 4 then ⟨dabFft (s.get (F.DAB_SVC0_TMODE n)) d, 24, 0, 3, 0⟩
  else if std = 5 then ⟨s.dvbFft n 32 d, ceilDiv (r * 204) 188, 0, ceilDiv (r * 204) 1880, 0⟩
  else if std = 6 then ⟨s.dvbFft n 128 d, 0, r, ceilDiv r 10, 0⟩
  else if std = 7 then { Load.zero with narrow := 60 }
  else Load.zero

/-- One class's part of a load. -/
def Load.ofClass (l : Load) : Nat → Nat
  | 0 => l.fft | 1 => l.trellis | 2 => l.ldpc | 3 => l.block | _ => l.narrow

/-- Twice a load: the home's and its partner's (R183). -/
def Load.twice (l : Load) : Load := ⟨2 * l.fft, 2 * l.trellis, 2 * l.ldpc, 2 * l.block, 2 * l.narrow⟩

/-- Occupancy Ω in units of 1/6000 (R155). -/
def Load.omega6 (l : Load) : Nat := 6 * l.fft + 5 * l.trellis + 10 * l.ldpc + 15 * l.block + 6 * l.narrow

/-- Whether a berth follows another frequency: AF_MODE FOLLOW of an FM, DAB or DRM berth. -/
def State.following (s : State) (n : Nat) : Bool :=
  (s.std n == 2 && s.get (F.FM_SVC2_AF_MODE n) == 2) ||
  ((s.std n == 3 || s.std n == 4) && s.get (F.DAB_SVC0_AF_MODE n) == 2)

/-- The admitted loads of a class. -/
def State.admitted (s : State) (c : Nat) : Nat := (s.berths.map (fun e => ((e.2.held.getD Load.zero).ofClass c))).sum

/-- How many berths of the named standards hold an area of STORE, a DAB or DRM berth in FOLLOW counting for its partner too (R156, R194,
R223). -/
def State.countStd (s : State) (p : Nat → Bool) : Nat :=
  (s.berths.map (fun e => if e.2.area && p (s.std e.1) then
    (if s.following e.1 && (s.std e.1 == 3 || s.std e.1 == 4) then 2 else 1) else 0)).sum

/-- The bank that berth `n`'s configuration selects on lane `l`: lane × 2 + bank. -/
def State.bankOn (s : State) (n l : Nat) : Nat := 2 * l + s.get (F.LN_CTRL_BANK n)

/-- The bank that berth `n`'s lane uses. -/
def State.bankOf (s : State) (n : Nat) : Nat := s.bankOn n (s.get (F.LN_PHYS_LANE n))

/-- Tap count of a bank. -/
def State.taps (s : State) (b : Nat) : Nat := s.get { F.LN_BANK_LEN_TAPS with addr := bankAddr b 0x3001 }

/-- Tap `i` of a bank, signed. -/
def State.tap (s : State) (b i : Nat) : Int := sext 16 (s.get ⟨bankAddr b (0x3100 + i), 0, 16⟩)

/-- The power that a FIR of these taps passes at `i` ÷ 1,024 of its input rate, in units of 2⁻³² (R121). -/
def firPower (taps : List Int) (i : Nat) : Nat :=
  let z := turn 40 i 1024
  let h := taps.foldr (fun c a => (c * 65536 + (a.1 * z.1 - a.2 * z.2) / 2 ^ 40, (a.1 * z.2 + a.2 * z.1) / 2 ^ 40)) (0, 0)
  (h.1 * h.1 + h.2 * h.2).toNat

/-- The DVB channels (Table 10.1): output rate in Hz as a fraction, and the edges of the flat band and of the stop band in 10 kHz. -/
def dvbChannels : List ((Nat × Nat) × Nat × Nat) :=
  [((64000000, 7), 389, 457), ((8000000, 1), 340, 400), ((48000000, 7), 292, 343), ((40000000, 7), 243, 286), ((131000000, 71), 79, 92)]

/-- The DVB channel of a lane by its output rate, counted from 0 (R222). -/
def State.dvbChannel (s : State) (n : Nat) : Option Nat := dvbChannels.findIdx? (fun r => s.rateIs n r.1.1 r.1.2)

/-- Whether a berth's FIR meets the response of a channel (R222): within ±0.1 dB of its gain at 0 Hz in the flat band, and 50 dB below it in the
stop band, at 513 frequencies. Log entry 139: DESIGN CHOICE. -/
def State.firOk (s : State) (n pass stop : Nat) : Bool :=
  let b := s.bankOf n
  let taps := (List.range (s.taps b)).map (s.tap b)
  let dc := firPower taps 0
  let g := s.get (F.LN_CTRL_GROUP_SIZE n)
  dc != 0 && (List.range 513).all (fun i =>
    let p := firPower taps i
    let f := i * g * 9375
    (Nat.blt (pass * 10240) f || (Nat.ble (977237 * dc) (1000000 * p) && Nat.ble (1000000 * p) (1023293 * dc))) &&
    (Nat.blt f (stop * 10240) || Nat.ble (100000 * p) dc))

/-- The lane-rate, filter and setting conditions of a standard's admission (R167, R193, R222, R369). -/
def State.rateOk (s : State) (n : Nat) : Bool :=
  let std := s.std n
  if std = 1 then s.rateIs n 48000 1
  else if std = 2 then s.rateIs n 256000 1 && (s.get (F.FM_SVC2_AF_MODE n) == 0 || s.get (F.FM_SVC0_MODE n) == 2)
  else if std = 3 then s.rateIs n (if s.get (F.DRM_SVC0_RMODE n) = 5 then 192000 else 48000) 1
  else if std = 4 then s.rateIs n 2048000 1 && (s.get (F.DAB_SVC0_AF_MODE n) == 0 ||
    (s.get (F.LN_CTRL_GROUP_SIZE n) == 2 && s.get (F.LN_FIR_DECIM n) == 8))
  else if std = 5 || std = 6 then
    (match s.dvbChannel n with
     | some k => (k != 4 || std == 6) && s.firOk n ((dvbChannels.map (·.2.1)).getD k 0) ((dvbChannels.map (·.2.2)).getD k 0)
     | none => false)
  else if std = 7 then
    -- f_tune = f_c − FREQ × Δ within ±1 kHz of 863.1 MHz + 0.2 MHz × k, in units of 1/2^32 Hz (R118, R119, R247)
    let fc : Int := (2 * s.get (F.LN_CTRL_FIRST_BIN n) + s.get (F.LN_CTRL_GROUP_SIZE n) - 1 : Nat) * (2343750 : Int)
    let err : Int := (fc - (863100000 + 200000 * (s.get (F.PRX_SVC0_CHANNEL n) : Nat) : Nat)) * (4294967296 : Int) -
      sext 32 (s.get (F.LN_NCO_FREQ n)) * (2400000000 : Int)
    s.rateIs n 400000 1 && decide (-(1000 * 4294967296 : Int) ≤ err) && decide (err ≤ (1000 * 4294967296 : Int))
  else true

/-- Admission (R155): whether a berth's loads fit, its occupancy is at most 0.900, the counts of Table 7.8 hold and its rate suits
its standard. -/
def State.admissible (s : State) (n : Nat) : Bool :=
  let s := s.putBerth n { s.berth n with held := none, area := false }
  let own := s.loadsOf n
  let all := if s.following n then own.twice else own
  let std := s.std n
  let k := if s.following n then 2 else 1
  std != 0 &&
  (List.range 5).all (fun c => Nat.ble (s.admitted c + all.ofClass c) (s.get (F.ENG_CAP_CAP c))) &&
  Nat.ble own.omega6 5400 &&
  ((std != 5 && std != 6) || Nat.ble (s.countStd (fun x => x == 5 || x == 6) + 1) 6) &&
  (std != 4 || Nat.ble (s.countStd (· == 4) + k) 16) && (std != 3 || Nat.ble (s.countStd (· == 3) + k) 24) &&
  (std != 7 || Nat.ble (s.countStd (· == 7) + 1) 4) && s.rateOk n

/-- Shows the sums of `ENG_LOAD`. -/
def State.showLoads (s : State) : State := s.each (List.range 5) (fun c t => t.put (F.ENG_LOAD_SUM c) (t.admitted c))

/-- Shows a berth's own loads and occupancy. -/
def State.showOwn (s : State) (n : Nat) (l : Load) : State :=
  let s := (s.put (F.BTH_LOAD_A_FFT n) l.fft).put (F.BTH_LOAD_A_NARROW n) l.narrow
  let s := (s.put (F.BTH_LOAD_B_BLOCK n) l.block).put (F.BTH_LOAD_B_TRELLIS n) l.trellis
  (s.put (F.BTH_LOAD_C_LDPC n) l.ldpc).put (F.BTH_OCCUPANCY_OMEGA n) (ceilDiv l.omega6 6)

/-- Shows the loads that a berth's configuration asks now (R155). -/
def State.showLoad (s : State) (n : Nat) : State := s.showOwn n (s.loadsOf n)

/-- Reserves the loads of an admitted berth, its partner's with them in FOLLOW, and starts it: RUNNING where its lane runs, else
WAIT_LANE (R147, R155, R183). -/
def State.admitLoads (s : State) (n : Nat) : State :=
  let all := if s.following n then (s.loadsOf n).twice else s.loadsOf n
  let s := s.putBerth n { s.berth n with held := some all, shedding := false, survey := false, told := false, area := true }
  let s := (s.showLoads.showLoad n).down (F.BTH_CTRL_STOPPED n)
  s.put (F.BTH_STATUS_STATE n) (if s.on (F.LN_CTRL_STOPPED n) then bsWaitLane else bsRunning)

/-- The events of a refused admission (R155). -/
def State.admitRefused (s : State) (n : Nat) : State :=
  (s.up (F.BTH_EVENTS_ADMIT_REFUSED_EV n)).up F.ENG_STATUS_ADMIT_REFUSED_EV

/-- A berth's area of STORE is free: it has stopped (R223). -/
def State.freeArea (s : State) (n : Nat) : State := s.putBerth n { s.berth n with area := false, told := false }

/-- A berth's loads leave `ENG_LOAD`. -/
def State.freeLoads (s : State) (n : Nat) : State := (s.putBerth n { s.berth n with held := none }).showLoads

/-- Whether a berth's standard and settings carry an urgent kind (R158, R376). -/
def State.carries (s : State) (n kind : Nat) : Bool :=
  let std := s.std n
  if kind = 1 then std == 4
  else if kind = 2 then std == 2
  else if kind = 3 then std == 6
  else kind == 4 && ((std == 4 && s.on (F.DAB_SVC0_DG_ENABLE n)) || ((std == 5 || std == 6) && s.on (F.T2_SVC5_DG_ENABLE n)))

/-- Whether a berth works urgently for a kind that it carries: an applicable entry sets action bit 1 (R158, R382). -/
def State.preempts (s : State) (n kind : Nat) : Bool := s.carries n kind && bit (s.urgAction kind n) 1

/-- Whether a berth has an applicable urgent-class entry with action bit 1, of a kind its standard carries (R158). -/
def State.eligible (s : State) (n : Nat) : Bool := [1, 2, 3, 4].any (s.preempts n)

/-- The crane classes of the tickets that R382 counts as urgent for a kind of a standard. -/
def urgentClasses (std kind : Nat) : List Nat :=
  if kind = 2 then [4] else if kind = 3 then [0, 2] else if kind = 4 && std = 6 then [0, 2, 3] else [0, 1, 3]

/-- Whether a berth's ticket counts as urgent, from the kinds whose tickets it is (R158, R382). -/
def State.ticketUrgent (s : State) (n cls : Nat) (kinds : List Nat) : Bool :=
  kinds.any (fun k => s.preempts n k && (urgentClasses (s.std n) k).contains cls)

/-! Tickets, beats and marks (R150, R151, R160). -/

/-- The ready queue of a class. -/
def State.queue (s : State) (cls : Nat) : List Nat := Tbl.get (fun _ => []) s.ready cls

/-- Writes the ready queue of a class. -/
def State.putQueue (s : State) (cls : Nat) (q : List Nat) : State := { s with ready := Tbl.set (fun _ => []) s.ready cls q }

/-- Roles of a crane (Table 7.14). -/
def roleWorking : Nat := 0
/-- See `roleWorking`. -/
def roleSpare : Nat := 1
/-- See `roleWorking`. -/
def roleTest : Nat := 2
/-- See `roleWorking`. -/
def roleRetired : Nat := 3

/-- The cranes of a class. -/
def cranesOf (cls : Nat) : List Nat := (List.range (classSize cls)).map (· + classFirst cls)

/-- The cranes of a class that have a role. -/
def State.withRole (s : State) (cls role : Nat) : List Nat :=
  (cranesOf cls).filter (fun c => s.get (F.CRN_STATUS_ROLE c) == role)

/-- The class's spare. -/
def State.spareCrane (s : State) (cls : Nat) : Option Nat := (s.withRole cls roleSpare).head?

/-- The working count of a class (Table 7.2). -/
def workingCount (cls : Nat) : Nat := classSize cls - 1

/-- An idle working crane of a class. -/
def State.idleCrane (s : State) (cls : Nat) : Option Nat :=
  (s.withRole cls roleWorking).find? (fun c => !s.on (F.CRN_STATUS_BUSY c))

/-- A crane shows that it serves nothing. -/
def State.craneIdle (s : State) (c : Nat) : State :=
  ((s.down (F.CRN_STATUS_BUSY c)).down (F.CRN_STATUS_URGENT c)).put (F.CRN_STATUS_BERTH c) 0x7F

/-- A crane takes a berth's ticket: the wait is recorded (R152) and both show it. -/
def State.craneTake (s : State) (c n : Nat) : State :=
  let b := s.berth n
  let wait := min 65535 ((s.clock - b.readyAt) / 100)
  let s := s.when (Nat.blt (s.get (F.BTH_WAIT_MAX_WAIT n)) wait) (·.put (F.BTH_WAIT_MAX_WAIT n) wait)
  let s := (s.put (F.CRN_STATUS_BUSY c) 1).put (F.CRN_STATUS_BERTH c) n
  let s := (s.put (F.CRN_STATUS_URGENT c) (s.get (F.BTH_TICKET_URGENT n))).put (F.BTH_TICKET_CRANE n) c
  if b.replay then
    -- a ticket that replays counts on the crane that takes it (R161)
    ((((s.putBerth n { b with replay := false }).bump (F.CRN_FAULTS_REPLAYS c)).bump (F.BTH_REPLAY_REPLAYS n)).up
      (F.BTH_EVENTS_REPLAY_EV n)).up F.ENG_STATUS_REPLAY_EV
  else s

/-- A crane without work chooses: the oldest ready urgent ticket, else the head of the queue (R151, R159). -/
def State.craneChoose (s : State) (c : Nat) : State :=
  let q := s.queue (classOf c)
  match (q.find? (fun n => s.on (F.BTH_TICKET_URGENT n))).or q.head? with
  | none => s.craneIdle c
  | some n => (s.putQueue (classOf c) (q.filter (· != n))).craneTake c n

/-- When the oldest input of a berth arrived; without input, when its ticket became ready (R150). -/
def State.inputAt (s : State) (n : Nat) : Nat :=
  match (s.input n 0).head?.or (s.input n 1).head? with
  | some y => y.time
  | none => (s.berth n).readyAt

/-- A ticket becomes ready before the last `younger` ones of its queue; an idle crane takes it at once. -/
def State.enterQueue (s : State) (n younger : Nat) : State :=
  let cls := s.get (F.BTH_TICKET_CLASS n)
  let s := s.putBerth n { s.berth n with readyAt := s.clock, parked := false }
  let q := s.queue cls
  let i := q.length - younger
  let s := (s.put (F.BTH_TICKET_CRANE n) 0x3F).putQueue cls (q.take i ++ n :: q.drop i)
  match s.idleCrane cls with
  | some c => s.craneChoose c
  | none => s

/-- A ticket that becomes ready stands behind every ticket of its class whose input is not younger, before the younger ones at the tail
(R150, R151). Log entry 122: DEDUCED. -/
def State.enqueue (s : State) (n : Nat) : State :=
  s.enterQueue n (((s.queue (s.get (F.BTH_TICKET_CLASS n))).reverse.takeWhile (fun m => Nat.blt (s.inputAt n) (s.inputAt m))).length)

/-- A berth's ticket becomes urgent while it waits, or from its next beat end while a crane serves it (R382). -/
def State.promote (s : State) (n : Nat) : State :=
  if s.on (F.BTH_TICKET_URGENT n) then s
  else if s.get (F.BTH_TICKET_CRANE n) = 0x3F then s.up (F.BTH_TICKET_URGENT n)
  else s.putBerth n { s.berth n with promoted := true }

/-- The order in which a DVB berth's work first reaches the crane classes (R227). -/
def craneOrder (std : Nat) : List Nat := if std = 5 then [0, 1, 3] else if std = 6 then [0, 2, 3] else []

/-- Whether a DVB berth's work has come as far as a crane class: FFT tickets come first, but none in a FEF part; the next class follows a ticket of
the one before (R226, R227). Log entry 140: DEDUCED. -/
def State.reached (s : State) (n cls : Nat) : Bool :=
  match (craneOrder (s.std n)).findIdx? (· == cls) with
  | some i => Nat.ble i (s.dvbOf n).stage && !(cls == 0 && s.inFef n s.nowNs && (s.input n 0).isEmpty && (s.input n 1).isEmpty)
  | none => (craneOrder (s.std n)).isEmpty

/-- A ticket of a class has completed: the next class of a DVB berth is reached (R227). -/
def State.pass (s : State) (n cls : Nat) : State :=
  match (craneOrder (s.std n)).findIdx? (· == cls) with
  | some i => s.putDvb n { s.dvbOf n with stage := max (s.dvbOf n).stage (i + 1) }
  | none => s

/-- A berth's next ticket becomes ready; urgent work that becomes ready while a ticket is in flight promotes that ticket (R150,
R158, R382). -/
def State.ticketReady (s : State) (n cls : Nat) (kinds : List Nat) : State :=
  let urgent := s.ticketUrgent n cls kinds
  if !(s.working n && s.domOn 6 && Nat.blt cls 5 && s.reached n cls) then s
  else if s.on (F.BTH_TICKET_IN_FLIGHT n) then s.when urgent (·.promote n)
  else
    let s := (s.up (F.BTH_TICKET_IN_FLIGHT n)).put (F.BTH_TICKET_URGENT n) (b2n urgent)
    (s.put (F.BTH_TICKET_CLASS n) cls).enqueue n

/-- A berth's ticket ends. -/
def State.ticketDone (s : State) (n : Nat) : State :=
  let s := ((s.down (F.BTH_TICKET_IN_FLIGHT n)).down (F.BTH_TICKET_URGENT n)).down (F.BTH_TICKET_CLASS n)
  (s.put (F.BTH_TICKET_CRANE n) 0x3F).putBerth n { s.berth n with parked := false, promoted := false, replay := false, finished := false }

/-- Commits the mark of a berth: the other buffer takes the new one, with the generation stamp after the last one's; the input before its
position goes (R160). An AM or FM berth takes its input block by block. -/
def State.commitMark (s : State) (n progress : Nat) (complete : Bool) : State :=
  let b := s.berth n
  let progress := if s.std n == 1 || s.std n == 2 then ((Tbl.entry s.aud n).map (·.next)).getD b.mark.progress else progress
  let s := s.putBerth n { b with markOld := b.mark, mark := ⟨(s.prod n).next, progress, b.mark.gen + 1, s.ctx n, if complete then 0 else b.mark.beats + 1⟩ }
  s.each [0, 1] (fun i t => t.putInput n i ((t.input n i).dropWhile (fun y => Nat.blt y.index progress)))

/-- A berth's marks stand at its present context: after a start or a synchronising reset nothing before it is replayed (R135, R160). -/
def State.markHere (s : State) (n : Nat) : State :=
  let b := s.berth n
  let m : Mark := ⟨(s.prod n).next, b.mark.progress, b.mark.gen + 1, s.ctx n, 0⟩
  (s.putBerth n { b with mark := m, markOld := m }).each [0, 1] (fun i t => t.putInput n i [])

/-- Two berths have exchanged their lanes and decoders: each one's marks stand at its present context and input (R160, R189). -/
def State.markSwap (s : State) (h p : Nat) : State :=
  let one (s : State) (n at_ : Nat) : State :=
    let b := s.berth n
    let m : Mark := ⟨(s.prod n).next, at_, b.mark.gen + 1, s.ctx n, 0⟩
    s.putBerth n { b with mark := m, markOld := m }
  one (one s h (s.berth p).mark.progress) p (s.berth h).mark.progress

/-- A berth's ticket is parked: it leaves the ready queue and is counted at its hold; an urgent one with a consignment that waits found the
reserve too small (R263, R265). `finished`: its work is done. -/
def State.park (s : State) (n : Nat) (finished : Bool := false) : State :=
  if !s.on (F.BTH_TICKET_IN_FLIGHT n) then s
  else
    let s := (s.bump (F.HLD_PARKS_COUNT.ofHold n)).up (F.HLD_STATUS_PARK_EV.ofHold n)
    let s := s.when (s.on (F.BTH_TICKET_URGENT n) && (s.waiting n).any (fun w => !w.request)) (·.up F.HLD_CUSTODY_RESERVE_EV)
    (s.put (F.BTH_TICKET_CRANE n) 0x3F).putBerth n { s.berth n with parked := true, finished := finished }

/-- The class's spare takes a crane's place: it becomes a working crane (R161, R163). -/
def State.spareTakes (s : State) (c : Nat) : State := (s.put (F.CRN_STATUS_ROLE c) roleWorking).up (F.CRN_EVENTS_TAKEOVER_EV c)

/-- Judges NO_SPARE and ENG_CAP of a class (R161, R163, Table 7.15). Log entry 70: DEDUCED. -/
def State.judgeClass (s : State) (cls : Nat) : State :=
  let n := (s.withRole cls roleWorking).length + (s.withRole cls roleSpare).length
  (s.put (F.ENG_CAP_CAP cls) (cluPerCrane cls * min n (workingCount cls))).mask F.ENG_STATUS_NO_SPARE cls
    (s.spareCrane cls).isNone

/-- The berth that is shed next for a class: the lowest PRIORITY, the highest number within it (R163). -/
def State.shedNext (s : State) (cls : Nat) : Option Nat :=
  let can := (List.range 96).filter (fun n => (((s.berth n).held.getD Load.zero).ofClass cls) != 0)
  (List.range 4).findSome? (fun p => (can.filter (fun n => s.get (F.BTH_CTRL_PRIORITY n) == p)).getLast?)

/-- Sheds berths until the load of a class fits: each leaves `ENG_LOAD` at the decision and stops at its frame boundary (R163). -/
def State.shed (s : State) (cls : Nat) : State :=
  (List.range 96).foldl (fun (t : State) _ =>
    if Nat.ble (t.admitted cls) (t.get (F.ENG_CAP_CAP cls)) then t
    else match t.shedNext cls with
      | none => t
      | some n =>
        -- a berth that SURVEY stopped is SHED where it stands (Table 7.1)
        if t.on (F.BTH_CTRL_STOPPED n) then
          let t := (((t.putBerth n { t.berth n with survey := false }).freeLoads n).freeArea n).put (F.BTH_STATUS_STATE n) bsShed
          ((t.up (F.BTH_EVENTS_SHED_EV n)).up F.ENG_STATUS_SHED_EV).error 0x0D01 .berth n .detected
        else ((t.putBerth n { t.berth n with shedding := true }).freeLoads n).put (F.BTH_STATUS_STATE n) bsStopping) s

/-- A class is judged after a crane left or returned: capacity, NO_SPARE, and OVERLOAD with the shedding it asks (R161, R163). -/
def State.rejudge (s : State) (cls : Nat) : State :=
  let s := s.judgeClass cls
  if Nat.blt (s.get (F.ENG_CAP_CAP cls)) (s.admitted cls) then
    let s := (s.up F.ENG_STATUS_OVERLOAD).shed cls
    s.when (Nat.ble (s.admitted cls) (s.get (F.ENG_CAP_CAP cls))) (·.down F.ENG_STATUS_OVERLOAD)
  else s.when ((List.range 5).all (fun c => Nat.ble (s.admitted c) (s.get (F.ENG_CAP_CAP c)))) (·.down F.ENG_STATUS_OVERLOAD)

/-- The roles of a class at a reset (R149): the highest-numbered unretired crane is the spare where there are more than the working
count, the other unretired cranes work. -/
def State.assignRoles (s : State) (cls : Nat) : State :=
  let live := (cranesOf cls).filter (fun c => !s.isRetired .crane c)
  let s := s.each (cranesOf cls) (fun c t => (t.put (F.CRN_STATUS_ROLE c) (if t.isRetired .crane c then roleRetired else roleWorking)).put
    (F.CRN_STATUS_CLASS c) cls)
  let s := if Nat.blt (workingCount cls) live.length then
      (match live.getLast? with | some c => s.put (F.CRN_STATUS_ROLE c) roleSpare | none => s) else s
  s.judgeClass cls

/-- The length of a beat for a crane: the new one once it has passed a beat end (R153). -/
def State.beatLength (s : State) (c : Nat) : Nat :=
  let v := Tbl.get (fun _ => 0) s.beatOf c
  if v = 0 then s.get (F.ENG_BEAT_LENGTH (classOf c)) else v

/-- A crane passes a beat end: an armed length of its class is its own from now on; once every serving crane of the class has it, it is in
force (R153). -/
def State.beatPass (s : State) (c : Nat) : State :=
  let cls := classOf c
  let f := F.ENG_BEAT_LENGTH cls
  match (s.shadow.filter (fun x => x.commit == 0x45 && x.armed && x.fld == f)).getLast? with
  | none => s
  | some x =>
    let s := s.setBeatOf (Tbl.set (fun _ => 0) s.beatOf c x.val)
    if ((s.withRole cls roleWorking).filter (fun d => s.on (F.CRN_STATUS_BUSY d))).all (fun d => s.beatLength d == x.val) then
      (s.applyFields 0x45 (· == f)).setBeatOf (s.beatOf.filter (fun e => classOf e.1 != cls))
    else s

/-- A ticket goes back to the head of its queue, ready from now on. -/
def State.requeue (s : State) (n cls : Nat) : State :=
  ((s.put (F.BTH_TICKET_CRANE n) 0x3F).putBerth n { s.berth n with readyAt := s.clock }).putQueue cls (n :: s.queue cls)

/-- A crane goes to its self-test: the spare takes its ticket, from the mark just committed, and its place (R161, R163). Where the class has
no spare the ticket goes back to its queue, and the class has a crane less (R20). -/
def State.handTicket (s : State) (c : Nat) : State :=
  let cls := classOf c
  let busy := s.on (F.CRN_STATUS_BUSY c)
  let n := s.get (F.CRN_STATUS_BERTH c)
  let s := ({ s with handover := s.handover.filter (· != c) }).craneIdle c
  match s.spareCrane cls with
  | none =>
    let s := ((s.put (F.CRN_STATUS_ROLE c) roleTest).startTest .crane c 0 false).when busy (·.requeue n cls)
    let s := match s.idleCrane cls with
      | some p => s.craneChoose p
      | none => s
    s.rejudge cls
  | some p =>
    let s := (s.put (F.CRN_STATUS_ROLE c) roleTest).spareTakes p
    let s := s.startTest .crane c 0 false
    let s := if busy then (s.putBerth n { s.berth n with readyAt := s.clock }).craneTake p n else s.craneChoose p
    s.judgeClass cls

/-- A ticket completes: it ends, or, where outputs of it still wait at the hold entrance, it stays in flight until they have passed
(R150, R263). -/
def State.ticketComplete (s : State) (n : Nat) : State :=
  let s := s.pass n (s.get (F.BTH_TICKET_CLASS n))
  if (s.waiting n).isEmpty then s.ticketDone n else s.park n true

/-- A beat of a crane ends; a ticket whose output found no credit is parked (`noCredit`, or such output waits), but an urgent one only where the
reserve had no room either (R151, R153, R159, R160, R163, R263, R265). -/
def State.beatEnd (s : State) (c : Nat) (complete noCredit : Bool) (progress : Nat) : State :=
  if !s.on (F.CRN_STATUS_BUSY c) then s
  else
    let n := s.get (F.CRN_STATUS_BERTH c)
    let cls := classOf c
    let s := ((s.bumpWrap (F.CRN_BEATS_COUNT c)).commitMark n progress complete).beatPass c
    let b := s.berth n
    let s := s.when (b.promoted && !complete) (fun s =>
      ((s.up (F.BTH_TICKET_URGENT n)).up (F.CRN_STATUS_URGENT c)).putBerth n { s.berth n with promoted := false })
    let short := !(s.waiting n).isEmpty || (noCredit && !s.on (F.BTH_TICKET_URGENT n))
    let left := complete || short
    let s := if complete then (s.ticketComplete n).craneIdle c else if short then (s.park n).craneIdle c else s
    if s.handover.contains c then s.handTicket c
    else if left then s.craneChoose c
    else if s.on (F.BTH_TICKET_URGENT n) then s
    else
      let q := s.queue cls
      let back (t : State) (l : List Nat) : State :=
        ((t.put (F.BTH_TICKET_CRANE n) 0x3F).putBerth n { t.berth n with readyAt := t.clock }).putQueue cls l
      match q.find? (fun m => s.on (F.BTH_TICKET_URGENT m)) with
      | some u => (back s (n :: q.filter (· != u))).craneTake c u
      | none =>
        match q with
        | [] => s
        | h :: rest => (back s (rest ++ [n])).craneTake c h

/-- A berth's work restarts from its last committed mark: its context is loaded, and sequence numbers are issued from the value in it
(R160, R161). Log entry 122: DEDUCED. -/
def State.toMark (s : State) (n : Nat) : State :=
  let m := (s.berth n).mark
  ((s.putProd n { s.prod n with next := m.seq }).putBerth n { s.berth n with replay := true, finished := false }).loadCtx n m.ctx

/-- A crane fault: the crane stops and tests itself, and its output that has not passed the hold entrance is discarded; the spare restarts
the ticket from its mark, or, without a spare, the first working crane of its class to reach a beat end does (R161, R163). -/
def State.craneFault (s : State) (c detector : Nat) (a : EArgs := {}) : State :=
  let role := s.get (F.CRN_STATUS_ROLE c)
  if role = roleRetired then s
  else
    let s := ((s.up (F.CRN_EVENTS_FAULT_EV c)).bump (F.CRN_FAULTS_FAULTS c)).put (F.CRN_LAST_FAULT_DETECTOR c) detector
    let s := s.error detector .crane c .detected a
    if role = roleTest then s.startTest .crane c detector a.injected
    else
      let cls := classOf c
      let n := s.get (F.CRN_STATUS_BERTH c)
      let busy := s.on (F.CRN_STATUS_BUSY c)
      let s := ({ s with handover := s.handover.filter (· != c) }).craneIdle c
      let s := (s.put (F.CRN_STATUS_ROLE c) roleTest).startTest .crane c detector a.injected
      let s := s.when busy (fun s =>
        let s := s.toMark n
        s.putBerth n { s.berth n with parked := false, readyAt := s.clock })
      let s :=
        if role = roleSpare then s
        else match s.spareCrane cls with
          | some p =>
            let s := s.spareTakes p
            if busy then s.craneTake p n else s.craneChoose p
          | none =>
            let s := s.error detector .crane c .noSpare a
            if busy then
              let s := s.requeue n cls
              (match s.idleCrane cls with | some p => s.craneChoose p | none => s)
            else s
      s.rejudge cls

/-- A crane that passed its test, or was restored, becomes the spare, or works again in a class short of working cranes (R161,
R400). -/
def State.craneBack (s : State) (c : Nat) : State :=
  let cls := classOf c
  if Nat.blt (s.withRole cls roleWorking).length (workingCount cls) then
    ((s.put (F.CRN_STATUS_ROLE c) roleWorking).craneChoose c).rejudge cls
  else (s.put (F.CRN_STATUS_ROLE c) roleSpare).rejudge cls

/-- The known-answer self-test of a crane ends (R161, R398). -/
def State.craneTested (s : State) (c : Nat) (pass : Bool) : State :=
  match s.classify .crane c pass with
  | (s, .transient) => (s.up (F.CRN_EVENTS_TRANSIENT_EV c)).craneBack c
  | (s, .lasting) => ((s.put (F.CRN_STATUS_ROLE c) roleRetired).up (F.CRN_EVENTS_LASTING_EV c)).rejudge (classOf c)
  | (s, _) => s

/-! The hold entrance (R24, R162, R262 to R265). -/

/-- The crane that serves a berth; where none does, the first of its ticket's class. -/
def State.craneFor (s : State) (n : Nat) : Nat :=
  let c := s.get (F.BTH_TICKET_CRANE n)
  if c < 33 then c else classFirst (s.get (F.BTH_TICKET_CLASS n))

/-- Drops a duplicate and compares its CRC with the stored one; a mismatch tests the crane that produced it (R162). Log entry 72: DEDUCED. -/
def State.dedup (s : State) (n c seq : Nat) (payload : List Byte) : State :=
  let s := (s.bump (F.BTH_REPLAY_DEDUPS n)).up (F.BTH_EVENTS_DEDUP_EV n)
  match ((s.prod n).crcs.find? (·.1 == seq)).map (·.2) with
  | some crc =>
    if crc = (crc32 payload).toNat then s
    else (((s.up (F.BTH_EVENTS_DEDUP_MISMATCH_EV n)).up F.ENG_STATUS_DEDUP_MISMATCH_EV)).craneFault c 0x0404
      { d0 := n, d1 := bits seq 16 16, d2 := bits seq 0 16 }
  | none => s

/-- Whether a number lies at or below the highest accepted (R162, R272). -/
def State.isOld (s : State) (p seq : Nat) : Bool :=
  match (s.prod p).highest with
  | none => false
  | some h => !follows seq h

/-- The number after the highest accepted; before the first of an epoch it is 0 (R14, R272). -/
def State.expected (s : State) (p : Nat) : Nat :=
  match (s.prod p).highest with
  | none => 0
  | some h => (h + 1) % 2 ^ 32

/-- Offers a waiting consignment: accepted where its hold has credit, or an urgent one the reserve; a datagram where the bond
request hold has credit (R262, R265, R329). -/
def State.offer (s : State) (p : Nat) (w : Wait) : Option State :=
  if w.request then (if s.bondCredit w.payload.length then some (s.acceptDatagram p w.ts w.payload) else none)
  else if s.credit (holdOfProducer p) w.payload then some (s.acceptFeed p w.content w.flags w.ts w.payload false)
  else if w.urgent && s.reserveCredit w.payload then some (s.acceptFeed p w.content w.flags w.ts w.payload true)
  else none

/-- One waiting consignment of a producer enters: the oldest where it finds credit, else the oldest that is urgent (R263, R265).
Log entry 73: DEDUCED. -/
def State.drainOne (s : State) (p : Nat) : State :=
  let l := s.waiting p
  let urgent (t : State) : State :=
    match l.find? (·.urgent) with
    | none => t
    | some w => match t.offer p w with
      | some u => u.putWaiting p (l.erase w)
      | none => t
  match l with
  | [] => s
  | w :: rest =>
    let seq := (s.prod p).next
    if Nat.blt p 96 && s.isOld p seq then
      -- a replayed number (R162)
      ((s.putWaiting p rest).putProd p { s.prod p with next := (seq + 1) % 2 ^ 32 }).dedup p (s.craneFor p) seq w.payload
    else match s.offer p w with
      | some u => u.putWaiting p rest
      | none => urgent s

/-- Lets the waiting consignments of a producer enter while they find credit. -/
def State.drainWaiting (s : State) (p : Nat) : State :=
  (List.range (s.waiting p).length).foldl (fun (t : State) _ => t.drainOne p) s

/-- A consignment that a producer emits: a replayed number is dropped (R162), one without credit waits, and its berth's ticket is parked at the end
of the beat (R263), and otherwise it is accepted. Urgency takes the reserve, past what waits without it: an urgent ticket's, or a consignment with
URGENT (R265, R381). Log entry 73: DEDUCED. -/
def State.emitWait (s : State) (p : Nat) (w : Wait) : State :=
  let seq := (s.prod p).next
  if Nat.blt p 96 && s.isOld p seq then
    (s.putProd p { s.prod p with next := (seq + 1) % 2 ^ 32 }).dedup p (s.craneFor p) seq w.payload
  else
    let w := { w with urgent := w.urgent || (Nat.blt p 96 && s.on (F.BTH_TICKET_URGENT p)) }
    let wait (t : State) : State := t.putWaiting p (t.waiting p ++ [w])
    if !(s.waiting p).isEmpty && !w.urgent then wait s
    else match s.offer p w with
      | some t => t
      | none => wait s

/-- A consignment that a producer emits. -/
def State.emit (s : State) (p content flags ts : Nat) (payload : List Byte) : State :=
  s.emitWait p ⟨false, content, flags, ts, payload, flags &&& flagUrgent != 0⟩

/-- A datagram that a berth offers to the bond request hold (R205, R237). -/
def State.emitDatagram (s : State) (n ts : Nat) (env : List Byte) : State := s.emitWait n ⟨true, 1, 0, ts, env, false⟩

/-- The flags of a berth's consignment: SETTLING where a sample of the input that its work stands on carries it, INJECTED where an injected event
makes it so, and the given ones; without input they are the lane's (R285, R407, Table 13.3). Log entry 75: DEDUCED. -/
def State.berthFlags (s : State) (n : Nat) (urgent : Bool := false) : Nat :=
  let ys := (s.input n 0 ++ s.input n 1).filter (fun y => bit y.marks mkSettling)
  let none := (s.input n 0).isEmpty && (s.input n 1).isEmpty
  let settles := if none then s.on (F.LN_STATUS_SETTLING n) else !ys.isEmpty
  s.flags settles false urgent (settles && (if none then bit s.tainted n else ys.any (fun y => bit y.marks mkInjected)))

/-- A consignment that arrives at the hold entrance with a number of its own (R162). Log entry 72: DEDUCED. -/
def State.arrive (s : State) (n c seq content flags ts : Nat) (payload : List Byte) : State :=
  if s.isOld n seq then s.dedup n c seq payload
  else if seq = s.expected n then (s.putProd n { s.prod n with next := seq }).emit n content flags ts payload
  else s.craneFault c 0x0405 { d0 := n, d1 := bits seq 16 16, d2 := bits seq 0 16 }

/-! I/Q snapshots (R287). -/

/-- The oldest sample of a SCOPE berth's input. -/
def State.scopeFirst (s : State) (n : Nat) : BSmp :=
  match (s.input n 0).head?, (s.input n 1).head? with
  | some a, some b => if Nat.ble a.index b.index then a else b
  | some a, none => a
  | none, some b => b
  | none, none => ⟨0, 0, 0, 0, 0, 0⟩

/-- Forms the next I/Q snapshot of a SCOPE berth from `count` columns of its input (R287, Table 13.5). -/
def State.scopeEmit (s : State) (n count : Nat) : State :=
  let two := s.on (F.LN_CTRL_DIVERSITY n)
  let all := (if two then [0, 1] else [0]).map (s.input n)
  let first := s.scopeFirst n
  let base := (Tbl.get (fun _ => 0) s.scopeAt n) - 1
  let cols := all.map (fun l => l.takeWhile (fun y => Nat.blt y.index (first.index + count)))
  let good (l : List BSmp) : Bool := l.length == count && !l.any (fun y => bit y.marks mkInvalid)
  let word (v : Int) : List Byte := be 2 (toBits 16 v)
  let cell (l : List BSmp) (i : Nat) : List Byte :=
    match l.find? (fun y => y.index == first.index + i) with
    | some y => if bit y.marks mkInvalid then be 4 0 else word y.re ++ word y.im
    | none => be 4 0
  let valid := (cols.mapIdx (fun i l => if good l then 2 ^ i else 0)).sum
  let head := [0x31#8] ++ be 1 all.length ++ be 2 count ++ be 6 (first.index - base) ++ be 1 valid ++ [0#8]
  let body := ((List.range count).map (fun i => (cols.map (fun l => cell l i)).flatten)).flatten
  let settles := cols.any (fun l => l.any (fun y => bit y.marks mkSettling))
  let s := s.each [0, 1] (fun b t => t.putInput n b ((t.input n b).dropWhile (fun y => Nat.blt y.index (first.index + count))))
  let injected := cols.any (fun l => l.any (fun y => bit y.marks mkSettling && bit y.marks mkInjected))
  s.emit n 0x09 (s.flags settles false false injected) (tsOfPs first.stamp) (head ++ body)

/-- How many columns a SCOPE berth's input holds from its first one on: those that both branches have reached, of which one without valid blocks holds
up none (R128, R287). -/
def State.scopeHas (s : State) (n : Nat) : Nat :=
  let past (b : Nat) : Nat := ((s.input n b).getLast?.map (·.index + 1)).getD (s.scopeFirst n).index
  let far := max (past 0) (past 1)
  let upTo (b : Nat) (v : Fld) : Nat := if s.on v then past b else far
  if !s.on (F.LN_CTRL_DIVERSITY n) then (s.input n 0).length
  else min (upTo 0 (F.LN_STATUS_VALID1 n)) (upTo 1 (F.LN_STATUS_VALID2 n)) - (s.scopeFirst n).index

/-- A SCOPE berth emits the snapshots that its input fills, while none waits for credit; at its stop a last one holds the rest (R287).
Log entry 129: DEDUCED. -/
def State.scopePump (s : State) (n : Nat) (last : Bool := false) : State :=
  if s.std n != 8 then s
  else
    let s := match (s.input n 0).head?.or (s.input n 1).head? with
      | some y => s.when (Tbl.get (fun _ => 0) s.scopeAt n == 0) (fun s => s.setScopeAt (Tbl.set (fun _ => 0) s.scopeAt n (y.index + 1)))
      | none => s
    let full := if s.on (F.LN_CTRL_DIVERSITY n) then 1022 else 2045
    let s := (List.range (s.scopeHas n / full)).foldl (fun (t : State) _ =>
      if last || (t.waiting n).isEmpty then t.scopeEmit n full else t) s
    s.when (last && s.scopeHas n != 0) (fun s => s.scopeEmit n (s.scopeHas n))

/-- A parked ticket rejoins its queue at the tail once its output finds credit; one whose work was done has then completed (R150, R263). -/
def State.unpark (s : State) (n : Nat) : State :=
  let s := (s.drainWaiting n).scopePump n
  if !((s.berth n).parked && (s.waiting n).isEmpty) then s
  else if (s.berth n).finished then s.ticketDone n
  else if Nat.blt (s.charged n) (s.get (F.HLD_CAP_CAP.ofHold n)) || (s.on (F.BTH_TICKET_URGENT n) && Nat.blt s.reserved 256) then s.enterQueue n 0
  else s

/-- A parked berth's oldest whole frame of input, of `len` samples, is discarded and its mark moves on, with the context as the loss leaves it
(R264). -/
def State.inputOverwrite (s : State) (n len : Nat) : State :=
  if (s.berth n).parked then
    let b := s.berth n
    let at_ := b.mark.progress + len
    let s := s.putBerth n { b with markOld := b.mark, mark := { b.mark with progress := at_, gen := b.mark.gen + 1, ctx := s.ctx n } }
    let s := s.each [0, 1] (fun i t => t.putInput n i ((t.input n i).dropWhile (fun y => Nat.blt y.index at_)))
    (s.bump (F.HLD_DROPS_COUNT.ofHold n)).up (F.HLD_STATUS_DROP_EV.ofHold n)
  else s

/-- One nanosecond of the shares of `CRN_LOAD`; at the end of a second they load (R165). -/
def State.craneShares (s : State) (second : Bool) : State :=
  s.each (List.range 33) (fun c t =>
    let b := Tbl.get (fun _ => 0) t.craneNs c + t.get (F.CRN_STATUS_BUSY c)
    if second then (t.setCraneNs (Tbl.set (fun _ => 0) t.craneNs c 0)).put (F.CRN_LOAD_BUSY c) (b / 1000000)
    else t.setCraneNs (Tbl.set (fun _ => 0) t.craneNs c b))

/-- A berth whose lane has stopped under it waits; its ticket in flight completes, and the record window that meets WAIT_LANE gives no record
(R147, R258). Log entry 85: DEDUCED. -/
def State.laneGone (s : State) (n : Nat) : State :=
  s.when (s.bstate n == bsRunning) (fun s => (s.put (F.BTH_STATUS_STATE n) bsWaitLane).putWindow n none)

/-- A berth whose lane delivers samples runs (R147). -/
def State.laneHere (s : State) (n : Nat) : State := s.when (s.bstate n == bsWaitLane) (·.put (F.BTH_STATUS_STATE n) bsRunning)

end Sys2Proof.Machine
end

