-- ==== Sys2Proof/Machine/Lanes.lean ====
section
/-! DEFINITION. Lanes (06_lanes.md): start, stop and synchronising reset, chain delay and settling, detectors, faults, takeovers,
patrols and self-test. -/

namespace Sys2Proof.Machine

/-- The COMMIT register of berth `n`'s lane fields. -/
def laneCommit (n : Nat) : Nat := 0x428 + 0x40 * n

/-- The role of a lane at reset: berth n on lane n, lanes 96 to 103 spares. -/
def LaneRole.reset (l : Nat) : LaneRole := if l < 96 then .carries l else .spare

/-- The role of a lane. -/
def State.lane (s : State) (l : Nat) : LaneRole := Tbl.get LaneRole.reset s.lanes l

/-- Shows the spares and the retired lanes (Table 18.13): a patrolling spare is free. Log entry 68: DESIGN CHOICE. -/
def State.showSpares (s : State) : State :=
  let roles := (List.range 104).map s.lane
  let free := (roles.filter (fun x => match x with
    | .spare | .patrols _ => true
    | _ => false)).length
  (s.put F.PROT_LANES_SPARES free).put F.PROT_LANES_RETIRED (roles.filter (· == .retired)).length

/-- Writes the role of a lane. -/
def State.putLane (s : State) (l : Nat) (r : LaneRole) : State := (s.setLanes (Tbl.set LaneRole.reset s.lanes l r)).showSpares

/-- Whether berth `n`'s lane runs. -/
def State.laneRuns (s : State) (n : Nat) : Bool := !s.on (F.LN_CTRL_STOPPED n)

/-- What an unlisted intake holds. -/
def Intake.reset : Intake := ⟨0, 0, none, 0, 0, 0, 0, false, false⟩

/-- An intake. -/
def State.intake (s : State) (k : Nat) : Intake := Tbl.get (fun _ => Intake.reset) s.intakes k

/-- Writes an intake. -/
def State.putIntake (s : State) (k : Nat) (v : Intake) : State := { s with intakes := Tbl.set (fun _ => Intake.reset) s.intakes k v }

/-- Whether an intake delivers valid blocks: its domain on, running, not retired, not under self-test, twelve valid blocks past its
last invalid one, and swept by the last REGULATE (R110, R111, R128, R438). -/
def State.intakeOk (s : State) (k : Nat) : Bool :=
  s.domOn (1 + k) && s.on (F.INT_STATUS_RUNNING k) && !s.on (F.INT_STATUS_RETIRED k) && !(s.unit .intake k).testing &&
  (s.intake k).missing == 0 && !(s.intake k).skipped

/-- D_intake of an intake for the gain state in force, in ps (Table 6.6). -/
def State.dIntakeOf (s : State) (k : Nat) : Nat :=
  (if k = 1 then s.dIntake.1 else s.dIntake.2).getD (s.get (F.INT_GAIN_STATE k)) 0

/-- The intake that a single-branch lane reads (R128). -/
def State.laneIntake (s : State) (n : Nat) : Nat := 1 + s.get (F.LN_CTRL_INTAKE n)

/-- Shows the valid marks of a running lane's branches (R128). -/
def State.showValid (s : State) (n : Nat) : State :=
  let reads (k : Nat) : Bool := s.laneRuns n && (s.on (F.LN_CTRL_DIVERSITY n) || s.laneIntake n == k) && s.intakeOk k
  (s.put (F.LN_STATUS_VALID1 n) (b2n (reads 1))).put (F.LN_STATUS_VALID2 n) (b2n (reads 2))

/-- Shows the valid marks of every lane. -/
def State.showValidAll (s : State) : State := s.each (List.range 96) (fun n t => t.showValid n)

/-- Whether a berth's lane has a valid branch: without one it emits no new consignment (R110, R128). Log entry 74: DEDUCED. -/
def State.fed (s : State) (n : Nat) : Bool := s.on (F.LN_STATUS_VALID1 n) || s.on (F.LN_STATUS_VALID2 n)

/-- The running lanes that read an intake. -/
def State.lanesOn (s : State) (k : Nat) : List Nat :=
  (List.range 96).filter (fun n => s.laneRuns n && (s.on (F.LN_CTRL_DIVERSITY n) || s.laneIntake n == k))

/-- Whether a bank's coefficients are symmetric or antisymmetric about the middle tap (R132). -/
def State.symmetric (s : State) (b : Nat) : Bool :=
  let t := s.taps b
  let idx := List.range t
  idx.all (fun i => s.tap b i == s.tap b (t - 1 - i)) || idx.all (fun i => s.tap b i == -s.tap b (t - 1 - i))

/-- Whether the resampler ratio satisfies 1 ≤ M ÷ L ≤ 64 (R126). -/
def State.ratioOk (s : State) (n : Nat) : Bool :=
  let l := s.get (F.LN_RS_L_L n)
  let m := s.get (F.LN_RS_M_M n)
  Nat.ble l m && Nat.ble m (64 * l)

/-- Samples that settle: N_settle of R136. -/
def nSettle (g t df l m w : Nat) : Nat :=
  let st := if g = 1 then 0 else if g = 2 then 48 else 72
  ceilDiv ((ceilDiv (st + t - 1) df + 15) * l) m + w + 7

/-- The chain delay D_total in ps, rounded to the nearest (Table 6.6); `delay` is W × 64 + F. -/
def dTotal (dIntake g t df l m delay : Nat) : Nat :=
  let den := 3 * g * l
  let num := 1534 * 1250 * g * l + (t - 1) * 160000 * l + 8 * df * 320000 * l + (delay + 256) * m * df * 5000
  dIntake + (if g = 1 then 0 else 1280000) + (2 * num + den) / (2 * den)

/-- The delay residual in ps, rounded up: U_intake + 2⁻¹⁶ ÷ f_F (R133). -/
def gdResidual (uIntake g df : Nat) : Nat := uIntake + ceilDiv (df * 320000) (196608 * g)

/-- The intake whose D_intake a berth's lane takes: with diversity intake 1 (Table 6.6). -/
def State.delayIntake (s : State) (n : Nat) : Nat := if s.on (F.LN_CTRL_DIVERSITY n) then 1 else s.laneIntake n

/-- Loads `LN_GD_APPLIED` with the chain delay now in force, and `LN_GD_INTAKE` with the term of the intake's gain state (R131). Log entry 67:
DEDUCED. -/
def State.showDelay (s : State) (n : Nat) : State :=
  let s := s.put (F.LN_GD_INTAKE_D_INTAKE n) (s.dIntakeOf (s.delayIntake n))
  s.put (F.LN_GD_APPLIED_D_TOTAL n) (dTotal (s.get (F.LN_GD_INTAKE_D_INTAKE n)) (s.get (F.LN_CTRL_GROUP_SIZE n)) (s.taps (s.bankOf n))
    (s.get (F.LN_FIR_DECIM n)) (s.get (F.LN_RS_L_L n)) (s.get (F.LN_RS_M_M n)) (s.get (F.LN_DELAY n)))

/-! Chains and detectors of the lanes (Table 6.4). -/

/-- What an unlisted chain holds. -/
def Chain.reset : Chain := Chain.start 0

/-- The chain of branch `b` of lane `l`. -/
def State.chain (s : State) (l b : Nat) : Chain := Tbl.get (fun _ => Chain.reset) s.chains (2 * l + b)

/-- Writes a chain. -/
def State.putChain (s : State) (l b : Nat) (h : Chain) : State := s.setChains (Tbl.set (fun _ => Chain.reset) s.chains (2 * l + b) h)

/-- The open detector window of berth `n`'s lane. -/
def State.det (s : State) (n : Nat) : Det := Tbl.get (fun _ => Det.reset) s.dets n

/-- Writes it. -/
def State.putDet (s : State) (n : Nat) (d : Det) : State := s.setDets (Tbl.set (fun _ => Det.reset) s.dets n d)

/-- The last complete detector window of berth `n`'s lane whose end has not been taken. -/
def State.detDone (s : State) (n : Nat) : Det := Tbl.get (fun _ => Det.reset) s.detFull n

/-- Writes it. -/
def State.putDetDone (s : State) (n : Nat) (d : Det) : State := s.setDetFull (Tbl.set (fun _ => Det.reset) s.detFull n d)

/-- The lanes that run berth `n`'s configuration: the one that carries it, a spare that takes it over, one that patrols it. -/
def State.lanesFor (s : State) (n : Nat) : List Nat :=
  (List.range 104).filter (fun l => s.lane l == .carries n || s.lane l == .takes n || s.lane l == .patrols n)

/-- The chains of every lane that runs berth `n`'s configuration start with zeroed histories and phases; the berth's sample index runs on
(R134, R135, R141). Its envelope and its detector window begin anew. Log entry 137: DESIGN CHOICE. -/
def State.chainsStart (s : State) (n : Nat) : State :=
  let at_ := s.get (F.LN_PHYS_LANE n)
  let s := (s.putDet n Det.reset).putDetDone n Det.reset
  s.each (s.lanesFor n) (fun l t => t.each [0, 1] (fun b u => u.putChain l b (Chain.start (s.chain at_ b).index)))

/-- A spare's chains follow those of berth `n`'s lane, with its phases and zeroed histories (R140, R141). -/
def State.chainsFollow (s : State) (n l : Nat) : State :=
  s.each [0, 1] (fun b t => t.putChain l b (s.chain (s.get (F.LN_PHYS_LANE n)) b).follow)

/-- The next output sample of a lane's branch is an erasure (R138). -/
def State.eraseNext (s : State) (l b : Nat) : State := s.putChain l b { s.chain l b with erase := true }

/-- What berth `n`'s chain works with on lane `l`. -/
def State.laneCfg (s : State) (n l : Nat) : LaneCfg :=
  let b := s.bankOn n l
  { g := s.get (F.LN_CTRL_GROUP_SIZE n), df := s.get (F.LN_FIR_DECIM n), shift := s.get (F.LN_FIR_SHIFT n)
    taps := (List.range (s.taps b)).map (s.tap b), l := s.get (F.LN_RS_L_L n), m := s.get (F.LN_RS_M_M n)
    freq := sext 32 (s.get (F.LN_NCO_FREQ n)), delay := s.get (F.LN_DELAY n), first := s.get (F.LN_CTRL_FIRST_BIN n)
    settle := nSettle (s.get (F.LN_CTRL_GROUP_SIZE n)) (s.taps b) (s.get (F.LN_FIR_DECIM n)) (s.get (F.LN_RS_L_L n))
      (s.get (F.LN_RS_M_M n)) (s.get (F.LN_DELAY n) / 64)
    dTotal := s.get (F.LN_GD_APPLIED_D_TOTAL n) }

/-- A lane begins with zeroed histories and phases: its samples settle, and delay, settling and residual are worked out (R131 to
R137). -/
def State.laneBegin (s : State) (n : Nat) : State :=
  let b := s.bankOf n
  let g := s.get (F.LN_CTRL_GROUP_SIZE n)
  let df := s.get (F.LN_FIR_DECIM n)
  let sym := s.symmetric b
  let k := s.delayIntake n
  let s := (s.up (F.LN_STATUS_SETTLING n)).put (F.LN_STATUS_ASYM n) (b2n (!sym))
  let s := s.put (F.LN_SETTLE_N_SETTLE n) (nSettle g (s.taps b) df (s.get (F.LN_RS_L_L n)) (s.get (F.LN_RS_M_M n))
    (s.get (F.LN_DELAY n) / 64))
  let s := s.put (F.LN_GD_RESIDUAL_RESIDUAL n) (if sym then gdResidual (if k = 1 then s.uIntake.1 else s.uIntake.2) g df else 0xFFFF)
  let taps := (List.range (s.taps b)).map (s.tap b)
  let s := s.setGChain (Tbl.set (fun _ => 0) s.gChain n (chainGainOf taps (s.get (F.LN_FIR_SHIFT n))))
  ((s.showDelay n).showValid n).chainsStart n

/-- Applies the armed changes of a lane other than a stop, which has its own event; a changed delay shows at the same sample
(R59, R119, R127). `LN_SETTLE` keeps the count of the last start or reset. Log entry 137: DESIGN CHOICE. -/
def State.laneApply (s : State) (n : Nat) : State :=
  let c := laneCommit n
  let old := s.get (F.LN_DELAY n)
  let stop := s.shadow.filter (fun x => x.commit == c && x.fld == F.LN_CTRL_RUN n && x.armed && x.val == 0)
  let s := (s.setShadow (s.shadow.filter (fun x => !stop.contains x))).applyArmed c
  let s := (s.setShadow (s.shadow ++ stop)).when (!stop.isEmpty) (·.up (fPending c))
  s.when (s.get (F.LN_DELAY n) != old && s.laneRuns n) (fun s => (s.up (F.LN_STATUS_DELAY_EV n)).showDelay n)

/-- A lane told to run starts at the next channeliser block (R134). -/
def State.laneStart (s : State) (n : Nat) : State :=
  if Nat.blt n 96 && s.on (F.LN_CTRL_RUN n) && s.on (F.LN_CTRL_STOPPED n) && s.domOn 4 && s.serving && s.ratioOk n then
    ((s.down (F.LN_CTRL_STOPPED n)).laneApply n).laneBegin n
  else s

/-- A lane told to stop completes its sample and reads STOPPED; its armed changes apply (R59, R134). -/
def State.laneStop (s : State) (n : Nat) : State :=
  if Nat.blt n 96 && s.armedFor (F.LN_CTRL_RUN n) 0 then
    let s := ((s.applyArmed (laneCommit n)).up (F.LN_CTRL_STOPPED n)).down (F.LN_STATUS_SETTLING n)
    (s.showValid n).laneGone n
  else s

/-- A synchronising reset reaches the block: every running lane of the named berths restarts on it, armed changes with it (R135,
R137). A takeover's spare restarts too and settles again (R141). -/
def State.laneSyncReset (s : State) : State :=
  let m := s.syncMask
  let s := { s with syncMask := 0 }
  s.each (List.range 96) (fun n t => if bit m n && t.laneRuns n then (t.laneApply n).laneBegin n else t)

/-- Whether berth `n`'s lane has emitted N_settle samples since its start or reset. -/
def State.startSettled (s : State) (n : Nat) : Bool :=
  let l := s.get (F.LN_PHYS_LANE n)
  let h := s.chain l 0
  Nat.ble (s.laneCfg n l).settle (h.index - h.born)

/-- The first N_settle samples have been emitted: SETTLING ends, unless something else keeps the output flagged: the lane's only intake is
invalid, or a pilot window blanks a pilot-link receive berth (R96, R110, R136). -/
def State.laneSettled (s : State) (n : Nat) : State :=
  let blind := !s.on (F.LN_STATUS_VALID1 n) && !s.on (F.LN_STATUS_VALID2 n)
  s.when (s.laneRuns n && !blind && !(s.pilotWindow && s.std n == 7)) (·.down (F.LN_STATUS_SETTLING n))

/-- An envelope value as its register shows it: the nearest whole magnitude (R129). Log entry 119: DESIGN CHOICE. -/
def envShown (e : Int) : Nat := min 65535 (rounded 14 e 65536).toNat

/-- A detector window is complete: its results load, or, where more than half of its samples were ignored, DET_STALE reads 1. Without a
complete window nothing changes (R129, R130). -/
def State.detectorEnd (s : State) (n : Nat) : State :=
  let d := s.detDone n
  if !s.laneRuns n || d.count == 0 then s
  else
    let s := s.putDetDone n Det.reset
    if Nat.blt d.count (2 * d.ignored) then s.up (F.LN_STATUS_DET_STALE n)
    else
      let dbfs (x y : Nat) : Nat := toBits 16 (clamp16 (centibel x (2 ^ 30 * y)))
      let s := (s.put (F.LN_PEAK_PEAK n) (dbfs d.peak 1)).put (F.LN_RMS_RMS n) (dbfs d.sum (d.count - d.ignored))
      let s := (s.put (F.LN_ENV_MAX_MAX n) (envShown d.envMax)).put (F.LN_ENV_MIN_MIN n) (envShown d.envMin)
      s.down (F.LN_STATUS_DET_STALE n)

/-! Faults, takeovers and patrols (R138 to R143). -/

/-- The berth that a lane carries. -/
def State.berthOn (s : State) (l : Nat) : Option Nat :=
  match s.lane l with
  | .carries n => some n
  | _ => none

/-- The spare for a takeover: an idle one, else one that patrols, else the one whose sounding started last (R139). Log entry 68: DESIGN CHOICE. -/
def State.takeSpare (s : State) : Option Nat :=
  let sp := (List.range 104).filter (fun l => s.lane l == .spare)
  let pa := (List.range 104).filter (fun l => match s.lane l with
    | .patrols _ => true
    | _ => false)
  (sp.head?.or pa.head?).or s.sounding.head?

/-- The first bin of a group of `g` bins whose centre lies nearest a frequency (R118). -/
def binFor (g hz : Nat) : Nat := if g = 1 then (hz + 2343750) / 4687500 else hz / 4687500

/-- The intake of a sounding: the home's, of a diversity home the one that its detectors watch (R181). Log entry 77: DEDUCED. -/
def State.soundIntake (s : State) (h : Nat) : Nat :=
  if s.on (F.LN_CTRL_DIVERSITY h) then 1 + s.get (F.LN_DET_CFG_BRANCH h) else s.laneIntake h

/-- The bins of a sounding's group: two for DAB (R181, R214). -/
def State.soundBins (s : State) (h : Nat) : Nat := if s.std h = 4 then 2 else 1

/-- Whether some lane reads a bin or one beside it: the running lanes on the intake, a spare that sounds, a lane under self-test (R101). -/
def State.binRead (s : State) (k b : Nat) : Bool :=
  let near (f g : Nat) : Bool := Nat.ble f (b + 1) && Nat.ble b (f + g)
  (s.lanesOn k).any (fun n => near (s.get (F.LN_CTRL_FIRST_BIN n)) (s.get (F.LN_CTRL_GROUP_SIZE n))) ||
  s.testBins.any (fun e => s.lane e.1 == .testing && near e.2 1) ||
  (match s.soundingAt with
   | some (l, h, cand) => s.lane l == .sounds h && s.soundIntake h == k && near (binFor (s.soundBins h) cand) (s.soundBins h)
   | none => false)

/-- The bins of an intake that were quiet when last measured. -/
def State.quietOf (s : State) (k : Nat) : List Nat := Tbl.get (fun _ => []) s.quiet k

/-- Whether a bin is free for an injection: in range, quiet, and neither it nor a neighbour read by a lane (R101). -/
def State.binFree (s : State) (k b : Nat) : Bool :=
  (inR 2 183 b || inR 187 204 b) && (s.quietOf k).contains b && !s.binRead k b

/-- The next free bin of an intake after `last`, cyclically (R101). -/
def State.nextFree (s : State) (k last : Nat) : Option Nat :=
  ((List.range 256).map (fun i => (last + 1 + i) % 256)).find? (s.binFree k)

/-- A lane's own self-test begins, on a free bin of intake 1, or of intake 2 where 1 is off (R142). Log entry 120: DESIGN CHOICE. -/
def State.laneTest (s : State) (l detector : Nat) (injected : Bool) : State :=
  let k := if s.domOn 2 then 1 else 2
  let s := (s.startTest .lane l detector injected).setSounding (s.sounding.filter (· != l))
  let last := s.get (if k = 1 then F.CAL_LAST_BIN_INTAKE1 else F.CAL_LAST_BIN_INTAKE2)
  (s.setTestBins (Tbl.set (fun _ => 0) s.testBins l ((s.nextFree k last).getD 0))).putLane l .testing

/-- Copies a coefficient bank (R141, R181, Table 8.3). -/
def State.copyBank (s : State) (src dst : Nat) : State :=
  if src = dst then s
  else
    let a := bankAddr src 0x3001
    let b := bankAddr dst 0x3001
    let taken := (s.regs.filter (fun e => inR a (a + 0x1FF) (e.1 / 16))).map (fun e => (e.1 - 16 * a, e.2))
    let s := s.resetRegs (inR b (b + 0x1FF))
    s.setRegs (taken.foldl (fun t e => Tbl.set regDefault t (16 * b + e.1) e.2) s.regs)

/-- Copies both banks of a lane. -/
def State.copyBanks (s : State) (src dst : Nat) : State := (s.copyBank (2 * src) (2 * dst)).copyBank (2 * src + 1) (2 * dst + 1)

/-- A spare takes a berth over: it receives the configuration, the banks and the armed shadows, and starts with the lane's phases
(R141). Where no spare is working the berth goes on on its lane, and NO_SPARE is recorded (R143). -/
def State.takeover (s : State) (n : Nat) (taker : Option Nat) (detector : Nat) (a : EArgs) : State :=
  if s.on (F.LN_PHYS_TAKEOVER n) then s
  else match taker.or s.takeSpare with
    | some l =>
      let s := (s.copyBanks (s.get (F.LN_PHYS_LANE n)) l).putUnit .lane l { s.unit .lane l with detector := detector, injected := a.injected }
      (((s.setSounding (s.sounding.filter (· != l))).putLane l (.takes n)).chainsFollow n l).up (F.LN_PHYS_TAKEOVER n)
    | none => s.error detector .lane (s.get (F.LN_PHYS_LANE n)) .noSpare a

/-- A lane fault is detected: the event, the entry, and a takeover, or, for a lane that carries no berth, its own test (R138). A residue
failure (0x0301) makes the sample concerned an erasure for its branch, on the faulty lane also where no spare takes it over (R143). -/
def State.laneFault (s : State) (l detector : Nat) (a : EArgs := {}) (branch : Nat := 0) : State :=
  let s := s.when (detector == 0x0301) (·.eraseNext l branch)
  match s.lane l with
  | .retired => s
  | .testing => (s.error detector .lane l .detected a).startTest .lane l detector a.injected
  | .carries n =>
    ((s.up (F.LN_STATUS_FAULT_EV n)).error detector .lane l .detected a).takeover n none detector a
  | .takes n =>
    -- the taker itself fails: another spare takes the berth
    let s := (s.error detector .lane l .detected a).laneTest l detector a.injected
    (s.down (F.LN_PHYS_TAKEOVER n)).takeover n none detector a
  | _ => (s.error detector .lane l .detected a).laneTest l detector a.injected

/-- The lowest running berth at or after `n`, around the ring of berths, whose lane no takeover concerns (R140). Log entry 69: DEDUCED. -/
def State.patrolNext (s : State) (n : Nat) : Option Nat :=
  ((List.range 96).map (fun i => (n + i) % 96)).find? (fun m => s.laneRuns m && !s.on (F.LN_PHYS_TAKEOVER m) &&
    !(List.range 104).any (fun l => s.lane l == .patrols m))

/-- A free spare copies the next running lane and mirrors it (R140). -/
def State.patrolStart (s : State) (l : Nat) : State :=
  if s.lane l == .spare && Nat.blt l 104 && s.domOn 4 then
    match s.patrolNext s.patrolAt with
    | some n => (((s.copyBanks (s.get (F.LN_PHYS_LANE n)) l).putLane l (.patrols n)).chainsFollow n l).setPatrolAt ((n + 1) % 96)
    | none => s
  else s

/-- A patrol's comparison ends. On a mismatch the spare is tested first: if it passes, the lane is suspect and the patrolling spare
takes it over; if it fails, the spare is (R140). -/
def State.patrolEnd (s : State) (l : Nat) (equal spareOk : Bool) : State :=
  match s.lane l with
  | .patrols n =>
    let s := s.bump F.PROT_PATROLS_COUNT
    if equal then s.putLane l .spare
    else
      let s := s.bump F.PROT_TAKEOVERS_MISMATCHES
      if spareOk && !s.persistFails .lane l then
        let m := s.get (F.LN_PHYS_LANE n)
        ((s.up (F.LN_STATUS_FAULT_EV n)).error 0x0303 .lane m .detected).takeover n (some l) 0x0303 {}
      else (s.error 0x0303 .lane l .detected).laneTest l 0x0303 false
  | _ => s

/-- Whether a taker of berth `n` has settled: every branch in use has given N_settle samples since it started or was reset (R141). A berth whose
lane is stopped gives no sample that the switch could tear apart. Log entry 137: DESIGN CHOICE. -/
def State.takerSettled (s : State) (n l : Nat) : Bool :=
  !s.laneRuns n || (if s.on (F.LN_CTRL_DIVERSITY n) then [0, 1] else [0]).all (fun b =>
    Nat.ble (s.laneCfg n l).settle ((s.chain l b).index - (s.chain l b).born))

/-- The taker has settled: the berth's output switches to it between two samples, its index running on, and the old lane stops and tests
itself (R141, R142). -/
def State.takeoverSwitch (s : State) (n : Nat) : State :=
  match (List.range 104).find? (fun l => s.lane l == .takes n && s.takerSettled n l) with
  | none => s
  | some l =>
    let old := s.get (F.LN_PHYS_LANE n)
    let u := s.unit .lane l
    let s := s.putUnit .lane l { u with detector := 0, injected := false }
    let s := (s.putLane l (.carries n)).put (F.LN_PHYS_LANE n) l
    let s := ((s.down (F.LN_PHYS_TAKEOVER n)).up (F.LN_STATUS_TAKEOVER_EV n)).bump F.PROT_TAKEOVERS_TAKEOVERS
    s.laneTest old u.detector u.injected

/-- Whether a bank word of a lane has been classed LASTING, so that the bank read-back of the lane's test fails (Table 18.7). Words lie at
the addresses of `INJ_ADDR` (Table 18.14). Log entry 31: DEDUCED. -/
def State.badBank (s : State) (l : Nat) : Bool :=
  s.words.any (fun e => e.2.retired && e.1 / 2 ^ 28 == 6 && e.1 / 2 ^ 22 % 64 * 2 + e.1 / 2 ^ 12 % 2 == l)

/-- The self-test of a lane ends: it becomes a spare, or is retired (R142). -/
def State.laneTested (s : State) (l : Nat) (pass : Bool) : State :=
  match s.classify .lane l (pass && !s.badBank l) with
  | (s, .transient) => s.putLane l .spare
  | (s, .lasting) => s.putLane l .retired
  | (s, _) => s

end Sys2Proof.Machine
end

