-- ==== Sys2Proof/Machine/Pilot.lean ====
section
/-! DEFINITION. The pilot link (16_pilot_link.md): the schedule and its start decision, the transmitter, the duty budget,
listening, and the receive berths. -/

namespace Sys2Proof.Machine

/-- Shows whether an intake's AGC holds its state: a pilot window or a calibration injection is open (R93). -/
def State.agcShow (s : State) (k : Nat) : State :=
  s.put (F.INT_STATUS_AGC_HELD k) (b2n (s.pilotWindow || s.visiting.contains k))

/-! The schedule. -/

/-- `PLT_COMMIT`. -/
def pltCommit : Nat := 0x2501

/-- Whether the sample pair is ready to transmit (R358). -/
def State.pairReady (s : State) : Bool :=
  (s.serving || s.mode == .survey) && s.domOn 1 &&
  [0, 1].any (fun m => s.on (F.TB_MOV_STATUS_CARRYING m) && s.on (F.TB_MOV_STATUS_LOCKED m)) &&
  [0, 1].all (fun m => s.get (F.TB_MOV_STATUS_STATE m) != 1 && s.get (F.TB_MOV_STATUS_STATE m) != 2) && !s.trimming.contains 0

/-- Air time of a frame in 10 µs: 8 × (N_P + 4 + N_PSDU) bits, 20 µs or 10 µs each (R353). -/
def airUnits (rate preamble payload : Nat) : Nat := 8 * (preamble + 4 + (payload + 4)) * (if rate = 0 then 2 else 1)

/-- Air time of every frame that a request still has to send. -/
def TxReq.air (r : TxReq) : Nat := (r.payloads.map (fun p => airUnits r.rate r.preamble p.length)).sum

/-- The used time U of the rolling hour, in 10 µs (R365). -/
def State.dutyUsed (s : State) : Nat := (s.dutyBins.map (·.2)).sum

/-- The allowance of a request in 10 µs: B, or B_n for a non-urgent one (R365). -/
def State.allowance (s : State) (urgent : Bool) : Nat :=
  let b := s.get F.PLT_DUTY_BUDGET * 36000
  if urgent then b else b * (100 - s.get F.PLT_RESERVE_PERCENT) / 100

/-- What `PLT_DUTY_USED` shows: U in 10 ms, rounded up. -/
def State.dutyUsedShown (s : State) : Nat := ceilDiv s.dutyUsed 1000

/-- What `PLT_DUTY_LEFT` shows: B_n − U in 10 ms, at least 0. -/
def State.dutyLeftShown (s : State) : Nat := (s.allowance false - s.dutyUsed) / 1000

/-- Changes the schedule, and the fill of hold 106 with it. -/
def State.putSchedule (s : State) (l : List TxReq) : State := (s.setSchedule l).holdFill 106 l.length

/-- Accepts a transmit request: it takes the next number of producer 0x64 (R360). -/
def State.txAccept (s : State) (r : TxReq) : State :=
  let data := r.payloads.flatten
  (s.numbered 0x64 data).putSchedule (s.schedule ++ [{ r with seq := (s.prod 0x64).next, copy := Copy.of data }])

/-- Whether the schedule has credit (Table 12.1, hold 106). -/
def State.txCredit (s : State) : Bool := Nat.blt s.schedule.length 32

/-- The request that a host's payload asks for; a payload that breaks Table 16.3, or needs more than one landing frame, is accepted
and ends MALFORMED (R360). Log entry 97: DEDUCED. -/
def State.hostRequest (s : State) (srcSeq : Nat) (cont : Bool) (d : List Byte) : TxReq :=
  let fl := byteAt d 2
  let rate := byteAt d 3
  let power := byteAt d 4
  let pre := byteAt d 5
  let ms := ofBe (slice d 6 2)
  let hold := ofBe (slice d 8 2)
  let len := ofBe (slice d 10 2)
  let ok := !cont && Nat.ble 12 d.length && byteAt d 0 == 0x61 && Nat.ble (byteAt d 1) 34 && Nat.blt fl 8 &&
    (Nat.ble rate 1 || rate == 0xFF) && (Nat.ble power 96 || power == 0xFF) && (inR 4 32 pre || pre == 0xFF) &&
    Nat.ble ms 1000 && Nat.ble hold 1000 && inR 1 2043 len && d.length == 12 + len
  { seq := 0, source := 0x63, srcSeq := srcSeq, urgent := ok && bit fl 1, malformed := !ok, channel := byteAt d 1,
    rate := if rate = 0xFF then s.get F.PLT_TX_CFG_RATE else rate,
    power := if power = 0xFF then s.get F.PLT_TX_CFG_POWER else power,
    preamble := if pre = 0xFF then s.get F.PLT_TX_CFG_PREAMBLE else pre,
    whiten := !bit fl 2, listenMs := if bit fl 0 then ms else 0,
    hold := if hold = 0 then s.get F.PLT_HOLD_LIMIT else hold,
    payloads := if ok then [slice d 12 len] else [], sent := 0, charged := false, attempts := 0, disturbed := false, entry := none,
    landed := if ok then [] else [srcSeq], copy := Copy.of [] }

/-- The frames of a relayed stream: one, or parts of 2,039 bytes behind a fragment header (R361). -/
def relayFrames (r : Relay) : List (List Byte) :=
  if r.fragment then
    let n := ceilDiv r.stream.length 2039
    (List.range n).map (fun i => r.ivTail ++ [BitVec.ofNat 8 i, BitVec.ofNat 8 n] ++ slice r.stream (2039 * i) 2039)
  else [r.stream]

/-- Whether a stream is within the limits of a relay (R361). -/
def relayFits (fragment : Bool) (len : Nat) : Bool := if fragment then Nat.ble len 32624 else Nat.ble len 2043

/-- A default request: channel and listening given, the rest from `PLT_TX_CFG` and `PLT_HOLD` (R361, R362). -/
def State.defaultRequest (s : State) (source srcSeq channel listenMs : Nat) (urgent : Bool) (frames : List (List Byte))
    (entry : Option Nat) : TxReq :=
  { seq := 0, source := source, srcSeq := srcSeq, urgent := urgent, malformed := false, channel := channel,
    rate := s.get F.PLT_TX_CFG_RATE, power := s.get F.PLT_TX_CFG_POWER, preamble := s.get F.PLT_TX_CFG_PREAMBLE,
    whiten := s.on F.PLT_TX_CFG_WHITEN, listenMs := listenMs, hold := s.get F.PLT_HOLD_LIMIT, payloads := frames,
    sent := 0, charged := false, attempts := 0, disturbed := false, entry := entry, landed := [], copy := Copy.of [] }

/-- The request of a relayed stream (R361). Log entry 95: DEDUCED. -/
def State.relayRequest (s : State) (r : Relay) : TxReq :=
  s.defaultRequest 0x62 r.srcSeq (s.get F.PLT_RELAY_CHANNEL) (s.get F.PLT_RELAY_LISTEN_MS) r.urgent (relayFrames r) none

/-- A periodic entry falls due: a request, or a skip where there is no credit or its last request is still there (R362). -/
def State.periodicDue (s : State) (e : Nat) : State :=
  match s.periodics[e]? with
  | none => s
  | some p =>
    if !(bit (s.get F.PLT_PERIODIC_EN_ENABLE) e) || !(s.serving || s.mode == .survey) || !s.domOn 7 then s
    else if s.sec % p.period != p.offset then s
    else if !s.txCredit || s.schedule.any (fun r => r.entry == some e) then s.up F.PLT_STATUS_PERIODIC_SKIP_EV
    else s.txAccept (s.defaultRequest 0x64 0 p.channel p.listenMs false [p.payload] (some e))

/-- The request served first: urgent ones in acceptance order, then the others (R363). -/
def State.txHead (s : State) : Option TxReq := (s.schedule.find? (·.urgent)).or s.schedule.head?

/-- The request that the schedule serves now. -/
def State.txNow (s : State) : Option TxReq := s.schedule.find? (fun r => r.seq == s.txAt.1)

/-- Changes the request with a number. -/
def State.txUpdate (s : State) (seq : Nat) (g : TxReq → TxReq) : State :=
  s.setSchedule (s.schedule.map (fun r => if r.seq == seq then g r else r))

/-- Results of a transmit request (Table 16.4). -/
def txSent : Nat := 0
/-- See `txSent`. -/
def txDisturbed : Nat := 1
/-- See `txSent`. -/
def txLate : Nat := 2
/-- See `txSent`. -/
def txNoBudget : Nat := 3
/-- See `txSent`. -/
def txBusy : Nat := 4
/-- See `txSent`. -/
def txMalformed : Nat := 5
/-- See `txSent`. -/
def txCut : Nat := 6
/-- See `txSent`. -/
def txDisabled : Nat := 7

/-- A transmit request ends: `PLT_LAST`, the counters, the event bit, the entry of every result but SENT, and its release (R276,
R360, R367). -/
def State.txEnd (s : State) (r : TxReq) (result : Nat) : State :=
  let s := ((s.put F.PLT_LAST_RESULT result).put F.PLT_LAST_FRAGMENTS r.sent).put F.PLT_LAST_SOURCE r.source
  let s := s.put F.PLT_LAST_SEQ_SEQ r.seq
  let s :=
    if result = txDisturbed then s.up F.PLT_STATUS_DISTURBED_EV
    else if result = txLate then (s.up F.PLT_STATUS_LATE_EV).bump F.PLT_REJECTS_A_LATE
    else if result = txNoBudget then (s.up F.PLT_STATUS_NO_BUDGET_EV).bump F.PLT_REJECTS_A_NO_BUDGET
    else if result = txBusy then (s.up F.PLT_STATUS_BUSY_EV).bump F.PLT_REJECTS_B_BUSY
    else if result = txSent then s
    else s.bump F.PLT_REJECTS_B_OTHER
  let s := s.when (result != txSent) (·.error 0x0903 .txDac 0 .notice
    { d0 := r.source, d1 := bits r.seq 16 16, d2 := bits r.seq 0 16, d3 := result })
  let s := s.releaseNo 0x64 r.seq
  -- the landing frames of a malformed item are released with it (R360)
  let s := s.each r.landed (fun n t => t.releaseNo 0x63 n)
  (s.putSchedule (s.schedule.filter (fun x => x.seq != r.seq))).setTxAt (0, .idle)

/-- Whether a pilot-link receive berth is past an SFD (R363 step 5). -/
def State.rxBusy (s : State) : Bool :=
  (List.range 96).any (fun n => s.std n == 7 && s.working n && Nat.ble 2 (s.get (F.PRX_SVC1_STATE n)))

/-- Whether the schedule is served: the mode is RUN, DRIFT or SURVEY, and no shutdown has begun, which holds the requests in retention
(R45, R358). Log entry 96: DEDUCED. -/
def State.scheduleServes (s : State) : Bool := (s.serving || s.mode == .survey) && s.domOn 7 && !s.closing && s.boot.isNone

/-- A request that waits at steps 3 to 6 and is no longer at the head starts again with its attempts at 0 (R363). -/
def State.headShow (s : State) (r : TxReq) : State :=
  match s.txNow with
  | some x => if x.seq = r.seq then s else s.txUpdate x.seq (fun x => { x with attempts := 0 })
  | none => s

/-- The checks of steps 1 to 7 for the request at the head (R363). -/
def State.scheduleStep (s : State) : State :=
  let busy := match s.txAt.2 with
    | .cca | .backoff | .started | .window | .turnround => s.txNow.isSome
    | _ => false
  if busy || !s.scheduleServes then s
  else match s.txHead with
    | none => s
    | some r =>
      let s := s.headShow r
      let wait (st : TxStage) : State := (s.setTxAt (r.seq, st)).setCca []
      if !s.on F.PLT_CTRL_RUN then s.txEnd r txDisabled
      else if r.malformed then s.txEnd r txMalformed
      else if !s.pairReady || (s.unit .txDac 0).testing then wait .lockWait
      else if !r.urgent && s.on F.PLT_CTRL_LISTENING then wait .listenWait
      else if !r.urgent && s.rxBusy then wait .rxWait
      else if !r.charged && Nat.blt (s.allowance r.urgent) (s.dutyUsed + r.air) then wait .budgetWait
      else wait .cca

/-- The start decision t_d: the air time is charged to the bin of the present second, and TX_BUSY rises (R357, R363, R365). -/
def State.startDecision (s : State) (r : TxReq) : State :=
  let t := airUnits r.rate r.preamble ((r.payloads.headD []).length)
  let old := ((s.dutyBins.find? (·.1 == s.sec)).map (·.2)).getD 0
  let s := s.setDutyBins (s.dutyBins.filter (·.1 != s.sec) ++ [(s.sec, old + t)])
  let s := (s.txUpdate r.seq (fun r => { r with charged := true })).setTxAt (r.seq, .started)
  s.up F.PLT_CTRL_TX_BUSY

/-- An urgent request took the head meanwhile: the displaced one starts again at step 1 with its attempts at 0 (R363). -/
def State.displaced (s : State) (r : TxReq) : Option State :=
  match s.txHead with
  | some h => if h.seq = r.seq then none
      else some (((s.txUpdate r.seq (fun r => { r with attempts := 0 })).setTxAt (h.seq, .idle)).scheduleStep)
  | none => none

/-- The bin in which the clear-channel detector listens to a channel (R364). -/
def ccaBin (channel : Nat) : Nat := if Nat.ble channel 10 then 184 else 185

/-- The centre of a channel in Hz (Table 16.1). -/
def channelHz (channel : Nat) : Nat := 863100000 + 200000 * channel

/-- The level that the clear-channel detector finds on a channel, in 0.001 dBm at the reference plane: the larger of the intakes that are on and
valid (R243, R244, R364). Log entry 131: DESIGN CHOICE. -/
def State.ccaLevel (s : State) (channel rate : Nat) : Int :=
  let one (k : Nat) : Option Int :=
    let l := Tbl.get (fun _ => []) s.cca k
    if !s.intakeOk k || l.isEmpty then none
    else
      let gain := gainOf ((l.getLast?.map (·.marks)).getD 0)
      let off := 6020 + (-10000 - 1000 * netOf gain) + s.extLoss k ((channelHz channel : Nat) * 2 ^ 32)
      some (millibel (Config.channelPower rate channel (l.map (fun x => (x.re, x.im)))) (32768 ^ 2) + off)
  (([1, 2].filterMap one).max?).getD Config.noIntake

/-- Bin samples in the 8 bit periods of a clear-channel measurement, at 9.375 MS/s (R114, R364). -/
def ccaSamples (rate : Nat) : Nat := if rate = 0 then 1500 else 750

/-- A bin sample for the clear-channel measurement that runs (R364). -/
def State.ccaTake (s : State) (k : Nat) (bins : List Smp) : State :=
  match s.txAt.2, s.txNow with
  | .cca, some r =>
    let l := Tbl.get (fun _ => []) s.cca k
    if Nat.blt l.length (ccaSamples r.rate) then s.setCca (Tbl.set (fun _ => []) s.cca k (l ++ (bins.drop (ccaBin r.channel)).take 1)) else s
  | _, _ => s

/-- The clear-channel measurement ends (R363, R364). -/
def State.ccaDone (s : State) : State :=
  match s.txAt.2, s.txNow with
  | .cca, some r =>
    match s.displaced r with
    | some t => t
    | none =>
      if s.ccaLevel r.channel r.rate < 1000 * sext 8 (s.get F.PLT_RX_CFG_CCA_THRESH) then
        if s.pairReady then s.startDecision r else s.setTxAt (r.seq, .lockWait)
      else if r.attempts = 7 then s.txEnd r txBusy
      else
        let d := s.random 4
        let b := if r.urgent then 1 + ofBe d.1 % 8 else 5 + ofBe d.1 % 36
        ((d.2.txUpdate r.seq (fun r => { r with attempts := r.attempts + 1 })).setTxAt (r.seq, .backoff)).setBackoff b
  | _, _ => s

/-- A backoff ends, and the channel is checked again (R364). -/
def State.backoffEnd (s : State) : State :=
  match s.txAt.2, s.txNow with
  | .backoff, some r => (s.displaced r).getD ((s.setTxAt (r.seq, .cca)).setCca [])
  | _, _ => s

/-- The lock wait of the head exceeds its hold limit (R358). -/
def State.lockWaitExpire (s : State) : State :=
  match s.txAt.2, s.txNow with
  | .lockWait, some r => s.txEnd r txLate
  | _, _ => s

/-- The head has waited for budget as long as it may (R365). -/
def State.budgetWaitExpire (s : State) : State :=
  match s.txAt.2, s.txNow with
  | .budgetWait, some r => s.txEnd r txNoBudget
  | _, _ => s

/-! Frames on the air (R352, Table 16.1). -/

/-- The first `n` bits of the PN9 sequence (Table 16.1). Log entry 132: PRESUMED. -/
def pn9 (n : Nat) : List Bool :=
  ((List.range n).foldl (fun (a : List Bool × List Bool) _ =>
    let b := a.1.headD false != a.1.getD 5 false
    (a.1.tail ++ [b], b :: a.2)) (List.replicate 9 true, [])).2.reverse

/-- The octets of a PSDU whitened, or de-whitened: each bit, the least significant first, with the next bit of PN9 (Table 16.1). Log entry 132:
PRESUMED. -/
def whitened (l : List Byte) : List Byte :=
  let w := pn9 (8 * l.length)
  l.mapIdx (fun i x => x ^^^ BitVec.ofNat 8 (((List.range 8).map (fun j => b2n (w.getD (8 * i + j) false) * 2 ^ j)).sum))

/-- The octets of a frame (Table 16.1): preamble, SFD, PHR, and the PSDU with its FCS, whitened where DW is set. Log entry 132: PRESUMED. -/
def TxReq.octets (r : TxReq) : List Byte :=
  let d := r.payloads.headD []
  let psdu := d ++ be 4 (crc32 d).toNat
  List.replicate r.preamble 0x55#8 ++ [0x90#8, 0x4E#8] ++ be 2 (b2n r.whiten * 2048 + psdu.length) ++ (if r.whiten then whitened psdu else psdu)

/-- The level that the transmitter drives at a power code, in 0.01 dBm: P_set within 0.5 dB, and never above +14 dBm (R354, R355).
Log entry 131: DESIGN CHOICE. -/
def State.txLevel (s : State) (power : Nat) (clamped : Bool) : Int :=
  if clamped then 1400
  else min 1400 (-1000 + 25 * (power : Int) + max (-50) (min 50 (Config.driver (s.get F.SUP_TEMP_TEMP) (s.get (F.SUP_LEVEL_MV 3)))))

/-! Reception (R369 to R373). -/

/-- What an unlisted receive berth holds. -/
def Rx.reset : Rx := ⟨0, 0, 0, 0, 0, 0xFFFFFFFF, 0, 0, 0⟩

/-- The reception of a berth. -/
def State.rxOf (s : State) (n : Nat) : Rx := Tbl.get (fun _ => Rx.reset) s.rx n

/-- Writes the reception of a berth. -/
def State.putRx (s : State) (n : Nat) (r : Rx) : State := { s with rx := Tbl.set (fun _ => Rx.reset) s.rx n r }

/-- The newest lane samples of a receive berth. -/
def State.heardBy (s : State) (n : Nat) : List (Int × Int × Nat) := Tbl.get (fun _ => []) s.rxHeard n

/-- A lane sample of a receive berth is kept for its levels. -/
def State.rxTake (s : State) (n : Nat) (y : BSmp) (off : Int) : State :=
  s.setRxHeard (Tbl.set (fun _ => []) s.rxHeard n (((y.stamp, off, (y.re * y.re + y.im * y.im).toNat) :: s.heardBy n).take 256))

/-- Lane samples of a bit period at 400 kS/s (Table 16.1, R369). -/
def State.rxBit (s : State) (n : Nat) : Nat := if s.on (F.PRX_SVC0_RATE n) then 4 else 8

/-- The channel power over the last `bits` bit periods in 0.001 dBm at the reference plane (R243, R244, R370, R371). Log entry 131: DESIGN CHOICE.
-/
def State.rxLevel (s : State) (n bits : Nat) : Int :=
  let l := (s.heardBy n).take (bits * s.rxBit n)
  powerOf ((l.map (·.2.2)).sum) l.length ((l.head?.map (·.2.1)).getD 0)

/-- The ANT-pin time of the first sample of the last `bits` bit periods, in ns of the counter. -/
def State.rxSince (s : State) (n bits : Nat) : Int := ((((s.heardBy n).take (bits * s.rxBit n)).getLast?).map (·.1)).getD 0

/-- FEV in 0.1 %: the RMS of (f_measured − f_ideal) ÷ f_dev over the bits of PHR and PSDU on the air (R371, Table 16.1). Log entry 132: PRESUMED. -/
def fevOf (fast : Bool) (phr : Nat) (psdu : List Byte) (freqs : List Int) : Nat :=
  let dev : Int := if fast then 50000 else 25000
  let sent := (List.range 16).map (fun i => bit phr (15 - i)) ++ (psdu.map (fun x => (List.range 8).map (bit x.toNat))).flatten
  let errs := List.zipWith (fun (b : Bool) (f : Int) => (f - if b then dev else -dev) ^ 2) sent freqs
  if errs.isEmpty then 0 else min 65535 (Nat.sqrt (10 ^ 6 * errs.sum.toNat / (errs.length * dev.toNat ^ 2)))

/-- A pilot-link receive berth at work, on a valid branch and outside a pilot window (R96, R110). -/
def State.rxWorks (s : State) (n : Nat) : Bool := Nat.blt n 96 && s.std n == 7 && s.working n && !s.pilotWindow && s.fed n

/-- Status codes of a received frame (Table 16.6). -/
def rxOk : Nat := 0
/-- See `rxOk`. -/
def rxFcsFail : Nat := 1
/-- See `rxOk`. -/
def rxPreempted : Nat := 2
/-- See `rxOk`. -/
def rxBlanked : Nat := 3
/-- See `rxOk`. -/
def rxPhrInvalid : Nat := 4
/-- See `rxOk`. -/
def rxCaptureLost : Nat := 5

/-- LQI = min(255, round(8.5 × max(0, SNR))), SNR in 0.1 dB (R371). -/
def lqi (snr : Int) : Nat := min 255 ((85 * snr.toNat + 50) / 100)

/-- The consignment of a frame (Table 16.6). -/
def State.rxEmit (s : State) (n status fev : Nat) (psdu : List Byte) : State :=
  let r := s.rxOf n
  let fl := b2n (bit r.phr 11) * 128 + s.get (F.PRX_SVC0_RATE n) * 64 + s.get (F.LN_CTRL_DIVERSITY n) * 32 + r.branches % 4
  let p := [0x71#8] ++ be 1 (s.get (F.PRX_SVC0_CHANNEL n)) ++ be 1 status ++ be 1 fl ++ be 1 r.lqi ++ be 1 0 ++ be 2 fev ++
    be 2 (toBits 16 r.power) ++ be 2 (toBits 16 r.freq) ++ be 2 psdu.length ++ be 2 0 ++ be 4 r.listen
  s.emit n 0x0D (s.berthFlags n) r.ts (p ++ psdu)

/-- A frame that ends other than OK: it is counted, and with REPORT_FAILED reported after its SFD with what was measured until then (R370 to
R372). Log entry 131: DESIGN CHOICE. -/
def State.rxFail (s : State) (n status : Nat) (fev : Nat := 0) : State :=
  let past := Nat.ble 2 (s.get (F.PRX_SVC1_STATE n))
  let s :=
    if status = rxFcsFail then (s.up (F.PRX_SVC1_FCS_FAIL_EV n)).bump (F.PRX_SVC3_FCS_FAIL n)
    else if status = rxPreempted then (s.up (F.PRX_SVC1_PREEMPT_EV n)).bump (F.PRX_SVC3_PREEMPTED n)
    else if status = rxBlanked then (s.up (F.PRX_SVC1_BLANKED_EV n)).bump (F.PRX_SVC4_BLANKED n)
    else if status = rxPhrInvalid then s.up (F.PRX_SVC1_PHR_INVALID_EV n)
    else s.up (F.PRX_SVC1_CAPTURE_OVERRUN_EV n)
  s.when (past && s.on F.PLT_RX_CFG_REPORT_FAILED) (·.rxEmit n status fev [])

/-- Enters a state of `BTH_SVC1.STATE`. -/
def State.rxState (s : State) (n st : Nat) : State := s.put (F.PRX_SVC1_STATE n) st

/-- Whether a preamble declared with this timing, frequency and level is new beside the current one: its bit timing differs by more than a
quarter of a bit, its frequency by more than 5 kHz, or it is 3 dB or more above (R370). -/
def Rx.differs (r : Rx) (timing : Nat) (freq level : Int) : Bool :=
  let d := (timing + 64 - r.timing) % 64
  inR 17 47 d || Nat.blt 500 (freq - r.freq).natAbs || decide (r.level + 3000 ≤ level)

/-- A preamble is declared (R370). -/
def State.preamble (s : State) (n timing : Nat) (freq : Int) : State :=
  let st := s.get (F.PRX_SVC1_STATE n)
  let r := s.rxOf n
  let level := s.rxLevel n 16
  let begun (s : State) : State := (s.rxState n 1).putRx n { Rx.reset with timing := timing, freq := freq, level := level }
  let isNew := r.differs timing freq level
  if !s.rxWorks n then s
  else if st = 0 || (st = 1 && isNew) then begun s
  else if Nat.ble 2 st && isNew && decide (r.level + 1000 * (s.get F.PLT_RX_CFG_CAPTURE : Nat) ≤ level) then begun (s.rxFail n rxPreempted)
  else s

/-- The listen window on a channel that an ANT-pin time lies in: its request (R366). -/
def State.listenAt (s : State) (channel : Nat) (ns : Int) : Nat :=
  match s.listens.find? (fun w => w.2.1 == channel && decide ((w.2.2.1 : Int) ≤ ns) && (match w.2.2.2 with
    | some e => decide (ns < (e : Int))
    | none => true)) with
  | some w => w.1
  | none => 0xFFFFFFFF

/-- The SFD is found: AFC freezes and the PHR is read; a listen window that holds the SFD's first bit tags the frame (R366, R370, R372). -/
def State.sfd (s : State) (n : Nat) (freq : Int) : State :=
  if s.rxWorks n && s.get (F.PRX_SVC1_STATE n) == 1 then
    let at_ := s.rxSince n 16
    let r := s.rxOf n
    (s.rxState n 2).putRx n
      { r with freq := freq, level := s.rxLevel n 16, branches := s.get (F.LN_STATUS_VALID1 n) + 2 * s.get (F.LN_STATUS_VALID2 n),
               ts := tsOfPs at_, listen := s.listenAt (s.get (F.PRX_SVC0_CHANNEL n)) (at_ / 1000) }
  else s

/-- No SFD comes: a false preamble (R370). -/
def State.sfdTimeout (s : State) (n : Nat) : State :=
  if s.rxWorks n && s.get (F.PRX_SVC1_STATE n) == 1 then
    ((s.rxState n 0).up (F.PRX_SVC1_FALSE_PREAMBLE_EV n)).bump (F.PRX_SVC4_FALSE_PREAMBLE n)
  else s

/-- The PHR is read: a mode switch, FCS type 1 or a length below 5 ends the frame; LQI and level stand over SFD and PHR (R370, R371).
Log entry 97: DEDUCED. -/
def State.phr (s : State) (n w : Nat) (snr : Int) : State :=
  if s.rxWorks n && s.get (F.PRX_SVC1_STATE n) == 2 then
    let s := s.putRx n { s.rxOf n with phr := w, lqi := lqi snr, power := roundDiv (s.rxLevel n 32) 100 }
    if bit w 15 || bit w 12 || Nat.blt (bits w 0 11) 5 then (s.rxFail n rxPhrInvalid).rxState n 0 else s.rxState n 3
  else s

/-- The PSDU ends: it is de-whitened where DW is set, and the FCS decides (R370 to R372). Log entry 94: DEDUCED. -/
def State.rxFrame (s : State) (n : Nat) (air : List Byte) (freqs : List Int) : State :=
  if s.rxWorks n && s.get (F.PRX_SVC1_STATE n) == 3 then
    let r := s.rxOf n
    let psdu := if bit r.phr 11 then whitened air else air
    let data := psdu.take (psdu.length - 4)
    let fcs := ofBe (psdu.drop (psdu.length - 4))
    let fev := fevOf (s.on (F.PRX_SVC0_RATE n)) r.phr air freqs
    let s := ((s.put (F.PRX_SVC5_LAST_LQI n) r.lqi).put (F.PRX_SVC6_LAST_FEV n) fev).put (F.PRX_SVC7_LAST_FOFFSET n) (toBits 16 r.freq)
    let s := if fcs = (crc32 data).toNat && psdu.length == bits r.phr 0 11 then
        ((s.up (F.PRX_SVC1_FRAME_EV n)).bump (F.PRX_SVC2_FRAMES_OK n)).rxEmit n rxOk fev data
      else s.rxFail n rxFcsFail fev
    s.rxState n 0
  else s

/-- The pilot-link receive berth whose capture FIFO is `i`: the i-th by berth number. Log entry 94: DEDUCED. -/
def State.rxBerth (s : State) (i : Nat) : Option Nat :=
  ((List.range 96).filter (fun n => s.std n == 7 && !s.on (F.BTH_CTRL_STOPPED n)))[i]?

/-- A pilot capture FIFO overruns (R268, R373). -/
def State.captureOverrun (s : State) (i : Nat) : State :=
  match s.rxBerth i with
  | none => s
  | some n =>
    let s := ((s.up (F.HLD_STATUS_OVERRUN_EV.ofHold (112 + i))).up F.PLT_STATUS_CAPTURE_OVERRUN).error 0x0601 .hold (112 + i) .detected
    -- a frame that a pilot window has ended is over (R373)
    ((s.when s.pilotWindow (·.rxState n 0)).rxFail n rxCaptureLost).rxState n 0

/-! The transmitter (R354 to R357, R366). -/

/-- Shows LISTEN_OPEN at the receive berths of a channel. -/
def State.showListen (s : State) (channel v : Nat) : State :=
  s.each (List.range 96) (fun n t => if t.std n == 7 && t.get (F.PRX_SVC0_CHANNEL n) == channel then t.put (F.PRX_SVC1_LISTEN_OPEN n) v else t)

/-- Closes the listen window. -/
def State.listenClose (s : State) : State :=
  match s.listen with
  | none => s
  | some (q, ch) =>
    let done := s.listens.map (fun w => if w.1 == q && w.2.2.2.isNone then (w.1, w.2.1, w.2.2.1, some s.nowNs) else w)
    (((s.setListen none).setListens done).down F.PLT_CTRL_LISTENING).showListen ch 0

/-- Opens a listen window (R366). -/
def State.listenOpen (s : State) (seq channel : Nat) : State :=
  let s := s.listenClose
  (((s.setListen (some (seq, channel))).setListens (((seq, channel, s.nowNs, none) :: s.listens).take 8)).up F.PLT_CTRL_LISTENING).showListen
    channel 1

/-- The pilot window opens (R96, R355, R356, R357): the switches go to transmit, the intakes hold AGC, frames past their SFD end BLANKED.
Log entry 95: DEDUCED. -/
def State.windowOpen (s : State) (clamped : Bool) : State :=
  match s.txAt.2, s.txNow with
  | .started, some r =>
    let s := (s.setTxAt (r.seq, .window)).setTrsw true
    let power := min r.power (s.get F.PLT_TX_CFG_POWER)
    let s := (s.setOnAir (some (r.channel, power, r.octets))).put F.PLT_TX_LEVEL_LEVEL (toBits 16 (s.txLevel power clamped))
    let s := (s.when r.urgent (·.listenClose)).setPilotWindow true
    let s := s.each [1, 2] (fun k t => (t.up (F.INT_STATUS_PILOT_TX k)).agcShow k)
    let s := s.each ((List.range 96).filter (fun n => s.std n == 7 && s.laneRuns n)) (fun n t => t.up (F.LN_STATUS_SETTLING n))
    let s := s.each (List.range 96) (fun n t =>
      if t.std n == 7 && t.working n && Nat.ble 2 (t.get (F.PRX_SVC1_STATE n)) then t.rxFail n rxBlanked else t)
    s.when clamped (fun s => ((s.up F.PLT_STATUS_CLAMP_EV).error 0x0901 .txDac 0 .detected).startTest .txDac 0 0x0901 false)
  | _, _ => s

/-- The last FCS bit ends: the DAC goes to 0, the switches to receive, and LIVE changes apply (R357, R368, Table 3.15). Log entry 94: DEDUCED. -/
def State.airEnd (s : State) : State :=
  match s.txAt.2, s.txNow with
  | .window, some r =>
    let s := ((s.setTxAt (r.seq, .turnround)).setTrsw false).setOnAir none
    let s := (s.bumpWrap F.PLT_SENT_COUNT).txUpdate r.seq (fun r => { r with payloads := r.payloads.drop 1, sent := r.sent + 1, attempts := 0 })
    s.applyArmed pltCommit
  | _, _ => s

/-- The pilot window closes (R96, R357, R373). -/
def State.windowClose (s : State) : State :=
  let s := (s.setPilotWindow false).down F.PLT_CTRL_TX_BUSY
  let s := s.each [1, 2] (fun k t => (t.down (F.INT_STATUS_PILOT_TX k)).agcShow k)
  let s := s.each ((List.range 96).filter (fun n => s.std n == 7 && s.laneRuns n && s.fed n && s.startSettled n)) (fun n t =>
    t.down (F.LN_STATUS_SETTLING n))
  let s := s.each (List.range 96) (fun n t => if t.std n == 7 then t.rxState n 0 else t)
  s.put F.PLT_CTRL_STOPPED (b2n (!s.on F.PLT_CTRL_RUN))

/-- How a request ends whose every frame has been sent (R359, Table 16.4). -/
def TxReq.over (r : TxReq) : Nat := if r.disturbed then txDisturbed else txSent

/-- The TX-to-RX turn-round ends: the window closes; the request ends, or its next fragment follows; a listen window opens (R357,
R361, R366). -/
def State.turnroundEnd (s : State) : State :=
  match s.txAt.2, s.txNow with
  | .turnround, some r =>
    let s := s.windowClose
    if r.payloads.isEmpty then
      let s := s.txEnd r r.over
      s.when (r.listenMs != 0) (·.listenOpen r.seq r.channel)
    else s.setTxAt (r.seq, .idle)
  | _, _ => s

/-- A bin leaves the rolling hour 3,601 s after its start (R365). -/
def State.dutyExpire (s : State) (second : Nat) : State := s.setDutyBins (s.dutyBins.filter (·.1 != second))

/-- The schedule leaves the request that it serves; one whose last frame has been sent ends with it (Tables 16.4 and 16.5). -/
def State.txLeave (s : State) : State :=
  match s.txAt.2, s.txNow with
  | .turnround, some r => if r.payloads.isEmpty then s.txEnd r r.over else s.setTxAt (0, .idle)
  | _, _ => s.setTxAt (0, .idle)

/-- The transmitter stops at once: a frame in the air ends CUT, and the switches go to receive (R41, R368). -/
def State.pilotStop (s : State) : State :=
  let s := match s.txAt.2, s.txNow with
    | .started, some r => s.txEnd r txCut
    | .window, some r => s.txEnd r txCut
    | _, _ => s.txLeave
  let s := (s.setTrsw false).setOnAir none
  (s.windowClose).listenClose

/-- QUAY fails: the transmitter falls silent and its windows close. The request that was served stays in the schedule, and is served again once
the schedule is restored (Table 12.6). -/
def State.pilotHalt (s : State) : State :=
  let s := ((s.txLeave).setTrsw false).setOnAir none
  (s.windowClose).listenClose

/-- A frame on air while the timebase switches the sample pair ends SENT_DISTURBED (R359). -/
def State.pilotDisturb (s : State) : State :=
  match s.txAt.2 with
  | .window => s.txUpdate s.txAt.1 (fun r => { r with disturbed := true })
  | _ => s

/-- RUN of the link: a link told to stop with nothing on the air stops at once (R363, R368). -/
def State.pilotRunShow (s : State) : State :=
  s.when (!s.on F.PLT_CTRL_TX_BUSY) (·.put F.PLT_CTRL_STOPPED (b2n (!s.on F.PLT_CTRL_RUN)))

end Sys2Proof.Machine
end

