-- ==== Sys2Proof/Machine/Bond.lean ====
section
/-! DEFINITION. The bond engine (15_bond.md): service, GCM and XTS requests, verdicts, the IV table, keys, erasure, alarms and
randomness. -/

namespace Sys2Proof.Machine

/-! The engine. -/

/-- Shows ENGINE_OK: the DRBG seeded, no entropy failure, QUAY on, and the engine neither tested nor retired (R324, Tables 15.11
and 18.7). -/
def State.engineShow (s : State) : State :=
  let u := s.unit .bond 0
  s.put F.BOND_STATUS_ENGINE_OK (b2n (s.drbg.isSome && !s.on F.BOND_STATUS_ENTROPY_FAIL && s.domOn 7 && !u.testing && !u.retired))

/-- Seeds the DRBG with fresh entropy (R324). -/
def State.seed (s : State) : State := (s.entropy.2.setDrbg (some (Drbg.fresh s.drbg s.entropy.1))).engineShow

/-- An entropy health test fails: the engine stops before its next block (R324). -/
def State.entropyFail (s : State) (injected : Bool := false) : State :=
  let s := (s.up F.BOND_STATUS_ENTROPY_FAIL).down F.BOND_STATUS_ENGINE_OK
  ((s.error 0x0701 .bond 0 .detected { injected := injected }).startTest .bond 0 0x0701 injected).engineShow

/-- The seed is retried: with a test that passes the engine resumes (R324). -/
def State.entropyRetry (s : State) (pass : Bool) : State :=
  if s.on F.BOND_STATUS_ENTROPY_FAIL && pass then (s.down F.BOND_STATUS_ENTROPY_FAIL).seed else s

/-- The shares of a slot that holds a key are re-randomised under a new mask (R323). -/
def State.refreshShare (s : State) (i : Nat) : State :=
  match (s.slot i).key with
  | some key => (s.random key.length).2.putSlot i { s.slot i with mask := (s.random key.length).1 }
  | none => s

/-- The key shares of every slot are refreshed with new masks (R323). -/
def State.refreshShares (s : State) : State := s.each (List.range 32) (fun i t => t.refreshShare i)

/-- Journals a bond slot write (R63). -/
def State.slotWritten (s : State) (i source address : Nat) : State := s.journal address 0 0 source 9 i

/-- A key takes effect in a slot: the generation advances, the shares are masked afresh, ERASED clears (R323, R327, R347). -/
def State.setKey (s : State) (i : Nat) (key : List Byte) (usage source address : Nat) : State :=
  let d := s.random key.length
  let x := d.2.slot i
  ((d.2.putSlot i ⟨some key, usage, (x.gen + 1) % 65536, d.1, none⟩).down F.BOND_STATUS_ERASED).slotWritten i source address

/-- The slots that a request names. -/
def BReq.names (r : BReq) (i : Nat) : Bool := r.slot == i || (r.mode != 1 && r.slot + 1 == i)

/-- The generation that a request bound for a slot it names. -/
def BReq.boundGen (r : BReq) (i : Nat) : Nat := if r.slot == i then r.gen else r.gen2

/-- Whether a request in flight, one that has not ended, is bound to the generation that a slot has now (R347). -/
def State.inUse (s : State) (i : Nat) : Bool := s.bondReqs.any (fun r => !r.ended && r.names i && r.boundGen i == (s.slot i).gen)

/-- Applies the deferred keys of slots whose requests of the old generation have all ended (R347). -/
def State.applyDeferred (s : State) : State :=
  s.each (List.range 32) (fun i t =>
    let x := t.slot i
    match x.pending with
    | some (key, usage, image) =>
      if t.inUse i then t
      else t.setKey i key usage srcSupervisor (if image then 4 else 0x2401)
    | none => t)

/-- Puts a key into a slot, or defers it while requests of its generation are in flight (R347). -/
def State.loadSlot (s : State) (i : Nat) (key : List Byte) (usage source : Nat) (image : Bool) : State :=
  let x := s.slot i
  if s.inUse i then s.putSlot i { x with pending := some (key, usage, image) }
  else s.setKey i key usage source (if image then 4 else 0x2401)

/-- Whether a usage fits a slot's parity: XTS data keys in even slots, tweak keys in odd ones (R325). -/
def usageFits (i usage : Nat) : Bool := usage == 1 || (usage == 2 && i % 2 == 0) || (usage == 3 && i % 2 == 1)

/-- Whether a key would equal the key of the other slot of its XTS pair (R326). -/
def State.pairClash (s : State) (i usage : Nat) (key : List Byte) : Bool :=
  let o := s.slot (if i % 2 = 0 then i + 1 else i - 1)
  usage != 1 && ((o.usage != 1 && o.key == some key) || (match o.pending with
    | some (k, u, _) => u != 1 && k == key
    | none => false))

/-! GCM requests (R334 to R341). -/

/-- Reasons of a REJECT verdict (Table 15.6). -/
def rsnNone : Nat := 0
/-- See `rsnNone`. -/
def rsnTagFail : Nat := 1
/-- See `rsnNone`. -/
def rsnKeyGone : Nat := 2
/-- See `rsnNone`. -/
def rsnLength : Nat := 3
/-- See `rsnNone`. -/
def rsnSlotEmpty : Nat := 4
/-- See `rsnNone`. -/
def rsnWrongUsage : Nat := 5
/-- See `rsnNone`. -/
def rsnVersion : Nat := 6
/-- See `rsnNone`. -/
def rsnMalformed : Nat := 7
/-- See `rsnNone`. -/
def rsnBroken : Nat := 8

/-- IV of an envelope. -/
def envIv (e : List Byte) : List Byte := slice e (5 + envHl e) 12

/-- AAD of an envelope: its fixed fields and header (R335). -/
def envAad (e : List Byte) : List Byte := e.take (5 + envHl e)

/-- Ciphertext of an envelope. -/
def envCt (e : List Byte) : List Byte := slice e (17 + envHl e) (envC e)

/-- Tag of an envelope. -/
def envTag (e : List Byte) : List Byte := slice e (17 + envHl e + envC e) 16

/-- Whether TAG96 is set. -/
def envTag96 (e : List Byte) : Bool := bit (byteAt e 1) 3

/-- Checks 1 to 4 of Table 15.4. -/
def BReq.early (r : BReq) : Nat :=
  let e := r.data
  if r.broken then rsnBroken
  else if byteAt e 0 != 1 then rsnVersion
  else if Nat.ble 16 (byteAt e 1) || Nat.ble 32 (byteAt e 2) || Nat.blt e.length (33 + envHl e) ||
      (r.complete && envTag96 e && (envTag e).drop 12 != [0#8, 0#8, 0#8, 0#8]) then rsnMalformed
  else if Nat.blt 16777216 (envC e) then rsnLength
  else rsnNone

/-- Checks 5 to 7 of Table 15.4. -/
def State.slotCheck (s : State) (r : BReq) : Nat :=
  let x := s.slot r.slot
  if x.key.isNone then rsnSlotEmpty
  else if x.usage != 1 then rsnWrongUsage
  else if x.gen != r.gen then rsnKeyGone
  else rsnNone

/-- The bytes that service of a request can process so far: A + C for GCM, the unit for XTS. -/
def BReq.total (r : BReq) : Nat :=
  if r.mode = 1 then 5 + envHl r.data + envC r.data else if r.mode = 2 then r.data.length else r.data.length - 16 * r.frames.length

/-- The entry of the IV table that a request matches (R341). -/
def State.ivMatch (s : State) (r : BReq) : Option IvEntry :=
  s.ivTable.find? (fun e => e.slot == r.slot && e.gen == r.gen && e.iv == envIv r.data)

/-- Whether a request waits behind its twin (R341). -/
def State.behindTwin (s : State) (r : BReq) : Bool :=
  r.mode == 1 && r.early == rsnNone && !r.owns && (match s.ivMatch r with
    | some e => e.state == 0
    | none => false)

/-- Whether the engine can take a request: whole or streaming, its bound key not still deferred, no twin before it (R330, R341,
R347). -/
def State.servable (s : State) (r : BReq) : Bool :=
  (r.complete || r.broken || r.streams) && !r.ended && !s.behindTwin r &&
  [r.slot, r.slot + 1].all (fun i => !(r.names i && (s.slot i).pending.isSome && r.boundGen i == ((s.slot i).gen + 1) % 65536))

/-- Shows the fill of the IV table. -/
def State.putIv (s : State) (l : List IvEntry) : State := (s.setIvTable l).put F.BOND_IV_FILL_ENTRIES l.length

/-- Sets the state of the entry that a request matches; a changed entry becomes the newest (R341). -/
def State.ivSet (s : State) (r : BReq) (state : Nat) : State :=
  match s.ivMatch r with
  | none => s
  | some e => s.putIv (s.ivTable.filter (· != e) ++ [{ e with state := state, time := s.clock }])

/-- Makes an IN_FLIGHT entry; a full table evicts its oldest entry that is not IN_FLIGHT (R341). -/
def State.ivMake (s : State) (r : BReq) : State :=
  let e : IvEntry := ⟨r.slot, r.gen, envIv r.data, 0, s.clock⟩
  let s := if Nat.ble 4096 s.ivTable.length then
      (match s.ivTable.find? (fun x => x.state != 0) with
        | some old => (s.putIv (s.ivTable.filter (· != old))).up F.BOND_STATUS_IV_EVICT_EV
        | none => s)
    else s
  (s.putIv (s.ivTable ++ [e])).updReq r.id (fun r => { r with owns := true })

/-- A request leaves the request hold: its producer's number is released, and with it its captured consignments, or the landing frames of an item
that ended unaccepted; waiting units and datagrams find room (R276, R299, R344). -/
def State.freeReq (s : State) (r : BReq) : State :=
  let s := s.putReqs (s.bondReqs.filter (fun x => x.id != r.id))
  let s := if r.mode = 2 then s.each r.fed (fun f t => t.release f.1 f.2)
    else (s.releaseNo r.src r.srcSeq).each r.landed (fun n t => t.releaseNo 0x63 n)
  s.each (List.range 8) (fun c t => t.capPump c)

/-- Whether outputs of the engine wait for credit of the bond output hold, so that the engine waits (R18). -/
def State.outputsWait (s : State) : Bool := !(s.waiting 0x62).isEmpty

/-- Whether the relay of an ended request still waits for credit of the pilot schedule (R340). -/
def State.relayWaits (s : State) (r : BReq) : Bool := s.relays.any (fun y => y.source == r.src && y.srcSeq == r.srcSeq)

/-- The oldest relayed stream that waits is accepted as a transmit request, where the schedule has credit (R340). -/
def State.relayNext (s : State) : State :=
  match s.relays with
  | y :: rest => if s.txCredit then ((s.setRelays rest).take (256 + 0x62) y.srcSeq).txAccept (s.relayRequest y) else s
  | [] => s

/-- Once the outputs of ended requests are accepted, their relays follow, and each leaves the request hold when its last hand-over is accepted
(R18, R276, R340). -/
def State.bondSettle (s : State) : State :=
  if s.outputsWait then s
  else
    let s := (List.range s.relays.length).foldl (fun (t : State) _ => t.relayNext) s
    s.each (s.bondReqs.filter (fun r => r.ended && !s.relayWaits r)) (fun r t => t.freeReq r)

/-- A request ends: the engine is free of it, deferred keys that waited for it apply, and it leaves the hold once its outputs are accepted
(R276, R347). Log entry 91: DEDUCED. -/
def State.endReq (s : State) (r : BReq) : State :=
  let s := s.updReq r.id (fun r => { r with ended := true })
  (((s.when (s.bondNow == some r.id) (·.setBondNow none)).applyDeferred).bondSettle)

/-- Discards the plaintext consignments of a request that have not been accepted (R347, R395). -/
def State.dropPlain (s : State) (r : BReq) : State :=
  let mine (w : Wait) : Bool := w.content == 0x0A && slice w.payload 3 5 == be 1 r.src ++ be 4 r.srcSeq
  let n := ((s.waiting 0x62).filter mine).length
  (s.putWaiting 0x62 ((s.waiting 0x62).filter (fun w => !mine w))).updReq r.id (fun r => { r with outs := r.outs - n })

/-- A request as the hold has it now. -/
def State.reqNow (s : State) (r : BReq) : BReq := (s.bondReqs.find? (fun x => x.id == r.id)).getD r

/-- The stream of R339: envelope bytes 0 to 4 and header, then the plaintext under a key. -/
def gcmStream (key e : List Byte) : List Byte := envAad e ++ gcmText key (envIv e) (envCt e)

/-- Emits the plaintext consignments of a stream from number `k` on, `n` of them (R339, Table 15.5). -/
def State.emitPlain (s : State) (r : BReq) (stream : List Byte) (total k n : Nat) (provisional : Bool) : State :=
  let e := r.data
  (List.range n).foldl (fun (t : State) i =>
    let off := 8176 * (k + i)
    let h := [0x51#8] ++ e.drop 1 |>.take 2 |> (· ++ be 1 r.slot ++ be 1 r.src ++ be 4 r.srcSeq ++ be 4 off ++ be 4 total)
    t.emit 0x62 0x0A (t.flags false provisional r.urgent false) r.ts (h ++ slice stream off 8176)) s

/-- Emits the verdict marker (Table 15.6). -/
def State.emitVerdict (s : State) (r : BReq) (accept : Bool) (reason segments relay : Nat) (injected : Bool) : State :=
  let e := r.data
  let gcm := r.mode == 1
  let fl := if gcm then be 1 (byteAt e 1) else [0#8]
  let tail := if gcm && Nat.ble (17 + envHl e) e.length then slice e (15 + envHl e) 2 else [0#8, 0#8]
  let p := [0x52#8, if accept then 0x01#8 else 0x02#8] ++ be 1 reason ++ be 1 r.src ++ be 4 r.srcSeq ++ be 1 r.mode ++ be 1 r.slot ++
    be 2 segments ++ be 1 relay ++ fl ++ tail
  s.emit 0x62 0x0B (s.flags false false (accept && r.urgent) injected) r.ts p

/-- Ends a request with a REJECT verdict (R336, R338, R347). -/
def State.rejectReq (s : State) (r : BReq) (reason : Nat) (injected : Bool := false) : State :=
  let s := s.bumpWrap F.BOND_REJECTS_COUNT
  let s := s.when (reason == rsnTagFail) (fun s => (s.up F.BOND_STATUS_TAG_FAIL).attn 4)
  let s := s.when (reason == rsnLength) (fun s => (s.up F.BOND_STATUS_LENGTH_EV).bump F.BOND_LENGTH_ERRORS_COUNT)
  let s := s.when (reason == rsnKeyGone) (·.up F.BOND_STATUS_KEY_GONE_EV)
  let s := s.when r.owns (·.ivSet r 2)
  let relay := if r.mode == 1 && bit (byteAt r.data 1) 1 then 3 else 0
  (s.emitVerdict r false reason r.outs relay injected).endReq r

/-- The engine takes a request: a copy of an accepted one is dropped, and otherwise it is served (R341). Log entry 92: DEDUCED. -/
def State.takeReq (s : State) (r : BReq) : State :=
  if r.mode = 1 && r.early = rsnNone && !r.owns then
    match s.ivMatch r with
    | some e =>
      if e.state = 1 then ((s.bump F.BOND_DUPS_COUNT).up F.BOND_STATUS_DUP_EV).endReq r
      else (s.updReq r.id (fun r => { r with owns := true })).setBondNow (some r.id)
    | none => (s.ivMake r).setBondNow (some r.id)
  else s.setBondNow (some r.id)

/-- The request in service. -/
def State.bondServing (s : State) : Option BReq := s.bondReqs.find? (fun r => s.bondNow == some r.id)

/-- The request that the engine would take next (R331). -/
def State.bondHead (s : State) : Option BReq := s.bondReqs.find? s.servable

/-- Processes bytes of the request in service; a streamed one releases the plaintext that it has decrypted (R331, R338). -/
def State.processReq (s : State) (r : BReq) (n : Nat) : State :=
  let p := min r.total (r.progress + n)
  let s := s.updReq r.id (fun r => { r with progress := p })
  match r.streams && r.early == rsnNone && s.slotCheck r == rsnNone, (s.slot r.slot).key with
  | true, some key =>
    let k := p / 8176 - r.outs
    (s.emitPlain r (gcmStream key r.data) r.total r.outs k true).updReq r.id (fun r => { r with outs := r.outs + k })
  | _, _ => s

/-- Service of the engine up to its next stop: it waits while outputs wait for credit (R18); it takes the head request where it serves none; the
running one yields to an urgent one at its next 4,096-byte boundary (R331). -/
def State.serve (s : State) (bytes : Nat) : State :=
  if !s.on F.BOND_STATUS_ENGINE_OK || s.outputsWait then s
  else
    let s := match s.bondServing with
      | some _ => s
      | none => (match s.bondHead with | some r => s.takeReq r | none => s)
    match s.bondServing with
    | none => s
    | some r =>
      match if r.urgent then none else s.bondReqs.find? (fun x => x.urgent && s.servable x) with
      | some u =>
        let room := (4096 - r.progress % 4096) % 4096
        let n := min bytes room
        let s := s.processReq r n
        if n = room then s.takeReq u else s
      | none => s.processReq r bytes

/-- Hands a relayed stream to the pilot schedule, behind the verdict; the request ends and stays in its hold until it is accepted (R340). -/
def State.relayOut (s : State) (r : BReq) (stream : List Byte) : State :=
  (s.setRelays (s.relays ++ [⟨r.src, r.srcSeq, r.urgent, slice (envIv r.data) 10 2, bit (byteAt r.data 1) 2, stream⟩])).endReq r

/-- A GCM request's checks and tag end in a verdict (R336 to R341, R376). -/
def State.gcmVerdict (s : State) : State :=
  match s.bondServing with
  | none => s
  | some r =>
    let early := r.early
    if r.mode != 1 || s.outputsWait then s
    else if early != rsnNone then s.rejectReq r early
    else if s.slotCheck r != rsnNone then s.rejectReq r (s.slotCheck r)
    else if !r.complete || Nat.blt r.progress r.total then s
    else match (s.slot r.slot).key with
      | none => s
      | some key =>
        let e := r.data
        let tag := gcmTag key (envIv e) (envAad e) (envCt e)
        let good := if envTag96 e then tag.take 12 == (envTag e).take 12 else tag == envTag e
        let stream := gcmStream key e
        if good then
          let total := r.total
          let n := ceilDiv total 8176 - r.outs
          let s := s.emitPlain r stream total r.outs n r.streams
          let s := (s.bumpWrap F.BOND_ACCEPTS_COUNT).ivSet r 1
          let want := bit (byteAt e 1) 1
          let fits := !r.streams && relayFits (bit (byteAt e 1) 2) total
          let s := s.emitVerdict r true rsnNone (r.outs + n) (if !want then 0 else if fits then 1 else 2) false
          if want && fits then s.relayOut r stream else s.endReq r
        else
          -- a streamed request's last stretch has been decrypted and released before the tag fails (R338)
          let k := if r.streams then ceilDiv r.total 8176 - r.outs else 0
          let s := s.emitPlain r stream r.total r.outs k true
          s.rejectReq { r with outs := r.outs + k } rsnTagFail

/-! XTS requests (R344 to R346). -/

/-- The bytes of a data unit: for decryption the parts behind their headers. -/
def BReq.unit (r : BReq) : List Byte := if r.mode = 2 then r.data else (r.frames.map (·.drop 16)).flatten

/-- Checks on an XTS request (R344, R346, R347). -/
def State.xtsCheck (s : State) (r : BReq) : Nat :=
  let h := r.frames.headD []
  let u16 := ofBe (slice h 4 2)
  let same := (List.range r.frames.length).all (fun i =>
    let f := (r.frames[i]?).getD []
    byteAt f 0 == 0x41 && slice f 1 2 == slice h 1 2 && byteAt f 3 % 128 == i && slice f 4 12 == slice h 4 12 && ofBe (slice f 6 2) == 0)
  let k1 := s.slot r.slot
  let k2 := s.slot (r.slot + 1)
  if r.mode = 3 && r.broken then rsnBroken
  else if r.mode = 3 && !same then rsnMalformed
  else if r.mode = 3 && (!inR 32 4096 u16 || r.unit.length != 16 * u16) then rsnLength
  else if k1.key.isNone || k2.key.isNone then rsnSlotEmpty
  else if k1.usage != 2 || k2.usage != 3 || (k1.key.map List.length) != (k2.key.map List.length) then rsnWrongUsage
  else if k1.gen != r.gen || k2.gen != r.gen2 then rsnKeyGone
  else rsnNone

/-- An XTS request completes: its unit leaves as sectors, or a REJECT marker says why not (R344 to R346, Table 15.7). Log entry 91: DEDUCED. -/
def State.xtsDone (s : State) : State :=
  match s.bondServing with
  | none => s
  | some r =>
    if r.mode = 1 || s.outputsWait then s
    else if s.xtsCheck r != rsnNone then s.rejectReq r (s.xtsCheck r)
    else if Nat.blt r.progress r.total then s
    else
      let k1 := ((s.slot r.slot).key).getD []
      let k2 := ((s.slot (r.slot + 1)).key).getD []
      let out := xts (r.mode == 3) k1 k2 r.dun r.unit
      let n := ceilDiv out.length 8176
      let s := (List.range n).foldl (fun (t : State) i =>
        let h := [if r.mode = 2 then 0x41#8 else 0x42#8] ++ be 1 (if r.mode = 2 then r.channel else 0xFF) ++ be 1 r.slot ++
          be 1 ((if i + 1 < n then 128 else 0) + i) ++ be 2 (out.length / 16) ++ be 2 0 ++ be 8 r.dun
        t.emit 0x62 0x0C (t.flags false false false false) r.ts (h ++ slice out (8176 * i) 8176)) s
      (s.when (r.mode == 2) (·.bumpWrap (F.CAP_UNITS_COUNT r.channel))).endReq r

/-! Keys, erasure and alarms (R325 to R328, R347 to R350). -/

/-- Erases a slot: its generation advances where it held a key, a pending key is discarded (R347). -/
def State.eraseOne (s : State) (i source : Nat) : State :=
  let x := s.slot i
  if x.key.isSome then (s.putSlot i ⟨none, 0, (x.gen + 1) % 65536, [], none⟩).slotWritten i source 0x2401
  else s.putSlot i { x with pending := none }

/-- Erases slots at once: every request in flight that names an erased one, but for those behind a twin, ends KEY_GONE (R347,
R348). Log entry 92: DEDUCED. -/
def State.erase (s : State) (l : List Nat) (source : Nat) (injected : Bool := false) : State :=
  let held := l.filter (fun i => (s.slot i).key.isSome)
  let gone := s.bondReqs.filter (fun r => !r.ended && held.any (fun i => r.names i) && !s.behindTwin r)
  let s := s.each l (fun i t => t.eraseOne i source)
  s.each gone (fun r t => let t := t.dropPlain r; t.rejectReq (t.reqNow r) rsnKeyGone injected)

/-- The wrapped key of `BOND_KEY_WRAP`: 12 words for AES-128, 20 for AES-256 (R326). -/
def State.wrapped (s : State) : List Byte :=
  ((List.range (if s.on F.BOND_KEY_CFG_SIZE then 20 else 12)).map (fun i => be 2 (Tbl.get (fun _ => 0) s.keyWrap i))).flatten

/-- Outcome of LOAD_KEY: the key and usage, or a refusal, with whether the unwrap failed (R326). -/
def State.loadCheck (s : State) (i : Nat) : Option (List Byte × Nat) × Bool :=
  let usage := s.get F.BOND_KEY_CFG_USAGE
  match s.kek with
  | none => (none, false)
  | some kek =>
    match unwrapKey kek s.wrapped with
    | none => (none, true)
    | some key => if usageFits i usage && !s.pairClash i usage key then (some (key, usage), false) else (none, false)

/-- The integrity check of an unwrap fails (R326, R396). Log entry 54: DEDUCED. -/
def State.unwrapFault (s : State) (injected : Bool) : State :=
  let s := (s.up F.BOND_STATUS_UNWRAP_EV).error 0x0720 .bond 0 .detected { injected := injected }
  (s.startTest .bond 0 0x0720 injected).engineShow

/-- The refusal rule of `BOND_CMD` (R326, R328, R350). -/
def bondRule : Rule := fun s _ w =>
  let op := bits w 0 3
  if bits w 8 8 != 0x5A || op = 0 || Nat.blt 4 op then some resValue
  else if op = 1 then (if (s.loadCheck (bits w 3 5)).1.isNone then some resValue else none)
  else if op = 4 then
    if s.kek.isSome then some resValue else if s.serving then none else some resMode
  else none

/-- A write of `BOND_CMD`, from any source (R326 to R328, R347, R350). Log entry 91: DEDUCED. -/
def State.bondCmd (s : State) (src w : Nat) : State :=
  let i := bits w 3 5
  let ok := bits w 8 8 == 0x5A
  let op := bits w 0 3
  let chk := s.loadCheck i
  let gated := s.gated src 0x2401
  let r := s.write src 0x2401 w bondRule
  let s := r.1
  let s := match r.2 with
    | none => if gated then s else (s.up F.BOND_STATUS_CMD_REFUSED).when (ok && op == 1 && chk.2) (·.unwrapFault false)
    | some _ =>
      if op = 1 then (match chk.1 with | some (key, u) => s.loadSlot i key u srcTwoWire false | none => s)
      else if op = 2 then s.erase [i] srcTwoWire
      else if op = 3 then s.erase (List.range 32) srcTwoWire
      else if s.kekBurn.isSome then s
      else s.setKekBurn (some ((List.range 16).map (fun j => be 2 (Tbl.get (fun _ => 0) s.kekData j))).flatten)
  s.when (ok && op == 1 && !gated) (·.setKeyWrap [])

/-- The fuses are burned (R328). -/
def State.kekBurned (s : State) : State :=
  match s.kekBurn with
  | none => s
  | some k => ((((s.setKek (some k)).setKekBurn none).setKekData []).up F.BOND_STATUS_KEK_LOCKED).put F.BOND_KEK_KCV_KCV (keyCheck k)

/-- What a security alarm does in the bond engine: every slot, pending key and the unwrap staging are erased and the source is
recorded (R349). The entry into ANCHOR follows under R30. -/
def State.alarmErase (s : State) (detail : Nat) (injected : Bool) : State :=
  let s := s.error (0x0710 + detail) .bond 0 .detected { injected := injected }
  let s := (s.setKeyWrap []).erase (List.range 32) srcSupervisor injected
  (s.up F.BOND_STATUS_ERASED).put F.BOND_ALARM_CAUSES (s.get F.BOND_ALARM_CAUSES ||| 2 ^ detail)

/-- A bond datapath residue failure: the engine stops before the next block, discards what has not been accepted, and serves the request
again from its start after its self-test; outputs already accepted stay counted (R395). -/
def State.bondResidue (s : State) (injected : Bool) : State :=
  let s := match s.bondServing with
    | some r => ((s.dropPlain r).updReq r.id (fun r => { r with progress := 0 })).setBondNow none
    | none => s
  ((s.error 0x0702 .bond 0 .detected { injected := injected }).startTest .bond 0 0x0702 injected).engineShow

/-- An IV table entry expires (R341). -/
def State.ivExpire (s : State) (slot gen : Nat) (iv : List Byte) : State :=
  s.putIv (s.ivTable.filter (fun e => !(e.slot == slot && e.gen == gen && e.iv == iv && e.state != 0)))

/-- State of the slot that `BOND_SLOT_SEL` names, as `BOND_SLOT_INFO` shows it (R327). -/
def State.slotInfo (s : State) : Nat :=
  let i := s.get F.BOND_SLOT_SEL_SLOT
  let x := s.slot i
  let st := if x.pending.isSome then 2 else if x.key.isSome then 1 else 0
  let big := b2n ((x.key.getD []).length == 32)
  st * 2 ^ 14 + big * 2 ^ 13 + (if x.key.isSome then x.usage else 0) * 2 ^ 11 + (s.bondReqs.filter (fun r => r.names i)).length

/-- Under which key, and with which number, the request hold takes a capture unit: by its channel, and by the consignment that it ends in and its
data unit number (R276, R343). -/
def unitKey (data : List Byte) : Nat := 512 + byteAt data 1
/-- See `unitKey`. -/
def unitNo (srcSeq : Nat) (data : List Byte) : Nat := srcSeq * 2 ^ 64 + ofBe (slice data 8 8)

/-- A request that arrives at the request hold: a berth's datagram by its number (R162, R330), a host's item, or a capture unit; a hand-over that
is repeated is taken once (R276). Log entry 143: DEDUCED. -/
def State.reqArrive (s : State) (src srcSeq mode ts : Nat) (data : List Byte) : State :=
  if !s.domOn 7 || !(mode == 1 || mode == 2 || mode == 3) then s
  else if src < 96 && mode = 1 then
    if s.isOld src srcSeq then (s.bump (F.BTH_REPLAY_DEDUPS src)).up (F.BTH_EVENTS_DEDUP_EV src)
    else if srcSeq = s.expected src then (s.putProd src { s.prod src with next := srcSeq }).emitDatagram src ts data
    else s.craneFault (s.craneFor src) 0x0405 { d0 := src, d1 := bits srcSeq 16 16, d2 := bits srcSeq 0 16 }
  else if mode != 2 && s.isTaken src srcSeq then s
  else if mode = 2 && Tbl.get (fun _ => 0) s.taken (unitKey data) == unitNo srcSeq data + 1 then s
  else if !s.bondCredit data.length then s
  else if mode = 2 then
    let sl := slotByte data
    (s.take (unitKey data) (unitNo srcSeq data)).enterReq
    { id := 0, src := src, srcSeq := srcSeq, mode := 2, slot := sl, gen := (s.slot sl).bound, gen2 := (s.slot (sl + 1)).bound,
      urgent := false, ts := ts, frames := [data.drop 16], complete := true, broken := false, progress := 0, outs := 0,
      owns := false, ended := false, channel := byteAt data 1, dun := ofBe (slice data 8 8), fed := [], landed := [], copy := Copy.of [] }
  else (s.take src srcSeq).acceptReq src srcSeq mode ts data true

end Sys2Proof.Machine
end

