-- ==== Sys2Proof/Machine/LineCode.lean ====
section
/-! DEFINITION. The columns of a port (R281, R282), and the 8b/10b code of its lanes (R280), which the spec takes from IEEE 802.3 Clause 36 (log
entry 136). -/

namespace Sys2Proof.Machine

/-- A character: whether it is a control character K, and its byte HGFEDCBA. -/
abbrev LineChar := Bool × Byte

/-- A control character Kx.y. -/
def kChar (x y : Nat) : LineChar := (true, BitVec.ofNat 8 (32 * y + x))

/-- The characters of a column on a port of `w` lanes (Table 13.1). -/
def Column.chars (w : Nat) : Column → List LineChar
  | .sof => List.replicate w (kChar 28 5)
  | .idle => List.replicate w (kChar 28 1)
  | .eof => List.replicate w (kChar 29 7)
  | .data lanes => lanes.map (fun b => match b with
    | some d => (false, d)
    | none => kChar 23 7)

/-- The columns of a frame on a port of `w` lanes (R281): SOF, the bytes, byte i on lane i mod w, K23.7 on the lanes that remain, EOF.
Log entry 130: DEDUCED. -/
def columnsOf (w : Nat) (f : List Byte) : List Column :=
  [.sof] ++ (List.range (ceilDiv f.length w)).map (fun i => .data ((List.range w).map (fun j => f[i * w + j]?))) ++ [.eof]

/-- The code abcdei of EDCBA = `x` at negative running disparity, bit a the most significant. Log entry 136: PRESUMED. -/
def codeSix (k : Bool) (x : Nat) : Nat :=
  if k && x == 28 then 0b001111
  else ([0b100111, 0b011101, 0b101101, 0b110001, 0b110101, 0b101001, 0b011001, 0b111000, 0b111001, 0b100101, 0b010101, 0b110100, 0b001101,
    0b101100, 0b011100, 0b010111] ++ [0b011011, 0b100011, 0b010011, 0b110010, 0b001011, 0b101010, 0b011010, 0b111010, 0b110011, 0b100110,
    0b010110, 0b110110, 0b001110, 0b101110, 0b011110, 0b101011]).getD x 0

/-- The code fghj of HGF = `y` at negative running disparity, bit f the most significant; `alt` asks the second code of 7. Log entry 136:
PRESUMED. -/
def codeFour (k alt : Bool) (y : Nat) : Nat :=
  if k then [0b1011, 0b0110, 0b1010, 0b1100, 0b1101, 0b0101, 0b1001, 0b0111].getD y 0
  else if alt && y == 7 then 0b0111
  else [0b1011, 0b1001, 0b0101, 0b1100, 0b1101, 0b1010, 0b0110, 0b1110].getD y 0

/-- The lowest `w` bits of `v`, the most significant first. -/
def msbFirst (w v : Nat) : List Bool := (List.range w).map (fun i => bit v (w - 1 - i))

/-- A sub-block at running disparity `rd` (true: positive): its bits, and the disparity after it. `flips` says that a balanced code is inverted
at positive disparity, too. -/
def subBlock (w v : Nat) (flips rd : Bool) : List Bool × Bool :=
  let bits := msbFirst w v
  let even := 2 * bits.count true == w
  (if rd && (flips || !even) then bits.map (! ·) else bits, rd != !even)

/-- The ten bits of a character, bit a first, and the running disparity after it (R280). D17, D18 and D20 at negative, and D11, D13 and D14 at
positive disparity take the second code of 7. Log entry 136: PRESUMED. -/
def encodeChar (rd : Bool) (c : LineChar) : List Bool × Bool :=
  let x := c.2.toNat % 32
  let y := c.2.toNat / 32
  let six := subBlock 6 (codeSix c.1 x) (x == 7) rd
  let alt := if six.2 then [11, 13, 14].contains x else [17, 18, 20].contains x
  let four := subBlock 4 (codeFour c.1 alt y) (c.1 || y == 3) six.2
  (six.1 ++ four.1, four.2)

/-- The bits of a lane that sends `cs` from disparity `rd` on, and the disparity after them. -/
def encodeLane (rd : Bool) : List LineChar → List Bool × Bool
  | [] => ([], rd)
  | c :: cs =>
    let a := encodeChar rd c
    let b := encodeLane a.2 cs
    (a.1 ++ b.1, b.2)

/-- What lane `j` of a port of `w` lanes sends in a run of columns. -/
def laneChars (w j : Nat) (cols : List Column) : List LineChar := cols.filterMap (fun c => (c.chars w)[j]?)

/-- The running disparity of each lane after a run of columns that begins at `rd` (R280). -/
def disparityAfter (rd : List Bool) (cols : List Column) : List Bool :=
  rd.mapIdx (fun j d => (encodeLane d (laneChars rd.length j cols)).2)

/-- The disparity after `n` idle columns: two of them leave it as it was. -/
def idleAfter (rd : List Bool) (n : Nat) : List Bool := disparityAfter rd (List.replicate (n % 2) .idle)

/-! What a lane receives (R280, R294). -/

/-- The characters of the code: every D, and the twelve K of Clause 36. Log entry 136: PRESUMED. -/
def lineCharsAll : List LineChar :=
  (List.range 256).map (fun i => (false, BitVec.ofNat 8 i)) ++ (List.range 8).map (kChar 28) ++ [23, 27, 29, 30].map (kChar · 7)

/-- The ten bits of a code group, bit a first. -/
def groupBits (g : BitVec 10) : List Bool := msbFirst 10 g.toNat

/-- The character that a code group stands for at running disparity `rd`; none: a code or disparity error. Log entry 136: PRESUMED. -/
def decodeGroup (rd : Bool) (g : BitVec 10) : Option LineChar := lineCharsAll.find? (fun c => (encodeChar rd c).1 == groupBits g)

/-- The running disparity after a sub-block as it was received. Log entry 136: PRESUMED. -/
def subDisparity (rd : Bool) (b : List Bool) : Bool :=
  let ones := b.count true
  let half := b.length / 2
  if ones = half then (if b == List.replicate half false ++ List.replicate half true then true
    else if b == List.replicate half true ++ List.replicate half false then false else rd)
  else Nat.blt half ones

/-- The running disparity after a code group as it was received. Log entry 136: PRESUMED. -/
def groupDisparity (rd : Bool) (g : BitVec 10) : Bool :=
  subDisparity (subDisparity rd ((groupBits g).take 6)) ((groupBits g).drop 6)

/-- What a column of two code groups is on the landing port (Table 13.1). -/
inductive Landed where
  | sof | idle | eof
  | bytes (l : List Byte)
  /-- A code or disparity error in it, or characters that no column holds together. -/
  | wrong
  deriving DecidableEq, Repr

/-- The column that two characters make (Table 13.1): fill only behind a byte. -/
def landed : Option LineChar → Option LineChar → Landed
  | some a, some b =>
    if a == kChar 28 5 && b == kChar 28 5 then .sof
    else if a == kChar 28 1 && b == kChar 28 1 then .idle
    else if a == kChar 29 7 && b == kChar 29 7 then .eof
    else if !a.1 && !b.1 then .bytes [a.2, b.2]
    else if !a.1 && b == kChar 23 7 then .bytes [a.2]
    else .wrong
  | _, _ => .wrong

/-- t_f in ns: how long a frame with a payload of `l` bytes occupies its port (R282). -/
def frameNs (w l : Nat) : Nat := (ceilDiv (l + 28) w + 2) * 10

end Sys2Proof.Machine
end

