-- ==== Sys2Proof/Machine/Quays.lean ====
section
/-! DEFINITION. The quays (R288 to R292), the lading statistics (R443), and the landing port (R294 to R299) with its clocked FIFO
(R266 to R268). -/

namespace Sys2Proof.Machine

/-! Quays. -/

/-- Writes a quay, and shows SENDING. -/
def State.putQuay (s : State) (q : Nat) (v : Quay) : State :=
  ({ s with quays := Tbl.set (fun _ => Quay.reset) s.quays q v }).put (F.QY_STATUS_SENDING q) (b2n v.sending.isSome)

/-- The COMMIT register of quay `q`. -/
def quayCommit (q : Nat) : Nat := 0x2107 + 0x10 * q

/-- Whether the mode has the quays, ports and landing port in service: no shutdown has begun, and QUAY is not told to leave, or SURVEY
has it on whatever was told (R33, R41, R45, R438). -/
def State.quayUp (s : State) : Bool := !s.closing && ((s.serving && s.on F.DOM_CTRL_QUAY_ON) || s.mode == .survey)

/-- Whether quay `q` may go on (R41, R289, R438). -/
def State.quayMayRun (s : State) (q : Nat) : Bool := s.on (F.QY_CTRL_RUN q) && s.quayUp

/-- The idle columns that quay `q` has sent since its start or its last frame, at 10 ns each (R280, R281). Log entry 130: DEDUCED. -/
def State.idleColumns (s : State) (q : Nat) : Nat := (s.clock - (s.quay q).idleAt) / 10

/-- Whether the quay drives its pins: QUAY is on, and its QCLK output is enabled (R289). -/
def State.quayDriven (s : State) (q : Nat) : Bool := s.domOn 7 && s.on (F.TB_OUT_CFG_ENABLE (4 + q))

/-- The columns of the frame in progress, or the idle columns sent so far. -/
def State.quayColumns (s : State) (q : Nat) : List Column :=
  if (s.quay q).sending.isSome then (s.quay q).line else List.replicate (s.idleColumns q) .idle

/-- The bits of lane `j` of quay `q` over those columns, bit a first; none: a static differential 0 (R280, R289). Log entry 130: DEDUCED. -/
def State.quayPins (s : State) (q j : Nat) : Option (List Bool) :=
  if s.quayDriven q then some (encodeLane ((s.quay q).disparity.getD j false) (laneChars 4 j (s.quayColumns q))).1 else none

/-- A frame boundary of quay `q`: armed changes apply, and a quay told to stop reads STOPPED (R59, R289). -/
def State.quayBoundary (s : State) (q : Nat) : State :=
  if (s.quay q).sending.isSome then s
  else
    let s := s.applyArmed (quayCommit q)
    (s.when (!s.quayMayRun q) (·.up (F.QY_CTRL_STOPPED q))).showHeld q

/-- A quay told to run starts: its lanes at negative disparity, and with idle columns (R280, R281). -/
def State.quayRunShow (s : State) (q : Nat) : State :=
  s.when (s.quayMayRun q && s.domOn 7 && s.on (F.QY_CTRL_STOPPED q)) (fun s =>
    (s.putQuay q { s.quay q with disparity := lanesFresh, idleAt := s.clock, fresh := true }).down (F.QY_CTRL_STOPPED q))

/-- At a frame boundary a running quay that is not held off starts the oldest consignment of its hold, its first one behind 64 idle columns; a
resend shows RESEND_EV (R274, R281, R289, R290). Log entry 88: DEDUCED. -/
def State.quayStart (s : State) (q : Nat) : State :=
  if (s.quay q).sending.isSome then s
  else
    let s := s.quayBoundary q
    if s.on (F.QY_CTRL_STOPPED q) || !s.domOn 7 || s.rebuilding || !s.on (F.TB_OUT_CFG_RUNNING (4 + q)) || s.heldOff q ||
        ((s.quay q).fresh && Nat.blt (s.idleColumns q) 64) then s
    else match s.quayHead q with
      | none => s
      | some i =>
        let s := s.putQuay q { s.quay q with sending := some (i.prod, i.seq), line := columnsOf 4 i.frame, fresh := false,
                                             disparity := idleAfter (s.quay q).disparity (s.idleColumns q) }
        (s.when i.replay (·.up (F.QY_STATUS_RESEND_EV q))).showHeld q

/-- What an unlisted pair of the lading statistics holds. -/
def Stat.reset : Stat := ⟨0, 0, 0xFFFFFFFF, 0, 0⟩

/-- A pair of the lading statistics. -/
def State.stat (s : State) (p content : Nat) : Stat := Tbl.get (fun _ => Stat.reset) s.stats (16 * p + content)

/-- Counts a released frame under one pair (R443). -/
def State.countOne (s : State) (i : Item) (content : Nat) : State :=
  let x := s.stat i.prod content
  let y : Stat := ⟨(x.frames + 1) % 2 ^ 32, (x.bytes + i.payload.length + 28) % 2 ^ 64, i.seq, i.ts,
    if i.replay then satAdd 16 x.resends 1 else x.resends⟩
  { s with stats := Tbl.set (fun _ => Stat.reset) s.stats (16 * i.prod + content) y }

/-- Counts a released frame under its content and under all types (R443). -/
def State.countRelease (s : State) (i : Item) : State := (s.countOne i i.content).countOne i 0

/-- Lets what waits for credit of the shared producers enter: records, journal events and bond outputs. -/
def State.afterRelease (s : State) : State := (((s.exportDrain).drainWaiting 0x60).drainWaiting 0x62).bondSettle

/-- The last CRC byte of a frame is committed to the output stage: the consignment is counted and released, its credits return, and
the boundary passes (R262, R276, R289, R443). -/
def State.quayEnd (s : State) (q : Nat) : State :=
  match (s.quay q).sending with
  | none => s
  | some (p, seq) =>
    let s := match s.custody.find? (fun i => i.prod == p && i.seq == seq && i.quay == q) with
      | some i => (s.countRelease i).release p seq
      | none => s
    let x := s.quay q
    let s := s.putQuay q { x with sending := none, line := [], disparity := disparityAfter x.disparity x.line, idleAt := s.clock }
    ((s.bumpWrap (F.QY_FRAMES_COUNT q)).afterRelease).quayBoundary q

/-- The quay samples its hold pin (R290). -/
def State.sampleHold (s : State) (q : Nat) : State := (s.put (F.QY_STATUS_HOLD_IN q) (b2n (bit s.holdPins q))).showHeld q

/-- `Qn_HOLD` changes, and with QUAY on its level behind the synchroniser (R290). -/
def State.quayHold (s : State) (q : Nat) (v : Bool) : State :=
  let s := s.setHoldPins (s.holdPins - b2n (bit s.holdPins q) * 2 ^ q + b2n v * 2 ^ q)
  s.when (s.domOn 7) (·.sampleHold q)

/-- `Qn_HOLD` has stayed high beyond its limit (R291). Log entry 88: DEDUCED. -/
def State.quayHoldLong (s : State) (q : Nat) : State :=
  if s.heldOff q && s.get (F.QY_HOLD_LIMIT_LIMIT q) != 0 && s.domOn 7 then
    ((s.up (F.QY_STATUS_HOLD_LONG_EV q)).error 0x0604 .hold (96 + q) .detected).attn 2
  else s

/-- One nanosecond of the shares of R292; at the end of a second they load. Log entry 88: DEDUCED. -/
def State.quayShares (s : State) (second : Bool) : State :=
  s.each (List.range 4) (fun q t =>
    let x := t.quay q
    let b := x.busyNs + b2n x.sending.isSome
    let h := x.heldNs + t.get (F.QY_STATUS_HELD_OFF q)
    if second then
      ((t.putQuay q { x with busyNs := 0, heldNs := 0 }).put (F.QY_BUSY_BUSY q) (b / 1000000)).put (F.QY_HELD_HELD q) (h / 1000000)
    else t.putQuay q { x with busyNs := b, heldNs := h })

/-! The landing port. -/

/-- No frame in progress, on lanes whose disparity starts negative (R280). -/
def LandRx.reset : LandRx := ⟨[], 0, false, false, false, false, false, [false, false]⟩

/-- The landing FIFO in words of two bytes (Table 12.1, hold 109). -/
def landWords : Nat := 16384

/-- Depth of the landing FIFO: the words pushed and not yet popped (R266). -/
def State.landDepth (s : State) : Nat := s.landRx.words + (s.landFifo.map (fun f => f.words - f.taken)).sum

/-- Shows the depth and the levels of `L_STOP` and `L_FULL`: high while the port is stopped or QUAY is not on (R269, R295, R296). -/
def State.landShow (s : State) : State :=
  let s := s.ringShow 109 s.landDepth
  let off := s.on F.LAND_CTRL_STOPPED || !s.domOn 7
  (s.put F.LAND_STATUS_STOP (b2n (off || s.on (F.HLD_STATUS_ABOVE.ofHold 109)))).put F.LAND_STATUS_FULL
    (b2n (off || Nat.ble landWords s.landDepth))

/-- Whether the port takes characters (R295). -/
def State.landRuns (s : State) : Bool := !s.on F.LAND_CTRL_STOPPED && s.domOn 7

/-- Whether a frame is in progress. -/
def State.landBusy (s : State) : Bool := s.landRx.opened

/-- Sixteen clean comma columns align the port (R294). -/
def State.landAligned (s : State) : State := s.when s.landRuns (·.up F.LAND_STATUS_ALIGNED)

/-- Alignment is lost (R294). -/
def State.landAlignLost (s : State) : State :=
  s.when (s.landRuns && s.on F.LAND_STATUS_ALIGNED) (fun s => (s.down F.LAND_STATUS_ALIGNED).up F.LAND_STATUS_ALIGN_LOST_EV)

/-- Whether the port may go on. -/
def State.landMayRun (s : State) : Bool := s.on F.LAND_CTRL_RUN && s.quayUp

/-- The end of a frame, or no frame in progress: armed changes apply, and a port told to stop reads STOPPED (R59, R295). -/
def State.landBoundary (s : State) : State :=
  if s.landBusy then s
  else
    let s := s.applyArmed 0x2201
    (s.when (!s.landMayRun) (·.up F.LAND_CTRL_STOPPED)).landShow

/-- A port told to run starts. -/
def State.landRunShow (s : State) : State :=
  (s.when (s.landMayRun && s.domOn 7 && s.on F.LAND_CTRL_STOPPED) (fun s => (s.setLandRx LandRx.reset).down F.LAND_CTRL_STOPPED)).landShow

/-- What an unlisted host channel holds: power-on sets both values to 0 (R298). -/
def LandChan.reset : LandChan := ⟨0, 0, none⟩

/-- A host channel. -/
def State.chan (s : State) (c : Nat) : LandChan := Tbl.get (fun _ => LandChan.reset) s.landChans c

/-- Writes a host channel. -/
def State.putChan (s : State) (c : Nat) (v : LandChan) : State :=
  { s with landChans := Tbl.set (fun _ => LandChan.reset) s.landChans c v }

/-- The payload of a lading frame. -/
def framePayload (f : List Byte) : List Byte := slice f 24 (ofBe (slice f 4 2))

/-- The CONT flag of a lading frame. -/
def frameCont (f : List Byte) : Bool := bit (ofBe (slice f 2 2)) 9

/-- The channel of a landing frame. -/
def frameChan (f : List Byte) : Nat := byteAt f 0 % 4

/-- Whether the destination of an accepted frame has credit for it (R299, R329, R360): a continuation needs staging only, and one that
joins a transmit request needs nothing. -/
def State.landCredit (s : State) (f : List Byte) : Bool :=
  let c := s.chan (frameChan f)
  let n := (framePayload f).length
  let joins := match c.item with
    | some (content, _, ep, sq) => content == byteAt f 1 && ep == ofBe (slice f 12 4) && ofBe (slice f 8 4) == (sq + 1) % 2 ^ 32
    | none => false
  if byteAt f 1 = 0x20 then joins || s.txCredit
  else if joins then Nat.ble ((s.bondReqs.map BReq.staged).sum + n) 524288
  else s.bondCredit n

/-- Takes one word of the oldest accepted frame, where its destination has credit (R267, R299). -/
def State.landPop (s : State) : State :=
  match s.landFifo with
  | f :: rest => if Nat.blt f.taken f.words && s.landCredit f.bytes then s.setLandFifo ({ f with taken := f.taken + 1 } :: rest) else s
  | [] => s

/-- Whether the header of a landing frame passes R297. -/
def landHeaderOk (f : List Byte) (eofOk : Bool) : Bool :=
  inR 0x80 0x83 (byteAt f 0) && inR 0x20 0x22 (byteAt f 1) && byteAt f 6 == 1 && byteAt f 7 == 0 &&
  ofBe (slice f 2 2) % 512 == 0 && ofBe (slice f 12 4) != 0 && Nat.ble (ofBe (slice f 4 2)) 8192 &&
  f.length == ofBe (slice f 4 2) + 28 && eofOk

/-- The frame ends and is judged: refused bytes, a code error, the CRC, the header, a duplicate; a frame that passes is accepted and
takes the next number of producer 0x63, with both copies and its descriptor (R275, R294, R297, R298). Log entry 89: DEDUCED. -/
def State.landJudge (s : State) (codeError eofOk : Bool) : State :=
  if !(s.landBusy && s.domOn 7) then s
  else
    let r := s.landRx
    let f := r.bytes
    let s := (s.setLandRx { LandRx.reset with disparity := r.disparity }).when codeError (·.up F.LAND_STATUS_CODE_EV)
    let c := s.chan (frameChan f)
    let ep := ofBe (slice f 12 4)
    let sq := ofBe (slice f 8 4)
    let s :=
      if r.refused then s.bump F.LAND_DISCARDS_OVERRUN
      else if r.code || codeError then s
      else if Nat.blt f.length 28 || ofLe (f.drop (f.length - 4)) != (crc32 (f.take (f.length - 4))).toNat then
        (s.bump F.LAND_DISCARDS_CRC).up F.LAND_STATUS_CRC_EV
      else if !landHeaderOk f (eofOk && !r.misplaced) then (s.bump F.LAND_OTHER_HEADER).up F.LAND_STATUS_HEADER_EV
      else if ep == c.epoch && !follows sq c.seq then (s.bump F.LAND_OTHER_DUPS).up F.LAND_STATUS_DUP_EV
      else
        let n := (s.prod 0x63).next
        let s := s.numbered 0x63 f
        let s := (s.putChan (frameChan f) { c with epoch := ep, seq := sq }).bumpWrap F.LAND_ACCEPTED_COUNT
        s.setLandFifo (s.landFifo ++ [⟨n, f, r.words, 0, Copy.of f⟩])
    s.landBoundary.landShow

/-- SOF arrives: the port, at a boundary, takes it where it runs and is aligned; a frame that no EOF ended ends there (R281, R295).
Log entry 89: DEDUCED. -/
def State.landSof (s : State) : State :=
  let s := if s.landBusy then s.landJudge false false else s.landBoundary
  s.when (s.landRuns && s.on F.LAND_STATUS_ALIGNED) (fun s => s.setLandRx { s.landRx with opened := true })

/-- Frame bytes of a column arrive: they are pushed as a word of the landing FIFO, or refused at full (R266 to R268, R296); `popped` words left
at the same edge. A byte behind the column of the fill is misplaced. -/
def State.landBytes (s : State) (l : List Byte) (popped : Nat) : State :=
  let r := s.landRx
  let next := { r with bytes := r.bytes ++ l, filled := l.length == 1, misplaced := r.misplaced || r.filled }
  if Nat.ble landWords s.landDepth then
    let s := s.setLandRx { next with refused := true }
    let s := (s.up F.LAND_STATUS_OVERRUN).up (F.HLD_STATUS_OVERRUN_EV.ofHold 109)
    -- the first refused byte of a frame is the detection
    (s.when (!r.refused) (fun s => s.error 0x0601 .hold 109 .detected)).landShow
  else
    let s := s.setLandRx { next with words := r.words + 1 }
    (s.ringFill 109 popped s.landDepth).landShow

/-- A code group at running disparity `rd`; between frames a comma of the other disparity is taken, too, with which the lane falls in step.
Log entry 136: PRESUMED. -/
def landGroup (busy rd : Bool) (g : BitVec 10) : Option LineChar :=
  match decodeGroup rd g, decodeGroup (!rd) g with
  | some c, _ => some c
  | none, some c => if !busy && (c == kChar 28 1 || c == kChar 28 5) then some c else none
  | none, none => none

/-- A column arrives on the two lanes: the pop of the same edge comes first; then the column is taken for what its code groups say (R266 to R268,
R280, R281, R294 to R296). Idle columns are skipped, EOF waits to be judged; a column that is none, within a frame, is a code error. Log entry 89:
DEDUCED. -/
def State.landColumn (s : State) (g0 g1 : BitVec 10) (pops : Nat) : State :=
  if !s.landRuns then s
  else
    let before := s.landDepth
    let s := s.each (List.range (min pops 1)) (fun _ t => t.landPop)
    let popped := before - s.landDepth
    let r := s.landRx
    let d0 := r.disparity.getD 0 false
    let d1 := r.disparity.getD 1 false
    let s := s.setLandRx { r with disparity := [groupDisparity d0 g0, groupDisparity d1 g1] }
    match landed (landGroup r.opened d0 g0) (landGroup r.opened d1 g1) with
    | .sof => (s.landShow).landSof
    | .bytes l => if r.opened then s.landBytes l popped else s.landShow
    | .eof => (s.setLandRx { s.landRx with filled := true }).landShow
    | .idle => s.landShow
    | .wrong => if r.opened then ((s.setLandRx { s.landRx with code := true }).up F.LAND_STATUS_CODE_EV).landShow else s.landShow

/-- The CONT run of a channel breaks: FRAG_EV, and its bond request ends BROKEN, with which its frames are
released; a transmit request of more than one frame ends MALFORMED anyway (R299, R330, R360). Log entry 89: DEDUCED. -/
def State.landBreak (s : State) (content id : Nat) : State :=
  let s := s.up F.LAND_STATUS_FRAG_EV
  if content = 0x20 then s else s.updReq id (fun r => if r.complete then r else { r with broken := true })

/-- A frame joins a request in staging. One that does not stream is held unaccepted, and with it the frame, until the item is whole (R299, R330). -/
def BReq.joined (r : BReq) (number : Nat) (d : List Byte) : BReq :=
  let r := { r with frames := r.frames ++ [d], copy := Copy.of (r.data ++ d) }
  { r with landed := if r.streams then [] else r.landed ++ [number] }

/-- A bond item is whole: a request held whole is accepted now, with its generations bound and its place in the order, and its landing frames are
released (R276, R330, R331); a request that streams was accepted with its first frame. -/
def State.itemWhole (s : State) (id : Nat) : State :=
  match s.bondReqs.find? (fun r => r.id == id) with
  | none => s
  | some r =>
    if r.streams then s.updReq id (fun r => { r with complete := true })
    else
      let sl := slotByte r.data
      let s := s.putReqs (s.bondReqs.filter (fun x => x.id != id))
      let s := s.enterReq { r with complete := true, landed := [], ts := s.ts, slot := sl, gen := (s.slot sl).bound, gen2 := (s.slot (sl + 1)).bound }
      s.each r.landed (fun n t => t.releaseNo 0x63 n)

/-- The frame passes to its destination: it starts an item, or continues the one open on its channel (R299, R330, R360). Log entry 89: DEDUCED. -/
def State.landPass (s : State) (number : Nat) (f : List Byte) : State :=
  let ch := frameChan f
  let c := s.chan ch
  let content := byteAt f 1
  let ep := ofBe (slice f 12 4)
  let sq := ofBe (slice f 8 4)
  let cont := frameCont f
  let d := framePayload f
  let start (s : State) : State :=
    if content = 0x20 then
      let id := (s.prod 0x64).next
      let s := (s.take (256 + 0x63) number).txAccept (s.hostRequest number cont d)
      s.putChan ch { s.chan ch with item := if cont then some (content, id, ep, sq) else none }
    else
      let id := s.bondNext
      let s := (s.take 0x63 number).acceptReq 0x63 number (if content = 0x21 then 3 else 1) s.ts d (!cont)
      s.putChan ch { s.chan ch with item := if cont then some (content, id, ep, sq) else none }
  match c.item with
  | none => start s
  | some (k, id, ep0, sq0) =>
    if k == content && ep0 == ep && sq == (sq0 + 1) % 2 ^ 32 then
      let s := if content = 0x20 then s.txUpdate id (fun r => { r with landed := r.landed ++ [number] })
        else s.updReq id (fun r => r.joined number d)
      let s := s.when (content != 0x20 && !cont) (·.itemWhole id)
      s.putChan ch { c with item := if cont then some (content, id, ep, sq) else none }
    else start ((s.landBreak k id).putChan ch { c with item := none })

/-- Whether a frame feeds work that has not been accepted, or a malformed transmit request that has not ended: it is released with it (R276, R299,
R360). -/
def State.landKept (s : State) (number : Nat) : Bool :=
  s.schedule.any (fun r => r.landed.contains number) || s.bondReqs.any (fun r => r.landed.contains number)

/-- The oldest accepted frame leaves the FIFO for its destination where that has credit, and is released once the work that it feeds has been
accepted (R276, R299). -/
def State.landHandoff (s : State) : State :=
  match s.landFifo with
  | [] => s
  | f :: rest =>
    if s.domOn 7 && s.landCredit f.bytes then
      let s := (s.setLandFifo rest).landPass f.seq f.bytes
      (if s.landKept f.seq then s else s.releaseNo 0x63 f.seq).landShow
    else s

end Sys2Proof.Machine
end

