-- ==== Sys2Proof/Machine/Fades.lean ====
section
/-! DEFINITION. Following another frequency: candidates, soundings, and the fade of a home berth to its partner, for every standard
(R180 to R191, R212 to R220). -/

namespace Sys2Proof.Machine

/-! Writes of the supervisor. -/

/-- The supervisor writes registers: each of the named words is journaled as it was and as it became (R62, R183). -/
def State.supDo (s : State) (addrs : List Nat) (g : State → State) : State :=
  let t := g s
  t.each addrs (fun a u => u.journal a (s.wordAt a) (t.wordAt a) srcSupervisor resAccepted 0)

/-- The supervisor writes a LIVE field of a running block: it is armed for the block's next boundary (R59, R63). -/
def State.supArm (s : State) (c a : Nat) (f : Fld) (v : Nat) : State :=
  let old := s.wordAt a
  let new := old - s.get f * 2 ^ f.lo + v * 2 ^ f.lo
  (s.journal a old new srcSupervisor resLive 0).shade c f v true

/-- The COMMIT register of berth `n`. -/
def berthCommit (n : Nat) : Nat := 0x407 + 0x40 * n

/-- Loads the service words of a berth with the reset values of its standard's map (R436). Log entry 17: DEDUCED. -/
def State.loadStandard (s : State) (n : Nat) : State :=
  let base := 0x408 + 0x40 * n
  let std := s.std n
  let s := s.resetRegs (fun a => Nat.ble base a && Nat.blt a (base + 8))
  s.each (List.range 8) (fun o t => match regAt std (base + o) with
    | some (r, b) => t.each r.fields (fun f u => u.put ⟨b, f.lo, f.width⟩ f.reset)
    | none => t)

/-! Following. -/

/-- What an unlisted home holds. -/
def Follow.reset : Follow := ⟨0, [], [], none, 0, false, 0⟩

/-- The following state of a berth. -/
def State.foll (s : State) (h : Nat) : Follow := Tbl.get (fun _ => Follow.reset) s.follow h

/-- Writes it. -/
def State.putFoll (s : State) (h : Nat) (v : Follow) : State := { s with follow := Tbl.set (fun _ => Follow.reset) s.follow h v }

/-- A fade that begins. -/
def Fade.new (cmd : Bool) (cand : Nat) (waived : Bool) : Fade := ⟨cmd, cand, 0, 0, waived, 0, false, 0, false, 0, 0, 0, false, []⟩

/-- The fade of a home. -/
def State.fadeOf (s : State) (h : Nat) : Option Fade := (s.foll h).fade

/-- Changes the fade of a home. -/
def State.fadeUpdate (s : State) (h : Nat) (g : Fade → Fade) : State := s.putFoll h { s.foll h with fade := (s.fadeOf h).map g }

/-- The PARTNER field of a berth (Tables 8.7, 8.8, 9.12, 9.13). -/
def State.partner (s : State) (h : Nat) : Nat :=
  let std := s.std h
  if std = 2 then s.get (F.FM_SVC2_PARTNER h) else if std = 1 then s.get (F.AM_SVC2_PARTNER h)
  else if std = 3 || std = 4 then s.get (F.DAB_SVC4_PARTNER h) else 0x7F

/-- Whether a berth is DAB or DRM, whose fade has no RAMP. -/
def State.digital (s : State) (h : Nat) : Bool := s.std h == 3 || s.std h == 4

/-- The home in whose fade a berth is the partner. -/
def State.homeOf (s : State) (p : Nat) : Option Nat :=
  (s.follow.find? (fun e => e.2.fade.isSome && s.partner e.1 == p && e.1 != p)).map (·.1)

/-- Fade states (Table 8.3). -/
def xfIdle : Nat := 0
/-- See `xfIdle`. -/
def xfStarting : Nat := 1
/-- See `xfIdle`. -/
def xfVerify : Nat := 2
/-- See `xfIdle`. -/
def xfDwell : Nat := 3
/-- See `xfIdle`. -/
def xfAlign : Nat := 4
/-- See `xfIdle`. -/
def xfRamp : Nat := 5
/-- See `xfIdle`. -/
def xfSwap : Nat := 6

/-- The fade state of a home. -/
def State.xf (s : State) (h : Nat) : Nat := s.get (F.FM_SVC7_XF_STATE h)

/-- Sets the fade state of a home. -/
def State.setXf (s : State) (h st : Nat) : State := s.put (F.FM_SVC7_XF_STATE h) st

/-- Fade results (Table 8.4). -/
def xrDone : Nat := 1
/-- See `xrDone`. -/
def xrRefusedAdmit : Nat := 2
/-- See `xrDone`. -/
def xrMismatch : Nat := 3
/-- See `xrDone`. -/
def xrTimeout : Nat := 4
/-- See `xrDone`. -/
def xrQuality : Nat := 5
/-- See `xrDone`. -/
def xrAlignFail : Nat := 6
/-- See `xrDone`. -/
def xrAlignRange : Nat := 7
/-- See `xrDone`. -/
def xrAbortCmd : Nat := 8
/-- See `xrDone`. -/
def xrAbortChange : Nat := 9
/-- See `xrDone`. -/
def xrAbortEvent : Nat := 10

/-- A partner is stopped at its next boundary: its berth and its lane are told to stop (R184, R189). -/
def State.partnerStop (s : State) (p : Nat) : State :=
  let s := s.when (!s.on (F.BTH_CTRL_STOPPED p)) (fun s =>
    (s.supArm (berthCommit p) (0x400 + 0x40 * p) (F.BTH_CTRL_RUN p) 0).put (F.BTH_STATUS_STATE p) bsStopping)
  s.when (s.laneRuns p) (fun s => s.supArm (laneCommit p) (0x410 + 0x40 * p) (F.LN_CTRL_RUN p) 0)

/-- A fade ends with a result: events, a ban where an AF fade failed, and the partner's stop on every ending (R184, R189). -/
def State.fadeEnd (s : State) (h result : Nat) : State :=
  match s.fadeOf h with
  | none => s
  | some f =>
    let p := s.partner h
    let x := s.foll h
    let bans := if !f.cmd && inR 3 7 result then f.cand :: x.bans.filter (· != f.cand) else x.bans
    let s := s.putFoll h { x with fade := none, bans := bans }
    let s := ((s.setXf h xfIdle).put (F.FM_SVC7_XF_RESULT h) result).up (F.FM_SVC7_XF_DONE_EV h)
    s.partnerStop p

/-- An event of Tables 8.5 or 9.10 ends the fade of which a berth is a member; in the SWAP of a DAB or DRM fade the old decoder's pending
units are voided instead. Log entry 79: DEDUCED. -/
def State.fadeAbort (s : State) (n result : Nat) : State :=
  let one (s : State) (h : Nat) : State :=
    match s.fadeOf h with
    | none => s
    | some _ =>
      if s.digital h && s.xf h == xfSwap then (s.fadeUpdate h (fun f => { f with drained := true })).partnerStop (s.partner h)
      else s.fadeEnd h result
  let s := one s n
  match s.homeOf n with
  | some h => one s h
  | none => s

/-- A home is told to stop, or stops for SURVEY or with its domains: its fade ends in any state (Tables 8.5, 9.10). Of a partner see
`State.fadeAbort`. -/
def State.fadeStop (s : State) (n : Nat) : State :=
  if (s.fadeOf n).isSome then s.fadeEnd n xrAbortEvent else s.fadeAbort n xrAbortEvent

/-- A LIVE change of the NCO or the delay of a member (Tables 8.5, 9.10): in the SWAP of a DAB or DRM fade the fade goes on. Log entry 79: DEDUCED. -/
def State.fadeChange (s : State) (n : Nat) : State :=
  let one (s : State) (h : Nat) : State :=
    if (s.fadeOf h).isSome && !(s.digital h && s.xf h == xfSwap) then s.fadeEnd h xrAbortChange else s
  let s := one s n
  match s.homeOf n with
  | some h => one s h
  | none => s

/-! Frequencies. -/

/-- Whether a frequency is the one a lane is tuned to, within 500 Hz. Log entry 77: DEDUCED. -/
def State.tunedTo (s : State) (n hz : Nat) : Bool :=
  decide (((s.tuned n) - (hz : Int) * 4294967296).natAbs ≤ 500 * 4294967296)

/-- FREQ of a group of `g` bins from bin `b` for a frequency (R119). -/
def freqFor (g b hz : Nat) : Int :=
  roundDiv ((((2 * b + g - 1 : Nat) : Int) * 2343750 - (hz : Int)) * 4294967296) 2400000000

/-! Candidates (R180, R212, R213). -/

/-- A field of AF table `i`. -/
def Fld.ofAf (f : Fld) (i : Nat) : Fld := { f with addr := afAddr i f.addr }

/-- The frequencies of an AF table, where its kind and identifier are those asked. -/
def State.afTable (s : State) (i kind : Nat) (ident : Option Nat) : List Nat :=
  if i = 0xFF || s.get (F.AF_HEAD_KIND.ofAf i) != kind ||
      (match ident with
       | some x => s.get (F.AF_ID_IDENTIFIER.ofAf i) != x
       | none => false) then []
  else (List.range (s.get (F.AF_HEAD_COUNT.ofAf i))).map (fun j => s.get ⟨afAddr i (0x3014 + 2 * j), 0, 32⟩)

/-- What an unlisted FM berth holds. -/
def Rds.reset : Rds := ⟨0, 0, [], false, [], false, 0, 0, false, [], false, false, none, false, 0, false, false, 0, none, [], []⟩

/-- RDS reception of a berth. -/
def State.rdsOf (s : State) (n : Nat) : Rds := Tbl.get (fun _ => Rds.reset) s.rds n

/-- Writes it. -/
def State.putRds (s : State) (n : Nat) (v : Rds) : State := { s with rds := Tbl.set (fun _ => Rds.reset) s.rds n v }

/-- The reference PI: expected or learned (R178). -/
def State.refPi (s : State) (n : Nat) : Option Nat :=
  let e := s.get (F.FM_SVC5_EXPECT_PI n)
  if e != 0 then some e else (s.rdsOf n).learned

/-- What an unlisted DAB berth holds. -/
def Dab.reset : Dab := ⟨[], 0, 0, 0, [], none, none, none, 0, [], [], [], [], [], [], [], none, 0, none, 0, [], [], [], [], []⟩

/-- The decoder of a DAB berth. -/
def State.dabOf (s : State) (n : Nat) : Dab := Tbl.get (fun _ => Dab.reset) s.dab n

/-- Writes it. -/
def State.putDab (s : State) (n : Nat) (v : Dab) : State := { s with dab := Tbl.set (fun _ => Dab.reset) s.dab n v }

/-- What an unlisted DRM berth holds. -/
def Drm.reset : Drm := ⟨0, (0, 0), [], none, ([], []), 0, 0, 0, [], none, []⟩

/-- The decoder of a DRM berth. -/
def State.drmOf (s : State) (n : Nat) : Drm := Tbl.get (fun _ => Drm.reset) s.drm n

/-- Writes it. -/
def State.putDrm (s : State) (n : Nat) (v : Drm) : State := { s with drm := Tbl.set (fun _ => Drm.reset) s.drm n v }

/-- The reference EId: expected or learned (R199). -/
def State.refEid (s : State) (n : Nat) : Option Nat :=
  let e := s.get (F.DAB_SVC2_EXPECT_EID n)
  if e != 0 then some e else (s.dabOf n).learned

/-- The reference service identifier of a DRM berth: expected or learned (R210). -/
def State.refSid (s : State) (n : Nat) : Option Nat :=
  let e := s.get (F.DRM_SVC1_EXPECT_SID_LO n) + 65536 * s.get (F.DRM_SVC2_EXPECT_SID_HI n)
  if e != 0 then some e else (s.drmOf n).learned

/-- The AF table of a DAB or DRM berth that names its reference (R212): the identifier, where the entry's kind fits. -/
def State.tableIdent (s : State) (h : Nat) : Option Nat :=
  let i := s.get (F.DAB_SVC3_AF_TABLE h)
  if i != 0xFF && s.get (F.AF_HEAD_KIND.ofAf i) == (if s.std h = 4 then 2 else 3) then some (s.get (F.AF_ID_IDENTIFIER.ofAf i)) else none

/-- The reference identifier of a following DAB or DRM berth (R212). -/
def State.followIdent (s : State) (h : Nat) : Option Nat :=
  (s.tableIdent h).or (if s.std h = 4 then s.refEid h else s.refSid h)

/-- A candidate of a list code, in Hz. Log entry 9: PRESUMED. -/
def afHz (c : Nat) : Nat := 87500000 + 100000 * c

/-- The pairs of codes after the first one of a list. -/
def afPairs (rest : List Nat) : List (Nat × Nat) :=
  (List.range (rest.length / 2)).map (fun i => ((rest[2 * i]?).getD 0, (rest[2 * i + 1]?).getD 0))

/-- The tuned frequency, as a code, of a complete AF list of method B, in which every later pair names the list's first frequency; 0: a
list of method A. Log entry 9: PRESUMED. -/
def afKey (codes : List Nat) : Nat :=
  match codes with
  | [] => 0
  | t :: rest => if rest.length % 2 == 0 && !rest.isEmpty && (afPairs rest).all (fun p => p.1 == t || p.2 == t) then t else 0

/-- The candidates of a complete AF list. In method B a descending pair is a regional variant. Log entry 9: PRESUMED. -/
def afCandidates (regional : Bool) (codes : List Nat) : List Nat :=
  let t := afKey codes
  let used := if t = 0 then codes
    else ((afPairs (codes.drop 1)).filter (fun p => regional || p.1 < p.2)).map (fun p => if p.1 = t then p.2 else p.1)
  (used.filter (inR 1 204)).map afHz

/-- The candidates that an FM home has received (R180): of several lists of method B the one for its own frequency, where it has it.
Log entry 9: PRESUMED. -/
def State.received (s : State) (h : Nat) : List Nat :=
  let lists := (s.rdsOf h).afList
  let mine := lists.filter (fun l => l.1 != 0 && s.tunedTo h (afHz l.1))
  ((if mine.isEmpty then lists else mine).map (fun l => afCandidates (s.on (F.FM_SVC2_REG_ALLOW h)) l.2)).flatten

/-- The candidates of a home, in order, in Hz (R180, R213): at most 32, without duplicates and without its own frequency. -/
def State.candidates (s : State) (h : Nat) : List Nat :=
  let std := s.std h
  let all :=
    if std = 2 then
      let t := if s.on (F.FM_SVC2_USE_TABLE h) then
          (match s.refPi h with
           | some pi => (s.afTable (s.get (F.FM_SVC3_AF_TABLE h)) 1 (some pi)).filter (fun f => inR 87600000 107900000 f && f % 100000 == 0)
           | none => []) else []
      t ++ if s.on (F.FM_SVC2_USE_LIST h) then s.received h else []
    else if std = 4 then
      let t := s.afTable (s.get (F.DAB_SVC3_AF_TABLE h)) 2 none
      let d := s.dabOf h
      let own (e : Nat) : List Nat := ((d.freqs.filter (·.list.1.contains e)).map (·.list.2)).flatten
      let l := if s.on (F.DAB_SVC0_USE_LIST h) then
          ((s.refEid h).map own).getD [] ++
          ((s.tableIdent h).bind (fun sid => d.others.find? (·.key == sid))).elim [] (fun o => (o.list.2.map own).flatten) else []
      (t ++ l).filter (inR 100000 960000000)
    else if std = 3 then
      let t := s.afTable (s.get (F.DAB_SVC3_AF_TABLE h)) 3 none
      let l := if s.on (F.DRM_SVC0_USE_LIST h) then
          (match s.followIdent h with
           | some x => (((s.drmOf h).freqs.filter (·.list.1.contains x)).map (·.list.2)).flatten
           | none => []) else []
      (t ++ l).filter (inR 100000 960000000)
    else []
  ((all.filter (fun f => !s.tunedTo h f)).eraseDups).take 32

/-- Whether a home keeps a candidate list: WATCH or FOLLOW. -/
def State.watching (s : State) (h : Nat) : Bool :=
  (s.std h == 2 && s.get (F.FM_SVC2_AF_MODE h) != 0) || (s.digital h && s.get (F.DAB_SVC0_AF_MODE h) != 0)

/-- A sounding of a candidate, while it is not older than 120 s (R181). Log entry 77: DEDUCED. -/
def State.heardLevel (s : State) (h cand : Nat) : Option Int :=
  ((s.foll h).heard.find? (fun e => e.1 == cand && s.clock ≤ e.2.2 + 120000000000)).map (·.2.1)

/-- The candidate with the highest sounded level among those not banned; the earlier in the list on a tie (R182, R215). Log entry 77: DEDUCED. -/
def State.bestCandidate (s : State) (h : Nat) : Option (Nat × Int) :=
  ((s.candidates h).filter (fun c => !(s.foll h).bans.contains c)).foldl (fun best c =>
    match s.heardLevel h c, best with
    | some l, some b => if b.2 < l then some (c, l) else best
    | some l, none => some (c, l)
    | none, _ => best) none

/-- Whether a home has been without sync for 2 s (R182, R215). -/
def State.lostLong (s : State) (h : Nat) : Bool :=
  (if s.std h = 2 then !s.on (F.FM_SVC7_RDS_SYNC h) else s.get (F.DAB_SVC5_SYNC h) != 2) &&
  Nat.ble ((s.foll h).lostAt + 2000000000) s.clock

/-! Soundings (R181, R214). -/

/-- What a home's next sounding is: the first running home that follows after `h`, in ring order of berths, and its next candidate. -/
def State.nextSounding (s : State) : Option (Nat × Nat) :=
  let homes := (List.range 96).filter (fun h => s.watching h && s.bstate h == bsRunning && s.laneRuns h)
  let rest (h c : Nat) : List Nat := ((s.candidates h).dropWhile (· != c)).drop 1
  let first (l : List Nat) : Option (Nat × Nat) := l.findSome? (fun h => ((s.candidates h).head?).map (fun c => (h, c)))
  match s.soundingAt with
  | none => first homes
  | some (_, h, c) =>
    match (if homes.contains h then (rest h c).head? else none) with
    | some d => some (h, d)
    | none => (first (homes.filter (fun m => Nat.blt h m))).or (first homes)

/-- A spare for a sounding: an idle one, else one that patrols (R139). -/
def State.soundSpare (s : State) : Option Nat :=
  let idle := (List.range 104).find? (fun l => s.lane l == .spare)
  idle.or ((List.range 104).find? (fun l => match s.lane l with
    | .patrols _ => true
    | _ => false))

/-- What a spare works with in a sounding: the home's settings, tuned to the candidate (R181, R214). -/
def State.soundCfg (s : State) (l h cand : Nat) : LaneCfg :=
  let c := s.laneCfg h l
  let g := s.soundBins h
  let b := binFor g cand
  { c with g := g, first := b, freq := freqFor g b cand, settle := nSettle g c.taps.length c.df c.l c.m (c.delay / 64) }

/-- Starts the next sounding, one at a time: the spare takes a copy of the home's bank and starts afresh (R181). Log entry 77: DEDUCED. -/
def State.soundStart (s : State) : State :=
  if !s.sounding.isEmpty || !s.serving || !s.domOn 4 || s.berths.isEmpty then s
  else match s.nextSounding, s.soundSpare with
    | some (h, c), some l =>
      let s := ((s.putLane l (.sounds h)).setSounding [l]).setSoundingAt (some (l, h, c))
      ((s.copyBank (s.bankOf h) (s.bankOn h l)).putChain l 0 (Chain.start 0)).setSoundDet Det.reset
    | _, _ => s

/-- The level P of the sounding in progress, in 0.001 dBm (R181, R243). -/
def State.soundLevel (s : State) (h cand : Nat) : Int :=
  let k := s.soundIntake h
  let d := s.soundDet
  powerOf d.sum (d.count - d.ignored) (6020 - s.chainGain h + (-10000 - 1000 * netOf (s.get (F.INT_GAIN_STATE k))) +
    s.extLoss k ((cand : Int) * 2 ^ 32))

/-- A sounding ends with its window of 2¹⁵ samples: the level is kept with its age, and the spare is free (R181, R214). -/
def State.soundDone (s : State) (l : Nat) : State :=
  match s.soundingAt with
  | none => s
  | some (m, h, cand) =>
    if m != l || s.lane l != .sounds h || s.soundDet.count != 2 ^ 15 then s
    else
      let x := s.foll h
      let s := s.putFoll h { x with heard := (x.heard.filter (·.1 != cand)) ++ [(cand, s.soundLevel h cand, s.clock)] }
      ((s.setSounding (s.sounding.filter (· != l))).setSoundDet Det.reset).putLane l .spare

/-! Starting a fade. -/

/-- The settings that a partner's lane takes from the home's (R181, R183). -/
def laneCopies : List (Nat → Fld) :=
  [F.LN_CTRL_DIVERSITY, F.LN_CTRL_INTAKE, F.LN_CTRL_BANK, F.LN_FIR_DECIM, F.LN_FIR_SHIFT, F.LN_RS_L_L, F.LN_RS_M_M, F.LN_DELAY,
   F.LN_DET_CFG_BRANCH, F.LN_DET_CFG_WINDOW, F.LN_DET_CFG_ENV_K]

/-- The service words that a partner takes from the home's: all but route and AF (Table 8.3). -/
def serviceCopies (std : Nat) : List (Nat → Fld) :=
  if std = 2 then [F.FM_SVC0_MODE, F.FM_SVC0_RBDS, F.FM_SVC0_DEEMPH, F.FM_SVC0_FORCE_MONO, F.FM_SVC0_RDS_CORR, F.FM_SVC5_EXPECT_PI]
  else if std = 1 then [F.AM_SVC0_DETECT, F.AM_SVC0_BW, F.AM_SVC5_RAMP]
  else if std = 4 then [F.DAB_SVC0_TMODE, F.DAB_SVC0_FIC_OUT, F.DAB_SVC0_ALARM_REQ_AL, F.DAB_SVC0_DG_ENABLE, F.DAB_SVC0_DG_SUBCH,
    F.DAB_SVC1_DG_PADDR, F.DAB_SVC2_EXPECT_EID]
  else [F.DRM_SVC0_RMODE, F.DRM_SVC0_FACSDC_OUT, F.DRM_SVC1_EXPECT_SID_LO, F.DRM_SVC2_EXPECT_SID_HI]

/-- Copies fields from berth `h` to berth `p`. -/
def State.copyFields (s : State) (l : List (Nat → Fld)) (h p : Nat) : State := s.each l (fun f t => t.put (f p) (t.get (f h)))

/-- Words of a berth's window that the supervisor writes at STARTING. Log entry 78: DEDUCED. -/
def startWords (p : Nat) (cmd : Bool) : List Nat :=
  ([0x408, 0x409, 0x40A, 0x40D] ++ (if cmd then [] else [0x410, 0x412, 0x413, 0x414, 0x415, 0x416, 0x417, 0x418, 0x419, 0x41A, 0x41B]) ++
    [0x400]).map (· + 0x40 * p)

/-- Starts a berth as a partner, RUN of the berth and of its lane journaled: on the loads that a following home reserved, else with its own
(R183). Log entry 78: DEDUCED. -/
def State.partnerRun (s : State) (p : Nat) (reserved : Bool) : State :=
  let s := s.supDo [0x400 + 0x40 * p, 0x410 + 0x40 * p] (fun s => (s.up (F.BTH_CTRL_RUN p)).up (F.LN_CTRL_RUN p))
  let s := ((s.setAud (Tbl.erase p s.aud)).setPcm (Tbl.erase p s.pcm)).markHere p
  if !reserved then s.admitLoads p
  else ((s.showLoad p).down (F.BTH_CTRL_STOPPED p)).put (F.BTH_STATUS_STATE p)
    (if s.on (F.LN_CTRL_STOPPED p) then bsWaitLane else bsRunning)

/-- Forgets what a berth's decoder holds: a start, a stop, or another standard (R178, R196, R207, R224). -/
def State.decoderReset (s : State) (n : Nat) : State :=
  { s with rds := Tbl.set (fun _ => Rds.reset) s.rds n Rds.reset
           dab := Tbl.set (fun _ => Dab.reset) s.dab n { Dab.reset with config := (s.dabOf n).config }
           drm := Tbl.set (fun _ => Drm.reset) s.drm n { Drm.reset with config := (s.drmOf n).config }
           dvb := Tbl.set (fun _ => Dvb.reset) s.dvb n { Dvb.reset with config := (s.dvbOf n).config } }

/-- A fade starts: the supervisor writes the partner's service fields and, in an AF fade, its lane's, and starts it (Table 8.3, R183). -/
def State.fadeStart (s : State) (h cand : Nat) (cmd waived : Bool) : State :=
  let p := s.partner h
  let g := s.soundBins h
  let b := binFor g cand
  let s := s.putFoll h { s.foll h with fade := some (Fade.new cmd cand waived) }
  let s := s.setXf h xfStarting
  let s := s.supDo (startWords p cmd) (fun s =>
    let s := s.when (s.std p != s.std h) (fun s => (s.put (F.BTH_CTRL_STANDARD p) (s.std h)).loadStandard p)
    let s := s.copyFields (serviceCopies (s.std h)) h p
    let s := s.when (!cmd) (fun s =>
      let s := (s.copyFields laneCopies h p).put (F.LN_CTRL_GROUP_SIZE p) g
      let s := (s.put (F.LN_CTRL_FIRST_BIN p) b).put (F.LN_NCO_FREQ p) (toBits 32 (freqFor g b cand))
      s.copyBank (s.bankOf h) (s.bankOf p))
    s)
  let s := s.decoderReset p
  if !s.following h && !s.admissible p then s.fadeEnd h xrRefusedAdmit
  else s.partnerRun p (s.following h)

/-- The home's 1 ms block begins: a command fade that waits for it starts (R190). -/
def State.fadeBlock (s : State) (h : Nat) : State :=
  match s.fadeOf h with
  | some f => if f.cmd && s.xf h == xfIdle && !s.digital h then s.fadeStart h 0 true false else s
  | none => s

/-- Whether a partner can take part in a fade of `h`: it exists, is stopped, and serves no other fade (R190). -/
def State.partnerFree (s : State) (h : Nat) : Bool :=
  let p := s.partner h
  Nat.blt p 96 && p != h && s.on (F.BTH_CTRL_STOPPED p) && s.on (F.LN_CTRL_STOPPED p) && (s.homeOf p).isNone

/-- The refusal rule of GO and ABORT (R190). -/
def fadeRule (h : Nat) : Rule := fun s _ w =>
  if bits w 8 8 != 0x5A || (bit w 0 && bit w 1) then some resValue
  else if bit w 0 && ((s.fadeOf h).isSome || s.partner h == 0x7F || s.partner h == h || !s.on (F.BTH_CTRL_STOPPED (s.partner h)) ||
      s.std (s.partner h) != s.std h || (s.homeOf (s.partner h)).isSome) then some resValue
  else none

/-- ABORT ends a fade; in RAMP the mix first returns along the ramp that has run (R190, R215). Log entry 79: DEDUCED. -/
def State.fadeAbortCmd (s : State) (h : Nat) : State :=
  match s.fadeOf h with
  | none => s
  | some f =>
    if s.digital h && s.xf h == xfSwap then s
    else if s.xf h == xfRamp && f.ramp != 0 then s.fadeUpdate h (fun f => { f with back := true })
    else s.fadeEnd h xrAbortCmd

/-- A write of `BTH_SVC6`: GO starts a command fade of a running home, at its next 1 ms block where it has such blocks; ABORT ends one
(R190, R215). Log entry 79: DEDUCED. -/
def State.fadeCommand (s : State) (src h w : Nat) : State :=
  match s.write src (0x40E + 0x40 * h) w (fadeRule h) with
  | (s, none) => s
  | (s, some _) =>
    if bit w 0 then
      if s.bstate h != bsRunning then s
      else if s.digital h then s.fadeStart h 0 true false
      else s.putFoll h { s.foll h with fade := some (Fade.new true 0 false) }
    else if bit w 1 then s.fadeAbortCmd h
    else s

/-- An AF fade starts where the conditions of R182 or R215 hold; `level` is the home's quality or level over the last second. -/
def State.followStart (s : State) (h : Nat) (level : Int) : State :=
  let lost := s.lostLong h
  let alarm := if s.std h = 2 then s.on (F.FM_SVC7_ALARM h) else s.std h == 4 && s.on (F.DAB_SVC5_ALARM h)
  let margin : Int := 100 * (s.get (F.FM_SVC3_MARGIN h) : Nat)
  match s.bestCandidate h with
  | none => s
  | some (c, l) =>
    let strong := decide (level + margin ≤ l) || (s.digital h && lost)
    if s.following h && s.bstate h == bsRunning && (s.fadeOf h).isNone && s.serving && strong && (!alarm || lost) && s.partnerFree h then
      s.fadeStart h c false lost
    else s

/-- ALIGN begins (R187, R218). -/
def State.toAlign (s : State) (h : Nat) : State := (s.fadeUpdate h (fun f => { f with alignNs := tsNs s.ts })).setXf h xfAlign

/-- The partner has settled: VERIFY, or ALIGN for a command fade (R185, Table 8.3). -/
def State.fadeSettled (s : State) (h : Nat) : State :=
  match s.fadeOf h with
  | none => s
  | some f =>
    let p := s.partner h
    if s.xf h == xfStarting && s.laneRuns p && !s.on (F.LN_STATUS_SETTLING p) then (if f.cmd then s.toAlign h else s.setXf h xfVerify) else s

/-- The partner's identifier is verified: DWELL, or ALIGN where DWELL is waived (R182, R185, R216). -/
def State.fadeVerified (s : State) (h : Nat) : State :=
  match s.fadeOf h with
  | none => s
  | some f =>
    let s := s.fadeUpdate h (fun f => { f with count := 0 })
    if f.waived || s.lostLong h then s.toAlign h else s.setXf h xfDwell

/-- No identifier in time (R185, R216). -/
def State.fadeTimeout (s : State) (h : Nat) : State := s.when (s.xf h == xfVerify) (·.fadeEnd h xrTimeout)

/-- A 100 ms window of DWELL: enough passed, ALIGN; one that fails ends the fade (R186, R217). Readings in 0.001 dB. -/
def State.fadeWindow (s : State) (h : Nat) (home partner : Int) : State :=
  if s.xf h != xfDwell then s
  else if s.lostLong h then s.toAlign h
  else if decide (home + 100 * (s.get (F.FM_SVC3_MARGIN h) : Nat) ≤ partner) then
    let n := ((s.fadeOf h).map (·.count)).getD 0 + 1
    let s := s.fadeUpdate h (fun f => { f with count := n })
    s.when (Nat.ble (s.get (F.FM_SVC4_DWELL h)) n) (·.toAlign h)
  else s.fadeEnd h xrQuality

/-! The exchange of lanes (R189, R219). -/

/-- The lane fields of a berth window. -/
def laneFields : List (Nat → Fld) :=
  laneCopies ++ [F.LN_CTRL_RUN, F.LN_CTRL_STOPPED, F.LN_CTRL_GROUP_SIZE, F.LN_CTRL_FIRST_BIN, F.LN_PHYS_TAKEOVER, F.LN_PHYS_LANE,
   F.LN_NCO_FREQ, F.LN_PEAK_PEAK, F.LN_RMS_RMS, F.LN_ENV_MAX_MAX, F.LN_ENV_MIN_MIN, F.LN_STATUS_SETTLING, F.LN_STATUS_ASYM,
   F.LN_STATUS_VALID1, F.LN_STATUS_VALID2, F.LN_STATUS_DET_STALE, F.LN_STATUS_DELAY_EV, F.LN_STATUS_FAULT_EV, F.LN_STATUS_CLIP_EV,
   F.LN_STATUS_TAKEOVER_EV, F.LN_CLIP_COUNT_RS, F.LN_CLIP_COUNT_FIR, F.LN_SETTLE_N_SETTLE, F.LN_GD_APPLIED_D_TOTAL,
   F.LN_GD_RESIDUAL_RESIDUAL, F.LN_GD_INTAKE_D_INTAKE, fun n => fPending (laneCommit n), fun n => fGroup (laneCommit n)]

/-- Exchanges fields of two berths. -/
def State.swapFields (s : State) (l : List (Nat → Fld)) (h p : Nat) : State :=
  s.each l (fun f t => (t.put (f h) (s.get (f p))).put (f p) (s.get (f h)))

/-- The berth whose role a lane has, exchanged. -/
def LaneRole.swap (h p : Nat) : LaneRole → LaneRole
  | .carries n => .carries (if n = h then p else if n = p then h else n)
  | .patrols n => .patrols (if n = h then p else if n = p then h else n)
  | .takes n => .takes (if n = h then p else if n = p then h else n)
  | x => x

/-- Exchanges lanes: `LN_PHYS` and the lane fields of the windows, changes armed on them included, detectors and input with them; the exchange is
journaled (R183, R189). -/
def State.swapLanes (s : State) (h p : Nat) : State :=
  let words (n : Nat) : List Nat := ((List.range 12).map (· + 0x410)).map (· + 0x40 * n)
  let other (n : Nat) : Nat := if n = h then p else h
  let s := s.supDo (words h ++ words p) (fun s => s.swapFields laneFields h p)
  let move (x : Shadow) : Shadow :=
    let n := berthOf x.commit
    if x.commit == laneCommit h || x.commit == laneCommit p then
      { x with commit := laneCommit (other n), fld := { x.fld with addr := x.fld.addr - 0x40 * n + 0x40 * other n } }
    else x
  let s := s.each (List.range 104) (fun l t => if (t.lane l).swap h p == t.lane l then t else t.putLane l ((t.lane l).swap h p))
  let swapped {α : Type} (m : Tbl α) : Tbl α := Tbl.give (Tbl.give m h (Tbl.entry m p)) p (Tbl.entry m h)
  let s := ((s.setDets (swapped s.dets)).setDetFull (swapped s.detFull)).setGChain (swapped s.gChain)
  let s := s.each [0, 1] (fun b t => (t.putInput h b (s.input p b)).putInput p b (s.input h b))
  { s with shadow := s.shadow.map move
           syncMask := (if bit s.syncMask h == bit s.syncMask p then s.syncMask
             else s.syncMask - (if bit s.syncMask h then 2 ^ h else 2 ^ p) + (if bit s.syncMask h then 2 ^ p else 2 ^ h)) }

end Sys2Proof.Machine
end

