-- ==== Sys2Proof/Machine/Windows.lean ====
section
/-! DEFINITION. Precision bits and record windows on their grid (R252 to R258). -/

namespace Sys2Proof.Machine

/-! Precision (R252). -/

/-- The number with the named bits at 1. -/
def bitsOf (l : List (Nat × Bool)) : Nat := (l.map (fun e => b2n e.2 * 2 ^ e.1)).sum

/-- The device-wide precision bits as they stand now: what `MSR_PRECISION` reads (R252). Log entry 86: DEDUCED. -/
def State.precision (s : State) : Nat :=
  bitsOf [(pbDegraded, s.mode == .drift), (pbPpsHold, !s.on F.TB_PPS_STATUS_QUALIFIED), (pbPpsSlew, s.on F.TB_PPS_STATUS_SLEWING),
    (pbCoarse, s.on F.TB_PPS_STATUS_COARSE), (pbVref, !s.on F.CAL_STATUS_VREF_OK), (pbOtp, !s.on F.CAL_STATUS_OTP_OK),
    (pbOffset, (s.mode == .drift && !s.on F.TB_REF_STATUS_OFFSET_VALID) ||
      [0, 1].any (fun m => s.on (F.TB_MOV_STATUS_CARRYING m) && s.on (F.TB_MOV_STATUS_HOLDOVER m)))]

/-- The intakes that feed a berth; both feed the supervisor's records. -/
def State.feeders (s : State) (n : Nat) : List Nat :=
  if 96 ≤ n || s.on (F.LN_CTRL_DIVERSITY n) then [1, 2] else [s.laneIntake n]

/-- The precision bits of berth `n` now; `n` from 96 on names the supervisor's intake and inventory records. -/
def State.precisionOf (s : State) (n : Nat) : Nat :=
  let f := s.feeders n
  s.precision ||| bitsOf [
    (pbStale, (f.contains 1 && s.on F.CAL_STATUS_STALE1) || (f.contains 2 && s.on F.CAL_STATUS_STALE2)),
    (pbDrift, (f.contains 1 && s.on F.CAL_STATUS_DRIFT_LARGE1) || (f.contains 2 && s.on F.CAL_STATUS_DRIFT_LARGE2)),
    (pbGd, Nat.blt n 96 && s.on (F.LN_STATUS_ASYM n)),
    (pbBranch, Nat.blt n 96 && ((f.contains 1 && !s.on (F.LN_STATUS_VALID1 n)) || (f.contains 2 && !s.on (F.LN_STATUS_VALID2 n))))]

/-! Windows (R255, R258). -/

/-- PERIOD of a berth. -/
def State.period (s : State) (n : Nat) : Nat := s.get { F.MSR_PERIOD_PERIOD with addr := msrAddr n 0x74 }

/-- The CONFIG counter of a berth's service header; 0 where its standard has none. -/
def State.configOf (s : State) (n : Nat) : Nat :=
  let std := s.std n
  if std = 4 then (s.dabOf n).config
  else if std = 3 then (s.drmOf n).config
  else if std = 5 || std = 6 then (s.dvbOf n).config
  else 0

/-- In a window's bits, above the precision word: an injected event set one of them (R407). -/
def pbInjected : Nat := 16

/-- The precision bits of berth `n` now, with the mark of an injected event: one that set a device-wide bit that still stands or a fault of a
feeding intake, or one in this command that brings a bit that the window has not seen (R407). -/
def State.touchOf (s : State) (n : Nat) : Nat :=
  let p := s.precisionOf n
  let had := ((s.window n).map (·.bits)).getD p
  let faulty := bit p pbBranch && (s.feeders n).any (fun k => !s.intakeOk k && (s.unit .intake k).injected)
  p ||| (if p &&& s.injBits != 0 || faulty || (s.injSeen && p ||| had != had) then 2 ^ pbInjected else 0)

/-- The device-wide precision bits that injected events set: those that still stand, and those that rose in a command with an injected entry
(R407). Log entry 133: DEDUCED. -/
def State.injShow (s : State) : State :=
  let now := s.precision
  let rose := now ^^^ (now &&& s.precNow)
  (s.setInjBits (now &&& (s.injBits ||| if s.injSeen then rose else 0))).setPrecNow now

/-- Every open window takes the precision bits that hold now. -/
def State.touchRecords (s : State) : State :=
  let s := s.injShow
  (s.each (Tbl.keys s.windows) (fun n t => t.markWindow n (t.touchOf n))).setInjSeen false

/-- The end in ns of the grid interval of 0.1 s × p that holds a time (R255). -/
def gridDue (ns p : Nat) : Nat := (ns / (100000000 * p) + 1) * (100000000 * p)

/-- PERIOD of a window's grid: that of its berth, or of the intake records. -/
def State.gridOf (s : State) (n : Nat) : Nat := if Nat.blt n 96 then s.period n else s.get F.MSR_CFG_INTAKE_PERIOD

/-- `MSR_ECHO` of a berth, whole. -/
def State.echoWord (s : State) (n : Nat) : Nat :=
  let f (x : Fld) : Nat := s.get { x with addr := msrAddr n 0x75 }
  2 ^ 15 * f F.MSR_ECHO_ECHO_EN + 2 ^ 14 * f F.MSR_ECHO_CAND_EN + 256 * f F.MSR_ECHO_MAX + f F.MSR_ECHO_THRESH

/-- A window of berth `n` that begins at a timestamp, with the settings in force (R255, R256, R259). -/
def State.freshWin (s : State) (n start bits : Nat) : Win :=
  { Win.new start bits with
    std := if Nat.blt n 96 then s.std n else 0, cfg := if Nat.blt n 96 then s.echoWord n else 0, due := gridDue (tsNs start) (s.gridOf n) }

/-- Opens a window at a timestamp. -/
def State.openAt (s : State) (n start extra : Nat) : State := s.putWindow n (some (s.freshWin n start (s.touchOf n ||| extra)))

/-- Opens a window at this moment. -/
def State.openWindow (s : State) (n extra : Nat) : State := s.openAt n s.ts extra

/-- The record windows at the end of a command: open ones take the precision bits, and the intake window is open while the supervisor records
(R252, R255). Log entry 87: DEDUCED. -/
def State.recordsTouch (s : State) : State :=
  let s := s.touchRecords
  let runs := s.get F.MSR_CFG_INTAKE_PERIOD != 0 && (s.serving || s.mode == .survey)
  if runs && (s.window winIntake).isNone then s.openWindow winIntake (2 ^ pbPartial)
  else if !runs && (s.window winIntake).isSome then s.putWindow winIntake none
  else s

/-- The AF candidates of a berth as entries 0x50 to 0x52, where its window asks for them (R257). -/
def State.candidateEntries (s : State) (n : Nat) (w : Win) : List RecEntry :=
  let af := if w.std = 2 then s.get (F.FM_SVC2_AF_MODE n) else if w.std = 3 || w.std = 4 then s.get (F.DAB_SVC0_AF_MODE n) else 0
  if af = 0 || !bit w.cfg 14 then []
  else
    let cs := ((s.candidates n).take 32).zipIdx
    let heard (c : Nat) := (s.foll n).heard.find? (fun e => e.1 == c)
    cs.map (fun c => (⟨0x50, c.2, c.1⟩ : RecEntry)) ++
    cs.filterMap (fun c => (heard c.1).map (fun e => (⟨0x51, c.2, e.2.1⟩ : RecEntry))) ++
    cs.filterMap (fun c => (heard c.1).map (fun e => (⟨0x52, c.2, ((s.clock - e.2.2) / 100000000 : Nat)⟩ : RecEntry)))

/-- BW of an AM berth in Hz (R168). -/
def amHalf (code : Nat) : Nat := 2500 + 500 * code

/-- A window as it stands at its end at a timestamp: with what its record needs of that moment (R252, R253, R256, R257). The occupied band of an
AM berth is twice BW, that of an FM berth 200 kHz. Log entry 86: DEDUCED. -/
def State.winDone (s : State) (n stop extra : Nat) (w : Win) : Win :=
  { w with
    bits := w.bits ||| s.precisionOf n ||| extra, drift := if s.mode == .drift then s.clock - s.driftAt else w.drift, stop := stop
    config := s.configOf n, switch := (s.foll n).switch, pps := (sext 32 (s.get F.TB_PPS_ERROR_ERROR)).natAbs
    gd := s.get (F.LN_GD_RESIDUAL_RESIDUAL n), found := s.candidateEntries n w
    occupied := if w.std = 2 then 200000 else if w.std = 1 then 2 * amHalf (s.get (F.AM_SVC0_BW n)) else w.occupied }

/-- Ends the open window of a berth at a timestamp; its record follows once its last frame is decoded. -/
def State.closeAt (s : State) (n stop extra : Nat) : State :=
  match s.window n with
  | some w => (s.putWindow n none).putClosed n (s.closed n ++ [s.winDone n stop extra w])
  | none => s

/-- Ends it at this moment. -/
def State.closeWindow (s : State) (n extra : Nat) : State := s.closeAt n s.ts extra

/-- A shortened window: PARTIAL. -/
def cutShort : Nat := 2 ^ pbPartial

/-- A lane sample without SETTLING comes with its stamp in ps: the window of a running berth that has none begins there (R258); a partner has
none (R188). -/
def State.recordStart (s : State) (n : Nat) (ps : Int) : State :=
  if (s.window n).isNone && s.bstate n == bsRunning && s.period n != 0 && (s.homeOf n).isNone then s.openAt n (tsOfPs ps) cutShort else s

/-- A berth stops, is shed, or stops for SURVEY: its last window ends (R258). -/
def State.recordStop (s : State) (n : Nat) : State := s.closeWindow n cutShort

/-- A synchronising reset reaches a berth: its window ends there, and the next begins once the lane has settled (R258). -/
def State.recordReset (s : State) (n : Nat) : State := s.closeWindow n cutShort

/-- A swap gave the home another lane: the window ended at the swap, and the next one starts there (R258). `before` is the state before
it. -/
def State.recordSwap (s before : State) (h : Nat) : State :=
  if s.get (F.LN_PHYS_LANE h) = before.get (F.LN_PHYS_LANE h) then s
  else match before.window h with
    | none => s
    | some w => (s.putClosed h (s.closed h ++ [before.winDone h s.ts cutShort w])).openWindow h cutShort

/-- Applies the armed record settings of a berth (R259). Log entry 85: DEDUCED. -/
def State.recordSettings (s : State) (n : Nat) : State :=
  let c := berthCommit n
  let mine := s.shadow.filter (fun x => x.commit == c && x.armed && Nat.ble 0x12000 x.fld.addr && Nat.blt x.fld.addr 0x13000)
  let s := s.setShadow (s.shadow.filter (fun x => !mine.contains x))
  let s := s.each mine (fun x t => t.put x.fld x.val)
  s.when (!s.shadow.any (fun x => x.commit == c && x.armed)) (·.down (fPending c))

/-- The grid interval of a berth's window is over: the window ended there, and the next begins there; changed settings apply, and the first window
of a new grid is shortened (R255, R258, R259). Log entry 85: DEDUCED. -/
def State.windowEnd (s : State) (n : Nat) : State :=
  match s.window n with
  | none => s
  | some w =>
    if tsNs s.ts < w.due then s
    else
      let s := s.closeAt n (tsOfNs w.due) 0
      let old := s.period n
      let s := s.recordSettings n
      if s.period n = 0 then s else s.openAt n (tsOfNs w.due) (if s.period n = old then 0 else cutShort)

end Sys2Proof.Machine
end

