-- ==== Sys2Proof/Machine/Chain.lean ====
section
/-! DEFINITION. The signal chain in the state: channelisers, the chains of the lanes, detectors, and the berths' input (06_lanes.md, R20,
R96, R110, R154, R268). -/

namespace Sys2Proof.Machine

/-- Writes an entry of the calibration tables. -/
def State.putCal (s : State) (i : Nat) (v : Nat × Nat) : State := s.setCalTable (Tbl.set (fun _ => (0, 0)) s.calTable i v)

/-- An entry of the calibration tables. -/
def State.calEntry (s : State) (i : Nat) : Nat × Nat := Tbl.get (fun _ => (0, 0)) s.calTable i

/-- The channeliser of an intake. -/
def State.bank (s : State) (k : Nat) : Chan := Tbl.get (fun _ => Chan.reset) s.chans k

/-- Writes a channeliser. -/
def State.putBank (s : State) (k : Nat) (c : Chan) : State := s.setChans (Tbl.set (fun _ => Chan.reset) s.chans k c)

/-- A value between two neighbouring bin groups, at `t` of the 32 half-bins between their centres. -/
def between (a b t : Int) : Int := a + (b - a) * t / 32

/-- The state table's gain and phase at a bin, interpolated between group centres (R91, R99). -/
def State.stateGain (s : State) (k state b : Nat) : Int × Int :=
  let pos : Int := 2 * b - 15
  let j := max 0 (min 14 (pos / 32))
  let t := max 0 (min 32 (pos - 32 * j))
  let e (i : Int) : Nat × Nat := s.calEntry (1024 * (k - 1) + 256 + 16 * state + i.toNat)
  (between (sext 16 (e j).1) (sext 16 (e (j + 1)).1) t, between (sext 16 (e j).2) (sext 16 (e (j + 1)).2) t)

/-- The correction of a bin: what takes out its gain and phase at the reference state, those of the gain state, and the drift; none reaches
+6 dB (R91, R99, R102, R116). Log entry 119: DESIGN CHOICE. -/
def State.binCorrection (s : State) (k state b : Nat) : Int × Int :=
  let bin := s.calEntry (1024 * (k - 1) + b)
  let st := s.stateGain k state b
  (min 5999 (-(sext 16 bin.1 + st.1 + sext 16 (s.get (F.INT_DRIFT_GAIN k)))), -(sext 16 bin.2 + st.2 + sext 16 (s.get (F.INT_DRIFT_PHASE k))))

/-! The berths' input (R130, R138, R154, R268). -/

/-- The pilot receive capture FIFO of a berth. -/
def State.rxFifo (s : State) (n : Nat) : Option Nat := (List.range 4).find? (fun i => s.rxBerth i == some n)

/-- Shows the fill of a berth's capture FIFO (Table 12.1). Log entry 121: DEDUCED. -/
def State.showCapture (s : State) (n : Nat) : State :=
  match s.rxFifo n with
  | some i => s.ringShow (112 + i) (min 2048 (s.input n 0).length)
  | none => s

/-- An erased sample as its crane takes it: zero at an FFT crane, the last good one of its branch at a narrow crane (R154). Log entry 121:
DEDUCED. -/
def State.erasedAs (s : State) (n : Nat) (good : Int × Int) (y : BSmp) : BSmp :=
  if inR 3 6 (s.std n) then { y with re := 0, im := 0 } else { y with re := good.1, im := good.2 }

/-- Says whether an injected event makes the output of berth `n`'s lane carry SETTLING (R407). Log entry 133: DEDUCED. -/
def State.taint (s : State) (n : Nat) (v : Bool) : State :=
  if bit s.tainted n == v then s else s.setTainted (if v then s.tainted + 2 ^ n else s.tainted - 2 ^ n)

/-- An output sample of berth `n`'s lane: a berth that waited for it runs, the detectors of its branch take it, SETTLING shows, an erasure is
counted, and a berth at work takes it as input; a full capture FIFO refuses it (R110, R129, R130, R147, R154, R268). `good`: the last output
of its branch that is no erasure. Log entry 121: DEDUCED. Log entry 137: DESIGN CHOICE. -/
def State.laneOutput (s : State) (n b : Nat) (good : Int × Int) (y : BSmp) : State :=
  let s := s.laneHere n
  let two := s.on (F.LN_CTRL_DIVERSITY n)
  let y := { y with time := s.clock, marks := if !two && bit y.marks mkInvalid then withMark y.marks mkSettling else y.marks }
  let s := s.put (F.LN_STATUS_SETTLING n) (b2n (bit y.marks mkSettling))
  let s := s.taint n (bit y.marks mkSettling && bit y.marks mkInjected)
  let s := if two && s.get (F.LN_DET_CFG_BRANCH n) != b then s
    else
      let d := (s.det n).step (s.get (F.LN_DET_CFG_ENV_K n)) y
      if Nat.ble (2 ^ s.get (F.LN_DET_CFG_WINDOW n)) d.count then (s.putDetDone n d).putDet n d.next else s.putDet n d
  let k := if two then b + 1 else s.laneIntake n
  let s := s.when (!bit y.marks mkSettling) (fun s => (s.recordStart n y.stamp).inWindow n y.stamp (·.tune (s.tuned n)))
  let s := s.when (!detIgnores y.marks) (·.inWindow n y.stamp (fun w =>
    w.level k (s.levelOffset n y.marks) (s.adcOffset n) (y.re * y.re + y.im * y.im).toNat))
  let s := s.when (bit y.marks mkErased) (·.bump (F.BTH_ERASURES_COUNT n))
  -- to a DVB berth samples that settle are erasures too (R227)
  let dvb := s.std n == 5 || s.std n == 6
  let y := if bit y.marks mkErased || (dvb && bit y.marks mkSettling) then s.erasedAs n good y else y
  let s := s.when (s.std n == 7 && (!two || s.get (F.LN_DET_CFG_BRANCH n) == b)) (·.rxTake n y (s.levelOffset n y.marks))
  if !s.working n || s.inFef n (y.stamp / 1000).toNat then s
  else if s.std n == 7 && Nat.ble 2048 (s.input n b).length then
    (match s.rxFifo n with
     | some i => (s.showCapture n).captureOverrun i
     | none => s)
  else ((s.putInput n b (s.input n b ++ [y])).showCapture n).scopePump n

/-! Blocks (R20, R96, R114, R118 to R128). -/

/-- The bins that berth `n`'s lane takes of a block, with the external loss at its frequency and the external delay then in force: a pilot-link
receive berth takes zeros that settle in a pilot window (R96, R260). -/
def State.laneBins (s : State) (n : Nat) (c : Chan) (b : AdcBlk) : List Smp :=
  let ext := 2 ^ 16 * (lossAt b.loss (s.tuned n)).toNat + 2 ^ 32 * b.late
  let bins := ((c.bins.drop (s.get (F.LN_CTRL_FIRST_BIN n))).take (s.get (F.LN_CTRL_GROUP_SIZE n))).map (fun x => { x with marks := x.marks + ext })
  if b.pilot && s.std n == 7 then bins.map (fun x => ⟨0, 0, withMark x.marks mkSettling⟩) else bins

/-- A block through the spare of a sounding: once it has settled, its detector window fills (R181). -/
def State.soundRun (s : State) (c : Chan) (blk : AdcBlk) (l h cand : Nat) : State :=
  let cfg := s.soundCfg l h cand
  let o := (s.chain l 0).block cfg blk.off (c.block - 1) blk.time ((c.bins.drop cfg.first).take cfg.g)
  let seen := (o.outs.filter (fun y => !bit y.marks mkSettling)).take (2 ^ 15 - s.soundDet.count)
  (s.putChain l 0 o.chain).setSoundDet (seen.foldl (fun d y => d.step 0 y) s.soundDet)

/-- The chain of branch `b` of a lane with diversity, before it takes the block of a time, and whether that block is over for it: a branch whose
intake was without blocks joins the other one where that stands, so that the two go on sample for sample (R128). Log entry 129: DEDUCED. -/
def State.inStep (s : State) (l b time : Nat) : Chain × Bool :=
  let own := s.chain l b
  let mate := s.chain l (1 - b)
  let taken := mate.lastAt == time + 1
  if own.index == (if taken then mate.was else mate.index) then (own, false)
  else if s.domOn (3 - b) && mate.lastAt != 0 then (mate.follow, taken)
  else ({ own with index := max own.index mate.index }, false)

/-- Whether an intake is about to give a lane blocks: it delivers them, or its FIFO still holds some. -/
def State.gives (s : State) (k : Nat) : Bool :=
  s.domOn (1 + k) && s.on (F.INT_STATUS_RUNNING k) || !(s.bank k).fifo.isEmpty

/-- A lane with diversity whose branch `b` has given `outs` while the other branch's intake gives no blocks: that one follows, and each pair
is whole with a zero of an invalid branch (R128). Log entry 129: DEDUCED. -/
def State.pairUp (s : State) (n l b : Nat) (main : Bool) (outs : List BSmp) : State :=
  if s.gives (2 - b) then s
  else
    let s := s.putChain l (1 - b) { (s.chain l b).follow with good := (s.chain l (1 - b)).good }
    s.when main (fun s => s.each outs (fun y t => t.laneOutput n (1 - b) (0, 0) { y with re := 0, im := 0, marks := 2 ^ mkInvalid }))

/-- A block of intake `k` through one lane, if it reads that intake. Only the lane that carries a berth gives output to it and counts
saturations (R122, R128, R140, R141). -/
def State.runLane (s : State) (k : Nat) (c : Chan) (blk : AdcBlk) (l : Nat) : State :=
  let go (n : Nat) (main : Bool) : State :=
    let two := s.on (F.LN_CTRL_DIVERSITY n)
    if !s.laneRuns n || !(two || s.laneIntake n == k) then s
    else
      let b := if two then k - 1 else 0
      let (h, skip) := if two then s.inStep l b blk.time else (s.chain l b, false)
      let o := if skip then ⟨h, [], 0, 0⟩ else h.block (s.laneCfg n l) blk.off (c.block - 1) blk.time (s.laneBins n c blk)
      let good := (s.chain l b).good
      let s := s.putChain l b o.chain
      let pair (s : State) : State := s.when (two && !skip) (·.pairUp n l b main o.outs)
      if !main then pair s
      else
        let s := s.each (List.range o.fir) (fun _ t => t.bump (F.LN_CLIP_COUNT_FIR n))
        let s := s.each (List.range o.rs) (fun _ t => t.bump (F.LN_CLIP_COUNT_RS n))
        let s := s.when (o.fir + o.rs != 0) (fun s => (s.up (F.LN_STATUS_CLIP_EV n)).inWindow n (1000 * blk.time - s.get (F.LN_GD_APPLIED_D_TOTAL n)) (·.mark (2 ^ pbClip)))
        pair (s.each o.outs (fun y t => t.laneOutput n b good y))
  match s.lane l with
  | .sounds h =>
    match s.soundingAt with
    | some (m, _, cand) => if m == l && s.soundIntake h == k then s.soundRun c blk l h cand else s
    | none => s
  | .carries n => go n true
  | .takes n => go n false
  | .patrols n => go n false
  | _ => s

/-- A block through the channeliser of its intake and every lane that reads it (R114, R118). -/
def State.runBlock (s : State) (k : Nat) (b : AdcBlk) : State :=
  if !s.domOn 4 then s
  else
    let c := (s.bank k).run b (s.binCorrection k b.state)
    ((s.putBank k c).ccaTake k c.bins).each (List.range 104) (fun l t => t.runLane k c b l)

/-- Capacity of the intake-to-channeliser FIFO in blocks (Table 12.1). -/
def chanDepth : Nat := 16

/-- Blocks in the FIFO of an intake; a refused block's place holds none. -/
def State.chanFill (s : State) (k : Nat) : Nat := ((s.bank k).fifo.filter (fun b => !b.zero)).length

/-- Shows the fill of the FIFO of an intake (holds 110 and 111). -/
def State.showChan (s : State) (k : Nat) : State := s.ringShow (109 + k) (s.chanFill k)

/-- The channeliser takes the oldest block of its FIFO, and with it the zeros in the place of blocks refused after it (R16, R20). -/
def State.takeBlock (s : State) (k : Nat) : State :=
  let f := (s.bank k).fifo
  let zeros := (f.drop 1).takeWhile (·.zero)
  let s := s.putBank k { s.bank k with fifo := f.drop (1 + zeros.length) }
  s.each (f.take (1 + zeros.length)) (fun b t => t.runBlock k b)

/-- An edge at which the channeliser takes a block and none comes. -/
def State.popBlock (s : State) (k : Nat) : State := (s.takeBlock k).showChan k

/-- An edge at which a block comes: a pop of the same edge is first; the block is pushed, or, where the FIFO is full or an injected overrun says
so, zeros in its place; whether it was taken (R16, R20, R266, R267, R405). -/
def State.pushBlock (s : State) (k : Nat) (b : AdcBlk) (pop faked : Bool) : State × Bool :=
  let before := s.chanFill k
  let s := s.when pop (·.takeBlock k)
  let c := s.bank k
  let popped := before - s.chanFill k
  let taken := Nat.blt (s.chanFill k) chanDepth && !faked
  let z := { b with samples := b.samples.map (fun _ => 0), zero := true, injected := b.injected || faked }
  let s := s.putBank k { c with fifo := c.fifo ++ [if taken then b else z] }
  (s.ringFill (109 + k) popped (s.chanFill k), taken)

/-- LANES is without power: channelisers and chains, the FIFOs before them and the capture FIFOs of pilot receive berths forget everything
(Table 1.4, R404). -/
def State.chainsLose (s : State) : State :=
  let s := (((((s.setChans []).setChains []).setDets []).setDetFull []).showChan 1).showChan 2
  s.each ((List.range 4).filterMap s.rxBerth) (fun n t => ((t.putInput n 0 []).putInput n 1 []).showCapture n)

end Sys2Proof.Machine
end

