-- ==== Sys2Proof/Machine/Demod.lean ====
section
/-! DEFINITION. The arithmetic of analogue services (R168 to R173, Table 8.1, R187, R188): combining branches, AM and FM detection, audio,
and the steps of a ramp, as functions of the demodulator's state. Filters, loops and roundings that the spec does not give are `Config`'s (log
entry 123). -/

namespace Sys2Proof.Machine

/-! Combining branches (R171). -/

/-- A combined lane sample: value and marks. -/
structure Mixed where
  re : Int
  im : Int
  marks : Nat
  deriving DecidableEq, Repr

/-- |x| of a value, in units of 2⁻⁸. -/
def magOf (re im : Int) : Nat := root ((re * re + im * im).toNat * 2 ^ 16)

/-- The weight of a branch as a fraction: its power over the power of its envelope's fluctuation, N × Σ|x|² ÷ (N × Σ|x|² − (Σ|x|)²); an
invalid branch has none (R171). -/
def branchWeight (xs : List BSmp) : Nat × Nat :=
  if xs.any (fun x => bit x.marks mkInvalid) then (0, 1)
  else
    let mags := xs.map (fun x => magOf x.re x.im)
    let p := xs.length * (mags.map (fun m => m * m)).sum
    (p, p - mags.sum ^ 2)

/-- The blocks of two branches combined: branch 2 rotated into line with branch 1, both weighted; a sample erased on one branch is the other
branch's alone (R154, R171). A branch whose envelope does not fluctuate stands alone; of two such the weights are free values. Log entry 123:
DESIGN CHOICE. Log entry 137: DESIGN CHOICE. -/
def combined (xs ys : List BSmp) : List Mixed :=
  let wx := branchWeight xs
  let wy := branchWeight ys
  let (a, b) := if wx.2 = 0 && wy.2 = 0 then Config.flatWeights wx.1 wy.1 else (wx.1 * wy.2, wy.1 * wx.2)
  let cross (f : BSmp → BSmp → Int) : Int := (List.zipWith f xs ys).sum
  let r := direction (cross (fun x y => x.re * y.re + x.im * y.im)) (cross (fun x y => x.im * y.re - x.re * y.im))
  List.zipWith (fun (x y : BSmp) =>
    let gone (z : BSmp) : Bool := bit z.marks mkErased
    let (a, b) := if gone x && !gone y && b != 0 then (0, b) else if gone y && !gone x && a != 0 then (a, 0) else (a, b)
    let den := (a + b) * 2 ^ 17
    let re := a * 2 ^ 17 * x.re + b * (y.re * r.1 - y.im * r.2)
    let im := a * 2 ^ 17 * x.im + b * (y.re * r.2 + y.im * r.1)
    let settles := a + b == 0 || (a != 0 && bit x.marks mkSettling) || (b != 0 && bit y.marks mkSettling)
    let m := if a = 0 then y.marks else x.marks
    ⟨narrow 8 re den, narrow 8 im den, if settles then withMark m mkSettling else m⟩) xs ys

/-! The demodulator's state. -/

/-- A meter at the start of its windows. -/
def Meter.reset : Meter := ⟨0, 0, (0, 0), (0, 0), 0, [], 0, 0, 0, 0, []⟩

/-- A demodulator that has taken nothing. -/
def Aud.reset : Aud := ⟨0, (0, 0), [], [], 0, 0, (0, 0), [], [], (0, 0, 0, 0), 0, 0, Meter.reset⟩

/-- Lane samples of a 1 ms block: 256 for FM, 48 for AM (R167, R173). -/
def blockLen (std : Nat) : Nat := if std = 2 then 256 else 48

/-- How far the audio filters reach back, in their input samples. -/
def audioReach : Nat := 768

/-- 24-bit PCM of the exact value `num ÷ den`, saturating (R173). -/
def pcmOf (num : Int) (den : Nat) : Int := clampTo 24 (narrow 9 num den)

/-- The 48 audio samples of a block from a history of `len` new values, the newest first: decimated by len ÷ 48, filtered (R168, R170). -/
def audioOf (kind len : Nat) (hist : List Int) : List Int :=
  (List.range 48).map (fun j =>
    let i := len * j / 48
    Config.audioFilter kind (len * j % 48) ((hist.drop (len - 1 - i)).take audioReach))

/-- Whether the audio of a block stands on a sample that settles, and for how many samples more it will (R173). -/
def Aud.settling (a : Aud) (xs : List Mixed) : Bool × Nat :=
  let any := xs.any (fun x => bit x.marks mkSettling)
  (any || a.settle != 0, if any then audioReach else a.settle - xs.length)

/-! FM (R170). -/

/-- The discriminator: the deviation in Hz that the angle of a product of a sample and its predecessor's conjugate shows at 256 kS/s (R170).
Log entry 123: DESIGN CHOICE. -/
def deviation (re im : Int) : Int :=
  if re = 0 && im = 0 then Config.noDeviation
  else
    let a : Int := angle re im
    rounded 15 ((if a < 2 ^ 47 then a else a - 2 ^ 48) * 256000) (2 ^ 48)

/-- The component of a block of MPX at `khz`, in Hz × 256 ÷ 2 and units of 2⁻¹⁷: a whole number of its cycles fills the block (Table 8.1). -/
def tone (khz : Nat) (mpx : List Int) : Int × Int :=
  mpx.zipIdx.foldl (fun (a : Int × Int) x => let w := turn 17 (khz * x.2 % 256) 256; (a.1 + x.1 * w.1, a.2 - x.1 * w.2)) (0, 0)

/-- The amplitude in Hz that the sum of the components of `blocks` blocks shows, to the nearest. -/
def toneAmp (blocks : Nat) (p : Int × Int) : Int := roundDiv (root (4 * (p.1 * p.1 + p.2 * p.2).toNat)) (blocks * 256 * 2 ^ 17)

/-- Whether a component of one block has an amplitude of `hz` or more. -/
def toneAbove (hz : Nat) (p : Int × Int) : Bool := Nat.ble ((hz * 128 * 2 ^ 17) ^ 2) (p.1 * p.1 + p.2 * p.2).toNat

/-- The pilot of a block in the times that R170 counts. -/
def Aud.pilot (a : Aud) (p : Int × Int) : Aud :=
  { a with above := if toneAbove 3400 p then min 100 (a.above + 1) else 0, below := if toneAbove 2000 p then 0 else min 100 (a.below + 1) }

/-- The discriminator over a block: MPX in Hz. -/
def mpxOf (prev : Int × Int) (xs : List Mixed) : List Int :=
  List.zipWith (fun (p : Int × Int) (x : Mixed) => deviation (x.re * p.1 + x.im * p.2) (x.im * p.1 - x.re * p.2))
    (prev :: xs.map (fun x => (x.re, x.im))) xs

/-- The pilot loop over a block of MPX: its state, and the difference signal demodulated at 38 kHz (R170). -/
def pilotOf (loop : Nat) (mpx : List Int) : Nat × List Int :=
  mpx.foldl (fun (a : Nat × List Int) m =>
    let l := Config.pilotLoop a.1 m
    (l, a.2 ++ [narrow 10 (2 * m * Config.subcarrier l) (2 ^ 17)])) (loop, [])

/-- De-emphasis of a channel: its state and the audio (R170). -/
def deemphasised (code : Nat) (y : Int) (xs : List Int) : Int × List Int :=
  if code = 0 then (y, xs)
  else xs.foldl (fun (a : Int × List Int) x => let v := Config.deemphasis code a.1 x; (v, a.2 ++ [v])) (y, [])

/-- A block of an FM berth: the demodulator, L and R, and MPX. Stereo is formed from sum and difference; otherwise both channels carry the sum
(R170, R173). -/
def Aud.fm (a : Aud) (stereo : Bool) (deemph : Nat) (xs : List Mixed) : Aud × List Int × List Int × List Int :=
  let mpx := mpxOf a.prev xs
  let p := pilotOf a.loop mpx
  let det := (mpx.reverse ++ a.det).take 1024
  let diff := (p.2.reverse ++ a.diff).take 1024
  let m := audioOf 0 256 det
  let d := audioOf 0 256 diff
  let l := if stereo then List.zipWith (· + ·) m d else m
  let r := if stereo then List.zipWith (· - ·) m d else m
  let a := a.pilot (tone 19 mpx)
  let l := deemphasised deemph a.emph.1 l
  let r := deemphasised deemph a.emph.2 r
  let pcm (v : Int) : Int := pcmOf (v * 2 ^ 22) 75000
  let last := (xs.getLast?).getD ⟨0, 0, 0⟩
  ({ a with prev := (last.re, last.im), det := det, diff := diff, loop := p.1, emph := (l.1, r.1), settle := (a.settling xs).2 },
    l.2.map pcm, r.2.map pcm, mpx)

/-! AM (R168, R169). -/

/-- Whether the carrier loop counts as locked: quadrature power 20 dB or more below the in-phase power over 100 ms (R168). Log entry 106: DEDUCED. -/
def Aud.locked (a : Aud) : Bool :=
  let i := (a.powers.map (·.1)).sum
  a.powers.length == 100 && i != 0 && Nat.ble (100 * (a.powers.map (·.2)).sum) i

/-- A sample of the filtered envelope into the depth figures: sum, count, largest, least (R169). -/
def depthStep (d : Int × Nat × Int × Int) (e : Int) : Int × Nat × Int × Int :=
  if d.2.1 = 0 then (e, 1, e, e) else (d.1 + e, d.2.1 + 1, max d.2.2.1 e, min d.2.2.2 e)

/-- A block of an AM berth: the demodulator, the audio. `sync`: synchronous detection; `bw`: the BW code (R168, R173). -/
def Aud.am (a : Aud) (sync : Bool) (bw : Nat) (xs : List Mixed) : Aud × List Int :=
  let mags := xs.map (fun x => (magOf x.re x.im : Int))
  let track : Nat × List (Int × Int) := xs.foldl (fun t x =>
    let l := Config.carrierLoop t.1 x.re x.im
    (l, t.2 ++ [Config.derotate l (x.re, x.im)])) (a.loop, [])
  let ins := track.2.map Prod.fst
  let sq (l : List Int) : Nat := ((l.map (fun v => v * v)).sum).toNat
  let a := { a with
    det := (mags.reverse ++ a.det).take 1024, diff := (ins.reverse ++ a.diff).take 1024, loop := track.1
    settle := (a.settling xs).2
    means := ((mags.sum.toNat, ins.sum) :: a.means).take 1000
    powers := ((sq ins, sq (track.2.map Prod.snd)) :: a.powers).take 100 }
  let count : Nat := 48 * a.means.length
  let e0 : Nat := (a.means.map Prod.fst).sum
  let i0 : Int := (a.means.map Prod.snd).sum
  let env := audioOf (1 + bw) 48 a.det
  let depth := (List.zip env xs).foldl (fun d p => if detIgnores p.2.marks then d else depthStep d p.1) a.depth
  let out := if sync && a.locked then (audioOf (1 + bw) 48 a.diff).map (fun v => pcmOf ((v * (count : Int) - i0) * 2 ^ 22) i0.toNat)
    else env.map (fun v => pcmOf ((v * (count : Int) - (e0 : Int)) * 2 ^ 22) e0)
  ({ a with depth := depth }, out)

/-- A modulation depth in 0.1 %: how far an extreme lies from the mean of the envelope, over that mean, both times the count (R169). -/
def depthOf (diff sum : Int) : Nat := (rounded 11 (1000 * diff) sum.toNat).toNat

/-! FM measurements (Table 8.1). -/

/-- The multipath figure in 0.01: 100 × RMS of (|x| ÷ mean|x| − 1), clipped to 100; |x| comes in units of 2⁻⁸. Log entry 119: DESIGN CHOICE. -/
def multipath (count mags squares : Nat) : Nat :=
  if mags = 0 then 10000 else min 10000 (root (10 ^ 8 * (count * squares * 2 ^ 16 - mags ^ 2) / mags ^ 2))

/-- A lane sample's |x|² into the level sums of a meter, at its own offset (R243). -/
def addPart (l : List (Int × Nat × Nat)) (off : Int) (p : Nat) : List (Int × Nat × Nat) :=
  let old := ((l.find? (·.1 == off)).map (·.2)).getD (0, 0)
  l.filter (·.1 != off) ++ [(off, old.1 + 1, old.2 + p)]

/-- A block of MPX and of lane samples into the meter; `offset` gives what refers a gain state's samples to the ANT pins. -/
def Meter.block (m : Meter) (mpx : List Int) (xs : List Mixed) (offset : Nat → Int) : Meter :=
  let add (a b : Int × Int) : Int × Int := (a.1 + b.1, a.2 + b.2)
  let mags := xs.map (fun x => magOf x.re x.im)
  { m with
    blocks := m.blocks + 1, peak := (mpx.map Int.natAbs).foldl max m.peak, pilot := add m.pilot (tone 19 mpx)
    rds := add m.rds (tone 57 mpx), square := m.square + ((mpx.map (fun v => v * v)).sum).toNat
    short := m.short + 1, count := m.count + xs.length, mags := m.mags + mags.sum
    squares := m.squares + (xs.map (fun x => (x.re * x.re + x.im * x.im).toNat)).sum, 
    parts := xs.foldl (fun l x => addPart l (offset (gainOf x.marks)) (x.re * x.re + x.im * x.im).toNat) m.parts }

/-- What the windows of a meter that are complete give, in the units of Table 11.8: after 100 blocks M and Q, after 1,000 the deviations and,
over 60 s, the MPX power. With them the meter goes on. -/
def Meter.results (m : Meter) : Meter × List (Nat × Int) :=
  let fast : List (Nat × Int) :=
    if m.short < 100 then []
    else
      let f := multipath m.count m.mags m.squares
      let level := meanPower (m.parts.map (fun p => (p.2.1, millibel p.2.2 (p.2.1 * 32768 ^ 2) + p.1)))
      [(0x0B, (f : Int)), (0x0C, level - 3 * (f : Int))]
  let m := if m.short < 100 then m else { m with short := 0, count := 0, mags := 0, squares := 0, parts := [] }
  if m.blocks < 1000 then (m, fast)
  else
    let secs := (m.square :: m.seconds).take 60
    let power : List (Nat × Int) :=
      if secs.length < 60 then [] else [(0x0A, millibel (2 * secs.sum) (60 * 256000 * 19000 ^ 2))]
    ({ m with blocks := 0, peak := 0, pilot := (0, 0), rds := (0, 0), square := 0, seconds := secs },
      fast ++ [(0x07, (((m.peak + 5) / 10 * 10 : Nat) : Int)), (0x08, toneAmp 1000 m.pilot), (0x09, toneAmp 1000 m.rds)] ++ power)

/-! Ramps, and the correlation of ALIGN (R187, R188, R312). -/

/-- Step `i` of `n` of a raised cosine, ½ × (1 − cos(π × i ÷ n)) in units of 2⁻²⁴: 0 before the first, 1 from the last on. -/
def fadeStep (i n : Nat) : Int := if i = 0 then 0 else if n ≤ i then 2 ^ 24 else roundDiv (2 ^ 40 - (turn 40 i (2 * n)).1) (2 ^ 17)

/-- y = (1 − g) × a_h + g × a_p, rounded to 24 bits (R188). -/
def mixOf (g ah ap : Int) : Int := clampTo 24 (rounded 12 ((2 ^ 24 - g) * ah + g * ap) (2 ^ 24))

/-- The mono audio of a block. -/
def Pcm.mono (p : Pcm) : List Int := List.zipWith (fun l r => (l + r) / 2) p.left p.right

/-- The sums of a correlation at a lag: the product of both, and the energy of each. The partner leads by `lag` samples: its sample i stands
beside the home's sample i + lag. -/
def corrAt (xs ys : List Int) (lag : Int) : Int × Nat × Nat :=
  let home := (xs.drop (384 + lag).toNat).take 4096
  let mate := (ys.drop 384).take 4096
  let sq (l : List Int) : Nat := ((l.map (fun v => v * v)).sum).toNat
  ((List.zipWith (· * ·) home mate).sum, sq home, sq mate)

/-- Whether a normalised correlation is at least 0.80, and the comparison of two: c₁ ÷ √e₁ against c₂ ÷ √e₂ of one partner stretch (R187). -/
def corrStrong (c : Int × Nat × Nat) : Bool := decide (0 < c.1) && decide (64 * (c.2.1 * c.2.2) ≤ 100 * (c.1 * c.1).toNat)

/-- Whether a correlation lies above another. -/
def corrAbove (a b : Int × Nat × Nat) : Bool :=
  decide (0 < a.1) && (decide (b.1 ≤ 0) || decide ((b.1 * b.1).toNat * a.2.1 < (a.1 * a.1).toNat * b.2.1))

/-- The lag of the peak among −384 to 384, and whether it reaches 0.80 (R187). Needs 4,096 + 768 samples of both members. -/
def correlate (xs ys : List Int) : Option (Int × Bool) :=
  if xs.length < 4864 || ys.length < 4864 then none
  else
    let best := (List.range 769).foldl (fun (b : Option (Int × Int × Nat × Nat)) (i : Nat) =>
      let lag : Int := (i : Int) - 384
      let c := corrAt xs ys lag
      match b with
      | none => some (lag, c)
      | some (_, d) => if corrAbove c d then some (lag, c) else b) none
    best.map (fun b => (b.1, corrStrong b.2))

/-- The product of two stretches of MPX at a lag of MPX samples, over the time of the 4,096 audio samples (R187). -/
def mpxCorr (xs ys : List Int) (lag : Int) : Int :=
  (List.zipWith (· * ·) ((xs.drop (2056 + lag).toNat).take 21845) ((ys.drop 2056).take 21845)).sum

/-- The lag in 1/64 MPX sample: the largest product within three samples of a lag found on the audio, moved by the parabola through it and
its neighbours (R187). Log entry 123: DESIGN CHOICE. -/
def refine (lag : Int) (xs ys : List Int) : Int :=
  let near := roundDiv (16 * lag) 3
  let all := (List.range 9).map (fun i => let l := near - 4 + (i : Int); (l, mpxCorr xs ys l))
  let at_ (i : Nat) : Int × Int := all.getD i (0, 0)
  let best := (List.range 7).foldl (fun b i => if (at_ b).2 < (at_ (i + 1)).2 then i + 1 else b) 1
  let (l, c) := at_ best
  let a := (at_ (best - 1)).2
  let b := (at_ (best + 1)).2
  64 * l + (if 2 * c ≤ a + b then 0 else roundDiv (64 * (b - a)) (2 * (2 * c - a - b).toNat))

end Sys2Proof.Machine
end

