-- ==== Sys2Proof/Machine/Rds.lean ====
section
/-! DEFINITION. AM and FM berths: modulation depth, stereo, RDS blocks and groups, PI, PTY and AF (R169, R170, R175 to R180). -/

namespace Sys2Proof.Machine

/-- Whether a berth of a standard works: on a running lane with a valid branch, or on the input of the ticket in flight (R110, R147). -/
def State.works (s : State) (n std : Nat) : Bool :=
  Nat.blt n 96 && s.std n == std && ((s.working n && s.laneRuns n && s.fed n) || (s.serves n && !s.working n))

/-- The demodulator of an AM or FM berth. -/
def State.audOf (s : State) (n : Nat) : Aud := Tbl.get (fun _ => Aud.reset) s.aud n

/-- Writes it. -/
def State.putAud (s : State) (n : Nat) (a : Aud) : State := s.setAud (Tbl.set (fun _ => Aud.reset) s.aud n a)

/-- The audio blocks of a berth, oldest first. -/
def State.audio (s : State) (n : Nat) : List Pcm := Tbl.get (fun _ => []) s.pcm n

/-- Writes them. -/
def State.putAudio (s : State) (n : Nat) (l : List Pcm) : State := s.setPcm (Tbl.set (fun _ => []) s.pcm n l)

/-- The peak modulation depths of the last second load, from the envelope's extremes and its mean; m₋ saturates at 100.0 %, m₊ at the
register's width (R169). They are the results of the record window, too (R255). Log entry 123: DESIGN CHOICE. -/
def State.amDepth (s : State) (n : Nat) : State :=
  if !s.works n 1 then s
  else
    let a := s.audOf n
    let d := a.depth
    let pos := min 65535 (depthOf (d.2.2.1 * d.2.1 - d.1) d.1)
    let neg := min 1000 (depthOf (d.1 - d.2.2.2 * d.2.1) d.1)
    let s := s.putAud n { a with depth := (0, 0, 0, 0) }
    let at_ : Int := match (s.audio n).getLast? with
      | some p => p.stamp
      | none => 1000 * (tsNs s.ts : Int)
    let s := s.inWindow n at_ (fun w => (w.give 0x0D 0 pos).give 0x0E 0 neg)
    (s.put (F.AM_SVC3_DEPTH_POS n) pos).put (F.AM_SVC4_DEPTH_NEG n) neg

/-- Stereo is declared once the pilot deviation has stood at or above 3.4 kHz for 100 ms, and dropped once it has stood below 2.0 kHz for
100 ms (R170); a mono berth has no pilot loop. -/
def State.stereo (s : State) (n : Nat) (above : Bool) : State :=
  let a := s.audOf n
  let due := if above then Nat.ble 100 a.above else Nat.ble 100 a.below
  s.when (s.works n 2 && s.get (F.FM_SVC0_MODE n) != 0 && due) (·.put (F.FM_SVC7_STEREO n) (b2n above))

/-! AF lists (R180). -/

/-- A complete list replaces the one in force where it agrees with the reception before; lists of method B stand beside each other by
their tuned frequency, and a list of method A stands alone (R180). Log entry 9: PRESUMED. -/
def Rds.afWhole (r : Rds) (l : List Nat) : Rds :=
  let k := afKey l
  let agrees := r.afLast.any (fun x => x == (k, l))
  let last := (k, l) :: r.afLast.filter (fun x => x.1 != k)
  let others := if k = 0 then [] else r.afList.filter (fun x => x.1 != k && x.1 != 0)
  { r with afRx := none, afLast := last.take 32, afList := if agrees then (others ++ [(k, l)]).take 32 else r.afList }

/-- Two AF codes of a group 0A: a count opens a list, further codes fill it (R180; log entry 9). Log entry 9: PRESUMED. -/
def Rds.af (r : Rds) (hi lo : Nat) : Rds :=
  let take (n : Nat) (l : List Nat) : Rds := if Nat.ble n l.length then r.afWhole (l.take n) else { r with afRx := some (n, l) }
  if inR 224 249 hi then take (hi - 224) (if hi = 224 then [] else [lo])
  else match r.afRx with
    | none => r
    | some (n, l) => if hi = 250 then take n (l ++ [250]) else take n (l ++ [hi, lo].filter (fun c => c != 205 && c != 0))

/-! PI, alarm and test states (R178, R179). -/

/-- A fade of which a home's alarm start would make an end (Tables 8.5, 9.10). -/
def State.alarmAborts (s : State) (h : Nat) : State :=
  match s.fadeOf h with
  | none => s
  | some f =>
    let late := if s.digital h then s.xf h == xfSwap else s.xf h == xfRamp || s.xf h == xfSwap
    if f.cmd || late then s else s.fadeEnd h xrAbortEvent

/-- The alarm state of an FM home starts. -/
def State.fmAlarmStart (s : State) (h : Nat) : State :=
  if s.on (F.FM_SVC7_ALARM h) then s
  else ((((s.putRds h { s.rdsOf h with off31 := 0 }).up (F.FM_SVC7_ALARM h)).up (F.FM_SVC7_ALARM_EV h)).urgentStart 2 h).alarmAborts h

/-- The alarm state of an FM home ends. -/
def State.fmAlarmEnd (s : State) (h : Nat) : State :=
  s.when (s.on (F.FM_SVC7_ALARM h)) (fun s => (s.down (F.FM_SVC7_ALARM h)).urgentEnd 2 h)

/-- Starts or ends the RBDS test state: an entry without URGENT (R179). -/
def State.testState (s : State) (n : Nat) (on : Bool) : State :=
  let r := s.rdsOf n
  if r.test == on then s
  else
    let s := s.putRds n { r with test := on }
    let s := s.error 0x0C05 .berth n (if on then .stateStart else .stateEnd) { d0 := 2, d1 := n, d2 := 30 }
    s.when on (·.up (F.FM_SVC7_TEST_EV n))

/-- PI_MATCH: whether the last two PIs decoded equal the reference PI (R178). -/
def State.piJudge (s : State) (n : Nat) : State :=
  let pis := (s.rdsOf n).pis.map (·.1)
  s.put (F.FM_SVC7_PI_MATCH n) (b2n (match s.refPi n with
    | some ref => pis == [ref, ref]
    | none => false))

/-- The PI of a group: the last two, the PI learned from two groups in a row, PI_MATCH and PI_CHANGE_EV (R178). Log entry 76: DEDUCED. -/
def State.piSeen (s : State) (n pi : Nat) (clean : Bool) : State :=
  let r := s.rdsOf n
  let before := if r.gap then none else r.pis.head?
  let learned := match r.learned, before with
    | none, some (q, true) => if q == pi && clean then some pi else none
    | x, _ => x
  let s := s.putRds n { r with pis := ((pi, clean) :: r.pis).take 2, learned := learned, gap := false, shown := true }
  match s.refPi n with
  | none => s
  | some ref => (s.piJudge n).when (pi != ref && (before.map (·.1)) == some pi) (·.up (F.FM_SVC7_PI_CHANGE_EV n))

/-- The PI check of VERIFY: two PIs without correction in a row that equal the home's; one that differs ends the fade. With REG_ALLOW the
bits [11:8] are not compared (R185). A PI decoded only with correction is passed over. Log entry 138: DESIGN CHOICE. -/
def State.piVerify (s : State) (h pi : Nat) (clean : Bool) : State :=
  match s.fadeOf h, s.refPi h with
  | some f, some ref =>
    if s.xf h != xfVerify || !clean then s
    else
      let same := if s.on (F.FM_SVC2_REG_ALLOW h) then pi / 4096 == ref / 4096 && pi % 256 == ref % 256 else pi == ref
      if !same then s.fadeEnd h xrMismatch
      else if f.count = 1 then s.fadeVerified h
      else s.fadeUpdate h (fun f => { f with count := 1 })
  | _, _ => s

/-- A PI that a group shows, in block A or C′: the first of the group counts for the berth, every one for the fade in which the berth is the
partner (R177, R178, R185). Log entry 76: DEDUCED. -/
def State.piBlock (s : State) (n pi : Nat) (clean : Bool) : State :=
  let s := s.when (!(s.rdsOf n).shown) (·.piSeen n pi clean)
  match s.homeOf n with
  | some h => s.piVerify h pi clean
  | none => s

/-- The PTY of a group whose blocks A and B decode, at the end of block B (R179): the start of the alarm state and, in RBDS, of
the test state. `clean`: neither block was corrected; `pi`: the group's PI. Answers whether the group decides a start. -/
def State.ptySeen (s : State) (n pi pty : Nat) (clean : Bool) : State × Bool :=
  let r := s.rdsOf n
  let home := s.homeOf n
  let ref := s.refPi (home.getD n)
  if ref != some pi || (home.isNone && !s.on (F.FM_SVC7_PI_MATCH n)) then (s.putRds n { r with on31 := false, on30 := false }, false)
  else
    let target := home.getD n
    let was := s.on (F.FM_SVC7_ALARM target)
    let s := s.putRds n { r with on31 := pty == 31, on30 := pty == 30,
                                 off31 := if pty = 31 then 0 else r.off31, off30 := if pty = 30 then 0 else r.off30 }
    let s := s.when (pty == 31 && (clean || r.on31)) (·.fmAlarmStart target)
    let rbds := s.on (F.FM_SVC0_RBDS n) && home.isNone
    let s := s.when (rbds && pty == 30 && (clean || r.on30)) (·.testState n true)
    (s, s.on (F.FM_SVC7_ALARM target) != was)

/-! Blocks and groups (R175, R176). -/

/-- The broadcast time of a group 4A in ms since 1 January 1970 (log entry 124). Log entry 124: PRESUMED. -/
def rdsClock (b c d : Nat) : Int :=
  let mjd := b % 4 * 32768 + c / 2
  let minutes := (mjd - 40587) * 1440 + (c % 2 * 16 + d / 4096) * 60 + d / 64 % 64
  60000 * (minutes : Int)

/-- A complete group: the end of the alarm and test states after 8 good groups in a row without their PTY, the consignment, the AF codes of a
group 0A and the time of a group 4A (R176 to R180). A partner's groups do not leave (R188). Log entry 76: DEDUCED. -/
def State.rdsGroup (s : State) (n : Nat) : State :=
  let r := s.rdsOf n
  let w (i : Nat) : Nat := ((r.blocks[i]?).map (·.2)).getD 0
  let pty := bits (w 1) 5 5
  let home := (s.homeOf n).isNone
  let works := s.on (F.FM_SVC7_PI_MATCH n)
  let count (x k : Nat) : Nat := if pty = x then 0 else min 8 (k + 1)
  let s := s.when works (·.putRds n { r with off31 := count 31 r.off31, off30 := count 30 r.off30 })
  let ends := home && works && s.on (F.FM_SVC7_ALARM n) && (s.rdsOf n).off31 == 8
  let s := s.when ends (·.fmAlarmEnd n)
  let s := s.when (home && works && (s.rdsOf n).off30 == 8) (·.testState n false)
  let s := if !home then s
    else s.emit n 4 (s.berthFlags n (r.urgent || ends)) r.ts ((r.blocks.map (fun b => be 2 b.2)).flatten)
  let group := bits (w 1) 11 5
  -- the time stands for the end of the group, 104 bits of 1,187.5 bit/s after its start
  let s := s.when (home && group == 8) (·.inWindow n (1000 * (tsNs r.ts : Int)) (fun x =>
    x.give 0x13 0 (rdsClock (w 1) (w 2) (w 3) - ((tsNs r.ts + 87578947) / 1000000 : Nat))))
  s.when (works && group == 0) (fun s => s.putRds n ((s.rdsOf n).af (w 2 / 256) (w 2 % 256)))

/-- Block synchronisation falls or rises. -/
def State.rdsSync (s : State) (n : Nat) (v : Bool) : State :=
  let s := s.when (!v && s.on (F.FM_SVC7_RDS_SYNC n)) (fun s => s.putFoll n { s.foll n with lostAt := s.clock })
  s.put (F.FM_SVC7_RDS_SYNC n) (b2n v)

/-! The check word (IEC 62106; log entry 9). -/

/-- The 10-bit remainder of 16 information bits by x¹⁰ + x⁸ + x⁷ + x⁵ + x⁴ + x³ + 1. Log entry 9: PRESUMED. -/
def rdsCheck (info : Nat) : Nat :=
  (List.range 16).foldl (fun r i =>
    let r2 := r * 2 % 1024
    if bit info (15 - i) == bit r 9 then r2 else r2 ^^^ 0x1B9) 0

/-- The offset word that an errorless block of 26 bits carries. -/
def rdsOffset (w : Nat) : Nat := rdsCheck (w / 1024) ^^^ (w % 1024)

/-- The offset words of blocks A, B, C, C′ and D. Log entry 9: PRESUMED. -/
def rdsWords : List Nat := [0x0FC, 0x198, 0x168, 0x350, 0x1B4]

/-- The error bursts of `b` bits. -/
def rdsBursts (b : Nat) : List Nat :=
  if b = 1 then [1] else (List.range (2 ^ (b - 2))).map (fun k => 2 ^ (b - 1) + 2 * k + 1)

/-- A block with an offset word, after correction of a burst of at most `lim` bits, the shortest first: the bits corrected, and the
information (R175). -/
def rdsFix (lim offset w : Nat) : Option (Nat × Nat) :=
  if rdsOffset w = offset then some (0, w / 1024)
  else (List.range lim).findSome? (fun b => (rdsBursts (b + 1)).findSome? (fun p =>
    (List.range (26 - b)).findSome? (fun i =>
      let v := w ^^^ (p * 2 ^ i)
      if rdsOffset v = offset then some (b + 1, v / 1024) else none)))

/-- A block at a place of a group (R175, R176): `got` are the bits corrected and the information of one that decodes; `prime` says that it
stands as C′. The group goes on, is voided, or completes; one that begins before `since` is void (R189). -/
def State.rdsInGroup (s : State) (n pos : Nat) (got : Option (Nat × Nat)) (prime : Bool) (ts : Nat) : State :=
  let r := s.rdsOf n
  let good := got.isSome
  let x := got.getD (0, 0)
  let r := if pos = 0 then { r with ok := good && Nat.ble r.since ts, blocks := [x], cPrime := false, ts := ts, urgent := false,
                                    shown := false, on31 := r.on31 && good, on30 := r.on30 && good }
    else { r with ok := r.ok && good, blocks := r.blocks ++ [x], cPrime := r.cPrime || (pos == 2 && prime) }
  let s := s.putRds n r
  let a := (r.blocks[0]?).getD (0, 0)
  let s := if good && (pos = 0 || (pos = 2 && prime)) then s.piBlock n x.2 (x.1 == 0) else s
  let s := if pos = 1 && r.ok then
      let y := s.ptySeen n a.2 (bits x.2 5 5) (a.1 == 0 && x.1 == 0)
      y.1.putRds n { y.1.rdsOf n with urgent := y.2 }
    else if pos = 1 then s.putRds n { s.rdsOf n with on31 := false, on30 := false } else s
  if pos = 3 then
    let s := s.when (!(s.rdsOf n).shown) (fun s => s.putRds n { s.rdsOf n with gap := true })
    if r.ok && r.blocks.length == 4 then s.rdsGroup n
    else s.putRds n { s.rdsOf n with off31 := 0, off30 := 0, blocks := [], ok := false }
  else s

/-- A block where one with a given place is expected: in place C the offset word C′ where block B names version B, either where it did not
decode (R175). -/
def State.rdsExpect (s : State) (n w : Nat) : Option (Nat × Nat) × Bool :=
  let r := s.rdsOf n
  let lim := s.get (F.FM_SVC0_RDS_CORR n)
  let fix (i : Nat) : Option (Nat × Nat) := rdsFix lim (rdsWords.getD i 0) w
  if r.pos = 2 then
    if r.ok then (let b := bit (((r.blocks[1]?).getD (0, 0)).2) 11; (fix (if b then 3 else 2), b))
    else match fix 2 with
      | some x => (some x, false)
      | none => (fix 3, true)
  else (fix (if r.pos = 3 then 4 else r.pos), false)

/-- An RDS block of 26 bits (R175): three in order, each with a correct offset word, declare synchronisation; 45 failures in the last 50 end it.
In RBDS a block with offset word E, which is 0, is ignored. Blocks are counted for the records (R176). -/
def State.rdsBlock (s : State) (n w ts : Nat) : State :=
  if !(s.works n 2 && s.get (F.FM_SVC0_MODE n) == 2) || (rdsOffset w == 0 && s.on (F.FM_SVC0_RBDS n)) then s
  else
    let r := s.rdsOf n
    if s.on (F.FM_SVC7_RDS_SYNC n) then
      let e := s.rdsExpect n w
      let hist := (e.1.isNone :: r.hist).take 50
      let q := match e.1 with
        | some (0, _) => 0x10
        | some _ => 0x11
        | none => 0x12
      let s := s.inWindow n (1000 * (tsNs ts : Int)) (·.add q 0 1)
      let s := s.putRds n { r with pos := (r.pos + 1) % 4, hist := hist }
      let s := s.rdsInGroup n r.pos e.1 e.2 ts
      if Nat.ble 45 (hist.filter (fun b => b)).length then
        (s.rdsSync n false).putRds n { s.rdsOf n with run := 0, hist := [], blocks := [], ok := false, gap := true }
      else s
    else match rdsWords.findIdx? (· == rdsOffset w) with
      | none => s.putRds n { r with run := 0, blocks := [], ok := false, gap := true }
      | some i =>
        let p := if i < 3 then i else i - 1
        let run := if p = r.pos then r.run + 1 else 1
        let r := if p = r.pos then r else { r with blocks := [], ok := false, gap := true, shown := false }
        let s := s.putRds n { r with pos := (p + 1) % 4, run := run }
        let s := s.rdsInGroup n p (some (0, w / 1024)) (i == 3) ts
        s.when (Nat.ble 3 run) (·.rdsSync n true)

end Sys2Proof.Machine
end

