-- ==== Sys2Proof/Machine/Analogue.lean ====
section
/-! DEFINITION. The audio of AM and FM berths, block by block, and the fade of an analogue berth (R168 to R173, R187 to R190). -/

namespace Sys2Proof.Machine

/-! Blocks of 1 ms (R168 to R173). -/

/-- The input of berth `n`'s next 1 ms block, and its branches combined; none while the lane has delivered fewer samples. A branch that is
invalid and delivers none leaves the other alone (R171). -/
def State.blockInput (s : State) (n : Nat) : Option (List BSmp × List Mixed) :=
  let len := blockLen (s.std n)
  let a := s.audOf n
  let take (b : Nat) : List BSmp := ((s.input n b).filter (fun y => Nat.ble a.next y.index)).take len
  let single (l : List BSmp) : List Mixed := l.map (fun y => ⟨y.re, y.im, y.marks⟩)
  let xs := take 0
  if !s.on (F.LN_CTRL_DIVERSITY n) then
    if xs.length = len then some (xs, single xs) else none
  else
    let ys := take 1
    if xs.length = len && ys.length = len then some (xs, combined xs ys)
    else if xs.length = len && ys.isEmpty && !s.on (F.LN_STATUS_VALID2 n) then some (xs, single xs)
    else if ys.length = len && xs.isEmpty && !s.on (F.LN_STATUS_VALID1 n) then some (ys, single ys)
    else none

/-- Berth `n` forms the audio of its next block, and measures it (R168 to R173): a block whose audio stands on samples that settle is silence.
 Log entry 106: DEDUCED.-/
def State.audioRaw (s : State) (n : Nat) : State :=
  let std := s.std n
  if !((std == 1 || std == 2) && s.serves n) then s
  else match s.blockInput n with
  | none => s
  | some (ys, xs) =>
    let y := (ys.head?).getD ⟨0, 0, 0, 0, 0, 0⟩
    let a := s.audOf n
    let silent := (a.settling xs).1
    let next := y.index + xs.length
    let keep (s : State) (l r mpx : List Int) : State :=
      let q (v : List Int) : List Int := if silent then v.map (fun _ => 0) else v
      let old := (s.audio n).filter (fun p => Nat.blt p.first y.index)
      s.putAudio n ((old ++ [(⟨y.index, y.time, y.stamp, q l, q r, silent, mpx⟩ : Pcm)]).drop (old.length - 511))
    if std = 2 then
      let stereo := s.on (F.FM_SVC7_STEREO n) && !s.on (F.FM_SVC0_FORCE_MONO n) && s.get (F.FM_SVC0_MODE n) != 0
      let (a, l, r, mpx) := a.fm stereo (s.get (F.FM_SVC0_DEEMPH n)) xs
      let (m, found) := (a.meter.block mpx xs (s.pinOffset n)).results
      let s := s.putAud n { a with next := next, meter := m }
      let s := s.inWindow n y.stamp (fun w => found.foldl (fun w e => w.give e.1 0 e.2) (w.residual (1000 * mpx.sum) mpx.length))
      keep s l r mpx
    else
      let sync := s.on (F.AM_SVC0_DETECT n)
      let (a, l) := a.am sync (s.get (F.AM_SVC0_BW n)) xs
      let lock := sync && a.locked
      let s := (s.putAud n { a with next := next }).put (F.AM_SVC7_CARRIER_LOCK n) (b2n lock)
      let s := s.when lock (·.inWindow n y.stamp (·.residual (Config.loopOffset a.loop) 1))
      keep s l l []

/-- Whether two audio blocks stand for the same block of device time: formed from samples that arrived within half a block. -/
def beside (a b : Nat) : Bool := Nat.ble a (b + 500000) && Nat.ble b (a + 500000)

/-- The home's newest audio block in RAMP: mixed with the partner's, sample for sample, and the ramp goes on or returns (R188, R190). Without
audio of the partner its part is silence. Log entry 79: DEDUCED. Log entry 123: DESIGN CHOICE. -/
def State.rampMix (s : State) (h len : Nat) : State :=
  match s.fadeOf h, (s.audio h).getLast? with
  | some f, some a =>
    let p := s.partner h
    let mate (s : State) : Option Pcm := (s.audio p).find? (fun b => beside a.time b.time)
    let s := s.when (mate s).isNone (·.audioRaw p)
    let b := (mate s).getD ⟨0, 0, 0, [], [], false, []⟩
    let step (i : Nat) : Int := fadeStep (if f.back then f.ramp - (i + 1) else f.ramp + (i + 1)) len
    let mix (x y : List Int) : List Int := x.mapIdx (fun i v => mixOf (step i) v (y.getD i 0))
    let silent := a.silent || b.silent
    let q (v : List Int) : List Int := if silent then v.map (fun _ => 0) else v
    let out : Pcm := { a with left := q (mix a.left b.left), right := q (mix a.right b.right), silent := silent }
    let s := s.putAudio h ((s.audio h).dropLast ++ [out])
    let ramp := if f.back then f.ramp - 48 else min len (f.ramp + 48)
    let s := s.fadeUpdate h (fun f => { f with ramp := ramp })
    s.when (f.back && ramp == 0) (·.fadeEnd h xrAbortCmd)
  | _, _ => s

/-! The analogue fade. -/

/-- Whether two berths' lanes read the same signal: the same intakes, and carriers that coincide (R187). -/
def State.sameSignal (s : State) (h p : Nat) : Bool :=
  s.get (F.LN_CTRL_DIVERSITY h) == s.get (F.LN_CTRL_DIVERSITY p) &&
  (s.on (F.LN_CTRL_DIVERSITY h) || s.get (F.LN_CTRL_INTAKE h) == s.get (F.LN_CTRL_INTAKE p)) && s.tuned h == s.tuned p

/-- Δ × f_out in 1/64 sample for the same signal: D_total(h) − D_total(p), with no measurement (R187). -/
def State.exactLead (s : State) (h p : Nat) : Int :=
  let r := s.laneRate h
  roundDiv (((s.get (F.LN_GD_APPLIED_D_TOTAL h) : Int) - (s.get (F.LN_GD_APPLIED_D_TOTAL p) : Int)) * (64 * r.1 : Nat)) (r.2 * 1000000000000)

/-- Audio blocks of two members that the device formed at the same time, oldest first: pairs of L + R (R187). -/
def State.paired (s : State) (h p : Nat) : List (Pcm × Pcm) :=
  (s.audio h).filterMap (fun a => ((s.audio p).find? (fun b => beside a.time b.time)).map (fun b => (a, b)))

/-- The lead of the partner in 1/64 lane sample from the correlation of both members' audio, and whether its peak suffices; none while
fewer samples have come than it takes (R187). -/
def State.foundLead (s : State) (h p : Nat) : Option (Int × Bool) :=
  let l := s.paired h p
  let l := l.drop (l.length - 102)
  (correlate ((l.map (fun e => e.1.mono)).flatten) ((l.map (fun e => e.2.mono)).flatten)).map (fun c =>
    (if s.std h = 2 then refine c.1 ((l.map (fun e => e.1.mpx)).flatten) ((l.map (fun e => e.2.mpx)).flatten) else 64 * c.1, c.2))

/-- ALIGN ends: the partner's delay becomes the home's plus Δ × f_out, or the fade ends (R187). Without the samples that the correlation takes
it goes on. Log entry 78: DEDUCED. -/
def State.fadeAligned (s : State) (h : Nat) : State :=
  let p := s.partner h
  let lead := if s.sameSignal h p then some (s.exactLead h p, true) else s.foundLead h p
  if s.xf h != xfAlign || s.digital h || (s.fadeOf h).isNone then s
  else match lead with
  | none => s
  | some (lead64, peakOk) =>
    if !peakOk then s.fadeEnd h xrAlignFail
    else
      let d := (s.get (F.LN_DELAY h) : Int) + lead64
      if decide (d < 0) || decide (262143 < d) then s.fadeEnd h xrAlignRange
      else
        let old := s.get (F.LN_DELAY p)
        let s := s.supDo [0x419 + 0x40 * p, 0x41A + 0x40 * p] (fun s => s.put (F.LN_DELAY p) d.toNat)
        let s := s.when (decide ((old : Int) ≠ d)) (fun s => (s.up (F.LN_STATUS_DELAY_EV p)).showDelay p)
        s.setXf h xfRamp

/-- Samples of a home's ramp: 48 × RAMP (R188). -/
def State.rampLen (s : State) (h : Nat) : Nat := 48 * (if s.std h = 2 then s.get (F.FM_SVC4_RAMP h) else s.get (F.AM_SVC5_RAMP h))

/-- The ramp is complete: SWAP; one that has returned ends the fade (R188, R190). -/
def State.fadeRamped (s : State) (h : Nat) : State :=
  match s.fadeOf h with
  | none => s
  | some f =>
    if s.xf h != xfRamp || s.digital h then s
    else if f.back then s.fadeEnd h xrAbortCmd
    else s.when (Nat.ble (s.rampLen h) f.ramp) (·.setXf h xfSwap)

/-- The audio of a home after a swap: its blocks under indices of the lane it moves to, and after them those that the partner has formed past
them (R189). -/
def State.audioSwap (s : State) (h p : Nat) : State :=
  let mine := s.audio h
  let last := ((mine.getLast?).map (·.time)).getD 0
  let ahead (b : Pcm) : Bool := Nat.blt (last + 500000) b.time
  let moved := mine.map (fun b => { b with first := b.first + (s.audOf p).next - (s.audOf h).next })
  (s.putAudio h (moved ++ (s.audio p).filter ahead)).putAudio p ((s.audio p).filter (fun b => !ahead b))

/-- SWAP of an analogue fade: the lanes and lane fields exchange, the home takes the partner's demodulator and RDS state, and the
partner stops (R189). Log entry 80: DEDUCED. -/
def State.fadeSwapped (s : State) (h : Nat) : State :=
  if s.xf h != xfSwap || s.digital h || (s.fadeOf h).isNone then s
  else
    let p := s.partner h
    let s := s.swapLanes h p
    let a := s.rdsOf h
    let b := s.rdsOf p
    -- the group in progress is voided; the home keeps its alarm and test states and its lists
    let mine : Rds := { b with ok := false, blocks := [], since := s.ts, test := a.test, off31 := a.off31, off30 := a.off30, afRx := none,
                               afLast := a.afLast, afList := a.afList, learned := if a.learned.isSome then a.learned else b.learned }
    let s := (s.putRds h mine).putRds p { a with ok := false, blocks := [] }
    let s := s.audioSwap h p
    let s := (s.putAud h (s.audOf p)).putAud p (s.audOf h)
    let s := (s.markSwap h p)
    let s := s.swapFields (decoderFields (s.std h)) h p
    let s := s.putFoll h { s.foll h with switch := ((s.foll h).switch + 1) % 128 }
    let s := s.when (s.std h == 2) (·.up (F.FM_SVC7_AF_SWITCH_EV h))
    s.fadeEnd h xrDone

/-- A 1 ms block of berth `n`'s work is done: a command fade that waits for it starts, and its audio is formed; in RAMP it is the mix (R173,
R188, R190). -/
def State.blockDone (s : State) (n : Nat) : State :=
  let s := s.fadeBlock n
  let before := (s.audOf n).next
  let s := s.audioRaw n
  s.when (s.xf n == xfRamp && !s.digital n && (s.audOf n).next != before) (fun s => s.rampMix n (s.rampLen n))

/-- A beat of a crane ends: where it completes a ticket of an AM or FM berth, a 1 ms block is done. -/
def State.beatDone (s : State) (c : Nat) (complete : Bool) : State :=
  s.when (complete && s.on (F.CRN_STATUS_BUSY c) && classOf c == 4) (·.blockDone (s.get (F.CRN_STATUS_BERTH c)))

end Sys2Proof.Machine
end

