-- ==== Sys2Proof/Machine/Ofdm.lean ====
section
/-! DEFINITION. What OFDM cranes measure in a frame, and its results over a record window (R246 to R249). -/

namespace Sys2Proof.Machine

/-! MER (R246). -/

/-- The level of a constellation's axis nearest a value, both in 1/4,096 of half the distance of points: ±(α + 2j), `m` bits to the
axis; without a bit the points lie at 0 on it. -/
def nearestLevel (alpha m : Nat) (v : Int) : Int :=
  let j := min (2 ^ (m - 1) - 1) ((v.natAbs + 4096 - 4096 * alpha) / 8192)
  if m = 0 then 0 else (4096 * (alpha + 2 * j) : Nat) * (if v < 0 then -1 else 1)

/-- |ẑ|² and |z − ẑ|² of a cell; the one bit of BPSK lies on the I axis. -/
def cellSums (x : Cell) : Nat × Nat :=
  let a := nearestLevel x.alpha ((x.bits + 1) / 2) x.i
  let b := nearestLevel x.alpha (x.bits / 2) x.q
  ((a * a + b * b).toNat, ((x.i - a) * (x.i - a) + (x.q - b) * (x.q - b)).toNat)

/-- Whether a cell counts for a standard; `plps` are the PLPs decoded (R246). -/
def partCounts (std : Nat) (plps : List Nat) : CellPart → Bool
  | .data => std == 5
  | .plp p => std == 6 && plps.contains p
  | .l1 => std == 6
  | .msc => std == 3 || std == 4
  | .fic => std == 4
  | .sdc => std == 3
  | .fac => std == 3
  | .other => false

/-- Adds a cell to the sums of its signal. -/
def Win.cell (w : Win) (x : Cell) : Win :=
  let old := ((w.mer.find? (·.1 == x.branch)).map (·.2)).getD (0, 0)
  { w with mer := w.mer.filter (·.1 != x.branch) ++ [(x.branch, old.1 + (cellSums x).1, old.2 + (cellSums x).2)] }

/-! The channel impulse response (R248). -/

/-- The span of the search in ps: T_u ÷ D_p, with D_p 3 for DVB-T and 1 for DAB. -/
def spanOf (o : Ofdm) (std : Nat) : Nat := o.useful / (if std = 5 then 3 else if std = 4 then 1 else o.dp)

/-- Adds a response to that of a window; one of another span or length begins anew. -/
def Win.respond (w : Win) (span occupied : Nat) (r : List Nat) : Win :=
  { w with echo := if w.span = span && w.echo.length = r.length then List.zipWith (· + ·) w.echo r else r, span := span, occupied := occupied }

/-- A local maximum of the response: its delay in ps from the response's start, and its power. -/
structure Peak where
  delay : Int
  power : Nat
  deriving DecidableEq, Repr

/-- The local maxima of a response, in order of delay. -/
def peaksOf (r : List Nat) (span : Nat) : List Peak :=
  (List.range r.length).filterMap (fun i =>
    let a := if i = 0 then 0 else r.getD (i - 1) 0
    let b := r.getD i 0
    let c := r.getD (i + 1) 0
    if Nat.blt a b && Nat.ble c b then some ⟨((i * 65536 : Nat) + Config.vertex a b c) * span / (65536 * r.length : Nat), b⟩ else none)

/-- Maxima closer than 1.5 ÷ B_occ are one path, the strongest of them: taken strongest first, the earlier first of two alike. Log entry 128:
DEDUCED. -/
def mergePeaks (occupied : Nat) (l : List Peak) : List Peak :=
  l.foldl (fun kept p => if kept.any (fun k => Nat.blt ((k.delay - p.delay).natAbs * occupied) 1500000000000) then kept else kept ++ [p]) []

/-- The paths of a window, strongest first: those within THRESH dB of the strongest, at most MAX (R248). -/
def Win.paths (w : Win) (thresh most : Nat) : List Peak :=
  let all := (peaksOf w.echo w.span).mergeSort (fun a b => Nat.ble b.power a.power)
  let top := ((all.head?).map (·.power)).getD 0
  (mergePeaks w.occupied (all.filter (fun p => decide (-(1000 * thresh : Nat) ≤ millibel p.power top)))).take most

/-! Frames. -/

/-- The ANT-pin time (R131) at which a frame starts on the branch that the detectors watch, from the lane sample at or before its start and the
interpolated rest, in ps, and the external delay that its block was taken with (R249, R260): none where the berth does not hold that sample. Log
entry 128: DEDUCED. Log entry 128: DEDUCED. -/
def State.frameStart (s : State) (n : Nat) (o : Ofdm) : Option (Int × Nat) :=
  ((s.input n (s.get (F.LN_DET_CFG_BRANCH n) * s.get (F.LN_CTRL_DIVERSITY n))).find? (fun y => y.index == o.start)).map (fun y =>
    (y.stamp + o.rest, lateOf y.marks))

/-- A frame that begins in a window at `ps` is the window's first (R249). -/
def Win.arrive (w : Win) (ps : Int) : Win := { w with first := w.first.or (some ps) }

/-- The estimates of a LOCKED berth's frame enter the window that holds the frame's time (R246 to R249, R255). Log entry 128: DEDUCED. -/
def State.ofdmSeen (s : State) (n ts : Nat) (plps : List Nat) (o : Ofdm) : State :=
  let std := s.std n
  let two := s.on (F.LN_CTRL_DIVERSITY n)
  let cells := o.cells.filter (fun x => !x.out && partCounts std plps x.part && (two || x.branch == 0))
  let r := if two && s.on (F.LN_DET_CFG_BRANCH n) then o.response2 else o.response1
  let s := s.inWindow n (1000 * (tsNs ts : Int)) (fun w =>
    cells.foldl Win.cell ((w.residual o.residual 1).respond (spanOf o std) o.occupied r))
  match s.frameStart n o with
  | some (ps, late) => s.inWindow n ps (·.arrive (ps - late))
  | none => s

end Sys2Proof.Machine
end

