-- ==== Sys2Proof/Machine/Dab.lean ====
section
/-! DEFINITION. DAB berths (R196 to R206): sync, FIC and FIGs, reconfiguration, alarm announcements, subchannel units and sealed
datagrams; and how a DAB or DRM unit leaves while a swap is under way (R219). -/

namespace Sys2Proof.Machine

/-- Sorts by a key, keeping the order of equal keys. -/
def insertBy {α : Type} (key : α → Nat) (x : α) : List α → List α
  | [] => [x]
  | y :: t => if key x < key y then x :: y :: t else y :: insertBy key x t

/-- See `insertBy`. -/
def sortBy {α : Type} (key : α → Nat) (l : List α) : List α := l.foldl (fun a x => insertBy key x a) []

/-! Units and swaps (R206, R219). -/

/-- SEARCH, FRAME and LOCKED (R196, R207, R224). -/
def syncSearch : Nat := 0
/-- See `syncSearch`. -/
def syncFrame : Nat := 1
/-- See `syncSearch`. -/
def syncLocked : Nat := 2

/-- A unit of a DAB or DRM berth that leaves: its content, its header bytes before and after SWITCH, its data, its flags and time; the CIF
count of its last CIF (DAB) or none; the time of its last CIF or frame in ns; and what the record counts of it: subchannel or stream,
FIXED and FAILED (R257). -/
structure UnitOut where
  content : Nat
  head : List Byte
  tail : List Byte
  data : List Byte
  urgent : Bool
  ts : Nat
  last : Option Nat
  lastNs : Nat
  index : Option Nat
  fixed : Nat
  failed : Nat

/-- Whether CIF count `a` lies at or after `c`, counts running to 4,999 (R206). -/
def cifAtOrAfter (a c : Nat) : Bool := Nat.blt ((a + 5000 - c % 5000) % 5000) 2500

/-- The payload of a unit under a berth's switch counter (Tables 9.5, 9.8). -/
def State.unitBytes (s : State) (h : Nat) (u : UnitOut) : List Byte :=
  let x := s.foll h
  u.head ++ be 1 (b2n x.cut * 128 + x.switch % 128) ++ u.tail ++ u.data

/-- A unit counts in the record of its berth; FIC, FAC and SDC units have no index of their own (R255, R257). Log entry 84: DEDUCED. -/
def State.unitCount (s : State) (h : Nat) (u : UnitOut) : State :=
  match u.index with
  | some i => ((s.tally h 0x14 i 1 u.ts).tally h 0x16 i u.fixed u.ts).tally h 0x17 i u.failed u.ts
  | none => s

/-- Emits a unit as a home's. -/
def State.unitEmit (s : State) (h : Nat) (u : UnitOut) : State :=
  (s.emit h u.content (s.berthFlags h u.urgent) u.ts (s.unitBytes h u)).unitCount h u

/-- Whether a unit of the new or the old decoder lies at or after the swap point: by CIF count for DAB, else by the time of its last frame
at the home's ANT pins, within half a frame. A cut is judged by the unit's first CIF or frame (R219). Log entry 82: DEDUCED. -/
def Fade.after (f : Fade) (new : Bool) (u : UnitOut) : Bool :=
  match u.last, f.seamless with
  | some c, true => cifAtOrAfter c f.point
  | _, true => decide ((f.pointNs : Int) ≤ (u.lastNs : Int) + (if new then f.lead else 0) + 50000000)
  | _, false => Nat.ble f.pointNs (tsNs u.ts)

/-- The first unit of the new decoder leaves: the switch counter advances, DONE, AF_SWITCH_EV (R219). -/
def State.swapDone (s : State) (h : Nat) (cut : Bool) : State :=
  let x := s.foll h
  let point := if cut then (x.fade.map (·.pointNs)).getD 0 else 0
  let s := s.putFoll h { x with switch := (x.switch + 1) % 128, cut := cut, fade := none, since := point }
  (((s.setXf h xfIdle).put (F.FM_SVC7_XF_RESULT h) xrDone).up (F.FM_SVC7_XF_DONE_EV h)).up (F.FM_SVC7_AF_SWITCH_EV h)

/-- The berth as whose a unit of berth `n` leaves, if it does: the berth itself, after a cut only what began at the swap point or later; the
partner's of a fade does not leave, but after a seamless swap it finishes the home's units that lie before the swap point (R219). -/
def State.outOwner (s : State) (n : Nat) (u : UnitOut) : Option Nat :=
  match s.homeOf n with
  | some h => (match s.fadeOf h with
     | some f => if s.xf h == xfSwap && f.seamless && !f.drained && !f.after false u then some h else none
     | none => none)
  | none => (match s.fadeOf n with
     | some f => if s.xf n == xfSwap && !f.after true u then none else some n
     | none => if Nat.blt (tsNs u.ts) (s.foll n).since then none else some n)

/-- A unit of a berth's decoder leaves as its owner's; the new decoder's first unit after a swap waits until the old decoder has drained
(R219). -/
def State.unitOut (s : State) (n : Nat) (u : UnitOut) : State :=
  match s.outOwner n u with
  | none => s
  | some h =>
    match (if h = n && s.xf n == xfSwap then s.fadeOf n else none) with
    | none => s.unitEmit h u
    | some f =>
      if f.drained then
        ((s.swapDone n (!f.seamless)).each f.units (fun u t => t.emit n u.1 u.2.1 u.2.2.1 u.2.2.2)).unitEmit n u
      else
        -- the SWITCH byte is filled in when it leaves
        (s.fadeUpdate n (fun f => { f with units := f.units ++ [(u.content, s.berthFlags n u.urgent, u.ts,
          u.head ++ be 1 (b2n (!f.seamless) * 128 + ((s.foll n).switch + 1) % 128) ++ u.tail ++ u.data)] })).unitCount n u

/-- A unit of a berth's decoder is voided: it counts in the record of the berth whose it was (R204, R219). -/
def State.unitVoid (s : State) (n : Nat) (u : UnitOut) : State :=
  match s.outOwner n u, u.index with
  | some h, some i => s.tally h 0x15 i 1 u.ts
  | _, _ => s

/-- The old decoder's last unit has left: the partner stops, and the new decoder's units that waited leave (R219). -/
def State.partnerDrained (s : State) (h : Nat) : State :=
  match s.fadeOf h with
  | none => s
  | some f =>
    if s.xf h != xfSwap || !s.digital h then s
    else
      let p := s.partner h
      let s := s.partnerStop p
      match f.units with
      | [] => s.fadeUpdate h (fun f => { f with drained := true })
      | units => (s.swapDone h (!f.seamless)).each units (fun u t => t.emit h u.1 u.2.1 u.2.2.1 u.2.2.2)

/-! FIGs (R198 to R201). -/

/-- Puts an item with a key in place of the earlier one. -/
def putKey {α : Type} (key : α → Nat) (x : α) (l : List α) : List α := l.filter (fun y => key y != key x) ++ [x]

/-- A received entry that agrees with the reception before replaces the one in force (R213). -/
def hear (l : List Heard) (key : Nat) (new : List Nat × List Nat) : List Heard :=
  match l.find? (·.key == key) with
  | some x => putKey (·.key) { x with before := new, list := if x.before == new then new else x.list } l
  | none => l ++ [⟨key, new, ([], [])⟩]

/-- A change that FIG 0/0 signals stays pending until its CIF (R200). -/
def Dab.signal (d : Dab) (occurrence : Option Nat) : Dab :=
  match d.occurrence, occurrence with
  | none, some o => { d with occurrence := some o, nextOrg := [], nextAudio := [] }
  | _, _ => d

/-- The alarm state of a DAB home starts (R201). -/
def State.dabAlarmStart (s : State) (h : Nat) : State :=
  if s.on (F.DAB_SVC5_ALARM h) then s
  else ((((s.putDab h { s.dabOf h with alarmOff := 0 }).up (F.DAB_SVC5_ALARM h)).up (F.DAB_SVC5_ALARM_EV h)).urgentStart 1 h).alarmAborts h

/-- The alarm state of a DAB home ends (R201). -/
def State.dabAlarmEnd (s : State) (h : Nat) : State :=
  s.when (s.on (F.DAB_SVC5_ALARM h)) (fun s => (s.down (F.DAB_SVC5_ALARM h)).urgentEnd 1 h)

/-- FIG 0/19 for cluster 0xFF (R201): heard by the home, or by the partner of a seamless fade, one whose EId is the home's (Table 9.10). -/
def State.announced (s : State) (n : Nat) (alarm : Bool) : State :=
  let al := !s.on (F.DAB_SVC0_ALARM_REQ_AL n) || s.on (F.DAB_SVC5_AL_FLAG n)
  match s.homeOf n with
  | some h => s.when (alarm && al && s.refEid h == (s.dabOf n).eids.head? && s.on (F.DAB_SVC5_EID_MATCH n)) (·.dabAlarmStart h)
  | none =>
    if !s.on (F.DAB_SVC5_EID_MATCH n) then s
    else
      let d := s.dabOf n
      let s := s.putDab n { d with alarmOff := if alarm then 0 else min 2 (d.alarmOff + 1) }
      if alarm then s.when al (·.dabAlarmStart n)
      else s.when (Nat.ble 1 d.alarmOff) (·.dabAlarmEnd n)

/-- EID_MATCH: whether the last two FIG 0/0 carry the reference EId (R199). -/
def State.eidJudge (s : State) (n : Nat) : State :=
  s.put (F.DAB_SVC5_EID_MATCH n) (b2n ((s.refEid n).any (fun ref => (s.dabOf n).eids == [ref, ref])))

/-- A frame has ended: an EId in two frames in a row is learned, or, where it is not the reference, sets EID_CHANGE_EV; of several FIG 0/0 of
a frame the last one counts (R199). Log entry 125: DEDUCED. -/
def State.eidFrame (s : State) (n : Nat) : State :=
  let d := s.dabOf n
  let twice := if d.eidNow == d.eidPrev then d.eidNow else none
  let s := (s.putDab n { d with learned := d.learned.or twice, eidPrev := d.eidNow, eidNow := none }).eidJudge n
  match twice, s.refEid n with
  | some e, some ref => s.when (e != ref) (·.up (F.DAB_SVC5_EID_CHANGE_EV n))
  | _, _ => s

/-- One FIG of a good FIB of the frame that began at `ts` (R198). Log entry 124: PRESUMED. -/
def State.fig (s : State) (n ts : Nat) (g : Fig) : State :=
  let d := s.dabOf n
  match g with
  | .ensemble eid al cif occurrence =>
    let s := s.putDab n { d.signal occurrence with cif := cif % 5000, eids := (eid :: d.eids).take 2, eidNow := some eid }
    let s := (s.put (F.DAB_SVC5_AL_FLAG n) (b2n al)).when occurrence.isSome (·.up (F.DAB_SVC5_RECONFIG_PENDING n))
    s.eidJudge n
  | .organisation next subch start size protection =>
    let o : Org := ⟨subch, start, size, protection⟩
    s.putDab n (if next then { d with nextOrg := putKey (·.subch) o d.nextOrg } else { d with org := putKey (·.subch) o d.org })
  | .service next sid subch ascty =>
    s.putDab n (if next then { d with nextAudio := putKey (·.1) (subch, ascty) d.nextAudio }
      else { d with audio := putKey (·.1) (subch, ascty) d.audio, sids := if d.sids.contains sid then d.sids else d.sids ++ [sid],
                    packets := d.packets.filter (·.1 != subch), fec := d.fec.filter (·.1 != subch) })
  | .packet subch addr groups => s.putDab n { d with packets := putKey (fun x => 1024 * x.1 + x.2.1) (subch, addr, groups) d.packets,
                                                     audio := d.audio.filter (·.1 != subch) }
  | .fec subch scheme => s.putDab n { d with fec := putKey (·.1) (subch, scheme) d.fec }
  | .dateTime ms =>
    if (s.homeOf n).isSome then s
    else s.inWindow n (1000 * (tsNs ts : Int)) (·.give 0x13 0 ((ms : Int) - (tsNs ts / 1000000 : Nat)))
  | .announce cluster alarm => if cluster = 0xFF then s.announced n alarm else s
  | .frequencies region eid hz =>
    if s.on (F.DAB_SVC5_EID_MATCH n) then s.putDab n { d with freqs := hear d.freqs (65536 * region + eid) ([eid], hz.take 32) } else s
  | .otherEnsembles sid eids => s.putDab n { d with others := hear d.others sid ([sid], eids) }
  | .other => s

/-- The header bytes of a DAB unit before and after SWITCH (Table 9.5). -/
def dabUnit (kind subch cif config addr fixed failed content : Nat) (data : List Byte) (ts last lastTs : Nat) : UnitOut :=
  { content := content, head := be 1 kind ++ be 1 subch ++ be 2 cif ++ be 1 config, tail := be 2 addr ++ be 2 fixed ++ be 2 failed,
    data := data, urgent := false, ts := ts, last := some last, lastNs := tsNs lastTs, index := some subch, fixed := fixed, failed := failed }

/-- A data group in reassembly as a unit that ends with the CIF `cif`. -/
def Group.unit (g : Group) (config cif ts : Nat) : UnitOut := dabUnit 5 g.subch g.cif config g.addr g.fixed 0 2 g.bytes g.ts cif ts

/-- The superframe that a subchannel is in, as a unit: it began `age` CIFs ago. -/
def SuperSt.unit (x : SuperSt) (config : Nat) : UnitOut :=
  let first := ((x.past.drop (x.past.length - x.age)).head?).getD (0, 0)
  dabUnit 4 x.subch first.1 config 0 0 0 6 [] first.2 first.1 first.2

/-- Superframes and data groups that are incomplete are voided (R196). -/
def State.dabVoid (s : State) (n : Nat) : State :=
  let d := s.dabOf n
  let s := s.each d.groups (fun g t => t.unitVoid n (g.unit d.config g.cif g.ts))
  let s := s.each (d.supers.filter (fun x => x.sync && x.age != 0 && !x.past.isEmpty)) (fun x t => t.unitVoid n (x.unit d.config))
  s.putDab n { s.dabOf n with supers := [], groups := [] }

/-- The return to SEARCH: incomplete units are voided (R196). -/
def State.dabLost (s : State) (n : Nat) : State :=
  if s.get (F.DAB_SVC5_SYNC n) = syncSearch then s
  else
    let s := s.dabVoid n
    let s := s.putDab n { s.dabOf n with found := [], mode := 0, missed := 0, fibRun := 0, eidPrev := none }
    let s := s.when (s.get (F.DAB_SVC5_SYNC n) == syncLocked) (fun s => s.putFoll n { s.foll n with lostAt := s.clock })
    let s := ((s.put (F.DAB_SVC5_SYNC n) syncSearch).put (F.DAB_SVC5_TMODE_FOUND n) 0).up (F.DAB_SVC5_SYNC_LOST_EV n)
    -- the partner's loss of LOCKED in DWELL ends a fade with QUALITY (R215, R217)
    match s.homeOf n with
    | some h => s.when (s.xf h == xfDwell) (·.fadeEnd h xrQuality)
    | none => s

/-- The identifier check of VERIFY for a DAB partner, once per frame (R216): the reference EId, or the reference SId in FIG 0/2, in two frames
in a row; a different EId twice in a row ends the fade. -/
def State.dabVerify (s : State) (n : Nat) (eid : Option Nat) (sids : List Nat) : State :=
  match s.homeOf n with
  | none => s
  | some h =>
    match s.fadeOf h, s.followIdent h with
    | some f, some ref =>
      if s.xf h != xfVerify then s
      else
        let bySid := (s.tableIdent h).isSome
        let ok := if bySid then sids.contains ref else eid == some ref
        let bad := match eid with
          | some e => !bySid && e != ref
          | none => false
        if ok && f.count != 0 && s.get (F.DAB_SVC5_SYNC n) == syncLocked then s.fadeVerified h
        else if bad && f.differs == 1 then s.fadeEnd h xrMismatch
        else s.fadeUpdate h (fun f => { f with count := b2n ok, differs := if bad then 1 else 0 })
    | _, _ => s

/-- The null symbol and PRS were not found at the period of a mode (R196, R199, R216). -/
def State.dabMissed (s : State) (n mode : Nat) : State :=
  let d := s.dabOf n
  let s := s.putDab n { d with found := d.found.filter (·.1 != mode) }
  if s.get (F.DAB_SVC5_SYNC n) = syncSearch then s
  else
    let s := (s.putDab n { s.dabOf n with missed := d.missed + 1, fibRun := 0, eidPrev := none }).dabVerify n none []
    s.when (Nat.ble 3 (d.missed + 1)) (·.dabLost n)

/-- CIFs of a frame (Table 9.2). -/
def cifsOf (mode : Nat) : Nat := [4, 4, 1, 1, 2].getD mode 1

/-- The FIC of a frame in FRAME or LOCKED: sync, the FIGs of good FIBs, the EId, and the FIC block (R196, R198, R199, R202). -/
def State.dabFic (s : State) (n : Nat) (f : DabFrame) : State :=
  let d := s.dabOf n
  let run := if f.fibs.any (·.crcOk) then min 2 (d.fibRun + 1) else 0
  let s := s.putDab n { d with found := [], mode := f.mode, missed := 0, fibRun := run, sids := [], cif := (d.cif + cifsOf f.mode) % 5000,
                               start := some f.ts.toNat }
  let lock := s.get (F.DAB_SVC5_SYNC n) == syncFrame && run == 2
  let s := s.when lock (fun s => (s.put (F.DAB_SVC5_SYNC n) syncLocked).put (F.DAB_SVC5_TMODE_FOUND n) f.mode)
  let was := s.on (F.DAB_SVC5_ALARM n)
  let s := s.each f.fibs (fun b t => if b.crcOk then t.each b.figs (fun g u => u.fig n f.ts.toNat g) else t)
  let s := (s.dabVerify n (s.dabOf n).eidNow (s.dabOf n).sids).eidFrame n
  let failed := ((List.range f.fibs.length).map (fun i => if (f.fibs[i]?).any (fun b => b.crcOk) then 0 else 2 ^ i)).sum
  if s.get (F.DAB_SVC5_SYNC n) == syncLocked && s.on (F.DAB_SVC0_FIC_OUT n) then
    let d := s.dabOf n
    s.unitOut n { dabUnit 1 0xFF d.cif d.config 0 0 failed 3 (f.fibs.map (·.bytes)).flatten f.ts.toNat ((d.cif + cifsOf f.mode - 1) % 5000)
                    f.ts.toNat with
                  urgent := s.on (F.DAB_SVC5_ALARM n) != was, index := none }
  else s

/-- A DAB transmission frame at the period of a mode that the berth looks at: in SEARCH of every mode that TMODE allows, afterwards of the
one found (R196). -/
def State.dabFrame (s : State) (n : Nat) (f : DabFrame) : State :=
  let tm := s.get (F.DAB_SVC0_TMODE n)
  let d := s.dabOf n
  let search := s.get (F.DAB_SVC5_SYNC n) == syncSearch
  if !s.works n 4 || (tm != 0 && tm != f.mode) || (!search && f.mode != d.mode) then s
  else if !f.found then s.dabMissed n f.mode
  else if search && (d.found.find? (·.1 == f.mode)).isNone then s.putDab n { d with found := d.found ++ [(f.mode, 1)], fibRun := 0 }
  else
    let s := (s.when search (·.put (F.DAB_SVC5_SYNC n) syncFrame)).dabFic n f
    s.when (s.get (F.DAB_SVC5_SYNC n) == syncLocked) (·.ofdmSeen n f.ts.toNat [] f.ofdm)

/-- The signalled CIF arrives: the new organisation applies (R200). Subchannels that it leaves as they are continue; one without a complete
next organisation emits nothing until FIG 0/1 describes it again. Log entry 81: DEDUCED. -/
def State.dabReconfig (s : State) (n cif : Nat) : State :=
  let d := s.dabOf n
  match d.occurrence with
  | none => s
  | some o =>
    if !(s.works n 4) || cif % 256 != o % 256 then s
    else
      let told (x : Nat) : Bool := d.nextAudio.any (·.1 == x)
      let heard := d.nextAudio ++ d.audio.filter (fun a => !told a.1)
      let whole (o : Org) : Bool := told o.subch || d.org.contains o || d.packets.any (·.1 == o.subch)
      let s := s.putDab n { d with org := d.nextOrg.filter whole, audio := heard, packets := d.packets.filter (fun c => !told c.1),
                                   fec := d.fec.filter (fun c => !told c.1), nextOrg := [], nextAudio := [], occurrence := none,
                                   config := (d.config + 1) % 256, was := d.was ++ [(cif % 5000, d.org, d.audio)] }
      (s.down (F.DAB_SVC5_RECONFIG_PENDING n)).up (F.DAB_SVC5_RECONFIG_EV n)

/-- The organisation, audio and CONFIG under which a CIF was sent (R200). -/
def Dab.at (d : Dab) (cif : Nat) : List Org × List (Nat × Option Nat) × Nat :=
  match d.was.dropWhile (fun w => cifAtOrAfter cif w.1) with
  | w :: rest => (w.2.1, w.2.2, (d.config + 255 - rest.length % 255) % 256)
  | [] => (d.org, d.audio, d.config)

/-- The first CIF of a new organisation has left the deinterleaver: what the change did not leave as it was breaks off (R200). -/
def State.dabTurn (s : State) (n cif : Nat) : State :=
  let d := s.dabOf n
  match d.was with
  | [] => s
  | w :: rest =>
    if !cifAtOrAfter cif w.1 then s
    else
      let new := ((rest.head?).map (·.2.1)).getD d.org
      let kept (x : Nat) : Bool := new.any (fun o => o.subch == x && w.2.1.contains o)
      let s := s.each (d.groups.filter (fun g => !kept g.subch)) (fun g t => t.unitVoid n (g.unit d.config g.cif g.ts))
      s.putDab n { s.dabOf n with was := rest, supers := d.supers.filter (fun x => kept x.subch), groups := d.groups.filter (fun x => kept x.subch) }

/-- No FIG 0/19 for cluster 0xFF for 2 s (R201). -/
def State.dabAlarmTimeout (s : State) (n : Nat) : State := s.when (s.std n == 4) (·.dabAlarmEnd n)

/-! Subchannels (R202 to R205). -/

/-- The structural check of an envelope (R205). -/
def envelopeFits (e : List Byte) : Bool := Nat.ble (5 + ofBe (slice e 3 2) + 28) e.length

/-- One logical frame of a DAB+ subchannel: superframe sync and the superframe that ends with it; one in which a CIF is missing is voided
(R202, R203). -/
def State.superFrame (s : State) (n cif ts config : Nat) (x : SubchData) : State :=
  let d := s.dabOf n
  let st := (d.supers.find? (·.subch == x.subch)).getD ⟨x.subch, false, 0, 0, false, []⟩
  let gap := ((st.past.getLast?).map (fun p => (cif + 4999 - p.1) % 5000)).getD 0
  let st := if gap = 0 then st else { st with past := [], age := (st.age + gap) % 5, seen := st.seen && st.sync }
  let past := st.past ++ [(cif, ts)]
  let start := ((past[past.length - 5]?).getD (cif, ts))
  let keep (t : SuperSt) : State := s.putDab n { d with supers := putKey (·.subch) { t with past := past.drop (past.length - 4) } d.supers }
  let u := dabUnit 4 x.subch start.1 config 0 x.fixed x.failed 6 x.super start.2 cif ts
  let whole := past.length == 5
  if st.sync then
    if st.age + 1 < 5 then keep { st with age := st.age + 1 }
    else if !whole then (keep { st with age := 0 }).unitVoid n u
    else
      let bad := if x.fire then 0 else st.bad + 1
      if 3 ≤ bad then (keep { st with sync := false, age := 0, bad := 0, seen := false }).unitOut n u
      else (keep { st with age := 0, bad := bad }).unitOut n u
  else if x.fire && whole then
    if st.seen && st.age == 4 then (keep { st with sync := true, age := 0, bad := 0, seen := true }).unitOut n u
    else keep { st with seen := true, age := 0 }
  else keep { st with age := st.age + 1 }

/-- A complete data group (R204, R205): a sealed datagram goes to the bond engine, every other group leaves; a group that is too long or
whose CRC fails is voided. -/
def State.dataGroup (s : State) (n cif ts config : Nat) (g : Group) (p : Packet) : State :=
  let sealed := s.on (F.DAB_SVC0_DG_ENABLE n) && s.get (F.DAB_SVC0_DG_SUBCH n) == g.subch && s.get (F.DAB_SVC1_DG_PADDR n) == g.addr
  let field := (g.bytes.drop p.head).take (g.bytes.length - p.head - (if p.crcFlag then 2 else 0))
  let u := g.unit config cif ts
  if Nat.blt 8191 field.length || (p.crcFlag && !p.crcGood && !sealed) then s.unitVoid n u
  else if !sealed then s.unitOut n u
  else match s.outOwner n u with
    | none => s
    | some h =>
      if !(p.crcFlag && p.crcGood) then s.up (F.DAB_SVC1_DG_CRC_EV n)
      else if !envelopeFits field then s.up (F.DAB_SVC1_DG_MALFORMED_EV n)
      else s.emitDatagram h g.ts field

/-- One packet of a packet-mode subchannel (R204). A group whose first or last packet is missing, whose packets break, or one of whose packets
fails its CRC, is voided. Packets of a component that FIG 0/3 gives without data groups form none. FIXED counts where FIG 0/14 signals scheme 1. Log entry 125: DEDUCED. -/
def State.dabPacket (s : State) (n cif ts config : Nat) (x : SubchData) (p : Packet) : State :=
  let d := s.dabOf n
  let fixed := if d.fec.any (fun e => e.1 == x.subch && e.2 == 1) then p.fixed else 0
  let same (g : Group) : Bool := g.subch == x.subch && g.addr == p.addr
  let rest := d.groups.filter (fun g => !same g)
  if d.packets.any (fun c => c.1 == x.subch && c.2.1 == p.addr && !c.2.2) then s
  else
    let old := d.groups.find? same
    let s := match old with
      | some g => s.when p.first (·.unitVoid n (g.unit config g.cif g.ts))
      | none => s
    let new : Group := ⟨x.subch, p.addr, (p.ci + 1) % 4, p.data, cif, ts, fixed, !p.first || !p.crcOk⟩
    let g := match old with
      | some g => if p.first then new
        else { g with next := (p.ci + 1) % 4, bytes := g.bytes ++ p.data, fixed := g.fixed + fixed, void := g.void || p.ci != g.next || !p.crcOk }
      | none => new
    if p.last then
      let s := s.putDab n { s.dabOf n with groups := rest }
      if g.void then s.unitVoid n (g.unit config cif ts) else s.dataGroup n cif ts config g p
    else s.putDab n { s.dabOf n with groups := rest ++ [g] }

/-- A CIF leaves the time deinterleaver: the units of its subchannels, under the organisation in which it was sent, in ascending SubChId
order (R197, R200, R202). -/
def State.cifOut (s : State) (n cif ts : Nat) (subs : List SubchData) : State :=
  if !(Nat.blt n 96 && s.std n == 4 && s.get (F.DAB_SVC5_SYNC n) == syncLocked && !s.on (F.BTH_CTRL_STOPPED n)) then s
  else
    let s := s.dabTurn n cif
    let (org, audio, config) := (s.dabOf n).at cif
    s.each (sortBy (·.subch) (subs.filter (fun x => org.any (·.subch == x.subch)))) (fun x s =>
      if (s.dabOf n).packets.any (fun c => c.1 == x.subch) then s.each x.packets (fun p t => t.dabPacket n cif ts config x p)
      else match (audio.find? (·.1 == x.subch)).map (·.2) with
        | some (some 0) => s.unitOut n (dabUnit 3 x.subch cif config 0 0 0 6 x.bytes ts cif ts)
        | some (some 63) => s.superFrame n cif ts config x
        | _ => s.unitOut n (dabUnit 2 x.subch cif config 0 0 0 2 x.bytes ts cif ts))

end Sys2Proof.Machine
end

