-- ==== Sys2Proof/Machine/Drm.lean ====
section
/-! DEFINITION. DRM berths (R207 to R210), and the fade of a DAB or DRM berth (R215 to R219). -/

namespace Sys2Proof.Machine

/-- A DRM unit (Tables 9.7, 9.8): the mode nibble is 0 for A to 4 for E. -/
def State.drmUnit (s : State) (n kind stream frame failed frames content ts : Nat) (data : List Byte) : UnitOut :=
  { content := content,
    head := be 1 kind ++ be 1 stream ++ be 1 (16 * (s.get (F.DRM_SVC5_RMODE_FOUND n) - 1) + s.get (F.DRM_SVC5_SO_FOUND n)) ++
      be 1 frame ++ be 1 (s.drmOf n).config,
    tail := be 2 failed ++ be 2 frames ++ be 2 0, data := data, urgent := false, ts := ts, last := none,
    -- an audio superframe of mode E spans two frames
    lastNs := tsNs ts + (if kind = 0x14 && s.get (F.DRM_SVC5_RMODE_FOUND n) = 5 then 100000000 else 0),
    index := if stream = 0xFF then none else some stream, fixed := 0, failed := failed }

/-- The reference against which a DRM berth's FAC is judged: its own, or in a fade the home's (R210, R216). -/
def State.drmRef (s : State) (n : Nat) : Option Nat :=
  match s.homeOf n with
  | some h => s.followIdent h
  | none => s.refSid n

/-- A DRM transmission frame (R207 to R210): two FACs in a row with the same mode and occupancy lock; the FAC's service parameters decide
the reference identifier and SID_MATCH; a FAC unit leaves where FACSDC_OUT asks. -/
def State.drmFrame (s : State) (n : Nat) (f : DrmFrame) : State :=
  let rm := s.get (F.DRM_SVC0_RMODE n)
  if !s.works n 3 || !(if rm = 0 then inR 1 4 f.mode else f.mode == rm) then s
  else
    let d := s.drmOf n
    if !f.facOk then s.putDrm n { d with run := 0, idents := [] }
    else
      let key := (f.mode, f.occupancy)
      let run := if d.seen == key then min 2 (d.run + 1) else 1
      let zero := ((f.services.find? (·.1 == 0)).map (·.2))
      let learned := match d.learned, zero with
        | none, some x => if d.idents.head? == some x then some x else none
        | y, _ => y
      let idents := match zero with
        | some x => (x :: d.idents).take 2
        | none => []
      let s := s.putDrm n { d with run := run, seen := key, learned := learned, idents := idents, ids := (d.ids.1 ++ f.services.map (·.2), d.ids.2) }
      let s := s.when (run == 2) (fun s =>
        ((s.put (F.DRM_SVC5_SYNC n) syncLocked).put (F.DRM_SVC5_RMODE_FOUND n) f.mode).put (F.DRM_SVC5_SO_FOUND n) f.occupancy)
      let s := match s.drmRef n with
        | some ref => s.when (f.services.any (·.2 == ref)) (fun s =>
            (s.putDrm n { s.drmOf n with absent := 0 }).up (F.DRM_SVC5_SID_MATCH n))
        | none => s
      let s := s.when f.reconfig (·.up (F.DRM_SVC5_RECONFIG_PENDING n))
      -- a different identifier of short ID 0 twice in a row ends a fade (R216)
      let s := match s.homeOf n with
        | some h => (match s.followIdent h, idents with
           | some ref, [a, b] => s.when (s.xf h == xfVerify && a == b && a != ref) (·.fadeEnd h xrMismatch)
           | _, _ => s)
        | none => s
      let s := s.when (s.get (F.DRM_SVC5_SYNC n) == syncLocked) (·.ofdmSeen n f.ts.toNat [] f.ofdm)
      s.when (s.get (F.DRM_SVC5_SYNC n) == syncLocked && s.on (F.DRM_SVC0_FACSDC_OUT n)) (fun s =>
        s.unitOut n (s.drmUnit n 0x11 0xFF f.index 0 0 5 f.ts.toNat f.fac))

/-- A DRM super frame completes (R208 to R210, R213): the SDC unit, the MSC units by frame and stream, the frequency entries, and the
presence of the reference identifier. -/
def State.drmSuper (s : State) (n : Nat) (f : DrmSuper) : State :=
  if !(Nat.blt n 96 && s.std n == 3 && s.get (F.DRM_SVC5_SYNC n) == syncLocked && !s.on (F.BTH_CTRL_STOPPED n)) then s
  else
    let s := s.when (f.sdcOk && s.on (F.DRM_SVC0_FACSDC_OUT n)) (fun s =>
      s.unitOut n (s.drmUnit n 0x12 0xFF 0 0 0 5 f.ts.toNat f.sdc))
    let s := if !f.sdcOk then s
      else s.each f.afs (fun a t => t.putDrm n { t.drmOf n with freqs := hear (t.drmOf n).freqs a.1 (a.2.1, a.2.2.take 32) })
    let s := if f.hierarchical then s
      -- an audio superframe of mode E completes in its second frame
      else s.each (sortBy (fun u => 4 * (u.frame + b2n (u.audio && s.get (F.DRM_SVC5_RMODE_FOUND n) == 5)) + u.stream) f.units) (fun u t =>
        t.unitOut n (if u.audio then t.drmUnit n 0x14 u.stream u.frame u.failed u.frames 6 u.ts.toNat u.bytes
          else t.drmUnit n 0x13 u.stream u.frame 0 0 5 u.ts.toNat u.bytes))
    let d := s.drmOf n
    let here := (s.drmRef n).any d.ids.1.contains
    let present := if here then min 2 (d.present + 1) else 0
    let absent := if here then 0 else min 3 (d.absent + 1)
    let s := s.putDrm n { d with ids := ([], d.ids.1), absent := absent, present := present, superAt := some f.ts.toNat,
                                 msc := ((f.msc.map (fun m => (m.1.toNat, m.2))).reverse ++ d.msc).take 12 }
    let s := s.when (absent == 2 && (s.drmRef n).isSome) (fun s => (s.down (F.DRM_SVC5_SID_MATCH n)).up (F.DRM_SVC5_SID_CHANGE_EV n))
    match s.homeOf n with
    | some h => s.when (s.xf h == xfVerify && present == 2) (·.fadeVerified h)
    | none => s

/-- SID_MATCH stands anew against a reference that has changed: whether it appeared within the last two super frames (R210). -/
def State.sidJudge (s : State) (n : Nat) : State :=
  let d := s.drmOf n
  (s.putDrm n { d with absent := 0 }).put (F.DRM_SVC5_SID_MATCH n) (b2n ((s.drmRef n).any (d.ids.1 ++ d.ids.2).contains))

/-- No FAC passes for 2 s (R207). Log entry 142: DEDUCED. -/
def State.drmLost (s : State) (n : Nat) : State :=
  if s.get (F.DRM_SVC5_SYNC n) = syncSearch then s
  else
    let d := s.drmOf n
    -- its identifier has been absent for the 2 s (R210)
    let s := s.when (s.on (F.DRM_SVC5_SID_MATCH n)) (fun s => (s.down (F.DRM_SVC5_SID_MATCH n)).up (F.DRM_SVC5_SID_CHANGE_EV n))
    let s := s.putDrm n { d with run := 0, idents := [], present := 0, absent := 3, ids := ([], []), msc := [] }
    let s := s.putFoll n { s.foll n with lostAt := s.clock }
    let s := (((s.put (F.DRM_SVC5_SYNC n) syncSearch).put (F.DRM_SVC5_RMODE_FOUND n) 0).put (F.DRM_SVC5_SO_FOUND n) 0).up
      (F.DRM_SVC5_SYNC_LOST_EV n)
    match s.homeOf n with
    | some h => s.when (s.xf h == xfDwell) (·.fadeEnd h xrQuality)
    | none => s

/-- A signalled reconfiguration applies (R208). -/
def State.drmReconfig (s : State) (n : Nat) : State :=
  s.when (s.std n == 3 && s.on (F.DRM_SVC5_RECONFIG_PENDING n)) (fun s =>
    ((s.putDrm n { s.drmOf n with config := ((s.drmOf n).config + 1) % 256 }).down (F.DRM_SVC5_RECONFIG_PENDING n)).up
      (F.DRM_SVC5_RECONFIG_EV n))

/-! The fade of a DAB or DRM berth. -/

/-- A window of DWELL, each MER clipped to 40 dB; a partner that is not LOCKED fails it (R217). -/
def State.digitalWindow (s : State) (h : Nat) (home partner : Nat × Nat) : State :=
  if !s.digital h || s.xf h != xfDwell then s
  else if s.get (F.DAB_SVC5_SYNC (s.partner h)) != syncLocked then s.fadeEnd h xrQuality
  else s.fadeWindow h (min 40000 (merOf home)) (min 40000 (merOf partner))

/-- `a` − `b` of CIF counts, which run to 4,999, brought to the nearer side of 0. -/
def cifDiff (a b : Nat) : Int := if cifAtOrAfter a b then ((a + 5000 - b % 5000) % 5000 : Nat) else -(((b + 5000 - a % 5000) % 5000 : Nat) : Int)

/-- How far the home's ANT-pin time of a CIF count lies after the partner's for the same count, in ns (R218). -/
def cifLead (a b : Dab) : Int :=
  ((tsNs (a.start.getD 0) : Int) - tsNs (b.start.getD 0)) + 24000000 * cifDiff b.cif a.cif

/-- The first CIF of a berth to begin at or after a time in ns: how many after that of its last frame. -/
def Dab.cifsTo (d : Dab) (ns : Nat) : Nat := ceilDiv (ns - tsNs (d.start.getD 0)) 24000000

/-- The lead Δ of a DRM partner in ns: some frame of it has the MSC bytes of one of the home's frames, at most 3 frames away (R218). -/
def mscLead (frame : Nat) (a b : Drm) : Option Int :=
  b.msc.findSome? (fun y => a.msc.findSome? (fun x =>
    let lead := (tsNs x.1 : Int) - tsNs y.1
    if x.2 == y.2 && !x.2.isEmpty && Nat.ble lead.natAbs (3 * frame) then some lead else none))

/-- ALIGN of a DAB fade ends (R218): seamless where the EIds agree, from the first CIF that begins 2 CIFs after ALIGN began; else a cut at
the home's next CIF. -/
def State.dabAligned (s : State) (h : Nat) (f : Fade) : State :=
  let a := s.dabOf h
  let b := s.dabOf (s.partner h)
  let from_ := tsNs (a.start.getD 0)
  let both := if cifAtOrAfter a.cif b.cif then b.cif else a.cif
  let same (x y : List Org) : Bool := x.all y.contains && y.all x.contains
  if a.eids.head?.isSome && a.eids.head? == b.eids.head? then
    if !same (a.at both).1 (b.at both).1 then s.fadeEnd h xrAlignFail
    else if Nat.blt 384000000 (cifLead a b).natAbs then s.fadeEnd h xrAlignRange
    else
      let k := a.cifsTo (f.alignNs + 48000000)
      s.fadeUpdate h (fun f => { f with seamless := true, lead := cifLead a b, point := (a.cif + k) % 5000, pointNs := from_ + 24000000 * k, count := 1 })
  else s.fadeUpdate h (fun f => { f with pointNs := from_ + 24000000 * a.cifsTo (tsNs s.ts), count := 1 })

/-- ALIGN of a DRM fade ends (R218): seamless where frames agree, at the second super frame boundary of the home after ALIGN began; else a
cut at the next one. -/
def State.drmAligned (s : State) (h : Nat) : State :=
  let a := s.drmOf h
  let e := s.get (F.DRM_SVC5_RMODE_FOUND h) == 5
  let super := if e then 400000000 else 1200000000
  let from_ := tsNs (a.superAt.getD 0)
  let next (ns : Nat) : Nat := from_ + super * ((ns - from_) / super + 1)
  match mscLead (if e then 100000000 else 400000000) a (s.drmOf (s.partner h)) with
  | some lead => s.fadeUpdate h (fun f => { f with seamless := true, lead := lead, pointNs := next f.alignNs + super, count := 1 })
  | none => s.fadeUpdate h (fun f => { f with pointNs := next (tsNs s.ts), count := 1 })

/-- ALIGN ends: a seamless swap at c, a cut, or a failure (R218). -/
def State.digitalAligned (s : State) (h : Nat) : State :=
  match s.fadeOf h with
  | none => s
  | some f =>
    if s.xf h != xfAlign || !s.digital h || f.count == 1 then s
    else if s.std h = 4 then s.dabAligned h f
    else s.drmAligned h

/-- SWAP at the start of c: lanes, lane fields and decoders exchange; after a cut the old decoder's units are discarded and the partner
stops (R219). Log entry 80: DEDUCED. -/
def State.digitalSwap (s : State) (h : Nat) : State :=
  match s.fadeOf h with
  | none => s
  | some f =>
    if s.xf h != xfAlign || !s.digital h || f.count != 1 then s
    else
      let p := s.partner h
      let s := (s.swapLanes h p).swapFields (decoderFields (s.std h)) h p
      let s := if s.std h = 4 then
          (let a := s.dabOf h
           let b := s.dabOf p
           (s.putDab h { b with config := a.config, alarmOff := a.alarmOff }).putDab p { a with alarmOff := 0 })
        else
          (let a := s.drmOf h
           let b := s.drmOf p
           (s.putDrm h { b with config := a.config }).putDrm p a)
      let s := s.fadeUpdate h (fun f => { f with drained := !f.seamless })
      let s := s.setXf h xfSwap
      -- a cut discards what the old decoder has not finished
      s.when (!f.seamless) (fun s => ((s.decoderReset p).put (F.DAB_SVC5_SYNC p) syncSearch).partnerStop p)

end Sys2Proof.Machine
end

