-- ==== Sys2Proof/Machine/Dvb.lean ====
section
/-! DEFINITION. DVB-T and DVB-T2 berths (R157, R224 to R238): sync, L1 and TPS, PLP selection and memory, transport stream consignments,
the EWS flag, and datagrams by PID. -/

namespace Sys2Proof.Machine

/-- Applies the armed changes of a berth other than a stop, which has its own event, and other than its record settings while a
record window is open, whose boundary is the window's (R59, R147, R258, R259). -/
def State.berthApply (s : State) (n : Nat) : State :=
  let c := berthCommit n
  let window := (Tbl.get (fun _ => none) s.windows n).isSome
  let stay := s.shadow.filter (fun x => x.commit == c && x.armed &&
    ((x.fld == F.BTH_CTRL_RUN n && x.val == 0) || (window && Nat.ble 0x12000 x.fld.addr)))
  let s := (s.setShadow (s.shadow.filter (fun x => !stay.contains x))).applyArmed c
  (s.setShadow (s.shadow ++ stay)).when (!stay.isEmpty) (·.up (fPending c))

/-! PLP selection (R228, R229) and the declaration (R157). -/

/-- The PLP_ID written in slot `k`. -/
def State.slotPlp (s : State) (n k : Nat) : Nat :=
  s.get ((if k % 2 = 1 then F.T2_SVC1_SLOT_ODD n else F.T2_SVC1_SLOT_EVEN n) |> fun f => { f with addr := f.addr + k / 2 })

/-- The data PLPs of L1-post in ascending PLP_ID. -/
def Dvb.dataPlps (d : Dvb) : List Plp := sortBy (·.id) (d.plps.filter (fun p => !p.common))

/-- The PLP that slot `k` selects: the k-th data PLP with PLP_ALL, else the slot's where PLP_EN enables it. -/
def State.selected (s : State) (n k : Nat) : Option Nat :=
  if s.on (F.T2_SVC0_PLP_ALL n) then (((s.dvbOf n).dataPlps)[k]?).map (·.id)
  else if bit (s.get (F.T2_SVC0_PLP_EN n)) k then some (s.slotPlp n k) else none

/-- The PLPs that the slots select. -/
def State.plpSlots (s : State) (n : Nat) : List (Option Nat) := (List.range 8).map (s.selected n)

/-- Time-deinterleaver cells that a PLP asks: M_p, from N_ldpc ÷ η_MOD cells of a FEC frame (R229). -/
def plpMemory (p : Plp) : Nat := (if p.long then 64800 else 16200) / p.bits * (p.blocksMax + 1)

/-- The judgment of R229 over the selected data PLPs in ascending order: those decoded, with the common PLPs counted. -/
def judgeMemory (plps : List Plp) (sel : List Plp) : List Plp :=
  (sel.foldl (fun (a : Nat × List Plp) p =>
    let com := (plps.filter (fun c => c.common && c.group == p.group && !a.2.contains c)).take 1
    let need := plpMemory p + (com.map plpMemory).sum
    if Nat.ble (a.1 + need) 557056 then (a.1 + need, a.2 ++ com ++ [p]) else a) (0, [])).2

/-- Drops data PLPs, the highest PLP_ID first, until the decoded rate fits the declaration (R157); common PLPs that serve none go too. -/
def judgeRate : Nat → Nat → List Plp → List Plp
  | 0, _, l => l
  | k + 1, limit, l =>
    let data := l.filter (fun p => !p.common)
    let keep := l.filter (fun c => !c.common || data.any (fun p => p.group == c.group))
    if Nat.ble ((keep.map (·.rate)).sum) limit then keep
    else match data.getLast? with
      | some top => judgeRate k limit (keep.filter (· != top))
      | none => keep

/-- Why a selected PLP is not decoded: 1 absent, 2 memory, 3 declaration (R229). -/
def notDecoded (d : Dvb) (byMemory : List Plp) (id : Nat) : Nat :=
  if !d.plps.any (fun p => p.id == id && !p.common) then 1 else if !byMemory.any (fun p => p.id == id) then 2 else 3

/-- A DVB berth whose signal needs more than it declared (R157). -/
def State.overDeclared (s : State) (n : Nat) : State :=
  if s.on (F.BTH_STATUS_OVER_DECL n) then s
  else ((s.up (F.BTH_STATUS_OVER_DECL n)).up (F.BTH_EVENTS_OVER_DECL_EV n)).error 0x0D02 .berth n .detected

/-- Judges the PLPs of a DVB-T2 berth (R228, R229, R157): which are decoded, from or until the interleaving frames of time `ts`; PLP_ACTIVE;
and an entry naming the PLP and why, for a selected one that is found not decoded for memory or the declaration, and for one that its slot no
longer finds, unless a write of the selection took it out. `held`: the slots before; `mid`: the slots before the write. Log entry 83: DEDUCED. -/
def State.judgePlps (s : State) (n ts : Nat) (held mid : List (Option Nat)) : State :=
  let d := s.dvbOf n
  let slots := s.plpSlots n
  let ids := (slots.filterMap id).eraseDups
  let byMemory := judgeMemory d.plps (d.dataPlps.filter (fun p => ids.contains p.id))
  let beyond := Nat.blt (s.get (F.BTH_DECL_FFT_MAX n)) d.l1.fft
  let decoded := if beyond then [] else judgeRate 9 (s.get (F.BTH_DECL_RATE_MAX n)) byMemory
  let now := decoded.map (·.id)
  let act := now.map (fun p => (p, ((d.act.find? (·.1 == p)).map (·.2)).getD ts))
  let gone := (d.act.filter (fun a => !now.contains a.1)).map (fun a => (a.1, a.2, ts))
  let isOn (k : Nat) : Bool := match (slots[k]?).join with
    | some id => now.contains id
    | none => false
  let was := s.get (F.T2_SVC7_PLP_ACTIVE n)
  let refused := ((ids.filter (fun i => !now.contains i)).map (fun i => (i, notDecoded d byMemory i))).filter (·.2 != 1)
  let s := s.putDvb n { d with act := act, left := (d.left ++ gone).drop ((d.left ++ gone).length - 16), refused := refused }
  let s := s.put (F.T2_SVC7_PLP_ACTIVE n) ((List.range 8).map (fun k => if isOn k then 2 ^ k else 0)).sum
  let s := s.when (beyond || Nat.blt decoded.length byMemory.length) (·.overDeclared n)
  let report (t : State) (id why : Nat) : State := t.error 0x0D02 .berth n .detected { d0 := id, d1 := why }
  let s := s.each (refused.filter (fun e => !d.refused.contains e)) (fun e t => report t e.1 e.2)
  s.each (List.range 8) (fun k t =>
    if !bit was k || isOn k || (slots[k]?).join != (mid[k]?).join then t
    -- the PLP that the slot still names, else the one it held
    else match ((slots[k]?).join).or ((held[k]?).join) with
      | some id => if refused.any (·.1 == id) then t else report t id 1
      | none => t)

/-- The boundary of a DVB-T2 berth (R228 to R230): an L1 change applies first, then the armed selection, and in LOCKED the PLPs are judged where
either was due. -/
def State.t2Boundary (s : State) (n ts : Nat) (due : Bool) (l1 : Dvb → Dvb) : State :=
  let held := s.plpSlots n
  let s := s.putDvb n (l1 (s.dvbOf n))
  let mid := s.plpSlots n
  let armed := s.on (fPending (berthCommit n))
  let s := s.berthApply n
  s.when (s.get (F.T2_SVC7_SYNC n) == syncLocked && (due || armed)) (·.judgePlps n ts held mid)

/-- The natural boundary of a berth; that of a DVB-T2 berth in a FEF part is the next T2 frame after it (R59, R226). -/
def State.berthBoundary (s : State) (n : Nat) : State :=
  if s.std n != 6 then s.berthApply n else if s.inFef n s.nowNs then s else s.t2Boundary n s.ts false id

/-! The EWS flag (R235, R236). -/

/-- The EWS state ends. -/
def State.ewsEnd (s : State) (n : Nat) : State := s.when (s.on (F.T2_SVC7_EWS n)) (fun s => (s.down (F.T2_SVC7_EWS n)).urgentEnd 3 n)

/-- The flag of one frame (R236). -/
def State.ewsSeen (s : State) (n : Nat) (flag : Bool) : State :=
  let d := s.dvbOf n
  let s := s.putDvb n { d with ewsOff := if flag then 0 else min 4 (d.ewsOff + 1) }
  if flag then
    if s.on (F.T2_SVC7_EWS n) then s else ((s.up (F.T2_SVC7_EWS n)).up (F.T2_SVC7_EWS_EV n)).urgentStart 3 n
  else s.when (d.ewsOff == 3) (·.ewsEnd n)

/-- The EWS flag of a frame where its source names one (R235). Log entry 126: DESIGN CHOICE. -/
def State.ewsFlag (s : State) (f : T2Frame) : Option Bool :=
  let pos := s.get F.DVB_EWS_CFG_POS
  let src := s.get F.DVB_EWS_CFG_SOURCE
  if src = 1 then (if f.preOk then f.pre[pos]? else none)
  else if src = 2 then
    if f.postOk then some (((f.extensions.find? (·.1 == pos)).map (·.2)).getD false) else none
  else none

/-! Units (R231 to R234). -/

/-- Packs bits from the most significant bit, padded with 0 to whole bytes (R234). -/
def packBits : List Bool → List Byte
  | b7 :: b6 :: b5 :: b4 :: b3 :: b2 :: b1 :: b0 :: t =>
    BitVec.ofNat 8 (128 * b2n b7 + 64 * b2n b6 + 32 * b2n b5 + 16 * b2n b4 + 8 * b2n b3 + 4 * b2n b2 + 2 * b2n b1 + b2n b0) :: packBits t
  | [] => []
  | l => [BitVec.ofNat 8 (((List.range l.length).map (fun i => if (l[i]?).getD false then 2 ^ (7 - i) else 0)).sum)]

/-- The DVB service header (Table 10.3). -/
def dvbHeader (kind plp frame count config flags fixed failed iter : Nat) : List Byte :=
  be 1 kind ++ be 1 plp ++ be 1 frame ++ be 1 count ++ be 1 config ++ be 1 flags ++ be 2 (min 65535 fixed) ++ be 2 failed ++ be 1 iter ++ [0#8]

/-- A signalling unit (R234). -/
def State.signalUnit (s : State) (n kind frame : Nat) (data : List Bool) (urgent : Bool) (ts : Nat) : State :=
  s.emit n 7 (s.berthFlags n urgent) ts (dvbHeader kind 0xFF frame 0 (s.dvbOf n).config 0 0 0 0 ++ packBits data)

/-- A packet as it leaves: bytes, TEI set by the berth, a reinserted null, corrections, the time of its sync byte. -/
structure OutPacket where
  bytes : List Byte
  tei : Bool
  null : Bool
  fixed : Nat
  ts : Nat

/-- A null packet of PID 0x1FFF (R231; its payload is 0xFF, log entry 10). Log entry 10: PRESUMED. -/
def nullPacket : OutPacket := ⟨[0x47#8, 0x1F#8, 0xFF#8, 0x10#8] ++ List.replicate 184 0xFF#8, false, true, 0, 0⟩

/-- The UP CRC-8 of a packet without its sync byte: polynomial 0xD5, initial value 0. Log entry 10: PRESUMED. -/
def upCrc (bytes : List Byte) : Nat := msbCrc 8 0xD5 0 (bytes.drop 1)

/-- A packet with its sync byte restored, and TEI where its frame's BCH or its RS failed or its UP CRC-8 is not that of its bytes (R231). -/
def packetOut (bch : Bool) (p : TsPacket) : OutPacket :=
  let tei := !bch || p.bad || (match p.crc with | some c => upCrc p.bytes != c | none => false)
  let b1 := (p.bytes[1]?).getD 0
  ⟨[0x47#8, if tei then b1 ||| 0x80#8 else b1] ++ p.bytes.drop 2, tei, false, p.fixed, p.ts.toNat⟩

/-- The packets of a frame as they leave, deleted nulls reinserted where asked (R231). -/
def outPackets (nulls bch : Bool) (l : List TsPacket) : List OutPacket :=
  (l.map (fun p => (if nulls then List.replicate p.dnp nullPacket else []) ++ [packetOut bch p])).flatten

/-- The consignments of one FEC frame or OFDM frame, up to 43 packets each, with the time of its interleaving frame (`ts`) or of their own
first packet (R232, R233); they count in the record (R257). -/
def State.tsConsignments (s : State) (n plp frame iter : Nat) (ts : Option Nat) (ps : List OutPacket) : State :=
  (List.range (ceilDiv ps.length 43)).foldl (fun (t : State) i =>
    let part := (ps.drop (43 * i)).take 43
    let d := t.dvbOf n
    let gap := d.gaps.contains plp
    let flags := (if Nat.blt (43 * (i + 1)) ps.length then 0x80 else 0) + (if gap then 0x40 else 0) + (if part.any (·.null) then 0x20 else 0)
    let t := t.putDvb n { d with gaps := d.gaps.filter (· != plp) }
    let at_ := ts.getD (((part.head?).map (·.ts)).getD 0)
    let fixed := (part.map (·.fixed)).sum
    let failed := (part.filter (·.tei)).length
    let t := t.emit n 1 (t.berthFlags n) at_ (dvbHeader 0x21 plp frame part.length d.config flags fixed failed iter ++ (part.map (·.bytes)).flatten)
    ((t.tally n 0x14 plp 1 at_).tally n 0x16 plp (min 65535 fixed) at_).tally n 0x17 plp failed at_) s

/-- A PLP owes GAP at its next consignment (R233). -/
def State.gap (s : State) (n plp : Nat) : State :=
  let d := s.dvbOf n
  s.putDvb n { d with gaps := if d.gaps.contains plp then d.gaps else d.gaps ++ [plp] }

/-! Datagrams by PID (R237, R238). -/

/-- DG_TABLE_ID; it lies alike in both maps. -/
def State.dgTable (s : State) (n : Nat) : Nat := s.get (F.T2_SVC6_DG_TABLE_ID n)

/-- A datagram is discarded (R237). -/
def State.dgMalformed (s : State) (n : Nat) (p : Reasm → Bool) : State :=
  let d := s.dvbOf n
  (s.putDvb n { d with reasm := d.reasm.filter (fun r => !p r) }).up (F.T2_SVC7_DG_MALFORMED_EV n)

/-- One private section on DG_PID, whole or cut (R237, R238): of another table it is ignored, whole or not; one whose number lies above its own last
number is malformed. Log entry 138: DESIGN CHOICE. -/
def State.section_ (s : State) (n ts : Nat) (x : List Byte) (cut : Bool) : State :=
  let d := s.dvbOf n
  let ref := ofBe (slice x 3 2)
  let version := bits (byteAt x 5) 1 5
  let number := byteAt x 6
  let last := byteAt x 7
  let same (r : Reasm) : Bool := r.ref == ref && r.version == version
  if byteAt x 0 != s.dgTable n then s
  else if cut || msbCrc 32 0x04C11DB7 0xFFFFFFFF x != 0 then s.up (F.T2_SVC7_DG_CRC_EV n)
  else if !bit (byteAt x 1) 7 || d.past.any (fun e => e.1 == ref && e.2.1 == version && Nat.blt s.clock (e.2.2 + 10000000000)) then s
  else if Nat.blt 4096 x.length || Nat.blt 15 last then s.dgMalformed n same
  else
    let r := (d.reasm.find? same).getD ⟨ref, version, last, [], ts⟩
    if r.last != last || Nat.blt last number then s.dgMalformed n same
    else
      let fresh := !d.reasm.any same
      let s := if fresh && Nat.ble 2 d.reasm.length then
          (match d.reasm.head? with
           | some o => s.dgMalformed n (fun r => r.ref == o.ref && r.version == o.version)
           | none => s) else s
      let d := s.dvbOf n
      let r := if r.parts.any (·.1 == number) then r else { r with parts := insertBy (·.1) (number, (x.drop 8).take (x.length - 12)) r.parts }
      let place (l : List Reasm) : List Reasm := if fresh then l ++ [r] else l.map (fun y => if same y then r else y)
      if Nat.ble r.parts.length r.last then s.putDvb n { d with reasm := place d.reasm }
      else
        let env := (r.parts.map (·.2)).flatten
        if !envelopeFits env then s.dgMalformed n same
        else
          let past := (d.past.filter (fun e => Nat.blt s.clock (e.2.2 + 10000000000))) ++ [(ref, version, s.clock)]
          (s.putDvb n { d with reasm := d.reasm.filter (fun y => !same y), past := past }).emitDatagram n r.ts env

/-- The sections that bytes hold one after another, and what is there of the last; 0xFF is stuffing (ISO/IEC 13818-1). -/
def splitSections : Nat → List Byte → List (List Byte) × Option (List Byte)
  | 0, _ => ([], none)
  | k + 1, l =>
    let need := 3 + ofBe (slice l 1 2) % 4096
    if l.isEmpty || byteAt l 0 == 255 then ([], none)
    else if Nat.blt l.length 3 || Nat.blt l.length need then ([], some l)
    else
      let r := splitSections k (l.drop need)
      (l.take need :: r.1, r.2)

/-- A packet of the PID: the sections that end in it, each with whether a continuity break, TEI or the next section's start cuts it (R237). A repeated
packet says nothing new. Log entry 10: PRESUMED. -/
def Sect.packet (q : Sect) (p : List Byte) : Sect × List (List Byte × Bool) :=
  let b1 := byteAt p 1
  let b3 := byteAt p 3
  let broken := (q.bytes.map (fun b => (b, true))).toList
  if bit b1 7 then ({ q with cc := none, bytes := none }, broken)
  else if !bit b3 4 || q.cc == some (b3 % 16) then (q, [])
  else
    let gap := q.cc.isSome && q.cc != some ((b3 + 15) % 16)
    let before := if gap then none else q.bytes
    let out := if gap then broken else []
    let pay := p.drop (if bit b3 5 then 5 + byteAt p 4 else 4)
    if bit b1 6 then
      let old := splitSections 64 (match before with | some b => b ++ (pay.drop 1).take (byteAt pay 0) | none => [])
      let new := splitSections 64 (pay.drop (1 + byteAt pay 0))
      ({ q with cc := some (b3 % 16), bytes := new.2 },
        out ++ old.1.map (fun x => (x, false)) ++ (old.2.map (fun x => (x, true))).toList ++ new.1.map (fun x => (x, false)))
    else
      let r := splitSections 64 (match before with | some b => b ++ pay | none => [])
      ({ q with cc := some (b3 % 16), bytes := r.2 }, out ++ r.1.map (fun x => (x, false)))

/-- The sections of DG_PID in the packets of a frame, where extraction is enabled. -/
def State.sections (s : State) (n plp ts : Nat) (ps : List OutPacket) : State :=
  if !s.on (F.T2_SVC5_DG_ENABLE n) then s
  else
    let pid := s.get (F.T2_SVC5_DG_PID n)
    let src := 8192 * plp + pid
    let d := s.dvbOf n
    let q := if d.sect.src == src then d.sect else ⟨src, none, none⟩
    let r := (ps.filter (fun p => ofBe (slice p.bytes 1 2) % 8192 == pid)).foldl (fun (a : Sect × List (List Byte × Bool)) p =>
      let o := a.1.packet p.bytes
      (o.1, a.2 ++ o.2)) (q, [])
    (s.putDvb n { d with sect := r.1 }).each r.2 (fun x t => t.section_ n ts x.1 x.2)

/-- A reassembly is not complete within 2 s (R237). -/
def State.dgTimeout (s : State) (n ref : Nat) : State :=
  match (s.dvbOf n).reasm.find? (·.ref == ref) with
  | some o => s.when (s.std n == 5 || s.std n == 6) (·.dgMalformed n (fun r => r.ref == ref && r.version == o.version))
  | none => s

/-! Frames (R224, R225, R227). -/

/-- The streams of a DVB berth that are cut off: those it decodes. -/
def State.owedGaps (s : State) (n : Nat) : List Nat :=
  let d := s.dvbOf n
  ((d.gaps ++ (if s.std n = 6 then d.act.map (·.1) ++ d.left.map (·.1) else if s.std n = 5 then [0, 1] else [])).eraseDups)

/-- The return to SEARCH: an interleaving frame that is incomplete is voided, and each PLP's next consignment carries GAP (R224, R225). -/
def State.dvbLost (s : State) (n : Nat) : State :=
  if !(s.std n == 5 || s.std n == 6) || s.get (F.T2_SVC7_SYNC n) = syncSearch then s
  else
    let s := if s.std n = 6 then s.each ((s.dvbOf n).act.map (·.1)) (fun p t => t.tally n 0x15 p 1 s.ts) else s
    let s := s.putDvb n { s.dvbOf n with found := 0, missed := 0, good := 0, act := [], left := [], refused := [],
                                         fef := none, stage := 0, bits := [], gaps := s.owedGaps n }
    let s := (s.put (F.T2_SVC7_SYNC n) syncSearch).up (F.T2_SVC7_SYNC_LOST_EV n)
    if s.std n = 6 then s.put (F.T2_SVC7_PLP_ACTIVE n) 0 else s.down (F.DVBT_SVC7_STREAM_ACTIVE n)

/-- Whether a P1 with given S1 and S2 starts a frame of a profile, SISO or MISO: S1 is 0 or 1 for the base profile, 3 or 4 for T2-Lite
(R226). Log entry 135: PRESUMED. -/
def p1Ours (lite : Bool) (fields : Nat) : Bool := if lite then inR 3 4 (fields / 16) else inR 0 1 (fields / 16)

/-- Elementary periods of a DVB berth in ns: one is a lane output sample (Table 10.1). -/
def State.periods (s : State) (n k : Nat) : Nat := k * 1000000000 * (s.laneRate n).2 / (s.laneRate n).1

/-- The FFT sizes of DVB-T2, as `FFT_MAX` codes: 1K to 32K, at 1.7 MHz up to 8K, and 2K to 16K for T2-Lite (Table 10.4). -/
def State.t2Fft (s : State) (n k : Nat) : Bool :=
  (if s.on (F.T2_SVC0_PROFILE n) then inR 3 6 k else inR 2 7 k) && (s.dvbChannel n != some 4 || Nat.ble k 5)

/-- A FEF part begins: what the berth has of its samples is discarded (R226). -/
def State.fefBegin (s : State) (n from_ len : Nat) : State :=
  let s := s.putDvb n { s.dvbOf n with fef := some (from_, from_ + s.periods n len) }
  s.each [0, 1] (fun b t => t.putInput n b ((t.input n b).filter (fun y => !t.inFef n (y.stamp / 1000).toNat)))

/-- The FEF part that follows a T2 frame of the berth, where one does: after the last of each FEF_INTERVAL frames (R226). Log entry 141: PRESUMED. -/
def State.fefAfter (s : State) (n : Nat) (f : T2Frame) : State :=
  let l1 := (s.dvbOf n).l1
  if l1.fefInterval != 0 && (f.index + 1) % l1.fefInterval == 0 then s.fefBegin n (tsNs f.ts.toNat + s.periods n l1.frame) l1.fefLength
  else s.putDvb n { s.dvbOf n with fef := none }

/-- A DVB-T2 frame (R224, R227, R228, R234, R236): the selection applies at its boundary, P1 and L1 decide sync, and L1 is emitted and
read for EWS. A P1 that is not the berth's starts a FEF part, which it skips (R226). -/
def State.t2Frame (s : State) (n : Nat) (f : T2Frame) : State :=
  if !s.works n 6 then s
  else if f.found && !p1Ours (s.on (F.T2_SVC0_PROFILE n)) f.fields then s.fefBegin n (tsNs f.ts.toNat) (s.dvbOf n).l1.fefLength
  else
    let d := s.dvbOf n
    if !f.found then
      let s := s.t2Boundary n f.ts.toNat false (fun d => { d with found := 0, missed := d.missed + 1, good := 0, fef := none })
      s.when (Nat.ble 3 (d.missed + 1)) (·.dvbLost n)
    else
      let found := if d.found != 0 && d.fields == f.fields then 2 else 1
      let st := s.get (F.T2_SVC7_SYNC n)
      let st := if st = syncSearch && found = 2 then syncFrame else st
      let preOk := f.preOk && s.t2Fft n f.l1.fft
      let ok := st != syncSearch && preOk && f.postOk
      let good := if ok then min 2 (d.good + 1) else 0
      let lock := st == syncFrame && good == 2
      let s := s.put (F.T2_SVC7_SYNC n) (if lock then syncLocked else st)
      let s := s.t2Boundary n f.ts.toNat (lock || (preOk && f.l1.fft != d.l1.fft)) (fun d =>
        { d with found := found, fields := f.fields, missed := 0, good := good, plps := if lock then f.plps else d.plps,
                 l1 := if preOk then f.l1 else d.l1, bits := if ok then f.pre ++ f.post else d.bits })
      if st = syncSearch then s
      else
        let s := s.fefAfter n f
        let was := s.on (F.T2_SVC7_EWS n)
        let s := match s.ewsFlag f with
          | some b => s.ewsSeen n b
          | none => s
        let s := s.when (s.get (F.T2_SVC7_SYNC n) == syncLocked) (fun s => s.ofdmSeen n f.ts.toNat ((s.dvbOf n).act.map (·.1)) f.ofdm)
        s.when (f.postOk && s.on (F.T2_SVC0_L1_OUT n)) (fun s =>
          s.signalUnit n 0x22 f.index (f.pre ++ f.post) (s.on (F.T2_SVC7_EWS n) != was) f.ts.toNat)

/-- An announced L1 change applies at its T2 frame: CONFIG, L1_CHANGE_EV, and R229 judged again, with a selection that falls due at the
same frame (R230). -/
def State.l1Change (s : State) (n : Nat) (plps : List Plp) (ts : Nat) : State :=
  if !(s.works n 6 && s.get (F.T2_SVC7_SYNC n) == syncLocked) then s
  else (s.up (F.T2_SVC7_L1_CHANGE_EV n)).t2Boundary n ts true (fun d => { d with plps := plps, config := (d.config + 1) % 256 })

/-- No L1 passes its CRC for 2 s (R236). -/
def State.ewsTimeout (s : State) (n : Nat) : State := s.when (s.std n == 6) (·.ewsEnd n)

/-- Whether an interleaving frame of a PLP, by the time of its first T2 frame, is decoded (R228). -/
def Dvb.decodes (d : Dvb) (plp ts : Nat) : Bool :=
  d.act.any (fun a => a.1 == plp && Nat.ble a.2 ts) || d.left.any (fun a => a.1 == plp && Nat.ble a.2.1 ts && Nat.blt ts a.2.2)

/-- An interleaving frame is complete: its FEC frames' packets leave, a frame with a bad BBHeader leaves a GAP, and the sections of DG_PID
are joined (R227, R231 to R233, R237). -/
def State.ifComplete (s : State) (n plp idx ts : Nat) (fecs : List FecFrame) : State :=
  let d := s.dvbOf n
  if !(Nat.blt n 96 && s.std n == 6 && s.get (F.T2_SVC7_SYNC n) == syncLocked && !s.on (F.BTH_CTRL_STOPPED n) && d.decodes plp ts) then s
  else
    let nulls := s.on (F.T2_SVC0_NULL_REINSERT n)
    let stream := d.plps.all (fun p => p.id != plp || p.stream)
    let s := if !stream then s
      else s.each fecs (fun f t =>
        let t := (t.tally n 0x18 plp f.iterations ts).tally n 0x19 plp 1 ts
        if f.headerOk then t.tsConsignments n plp idx f.iterations (some ts) (outPackets nulls f.bchOk f.packets)
        else (t.gap n plp).tally n 0x15 plp 1 ts)
    s.when (stream && s.get (F.T2_SVC6_DG_PLP n) == plp)
      (·.sections n plp ts ((fecs.filter (·.headerOk)).map (fun f => outPackets false f.bchOk f.packets)).flatten)

/-- Whether TPS bits s1 to s16 are the synchronisation word, upright or inverted (R225). Log entry 10: PRESUMED. -/
def tpsWord (tps : List Bool) : Bool :=
  let w := ((tps.drop 1).take 16).foldl (fun a b => 2 * a + b2n b) 0
  w == 0x35EE || w == 0xCA11

/-- A DVB-T OFDM frame (R225, R230 to R234, R237): sync from the TPS in the 2K and the 8K mode, a TPS change applied when it holds in two frames, the
selected stream's packets, and the sections of DG_PID. -/
def State.dvbtFrame (s : State) (n : Nat) (f : DvbtFrame) : State :=
  if !s.works n 5 then s
  else
    let s := s.berthApply n
    let d := s.dvbOf n
    if !(f.found && (f.fft == 3 || f.fft == 5)) then (s.putDvb n { d with good := 0, paramsSeen := d.params }).dvbLost n
    else
      let st := s.get (F.DVBT_SVC7_SYNC n)
      let st := if st = syncSearch then syncFrame else st
      let ok := f.tpsOk && tpsWord f.tps
      let good := if ok then min 2 (d.good + 1) else 0
      let lock := st == syncFrame && good == 2
      let change := st == syncLocked && ok && f.params != d.params && f.params == d.paramsSeen
      let s := s.putDvb n { d with good := good, paramsSeen := if ok then f.params else d.params,
                                   params := if lock || change then f.params else d.params, bits := if ok then f.tps else d.bits,
                                   config := if change then (d.config + 1) % 256 else d.config }
      let s := s.put (F.DVBT_SVC7_SYNC n) (if lock then syncLocked else st)
      let s := s.when change (·.up (F.T2_SVC7_L1_CHANGE_EV n))
      let s := s.when (f.tpsOk && s.on (F.DVBT_SVC0_L1_OUT n)) (·.signalUnit n 0x23 f.number f.tps false f.ts.toNat)
      if s.get (F.DVBT_SVC7_SYNC n) != syncLocked then s
      else
        let s := s.ofdmSeen n f.ts.toNat [] f.ofdm
        let beyond := Nat.blt (s.get (F.BTH_DECL_FFT_MAX n)) f.fft || Nat.blt (s.get (F.BTH_DECL_RATE_MAX n)) f.rate
        let s := s.when beyond (·.overDeclared n)
        let low := s.on (F.DVBT_SVC0_HP_LP n)
        let active := !s.on (F.BTH_STATUS_OVER_DECL n) && (!low || f.hierarchical)
        let s := s.put (F.DVBT_SVC7_STREAM_ACTIVE n) (b2n active)
        if !active then s
        else
          let ps := outPackets false true (if low then f.lp else f.hp)
          (s.tsConsignments n (b2n low) f.number 0 none ps).sections n (b2n low) f.ts.toNat ps

end Sys2Proof.Machine
end

