-- ==== Sys2Proof/Machine/Records.lean ====
section
/-! DEFINITION. Measurement records (11_measurement.md): the uncertainties of their results, and the record consignments (R250 to R260). -/

namespace Sys2Proof.Machine

/-! Uncertainties (Tables 11.2 to 11.8). -/

/-- Unknown or not defined. -/
def uncNone : Nat := 0xFFFF

/-- An uncertainty as the record shows it: what does not fit is unknown. -/
def uncShow (x : Nat) : Nat := if x < uncNone then x else uncNone

/-- The least root: ⌈√x⌉. -/
def sqrtUp (x : Nat) : Nat := let r := Nat.sqrt x; if r * r = x then r else r + 1

/-- The absolute level uncertainty under precision bits over `count` samples, in 0.001 dB: the sum of Table 11.2 with the substitutions
of Table 11.5; the detector term grows below 65,536 samples (R245, R252). Log entry 84: DEDUCED. -/
def levelUnc (b count : Nat) : Nat :=
  if bit b pbClip || count = 0 then uncNone
  else
    let detector := if 65536 ≤ count then 5 else sqrtUp (ceilDiv (25 * 65536) count)
    uncShow ((if bit b pbVref then 257 else 5) + (if bit b pbOtp then 1000 + 100 else 40 + 15) + 10 + 10 +
      (if bit b pbStale || bit b pbDrift then 50 else 20) + 10 + 20 + 10 + detector)

/-- U_hold in 0.001 mHz for a carrier of `f` Hz (R253): f × (0.01 ppb + D × t_h), t_h the time in DRIFT in ns, 0 for a window that ended before
it. Log entry 86: DEDUCED. -/
def State.holdUnc (s : State) (f held : Nat) : Option Nat :=
  let d := s.get F.MSR_TCXO_DRIFT_DRIFT
  let hour := 3600000000000
  if d = 0xFFFF then none else some (ceilDiv (f * (hour + d * held)) (100000 * hour))

/-- The limit of path delay and frame start for an occupied bandwidth, 0.8 ns × 7.61 ÷ B_occ, in ps (Tables 11.1, 11.8). -/
def eventUnc (occupied : Nat) : Nat := ceilDiv (800 * 7610000) (max 1 occupied)

/-- U_stat in 0.001 mHz over a duration in µs at an M in 0.001 dB: 100 mHz·s ÷ (T × 10^(M ÷ 20)), M clipped to 50 dB (Table 11.4, R251). -/
def statUnc (us : Nat) (m : Int) : Nat := ceilDiv (10 ^ 17) (max 1 (us * amplitude (min 50000 m)))

/-- M of a window (R251): its MER; for AM and FM 30 dB where the channel power at the ADC lies 40 dB above the noise of −150 dBFS/Hz in the
occupied band. Log entry 86: DEDUCED. -/
def Win.margin (w : Win) : Option Int :=
  if w.std = 1 || w.std = 2 then
    let noise := -150000 + millibel w.occupied 1
    if [1, 2].any (fun k => w.counted k != 0 && decide (noise + 40000 ≤ w.adcPower k)) then some 30000 else none
  else (w.mer.find? (·.1 == 0)).map (fun m => merOf m.2)

/-- The duration of an ended window in µs. -/
def Win.micros (w : Win) : Nat := (tsNs w.stop - tsNs w.start) / 1000

/-- The uncertainty of the frequency's fraction in mHz (Table 11.8); `f` is the frequency in Hz. -/
def State.freqUnc (s : State) (b f : Nat) (w : Win) : Nat :=
  if bit b pbCoarse || bit b pbOffset then uncNone
  else match w.margin, (if bit b pbDegraded then s.holdUnc f w.drift else some 0) with
    | some m, some hold => uncShow (ceilDiv (500 + statUnc w.micros m + hold) 1000)
    | _, _ => uncNone

/-- The uncertainty of an arrival time in ps (Tables 11.1, 11.5, 11.8); U_event is given from 25 dB of MER on. Log entry 128: DEDUCED. -/
def Win.arrivalUnc (w : Win) (b : Nat) : Nat :=
  let weak := !((w.mer.find? (·.1 == 0)).any (fun m => decide (25000 ≤ merOf m.2)))
  if bit b pbPpsHold || bit b pbPpsStep || bit b pbCoarse || bit b pbGd || w.gd = 0xFFFF || weak then uncNone
  else uncShow (1000 + w.gd + eventUnc w.occupied + if bit b pbPpsSlew then w.pps else 0)

/-- The uncertainty of an entry (Table 11.8); `b` are the record's precision bits, `w` its window. A sounding counts 32,768 samples (R181); the
figure of AM depth holds from 5 % to 95 % (Table 11.1). -/
def State.entryUnc (s : State) (b : Nat) (w : Win) (all : List RecEntry) (e : RecEntry) : Nat :=
  let v := e.value.toNat
  let q := e.qty
  if q = 0x01 || q = 0x02 || q = 0x30 then levelUnc b (w.counted e.index)
  else if q = 0x0C then levelUnc b (w.counted 1 + w.counted 2)
  else if q = 0x42 then levelUnc b 65536
  else if q = 0x51 then levelUnc b 32768
  else if q = 0x04 then (if bit b pbClip || 40000 ≤ v then uncNone else 200)
  else if q = 0x06 then s.freqUnc b (((all.find? (·.qty == 0x05)).map (·.value.toNat)).getD 0) w
  else if q = 0x07 || q = 0x08 || q = 0x09 then uncShow (ceilDiv (v + 4000) 200)
  else if q = 0x0A then 100
  else if q = 0x0D || q = 0x0E then (if inR 50 950 v then uncShow (ceilDiv (12 * v + 2000) 1000) else uncNone)
  else if q = 0x20 then (if bit b pbCoarse then uncNone else uncShow (eventUnc w.occupied))
  else if q = 0x24 then w.arrivalUnc b
  else uncNone

/-! Records (R256, R257). -/

/-- Whether a quantity applies to a standard (Table 11.8). -/
def applies (std q : Nat) : Bool :=
  let ofdm := std == 3 || std == 4 || std == 5 || std == 6
  let dvb := std == 5 || std == 6
  if q = 0x01 || q = 0x02 || q = 0x03 then std != 8
  else if q = 0x05 || q = 0x06 then std != 7 && std != 8
  else if q = 0x04 || inR 0x20 0x24 q then ofdm
  else if inR 0x07 0x0C q || inR 0x10 0x12 q then std == 2
  else if q = 0x0D || q = 0x0E then std == 1
  else if q = 0x13 then std == 2 || std == 4
  else if q = 0x14 || q = 0x15 || q = 0x17 then ofdm
  else if q = 0x16 then std == 4 || dvb
  else if q = 0x18 then std == 6
  else false

/-- The bytes of an entry (Table 11.7). -/
def entryBytes (e : RecEntry) (unc : Nat) : List Byte := be 1 e.qty ++ be 1 e.index ++ be 4 (toBits 32 e.value) ++ be 2 unc

/-- A part of a record: header (Table 11.6) and entries. -/
def recordPart (kind berth std b count duration config switch part : Nat) (last : Bool) (entries : List Byte) : List Byte :=
  be 1 kind ++ [1#8] ++ be 1 berth ++ be 1 std ++ be 2 (b % 65536) ++ be 2 count ++ be 4 duration ++ be 1 config ++ be 1 switch ++
    be 1 (part % 128 + if last then 0 else 128) ++ [0#8] ++ entries

/-- Emits a record in as many parts as its entries ask (R256). Log entry 84: DEDUCED. -/
def State.emitRecord (s : State) (prod kind berth std b duration config switch ts : Nat) (entries : List (List Byte)) : State :=
  let parts := max 1 (ceilDiv entries.length 1022)
  s.each (List.range parts) (fun i t =>
    let l := (entries.drop (1022 * i)).take 1022
    t.emit prod 8 (t.flags false false false (bit b pbInjected)) ts
      (recordPart kind berth std b l.length duration config switch i (i + 1 == parts) l.flatten))

/-- The levels of a window (R243, R245). -/
def Win.levelEntries (w : Win) : List RecEntry :=
  ([1, 2].filter (fun b => w.counted b != 0)).flatMap (fun b =>
    [⟨0x01, b, w.power b (32768 ^ 2)⟩, ⟨0x02, b, (w.peakPower b (32768 ^ 2)).getD 0⟩, ⟨0x03, b, w.counted b⟩])

/-- The carrier frequency (R247): the frequency that the NCO brought to 0 Hz over the window's samples and the mean residual. Log entry 86: DEDUCED. -/
def Win.freqEntries (w : Win) : List RecEntry :=
  if w.res.2 = 0 || w.tuned.2 = 0 then []
  else
    let f := roundDiv w.tuned.1 w.tuned.2 + roundDiv w.res.1 w.res.2
    [⟨0x05, 0, f / 1000⟩, ⟨0x06, 0, f % 1000⟩]

/-- The counts of a window, at 0 too where another count of the same index has one (R257); the mean of LDPC iterations in 0.01. Log entry 84:
DEDUCED. -/
def Win.countEntries (w : Win) : List RecEntry :=
  let groups := [[0x10, 0x11, 0x12], [0x14, 0x15, 0x16, 0x17]]
  let counts := groups.flatMap (fun qs =>
    let idx := (w.vals.filterMap (fun e => if qs.contains (e.1 / 256) then some (e.1 % 256) else none)).eraseDups
    idx.flatMap (fun i => qs.map (fun q => (⟨q, i, (w.val q i).getD 0⟩ : RecEntry))))
  counts ++ w.vals.filterMap (fun e =>
    if e.1 / 256 = 0x18 then some ⟨0x18, e.1 % 256, roundDiv (100 * e.2) ((w.val 0x19 (e.1 % 256)).getD 1).toNat⟩
    else if inR 0x07 0x0E (e.1 / 256) || e.1 / 256 = 0x13 then some ⟨e.1 / 256, e.1 % 256, e.2⟩ else none)

/-- The paths of a window, by the settings of `MSR_ECHO` in force over it (R248, R259). -/
def Win.echoEntries (w : Win) : List RecEntry :=
  if !bit w.cfg 15 then []
  else
    match w.paths (w.cfg % 64) (w.cfg / 256 % 16) with
    | [] => []
    | p :: l => (p :: l).zipIdx.flatMap (fun e => [⟨0x20, e.2, e.1.delay - p.delay⟩, ⟨0x21, e.2, millibel e.1.power p.power⟩])

/-- The arrival time of a window's first frame (R249). -/
def Win.arrivalEntries (w : Win) : List RecEntry :=
  match w.first with
  | none => []
  | some ps => [⟨0x22, 0, ps / 1000000000000⟩, ⟨0x23, 0, ps / 1000 % 1000000000⟩, ⟨0x24, 0, ps % 1000⟩]

/-- The results that an ended window has for its berth (R257). Log entry 84: DEDUCED. -/
def Win.results (w : Win) : List RecEntry :=
  (w.levelEntries ++ w.mer.map (fun m => (⟨0x04, m.1, merOf m.2⟩ : RecEntry)) ++ w.freqEntries ++ w.countEntries ++ w.echoEntries ++
    w.arrivalEntries).filter (fun e => applies w.std e.qty) ++ w.found

/-- The entries in their order, with their uncertainties. -/
def State.recordEntries (s : State) (b : Nat) (w : Win) (l : List RecEntry) : List (List Byte) :=
  (sortBy (fun e => 256 * e.qty + e.index) l).map (fun e => entryBytes e (s.entryUnc b w l e))

/-- The precision bits of a record of berth `n`'s window that is emitted now: one emitted in DRIFT carries DEGRADED (R254). -/
def State.bitsNow (s : State) (w : Win) : Nat := w.bits ||| if s.mode == .drift then 2 ^ pbDegraded else 0

/-- The record of a berth's oldest ended window is emitted; a partner of a fade emits none (R188, R254 to R259). -/
def State.recordDone (s : State) (n : Nat) : State :=
  match s.closed n with
  | [] => s
  | w :: rest =>
    let b := s.bitsNow w
    let partner := (s.homeOf n).isSome
    let s := (s.putClosed n rest).put { F.MSR_WINDOW_LAST with addr := msrAddr n 0x76 } (min 65535 (w.micros / 1000))
    if partner then s else s.emitRecord n 1 n w.std b w.micros w.config w.switch w.start (s.recordEntries b w w.results)

/-- The results of an intake that gave blocks in its window: level at the plane, net gain, blocks at full code, and drift (Table 11.8). Log
entry 127: DESIGN CHOICE. Log entry 127: DESIGN CHOICE. -/
def State.intakeResults (s : State) (w : Win) (k : Nat) : List RecEntry :=
  if w.counted k = 0 then []
  else
    [⟨0x30, k, w.power k (8192 ^ 2 / 2)⟩, ⟨0x31, k, (w.val 0x31 k).getD 0⟩, ⟨0x32, k, (w.val 0x32 k).getD 0⟩,
     ⟨0x33, k, sext 16 (s.get (F.INT_DRIFT_GAIN k))⟩, ⟨0x34, k, sext 16 (s.get (F.INT_DRIFT_PHASE k))⟩]

/-- The intake record of a window that has ended (R255). -/
def State.intakeEmit (s : State) (w : Win) : State :=
  s.emitRecord 0x60 2 0xFE 0 w.bits w.micros 0 0 w.start (s.recordEntries w.bits w (s.intakeResults w 1 ++ s.intakeResults w 2))

/-- The grid interval of the intake window is over: it ended there, the supervisor emits one record with both intakes, and the next begins there;
the first of a new grid is shortened (R255). Log entry 87: DEDUCED. -/
def State.intakeRecord (s : State) : State :=
  match s.window winIntake with
  | none => s
  | some w =>
    if tsNs s.ts < w.due then s
    else
      let done := s.winDone winIntake (tsOfNs w.due) 0 w
      (s.intakeEmit done).openAt winIntake (tsOfNs w.due) (if w.due % (100000000 * s.gridOf winIntake) = 0 then 0 else cutShort)

/-- The timestamp counter steps: every window ends at the step and continues on the grid of the new time; that of a scan goes on (R258).
`before` is the state before the step. -/
def State.recordStep (s before : State) : State :=
  let extra := cutShort + 2 ^ pbPpsStep
  s.each (Tbl.keys before.windows) (fun n t =>
    match before.window n with
    | none => t
    | some w =>
      let done := before.winDone n before.ts extra w
      if n < 96 then (t.putClosed n (t.closed n ++ [done])).openWindow n extra
      else if n = winIntake then (t.intakeEmit done).openWindow n extra
      else t.markWindow n extra)

/-- The inventory records of a scan (R39, R255, R259). Log entry 87: DEDUCED. -/
def State.inventory (s : State) (found : List Found) : State :=
  let w := (s.window winScan).getD (Win.new s.ts (s.precisionOf winScan))
  let b := w.bits ||| s.precisionOf winScan
  let entries := ((found.take 256).zipIdx.map (fun e =>
    [(⟨0x40, e.2, e.1.hz⟩ : RecEntry), ⟨0x41, e.2, e.1.standard⟩, ⟨0x42, e.2, 10 * e.1.power⟩, ⟨0x43, e.2, e.1.ident⟩])).flatten
  (s.putWindow winScan none).emitRecord 0x60 3 0xFD 0 b ((tsNs s.ts - tsNs w.start) / 1000) 0 0 w.start (s.recordEntries b w entries)

end Sys2Proof.Machine
end

