-- ==== Sys2Proof/Machine/Movements.lean ====
section
/-! DEFINITION. The movements and their outputs (04_movements.md): what carries, what runs, and how a movement begins to search
(R67 to R69, R73, R75 to R78, R84). -/

namespace Sys2Proof.Machine

/-- What an unlisted movement holds. -/
def Mov.reset : Mov := ⟨0, 0, 0, 0⟩

/-- A movement: 0 A, 1 B, 2 C, 3 D. -/
def State.mov (s : State) (m : Nat) : Mov := Tbl.get (fun _ => Mov.reset) s.movs m

/-- Writes it. -/
def State.putMov (s : State) (m : Nat) (v : Mov) : State := { s with movs := Tbl.set (fun _ => Mov.reset) s.movs m v }

/-- What an unlisted pair holds. -/
def Pair.reset : Pair := ⟨[], false, 0⟩

/-- A pair: 0 sample, 1 audio. -/
def State.pair (s : State) (p : Nat) : Pair := Tbl.get (fun _ => Pair.reset) s.pairs p

/-- Writes it. -/
def State.putPair (s : State) (p : Nat) (v : Pair) : State := { s with pairs := Tbl.set (fun _ => Pair.reset) s.pairs p v }

/-- The pair of a movement. -/
def pairOf (m : Nat) : Nat := m / 2

/-- The other member of a movement's pair. -/
def twinOf (m : Nat) : Nat := if m % 2 = 0 then m + 1 else m - 1

/-- The movement of a pair that carries in RUN. -/
def homeMov (p : Nat) : Nat := 2 * p

/-- Whether a movement has declared lock. -/
def State.locked (s : State) (m : Nat) : Bool := s.on (F.TB_MOV_STATUS_LOCKED m)

/-- Whether a movement is retired. -/
def State.movRetired (s : State) (m : Nat) : Bool := s.on (F.TB_MOV_STATUS_RETIRED m)

/-- The member of a pair that carries its outputs. -/
def State.carrier (s : State) (p : Nat) : Option Nat :=
  [2 * p, 2 * p + 1].find? (fun m => s.on (F.TB_MOV_STATUS_CARRYING m))

/-- Whether a pair has a locked member that carries. -/
def State.pairRuns (s : State) (p : Nat) : Bool :=
  match s.carrier p with
  | some m => s.locked m
  | none => false

/-- Whether output `o` is switched on: ENABLE, or the audio port that takes it (R73, R306). The ordinary outputs are divided from SMP_DIST,
output 3 (Table 4.3). -/
def State.outputOn (s : State) (o : Nat) : Bool :=
  (s.on (F.TB_OUT_CFG_ENABLE o) && (!inR 4 9 o || s.on (F.TB_OUT_CFG_ENABLE 3))) ||
  (inR 10 13 o && s.on (F.AU_CTRL_MCLK_EN (o - 10))) ||
  (inR 14 17 o && s.on (F.AU_CTRL_MASTER (o - 14)) && !s.on (F.AU_CTRL_STOPPED (o - 14)))

/-- Shows RUNNING of every output: it is on and its pair has a locked carrier (R71, R73, R74). -/
def State.showOutputs (s : State) : State :=
  s.each (List.range 18) (fun o t => t.put (F.TB_OUT_CFG_RUNNING o) (b2n (t.outputOn o && t.pairRuns (if o < 10 then 0 else 1))))

/-- An ADC delivers blocks while its domain is on and its clock runs: output 0 of the sample pair for intake 1, output 1 for intake 2 (R71,
Tables 4.3 and 5.5). -/
def State.showIntakes (s : State) : State :=
  let up (k : Nat) : Nat := b2n (s.domOn (1 + k) && s.pairRuns 0 && s.outputOn (k - 1))
  if s.get (F.INT_STATUS_RUNNING 1) = up 1 && s.get (F.INT_STATUS_RUNNING 2) = up 2 then s
  else ((s.put (F.INT_STATUS_RUNNING 1) (up 1)).put (F.INT_STATUS_RUNNING 2) (up 2)).showValidAll

/-- Shows what follows from the movements: the outputs, COARSE, with no sample member locked, and the ADCs (R71, R84). A counter that has no
locked movement runs on the KEEP oscillator; ENABLE of SMP_DIST does not stop it. Log entry 138: DESIGN CHOICE. -/
def State.showMovements (s : State) : State :=
  (s.put F.TB_PPS_STATUS_COARSE (b2n (!s.pairRuns 0))).showOutputs.showIntakes

/-- The loads of a pair move to a member: the departing one counts a switchover, and a frame on air is disturbed (R75, R76, R359). -/
def State.carry (s : State) (p m : Nat) : State :=
  match s.carrier p with
  | some a =>
    if a = m then s
    else
      let s := ((s.down (F.TB_MOV_STATUS_CARRYING a)).up (F.TB_MOV_STATUS_CARRYING m)).bump (F.TB_MOV_COUNT_SWITCH_COUNT a)
      (s.when (p == 0) (·.pilotDisturb)).showMovements
  | none => (s.up (F.TB_MOV_STATUS_CARRYING m)).showMovements

/-- The reference correction in force, in 0.01 ppb (R82): the offset of `TCXO_IN` while the carrying sample movement is locked on it, and zero
on `REFIN`, in holdover, or without a complete measurement. -/
def State.correction (s : State) : Int :=
  match s.carrier 0 with
  | some m =>
    if s.locked m && s.on (F.TB_MOV_STATUS_ON_TCXO m) && !s.on (F.TB_MOV_STATUS_HOLDOVER m) && s.on F.TB_REF_STATUS_OFFSET_VALID then
      sext 32 (s.get F.TB_TCXO_OFFSET_OFFSET)
    else 0
  | none => 0

/-- A movement begins to search on a reference; its charge pump stays as it is until the loop closes (R68, R69, R78, R81). -/
def State.search (s : State) (m : Nat) (tcxo : Bool) : State :=
  let s := (s.down (F.TB_MOV_STATUS_LOCKED m)).put (F.TB_MOV_STATUS_STATE m) 1
  let s := s.put (F.TB_MOV_STATUS_ON_TCXO m) (b2n tcxo)
  (s.putMov m { s.mov m with good := 0, bad := 0 }).showMovements

/-- A movement is idle: its domain is off, or it is retired. -/
def State.movIdle (s : State) (m : Nat) : State :=
  let s := (s.down (F.TB_MOV_STATUS_LOCKED m)).put (F.TB_MOV_STATUS_STATE m) 0
  let s := (s.down (F.TB_MOV_STATUS_HOLDOVER m)).put (F.TB_MOV_STATUS_BAND m) 0
  (s.putMov m { s.mov m with good := 0, bad := 0, missed := 0 }).showMovements

/-- All movements search in parallel, as REGULATE begins and as soon as `REFIN` is there, on `REFIN` where it is (R66, R99); one that was lost
in this REGULATE must qualify again first (R81). -/
def State.regulateMovements (s : State) : State :=
  let tcxo := !((s.refCount.refin && !s.refCount.lost) || s.on F.TB_REF_STATUS_REFIN_OK)
  let s := { s with trimming := [] }
  let s := s.each [0, 1] (fun p t => (t.putPair p ⟨[], tcxo, t.get F.TB_AUDIO_CFG_FAMILY⟩).each [2 * p, 2 * p + 1] (fun m u =>
    u.down (F.TB_MOV_STATUS_CARRYING m)))
  s.each (List.range 4) (fun m t => if t.movRetired m then t
    else ((t.down (F.TB_MOV_STATUS_HOLDOVER m)).putMov m { t.mov m with missed := 0, fam := t.get F.TB_AUDIO_CFG_FAMILY }).search m tcxo)

/-- TIMEBASE goes off: A and C stop, and B and D carry what they can (R21, R84). -/
def State.timebaseOff (s : State) : State :=
  s.each [0, 1] (fun p t =>
    let a := homeMov p
    let t := (t.putPair p { t.pair p with todo := [] }).setTrimming (t.trimming.filter (· != p))
    let t := t.movIdle a
    if t.carrier p == some a && t.locked (a + 1) then t.carry p (a + 1) else t.showMovements)

end Sys2Proof.Machine
end

