-- ==== Sys2Proof/Machine/Converter.lean ====
section
/-! DEFINITION. The converter of an audio port, its drain FIFO and its guard line (R174, R307 to R309, R311, R316): the frames that a port is about
to send. -/

namespace Sys2Proof.Machine

/-! Ports. -/

/-- What an unlisted port holds. -/
def Port.reset : Port := ⟨none, 0, 2, false, false, false, 0, 0, 0, 0, 0, 0, 0, [], [], none, [], 0⟩

/-- An audio port. -/
def State.port (s : State) (p : Nat) : Port := Tbl.get (fun _ => Port.reset) s.ports p

/-- Writes it. -/
def State.putPort (s : State) (p : Nat) (v : Port) : State := { s with ports := Tbl.set (fun _ => Port.reset) s.ports p v }

/-- The COMMIT register of port `p`. -/
def portCommit (p : Nat) : Nat := 0x230D + 0x10 * p

/-- States of Table 14.2. -/
def osStopped : Nat := 0
/-- See `osStopped`. -/
def osSettling : Nat := 1
/-- See `osStopped`. -/
def osPlaying : Nat := 2
/-- See `osStopped`. -/
def osFading : Nat := 3
/-- See `osStopped`. -/
def osSilent : Nat := 4
/-- See `osStopped`. -/
def osRamping : Nat := 5
/-- See `osStopped`. -/
def osMuted : Nat := 6

/-- OUT_STATE of a port. -/
def State.outState (s : State) (p : Nat) : Nat := s.get (F.AU_STATUS_OUT_STATE p)

/-- Writes OUT_STATE. -/
def State.setOut (s : State) (p v : Nat) : State := s.put (F.AU_STATUS_OUT_STATE p) v

/-- Frame rates in Hz by their FS code. -/
def fsHz (fs : Nat) : Nat := [32000, 44100, 48000, 88200, 96000].getD fs 0

/-- Bit clocks of a frame: B = S × W (R303). -/
def State.frameBits (s : State) (p : Nat) : Nat :=
  (s.get (F.AU_CFG_SLOTS p) + 1) * [16, 20, 24, 32].getD (s.get (F.AU_CFG_WIDTH p)) 32

/-- Whether a port runs. -/
def State.portRuns (s : State) (p : Nat) : Bool := !s.on (F.AU_CTRL_STOPPED p)

/-- The frame at the pin of a port, counted from frame 0 (R308, R313). -/
def State.position (s : State) (p : Nat) : Nat :=
  if s.portRuns p then (s.port p).frames % 2 ^ 48 else s.get (F.AU_POSITION_FRAME p)

/-! Slots (R174, R311, R312). -/

/-- Which audio a slot carries: a berth and its left (0), right (1) or mono (2) signal (R174). In a fade the home feeds the port, never its
partner (R191). -/
def State.slotSource (s : State) (p slot : Nat) : Option (Nat × Nat) :=
  (List.range 96).findSome? (fun n =>
    if !((s.std n == 1 || s.std n == 2) && s.on (F.FM_SVC1_ENABLE n) && s.get (F.FM_SVC1_PORT n) == p && (s.homeOf n).isNone) then none
    else
      let l := s.get (F.FM_SVC1_SLOT_L n) == slot
      let r := s.get (F.FM_SVC1_SLOT_R n) == slot
      if l && r then some (n, 2) else if l then some (n, 0) else if r then some (n, 1) else none)

/-- Steps of a fade or ramp of a port or a slot: one a frame (R312). -/
def portSteps : Nat := 64

/-- The step of a slot's own fade or ramp in frame `k`: the last movement that has begun by then; without one its audio is whole (R311). -/
def Port.slotStep (x : Port) (slot k : Nat) : Nat :=
  match (x.moves.filter (fun m => m.slot == slot && Nat.ble m.frame k)).getLast? with
  | some m => if m.up then min portSteps (m.step + (k - m.frame)) else m.step - (k - m.frame)
  | none => portSteps

/-- A slot begins to fade or to ramp at a frame, from the step where it stands (R311). -/
def Port.move (x : Port) (slot frame : Nat) (up : Bool) : Port :=
  { x with moves := x.moves ++ [⟨slot, frame, up, x.slotStep slot frame⟩] }

/-- A frame of the converter: what has become of its slots that have audio or lack it (R311). A slot that has had none until now takes the port's
state (R319). -/
def Port.wrote (x : Port) (k : Nat) (words : List (Option Int)) : Port :=
  words.zipIdx.foldl (fun (x : Port) w =>
    let slot := w.2
    let had := bit x.heard slot
    if w.1.isSome && !had then
      let y := if x.moves.any (·.slot == slot) then x.move slot k true else x
      { y with heard := y.heard + 2 ^ slot }
    else if w.1.isNone && had then { (x.move slot x.frames false) with heard := x.heard - 2 ^ slot }
    else x) x

/-- Movements of slots that are over: those that a later one has followed, ramps at the top, and fades of slots that carry no route any more. -/
def Port.settle (x : Port) (routed : Nat → Bool) : Port :=
  { x with moves := x.moves.zipIdx.filterMap (fun m =>
      let later := (x.moves.drop (m.2 + 1)).any (fun o => o.slot == m.1.slot && Nat.ble o.frame x.frames)
      let done := Nat.ble (m.1.frame + portSteps) x.frames && (m.1.up || !routed m.1.slot) &&
        !(x.moves.drop (m.2 + 1)).any (fun o => o.slot == m.1.slot)
      if later || done then none else some m.1) }

/-! The converter (R308, R309). -/

/-- The instant of frame `k` in ps of the counter: a master's frames stand exactly at its rate; a slave's are predicted from the last sync edge and
the rate measured (R308). -/
def State.frameTime (s : State) (p k : Nat) : Int :=
  let x := s.port p
  if s.on (F.AU_CTRL_MASTER p) then 1000 * (x.zero : Int) + (k * 10 ^ 12 / fsHz x.fs : Nat)
  else 1000 * (x.edge : Int) + ((k - x.frames) * 10 ^ 15 / s.get (F.AU_RATE_RATE p) : Nat)

/-- The instant of signal that frame `k` stands for: its own less L_au (R308). -/
def State.frameSignal (s : State) (p k : Nat) : Int := s.frameTime p k - (s.get F.AU_LATENCY_L_AU : Int) * 10 ^ 9

/-- The blocks of one signal of a berth, each with its ANT-pin time. -/
def State.channel (s : State) (n side : Nat) : List (Int × List Int) :=
  (s.audio n).map (fun p => (p.stamp, if side = 0 then p.left else if side = 1 then p.right else p.mono))

/-- Whether a berth's audio reaches 0.5 ms beyond an instant (R308); its blocks last 1 ms. -/
def State.audioReaches (s : State) (n : Nat) (at_ : Int) : Bool :=
  match (s.audio n).getLast? with
  | some b => decide (at_ + 5 * 10 ^ 8 ≤ b.stamp + 10 ^ 9)
  | none => false

/-- The slots of frame `k` whose berths work but whose audio has not come (R311). -/
def State.slotsMissing (s : State) (p k : Nat) : List Nat :=
  (List.range (s.get (F.AU_CFG_SLOTS p) + 1)).filter (fun slot => match s.slotSource p slot with
    | some (n, _) => s.working n && !s.audioReaches n (s.frameSignal p k)
    | none => false)

/-- The words of frame `k`, slot by slot: the audio of the berth that is routed there, interpolated; none where it does not work, lacks its audio
(`missing`), or no berth is (R308, R311). -/
def State.frameWords (s : State) (p k : Nat) (missing : List Nat) : List (Option Int) :=
  (List.range (s.get (F.AU_CFG_SLOTS p) + 1)).map (fun slot => match s.slotSource p slot with
    | some (n, side) =>
      if s.working n && !missing.contains slot then some (Config.convert (s.port p).fs (s.frameSignal p k) (s.channel n side)) else none
    | none => none)

/-- The frame that the converter computes next: beyond the one at the pin. -/
def Port.ahead (x : Port) : Nat := max x.next (x.frames + 1)

/-- The converter writes its next frame into the drain FIFO; slots whose audio is missing get zeros and are late (R309, R311). -/
def State.convertOne (s : State) (p : Nat) (missing : List Nat) : State :=
  let x := s.port p
  let k := x.ahead
  let words := s.frameWords p k missing
  let late := (missing.map (2 ^ ·)).sum
  let back := ((List.range words.length).filter (fun i => ((words[i]?).join).isSome)).map (2 ^ ·)
  let s := s.when (!missing.isEmpty) (·.up (F.AU_STATUS_LATE_EV p))
  let s := s.put (F.AU_LATE_SLOTS p) ((s.get (F.AU_LATE_SLOTS p) ||| late) - (s.get (F.AU_LATE_SLOTS p) &&& back.sum))
  s.putPort p { x.wrote k words with fifo := x.fifo ++ [⟨k, words.map (·.getD 0)⟩], next := k + 1 }

/-- Whether a port's converter computes frames: not while it settles or is muted, tests itself, is retired, or has not resumed (R312, R316). -/
def State.converts (s : State) (p : Nat) : Bool :=
  let st := s.outState p
  s.portRuns p && s.domOn 7 && st != osStopped && st != osSettling && st != osMuted && !(s.port p).dry && !(s.unit .converter p).testing &&
    !s.isRetired .converter p

/-- The converter runs ahead as far as the drain FIFO and the audio allow; audio that is missing it waits for until the depth has fallen to LOW
(R309, R311). -/
def State.convertAhead (s : State) (p : Nat) : Nat → State
  | 0 => s
  | k + 1 =>
    let x := s.port p
    let missing := s.slotsMissing p x.ahead
    if !s.converts p || Nat.ble (s.get (F.HLD_CAP_CAP.ofHold (100 + p))) x.fifo.length then s
    else if missing.isEmpty || Nat.ble x.fifo.length (s.get (F.HLD_LOW_LOW.ofHold (100 + p))) then (s.convertOne p missing).convertAhead p k
    else s

/-- The output stage: frames that the pin has passed leave the guard line and the drain FIFO, and the guard line fills up to its 64 frames (R309).
It answers how many left the FIFO. -/
def State.guardFill (s : State) (p : Nat) : State × Nat :=
  let x := s.port p
  let guard := x.guard.filter (fun f => Nat.ble x.frames f.number)
  let fifo := x.fifo.dropWhile (fun f => Nat.blt f.number x.frames)
  let take := portSteps - guard.length
  (s.putPort p { x with guard := guard ++ fifo.take take, fifo := fifo.drop take },
    x.fifo.length - (fifo.drop take).length)

/-- An edge of a port's island: the output stage pops, the converter pushes, and, where the guard line has room, so again (R266, R309). -/
def State.portPump (s : State) (p : Nat) : State :=
  let cap := s.get (F.HLD_CAP_CAP.ofHold (100 + p))
  let (s, popped) := s.guardFill p
  let s := s.convertAhead p cap
  let (s, more) := s.guardFill p
  let s := if more = 0 then s else s.convertAhead p cap
  s.ringFill (100 + p) (popped + more) (s.port p).fifo.length

/-- The drain FIFO and the guard line are empty. -/
def State.portEmpty (s : State) (p : Nat) : State :=
  let n := (s.port p).fifo.length
  (s.putPort p { s.port p with fifo := [], guard := [], sent := none }).ringFill (100 + p) n 0

end Sys2Proof.Machine
end

