-- ==== Sys2Proof/Machine/Audio.lean ====
section
/-! DEFINITION. The audio ports (14_audio_ports.md): start instants, output states, underruns, slave clocks and the family change
(R303 to R319). -/

namespace Sys2Proof.Machine

/-- The audio family of a rate: 0 the 48 kHz family, 1 the 44.1 kHz family (R306). -/
def famOf (fs : Nat) : Nat := if fs = 1 || fs = 3 then 1 else 0

/-- The rate of the other family (R318); 32 kHz has none. Log entry 108: DEDUCED. -/
def fsMap (fs fam : Nat) : Nat :=
  if fam = 1 then (if fs = 2 then 1 else if fs = 4 then 3 else fs) else (if fs = 1 then 2 else if fs = 3 then 4 else fs)

/-- f_VCO of the audio pair (Table 4.2). -/
def audioVco (fam : Nat) : Nat := if fam = 0 then 2457600000 else 2257920000

/-- f_VCO and f_s × B, whose quotient is the bit-clock divider (R306). -/
def State.auDiv (s : State) (p : Nat) : Nat × Nat :=
  (audioVco (s.get F.TB_AUDIO_CFG_FAMILY), fsHz (s.get (F.AU_CFG_FS p)) * s.frameBits p)

/-- Whether a port's format allows a rate: its slots (R303). -/
def State.slotsFit (s : State) (p fs : Nat) : Bool := !(Nat.ble 3 fs && Nat.ble 16 (s.get (F.AU_CFG_SLOTS p)))

/-- Whether a slave port supports a rate: one of R303, with a bit clock of at most 50 MHz (R307). -/
def State.slaveFits (s : State) (p fs : Nat) : Bool := fs != 7 && s.slotsFit p fs && Nat.ble (fsHz fs * s.frameBits p) 50000000

/-- Whether a start of port `p` is refused: its format, or, as master, its rate's family or its divider (R303, R306). -/
def State.startBad (s : State) (p : Nat) : Bool :=
  let fs := s.get (F.AU_CFG_FS p)
  let d := s.auDiv p
  !s.slotsFit p fs ||
  (s.on (F.AU_CTRL_MASTER p) && (famOf fs != s.get F.TB_AUDIO_CFG_FAMILY || d.2 == 0 || d.1 % d.2 != 0 || !inR 50 1024 (d.1 / d.2)))

/-- Whether the device is in a mode with audio ports, and QUAY is on. -/
def State.portsUp (s : State) : Bool := s.quayUp && s.domOn 7

/-- A port told to start takes its start instant (R313). -/
def State.portStart (s : State) (p : Nat) : State :=
  let now := s.nowNs
  let at_ := s.get F.AU_START_AT_SECONDS * 1000000000
  let near := ceilDiv (now + 2000000) 10000000 * 10000000
  let ok := at_ != 0 && Nat.ble (now + 2000000) at_
  let s := s.when (at_ != 0 && !ok) (·.up (F.AU_STATUS_START_LATE_EV p))
  s.putPort p { s.port p with startAt := some (if ok then at_ else near) }

/-- A port stops at once: no clocks, or its data line released; armed changes apply (R59, R315). -/
def State.portStopped (s : State) (p : Nat) : State :=
  let n := s.position p
  let s := (s.applyArmed (portCommit p)).put (F.AU_POSITION_FRAME p) n
  let s := ((s.up (F.AU_CTRL_STOPPED p)).setOut p osStopped).put (F.AU_LATE_SLOTS p) 0
  let s := s.when (s.on (F.AU_CTRL_MASTER p)) (·.down (F.AU_STATUS_CLOCK_OK p))
  let s := s.portEmpty p
  (s.putPort p { Port.reset with fs := (s.port p).fs }).showOutputs

/-- The step at which the fade or ramp of a port stands: a ramp rises to the last one, a fade falls to 0 (R312, R315). -/
def State.portStep (s : State) (p : Nat) : Nat :=
  let x := s.port p
  let k := s.position p - x.moveAt
  let st := s.outState p
  if st = osRamping then min portSteps (x.moveFrom + k) else if st = osFading then x.moveFrom - k else if st = osPlaying then portSteps else 0

/-- The port starts to fade, from the step where it stands: a ramp that is under way reverses (R312, R315). -/
def State.portFade (s : State) (p : Nat) : State :=
  (s.putPort p { s.port p with moveFrom := s.portStep p, moveAt := s.position p }).setOut p osFading

/-- The port starts to ramp, from silence; after an underrun from the first fresh frame to reach the pin (R312, R316). -/
def State.portRamp (s : State) (p : Nat) : State :=
  (s.putPort p { s.port p with moveFrom := 0, moveAt := max (s.position p) (s.port p).fresh }).setOut p osRamping

/-- Whether something keeps a running port silent: MUTE, SURVEY, or a converter that does not run. -/
def State.portQuiet (s : State) (p : Nat) : Bool := s.on (F.AU_CTRL_MUTE p) || (s.port p).survey || (s.port p).dry

/-- Brings a port's output towards what its controls ask: a fade, a ramp, a start or a stop (R312 to R315). -/
def State.portShow (s : State) (p : Nat) : State :=
  let s := s.showOutputs
  if !s.portRuns p then
    let s := s.when ((s.get (F.AU_CTRL_RUN p)) == 0) (·.putPort p { s.port p with startAt := none })
    if s.on (F.AU_CTRL_RUN p) && (s.port p).startAt.isNone && s.portsUp then s.portStart p else s
  else
    let st := s.outState p
    let live := st == osPlaying || st == osRamping
    if !s.on (F.AU_CTRL_RUN p) then
      let s := s.when (live || st == osFading) (·.putPort p { s.port p with stop := true })
      if live then s.portFade p else if st == osFading then s else s.portStopped p
    else if s.portQuiet p && live then s.portFade p
    else if !s.portQuiet p && st == osSilent && (s.port p).startAt.isNone then s.portRamp p
    else s

/-- A write of a port's registers, or a boundary, has taken effect: a port that has not started takes armed changes at once (R59). -/
def State.portChanged (s : State) (p : Nat) : State :=
  (if s.portRuns p then s else s.applyArmed (portCommit p)).portShow p

/-- A start of a stopped port is refused as it takes effect: RUN reads 0 (R306). Log entry 55: DEDUCED. -/
def State.portRefuse (s : State) (p : Nat) : State :=
  let w := s.wordAt (0x2300 + 0x10 * p)
  ((s.refuse srcImage (0x2300 + 0x10 * p) (w - 0x8000) w resValue).down (F.AU_CTRL_RUN p)).putPort p { s.port p with startAt := none }

/-- The start instant of a port: a master computes its bit clock, and frame 0 begins; a slave needs a qualified clock (R306, R313,
R314). A start that the family in force no longer allows is refused. -/
def State.startInstant (s : State) (p : Nat) : State :=
  let x := s.port p
  let master := s.on (F.AU_CTRL_MASTER p)
  if x.startAt.isNone || !s.on (F.AU_CTRL_RUN p) || !s.portsUp || (!master && !s.on (F.AU_STATUS_CLOCK_OK p)) then s
  else if !s.portRuns p && s.startBad p then s.portRefuse p
  else
    let d := s.auDiv p
    let div := d.1 / d.2
    let s := s.when (master && !s.portRuns p) (fun s =>
      (s.supDo [0x121 + 2 * (14 + p)] (fun s => s.put (F.TB_OUT_DIV_DIV (14 + p)) div)).put (F.AU_DIV_DIV p) div)
    let s := s.when (!master) (·.put (F.AU_DIV_DIV p) 0)
    let fs := if master then s.get (F.AU_CFG_FS p) else s.get (F.AU_CLOCK_FS_FOUND p)
    let first := if master then x.startAt.getD s.nowNs else s.nowNs
    let s := s.when (master && !s.startBad p) (·.down (F.AU_STATUS_UNSUPPORTED p))
    let s := s.portEmpty p
    let s := s.putPort p { Port.reset with began := s.clock, fs := fs, survey := s.mode == .survey, dry := (s.unit .converter p).testing,
                                           zero := first, edge := s.nowNs }
    let s := ((s.down (F.AU_CTRL_STOPPED p)).put (F.AU_POSITION_FRAME p) 0).put (F.AU_LATE_SLOTS p) 0
    let s := s.when master (·.up (F.AU_STATUS_CLOCK_OK p))
    let muted := s.on (F.AU_STATUS_UNSUPPORTED p) || s.isRetired .converter p
    (s.setOut p (if muted then osMuted else osSettling)).showOutputs

/-- The converter holds its input samples: the port leaves SETTLING and ramps; so does a port that was SILENT for SURVEY, and a master
muted by a family change at a rate it supports (R312, R315, R318). -/
def State.portSettled (s : State) (p : Nat) : State :=
  let st := s.outState p
  let back := st == osMuted && s.on (F.AU_CTRL_MASTER p) && !s.on (F.AU_STATUS_UNSUPPORTED p) && !s.isRetired .converter p
  if s.portRuns p && (st == osSettling || st == osSilent || back) then
    (if s.portQuiet p then s.setOut p osSilent else s.portRamp p).portPump p
  else s

/-- A fade or ramp of a port, or of a slot of a port that plays, is done (R311, R312, R315). -/
def State.portFaded (s : State) (p : Nat) : State :=
  let st := s.outState p
  if !s.portRuns p then s
  else if st = osFading then
    if (s.port p).stop then (s.portStopped p).portShow p else (s.setOut p osSilent).portShow p
  else if st = osRamping then s.setOut p osPlaying
  else if st = osPlaying then s.putPort p ((s.port p).settle (fun slot => (s.slotSource p slot).isSome))
  else s

/-- Whether a working berth routes audio to a slot of a port (R174). -/
def State.slotRouted (s : State) (p slot : Nat) : Bool :=
  (List.range 96).any (fun n => (s.std n == 1 || s.std n == 2) && s.working n && s.on (F.FM_SVC1_ENABLE n) &&
    s.get (F.FM_SVC1_PORT n) == p && (s.get (F.FM_SVC1_SLOT_L n) == slot || s.get (F.FM_SVC1_SLOT_R n) == slot))

/-- The depth has fallen to LOW while a slot's audio is missing: the converter goes on without it (R311). -/
def State.slotLate (s : State) (p slot : Nat) : State :=
  if s.portRuns p && Nat.ble slot (s.get (F.AU_CFG_SLOTS p)) && s.slotRouted p slot then
    let x := s.port p
    let low := s.get (F.HLD_LOW_LOW.ofHold (100 + p))
    let s := s.putPort p { x with fifo := x.fifo.drop (x.fifo.length - low) }
    (s.convertOne p [slot]).ringShow (100 + p) ((x.fifo.length - (x.fifo.length - low)) + 1)
  else s

/-- The output stage finds the drain FIFO empty: the port fades its guard line (R268, R316, R319). -/
def State.portUnderrun (s : State) (p : Nat) (injected : Bool := false) : State :=
  if !s.portRuns p then s
  else
    let st := s.outState p
    let s := ((s.up (F.AU_STATUS_UNDERRUN p)).bump (F.AU_COUNTS_UNDERRUNS p)).up (F.HLD_STATUS_UNDERRUN_EV.ofHold (100 + p))
    let s := (s.ringShow (100 + p) 0).putPort p { s.port p with dry := true, fifo := [] }
    let s := s.when (st == osPlaying || st == osRamping) (·.portFade p)
    let s := s.error 0x0802 .converter p .detected { injected := injected }
    if (s.unit .converter p).testing then s else s.startTest .converter p 0x0802 injected

/-- The converter of a port runs again: it computes frames from 65 beyond the one at the pin (R316). -/
def State.portResume (s : State) (p : Nat) : State :=
  if (s.port p).dry && !(s.unit .converter p).testing && !s.isRetired .converter p then
    let x := s.port p
    ((s.putPort p { x with dry := false, fresh := x.frames + 65, next := x.frames + 65 }).portPump p).when (s.portRuns p) (·.portShow p)
  else s

/-- The standard rate within ±0.2 % of a measured one, in 0.001 Hz; 7 none (R307). -/
def rateFound (rate : Nat) : Nat :=
  ((List.range 5).find? (fun fs => Nat.ble (fsHz fs * 998) rate && Nat.ble rate (fsHz fs * 1002))).getD 7

/-- A 100 ms window of a slave port ends (R307). -/
def State.rateWindow (s : State) (p rate : Nat) : State :=
  if s.on (F.AU_CTRL_MASTER p) || !s.domOn 7 then s
  else
    let fs := rateFound rate
    let bad := !s.slaveFits p fs
    let s := ((s.put (F.AU_RATE_RATE p) rate).put (F.AU_CLOCK_FS_FOUND p) fs).put (F.AU_STATUS_UNSUPPORTED p) (b2n bad)
    s.when (bad && s.portRuns p) (·.setOut p osMuted)

/-- Mutes a slave port whose clock has failed (Table 14.4). -/
def State.slaveMute (s : State) (p : Nat) : State :=
  (s.down (F.AU_STATUS_CLOCK_OK p)).when (s.portRuns p) (·.setOut p osMuted)

/-- Whether a port is a slave that judges an incoming clock. -/
def State.slaveUp (s : State) (p : Nat) : Bool := !s.on (F.AU_CTRL_MASTER p) && s.domOn 7

/-- The incoming clock stops (R317). -/
def State.clockStop (s : State) (p : Nat) : State :=
  if s.slaveUp p then (s.up (F.AU_STATUS_CLK_STOP_EV p)).slaveMute p else s

/-- An incoming frame has a wrong bit-clock count (R317). -/
def State.clockGlitch (s : State) (p : Nat) : State :=
  if s.slaveUp p then ((s.up (F.AU_STATUS_GLITCH_EV p)).bump (F.AU_COUNTS_GLITCHES p)).slaveMute p else s

/-- The incoming rate has changed: the event, and the request AUDIO (R317). -/
def State.rateChange (s : State) (p : Nat) : State :=
  if s.slaveUp p then ((s.up (F.AU_STATUS_RATE_EV p)).attn 6).slaveMute p else s

/-- Sixteen good frames qualify the incoming clock; a muted port ramps at the rate found (R317). -/
def State.clockGood (s : State) (p : Nat) : State :=
  let fs := s.get (F.AU_CLOCK_FS_FOUND p)
  if !s.slaveUp p || !s.slaveFits p fs then s
  else
    let new := s.portRuns p && fs != (s.port p).fs
    let s := s.up (F.AU_STATUS_CLOCK_OK p)
    let s := s.when new (fun s => ((s.up (F.AU_STATUS_RATE_EV p)).attn 6).putPort p { s.port p with fs := fs })
    if s.portRuns p && s.outState p == osMuted && !s.isRetired .converter p then (if s.portQuiet p then s.setOut p osSilent else s.portRamp p)
    else s

/-- The refusal rule of `AU_START`: a named port that is stopped and may not start (R306, R314). -/
def auStartRule : Rule := fun s _ w =>
  if (List.range 4).any (fun p => bit w p && !s.portRuns p && s.startBad p) then some resValue else none

/-- A write of `AU_START`: every named port starts, or starts again, at one instant (R314). -/
def State.auStart (s : State) (src w : Nat) : State :=
  match s.write src 0x2340 w auStartRule with
  | (s, some _) =>
    if s.portsUp then s.each ((List.range 4).filter (bit w)) (fun p t =>
      ((t.up (F.AU_CTRL_RUN p)).putPort p { t.port p with stop := false }).portStart p) else s
  | (s, none) => s

/-- The audio family changes under the master ports: each maps its rate, mutes, and counts from frame 0 (R318). Log entry 108: DEDUCED. -/
def State.audioFamily (s : State) (fam : Nat) : State :=
  s.each ((List.range 4).filter (fun p => s.on (F.AU_CTRL_MASTER p))) (fun p t =>
    let old := t.get (F.AU_CFG_FS p)
    let new := fsMap old fam
    let t := if new = old then t else t.supDo [0x2301 + 0x10 * p] (fun t => t.put (F.AU_CFG_FS p) new)
    if !t.portRuns p then t
    else
      let x := t.port p
      let t := (t.portEmpty p).putPort p { Port.reset with startAt := x.startAt, began := t.clock, fs := new, stop := x.stop, survey := x.survey,
                                                           dry := x.dry, zero := t.nowNs, edge := t.nowNs }
      let t := t.put (F.AU_POSITION_FRAME p) 0
      (t.setOut p osMuted).put (F.AU_STATUS_UNSUPPORTED p) (b2n (famOf new != fam)))

/-- Entry into SURVEY fades every running port (R38, R315). -/
def State.portsSurvey (s : State) : State :=
  s.each ((List.range 4).filter s.portRuns) (fun p t => (t.putPort p { t.port p with survey := true }).portShow p)

/-- The return from SURVEY: ports ramp back once their berths have settled (R315). -/
def State.portsSurveyEnd (s : State) : State := s.each (List.range 4) (fun p t => t.putPort p { t.port p with survey := false })

/-- Every port mutes at once and stops (R41, R315, R438). -/
def State.portsMute (s : State) : State := s.each ((List.range 4).filter s.portRuns) (fun p t => t.portStopped p)

/-- Ports whose RUN the image set start on entry to RUN or DRIFT, and those with RUN at 1 when QUAY comes on; a start that is refused leaves
RUN at 0 (R55, R306, R313, R438). Log entry 55: DEDUCED. -/
def State.portsBegin (s : State) : State :=
  s.each ((List.range 4).filter (fun p => s.on (F.AU_CTRL_RUN p) && !s.portRuns p)) (fun p t =>
    if t.startBad p then t.portRefuse p else t.portShow p)

/-! Frames (R308, R309, R316). -/

/-- The sync edge of a port's next frame: the guard line moves on, the converter runs ahead, and a muted port's frames are dropped; where the
output stage needs a frame and has none, an underrun (R309, R312, R316). -/
def State.frameSync (s : State) (p : Nat) : State :=
  let x := s.port p
  let s := s.putPort p { x with frames := x.frames + 1, edge := s.nowNs, sent := x.guard.find? (·.number == x.frames) }
  let st := s.outState p
  let s := if st = osMuted then s.portEmpty p else s.portPump p
  let x := s.port p
  let s := s.putPort p (x.settle (fun slot => (s.slotSource p slot).isSome))
  s.when ((st == osPlaying || st == osRamping || st == osFading) && !x.dry && x.fifo.isEmpty && Nat.blt x.guard.length portSteps) (·.portUnderrun p)

/-- Whether a sync edge falls in the tick that ends: a master's stand at its rate; a slave's come from outside, and are a free value (R308, R313).
Log entry 90: DESIGN CHOICE. -/
def State.syncDue (s : State) (p : Nat) : Bool :=
  let x := s.port p
  s.portRuns p && s.domOn 7 && (if s.on (F.AU_CTRL_MASTER p) then Nat.blt x.frames ((s.clock - x.began) * fsHz x.fs / 1000000000)
    else Config.frameSync p s.clock)

/-- The audio ports at a tick. -/
def State.audioTick (s : State) : State := s.each (List.range 4) (fun p t => t.when (t.syncDue p) (·.frameSync p))

end Sys2Proof.Machine
end

