-- ==== Sys2Proof/Machine/Frames.lean ====
section
/-! DEFINITION. What an audio port sends (R174, R304, R305, R308, R311, R312): the frame sync, the slots of a frame and their content, bit by
bit. -/

namespace Sys2Proof.Machine

/-! Clock edges and frame sync (R304). -/

/-- Whether the port drives its outputs on the rising edge of the bit clock: the falling one, or with BCLK_INV the rising one; a slave
samples the frame sync on the other edge (R304). -/
def State.drivesRising (s : State) (p : Nat) : Bool := s.on (F.AU_CTRL_BCLK_INV p)

/-- Bit clocks for which the frame sync is active: one, or half a frame rounded down (R304). -/
def State.syncLen (s : State) (p : Nat) : Nat := if s.on (F.AU_CTRL_FS_WIDTH p) then s.frameBits p / 2 else 1

/-- The level of the frame sync in bit clock `c` of a frame: its active edge rises, or with FS_POL falls (R304). -/
def State.syncLevel (s : State) (p c : Nat) : Bool := Nat.blt c (s.syncLen p) != s.on (F.AU_CTRL_FS_POL p)

/-- The slot width of a port. -/
def State.slotWidth (s : State) (p : Nat) : Nat := [16, 20, 24, 32].getD (s.get (F.AU_CFG_WIDTH p)) 32

/-- The frame, slot and bit (the most significant is 0) that bit clock `c` of frame `k` carries: slot s begins at bit clock O + s × W, and what
passes the end of a frame falls into the first O bit clocks of the next (R304). -/
def State.slotAt (s : State) (p k c : Nat) : Nat × Nat × Nat :=
  let o := s.get (F.AU_CFG_OFFSET p)
  let b := s.frameBits p
  let w := s.slotWidth p
  let q := if o ≤ c then c - o else (c + b - o % b) % b
  (if o ≤ c then k else k - 1, q / w, q % w)

/-! Content (R174, R305, R308, R311, R312). -/

/-- A 24-bit sample in a slot of `w` bits: rounded half up and saturating, unchanged, or followed by zeros (R305). -/
def slotWord (w : Nat) (x : Int) : Nat :=
  if w < 24 then toBits w (clampTo w ((x + 2 ^ (23 - w)) / 2 ^ (24 - w))) else toBits w (x * 2 ^ (w - 24))

/-- The gain of a slot in frame `k`, in units of 2⁻²⁴: that of the port's output state, under the slot's own fade or ramp (R311, R312). -/
def State.slotGain (s : State) (p slot k : Nat) : Int :=
  let x := s.port p
  let st := s.outState p
  let step := if st = osRamping then min portSteps (x.moveFrom + (k - x.moveAt)) else if st = osFading then x.moveFrom - (k - x.moveAt)
    else if st = osPlaying then portSteps else 0
  fadeStep (min step (x.slotStep slot k)) portSteps

/-- Frame `k` as the guard line holds it, the one before it while its last bits are sent (R304, R309). -/
def State.pinFrame (s : State) (p k : Nat) : Option AFrame :=
  ((s.port p).sent.toList ++ (s.port p).guard).find? (·.number == k)

/-- The sample of a slot in frame `k`: that of the guard line under its gain, zeros where it holds no such frame; a slot without a route, whose
fade is over, has none (R308, R309, R311, R312). -/
def State.slotSample (s : State) (p slot k : Nat) : Option Int :=
  let x := s.port p
  if (s.slotSource p slot).isNone && !(x.moves.any (·.slot == slot) && Nat.blt 0 (x.slotStep slot k)) then none
  else match s.pinFrame p k with
    | some f => some (mixOf (s.slotGain p slot k) 0 (f.words.getD slot 0))
    | none => some 0

/-- What `AUn_SDATA` carries in bit clock `c` of frame `k`, or none where it is high-impedance: a port that does not run, and with IDLE_HIZ a slot
that no berth routes (R305, R312, Table 14.2). A master's port that does not run sends nothing either, for it has no clock. -/
def State.lineBit (s : State) (p k c : Nat) : Option Bool :=
  if !s.portRuns p then none
  else
    let at_ := s.slotAt p k c
    let w := s.slotWidth p
    match s.slotSample p at_.2.1 at_.1 with
    | some x => some (bit (slotWord w x) (w - 1 - at_.2.2))
    | none => if s.on (F.AU_CTRL_IDLE_HIZ p) then none else some false

end Sys2Proof.Machine
end

