-- ==== Sys2Proof/Machine/Intakes.lean ====
section
/-! DEFINITION. Intakes, calibrator and antenna feeds (05_intakes.md): gain states and AGC, block health, the REGULATE sweep, background
calibration, and the feed supervisor. -/

namespace Sys2Proof.Machine

/-! Gain states and AGC (R91 to R95). -/

/-- The ladder's state for a net gain: the highest LNA gain that reaches it. -/
def ladder (net : Int) : Nat :=
  if -6 ≤ net then 32 + ((24 - net) / 2).toNat
  else if -18 ≤ net then 16 + ((12 - net) / 2).toNat
  else ((0 - net) / 2).toNat

/-- The AGC ceiling of an intake (R95): the top of the ladder, or, while the pilot link is enabled, the highest net gain whose P_FS lies at
P_TX − ISOLATION + 6 dB or above. -/
def State.ceiling (s : State) (k : Nat) : Int :=
  if s.on F.PLT_CTRL_RUN then
    let q : Int := 4 * (s.get (F.INT_PILOT_CFG_ISOLATION k) : Int) - (s.get F.PLT_TX_CFG_POWER : Int) - 24
    max (-30) (min 24 (2 * (q / 8)))
  else 24

/-- Net gain in force. -/
def State.net (s : State) (k : Nat) : Int := netOf (s.get (F.INT_GAIN_STATE k))

/-- AGC modes (Table 5.5): 0 AUTO, 1 HOLD, 2 MANUAL. -/
def State.agcMode (s : State) (k : Nat) : Nat := s.get (F.INT_CFG_AGC_MODE k)

/-- The gain state becomes `new`: a change is shown (R91). -/
def State.setGain (s : State) (k new : Nat) : State :=
  if new = s.get (F.INT_GAIN_STATE k) then s
  else
    let s := ((s.put (F.INT_GAIN_STATE k) new).put (F.INT_GAIN_NET_GAIN k) (toBits 8 (netOf new))).up (F.INT_STATUS_GAIN_EV k)
    s.putIntake k { s.intake k with gainAt := s.clock }

/-- A block begins: a change of gain state reaches the ADC, MANUAL's own unless a hold is open (R91, R92, R93, R95). Log entry 63: DEDUCED.
Log entry 120: DESIGN CHOICE. -/
def State.gainBlock (s : State) (k : Nat) : State :=
  let x := s.intake k
  let manual := s.agcMode k == 2
  let top := s.ceiling k
  let ask := if manual then
      (let m := s.get (F.INT_CFG_MAN_GAIN k); if top < netOf m then ladder top else m)
    else if s.agcMode k == 1 then s.get (F.INT_GAIN_STATE k)
    else x.next.getD (s.get (F.INT_GAIN_STATE k))
  let new := if s.on (F.INT_STATUS_AGC_HELD k) then s.get (F.INT_GAIN_STATE k) else ask
  let s := s.putIntake k { x with next := none }
  let s := s.setGain k new
  s.put (F.INT_STATUS_CEILING k) (b2n (s.on F.PLT_CTRL_RUN && s.agcMode k != 1 && decide (top ≤ s.net k)))

/-- An attack (R92): 6 dB less at the next block, not below the floor. -/
def State.attack (s : State) (k : Nat) : State :=
  if s.agcMode k = 0 && !s.on (F.INT_STATUS_AGC_HELD k) then
    s.putIntake k { s.intake k with next := some (ladder (max (-30) (s.net k - 6))), raiseAt := s.clock, low := 0 }
  else s

/-- A 10 ms window ends: the levels, NO_SIGNAL's end, and the AGC's reduction or raise; a window that overlaps a hold is discarded (R92, R93,
R112). A change that waits for the next block, an attack's among them, is not replaced. Log entry 63: DEDUCED. Log entry 120: DESIGN CHOICE. -/
def State.agcWindow (s : State) (k : Nat) (level : Int) : State :=
  if !(inR 1 2 k && s.on (F.INT_STATUS_RUNNING k)) then s
  else if s.on (F.INT_STATUS_AGC_HELD k) then s.putIntake k { s.intake k with low := 0 }
  else
    let s := s.put (F.INT_LEVEL_ADC_LEVEL k) (toBits 16 (clamp16 level))
    let s := s.put (F.INT_INPUT_LEVEL_INPUT k) (toBits 16 (clamp16 (level - 1000 - 100 * s.net k)))
    let s := s.when (decide (-6000 < level)) (·.down (F.INT_STATUS_NO_SIGNAL k))
    if s.agcMode k != 0 || (s.intake k).next.isSome then s
    else
      let x := s.intake k
      let t : Int := -900 - 100 * (s.get (F.INT_CFG_AGC_TARGET k) : Int)
      if t + 300 < level then
        s.putIntake k { x with low := 0, next := some (ladder (max (-30) (s.net k - 2))) }
      else if level < t - 300 then
        let low := min 3 (x.low + 1)
        if low = 3 && (x.raiseAt = 0 || Nat.ble (x.raiseAt + 30000000) s.clock) && decide (s.net k + 2 ≤ s.ceiling k) then
          s.putIntake k { x with low := 0, next := some (ladder (s.net k + 2)), raiseAt := s.clock }
        else s.putIntake k { x with low := low }
      else s.putIntake k { x with low := 0 }

/-- The level has stayed below −60 dBFS for 1 s at the ceiling (R112). -/
def State.noSignal (s : State) (k : Nat) : State :=
  if inR 1 2 k && s.on (F.INT_STATUS_RUNNING k) && decide (s.ceiling k ≤ s.net k) &&
      decide (sext 16 (s.get (F.INT_LEVEL_ADC_LEVEL k)) < -6000) then
    (s.up (F.INT_STATUS_NO_SIGNAL k)).up (F.INT_STATUS_NO_SIGNAL_EV k)
  else s

/-! Health (R20, R110, R111). -/

/-- Blocks of an intake become invalid: lanes on it alone emit samples flagged SETTLING until it is valid again (R110). Log entry 67: DEDUCED. -/
def State.intakeInvalid (s : State) (k : Nat) : State :=
  let s := (s.putIntake k { s.intake k with missing := 12 }).showValidAll
  (s.each ((s.lanesOn k).filter (fun n => !s.on (F.LN_CTRL_DIVERSITY n))) (fun n t => t.up (F.LN_STATUS_SETTLING n)))

/-- A failing health check (R110, R111): the block is invalid, the event is journaled and the intake tests itself. -/
def State.intakeFault (s : State) (k check : Nat) (a : EArgs := {}) : State :=
  if s.isRetired .intake k then s
  else
    let s := ((s.up (F.INT_STATUS_FAULT_EV k)).put (F.INT_HEALTH_LAST_CHECK k) check).bump (F.INT_HEALTH_FAULT_COUNT k)
    let s := s.error (0x0200 + check) .intake k .detected a
    (s.startTest .intake k (0x0200 + check) a.injected).intakeInvalid k

/-- A valid block: the twelfth after an invalid one makes the intake valid again. Lanes on it alone stop flagging their output, but for those
still inside their own N_settle samples, which LANE_SETTLED ends (R110, R136). -/
def State.intakeValid (s : State) (k : Nat) : State :=
  let x := s.intake k
  if x.missing = 0 || (s.unit .intake k).testing || s.isRetired .intake k then s
  else
    let s := s.putIntake k { x with missing := x.missing - 1 }
    if x.missing = 1 then
      let s := s.showValidAll
      (s.each ((s.lanesOn k).filter (fun n => !s.on (F.LN_CTRL_DIVERSITY n) && s.startSettled n)) (fun n t =>
        t.down (F.LN_STATUS_SETTLING n)))
    else s

/-- Tickets of a class that wait: those in its ready queue and those parked at their holds. -/
def State.waitingOf (s : State) (c : Nat) : Nat :=
  (s.queue c).length + ((List.range 96).filter (fun n => (s.berth n).parked && s.get (F.BTH_TICKET_CLASS n) == c)).length

/-- The crane class whose hold stands highest: the one with most tickets waiting. Log entry 21: DESIGN CHOICE. -/
def State.fullestClass (s : State) : Option Nat :=
  let most := ((List.range 5).map s.waitingOf).foldl max 0
  if most = 0 then none else (List.range 5).find? (fun c => s.waitingOf c == most)

/-- A bank of the intake-to-channeliser FIFO overruns: zeros take the block's place (`State.pushBlock`), and a crane of the class at high
water is tested, at its next beat end while it serves (R20; log entry 21). Log entry 21: DESIGN CHOICE. -/
def State.chanOverrun (s : State) (k : Nat) (a : EArgs := {}) : State :=
  let s := ((s.up (F.INT_STATUS_CHAN_OVERRUN k)).bump (F.INT_CHAN_DROP_COUNT_COUNT k)).up (F.HLD_STATUS_OVERRUN_EV.ofHold (109 + k))
  let s := s.error 0x0207 .intake k .detected a
  match s.fullestClass.bind (fun c => (s.withRole c roleWorking).head?) with
  | some c => if s.on (F.CRN_STATUS_BUSY c) then s.setHandover (s.handover ++ [c]) else s.handTicket c
  | none => s

/-- The 14-bit full codes. -/
def fullCode (x : Int) : Bool := x == 8191 || x == -8192

/-- The least code at or above −1 dBFS, 8,192 × 10^(−1 ÷ 20) rounded up: the threshold of an attack (R92). -/
def nearCode : Nat := 7302

/-- The health check that a block fails, 0 none: a parity error, all samples equal, all at full code, a missing clock edge, a supply out of
range. Of several, the first in that order is shown (R110). Log entry 120: DESIGN CHOICE. -/
def blockCheck (xs : List Int) (fault : Nat) : Nat :=
  if fault = 1 then 1
  else if xs.all (fun x => x == xs.headD 0) then 2
  else if xs.all fullCode then 3
  else fault

/-- A block of 256 samples completes: gain state, clipping, attack and health; it enters the FIFO, and the channeliser takes `pops` blocks, the
first at the same edge (R20, R91, R92, R93, R110). Log entry 120: DESIGN CHOICE. -/
def State.adcBlock (s : State) (k : Nat) (xs : List Int) (fault pops : Nat) : State :=
  if !(inR 1 2 k && s.on (F.INT_STATUS_RUNNING k)) then s
  else
    let old := s.get (F.INT_GAIN_STATE k)
    let s := s.gainBlock k
    let state := s.get (F.INT_GAIN_STATE k)
    let s := s.when (xs.any fullCode) (fun s =>
      let s := (s.bump (F.INT_CLIP_COUNT_COUNT k)).up (F.INT_STATUS_CLIP_EV k)
      let s := s.inWindow winIntake (1000 * s.nowNs) (fun w => (w.mark (2 ^ pbClip)).add 0x32 k 1)
      s.each (s.lanesOn k) (fun n t => t.inWindow n (1000 * s.nowNs - s.get (F.LN_GD_APPLIED_D_TOTAL n)) (·.mark (2 ^ pbClip))))
    let loss := s.losses k
    let late := if s.on F.MSR_CFG_PLANE then s.get (F.INT_EXT_DELAY_DELAY k) else 0
    let wide : Int := -10000 - 1000 * netOf state + if loss = [] then 0 else Config.widebandLoss loss
    let s := s.inWindow winIntake (1000 * s.nowNs) (fun w =>
      (w.levelSum k wide 0 256 ((xs.map (fun x => x * x)).sum.toNat)).give 0x31 k (netOf state))
    let s := s.when (Nat.ble 8 (xs.filter (fun x => Nat.ble nearCode x.natAbs)).length) (·.attack k)
    let check := blockCheck xs fault
    let s := if inR 1 5 check then s.intakeFault k check else s.intakeValid k
    let blk : AdcBlk := ⟨xs, s.nowNs, state, state != old, s.intakeOk k, s.pilotWindow, false,
      !s.intakeOk k && (s.unit .intake k).injected, s.correction, loss, late⟩
    let faked := s.injStall.contains k
    let s := match s.pushBlock k blk (Nat.blt 0 pops) faked with
      | (s, true) => s
      | (s, false) => (s.setInjStall (s.injStall.filter (· != k))).chanOverrun k { injected := faked }
    s.each (List.range (pops - 1)) (fun _ t => t.popBlock k)

/-- The 2 ms tone test of an intake ends (R111, R398). -/
def State.intakeTested (s : State) (k : Nat) (pass : Bool) : State :=
  match s.classify .intake k pass with
  | (s, .none) => s
  | (s, _) => (s.showValidAll)

/-! The reference and the REGULATE sweep (R97 to R100). -/

/-- The 100 ms comparison of `VREF_CAL` (R97). Log entry 62: DEDUCED. -/
def State.vrefCheck (s : State) (v : Nat) : State :=
  let s := s.put F.CAL_VREF_VOLTAGE (min 65535 v)
  if inR 12375 12625 v then (s.up F.CAL_STATUS_VREF_OK)
  else
    let s := (s.down F.CAL_STATUS_VREF_OK).up F.CAL_STATUS_VREF_FAULT_EV
    (s.error 0x020B .supervisor 0 .detected)

/-- Captures of an intake's sweep: 4 combs and 48 gain states (R99). -/
def sweepLength : Nat := 52

/-- The intake whose capture runs: the first one on whose sweep is not done. -/
def State.sweeping (s : State) : Option Nat :=
  [1, 2].find? (fun k => !(s.intake k).skipped && Nat.blt (s.intake k).captures sweepLength)

/-- The gain state of a capture: the reference state 0x2C for the combs, then states 0 to 47 (R99). -/
def captureState (c : Nat) : Nat := if Nat.blt c 4 || Nat.ble sweepLength c then 0x2C else c - 4

/-- Couples the calibrator to the intake whose capture runs: its AGC holds, and it takes the capture's gain state; an intake whose sweep is
over stands at the reference state (R93, R99). Log entry 120: DESIGN CHOICE. -/
def State.sweepShow (s : State) : State :=
  let s := ((s.setVisiting s.sweeping.toList).agcShow 1).agcShow 2
  s.each ([1, 2].filter (fun k => !(s.intake k).skipped)) (fun k t => t.setGain k (captureState (t.intake k).captures))

/-- The sweep begins: intakes that are on take part, retired ones are tried again, drift counts from here; the OTP vectors' CRC holds or
not (R34, R98, R99, R102, R111; the result is a free value). Log entry 64: DEDUCED. -/
def State.sweepBegin (s : State) : State :=
  let d := s.draw
  let ok := d.1 % 2 == 1
  let s := ((d.2.put F.CAL_STATUS_OTP_OK (b2n ok)).setRepeats 0).setCaptured []
  let s := s.when (!ok) (·.error 0x020C .supervisor 0 .detected)
  let s := s.each [1, 2] (fun k t =>
    let skip := !t.domOn (1 + k)
    let t := t.putIntake k { Intake.reset with skipped := skip }
    let t := t.when (t.isRetired .intake k) (fun t =>
      (t.putUnit .intake k { t.unit .intake k with retired := false }).showRetired .intake k false)
    if skip then t else (t.put (F.INT_DRIFT_GAIN k) 0).put (F.INT_DRIFT_PHASE k) 0)
  ((s.down F.CAL_STATUS_DRIFT_LARGE1).down F.CAL_STATUS_DRIFT_LARGE2).sweepShow

/-- A capture of this REGULATE. -/
def State.sweepCapture (s : State) (k c : Nat) : List (Nat × Nat) := Tbl.get (fun _ => []) s.captured (64 * (k - 1) + c)

/-- A capture ends and is checked: recorded, repeated once, or the intake is faulty and its sweep over (R99, R100). Log entry 64: DEDUCED. -/
def State.captureDone (s : State) (k : Nat) (pass : Bool) (meas : List (Nat × Nat)) : State :=
  if !(s.mode == .regulate && s.sweeping == some k) then s
  else
    let x := s.intake k
    if pass then
      let s := s.setCaptured (Tbl.set (fun _ => []) s.captured (64 * (k - 1) + x.captures) meas)
      (s.putIntake k { x with captures := x.captures + 1, again := false }).sweepShow
    else if x.again || Nat.ble 16 s.repeats then
      ((s.putIntake k { x with captures := sweepLength, again := false }).intakeFault k 6).sweepShow
    else (s.putIntake k { x with again := true }).setRepeats (s.repeats + 1)

/-- The mean of the four comb captures in a bin, rounded down (R99). Log entry 120: DESIGN CHOICE. -/
def State.combMean (s : State) (k b : Nat) : Nat × Nat :=
  let e (c : Nat) : Nat × Nat := (s.sweepCapture k c).getD b (0, 0)
  let mean (f : Nat × Nat → Nat) : Nat := toBits 16 (((List.range 4).map (fun c => sext 16 (f (e c)))).sum / 4)
  (mean (·.1), mean (·.2))

/-- A group's gain and phase at a state, relative to the reference state (R99). -/
def State.stateRel (s : State) (k st g : Nat) : Nat × Nat :=
  let e := (s.sweepCapture k (4 + st)).getD g (0, 0)
  let r := (s.sweepCapture k (4 + 0x2C)).getD g (0, 0)
  ((e.1 + 65536 - r.1 % 65536) % 65536, (e.2 + 65536 - r.2 % 65536) % 65536)

/-- The tables of an intake are built: 256 bins, and 48 states by 16 groups (R99). -/
def State.buildTables (s : State) (k : Nat) : State :=
  let t := s.each (List.range 256) (fun b t => t.putCal (1024 * (k - 1) + b) (s.combMean k b))
  t.each (List.range 768) (fun i t => t.putCal (1024 * (k - 1) + 256 + i) (s.stateRel k (i / 16) (i % 16)))

/-- REGULATE builds the tables of every intake whose captures are all there (R99, R100). -/
def State.tablesBuilt (s : State) : State :=
  (s.each ([1, 2].filter (fun k => (List.range sweepLength).all (fun c => !(s.sweepCapture k c).isEmpty))) (fun k t => t.buildTables k)).setCaptured []

/-! Background calibration (R101, R102). -/

/-- CAL_LAST_BIN of an intake. -/
def calLastBin (k : Nat) : Fld := if k = 1 then F.CAL_LAST_BIN_INTAKE1 else F.CAL_LAST_BIN_INTAKE2

/-- CAL_SKIPS of an intake. -/
def calSkips (k : Nat) : Fld := if k = 1 then F.CAL_SKIPS_INTAKE1 else F.CAL_SKIPS_INTAKE2

/-- STALE of an intake. -/
def calStale (k : Nat) : Fld := if k = 1 then F.CAL_STATUS_STALE1 else F.CAL_STATUS_STALE2

/-- DRIFT_LARGE of an intake. -/
def calDriftLarge (k : Nat) : Fld := if k = 1 then F.CAL_STATUS_DRIFT_LARGE1 else F.CAL_STATUS_DRIFT_LARGE2

/-- A visit falls due and takes place where nothing blocks it: the next free bin after the one last used, of those that `quiet` names. A
lane's self-test goes first (R101, R142). -/
def State.visitDue (s : State) (k : Nat) (quiet : List Nat) : State :=
  let x := s.intake k
  let s := s.setQuiet (Tbl.set (fun _ => []) s.quiet k quiet)
  let wait := s.pilotWindow || (x.gainAt != 0 && Nat.blt s.clock (x.gainAt + 10000000)) || !s.visiting.isEmpty ||
    (List.range 104).any (fun l => s.lane l == .testing)
  if wait || !(inR 1 2 k && s.serving && s.on (F.INT_STATUS_RUNNING k)) then s
  else
    match s.nextFree k (s.get (calLastBin k)) with
    | none => s
    | some b => (((s.putIntake k { x with bin := b }).put (calLastBin k) b).setVisiting [k]).agcShow k

/-- Moves a drift term towards a measurement by at most 5 steps (R102). -/
def drift (old meas : Int) : Int := old + max (-5) (min 5 (meas - old))

/-- A visit ends and updates the drift term (R102). Log entry 62: DEDUCED. -/
def State.visitDone (s : State) (k : Nat) (gain phase : Int) : State :=
  if !(s.visiting.contains k && s.mode != .regulate) then s
  else
    let g := drift (sext 16 (s.get (F.INT_DRIFT_GAIN k))) gain
    let p := drift (sext 16 (s.get (F.INT_DRIFT_PHASE k))) phase
    let s := ((s.setVisiting (s.visiting.filter (· != k))).put (F.INT_DRIFT_GAIN k) (toBits 16 g)).put (F.INT_DRIFT_PHASE k) (toBits 16 p)
    let s := s.when (decide (500 < g.natAbs) || decide (500 < p.natAbs)) (·.up (calDriftLarge k))
    (((s.put (calSkips k) 0).down (calStale k)).agcShow k)

/-- A visit could not take place within 1 s (R101, R102). -/
def State.visitSkip (s : State) (k : Nat) : State :=
  if inR 1 2 k && s.serving && s.domOn (1 + k) && !s.visiting.contains k then
    let s := s.bump (calSkips k)
    (s.when (Nat.ble 6 (s.get (calSkips k))) (·.up (calStale k)))
  else s

/-! Antenna feeds (R103 to R108). -/

/-- A feed of an intake. -/
def isFeed (k : Nat) : Bool := inR 1 2 k

/-- Whether the mode lets feeds be on: not during WIND, nor in ANCHOR (R103). -/
def State.feedsUp (s : State) : Bool := s.mode != .wind && s.mode != .anchor

/-- A feed starts softly (R104). -/
def State.feedStart (s : State) (k : Nat) : State :=
  if s.feedsUp then (s.up (F.FEED_STATUS_ON k)).up (F.FEED_STATUS_SOFT k) else s

/-- A feed is switched off. -/
def State.feedOff (s : State) (k : Nat) : State := (s.down (F.FEED_STATUS_ON k)).down (F.FEED_STATUS_SOFT k)

/-- ENABLE of a feed was written: a change switches it; during the cool-off it cannot switch on (R104, R107). Log entry 65: DEDUCED. -/
def State.feedEnabled (s : State) (k old new : Nat) : State :=
  if new = 0 then s.feedOff k
  else if s.on (F.FEED_STATUS_COOLING k) then s.up (F.FEED_STATUS_REFUSED_EV k)
  else if old = 0 then (s.down (F.FEED_STATUS_LATCHED k)).feedStart k
  else s

/-- A write of `FEED_CFG` (R104). Log entry 65: DEDUCED. -/
def State.feedWrite (s : State) (src k w : Nat) : State :=
  if !isFeed k then s
  else match s.write src (0x260 + 0x10 * (k - 1)) w with
    | (s, some (old, new)) => s.feedEnabled k (bits old 15 1) (bits new 15 1)
    | (s, none) => s

/-- The feeds that ENABLE asks start as WIND ends (R103). -/
def State.feedsBegin (s : State) : State :=
  s.each [1, 2] (fun k t => t.when (t.on (F.FEED_CFG_ENABLE k) && !t.on (F.FEED_STATUS_ON k) && !t.on (F.FEED_STATUS_COOLING k) &&
    !t.on (F.FEED_STATUS_LATCHED k)) (·.feedStart k))

/-- Trips of a feed in the last 10 minutes (R107). -/
def State.trips (s : State) (k : Nat) : Nat := Tbl.get (fun _ => 0) s.feedTrips k

/-- Writes them, and shows them, 3 at most (Table 5.9). -/
def State.putTrips (s : State) (k v : Nat) : State := (s.setFeedTrips (Tbl.set (fun _ => 0) s.feedTrips k v)).put (F.FEED_STATUS_TRIPS k) (min 3 v)

/-- The accumulator B of a feed (R106). -/
def State.heat (s : State) (k : Nat) : Nat := Tbl.get (fun _ => 0) s.feedHeat k

/-- Writes it. -/
def State.putHeat (s : State) (k v : Nat) : State := s.setFeedHeat (Tbl.set (fun _ => 0) s.feedHeat k v)

/-- The sensed current, mean over 1 ms, shows (Table 5.9). -/
def State.feedSense (s : State) (k ma : Nat) : State := s.put (F.FEED_CURRENT_CURRENT k) (min 65535 ma)

/-- A trip cuts the feed for its cool-off; the third within 10 minutes latches it off (R105 to R107). -/
def State.feedTrip (s : State) (k detector : Nat) (ev : Fld) (a : EArgs := {}) : State :=
  if !(isFeed k && s.on (F.FEED_STATUS_ON k)) then s
  else
    let s := ((s.up ev).error detector .feed k .detected a).feedOff k
    let s := (s.putTrips k (s.trips k + 1)).up (F.FEED_STATUS_COOLING k)
    let s := s.when (Nat.ble 3 (s.trips k)) (·.up (F.FEED_STATUS_LATCHED k))
    s.when (!s.on (F.FEED_CFG_AUTO_RETRY k)) (fun s =>
      s.supDo [0x260 + 0x10 * (k - 1)] (·.put (F.FEED_CFG_ENABLE k) 0))

/-- The sensed current has stood at `ma` for `us` microseconds: each of them adds I² − I_CONT² to B, which never falls below 0; where B
exceeds the budget the feed is cut and B returns to 0 (R106). -/
def State.feedI2t (s : State) (k ma us : Nat) (a : EArgs := {}) : State :=
  let ic := s.get (F.FEED_TRIP_I_CONT k)
  let b := ((s.heat k : Int) + ((ma * ma : Nat) - (ic * ic : Nat) : Int) * us).toNat
  let s := s.feedSense k ma
  if Nat.blt (100000000 * s.get (F.FEED_I2T_BUDGET k)) b then
    (s.putHeat k 0).feedTrip k 0x0209 (F.FEED_STATUS_I2T_EV k) a
  else s.putHeat k b

/-- The cool-off ends: the feed restarts where it may (R107). -/
def State.feedCooled (s : State) (k : Nat) : State :=
  if !(isFeed k && s.on (F.FEED_STATUS_COOLING k)) then s
  else
    let s := s.down (F.FEED_STATUS_COOLING k)
    s.when (s.on (F.FEED_CFG_ENABLE k) && s.on (F.FEED_CFG_AUTO_RETRY k) && !s.on (F.FEED_STATUS_LATCHED k)) (·.feedStart k)

/-- A switch that does not cut is reported (R108). -/
def State.feedStuckSeen (s : State) (k : Nat) (a : EArgs := {}) : State :=
  ((s.up (F.FEED_STATUS_STUCK_EV k)).error 0x020A .feed k .detected a).attn 3

/-- Current above the larger of 10 mA and I_CONT ÷ 10 still flows 1 ms after the feed was cut (R108). -/
def State.feedStuck (s : State) (k ma : Nat) : State :=
  let s := s.feedSense k ma
  s.when (isFeed k && !s.on (F.FEED_STATUS_ON k) && Nat.blt (max 100 (s.get (F.FEED_TRIP_I_CONT k))) (10 * ma)) (·.feedStuckSeen k)

end Sys2Proof.Machine
end

