-- ==== Sys2Proof/Machine/Services.lean ====
section
/-! DEFINITION. What starts, stops and resets a berth across its services: the decoder's sync and states, its ticket, its record window
and its fade (R38, R40, R135, R147, R148, R163, R191, R220). -/

namespace Sys2Proof.Machine

/-- A berth's decoder stands as after a start: its alarm states end, its sync falls, and what it held is forgotten; a DVB stream cut off
so owes GAP (R178, R196, R207, R224, R233, R370). -/
def State.berthDrop (s : State) (n : Nat) : State :=
  let std := s.std n
  let gaps := s.owedGaps n
  let s :=
    if std = 1 then s.down (F.AM_SVC7_CARRIER_LOCK n)
    else if std = 2 then ((((s.fmAlarmEnd n).testState n false).rdsSync n false).down (F.FM_SVC7_STEREO n)).down (F.FM_SVC7_PI_MATCH n)
    else if std = 3 then ((((s.put (F.DRM_SVC5_SYNC n) syncSearch).put (F.DRM_SVC5_RMODE_FOUND n) 0).put (F.DRM_SVC5_SO_FOUND n) 0).down
      (F.DRM_SVC5_SID_MATCH n)).down (F.DRM_SVC5_RECONFIG_PENDING n)
    else if std = 4 then ((((((s.dabVoid n).dabAlarmEnd n).put (F.DAB_SVC5_SYNC n) syncSearch).put (F.DAB_SVC5_TMODE_FOUND n) 0).down
      (F.DAB_SVC5_EID_MATCH n)).down (F.DAB_SVC5_AL_FLAG n)).down (F.DAB_SVC5_RECONFIG_PENDING n)
    else if std = 5 then (s.put (F.DVBT_SVC7_SYNC n) syncSearch).down (F.DVBT_SVC7_STREAM_ACTIVE n)
    else if std = 6 then ((s.ewsEnd n).put (F.T2_SVC7_SYNC n) syncSearch).put (F.T2_SVC7_PLP_ACTIVE n) 0
    else if std = 7 then s.rxState n 0
    else s
  let s := ((s.decoderReset n).putRx n Rx.reset).down (F.BTH_STATUS_OVER_DECL n)
  let s := ((s.setAud (Tbl.erase n s.aud)).setPcm (Tbl.erase n s.pcm)).setScopeAt (Tbl.erase n s.scopeAt)
  let s := s.putDvb n { s.dvbOf n with gaps := gaps }
  s.putFoll n { s.foll n with lostAt := s.clock }

/-- A berth's ticket leaves its queue or its crane. -/
def State.dropTicket (s : State) (n : Nat) : State :=
  if !s.on (F.BTH_TICKET_IN_FLIGHT n) then s
  else
    let c := s.get (F.BTH_TICKET_CRANE n)
    let cls := s.get (F.BTH_TICKET_CLASS n)
    let s := (s.putQueue cls ((s.queue cls).filter (· != n))).ticketDone n
    s.when (Nat.blt c 33 && s.get (F.CRN_STATUS_BERTH c) == n) (·.craneChoose c)

/-- A berth told to stop, shed, or stopped for SURVEY has completed its frame: its record and its services end, its armed changes apply,
and its loads are released unless SURVEY stopped it (R38, R40, R59, R147, R163, R258). Log entry 71: DEDUCED. -/
def State.berthStopped (s : State) (n : Nat) : State :=
  let told := s.armedFor (F.BTH_CTRL_RUN n) 0 || s.bstate n == bsStopping
  if !(Nat.blt n 96 && told && !s.on (F.BTH_CTRL_STOPPED n)) then s
  else
    let b := s.berth n
    let s := s.scopePump n true
    let s := ((((s.recordStop n).berthDrop n).dropTicket n).applyArmed (berthCommit n)).up (F.BTH_CTRL_STOPPED n)
    let keep := b.survey && s.on (F.BTH_CTRL_RUN n)
    let s := s.putBerth n { s.berth n with parked := false, promoted := false, replay := false, finished := false, shedding := false, survey := keep, told := false }
    let s := s.when (!keep) (·.freeArea n)
    if b.shedding then
      let s := ((s.put (F.BTH_STATUS_STATE n) bsShed).up (F.BTH_EVENTS_SHED_EV n)).up F.ENG_STATUS_SHED_EV
      s.error 0x0D01 .berth n .detected
    else
      let s := s.put (F.BTH_STATUS_STATE n) bsStopped
      if keep then s else s.freeLoads n

/-- The audio of an AM or FM berth that loses `len` samples of its input: digital silence, block by block (R173, R264). Log entry 129: DEDUCED. -/
def State.audioLost (s : State) (n len : Nat) : State :=
  let std := s.std n
  if !(std == 1 || std == 2) then s
  else
    let a := s.audOf n
    let z := List.replicate 48 (0 : Int)
    let lost := (List.range (len / blockLen std)).filterMap (fun j =>
      let at_ := a.next + j * blockLen std
      (((s.input n 0) ++ (s.input n 1)).find? (fun y => y.index == at_)).map (fun y => (⟨at_, y.time, y.stamp, z, z, true, []⟩ : Pcm)))
    let old := s.audio n
    (s.putAudio n ((old ++ lost).drop (old.length + lost.length - 512))).putAud n { a with next := a.next + len }

/-- A parked berth's oldest frame is discarded: the audio of an AM or FM berth falls silent for it, and a DVB stream owes GAP (R233,
R264). -/
def State.berthOverwrite (s : State) (n len : Nat) : State :=
  if !(s.berth n).parked then s
  else
    let t := s.audioLost n len
    (t.putDvb n { t.dvbOf n with gaps := t.owedGaps n }).inputOverwrite n len

/-- A synchronising reset reaches a berth: its record window and its services start anew, and a fade of which it is a member ends (R135,
R191, R220, R258). A DVB berth keeps its sync (R227). -/
def State.berthSync (s : State) (n : Nat) : State :=
  let s := ((s.fadeAbort n xrAbortEvent).recordReset n).dropTicket n
  (if s.std n = 5 || s.std n = 6 then s else s.berthDrop n).markHere n

/-- The fades of which a berth that is being shed is a member end at the decision (R163, R191, R220). -/
def State.shedFades (s : State) : State :=
  s.each ((s.berths.filter (fun e => e.2.shedding)).map (·.1)) (fun n t =>
    t.when ((t.fadeOf n).isSome || (t.homeOf n).isSome) (·.fadeAbort n xrAbortEvent))

/-- The synchronising reset of the first channeliser block after it was asked: lanes and berths restart (R135). -/
def State.syncReset (s : State) : State :=
  -- both members of a fade reset where either is named (R191, R220)
  let mates := (List.range 96).filter (fun n => bit s.syncMask n && (s.fadeOf n).isSome)
  let s := s.setSyncMask (s.syncMask ||| (mates.foldl (fun m n => m ||| 2 ^ s.partner n) 0) |||
    (((List.range 96).filter (bit s.syncMask)).filterMap s.homeOf).foldl (fun m n => m ||| 2 ^ n) 0)
  let named := (List.range 96).filter (fun n => bit s.syncMask n && s.laneRuns n)
  let s := s.laneSyncReset
  s.each (named.filter (fun n => !s.on (F.BTH_CTRL_STOPPED n))) (fun n t => t.berthSync n)

/-- An admitted berth starts with a fresh decoder; in SURVEY, where no berth runs, it waits for the return to RUN (R40, R147, R155). -/
def State.berthBegin (s : State) (n : Nat) : State :=
  let s := (s.admitLoads n).berthDrop n
  let s := s.markHere n
  if s.mode == .survey then
    ((s.up (F.BTH_CTRL_STOPPED n)).put (F.BTH_STATUS_STATE n) bsStopped).putBerth n { s.berth n with survey := true, told := true }
  else s

/-- SURVEY begins for a berth: it stops at the end of its frame, and a fade ends (R38, R191). Log entry 50: DEDUCED. -/
def State.berthSurvey (s : State) (n : Nat) : State :=
  if s.on (F.BTH_CTRL_STOPPED n) then s
  else
    let s := s.fadeStop n
    -- a berth that was told to stop anyway, or is being shed, stops for good
    let told := s.armedFor (F.BTH_CTRL_RUN n) 0 || (s.berth n).shedding
    (s.putBerth n { s.berth n with survey := !told }).put (F.BTH_STATUS_STATE n) bsStopping

/-- SURVEY ends for a berth that it stopped: it restarts from its registers, with a synchronising reset (R40). Log entry 50: DEDUCED. -/
def State.berthReturn (s : State) (n : Nat) : State :=
  if !(s.berth n).survey then s
  else
    let s := (s.putBerth n { s.berth n with survey := false, told := false }).down (F.BTH_CTRL_STOPPED n)
    let s := s.put (F.BTH_STATUS_STATE n) (if s.on (F.LN_CTRL_STOPPED n) then bsWaitLane else bsRunning)
    s.setSyncMask (s.syncMask ||| 2 ^ n)

/-- The lanes that the image starts are judged on entry to RUN or DRIFT: one whose ratio lies outside the limit is refused, and stays
stopped (R126). Log entry 55: DEDUCED. -/
def State.lanesBegin (s : State) : State :=
  s.each ((List.range 96).filter (fun n => s.on (F.LN_CTRL_RUN n) && s.on (F.LN_CTRL_STOPPED n) && !s.ratioOk n)) (fun n t =>
    let a := 0x410 + 0x40 * n
    let w := t.wordAt a
    (t.refuse srcImage a (w - 0x8000) w resValue).down (F.LN_CTRL_RUN n))

/-- The berths that the image, or an earlier RUN, starts on entry to RUN or DRIFT: each is admitted in ascending order, or refused, and
RUN then reads 0 (R55, R155). Log entry 55: DEDUCED. -/
def State.berthsBegin (s : State) : State :=
  s.each (List.range 96) (fun n t =>
    if !(t.on (F.BTH_CTRL_RUN n) && t.on (F.BTH_CTRL_STOPPED n) && (t.berth n).held.isNone && t.bstate n != bsShed) then t
    else if t.admissible n then t.berthBegin n
    else
      let a := 0x400 + 0x40 * n
      let w := t.wordAt a
      ((t.refuse srcImage a (w - 0x8000) w resValue).down (F.BTH_CTRL_RUN n)).admitRefused n)

end Sys2Proof.Machine
end

