-- ==== Sys2Proof/Machine/Domains.lean ====
section
/-! DEFINITION. The switched power domains: what a domain loses when its power goes, what comes back with it, and the switches that
`DOM_CTRL` commands (R21 to R23, R33, R34, R403, R404, R438, R439). -/

namespace Sys2Proof.Machine

/-- States of `DOM_STATE` (Table 20.6). -/
def dsOff : Nat := 0
/-- See `dsOff`. -/
def dsOn : Nat := 1
/-- See `dsOff`. -/
def dsRetention : Nat := 2
/-- See `dsOff`. -/
def dsSwitching : Nat := 3

/-- The switched domain that a domain needs, beside KEEP (Table 1.4): 1 TIMEBASE, 2 INTAKE1, 3 INTAKE2, 4 LANES, 5 ENGINE, 6 STORE,
7 QUAY. -/
def domNeeds (d : Nat) : Option Nat := if d = 2 || d = 3 || d = 4 || d = 7 then some 1 else if d = 5 then some 6 else none

/-- What an unlisted domain holds. -/
def Dom.reset : Dom := ⟨0, false, false, [], none⟩

/-- A switched domain. -/
def State.dom (s : State) (d : Nat) : Dom := Tbl.get (fun _ => Dom.reset) s.doms d

/-- Writes it. -/
def State.putDom (s : State) (d : Nat) (v : Dom) : State := { s with doms := Tbl.set (fun _ => Dom.reset) s.doms d v }

/-! What a domain loses (R404). -/

/-- Whether R404 returns a field to its reset value: RO, W1C and RC, but not the state of a COMMIT register. -/
def losesField (a : Nat) (f : FDesc) : Bool :=
  !isCommit a && (match f.acc with
    | .ro | .w1c | .rc => true
    | _ => false)

/-- Returns the fields of a register that R404 names to their reset values. -/
def State.loseReg (s : State) (r : RDesc) (base : Nat) : State :=
  s.each (r.fields.filter (losesField base)) (fun f t => t.put ⟨base, f.lo, f.width⟩ f.reset)

/-- Returns the registers of a domain to what R404 leaves: RW fields keep their values. -/
def State.loseRegs (s : State) (d : Nat) : State :=
  let mine := s.regs.filter (fun e => Nat.blt (e.1 / 16) 0x10000 && domainOf (e.1 / 16) == d &&
    (match regAt (s.stdAt (e.1 / 16)) (e.1 / 16) with
     | some (r, base) => base == e.1 / 16 && r.fields.any (fun f => f.lo == e.1 % 16 && losesField base f)
     | none => false))
  let s := s.setRegs (s.regs.filter (fun e => !mine.contains e))
  -- service words have the reset values of their standard's map (R436)
  if d = 6 then
    s.each ((List.range 96).filter (fun n => s.std n != 0)) (fun n t => t.each (List.range 8) (fun o u =>
      match regAt (u.std n) (0x408 + 0x40 * n + o) with
      | some (r, base) => u.loseReg r base
      | none => u))
  else s

/-- The lanes as a reset, or a restart of LANES, leaves them: berth n on lane n, the other lanes spares; a retired lane stays out, and its
berth goes to the lowest spare, with its banks (R139, R399; log entry 20). Log entry 20: DESIGN CHOICE. -/
def State.assignLanes (s : State) : State :=
  let gone := (List.range 96).filter (fun n => s.isRetired .lane n)
  let before := s.lanes
  let was (n : Nat) : Nat := ((before.find? (fun e => e.2 == .carries n)).map (·.1)).getD n
  let s := s.setLanes []
  let s := s.each ((List.range 104).filter (fun l => s.isRetired .lane l)) (fun l t => t.putLane l .retired)
  let s := s.each (List.range 96) (fun n t => (t.down (F.LN_PHYS_TAKEOVER n)).put (F.LN_PHYS_LANE n) n)
  let s := s.each gone (fun n t =>
    match (List.range 104).find? (fun l => t.lane l == .spare) with
    | some l => ((t.copyBanks (was n) l).putLane l (.carries n)).put (F.LN_PHYS_LANE n) l
    | none => t)
  let s := s.each (List.range 104) (fun l t => t.putUnit .lane l { t.unit .lane l with testing := false, runs := 0 })
  ((s.setSounding []).setSyncMask 0).showSpares

/-- TIMEBASE is without power. -/
def State.loseTimebase (s : State) : State := ((s.timebaseOff).loseRegs 1).showMovements

/-- An intake is without power: its captures and injections end, and its branch is invalid (R128, R438). -/
def State.loseIntake (s : State) (k : Nat) : State :=
  let x := s.intake k
  let s := (s.setVisiting (s.visiting.filter (· != k))).putIntake k { Intake.reset with skipped := x.skipped, captures := x.captures }
  let s := s.putUnit .intake k { s.unit .intake k with testing := false, runs := 0 }
  let s := (s.loseRegs (1 + k)).put (F.INT_STATUS_RETIRED k) (b2n (s.isRetired .intake k))
  s.showValidAll

/-- LANES is without power: every lane stands, its berth waits, and fades end (R135, R147, R191, R220). -/
def State.loseLanes (s : State) : State :=
  let s := s.each (List.range 96) (fun n t => if t.laneRuns n then (t.fadeAbort n xrAbortEvent).laneGone n else t)
  -- a lane told to stop stops now
  let s := s.each (List.range 96) (fun n t => if t.armedFor (F.LN_CTRL_RUN n) 0 then t.applyArmed (laneCommit n) else t)
  (((s.loseRegs 4).chainsLose).assignLanes).clearWords [6]

/-- ENGINE is without power: tickets in flight are lost and will replay from their marks (Table 12.6). -/
def State.loseEngine (s : State) : State :=
  let s := s.each (List.range 33) (fun c t => t.putUnit .crane c { t.unit .crane c with testing := false, runs := 0 })
  let s := ((s.setReady []).setHandover []).loseRegs 5
  s.each ((List.range 96).filter (fun n => s.on (F.BTH_TICKET_IN_FLIGHT n))) (fun n t =>
    ((t.put (F.BTH_TICKET_CRANE n) 0x3F).putBerth n { t.berth n with parked := false, promoted := false }).toMark n)

/-- STORE is without power: berth contexts, marks and deinterleavers are lost; every running berth restarts with a synchronising reset,
and what its ticket had not had accepted is discarded (R135, Table 12.6). Run controls and states come back as they were (R404). -/
def State.loseStore (s : State) : State :=
  let up := (List.range 96).filter (fun n => !s.on (F.BTH_CTRL_STOPPED n))
  let state := (List.range 96).map s.bstate
  let s := s.each up (fun n t => (t.berthSync n).berthDrop n)
  let s := ((s.setRx []).setRxHeard []).loseRegs 6
  let s := s.each up (fun n t =>
    let t := (t.down (F.BTH_CTRL_STOPPED n)).putProd n { t.prod n with next := t.expected n }
    ((t.putWaiting n []).markHere n).setSyncMask (t.syncMask ||| 2 ^ n))
  let s := s.each (List.range 96) (fun n t => t.put (F.BTH_STATUS_STATE n) (state.getD n 0))
  (s.each (List.range 96) (fun n t => t.showLoad n)).clearWords [1]

/-- The quays, the landing port, the audio ports and the pilot link leave service: the transmitter and the audio at once, each quay at its
next frame boundary (R41 steps 2 to 4, R295, R438). -/
def State.quayLeave (s : State) : State :=
  let s := (s.pilotStop).portsMute
  let s := s.each (List.range 4) (fun q t => t.quayBoundary q)
  ((s.setLandRx LandRx.reset).down F.LAND_STATUS_ALIGNED).landBoundary

/-- Whether every quay has ended its frame. -/
def State.quaysStill (s : State) : Bool := (List.range 4).all (fun q => (s.quay q).sending.isNone)

/-- QUAY is in retention: its registers are as R404 leaves them, and accepted work stays (R42, R275). Log entry 42: DEDUCED. -/
def State.loseQuay (s : State) : State :=
  let s := (s.setBondNow none).loseRegs 7
  let still (u : UnitType) (i : Nat) (t : State) : State := t.putUnit u i { t.unit u i with testing := false, runs := 0 }
  ((still .bond 0 (still .txDac 0 (s.each [0, 1, 2, 3] (still .converter)))).landShow).engineShow

/-- A request after the failure of QUAY: served again from its start; a streamed one from where its plaintext was accepted, since staging has
freed what came before (R348). Log entry 42: DEDUCED. -/
def BReq.again (r : BReq) : BReq := if r.ended || r.streams then r else { r with progress := 0 }

/-- QUAY fails: frames are cut off, and every consignment that was not released will be sent whole with REPLAY-CHECKED; the audio ports run
dry (R274, R277, R316). -/
def State.failQuay (s : State) : State :=
  let s := s.each ((List.range 4).filter s.portRuns) (fun p t =>
    ((t.up (F.HLD_STATUS_UNDERRUN_EV.ofHold (100 + p))).error 0x0802 .converter p .detected).portStopped p)
  let s := s.pilotHalt
  let s := s.each (List.range 4) (fun q t => t.putQuay q { Quay.reset with busyNs := (t.quay q).busyNs, heldNs := (t.quay q).heldNs })
  let s := s.setCustody (s.custody.map (fun i => { i with replay := true }))
  let s := s.setBondReqs (s.bondReqs.map BReq.again)
  let s := (((s.setLandRx LandRx.reset).setKeyWrap []).setKekData []).setDrbg none
  (s.loseQuay).clearWords [3, 4]

/-- A domain is without power, or, with `keep`, passes to retention. -/
def State.lose (s : State) (d : Nat) (keep : Bool) : State :=
  if d = 1 then s.loseTimebase
  else if d = 2 || d = 3 then s.loseIntake (d - 1)
  else if d = 4 then s.loseLanes
  else if d = 5 then s.loseEngine
  else if d = 6 then (if keep then s else s.loseStore)
  else if d = 7 then (if keep then s.loseQuay else s.failQuay)
  else s

/-! What comes back (R404). -/

/-- TIMEBASE is on: A and C lock again on their pair's reference, and the loads return to them (R75, R78). -/
def State.backTimebase (s : State) : State :=
  s.each [0, 1] (fun p t =>
    let a := homeMov p
    if t.movRetired a then t.showMovements
    else (t.putPair p { t.pair p with todo := [.lock a, .move a] }).search a (t.pair p).tcxo)

/-- An intake is on: its blocks are valid, unless the last REGULATE skipped it (R438). -/
def State.backIntake (s : State) (k : Nat) : State :=
  let s := s.showIntakes
  let s := s.when (s.intake k).skipped (·.put (F.INT_HEALTH_LAST_CHECK k) 6)
  (s.agcShow k).showValidAll

/-- ENGINE is on: the roles stand as at a reset, and each ticket that was in flight replays (R149, R161, Table 12.6). -/
def State.backEngine (s : State) : State :=
  let s := s.each (List.range 5) (fun c t => t.assignRoles c)
  s.each ((List.range 96).filter (fun n => s.on (F.BTH_TICKET_IN_FLIGHT n))) (fun n t => t.enqueue n)

/-- QUAY is on: the DRBG is seeded where it lost its state, and the blocks whose RUN is set start again (R313, R324, R404, R438).
Log entry 42: DEDUCED. -/
def State.backQuay (s : State) : State :=
  let s := if s.drbg.isNone then s.seed else s.engineShow
  let s := s.each (List.range 4) (fun q t => (t.quayRunShow q).sampleHold q)
  let s := (s.landRunShow).pilotRunShow
  let s := s.each (List.range 8) (fun c t => (t.when (t.on (F.CAP_CTRL_RUN c)) (·.down (F.CAP_CTRL_STOPPED c))).capPump c)
  s.portsBegin

/-- A domain is ready. -/
def State.back (s : State) (d : Nat) : State :=
  if d = 1 then s.backTimebase
  else if d = 2 || d = 3 then s.backIntake (d - 1)
  else if d = 5 then s.backEngine
  else if d = 7 then s.backQuay
  else s.showValidAll

/-- Switches a domain to a state at once (R22, R33, R34): with its contents kept, lost or brought back as the two states ask. -/
def State.switchTo (s : State) (d state : Nat) : State :=
  let old := s.get (F.DOM_STATE d)
  let s := s.putDom d { s.dom d with step := 0, goal := none, dependant := false, injected := false }
  if old = state then s
  else if state = dsOn then (s.put (F.DOM_STATE d) dsOn).back d
  else
    let s := s.put (F.DOM_STATE d) state
    if old = dsOff || old = dsRetention then s else s.lose d (state == dsRetention)

/-! Commanded switches (R23, R438, R439). -/

/-- The bit of `DOM_CTRL` that commands a domain. -/
def domBit (d : Nat) : Nat := d - 2 - (if d = 7 then 3 else 0)

/-- The domains of `DOM_CTRL`. -/
def domCommanded : List Nat := [2, 3, 7]

/-- The refusal rule of `DOM_CTRL` (R23, R438, R439). -/
def domRule : Rule := fun s old new =>
  let changed := domCommanded.filter (fun d => bit old (domBit d) != bit new (domBit d))
  let busy := changed.any (fun d => s.get (F.DOM_STATE d) == dsSwitching || s.get (F.DOM_STATE 1) == dsSwitching)
  let unmet := changed.any (fun d => bit new (domBit d) && s.get (F.DOM_STATE 1) != dsOn)
  if s.mode == .survey then some resMode else if busy || unmet then some resOrder else none

/-- A commanded switch starts: `DOM_STATE` shows it until it completes (R438). Log entry 40: DEDUCED. -/
def State.switchStart (s : State) (d : Nat) (on : Bool) : State :=
  let goal := if on then dsOn else if d = 7 then dsRetention else dsOff
  if s.get (F.DOM_STATE d) = goal then s
  else
    let s := s.putDom d { s.dom d with goal := some goal }
    if on then s.put (F.DOM_STATE d) dsSwitching
    else if d = 7 then (s.quayLeave).put (F.DOM_STATE d) dsSwitching |>.landShow
    else (s.put (F.DOM_STATE d) dsSwitching).lose d false

/-- A write of `DOM_CTRL`: accepted as a whole, its offs before its ons (R438, R439). The image's value waits for the end of WIND (R34). -/
def State.domWrite (s : State) (src w : Nat) : State :=
  match s.write src 0x2A00 w domRule with
  | (s, none) => s
  | (s, some (old, new)) =>
    let s := s.each (domCommanded.filter (fun d => bit old (domBit d) && !bit new (domBit d))) (fun d t => t.switchStart d false)
    s.each (domCommanded.filter (fun d => !bit old (domBit d) && bit new (domBit d))) (fun d t => t.switchStart d true)

/-- A commanded switch completes: QUAY leaves once its quays have ended their frames (R438). Log entry 40: DEDUCED. -/
def State.switchDone (s : State) (d : Nat) : State :=
  match (s.dom d).goal with
  | none => s
  | some g =>
    if d = 7 && g == dsRetention && !s.quaysStill then s
    else
      let s := (s.putDom d { s.dom d with goal := none }).put (F.DOM_STATE d) g
      let s := if g = dsOn then s.back d else if d = 7 then s.lose 7 true else s
      s.up F.DOM_STATUS_SWITCH_EV

end Sys2Proof.Machine
end

