-- ==== Sys2Proof/Machine/AfTables.lean ====
section
/-! DEFINITION. The AF tables: their fill, their limits, and how the image and SURVEY load one (Table 3.6, R39, R62, R441, R442). -/

namespace Sys2Proof.Machine

/-- COUNT of a table in force; an empty one counts 0 (R442). -/
def State.afCount (s : State) (i : Nat) : Nat :=
  if s.get (F.AF_HEAD_KIND.ofAf i) = 0 then 0 else s.get (F.AF_HEAD_COUNT.ofAf i)

/-- The sum of COUNT over all tables. -/
def State.afTotal (s : State) : Nat := ((List.range 255).map s.afCount).sum

/-- Shows the sum in `AF_FILL`. -/
def State.afShow (s : State) : State := s.put F.AF_FILL_TOTAL s.afTotal

/-- The most frequencies that the tables hold together (R442). -/
def afLimit : Nat := 4096

/-- Width of the identifier of a kind (Table 3.6). -/
def afWidth (kind : Nat) : Nat := if kind = 1 then 16 else if kind = 3 then 24 else 32

/-- Whether a table with these values satisfies R442, `rest` frequencies lying in the others. -/
def afJudge (kind count ident : Nat) (freqs : List Nat) (rest : Nat) : Bool :=
  Nat.ble kind 3 && Nat.ble count 32 && (kind == 0 || Nat.blt ident (2 ^ afWidth kind)) &&
  freqs.all (fun f => f == 0 || inR 100000 960000000 f) && Nat.ble (rest + (if kind = 0 then 0 else count)) afLimit

/-- The words of a table in the order of its registers from `AF_HEAD` on: head, identifier, frequencies. -/
def afWords (kind count ident : Nat) (freqs : List Nat) : List Nat :=
  [kind * 256 + count, bits ident 0 16, bits ident 16 16] ++ (freqs.map (fun f => [bits f 0 16, bits f 16 16])).flatten

/-- Puts an entry into its table; frequencies at positions from COUNT on stay as they are (R442). -/
def State.afPut (s : State) (e : AfEntry) : State :=
  let s := (s.put (F.AF_HEAD_KIND.ofAf e.index) e.kind).put (F.AF_HEAD_COUNT.ofAf e.index) e.freqs.length
  let s := s.put (F.AF_ID_IDENTIFIER.ofAf e.index) e.ident
  (s.each (List.range e.freqs.length) (fun i t => t.put ((F.AF_FREQ_HZ i).ofAf e.index) (e.freqs.getD i 0))).afShow

/-- The words that a table holds, as many as `n` frequencies have. -/
def State.afNow (s : State) (i n : Nat) : List Nat :=
  afWords (s.get (F.AF_HEAD_KIND.ofAf i)) (s.get (F.AF_HEAD_COUNT.ofAf i)) (s.get (F.AF_ID_IDENTIFIER.ofAf i))
    ((List.range n).map (fun j => s.get ((F.AF_FREQ_HZ j).ofAf i)))

/-- SURVEY changes a table: every word that changes is journaled with source SURVEY (R39, R62, R442). Log entry 51: DEDUCED. -/
def State.afSurvey (s : State) (e : AfEntry) : State :=
  if !(Nat.blt e.index 255 && afJudge e.kind e.freqs.length e.ident e.freqs (s.afTotal - s.afCount e.index)) then s
  else
    let old := s.afNow e.index e.freqs.length
    let t := s.afPut e
    let new := t.afNow e.index e.freqs.length
    t.each (List.range new.length) (fun o u =>
      u.when (old.getD o 0 != new.getD o 0) (·.journal (0x3011 + o) (old.getD o 0) (new.getD o 0) srcSurvey resAccepted 0))

end Sys2Proof.Machine
end

