-- ==== Sys2Proof/Machine/Modes.lean ====
section
/-! DEFINITION. The six modes: transitions, commands, SURVEY, entry into ANCHOR, and the resets (02_modes.md, R446, R447). -/

namespace Sys2Proof.Machine

/-! Causes of Table 2.9. -/

/-- Cause codes of `GLB_MODE_CAUSE`. -/
def cPowerOn : Nat := 0x01
/-- See `cPowerOn`. -/
def cFullPin : Nat := 0x02
/-- See `cPowerOn`. -/
def cFullCmd : Nat := 0x03
/-- See `cPowerOn`. -/
def cWarmPin : Nat := 0x04
/-- See `cPowerOn`. -/
def cWarmCmd : Nat := 0x05
/-- See `cPowerOn`. -/
def cImageOk : Nat := 0x10
/-- See `cPowerOn`. -/
def cImageInvalid : Nat := 0x11
/-- See `cPowerOn`. -/
def cRegulated : Nat := 0x20
/-- See `cPowerOn`. -/
def cRegulatedNoRefin : Nat := 0x21
/-- See `cPowerOn`. -/
def cLockFail : Nat := 0x22
/-- See `cPowerOn`. -/
def cNoReference : Nat := 0x23
/-- See `cPowerOn`. -/
def cSurveyCmd : Nat := 0x30
/-- See `cPowerOn`. -/
def cSurveySchedule : Nat := 0x31
/-- See `cPowerOn`. -/
def cSurveyComplete : Nat := 0x32
/-- See `cPowerOn`. -/
def cSurveyLimit : Nat := 0x33
/-- See `cPowerOn`. -/
def cSurveyEnd : Nat := 0x34
/-- See `cPowerOn`. -/
def cRefinLost : Nat := 0x40
/-- See `cPowerOn`. -/
def cRefinQualified : Nat := 0x41
/-- See `cPowerOn`. -/
def cAnchorCmd : Nat := 0x50
/-- See `cPowerOn`. -/
def cSecurity : Nat := 0x51
/-- See `cPowerOn`. -/
def cDomainFault : Nat := 0x52

/-- Whether `ALERT_N` is asserted on a transition of this cause (Table 2.8). -/
def alertsOn (cause : Nat) : Bool :=
  cause == cImageInvalid || cause == cNoReference || cause == cLockFail || cause == cSecurity || cause == cDomainFault

/-- Loads the mode registers; the transition has begun (R29, R30). -/
def State.showMode (s : State) (m : Mode) (old cause detail : Nat) : State :=
  let s := s.setMode m
  let s := (s.put F.GLB_MODE_PREV_MODE old).put F.GLB_MODE_MODE m.code
  ((s.put F.GLB_MODE_CAUSE_CAUSE cause).put F.GLB_MODE_CAUSE_DETAIL detail).down F.GLB_MODE_CMD_PENDING

/-- Announces a transition: the mode event, the request in band, and the alert where Table 2.8 says so (R30). -/
def State.announce (s : State) (old new cause detail : Nat) (injected : Bool := false) : State :=
  let s := s.error 0x0B01 .supervisor 0 .mode { injected := injected, d0 := old * 256 + new, d1 := detail * 256 + cause }
  (s.attn 0).when (alertsOn cause) (·.alertStart 0x10 cause 0 false)

/-- What leaving SURVEY brings in every mode: the scan's window closes and the alert sources go on (R40, R380). -/
def State.surveyLeft (s : State) : State := (s.putWindow winScan none).alertThaw

/-- A transition other than a reset's (R30). Log entry 98: DEDUCED. -/
def State.enterMode (s : State) (m : Mode) (cause detail : Nat) (injected : Bool := false) : State :=
  let old := s.mode
  let t := s.showMode m old.code cause detail
  let t := t.when (old == .survey) (·.surveyLeft)
  let t := t.announce old.code m.code cause detail injected
  ((t.when (m == .drift) (fun t => t.setDriftAt t.clock)).alertSweep)

/-! Domain states by mode (Table 2.10). -/

/-- Whether a mode has domain `d` on: as `DOM_CTRL` says where Table 2.10 says image. -/
def State.modeHas (s : State) (d : Nat) : Bool :=
  let image := s.on ⟨0x2A00, domBit d, 1⟩
  if d = 2 || d = 3 then s.mode == .survey || s.mode == .wind || image
  else if d = 7 then !s.serving || image
  else true

/-- The mode rules switch the domains that the mode wants otherwise, off before on; a domain under restart comes back as the mode wants
it, and QUAY leaves at its frame boundaries (R22, R33, R34). Log entry 40: DEDUCED. -/
def State.modeDomains (s : State) : State :=
  let idle (t : State) (d : Nat) : Bool := (t.dom d).step == 0
  let s := s.each [7, 3, 2] (fun d t =>
    if t.modeHas d || !idle t d then t
    else if d = 7 && !t.quaysStill then t.switchStart 7 false
    else if d = 7 then (t.quayLeave).switchTo 7 dsRetention
    else t.switchTo d dsOff)
  s.each [2, 3, 7] (fun d t => if t.modeHas d && idle t d then t.switchTo d dsOn else t)

/-! The shutdown steps (R41 steps 2 to 5). -/

/-- A berth stops because its domains go off: its last window and its services end (R147, R258, R380). -/
def State.berthHalt (s : State) (n : Nat) : State :=
  let s := s.putBerth n { s.berth n with survey := false, parked := false, promoted := false, replay := false, finished := false, shedding := false,
                                            told := false }
  if s.on (F.BTH_CTRL_STOPPED n) then s
  else
    let s := ((((s.fadeStop n).recordStop n).berthDrop n).dropTicket n).up (F.BTH_CTRL_STOPPED n)
    s.put (F.BTH_STATUS_STATE n) bsStopped

/-- Step 5: QUAY and STORE pass to retention, the other domains go off in reverse dependency order. Log entry 45: DEDUCED. -/
def State.powerDown (s : State) : State :=
  ((((((s.switchTo 5 dsOff).switchTo 7 dsRetention).switchTo 4 dsOff).switchTo 3 dsOff).switchTo 2 dsOff).switchTo 1 dsOff).switchTo 6
    dsRetention

/-! Resets (R44, R45, Table 2.12). -/

/-- A new upper half of the epoch: a free value that is not 0 (R273). -/
def State.drawEpoch (s : State) : Nat × State := let d := s.draw; (d.1 % 0xFFFF + 1, d.2)

/-- The epoch of a full reset (R273). -/
def State.nextEpoch (s : State) : State :=
  let low := s.epoch % 65536
  if low = 0xFFFF then let d := s.drawEpoch; d.2.setEpoch (d.1 * 65536 + 1) else s.setEpoch (s.epoch + 1)

/-- Whether a register field outlives a warm or full reset: its register is no COMMIT register (R61), and it lies in KEEP, or it is an RW
field, which only the apply step of WIND returns to its reset value (R55, Table 2.12). Log entry 22: DEDUCED. -/
def State.outlives (s : State) (key : Nat) : Bool :=
  let a := mapAddr (key / 16)
  !isCommit a && (match regAt (s.stdAt a) a with
    | some (r, base) => r.fields.any (fun f => f.lo == key % 16 && (f.acc == .rw || (domainOf base == 0 && f.acc != .wo)))
    | none => false)

/-- The memories that a full reset clears (Tables 2.12 and 18.14): those of STORE and QUAY. -/
def memCleared (mem : Nat) : Bool := mem == 1 || inR 3 5 mem

/-- What STORE, QUAY and the counters of KEEP hold of accepted work is cleared; every slot that held a key is erased (R44, R325, R380,
R443, Table 2.12). Log entry 44: DEDUCED. -/
def State.fullClear (s : State) : State :=
  let s := s.each (List.range 32) (fun i t => t.eraseOne i srcSupervisor)
  let s := { s with custody := [], prods := [], stats := [], bondReqs := [], relays := [], caps := [], outbox := [], schedule := [], landFifo := [],
                    taken := [],
                    refCount := ⟨false, false, 0, 0, false, 0⟩, rowsDue := [],
                    flips := s.flips.filter (fun e => !(memCleared (e.1 / 2 ^ 28))) }
  let s := s.each (Tbl.keys s.landChans) (fun c t => t.putChan c { t.chan c with item := none })
  (((s.alertReset).down F.TB_REF_STATUS_REFIN_OK).down F.TB_REF_STATUS_TCXO_OK).nextEpoch

/-- The fill of a hold as its contents give it. -/
def State.fillOf (s : State) (h : Nat) : Nat :=
  if Nat.blt h 96 || h == 105 || h == 107 || h == 108 then s.charged h
  else if Nat.blt h 100 then s.queued (h - 96)
  else if Nat.blt h 104 then (s.port (h - 100)).fifo.length
  else if h = 104 then s.bondReqs.length
  else if h = 106 then s.schedule.length
  else if h = 109 then s.landDepth
  else if h = 110 || h = 111 then s.chanFill (h - 109)
  else if inR 112 115 h then (match s.rxBerth (h - 112) with
    | some n => min 2048 (s.input n 0).length
    | none => 0)
  else 0

/-- The length of the WIND so far, in 0.1 ms (Table 3.12). -/
def State.windTime (s : State) (since : Nat) : State :=
  s.put F.GLB_WIND_TIME_DURATION (min 65535 ((s.clock - since) / 100000))

/-- A WIND under way ends, whatever ends it: its length is loaded (R57). -/
def State.windStop (s : State) : State :=
  match s.wind with
  | some w => (s.windTime w.since).setWind none
  | none => s

/-- A unit's tests stop; its retirement and its history stay (R399). -/
def State.testsEnd (s : State) : State :=
  let s := s.each (Tbl.keys s.units) (fun k t => t.setUnits (Tbl.set (fun _ => UnitRec.reset) t.units k
    { Tbl.get (fun _ => UnitRec.reset) t.units k with testing := false, runs := 0 }))
  s.each (Tbl.keys s.words) (fun k t => t.setWords (Tbl.set (fun _ => UnitRec.reset) t.words k
    { Tbl.get (fun _ => UnitRec.reset) t.words k with testing := false, runs := 0 }))

/-- What a warm or full reset clears beside the registers: everything in the domains that lose power, and every operation under way
(R42, R45, R61, Table 2.12). Log entry 44: DEDUCED. -/
def State.clearBlocks (s : State) : State :=
  { s with
    stage := none, snap := [], shadow := [], groupOf := [], wind := none, closing := false, trimming := [],
    movs := s.movs.filter (fun e => e.1 % 2 == 1), pairs := s.pairs.map (fun e => (e.1, { e.2 with todo := [] })), beatOf := [],
    visiting := [], intakes := [], repeats := 0, captured := [], quiet := [], testBins := [], chans := [], chains := [], dets := [],
    detFull := [], inputs := [], craneNs := [], aud := [], pcm := [], scopeAt := [], gChain := [], soundDet := Det.reset, sounding := [],
    syncMask := 0, patrolAt := 0, berths := [], ready := [], handover := [], outbox := s.outbox.filter (·.1 == 0x62), rds := [],
    follow := [], soundingAt := none, dab := [], drm := [], dvb := [], windows := [], ended := [], quays := [], rebuilding := false,
    banks := s.banks.filter (·.1 == 109),
    landRx := LandRx.reset, ports := [], bondNow := none, keyWrap := [], kekData := [], drbg := none,
    caps := s.caps.map (fun e => (e.1, { e.2 with closed := e.2.buf.length })), txAt := (0, .idle), trsw := false, pilotWindow := false,
    onAir := none, listen := none, listens := [], rx := [], rxHeard := [], cca := [], backoff := 0, inj := none, retesting := none,
    tw := { s.tw with pointer := 0 },
    doms := s.doms.map (fun e => (e.1, { e.2 with step := 0, dependant := false, injected := false, goal := none })) }

/-- Shows in the registers outside KEEP, after they were returned to their reset values, what stands in the blocks. -/
def State.showOutside (s : State) : State :=
  let s := s.each (List.range 5) (fun c t => t.assignRoles c)
  let s := s.showMovements.each [1, 2] (fun k t => t.put (F.INT_STATUS_RETIRED k) (b2n (t.isRetired .intake k)))
  let s := s.each (List.range 116) (fun h t => if holdClocked h then t.ringShow h (t.fillOf h) else t.holdFill h (t.fillOf h))
  (((((s.assignLanes).showLoads).each (List.range 96) (fun n t => t.showLoad n)).afShow).landShow).engineShow

/-- Shows, after a reset, what outlives it. Movements A and C are idle (Table 2.10); B and D lie in KEEP and keep their lock, and B carries
the counter (R84). Log entry 116: DEDUCED. -/
def State.showAfter (s : State) : State :=
  let s := s.timebaseOff.each [0, 2] (fun m t => t.down (F.TB_MOV_STATUS_CARRYING m))
  ((s.feedOff 1).feedOff 2).showOutside

/-- A bit of `GLB_RESET_CAUSE` (Table 2.5). -/
def resetBit (cause detail : Nat) : Nat :=
  if cause = cWarmCmd then (if detail = 1 then 5 else 4) else if cause = cWarmPin then 3 else if cause = cFullCmd then 2
  else if cause = cFullPin then 1 else 0

/-- A warm or full reset takes place: WIND begins later, and the mode reads WIND until then (R44, R45, R446). `GLB_MODE.SURVEY_DEFERRED` is
cleared; the end of WIND sets it again where `GLB_SURVEY_AT` is due (R37). Log entry 22: DEDUCED. Log entry 48: DEDUCED. Log entry 138: DESIGN
CHOICE. -/
def State.resetNow (s : State) (b : Boot) : State :=
  let full := b.rank == 2
  let left := s.mode == .survey
  let s := s.when full (·.fullClear)
  let s := s.when (!full) (fun s => s.setCustody (s.custody.map (fun i => { i with replay := true })))
  let s := s.windStop
  let s := (s.clearBlocks.setRegs (s.regs.filter (fun e => s.outlives e.1))).testsEnd
  let s := s.showMode .wind b.old b.cause b.detail
  let s := (s.showAfter).when (left && !full) (·.surveyLeft)
  let s := s.each (List.range 6) (fun i t => t.put ⟨0x0007, i, 1⟩ (b2n (i == resetBit b.cause b.detail)))
  ((s.down F.GLB_MODE_SURVEY_DEFERRED).down F.HLD_CUSTODY_REBUILDING).setBoot (some { b with ended := true })

/-- Once the quays have ended their frames the domains go down; a reset that waits for it takes place (R41, R45). Log entry 45: DEDUCED. -/
def State.settle (s : State) : State :=
  if !(s.closing && s.quaysStill) then s
  else
    let s := (s.powerDown).setClosing false
    match s.boot with
    | some b => if b.ended then s else s.resetNow b
    | none => s

/-- The shutdown steps begin: the transmitter, the audio and the feeds stop at once, each quay at its frame boundary (R41, R45, R103).
Log entry 45: DEDUCED. -/
def State.shutdown (s : State) : State :=
  if s.closing then s
  else
    let s := (s.setClosing true).setVisiting []
    let s := s.each (List.range 96) (fun n t => t.berthHalt n)
    let s := (s.feedOff 1).feedOff 2
    let s := (s.quayLeave).when (s.domOn 7) (·.put (F.DOM_STATE 7) dsSwitching)
    (s.landShow).settle

/-- A command that was accepted and whose transition has not begun is dropped (R31). Log entry 46: DEDUCED. -/
def State.dropCommand (s : State) : State :=
  match s.boot with
  | some b =>
    if b.cmd && !b.ended then
      ((s.journal 5 0 (0x5A00 + (if b.cause = cFullCmd then 5 else 4)) srcTwoWire resMode 0).refusalBit resMode).down
        F.GLB_MODE_CMD_PENDING
    else s
  | none => s

/-- Whether a cause of this rank wins against the transition under way (R31). Log entry 43: DEDUCED. -/
def State.ranks (s : State) (rank : Nat) : Bool :=
  match s.boot with
  | some b => Nat.blt rank b.rank
  | none => true

/-- The mode that a reset leaves: under a reset whose WIND has not begun, the mode that this one left (R30). -/
def State.modeLeft (s : State) : Nat :=
  match s.boot with
  | some b => if b.ended then b.old else s.mode.code
  | none => s.mode.code

/-- A reset of rank 2 (full) or 6 (warm) begins (R31, R44, R45). Log entry 43: DEDUCED. -/
def State.startReset (s : State) (cause detail rank : Nat) (cmd : Bool) : State :=
  let b : Boot := ⟨cause, detail, rank, s.modeLeft, cmd, false⟩
  let s := ((s.dropCommand).setBoot (some b)).when cmd (·.up F.GLB_MODE_CMD_PENDING)
  if rank = 2 then s.resetNow b else (s.shutdown).settle

/-- The rank of a cause that enters ANCHOR (R31). -/
def anchorRank (cause : Nat) : Nat :=
  if cause = cSecurity then 3
  else if cause = cNoReference || cause = cLockFail || cause = cDomainFault then 4
  else if cause = cAnchorCmd then 5
  else 9

/-- While the entry into ANCHOR is under way a higher cause wins: it becomes the cause of the transition (R31). -/
def State.anchorCause (s : State) (cause detail rank : Nat) (injected : Bool) : State :=
  if s.closing && Nat.blt rank (anchorRank (s.get F.GLB_MODE_CAUSE_CAUSE)) then
    let old := s.get F.GLB_MODE_PREV_MODE
    (s.showMode .anchor old cause detail).announce old Mode.anchor.code cause detail injected
  else s

/-- The transition of a reset whose WIND has not begun is announced before another cause takes the device on (R30). -/
def State.announceBoot (s : State) : State :=
  match s.boot with
  | some b => if b.ended then s.announce b.old Mode.wind.code b.cause b.detail else s
  | none => s

/-- Entry into ANCHOR from any other mode (R41). A warm reset that a pulse on `RESET_N` brought, under way or with the pin still low, takes
place after it (R31). -/
def State.enterAnchor (s : State) (cause detail rank : Nat) (injected : Bool := false) : State :=
  if !s.ranks rank || s.dead then s
  else if s.mode == .anchor then s.anchorCause cause detail rank injected
  else
    let s := s.dropCommand.announceBoot
    let later := match s.boot with
      | some b => if b.cmd || (b.ended && !s.pinLow) then none else some { b with old := Mode.anchor.code, ended := false }
      | none => none
    let s := ((s.setBoot later).windStop).enterMode .anchor cause detail injected
    s.shutdown

/-- A security alarm: the bond slots are erased whatever else wins, and the device enters ANCHOR (R31, R41, R349). -/
def State.securityAlarm (s : State) (detail : Nat) (injected : Bool := false) : State :=
  if s.dead then s else (s.alarmErase detail injected).enterAnchor cSecurity detail 3 injected

/-! SURVEY (R37 to R40). -/

/-- SURVEY begins (R37, R38). -/
def State.surveyBegin (s : State) (cause detail : Nat) : State :=
  let s := s.enterMode .survey cause detail
  let s := if cause = cSurveySchedule then (s.supWrite F.GLB_SURVEY_AT_SECONDS 0).down F.GLB_MODE_SURVEY_DEFERRED else s
  let s := s.each (List.range 96) (fun n t => t.berthSurvey n)
  let s := ((s.abortGroup 0x300E).portsSurvey).up F.ALERT_STATUS_FROZEN
  let s := (s.setVisiting []).modeDomains
  let s := s.each (List.range 104) (fun l t => match t.lane l with
    | .sounds _ => t.putLane l .spare
    | .patrols _ => t.putLane l .spare
    | _ => t)
  ((((s.setSounding []).setSoundingAt none).agcShow 1).agcShow 2).openWindow winScan 0

/-- A schedule that fell due outside RUN starts SURVEY on the entry into RUN (R37). -/
def State.surveyDeferred (s : State) : State :=
  if s.mode == .run && s.on F.GLB_MODE_SURVEY_DEFERRED && s.boot.isNone then s.surveyBegin cSurveySchedule 1 else s

/-- SURVEY is left for RUN or DRIFT: its domains, berths and ports return to what they were (R34, R40). -/
def State.surveyOver (s : State) : State :=
  let s := (s.modeDomains).each (List.range 96) (fun n t => t.berthReturn n)
  s.portsSurveyEnd

/-- SURVEY ends and the device returns to RUN (R40). -/
def State.surveyEnd (s : State) (cause : Nat) : State :=
  if s.mode == .survey && s.boot.isNone then ((s.enterMode .run cause 0).surveyOver).surveyDeferred else s

/-- The schedule falls due (R37). Log entry 49: DEDUCED. -/
def State.surveyDue (s : State) : State :=
  let at_ := s.get F.GLB_SURVEY_AT_SECONDS
  if at_ = 0 || Nat.blt s.sec at_ || s.boot.isSome then s
  else if s.mode == .run then s.surveyBegin cSurveySchedule 0
  else s.up F.GLB_MODE_SURVEY_DEFERRED

/-- The scan completes: the AF tables that it changes, its records, and the return to RUN (R39, R40, R259). -/
def State.surveyDone (s : State) (found : List Found) (tables : List AfEntry) : State :=
  if s.mode == .survey && s.boot.isNone then
    ((s.each tables (fun e t => t.afSurvey e)).inventory found).surveyEnd cSurveyComplete
  else s

/-! Mode commands (R29). -/

/-- The mode commands that the present mode allows (Table 2.8), and, for those with a rank, that no transition under way outranks (R31). -/
def State.cmdAllowed (s : State) (cmd : Nat) : Bool :=
  let m := s.mode
  let anchoring := s.closing && m == .anchor
  if cmd = 1 then m == .run && s.ranks 8
  else if cmd = 2 then m == .survey && s.ranks 8
  else if cmd = 3 then m != .anchor && s.ranks 5
  else if cmd = 4 then (s.serving || m == .survey || m == .anchor) && s.ranks 6 && !anchoring
  else if cmd = 5 then s.ranks 2
  else cmd == 6 && m != .anchor

/-- The refusal rule of `GLB_MODE_CMD` (R29). -/
def modeRule : Rule := fun s _ w => if bits w 8 8 == 0x5A && s.cmdAllowed (bits w 0 4) then none else some resMode

/-- A write of `GLB_MODE_CMD`, from any source (R29, Table 2.3). -/
def State.modeCommand (s : State) (src w : Nat) : State :=
  match s.write src 5 w modeRule with
  | (s, none) => s
  | (s, some _) =>
    let c := bits w 0 4
    if c = 1 then s.surveyBegin cSurveyCmd 0
    else if c = 2 then s.surveyEnd cSurveyEnd
    else if c = 3 then s.enterAnchor cAnchorCmd 0 5
    else if c = 4 then s.startReset cWarmCmd (b2n (s.mode == .anchor)) 6 true
    else if c = 5 then s.startReset cFullCmd 0 2 true
    else
      -- CANCEL_SURVEY_SCHEDULE: a write of 0 to GLB_SURVEY_AT
      let old := s.get F.GLB_SURVEY_AT_SECONDS
      let s := s.each [0, 1, 2] (fun i t => t.journal (0x10 + i) (bits old (16 * i) 16) 0 src resAccepted 0)
      (s.down F.GLB_SURVEY_AT_SECONDS).down F.GLB_MODE_SURVEY_DEFERRED

/-- A write of `GLB_SURVEY_AT`: a time that has passed falls due at once (R28, R37). Log entry 49: DEDUCED. -/
def State.surveyAtWrite (s : State) (src a w : Nat) : State :=
  match s.write src a w with
  | (s, some _) => s.surveyDue
  | (s, none) => s

/-! Power and `RESET_N`. -/

/-- `VKEEP` falls: KEEP is without power, and the device is held in power-on reset; what lies in OTP stays (R44, R328, R445). -/
def State.keepLost (s : State) : State :=
  { State.reset with pending := s.pending, kek := s.kek, pinLow := s.pinLow, holdPins := s.holdPins, freeCtr := s.freeCtr, dead := true }

/-- `VKEEP` rises: the power-on reset ends with a new epoch (R44, R273, R446). Log entry 47: DEDUCED. -/
def State.keepBack (s : State) : State :=
  if !s.dead then s
  else
    let d := s.drawEpoch
    let s := (d.2.setDead false).setEpoch (d.1 * 65536 + 1)
    s.put F.BOND_STATUS_KEK_LOCKED (b2n s.kek.isSome)

/-- `RESET_N` has been low for 1 µs (R44, R45). Log entry 43: DEDUCED. -/
def State.pinWarm (s : State) : State :=
  if s.dead || s.pinLow then s.setPinLow true
  else
    -- with the pin low the two-wire port does not answer (R44, R415)
    let s := (s.setPinLow true).setTw { s.tw with opened := false, mine := false, reading := false, pulse := false }
    if s.ranks 6 then s.startReset cWarmPin 0 6 false else s

/-- `RESET_N` is still low at 10 ms (R44, R45). -/
def State.pinFull (s : State) : State :=
  if s.dead || !s.pinLow || !s.ranks 2 then s else s.startReset cFullPin 0 2 false

/-- WIND begins: every domain is on, the cranes take their roles, the bond engine seeds its DRBG, and the reset's transition is announced
(R30, R34, R149, R324, R446). What the flash reader finds before the first copy is in `wind`. Log entry 41: DESIGN CHOICE. Log entry 48: DEDUCED. -/
def State.windBegin (s : State) (quad : Bool) (clocks : Nat) (headers : List (List Byte)) (order : List Nat) (reads : List FlashRead) :
    State :=
  match s.boot with
  | none => s
  | some b =>
    if !b.ended || s.pinLow || s.dead then s
    else
      -- at a pin or power-on reset every supply has been in range for 1 ms
      let s := s.when (!b.cmd) (·.put F.SUP_STATUS_IN_RANGE 0x3F)
      let s := (s.setBoot none).each [6, 1, 2, 3, 4, 7, 5] (fun d t => t.put (F.DOM_STATE d) dsOn)
      let s := s.each (List.range 4) (fun q t => t.sampleHold q)
      let s := s.each (List.range 5) (fun c t => t.assignRoles c)
      let s := (s.seed).announce b.old Mode.wind.code b.cause b.detail
      s.showMovements.setWind (some ⟨s.clock, quad, clocks, headers, order, reads⟩)

/-- Whether the glitch alarm is masked: from power-on, and from a full pulse on `RESET_N`, until WIND begins (R447). -/
def State.glitchMasked (s : State) : Bool :=
  s.dead || (match s.boot with
    | some b => b.ended && (b.cause == cPowerOn || b.cause == cFullPin)
    | none => false)

/-! From REGULATE into service. -/

/-- Whether a capture channel names the berth of another running channel (R342). -/
def State.capClash (s : State) (c : Nat) : Bool :=
  (List.range 8).any (fun d => d != c && !s.on (F.CAP_CTRL_STOPPED d) && s.get (F.CAP_CFG_BERTH d) == s.get (F.CAP_CFG_BERTH c))

/-- The capture channels whose RUN the image set start, or are refused (R55, R342). Log entry 55: DEDUCED. -/
def State.capsBegin (s : State) : State :=
  s.each ((List.range 8).filter (fun c => s.on (F.CAP_CTRL_RUN c) && s.on (F.CAP_CTRL_STOPPED c))) (fun c t =>
    if !t.domOn 7 then t
    else if t.capClash c then
      let a := 0x2440 + 0x10 * c
      let w := t.wordAt a
      (t.refuse srcImage a (w - 0x8000) w resValue).down (F.CAP_CTRL_RUN c)
    else t.down (F.CAP_CTRL_STOPPED c))

/-- The device enters RUN or DRIFT from REGULATE: what the image tells to run starts, and transmit requests held in retention end LATE (R34,
R45, R55, R255, R358). Log entry 96: DEDUCED. -/
def State.serviceBegin (s : State) : State :=
  let s := s.modeDomains
  let s := (s.each (List.range 4) (fun q t => t.quayRunShow q)).landRunShow.pilotRunShow
  let s := s.capsBegin.portsBegin.lanesBegin.berthsBegin
  let s := s.each s.schedule (fun r t => t.txEnd r txLate)
  s.openWindow winIntake 0

end Sys2Proof.Machine
end

