-- ==== Sys2Proof/Machine/Restart.lean ====
section
/-! DEFINITION. Domain faults and restarts, the custody rebuild, supplies and temperature (R43, R71, R277, R278, R402 to R404, R440,
R445). -/

namespace Sys2Proof.Machine

/-! Custody that cannot be restored (R278). -/

/-- Appends one item to a list of ranges (producer, first sequence number, count), where it can to the last of them. -/
def addRange (l : List (Nat × Nat × Nat)) (e : Nat × Nat) : List (Nat × Nat × Nat) :=
  match l.getLast? with
  | some r => if r.1 == e.1 && (r.2.1 + r.2.2) % 2 ^ 32 == e.2 then l.dropLast ++ [(r.1, r.2.1, r.2.2 + 1)] else l ++ [(e.1, e.2, 1)]
  | none => [(e.1, e.2, 1)]

/-- Whether a bond request is accepted work: one that streams from its first frame on, the others as a whole (R43, R330). -/
def BReq.accepted (r : BReq) : Bool := r.complete || r.streams

/-- Whether a bond request is an item of this number: an accepted one, or one that holds this landing frame. -/
def BReq.isItem (r : BReq) (p seq : Nat) : Bool := (r.accepted && r.src == p && r.srcSeq == seq) || (p == 0x63 && r.landed.contains seq)

/-- Whether a transmit request is an item of this number: by its own, or one that holds this landing frame. -/
def TxReq.isItem (r : TxReq) (p seq : Nat) : Bool := (p == 0x64 && r.seq == seq) || (p == 0x63 && r.landed.contains seq)

/-- The hold in which an item lies: its consignment's hold, else that of the other work (Table 12.1). -/
def State.holdOfItem (s : State) (p seq : Nat) : Nat :=
  match s.custody.find? (fun i => i.prod == p && i.seq == seq) with
  | some i => i.hold
  | none => if s.landFifo.any (fun f => p == 0x63 && f.seq == seq) then 109
            else if s.schedule.any (·.isItem p seq) then 106 else 104

/-- Whether an item is held: a consignment, a landing frame, a transmit request, or a bond request by the number of its work. -/
def State.holdsItem (s : State) (p seq : Nat) : Bool :=
  s.custody.any (fun i => i.prod == p && i.seq == seq) || s.landFifo.any (fun f => p == 0x63 && f.seq == seq) ||
  s.schedule.any (·.isItem p seq) || s.bondReqs.any (·.isItem p seq)

/-- The second copy and the descriptor of an item that is held (R275). A landing frame that is held unaccepted lies in its request's. -/
def State.copyOf (s : State) (p seq : Nat) : Option Copy :=
  (((s.custody.find? (fun i => i.prod == p && i.seq == seq)).map (·.copy)).or
    ((s.landFifo.find? (fun f => p == 0x63 && f.seq == seq)).map (·.copy))).or
  (((s.schedule.find? (fun r => p == 0x64 && r.seq == seq)).map (·.copy)).or ((s.bondReqs.find? (·.isItem p seq)).map (·.copy)))

/-- What a rebuilt copy holds where `errs` give the bytes that were read wrong: the position, and the bits inverted. -/
def Copy.rebuilt (c : Copy) (errs : List (Nat × Byte)) : List Byte :=
  c.data.mapIdx (fun i b => errs.foldl (fun (x : Byte) e => if e.1 = i then x ^^^ e.2 else x) b)

/-- Whether a rebuilt copy fails the check against its descriptor's length and CRC-32 (R277). -/
def Copy.fails (c : Copy) (errs : List (Nat × Byte)) : Bool :=
  (c.rebuilt errs).length != c.len || (crc32 (c.rebuilt errs)).toNat != c.crc

/-- Takes an item out of custody without a release: its number stays unused, and its blocks return (R278). A request that has lost a landing frame
before it was accepted ends broken. -/
def State.dropItem (s : State) (p seq : Nat) : State :=
  let s := match s.custody.find? (fun i => i.prod == p && i.seq == seq) with
    | some i => ((s.setCustody (s.custody.filter (fun j => !(j.prod == p && j.seq == seq)))).refreshHolds i.hold i.quay).showHeld i.quay
    | none => s
  let s := if p = 0x63 then
      let s := s.setBondReqs (s.bondReqs.map (fun r => if r.landed.contains seq then { r with broken := true, landed := r.landed.erase seq } else r))
      s.setSchedule (s.schedule.map (fun r => { r with landed := r.landed.erase seq }))
    else s
  let s := (s.setLandFifo (s.landFifo.filter (fun f => !(p == 0x63 && f.seq == seq)))).landShow
  let s := s.when (s.schedule.any (fun r => p == 0x64 && r.seq == seq)) (fun s =>
    (s.when (s.txAt.1 == seq) (·.setTxAt (0, .idle))).putSchedule (s.schedule.filter (fun r => r.seq != seq)))
  match s.bondReqs.find? (fun r => r.accepted && r.src == p && r.srcSeq == seq) with
  | some r =>
    let s := s.when r.owns (fun s => s.putIv (s.ivTable.filter (fun e => some e != s.ivMatch r)))
    let s := (s.when (s.bondNow == some r.id) (·.setBondNow none)).putReqs (s.bondReqs.filter (fun x => x.id != r.id))
    s.applyDeferred
  | none => s

/-- Items whose copies are gone are recorded as sequence ranges and leave custody (R43, R278). Log entry 37: DEDUCED. -/
def State.custodyLost (s : State) (l : List (Nat × Nat)) (injected : Bool) : State :=
  let l := l.filter (fun e => s.holdsItem e.1 e.2)
  let gone : List (Nat × Nat × Nat) := l.foldl addRange []
  let s := s.each gone (fun g t => t.error 0x0603 .hold (t.holdOfItem g.1 g.2.1) .lost
    { injected := injected, d0 := g.1, d1 := bits g.2.1 16 16, d2 := bits g.2.1 0 16, d3 := min 0xFFFF g.2.2 })
  let s := s.when (!l.isEmpty) (·.up F.HLD_CUSTODY_LOST_EV)
  (s.each l (fun e t => t.dropItem e.1 e.2)).afterRelease

/-- Everything in custody, in the order of its lists. -/
def State.held (s : State) : List (Nat × Nat) :=
  s.custody.map (fun i => (i.prod, i.seq)) ++ s.landFifo.map (fun f => (0x63, f.seq)) ++ s.schedule.map (fun r => (0x64, r.seq)) ++
  (s.bondReqs.filter (·.accepted)).map (fun r => (r.src, r.srcSeq)) ++
  ((s.bondReqs.map (·.landed)).flatten ++ (s.schedule.map (·.landed)).flatten).map (fun n => (0x63, n))

/-! Faults and restarts (R402, R403). -/

/-- Whether a domain has lost its contents in a restart and not had them back. Log entry 37: DEDUCED. -/
def State.emptied (s : State) (d : Nat) : Bool := inR 2 5 (s.dom d).step

/-- A domain fault is unrecoverable: ANCHOR, from the modes that Table 2.8 names (R43). Log entry 38: DEDUCED. -/
def State.domainFailed (s : State) (d : Nat) : State :=
  if s.mode == .wind then s else s.enterAnchor cDomainFault d 4 (s.dom d).injected

/-- A fault of a domain is declared (R402): the events, the entry and the restart's first step; the third within 60 s is unrecoverable
(R43). While the domain restarts, a failing check is only journaled. Log entry 36: DEDUCED. -/
def State.domainFault (s : State) (d cause : Nat) (injected : Bool := false) : State :=
  let x := s.dom d
  if !inR 1 7 d then s
  else if x.step != 0 then s.error (0x0A00 + d) .domain d .detected { injected := injected, d0 := cause }
  else if s.get (F.DOM_STATE d) != dsOn then s
  else
    let s := (s.bump (F.DOM_COUNTS_FAULTS d)).up F.DOM_STATUS_FAULT_EV
    let s := (s.put F.DOM_LAST_FAULT_DOMAIN d).put F.DOM_LAST_FAULT_SUBCAUSE cause
    let s := s.error (0x0A00 + d) .domain d .detected { injected := injected, d0 := cause }
    let times := s.clock :: x.faults.filter (fun t => s.clock < t + minuteNs)
    let s := (s.putDom d { x with step := 1, injected := injected, faults := times }).put (F.DOM_STATE d) dsSwitching
    let s := if d = 7 then s.landShow.engineShow else s
    if 3 ≤ times.length then s.domainFailed d else s

/-- The domains that restart with `d`: those on, or under restart, that need it; TIMEBASE's go on with twins B and D (R403). -/
def State.dependants (s : State) (d : Nat) : List Nat :=
  if d = 6 && (s.get (F.DOM_STATE 5) == dsOn || (s.dom 5).step != 0) then [5] else []

/-- Step 2: the domain and its dependants go off, the dependants first. Custody whose other copy is being rebuilt is gone (R278).
Log entry 37: DEDUCED. -/
def State.restartOff (s : State) (d : Nat) : State :=
  let other := if d = 6 then 7 else 6
  let both := (d = 6 || d = 7) && s.emptied other
  let injected := (s.dom d).injected
  let s := s.each (s.dependants d) (fun e t =>
    ((t.putDom e { t.dom e with step := 2, dependant := true }).put (F.DOM_STATE e) dsSwitching).lose e false)
  let s := (s.putDom d { s.dom d with step := 2 }).lose d false
  if both then s.custodyLost s.held injected else s

/-- A domain comes back as its mode wants it, its restart counted (R33, R402). -/
def State.restartOn (s : State) (d : Nat) : State :=
  let s := (s.bump (F.DOM_COUNTS_RESTARTS d)).putDom d { s.dom d with step := 0, dependant := false, injected := false }
  s.switchTo d (if s.modeHas d then dsOn else if d = 7 then dsRetention else dsOff)

/-- The restart of a domain ends TRANSIENT, its dependants after it (R402, R403). -/
def State.restartDone (s : State) (d : Nat) : State :=
  let injected := (s.dom d).injected
  let deps := (List.range 8).filter (fun e => d == 6 && e == 5 && (s.dom e).dependant)
  let s := s.restartOn d
  let s := s.each deps (fun e t => t.restartOn e)
  (s.up F.DOM_STATUS_RESTART_EV).error (0x0A00 + d) .domain d .transient { injected := injected }

/-- The supplies that feed a domain (Table 21.1): 0 `VCORE`, 1 `VKEEP`, 2 `VANA`, 3 `VRF`, 4 `VIO18`, 5 `VIO33`. -/
def suppliesOf (d : Nat) : List Nat :=
  if d = 1 then [2] else if d = 2 || d = 3 then [2, 3] else if d = 7 then [0, 3, 4, 5] else if inR 4 6 d then [0] else []

/-- The domains that a supply feeds. -/
def fedBy (sup : Nat) : List Nat := [1, 2, 3, 4, 5, 6, 7].filter (fun d => (suppliesOf d).contains sup)

/-- A timed step of a restart completes, and the next begins (R402). A supply still out of range at the end of step 3, or a persistent
injection, makes the restart fail (R43, R406). Log entry 38: DEDUCED. -/
def State.restartStep (s : State) (d : Nat) : State :=
  let x := s.dom d
  if x.dependant then s
  else if x.step = 1 then s.restartOff d
  else if x.step = 2 then s.putDom d { x with step := 3 }
  else if x.step = 3 then
    if (suppliesOf d).all (bit (s.get F.SUP_STATUS_IN_RANGE)) && !s.persistFails .domain d then s.putDom d { x with step := 4 }
    else s.domainFailed d
  else if x.step = 4 then
    let s := s.putDom d { x with step := 5 }
    if d = 6 || d = 7 then (s.setRebuilding true).up F.HLD_CUSTODY_REBUILDING else s.restartDone d
  else s

/-- The items in custody whose rebuilt copy fails its check, where `errs` name the producer, the number, and the byte that was read wrong (R277). -/
def State.badCopies (s : State) (errs : List (Nat × Nat × Nat × Byte)) : List (Nat × Nat) :=
  s.held.filter (fun e => match s.copyOf e.1 e.2 with
    | some c => c.fails ((errs.filter (fun x => x.1 == e.1 && x.2.1 == e.2)).map (·.2.2))
    | none => false)

/-- The custody rebuild ends: every rebuilt copy is checked; the items whose copy fails are lost, and the domains that waited for it are ready (R277,
R278). Log entry 37: DEDUCED. -/
def State.rebuildDone (s : State) (errs : List (Nat × Nat × Nat × Byte)) : State :=
  if !s.rebuilding then s
  else
    let injected := [6, 7].any (fun d => (s.dom d).step == 5 && (s.dom d).injected)
    let bad := s.badCopies errs
    let s := s.each bad (fun e t => t.error 0x0602 .hold (t.holdOfItem e.1 e.2) .detected { injected := injected })
    let s := s.custodyLost bad injected
    let s := ((s.setRebuilding false).down F.HLD_CUSTODY_REBUILDING).up F.HLD_CUSTODY_REBUILT_EV
    s.each ([6, 7].filter (fun d => (s.dom d).step == 5)) (fun d t => t.restartDone d)

/-- A domain is not ready within 50 ms, or a pair has no locked member 50 ms after both were unlocked (R43, R71). -/
def State.restartTimeout (s : State) (d : Nat) : State :=
  if inR 1 7 d && ((s.dom d).step != 0 || (d == 1 && s.mode != .regulate && (!s.pairRuns 0 || !s.pairRuns 1))) then s.domainFailed d
  else s

/-! Supplies and temperature (R440). -/

/-- The operating range of a supply in mV (Table 21.1). -/
def supRange (sup : Nat) : Nat × Nat :=
  [(700, 850), (760, 840), (1140, 1260), (1710, 1890), (1710, 1890), (3135, 3465)].getD sup (0, 0)

/-- Loads a 1 ms mean of a supply. Log entry 41: DESIGN CHOICE. -/
def State.supLevel (s : State) (sup mv : Nat) : State :=
  let s := s.put (F.SUP_LEVEL_MV sup) mv
  let s := s.when (Nat.blt mv (s.get (F.SUP_MIN_MV sup))) (·.put (F.SUP_MIN_MV sup) mv)
  s.when (Nat.blt (s.get (F.SUP_MAX_MV sup)) mv) (·.put (F.SUP_MAX_MV sup) mv)

/-- The mean of a supply leaves its range: the event, and a fault of every switched domain that it feeds (R402, R440, R445). -/
def State.supplyExit (s : State) (sup mv : Nat) : State :=
  if !Nat.blt sup 6 || Nat.ble 65536 mv || inR (supRange sup).1 (supRange sup).2 mv then s
  else
    let s := s.supLevel sup mv
    let s := (s.mask F.SUP_STATUS_IN_RANGE sup false).mask F.SUP_STATUS_RANGE_EV sup true
    s.each (fedBy sup) (fun d t => t.domainFault d 1)

/-- The mean of a supply returns into its range (R440). -/
def State.supplyReturn (s : State) (sup mv : Nat) : State :=
  if Nat.blt sup 6 && inR (supRange sup).1 (supRange sup).2 mv then (s.supLevel sup mv).mask F.SUP_STATUS_IN_RANGE sup true else s

/-- Loads a junction temperature: signed, in 0.01 °C. -/
def State.tempLevel (s : State) (t : Nat) : State :=
  let s := s.put F.SUP_TEMP_TEMP t
  let s := s.when (decide (sext 16 t < sext 16 (s.get F.SUP_TEMP_MIN_TEMP))) (·.put F.SUP_TEMP_MIN_TEMP t)
  s.when (decide (sext 16 (s.get F.SUP_TEMP_MAX_TEMP) < sext 16 t)) (·.put F.SUP_TEMP_MAX_TEMP t)

/-- The mean of a supply in range as a read of its registers finds it: a free value within the range (R440, Table 20.7). Log entry 41: DESIGN
CHOICE. -/
def State.supSampled (s : State) (sup : Nat) : State :=
  if s.dead || !bit (s.get F.SUP_STATUS_IN_RANGE) sup then s
  else
    let d := s.draw
    let r := supRange sup
    d.2.supLevel sup (r.1 + d.1 % (r.2 - r.1 + 1))

/-- The junction temperature as a read of its registers finds it: a free value between the alarm thresholds, on the side of the warning threshold
that TEMP_WARN shows (R349, R440). Log entry 41: DESIGN CHOICE. -/
def State.tempSampled (s : State) : State :=
  if s.dead then s
  else
    let d := s.draw
    let warn : Nat := 100 * s.get F.SUP_TEMP_WARN_DEG
    let v : Int := if s.on F.SUP_STATUS_TEMP_WARN then (warn : Int) - 300 + ((d.1 % (12801 - warn) : Nat) : Int) else ((d.1 % (warn + 5000) : Nat) : Int) - 5000
    d.2.tempLevel (toBits 16 v)

/-- The junction reaches the warning threshold (R440). -/
def State.tempRise (s : State) (t : Nat) : State :=
  if decide ((100 * s.get F.SUP_TEMP_WARN_DEG : Nat) ≤ sext 16 t) && !s.on F.SUP_STATUS_TEMP_WARN then
    ((s.tempLevel t).up F.SUP_STATUS_TEMP_WARN).up F.SUP_STATUS_TEMP_WARN_EV
  else s

/-- The junction falls 3 °C below the threshold (R440). -/
def State.tempFall (s : State) (t : Nat) : State :=
  if decide (sext 16 t ≤ (100 * s.get F.SUP_TEMP_WARN_DEG : Nat) - (300 : Int)) && s.on F.SUP_STATUS_TEMP_WARN then
    (s.tempLevel t).down F.SUP_STATUS_TEMP_WARN
  else s

end Sys2Proof.Machine
end

