-- ==== Sys2Proof/Machine/Timebase.lean ====
section
/-! DEFINITION. References, movements at work, re-locks and changes of frequency, `PPS_IN` and the time (04_movements.md), and the end of
REGULATE (R26, R99). -/

namespace Sys2Proof.Machine

/-- Whether two numbers differ by at most `tol`. -/
def near (a b tol : Nat) : Bool := Nat.ble a (b + tol) && Nat.ble b (a + tol)

/-! Steps of a pair (R76, R78, R79, R81). -/

/-- The divider N of a movement (Table 4.2). -/
def State.divN (s : State) (m : Nat) : Nat := if m < 2 then 480 else if (s.mov m).fam = 0 then 153600 else 141120

/-- The loads of a pair move to a member; with the audio family, the ports follow (R76, R79, R318). Log entry 58: DEDUCED. -/
def State.moveLoads (s : State) (p m : Nat) : State :=
  let before := (s.carrier p).map (fun a => (s.mov a).fam)
  let s := s.carry p m
  if p = 1 && before.isSome && before != some (s.mov m).fam then s.audioFamily (s.mov m).fam else s

/-- Whether a search of a member is the one that its pair wants now: on the pair's reference, with its family. -/
def State.asWanted (s : State) (p m : Nat) : Bool :=
  s.on (F.TB_MOV_STATUS_ON_TCXO m) == (s.pair p).tcxo && (p == 0 || (s.mov m).fam == (s.pair p).fam % 2)

/-- A member searches with what its pair wants. -/
def State.pairSearch (s : State) (p m : Nat) : State :=
  (s.putMov m { s.mov m with missed := 0, fam := (s.pair p).fam % 2 }).search m (s.pair p).tcxo

/-- The first step of a pair's work goes on as far as it can at once: a member that no load needs searches, a trim before a move begins,
and a step that needs a member that is not locked is held (R76, R78). The steps done are counted down. Log entry 60: DEDUCED. -/
def State.advance (s : State) (p : Nat) : Nat → State
  | 0 => s
  | k + 1 =>
    match (s.pair p).todo with
    | [] => if Nat.ble 2 (s.pair p).fam then s.putPair p { s.pair p with fam := (s.pair p).fam % 2 } else s
    | .move m :: rest =>
      if s.carrier p == some m || s.movRetired m then (s.putPair p { s.pair p with todo := rest }).advance p k
      else if !s.locked m then s
      else if s.pairRuns p then
        if s.trimming.contains p then s else s.setTrimming (s.trimming ++ [p])
      else ((s.moveLoads p m).putPair p { s.pair p with todo := rest }).advance p k
    | .lock m :: rest =>
      if s.movRetired m then (s.putPair p { s.pair p with todo := rest }).advance p k
      else if s.get (F.TB_MOV_STATUS_STATE m) == 1 || s.get (F.TB_MOV_STATUS_STATE m) == 2 then
        if s.asWanted p m then s else s.pairSearch p m
      else if s.carrier p == some m && s.locked m then
        -- the loads leave it first, once the other member is locked (R78)
        if s.locked (twinOf m) && !s.movRetired (twinOf m) then
          (s.putPair p { s.pair p with todo := .move (twinOf m) :: .lock m :: rest }).advance p k
        else s
      else s.pairSearch p m

/-- Gives a pair more steps. -/
def State.pairDo (s : State) (p : Nat) (l : List Job) : State :=
  let x := s.pair p
  let s := s.putPair p { x with todo := x.todo ++ l }
  s.advance p (2 * (x.todo.length + l.length) + 2)

/-- Whether a member of a pair is retired, so that the other carries alone (R465). -/
def State.alone (s : State) (p : Nat) : Bool := s.movRetired (2 * p) || s.movRetired (2 * p + 1)

/-- A pair goes to another reference: the member that does not carry first, then the other; the home member ends up carrying (R36, R81).
A member that carries alone stays as it is, or closes its loop on `REFIN` again (R465). -/
def State.reReference (s : State) (p : Nat) (tcxo : Bool) : State :=
  let s := s.setTrimming (s.trimming.filter (· != p))
  if s.alone p then
    s.each ([2 * p, 2 * p + 1].filter (fun m => !tcxo && s.on (F.TB_MOV_STATUS_HOLDOVER m) && !s.on (F.TB_MOV_STATUS_ON_TCXO m)))
      (fun m t => t.down (F.TB_MOV_STATUS_HOLDOVER m))
  else
    let a := (s.carrier p).getD (homeMov p)
    let b := twinOf a
    let back := if a = homeMov p then [Job.move a] else []
    (s.putPair p { s.pair p with tcxo := tcxo, todo := [] }).pairDo p ([.lock b, .move b, .lock a] ++ back)

/-! The end of DRIFT (R36). -/

/-- Whether every movement that is not retired has declared lock on `REFIN`. -/
def State.backOnRefin (s : State) : Bool :=
  (List.range 4).all (fun m => s.movRetired m ||
    (s.locked m && !s.on (F.TB_MOV_STATUS_ON_TCXO m) && !s.on (F.TB_MOV_STATUS_HOLDOVER m)))

/-- DRIFT ends once `REFIN` is qualified and the last movement has declared lock on it (R36). -/
def State.driftOver (s : State) : State :=
  if s.mode == .drift && s.boot.isNone && s.on F.TB_REF_STATUS_REFIN_OK && s.backOnRefin then
    (s.enterMode .run cRefinQualified 0).surveyDeferred
  else s

/-! Lock and loss of lock (R68 to R71, R75). -/

/-- The 7 steps of a binary band search: a count at or below 2 × N keeps the bit (R68). -/
def bandOf (n : Nat) (counts : List Nat) : Nat :=
  (counts.zipIdx.map (fun e => if Nat.ble e.1 (2 * n) then 2 ^ (6 - e.2) else 0)).sum

/-- The band search of a movement completes: its loop closes, out of holdover, and its lock windows start (R68, R81). -/
def State.bandDone (s : State) (m : Nat) (counts : List Nat) : State :=
  if Nat.blt m 4 && s.get (F.TB_MOV_STATUS_STATE m) == 1 && counts.length == 7 then
    (((s.put (F.TB_MOV_STATUS_BAND m) (bandOf (s.divN m) counts)).put (F.TB_MOV_STATUS_STATE m) 2).down (F.TB_MOV_STATUS_HOLDOVER m)).putMov m
      { s.mov m with good := 0, bad := 0 }
  else s

/-- A movement is retired: its twin carries alone, the pair's steps are held, and the pair keeps the reference that the twin is on (R75, R399,
R465). -/
def State.movRetire (s : State) (m : Nat) : State :=
  let p := pairOf m
  let s := (s.movIdle m).setTrimming (s.trimming.filter (· != p))
  let s := s.putPair p { s.pair p with todo := [], tcxo := s.on (F.TB_MOV_STATUS_ON_TCXO (twinOf m)) }
  if s.carrier p == some m && s.locked (twinOf m) then s.moveLoads p (twinOf m) else s

/-- A movement declares lock. Where its re-lock was a self-test, the event is classified; the pair's steps go on, and the home member takes
the loads back after a trim (R69, R75, R76). -/
def State.lockDeclared (s : State) (m : Nat) : State :=
  let p := pairOf m
  let s := ((s.up (F.TB_MOV_STATUS_LOCKED m)).put (F.TB_MOV_STATUS_STATE m) 3).putMov m { s.mov m with good := 0, bad := 0, missed := 0 }
  match s.classify .movement m true with
  | (s, .again) => s.pairSearch p m
  | (s, .lasting) => s.movRetire m
  | (s, _) =>
    let s := s.showMovements
    let x := s.pair p
    let s := match x.todo with
      | .lock n :: rest => if n == m && s.asWanted p m then s.putPair p { x with todo := rest } else s
      | _ => s
    let s := if !s.pairRuns p then s.moveLoads p m else s
    let back := (s.pair p).todo.isEmpty && m == homeMov p && s.carrier p != some m
    (s.pairDo p (if back then [.move m] else [])).driftOver

/-- A locked movement declares loss of lock: its twin takes the loads, and its re-lock is its self-test; with both members unlocked the
outputs are gated and TIMEBASE has failed (R69 to R71, R75). Log entry 58: DEDUCED. -/
def State.lockLost (s : State) (m detector : Nat) (injected : Bool := false) : State :=
  if !(Nat.blt m 4 && s.locked m && !s.movRetired m) then s
  else
    let p := pairOf m
    let t := twinOf m
    let carried := s.carrier p == some m
    let s := (s.bump (F.TB_MOV_COUNT_LOSS_COUNT m)).error detector .movement m .detected { injected := injected }
    let s := (s.down (F.TB_MOV_STATUS_LOCKED m)).setTrimming (s.trimming.filter (· != p))
    let s := if carried && s.locked t then (s.moveLoads p t).up F.TB_REF_STATUS_SWITCH_EV else s
    let s := (s.startTest .movement m detector injected).pairSearch p m
    let s := s.advance p (2 * (s.pair p).todo.length + 2)
    if s.locked t || s.mode == .regulate then s else s.domainFault 1 5 injected

/-- A lock window ends (R69); a movement in holdover has no comparison periods (R81). -/
def State.lockWindow (s : State) (m count : Nat) : State :=
  let st := s.get (F.TB_MOV_STATUS_STATE m)
  if !Nat.blt m 4 || s.on (F.TB_MOV_STATUS_HOLDOVER m) then s
  else
    let x := s.mov m
    let ok := inR 1023 1025 count
    if st = 2 then
      if !ok then s.putMov m { x with good := 0 }
      else if x.good = 3 then s.lockDeclared m
      else s.putMov m { x with good := x.good + 1 }
    else if st = 3 then
      if ok then s.putMov m { x with bad := 0 }
      else if x.bad = 1 then (s.putMov m { x with bad := 0 }).lockLost m 0x0101
      else s.putMov m { x with bad := x.bad + 1 }
    else s

/-- A movement misses its lock bound: it searches once more, and after a second miss it has failed (R69); in a self-test the misses
are its failed runs (R75, R398). Log entry 60: DEDUCED. -/
def State.lockMissed (s : State) (m : Nat) : State :=
  let st := s.get (F.TB_MOV_STATUS_STATE m)
  if !(Nat.blt m 4 && (st == 1 || st == 2)) then s
  else
    let p := pairOf m
    if (s.unit .movement m).testing then
      match s.classify .movement m false with
      | (s, .lasting) => s.movRetire m
      | (s, _) => s.pairSearch p m
    else if (s.mov m).missed = 0 then
      let s := s.pairSearch p m
      s.putMov m { s.mov m with missed := 1 }
    else s.movIdle m

/-- The phase error of a locked movement exceeds a quarter of a comparison period (R70). -/
def State.slip (s : State) (m : Nat) (injected : Bool := false) : State :=
  if s.on (F.TB_MOV_STATUS_HOLDOVER m) then s else s.lockLost m 0x0102 injected

/-- The reference frequency that a movement runs on, in Hz. -/
def State.refHz (s : State) (m : Nat) : Nat :=
  if s.on (F.TB_MOV_STATUS_ON_TCXO m) then 40000000 else if s.on F.TB_REF_CFG_REFIN_FREQ then 20000000 else 10000000

/-- Nominal f_VCO ÷ 2 counts of a movement in one reference period, in thousandths (R70). -/
def State.guardNominal (s : State) (m : Nat) : Nat := s.divN m * (if m < 2 then 10000000 else 16000) / 2 * 1000 / s.refHz m

/-- The twin guard compares both members of a pair, where both are locked alike (R70); the counts are in hundredths.
Log entry 114: DESIGN CHOICE. -/
def State.twinGuard (s : State) (p c0 c1 : Nat) : State :=
  let a := 2 * p
  let b := a + 1
  let alike := s.on (F.TB_MOV_STATUS_ON_TCXO a) == s.on (F.TB_MOV_STATUS_ON_TCXO b) && (s.mov a).fam == (s.mov b).fam &&
    !s.on (F.TB_MOV_STATUS_HOLDOVER a) && !s.on (F.TB_MOV_STATUS_HOLDOVER b)
  if !(Nat.blt p 2 && s.locked a && s.locked b && alike) || near c0 c1 200 then s
  else
    let nom := s.guardNominal a
    let far (c : Nat) : Nat := (10 * c - nom) + (nom - 10 * c)
    let lost := if Nat.blt (far c1) (far c0) then a else if Nat.blt (far c0) (far c1) then b
      else twinOf ((s.carrier p).getD a)
    s.lockLost lost 0x0103

/-- A trim completes: the residual lag shows, and the loads move at a period boundary; the sample pair's wait for the pilot window to close
(R76, R359). Log entry 146: DEDUCED. -/
def State.trimDone (s : State) (p skew : Nat) : State :=
  if !(Nat.blt p 2 && s.trimming.contains p) || (p == 0 && s.pilotWindow) then s
  else
    let s := (s.setTrimming (s.trimming.filter (· != p))).put (if p = 0 then F.TB_TWIN_SKEW_SAMPLE else F.TB_TWIN_SKEW_AUDIO) skew
    let x := s.pair p
    match x.todo with
    | .move m :: rest =>
      if s.locked m then ((s.moveLoads p m).putPair p { x with todo := rest }).pairDo p [] else s
    | _ => s

/-! References (R35, R36, R66, R81, R82). -/

/-- `REFIN` is lost while the device runs: the charge pumps of all four movements go to high impedance, and the pairs go to `TCXO_IN`
(R81). -/
def State.holdover (s : State) : State :=
  let s := s.each ((List.range 4).filter (fun m => !s.movRetired m && s.get (F.TB_MOV_STATUS_STATE m) != 0))
    (fun m t => t.up (F.TB_MOV_STATUS_HOLDOVER m))
  (s.reReference 0 true).reReference 1 true

/-- A qualified `REFIN` is lost (R35, R66, R81). -/
def State.refinLost (s : State) (injected : Bool := false) : State :=
  let old := s.mode
  let s := (s.down F.TB_REF_STATUS_REFIN_OK).up F.TB_REF_STATUS_REFIN_LOST_EV
  let s := s.setRefCount { s.refCount with refinGood := 0, refinBad := 0, lost := s.mode == .regulate }
  let s := s.error 0x0104 .supervisor 0 .detected { injected := injected }
  if s.mode == .wind || s.mode == .anchor || s.boot.isSome then s
  else if !s.on F.TB_REF_STATUS_TCXO_OK then s.enterAnchor cNoReference 0 4 injected
  else
    let s := if s.mode == .run || s.mode == .survey then
        (s.enterMode .drift cRefinLost old.code injected).when (old == .survey) (·.surveyOver) else s
    s.holdover

/-- `REFIN` misses an edge or fails two windows. One that never qualified only ceases to serve the searches of REGULATE (R66, R81).
Log entry 59: DEDUCED. -/
def State.refinGone (s : State) (edge : Bool) (injected : Bool := false) : State :=
  if s.dead then s
  else
    let was := s.refCount.refin
    let s := s.when edge (fun s => s.setRefCount { s.refCount with refin := false, refinGood := 0, refinBad := 0 })
    if s.on F.TB_REF_STATUS_REFIN_OK then s.refinLost injected
    else if edge && was && s.mode == .regulate then s.regulateMovements
    else s

/-- `TCXO_IN` is lost; in DRIFT without `REFIN`, nothing is left to run on (R66, Table 2.8). Log entry 59: DEDUCED. -/
def State.tcxoLost (s : State) (edge : Bool) (injected : Bool := false) : State :=
  if s.dead then s
  else
    let s := s.setRefCount { s.refCount with tcxo := s.refCount.tcxo && !edge, tcxoGood := 0 }
    if !s.on F.TB_REF_STATUS_TCXO_OK then s
    else
      let s := (s.down F.TB_REF_STATUS_TCXO_OK).up F.TB_REF_STATUS_TCXO_LOST_EV
      let s := s.error 0x0105 .supervisor 0 .detected { injected := injected }
      if s.mode == .drift && !s.on F.TB_REF_STATUS_REFIN_OK then s.enterAnchor cNoReference 0 4 injected else s

/-- `REFIN` qualifies: in DRIFT, and in a REGULATE that ran on `TCXO_IN`, the pairs return to it (R36, R81, R465). -/
def State.refinQualified (s : State) : State :=
  let s := (s.up F.TB_REF_STATUS_REFIN_OK).setRefCount { s.refCount with lost := false }
  let off := !((List.range 4).all (fun m => s.movRetired m ||
    (!s.on (F.TB_MOV_STATUS_ON_TCXO m) && !s.on (F.TB_MOV_STATUS_HOLDOVER m))))
  if (s.mode == .drift || s.mode == .regulate) && off then ((s.reReference 0 false).reReference 1 false).driftOver
  else s.driftOver

/-- `TCXO_OK` follows the counters and TCXO_FITTED (R66). -/
def State.tcxoShow (s : State) : State :=
  if !s.on F.TB_REF_CFG_TCXO_FITTED then s.down F.TB_REF_STATUS_TCXO_OK
  else s.when (Nat.ble 10 s.refCount.tcxoGood) (·.up F.TB_REF_STATUS_TCXO_OK)

/-- A 100 ms window of the reference counters ends: each input is judged, timed by the other while that is there (R36, R66). Log entry 59: DEDUCED. -/
def State.refWindow (s : State) (refin tcxo : Nat) : State :=
  if s.dead then s
  else
    let nom := if s.on F.TB_REF_CFG_REFIN_FREQ then 2000000 else 1000000
    let c := s.refCount
    let rGood := refin != 0 && (tcxo == 0 || near refin nom (nom / 100000))
    let rBad := refin == 0 || (tcxo != 0 && !near refin nom (nom / 50000))
    let tGood := tcxo != 0 && (refin == 0 || near tcxo 4000000 80)
    let first := refin != 0 && !c.refin && !c.lost
    let c : RefCount := ⟨c.lost, refin != 0, if rGood then min 10 (c.refinGood + 1) else 0, if rBad then c.refinBad + 1 else 0,
      tcxo != 0, if tGood then min 10 (c.tcxoGood + 1) else 0⟩
    let trusted := s.on F.TB_REF_STATUS_REFIN_OK
    let s := (s.setRefCount c).when (first && s.mode == .regulate && !trusted) (·.regulateMovements)
    let s := if s.on F.TB_REF_STATUS_TCXO_OK && (tcxo == 0 || (trusted && !tGood)) then s.tcxoLost (tcxo == 0) else s.tcxoShow
    if s.on F.TB_REF_STATUS_REFIN_OK then
      if refin == 0 || Nat.ble 2 c.refinBad then s.refinLost else s
    else if Nat.ble 10 c.refinGood then s.refinQualified else s

/-- A 10 s window of the offset measurement ends (R82). Log entry 114: DESIGN CHOICE. -/
def State.offsetWindow (s : State) (off : Nat) : State :=
  if s.on F.TB_REF_STATUS_REFIN_OK && s.on F.TB_REF_STATUS_TCXO_OK then
    ((s.put F.TB_TCXO_OFFSET_OFFSET off).up F.TB_REF_STATUS_OFFSET_VALID)
  else s

/-! Commands (R79, R80). -/

/-- Writes a register with a rule of its own whose refusal shows in `TB_REF_STATUS.CMD_REFUSED`. -/
def State.tbCommand (s : State) (src a w : Nat) (rule : Rule) : State × Option (Nat × Nat) :=
  let gated := s.gated src a
  match s.write src a w rule with
  | (s, none) => (if gated && a != 0x105 then s else s.up F.TB_REF_STATUS_CMD_REFUSED, none)
  | r => r

/-- The movements that a word of `TB_PAIR_CMD` names. -/
def namedMovs (w : Nat) : List Nat := (List.range 4).filter (bit w)

/-- The refusal rule of `TB_PAIR_CMD` (R80). Log entry 61: DEDUCED. -/
def relockRule : Rule := fun s _ w =>
  if Nat.blt 1 (namedMovs w).length || (namedMovs w).any (fun m => !s.locked (twinOf m)) || !s.serving then some resValue else none

/-- A write of `TB_PAIR_CMD`: the named movement re-locks, its loads with the other member meanwhile (R78, R80, R465). Log entry 61: DEDUCED. -/
def State.relock (s : State) (src w : Nat) : State :=
  match s.tbCommand src 0x105 w relockRule with
  | (s, none) => s
  | (s, some _) =>
    match namedMovs w with
    | m :: _ =>
      let p := pairOf m
      if s.alone p then s
      else s.pairDo p ((if s.carrier p == some m then [.move (twinOf m)] else []) ++ [.lock m, .move (homeMov p)])
    | [] => s

/-- The refusal rule of `TB_AUDIO_CFG` (R79, R465). -/
def familyRule : Rule := fun s _ _ => if s.alone 1 || Nat.ble 2 (s.pair 1).fam then some resValue else none

/-- A write of `TB_AUDIO_CFG.FAMILY`: D, then C, change N and lock while the other carries (R79). Log entry 114: DESIGN CHOICE. -/
def State.familyWrite (s : State) (src w : Nat) : State :=
  match s.tbCommand src 0x106 w familyRule with
  | (s, none) => s
  | (s, some (old, new)) =>
    if old % 2 = new % 2 then s
    else (s.putPair 1 { s.pair 1 with fam := 2 + new % 2 }).pairDo 1 [.lock 3, .move 3, .lock 2, .move 2]

/-! `PPS_IN` and the time (R85 to R87). -/

/-- The largest error that an edge may have: 10 µs, in ps. -/
def ppsNear : Nat := 10000000

/-- Sets the counter to a number of nanoseconds. -/
def State.setTime (s : State) (t : Nat) : State := (s.setSec (t / 1000000000)).setNs (t % 1000000000)

/-- Steers a difference to zero: what remains to be added to the counter, in ps (R85). Log entry 56: DEDUCED. -/
def State.steerBy (s : State) (err : Int) : State :=
  (s.setSteer (-err, 0)).put F.TB_PPS_STATUS_SLEWING (b2n (decide (err ≠ 0)))

/-- The counter takes the pending seconds value, at an instant `late` ns after the whole second (R85, R87). -/
def State.takeTime (s : State) (late : Int) : State :=
  match s.timeSet with
  | some v => (((s.setTime ((v * 1000000000 : Nat) + late).toNat).setTimeSet none).setSteer (0, 0)).down F.TB_PPS_STATUS_SLEWING
  | none => s

/-- The delay of `PPS_IN` that `TB_PPS_COMP` names, in ps (Table 4.7). -/
def State.ppsComp (s : State) : Int := 250 * sext 16 (s.get F.TB_PPS_COMP_DELAY)

/-- An active edge of `PPS_IN` (R85 to R87): `edge` is the edge less its predicted second in ps, `gap` the time since the previous edge less
1 s in ns. The edge less `TB_PPS_COMP` marks the second. `TB_PPS_ERROR` shows the 32 low bits of a difference. Log entry 57: DEDUCED. Log entry
138: DESIGN CHOICE. Log entry 138: DESIGN CHOICE. -/
def State.ppsEdge (s : State) (edge gap : Int) : State :=
  let err := edge - s.ppsComp
  let late := s.ppsComp / 1000
  if s.dead then s
  else if s.on F.TB_PPS_STATUS_QUALIFIED then
    if s.ppsStep then
      let t := (s.sec * 1000000000 + s.ns : Nat) - err / 1000
      let s := ((s.setPpsStep false).setTime t.toNat).up F.TB_PPS_STATUS_STEPPED
      let s := (s.put F.TB_PPS_ERROR_ERROR (toBits 32 err)).error 0x0106 .supervisor 0 .detected
      (s.takeTime late)
    else if Nat.blt ppsNear err.natAbs then s.bump F.TB_PPS_STATUS_STRAY
    else if s.timeSet.isSome then ((s.put F.TB_PPS_ERROR_ERROR (toBits 32 err)).takeTime late)
    else ((s.put F.TB_PPS_ERROR_ERROR (toBits 32 err)).steerBy err)
  else if Nat.blt 1000 gap.natAbs then s.setPpsGood 0
  else if Nat.blt s.ppsGood 2 then s.setPpsGood (s.ppsGood + 1)
  else
    let s := ((s.setPpsGood 0).up F.TB_PPS_STATUS_QUALIFIED).up F.TB_REF_STATUS_PPS_OK
    let s := (s.down F.TB_PPS_STATUS_HOLDOVER).put F.TB_PPS_ERROR_ERROR (toBits 32 err)
    (if Nat.ble err.natAbs 1000000000 then s.steerBy err else s.setPpsStep true)

/-- No edge comes within 10 µs after a predicted second (R86). -/
def State.ppsLost (s : State) (injected : Bool := false) : State :=
  if !s.on F.TB_PPS_STATUS_QUALIFIED then s
  else
    let s := ((s.down F.TB_PPS_STATUS_QUALIFIED).down F.TB_REF_STATUS_PPS_OK).up F.TB_PPS_STATUS_HOLDOVER
    let s := ((s.up F.TB_REF_STATUS_PPS_LOST_EV).down F.TB_PPS_STATUS_SLEWING).setSteer (0, 0)
    let s := (s.setPpsGood 0).setPpsStep false
    (s.error 0x0106 .supervisor 0 .detected { injected := injected })

/-- One nanosecond of steering: at most 10 ps (R85). Log entry 56: DEDUCED. -/
def State.steerTick (s : State) : State :=
  let r := s.steer.1
  if r = 0 then s
  else
    let d := max (-10) (min 10 r)
    let a := s.steer.2 + d
    let t : Int := (s.sec * 1000000000 + s.ns : Nat)
    let s := s.setSteer (r - d, if decide (a.natAbs < 1000) then a else 0)
    let s := if decide (a.natAbs < 1000) then s else s.setTime (t + (if 0 < a then 1 else -1)).toNat
    s.when (decide (r - d = 0)) (fun s => (s.down F.TB_PPS_STATUS_SLEWING))

/-- A write of `TB_TIME_SET` (R87). -/
def State.timeWrite (s : State) (src a w : Nat) : State :=
  match s.write src a w with
  | (s, some (_, new)) => s.setTimeSet (some (new % 2 ^ 34))
  | (s, none) => s

/-- Without a qualified `PPS_IN` the counter takes the pending value at its next whole second (R87). -/
def State.wholeSecond (s : State) : State := if s.on F.TB_PPS_STATUS_QUALIFIED then s else s.takeTime 0

/-! The end of REGULATE (R26, R66, R99, Table 2.8). -/

/-- Whether the movements let REGULATE end: each pair has a locked carrier, every movement that has not failed is locked, and no load is
about to move. Log entry 60: DEDUCED. -/
def State.allLocked (s : State) : Bool :=
  s.pairRuns 0 && s.pairRuns 1 && s.trimming.isEmpty &&
  (List.range 4).all (fun m => s.movRetired m || s.locked m || s.get (F.TB_MOV_STATUS_STATE m) == 0)

/-- Whether every locked movement runs on `REFIN`. -/
def State.allRefin (s : State) : Bool :=
  (List.range 4).all (fun m => !s.locked m || (!s.on (F.TB_MOV_STATUS_ON_TCXO m) && !s.on (F.TB_MOV_STATUS_HOLDOVER m)))

/-- Whether every locked movement runs on `TCXO_IN`. -/
def State.allTcxo (s : State) : Bool := (List.range 4).all (fun m => !s.locked m || s.on (F.TB_MOV_STATUS_ON_TCXO m))

/-- REGULATE ends after `ms`: to RUN on `REFIN`, to DRIFT on `TCXO_IN`. An input that is present and not yet qualified is waited for within
3 s (R66); movements still on one that then counts as absent go to `TCXO_IN` as after its loss (R81). Log entry 115: DESIGN CHOICE. -/
def State.regulated (s : State) (ms : Nat) (dIntake : List Nat × List Nat) (uIntake : Nat × Nat) : State :=
  if !(s.mode == .regulate && s.boot.isNone && s.sweeping.isNone && s.allLocked) then s
  else
    let refin := s.on F.TB_REF_STATUS_REFIN_OK && s.allRefin
    let waits := s.refCount.refin && !s.on F.TB_REF_STATUS_REFIN_OK && Nat.blt ms 3000
    let tcxo := !s.on F.TB_REF_STATUS_REFIN_OK && s.on F.TB_REF_STATUS_TCXO_OK && !waits
    if !refin && !tcxo then s
    else
      let s := ((s.tablesBuilt.setDIntake dIntake).setUIntake uIntake).put F.CAL_REG_TIME_DURATION (min 65535 ms)
      let s := if refin then s.enterMode .run cRegulated 0
        else (s.enterMode .drift cRegulatedNoRefin 0).when (!s.allTcxo) (fun t => (t.reReference 0 true).reReference 1 true)
      s.serviceBegin.surveyDeferred

/-- At 3 s no reference is usable, or a pair has no locked member (R26, Table 2.9). -/
def State.regulateTimeout (s : State) : State :=
  if s.mode != .regulate then s
  else if !s.on F.TB_REF_STATUS_REFIN_OK && !s.on F.TB_REF_STATUS_TCXO_OK then s.enterAnchor cNoReference 0 4
  else
    let bad (p : Nat) : Bool := !s.locked (2 * p) && !s.locked (2 * p + 1)
    if bad 0 && bad 1 then s.enterAnchor cLockFail 2 4
    else if bad 0 then s.enterAnchor cLockFail 0 4
    else if bad 1 then s.enterAnchor cLockFail 1 4
    else s

end Sys2Proof.Machine
end

