-- ==== Sys2Proof/Machine/Memory.lean ====
section
/-! DEFINITION. The protected memories: the DEC-TED code, reads and scrubbing, the self-test of a word, and row replacement (R388 to
R394, R401). A word is held as the pattern of its wrong bits, since the code is linear: what the checker
finds does not depend on the data. -/

namespace Sys2Proof.Machine

/-! The field GF(2⁷) with p(x) = x⁷ + x³ + 1 (R388). -/

/-- Multiplication by α. -/
def gfDouble (x : Nat) : Nat := if Nat.ble 64 x then (2 * x) ^^^ 0x89 else 2 * x

/-- α to a power. -/
def gfPow : Nat → Nat
  | 0 => 1
  | n + 1 => gfDouble (gfPow n)

/-- The logarithm of an element other than 0; 0x7F for 0, as the DATA words have it (Table 18.11). -/
def gfLog (x : Nat) : Nat := ((List.range 127).find? (fun i => gfPow i == x)).getD 0x7F

/-- A product. -/
def gfMul (x y : Nat) : Nat := if x = 0 || y = 0 then 0 else gfPow ((gfLog x + gfLog y) % 127)

/-! The code (R388 to R390). -/

/-- The code position of a stored bit; the parity bit 78 has none (Table 18.1). -/
def codePos (b : Nat) : Nat := if b < 64 then 14 + b else b - 64

/-- The stored bit at a code position. -/
def storedBit (i : Nat) : Nat := if i < 14 then 64 + i else i - 14

/-- The stored bits that are wrong, apart from the parity bit, as code positions. -/
def wrongAt (e : Nat) : List Nat := ((List.range 78).filter (bit e)).map codePos

/-- The syndrome at α to the power `k`. -/
def syndrome (e k : Nat) : Nat := (wrongAt e).foldl (fun a i => a ^^^ gfPow (k * i % 127)) 0

/-- The parity over all 79 bits. -/
def parity (e : Nat) : Bool := ((List.range 79).filter (bit e)).length % 2 == 1

/-- The generator polynomial g(x), of degree 14: m₁(x) = x⁷ + x³ + 1 by m₃(x), the minimal polynomial of α³ (R388). -/
def genPoly : Nat := 0x4377

/-- The remainder of a polynomial of fewer than `14 + n` bits by g(x) = m₁(x) · m₃(x) (R388). -/
def polyRem : Nat → Nat → Nat
  | 0, x => x
  | n + 1, x => polyRem n (if bit x (14 + n) then x ^^^ 2 ^ n * genPoly else x)

/-- The check bits of 64 data bits: x¹⁴ · d(x) modulo g(x) (R388). -/
def checkBits (d : Nat) : Nat := polyRem 64 (d * 2 ^ 14)

/-- The 79 stored bits of a data word: data, check bits, and the parity that makes the number of ones even (R388, R389, Table 18.1). -/
def storedWord (d : Nat) : Nat :=
  let w := d + checkBits d * 2 ^ 64
  w + b2n (parity w) * 2 ^ 78

/-- What the checker finds (Table 18.2): nothing; corrected code positions with whether the parity bit too; uncorrectable. -/
inductive Check where
  | clean
  | fixed (positions : List Nat) (parity : Bool)
  | bad
  deriving DecidableEq, Repr

/-- The valid roots of the locator polynomial for two errors. -/
def locate (s1 s3 : Nat) : List Nat :=
  let c := gfMul (s3 ^^^ gfMul s1 (gfMul s1 s1)) (gfPow ((127 - gfLog s1) % 127))
  (List.range 78).filter (fun i =>
    let z := gfPow ((127 - i) % 127)
    (1 ^^^ gfMul s1 z ^^^ gfMul c (gfMul z z)) == 0)

/-- The checker on a word with wrong bits `e` (R390, Table 18.2). -/
def check (e : Nat) : Check :=
  let s1 := syndrome e 1
  let s3 := syndrome e 3
  let p := parity e
  if s1 = 0 then (if s3 = 0 then (if p then .fixed [] true else .clean) else .bad)
  else if s3 = gfMul s1 (gfMul s1 s1) then
    (if Nat.ble (gfLog s1) 77 then .fixed [gfLog s1] (!p) else .bad)
  else if p then .bad
  else
    let roots := locate s1 s3
    if roots.length = 2 then .fixed roots false else .bad

/-- The wrong bits that remain after the correction. -/
def Check.apply (e : Nat) : Check → Nat
  | .fixed l p => (l.foldl (fun x i => x ^^^ 2 ^ storedBit i) e) ^^^ (if p then 2 ^ 78 else 0)
  | _ => e

/-- DATA2 of a memory-word entry (Table 18.11). -/
def wordData2 (e : Nat) : Nat := b2n (parity e) * 2 ^ 15 + gfLog (syndrome e 1) * 2 ^ 7 + gfLog (syndrome e 3)

/-- DATA3 of a memory-word entry: the corrected positions. -/
def wordData3 : Check → Nat
  | .fixed l _ => l.getD 0 0x7F * 256 + l.getD 1 0x7F
  | _ => 0x7F7F

/-! The memories (Table 18.3) and the words, by the addresses of `INJ_ADDR` (Table 18.14). -/

/-- Banks, rows of a bank, spare rows of a bank, words of a row. -/
def memShape : Nat → Nat × Nat × Nat × Nat
  | 1 => (48, 512, 8, 128) | 2 => (16, 128, 4, 128) | 3 => (16, 128, 4, 128) | 4 => (5, 128, 4, 128) | 5 => (1, 4, 0, 128)
  | 6 => (52, 4, 0, 96) | _ => (0, 0, 0, 0)

/-- The domain in which a memory lies. -/
def memDomain (mem : Nat) : Nat := if mem = 1 then 6 else if mem = 2 then 0 else if mem = 6 then 4 else 7

/-- The address of a word. -/
def wordAddr (mem bank row col : Nat) : Nat := mem * 2 ^ 28 + bank * 2 ^ 22 + row * 2 ^ 12 + col

/-- Its row, with memory and bank. -/
def rowOf (a : Nat) : Nat := a / 2 ^ 12

/-- Whether memory, bank, row and column exist; rows are physical ones, spares included. -/
def wordExists (a : Nat) : Bool :=
  let m := memShape (memOf a)
  Nat.blt (bits a 22 6) m.1 && Nat.blt (bits a 12 10) (m.2.1 + m.2.2.1) && Nat.blt (bits a 0 12) m.2.2.2

/-- The lane of a coefficient-bank word. -/
def laneOfWord (a : Nat) : Nat := bits a 22 6 * 2 + bits a 12 1

/-- Whether a row has been replaced, or waits for its copy (R401). -/
def State.rowGone (s : State) (row : Nat) : Bool := s.rowMap.any (·.1 == row) || s.rowsDue.contains row

/-- Detector of a memory: corrected and uncorrectable (Table 18.5). -/
def memDetector (mem : Nat) (corrected : Bool) : Nat :=
  if mem = 6 then (if corrected then 0x0507 else 0x0302)
  else (if mem = 1 then 0x0501 else if mem = 2 then 0x0503 else 0x0505) + (if corrected then 0 else 1)

/-- What an entry about a word says; it carries INJECTED where the wrong bits come from an injection (R407). Log entry 27: DEDUCED. -/
def wordArgs (a d2 d3 attempt : Nat) (injected : Bool) : EArgs :=
  { attempt := attempt, injected := injected, d0 := bits a 16 16, d1 := bits a 0 16, d2 := d2, d3 := d3 }

/-- A detection at a word starts its self-test; one that is running is joined (R391, R398). -/
def State.wordTest (s : State) (a detector : Nat) : State :=
  let r := s.word a
  if r.testing then s
  else s.putWord a { r with testing := true, detector := detector, injected := s.injWords.contains a, runs := 0 }

/-- Whether another copy of what a word holds exists (R391, R393). Log entry 29: DEDUCED. -/
def hasCopy : WordUse → Bool
  | .copied => true
  | _ => false

/-- An uncorrectable word by its content (Table 18.4): samples and deinterleaver cells become erasures, a journal entry is damaged, and the
coefficient banks and the key store have their own handling. Log entry 29: DEDUCED. -/
def State.wordBad (s : State) (a : Nat) (use : WordUse) : State :=
  let lost (n : Nat) (t : State) : State := t.when (Nat.blt n 96) (·.bump (F.BTH_ERASURES_COUNT n))
  let entry : State := (s.setDamaged ((use, a) :: s.damaged.filter (fun e => e.1 != use))).up F.ERR_STATUS_DAMAGED_EV
  match use with
  | .input n b i =>
    let gone (y : BSmp) : Bool := y.index == i && !bit y.marks mkErased
    if (s.input n b).any gone then
      lost n (s.putInput n b ((s.input n b).map (fun y => if gone y then { s.erasedAs n b y with marks := withMark y.marks mkErased } else y)))
    else s
  | .cell n => lost n s
  | .change _ => entry
  | .error _ => entry
  | _ => s

/-- Whether a memory is powered: its domain on or in retention (R392). -/
def State.memUp (s : State) (mem : Nat) : Bool :=
  memDomain mem == 0 || s.get (F.DOM_STATE (memDomain mem)) == dsOn || s.get (F.DOM_STATE (memDomain mem)) == dsRetention

/-- What has happened to a word since its last read: a write of its content, after which only stuck bits are wrong, and bits that have flipped
(R391, R406). Log entry 27: DEDUCED. -/
def State.wordMeets (s : State) (a : Nat) (x : WordSeen) : State :=
  let stuck := s.stuckBits a
  let s := s.when x.written (fun s =>
    ((s.putFlips a 0).setInjWords (s.injWords.filter (· != a))).setDamaged (s.damaged.filter (fun e => e.2 != a)))
  let s := s.putFlips a (x.upset.foldl (fun e b => e ^^^ 2 ^ b) (s.flipsAt a) ||| stuck)
  s.when (stuck != 0 && !s.injWords.contains a) (·.setInjWords (a :: s.injWords))

/-- A read or a scrub of a word (R390, R391, R394). The word is written back at the end of its self-test, for which every access
waits. Log entry 28: DEDUCED. Log entry 29: DEDUCED. -/
def State.wordRead (s : State) (a : Nat) (use : WordUse) : State :=
  let mem := memOf a
  let e := s.flipsAt a
  let c := check e
  let inj := s.injWords.contains a
  let args := wordArgs a (wordData2 e) (wordData3 c) 0 inj
  match c with
  | .clean => s
  | .fixed _ _ =>
    let s := (s.up F.PROT_STATUS_CORR_EV).bump F.PROT_CORRECTED_COUNT
    let d := memDetector mem true
    (s.error d .word 0 .corrected args).wordTest a d
  | .bad =>
    let s := (s.up F.PROT_STATUS_UNCORR_EV).bump F.PROT_UNCORRECTABLE_COUNT
    let d := memDetector mem false
    if mem = 6 then (s.laneFault (laneOfWord a) d { injected := inj }).wordTest a d
    else
      let s := (s.error d .word 0 .detected args).wordTest a d
      let s := s.setSingles ((if hasCopy use then [] else [a]) ++ s.singles.filter (· != a))
      (s.wordBad a use).when (mem == 5) (·.securityAlarm 3 inj)

/-- Whether a word can be read: it exists, its memory is powered, no self-test holds it, and its row has not been replaced (R391, R392,
R401). -/
def State.readable (s : State) (a : Nat) : Bool :=
  !s.dead && wordExists a && s.memUp (memOf a) && !(s.word a).testing && !s.rowGone (rowOf a)

/-- The scrubber reads a word; a pass ends with the last word of its memory (R392). Log entry 28: DEDUCED. -/
def State.scrub (s : State) (mem bank row col : Nat) (x : WordSeen) : State :=
  let a := wordAddr mem bank row col
  let s := if s.readable a then (s.wordMeets a x).wordRead a x.use else s
  if s.dead || !s.memUp mem then s
  else if mem = 1 && bank = 47 && row = 511 && col = 127 then s.bumpWrap F.PROT_SCRUB_PASSES_STORE
  else if mem = 2 && bank = 15 && row = 127 && col = 127 then s.bumpWrap F.PROT_SCRUB_PASSES_KEEP
  else s

/-- A scrub pass has not ended within 1.1 times its period (R392). Log entry 30: DEDUCED. -/
def State.scrubLate (s : State) (injected : Bool) : State :=
  if s.dead then s else (s.up F.PROT_STATUS_SCRUB_LATE).error 0x0508 .supervisor 0 .detected { injected := injected }

/-- The free spare rows of a bank, lowest first (R401); `row` is any row of the bank. -/
def State.freeRows (s : State) (row : Nat) : List Nat :=
  let bank := row / 2 ^ 10
  let m := memShape (bits row 16 4)
  ((List.range m.2.2.1).map (· + m.2.1)).filter (fun r => !s.rowMap.any (fun e => e.1 / 2 ^ 10 == bank && e.2 == r))

/-- The rows of a bank that wait for their copies. -/
def State.dueRows (s : State) (row : Nat) : List Nat := s.rowsDue.filter (fun r => r / 2 ^ 10 == row / 2 ^ 10)

/-- A word is classed LASTING: its row is retired, or its lane, or the key store raises its alarm (R399, R401, Table 18.7).
Log entry 30: DEDUCED. Log entry 31: DEDUCED. -/
def State.wordLasting (s : State) (a : Nat) (d : Nat) (args : EArgs) (recurs : Bool) : State :=
  let mem := memOf a
  let row := rowOf a
  let s := s.up F.PROT_STATUS_LASTING_EV
  if mem = 5 then (s.error d .word 0 .lasting args).securityAlarm 3 args.injected
  else if mem = 6 then
    ((s.error d .word 0 .lasting args).putWord a { s.word a with testing := false, retired := true, past := [] }).laneFault
      (laneOfWord a) 0x0302 { injected := args.injected }
  else
    match (s.freeRows row)[(s.dueRows row).length]? with
    | some r =>
      let s := s.error d .word 0 .lasting (if recurs then args else { args with d3 := r })
      s.setRowsDue (s.rowsDue ++ [row])
    | none =>
      -- no spare row: the spec states no DATA3 for the LASTING entry
      let x := s.draw
      (x.2.error d .word 0 .lasting (if recurs then args else { args with d3 := x.1 % 65536 })).error d .word 0 .noSpare args

/-- The pattern self-test of a word ends (R391, R398): the corrected word, the other copy, or without one the word as read is
written; bits that are stuck stay wrong.
Log entry 28: DEDUCED. Log entry 29: DEDUCED. -/
def State.wordTested (s : State) (a : Nat) (pass : Bool) : State :=
  let r := s.word a
  if !r.testing then s
  else
    let e := s.flipsAt a
    let c := check e
    let runs := r.runs + 1
    let args := wordArgs a (wordData2 e) (wordData3 c) runs r.injected
    let stuck := s.stuckBits a
    let good := pass && stuck == 0
    if !good && r.runs = 0 then s.putWord a { r with runs := 1 }
    else
      let left := stuck ||| (match c with
        | .bad => if s.singles.contains a then e else 0
        | _ => c.apply e)
      let s := (s.putFlips a left).setSingles (s.singles.filter (· != a))
      let s := s.when (left == 0) (·.setInjWords (s.injWords.filter (· != a)))
      let past := s.clock :: r.past.filter (fun t => s.clock < t + minuteNs)
      if good && past.length < 3 then
        (s.error r.detector .word 0 .transient args).putWord a { r with testing := false, past := past }
      else
        (s.putWord a { r with testing := false, past := [] }).wordLasting a r.detector (if good then { args with d3 := 3 } else args) good

/-- What stays wrong in the copy of a row: its uncorrectable words, at their places in row `r` of the same bank (R390, R401). -/
def State.rowLeft (s : State) (k r : Nat) : List (Nat × Nat) :=
  s.flips.filterMap (fun e => if rowOf e.1 == k && check e.2 == .bad then some (k / 2 ^ 10 * 2 ^ 22 + r * 2 ^ 12 + bits e.1 0 12, e.2) else none)

/-- A retired row has been copied into its spare, each word corrected, and the row map is written (R401). -/
def State.rowReplaced (s : State) (mem bank row : Nat) : State :=
  let k := mem * 2 ^ 16 + bank * 2 ^ 10 + row
  match (s.dueRows k).findIdx? (· == k) with
  | none => s
  | some i =>
    match (s.freeRows k)[i]? with
    | none => s
    | some r =>
      let s := s.setRowMap (Tbl.set (fun _ => 0) s.rowMap k r)
      let s := s.setRowsDue (s.rowsDue.filter (· != k))
      let left := s.rowLeft k r
      let s := (s.setFlips (s.flips.filter (fun e => rowOf e.1 != k))).setWords (s.words.filter (fun e => rowOf e.1 != k))
      let s := (s.setInjWords (s.injWords.filter (fun a => rowOf a != k))).each left (fun e t => t.putFlips e.1 e.2)
      let f := if mem = 1 then F.PROT_SPARE_ROWS_STORE else F.PROT_SPARE_ROWS_OTHER
      let s := s.put f (s.get f - 1)
      s.when ((s.freeRows k).isEmpty) (·.up F.PROT_STATUS_NO_SPARE_ROW)

end Sys2Proof.Machine
end

