-- ==== Sys2Proof/Machine/Inject.lean ====
section
/-! DEFINITION. Targeted self-tests of the units without a block of their own, RETEST, and fault injection (R397 to R400, R405 to
R407, R411, R412). -/

namespace Sys2Proof.Machine

/-! Self-tests of the bond engine, an audio converter and the TX DAC (Table 18.6). -/

/-- The unit type of a code of Table 18.9 that a self-test or a RETEST names. -/
def unitOf (ty : Nat) : Option UnitType :=
  if ty = 1 then some .movement else if ty = 2 then some .intake else if ty = 3 then some .lane else if ty = 4 then some .crane
  else if ty = 7 then some .domain else if ty = 8 then some .bond else if ty = 9 then some .converter
  else if ty = 10 then some .txDac else none

/-- The transmitter is disabled: the supervisor writes RUN 0, and every request ends DISABLED (Table 18.7, R368). -/
def State.txRetired (s : State) : State :=
  let s := s.when (s.on F.PLT_CTRL_RUN) (·.supDo [F.PLT_CTRL_RUN.addr] (·.put F.PLT_CTRL_RUN 0))
  (s.each s.schedule (fun r t => t.txEnd r txDisabled)).pilotRunShow

/-- The self-test of a bond engine (8), converter (9) or TX DAC (10) ends (R398, R399). Log entry 35: DEDUCED. -/
def State.unitTested (s : State) (ty idx : Nat) (pass : Bool) : State :=
  if ty = 8 then
    match s.classify .bond 0 pass with
    | (s, .none) => s
    | (s, _) => s.engineShow
  else if ty = 9 then
    match s.classify .converter idx pass with
    | (s, .lasting) => (s.down (F.AU_STATUS_UNSUPPORTED idx)).when (s.portRuns idx) (·.setOut idx osMuted)
    | (s, _) => s
  else if ty = 10 && s.onAir.isNone then
    match s.classify .txDac 0 pass with
    | (s, .lasting) => s.txRetired
    | (s, _) => s
  else s

/-! RETEST (R400, R411). -/

/-- The refusal rule of `PROT_CMD`. Log entry 33: DEDUCED. -/
def retestRule : Rule := fun s _ w =>
  let ty := s.get F.PROT_CMD_UNIT_TYPE
  let ok := match unitOf ty with
    | some .intake => false
    | some u => s.isRetired u (s.get F.PROT_CMD_UNIT_INDEX)
    | none => false
  if bits w 8 8 == 0x5A && bits w 0 4 == 1 && ok && s.retesting.isNone then none else some resValue

/-- A write of `PROT_CMD`, from any source: RETEST runs the self-test of the unit named twice. -/
def State.protWrite (s : State) (src w : Nat) : State :=
  match s.write src 0x260C w retestRule with
  | (s, none) => s
  | (s, some _) =>
    let ty := s.get F.PROT_CMD_UNIT_TYPE
    let i := s.get F.PROT_CMD_UNIT_INDEX
    let s := (s.setRetesting (some (ty, i))).put F.PROT_LAST_RESULT 3
    if ty = 4 then s.put (F.CRN_STATUS_ROLE i) roleTest else if ty = 3 then s.putLane i .testing else s

/-- A unit that passed RETEST becomes a spare, or carries its work again (R400). Log entry 33: DEDUCED. -/
def State.restore (s : State) (u : UnitType) (i : Nat) : State :=
  let s := (s.putUnit u i { s.unit u i with retired := false, past := [] }).showRetired u i false
  match u with
  | .movement => (s.putMov i { s.mov i with missed := 0 }).search i (s.pair (pairOf i)).tcxo
  | .lane => (s.setWords (s.words.filter (fun e => !(memOf e.1 == 6 && laneOfWord e.1 == i)))).putLane i .spare
  | .crane => s.craneBack i
  | .bond => s.engineShow
  | .converter => s.when (s.portRuns i && s.outState i == osMuted) (fun s => (s.setOut i osSilent).portShow i)
  | _ => s

/-- The two runs of a RETEST have ended. Log entry 34: DEDUCED. -/
def State.retested (s : State) (pass : Bool) : State :=
  match s.retesting with
  | none => s
  | some (ty, i) =>
    match unitOf ty with
    | none => s
    | some u =>
      let s := s.setRetesting none
      if pass && !s.persistFails u i then
        (((s.put F.PROT_LAST_RESULT 1).error 0 u i .restored).restore u i)
      else
        let s := s.put F.PROT_LAST_RESULT 2
        if ty = 4 then s.put (F.CRN_STATUS_ROLE i) roleRetired else if ty = 3 then s.putLane i .retired else s

/-! Injection. -/

/-- The unit of a detector code (Table 18.5); none: unassigned. -/
def codeUnit (c : Nat) : Option UnitType :=
  if inR 0x0101 0x0103 c then some .movement
  else if inR 0x0104 0x0106 c || c == 0x020B || c == 0x020C || c == 0x0508 || c == 0x0B01 then some .supervisor
  else if inR 0x0201 0x0207 c then some .intake
  else if inR 0x0208 0x020A c then some .feed
  else if inR 0x0301 0x0303 c then some .lane
  else if inR 0x0401 0x0405 c then some .crane
  else if inR 0x0501 0x0507 c then some .word
  else if inR 0x0601 0x0604 c then some .hold
  else if c == 0x0701 || c == 0x0702 || inR 0x0710 0x0714 c || c == 0x0720 then some .bond
  else if c == 0x0801 || c == 0x0802 then some .converter
  else if inR 0x0901 0x0903 c then some .txDac
  else if inR 0x0A01 0x0A07 c then some .domain
  else if inR 0x0C01 0x0C05 c || c == 0x0D01 || c == 0x0D02 then some .berth
  else none

/-- Whether a unit index exists for a code (R406). Log entry 25: DEDUCED. -/
def codeIndex (c i : Nat) : Bool :=
  match codeUnit c with
  | some .movement => Nat.blt i 4
  | some .intake => inR 1 2 i
  | some .feed => inR 1 2 i
  | some .lane => Nat.blt i 104
  | some .crane => Nat.blt i 33
  | some .hold => if c = 0x0601 then Nat.ble i 115 && holdClocked i else if c = 0x0604 then inR 96 99 i else Nat.ble i 115
  | some .converter => Nat.blt i 4
  | some .domain => i == c - 0x0A00
  | some .berth => Nat.blt i 96 || (c == 0x0C04 && i == 0xFE)
  | some .word => true
  | some _ => i == 0
  | none => false

/-- Codes that take CONFIRM 0xC3. -/
def codeGrave (c : Nat) : Bool := inR 0x0710 0x0714 c || inR 0x0A01 0x0A07 c

/-- The memory address in `INJ_ADDR`. -/
def State.injAddr (s : State) : Nat :=
  wordAddr (s.get F.INJ_ADDR_MEMORY) (s.get F.INJ_ADDR_BANK) (s.get F.INJ_ADDR_ROW) (s.get F.INJ_ADDR_COLUMN)

/-- Whether an injection may be armed (R406). Log entry 25: DEDUCED. -/
def State.injArmable (s : State) : Bool :=
  let c := s.get F.INJ_DETECTOR_CODE
  s.serving && s.inj.isNone && codeIndex c (s.get F.INJ_UNIT_INDEX) && (!inR 0x0501 0x0507 c || wordExists s.injAddr)

/-- The refusal rule of `INJ_CMD` (R405, R406, Table 18.14). Log entry 26: DEDUCED. -/
def injRule : Rule := fun s _ w =>
  let conf := bits w 8 8
  let arm := bit w 0
  let cancel := bit w 1
  if arm && cancel then some resValue
  else if arm then
    (if s.injArmable && conf == (if codeGrave (s.get F.INJ_DETECTOR_CODE) then 0xC3 else 0x5A) then none else some resValue)
  else if cancel then (if conf == 0x5A || conf == 0xC3 then none else some resValue)
  else none

/-- Disarms. -/
def State.disarm (s : State) : State := ((s.setInj none).down F.INJ_STATUS_ARMED).down F.INJ_STATUS_PERSISTING

/-- A write of `INJ_CMD`, from any source. Log entry 26: DEDUCED. -/
def State.injWrite (s : State) (src w : Nat) : State :=
  let gated := s.gated src 0x2705
  match s.write src 0x2705 w injRule with
  | (s, none) => s.when (!gated) (·.up F.INJ_STATUS_REFUSED_EV)
  | (s, some _) =>
    if bit w 0 then
      let c := s.get F.INJ_DETECTOR_CODE
      let ty := match codeUnit c with
        | some u => u.code
        | none => 0
      let j : Inj := ⟨c, ty, s.get F.INJ_UNIT_INDEX, s.injAddr, s.get F.INJ_CFG_BITS, s.on F.INJ_CFG_PERSIST, s.get F.INJ_CFG_COUNT⟩
      (((s.setInj (some j)).up F.INJ_STATUS_ARMED).put F.INJ_STATUS_PERSISTING (b2n j.persist)).put F.INJ_STATUS_FIRED 0
    else if bit w 1 then s.disarm
    else s

/-- Whether the detector of an armed injection has an opportunity now (R405): a crane within a beat, a lane or a converter at work, a
memory word in which nothing is wrong yet; for the other codes, something that their detector judges. Log entry 24: DEDUCED. -/
def State.injReady (s : State) (j : Inj) : Bool :=
  let c := j.code
  let i := j.index
  if inR 0x0101 0x0103 c then s.locked i
  else if c = 0x0104 then s.on F.TB_REF_STATUS_REFIN_OK
  else if c = 0x0105 then s.on F.TB_REF_STATUS_TCXO_OK
  else if c = 0x0106 then s.on F.TB_PPS_STATUS_QUALIFIED
  else if inR 0x0201 0x0207 c then s.on (F.INT_STATUS_RUNNING i)
  else if c = 0x0208 || c = 0x0209 then s.on (F.FEED_STATUS_ON i)
  else if c = 0x020A then !s.on (F.FEED_STATUS_ON i)
  else if inR 0x0301 0x0303 c then
    (match s.lane i with
     | .carries n => s.laneRuns n
     | .sounds _ | .patrols _ | .takes _ => true
     | _ => false)
  else if inR 0x0401 0x0405 c then s.on (F.CRN_STATUS_BUSY i)
  else if inR 0x0501 0x0507 c then s.flipsAt j.addr == 0 && !(s.word j.addr).testing
  else if c = 0x0801 || c = 0x0802 then s.portRuns i
  else if inR 0x0A01 0x0A07 c then s.domOn i
  else true

/-- A FIFO detector fires: an underrun for an audio drain, else an overrun, with the bit of the FIFO's block (R268). -/
def State.fifoFault (s : State) (h : Nat) : State :=
  let f := if inR 100 103 h then F.HLD_STATUS_UNDERRUN_EV else F.HLD_STATUS_OVERRUN_EV
  let own := if inR 100 103 h then F.AU_STATUS_UNDERRUN (h - 100) else if h = 109 then F.LAND_STATUS_OVERRUN
    else if h = 110 || h = 111 then F.INT_STATUS_CHAN_OVERRUN (h - 109) else F.PLT_STATUS_CAPTURE_OVERRUN
  ((s.up (f.ofHold h)).when (holdClocked h) (·.up own)).error 0x0601 .hold h .detected { injected := true }

/-- What a firing of a code does: what the detector's own firing does, marked INJECTED (R405, R407). Log entry 24: DEDUCED. -/
def State.injEffect (s : State) (j : Inj) : State :=
  let c := j.code
  let i := j.index
  let a : EArgs := { injected := true }
  if c = 0x0101 || c = 0x0103 then s.lockLost i c true
  else if c = 0x0102 then s.slip i true
  else if c = 0x0104 then s.refinGone true true
  else if c = 0x0105 then s.tcxoLost true true
  else if c = 0x0106 then s.ppsLost true
  else if inR 0x0201 0x0206 c then s.intakeFault i (c - 0x0200) a
  else if c = 0x0207 then s.setInjStall (i :: s.injStall)
  else if c = 0x0208 then s.feedTrip i c (F.FEED_STATUS_SHORT_EV i) a
  else if c = 0x0209 then s.feedTrip i c (F.FEED_STATUS_I2T_EV i) a
  else if c = 0x020A then s.when (isFeed i) (·.feedStuckSeen i a)
  else if c = 0x020B then
    (((s.down F.CAL_STATUS_VREF_OK).up F.CAL_STATUS_VREF_FAULT_EV).error c .supervisor 0 .detected a)
  else if c = 0x020C then ((s.down F.CAL_STATUS_OTP_OK).error c .supervisor 0 .detected a)
  else if inR 0x0301 0x0303 c then s.laneFault i c a
  else if inR 0x0401 0x0405 c then s.craneFault i c a
  else if inR 0x0501 0x0507 c then s.when (!s.rowGone (rowOf j.addr)) (fun s =>
    (s.putFlips j.addr (2 ^ j.bits - 1)).setInjWords (j.addr :: s.injWords.filter (· != j.addr)))
  else if c = 0x0508 then s.scrubLate true
  else if c = 0x0601 then s.fifoFault i
  else if c = 0x0602 then s.error c .hold i .detected a
  else if c = 0x0603 then (s.error c .hold i .lost a).up F.HLD_CUSTODY_LOST_EV
  else if c = 0x0604 then ((s.up (F.QY_STATUS_HOLD_LONG_EV (i - 96))).error c .hold i .detected a).attn 2
  else if c = 0x0701 then s.entropyFail true
  else if c = 0x0702 then s.bondResidue true
  else if inR 0x0710 0x0714 c then s.securityAlarm (c - 0x0710) true
  else if c = 0x0720 then s.unwrapFault true
  else if c = 0x0801 then (s.error c .converter i .detected a).startTest .converter i c true
  else if c = 0x0802 then s.portUnderrun i true
  else if c = 0x0901 then ((s.up F.PLT_STATUS_CLAMP_EV).error c .txDac 0 .detected a).startTest .txDac 0 c true
  else if c = 0x0902 then (s.error c .txDac 0 .detected a).startTest .txDac 0 c true
  else if c = 0x0903 then s.error c .txDac 0 .notice a
  else if inR 0x0A01 0x0A07 c then s.domainFault i 6 true
  else if c = 0x0B01 then
    (s.error c .supervisor 0 .mode { injected := true, d0 := s.mode.code * 256 + s.mode.code }).attn 0
  else if inR 0x0C01 0x0C03 c then s.urgentStart (c - 0x0C00) i true
  else if c = 0x0C04 then s.urgentAccept i true
  else if c = 0x0C05 then s.error c .berth i .stateStart { injected := true, d0 := 2, d1 := i, d2 := 30 }
  else if c = 0x0D01 then ((s.up (F.BTH_EVENTS_SHED_EV i)).up F.ENG_STATUS_SHED_EV).error c .berth i .detected a
  else if c = 0x0D02 then (s.up (F.BTH_EVENTS_OVER_DECL_EV i)).error c .berth i .detected a
  else s

/-- A firing (R405). After the last one ARMED clears, except with PERSIST. Log entry 24: DEDUCED. -/
def State.injFire (s : State) (j : Inj) : State :=
  let s := (s.bump F.INJ_STATUS_FIRED).up F.PROT_STATUS_INJECTED_EV
  let s := s.setInj (some { j with left := j.left - 1 })
  let s := s.when (j.left == 1 && !j.persist) (·.disarm)
  s.injEffect j

/-- The armed injection fires where it has an opportunity (R405). -/
def State.injTick (s : State) : State :=
  match s.inj with
  | some j => if j.left != 0 && s.injReady j then s.injFire j else s
  | none => s

end Sys2Proof.Machine
end

