-- ==== Sys2Proof/Machine/Bus.lean ====
section
/-! DEFINITION. Register writes as a whole: the value rules of the blocks, groups and their COMMIT registers, the commands among the
registers, and what a change of a block's settings does in it (R12, R58 to R61, R64, R436 and the register tables of every chapter). -/

namespace Sys2Proof.Machine

/-! The value rules (R60). -/

/-- The audio slots that a berth's route names (R174). -/
def State.slotsNamed (s : State) (n : Nat) : List (Nat × Nat) :=
  if s.std n == 1 || s.std n == 2 then
    [(s.get (F.FM_SVC1_PORT n), s.get (F.FM_SVC1_SLOT_L n)), (s.get (F.FM_SVC1_PORT n), s.get (F.FM_SVC1_SLOT_R n))]
  else []

/-- The audio slots that a berth holds (R174). -/
def State.slotsOf (s : State) (n : Nat) : List (Nat × Nat) := if s.on (F.FM_SVC1_ENABLE n) then s.slotsNamed n else []

/-- The state with the armed changes of a block in force, and with `group` those that its group collects. -/
def State.foreseen (s : State) (c : Nat) (group : Bool) : State :=
  let put (p : Bool) (s : State) : State := s.each (s.shadow.filter (fun x => x.commit == c && x.armed == p)) (fun x t => t.put x.fld x.val)
  (put true s).when group (put false)

/-- Whether a slot that berth `n`'s route names, as `t` has it, is held by another berth in force or armed (R174). -/
def State.slotClash (s t : State) (n : Nat) : Bool :=
  (t.slotsNamed n).any (fun x => (List.range 96).any (fun m => m != n &&
    ((s.slotsOf m).contains x || ((s.foreseen (berthCommit m) false).slotsOf m).contains x)))

/-- Whether a DVB berth would have DG_ENABLE with a reserved DG_PID or DG_TABLE_ID (R237). -/
def State.dgReserved (s : State) (n : Nat) : Bool :=
  (s.std n == 5 || s.std n == 6) && s.on (F.T2_SVC5_DG_ENABLE n) &&
  (s.get (F.T2_SVC5_DG_PID n) == 0x1FFF || Nat.blt (s.get (F.T2_SVC6_DG_TABLE_ID n)) 0x40 || s.get (F.T2_SVC6_DG_TABLE_ID n) == 0xFF)

/-- Whether a run control goes to 1: it was 0, or a stop was armed. Log entry 12: DEDUCED. -/
def State.runRises (s t : State) (f : Fld) : Bool := t.on f && (!s.on f || s.armedFor f 0)

/-- Whether `t` starts berth `n`, and the admission of R155 refuses it. -/
def State.admitFails (s t : State) (n : Nat) : Bool := s.runRises t (F.BTH_CTRL_RUN n) && !t.admissible n

/-- Whether a change of the outputs at these addresses meets a running master port that took them (R306). -/
def State.outputTaken (s : State) (addrs : List Nat) : Bool :=
  addrs.any (fun a =>
    let o := (a - 0x120) / 2
    inR 0x120 0x143 a && (inR 10 13 o || inR 14 17 o) &&
    (let p := (o - 10) % 4; s.on (F.AU_CTRL_MASTER p) && (s.portRuns p || s.on (F.AU_CTRL_RUN p))))

/-- Whether the values that a change would leave in force break a value rule of their block: `s` is the state before, `t` the one with
the values, `addrs` the addresses written. -/
def State.ruleBroken (s t : State) (c : Nat) (addrs : List Nat) : Bool :=
  if Nat.ble 0x400 c && Nat.blt c 0x1C00 then
    let n := berthOf c
    if (c - 0x400) % 0x40 = 7 then (addrs.any (· == 0x409 + 0x40 * n) && s.slotClash t n) || t.dgReserved n || s.admitFails t n
    else s.runRises t (F.LN_CTRL_RUN n) && !t.ratioOk n
  else if c = 0x104 then s.outputTaken addrs
  else if c = 0x2004 then
    (List.range 116).any (fun h => addrs.any (fun a => a == holdAddr h 0x2002 || a == holdAddr h 0x2003) &&
      !(Nat.blt (t.get (F.HLD_LOW_LOW.ofHold h)) (t.get (F.HLD_HIGH_HIGH.ofHold h)) &&
        Nat.ble (t.get (F.HLD_HIGH_HIGH.ofHold h)) (t.get (F.HLD_CAP_CAP.ofHold h))))
  else if c = 0x300E then
    (List.range 255).any (fun i => addrs.any (fun a => inR (afAddr i 0x3011) (afAddr i 0x3053) a) &&
      !afJudge (t.get (F.AF_HEAD_KIND.ofAf i)) (t.get (F.AF_HEAD_COUNT.ofAf i)) (t.get (F.AF_ID_IDENTIFIER.ofAf i)) []
        (t.afTotal - t.afCount i))
  else if Nat.ble 0x2300 c && Nat.blt c 0x2340 then
    let p := (c - 0x2300) / 0x10
    s.runRises t (F.AU_CTRL_RUN p) && t.startBad p
  else if Nat.ble 0x2440 c && Nat.blt c 0x24C0 then
    let k := (c - 0x2440) / 0x10
    s.runRises t (F.CAP_CTRL_RUN k) && t.capClash k
  else false

/-- The state that a write of a register would leave: its block's armed changes, its own fields, and, where it changes STANDARD, the
reset values of the new map (R436). Log entry 12: DEDUCED. -/
def State.written (s : State) (r : RDesc) (base new : Nat) : State :=
  let t := match s.commitAt base with
    | some c => s.foreseen c false
    | none => s
  let t := t.each r.fields (fun f u => if f.acc == .rw then u.put ⟨s.phys base, f.lo, f.width⟩ (bits new f.lo f.width) else u)
  let n := berthOf base
  t.when (base == 0x400 + 0x40 * n && Nat.blt n 96 && t.std n != s.std n) (·.loadStandard n)

/-- The capacity rule of a hold (R262, R269, R279). Log entry 144: DEDUCED. -/
def capRule : Rule := fun s _ new =>
  let h := s.get F.HLD_SEL_HOLD
  let free (h : Nat) : Bool := h < 96 || h == 105 || h == 107 || h == 108
  let sum := (((List.range 116).filter (fun i => free i && i != h)).map (fun i => s.get (F.HLD_CAP_CAP.ofHold i))).sum
  -- HIGH stays within the capacity, in force or armed (R269)
  let high := max (s.get (F.HLD_HIGH_HIGH.ofHold h)) (s.withShadow 0x2004 (F.HLD_HIGH_HIGH.ofHold h) true)
  if !free h || new < 33 || Nat.blt new high || Nat.blt 8192 (sum + new + 256) then some resValue else none

/-- The rule of `CRN_CMD` (R163, Table 7.14). -/
def craneRule (c : Nat) : Rule := fun s _ new =>
  if bits new 8 8 != 0x5A || (bit new 0 && ((s.spareCrane (classOf c)).isNone || s.get (F.CRN_STATUS_ROLE c) != roleWorking)) then
    some resValue else none

/-- The value rule of a register for a write of the image or a port. A run control that the image sets is judged when it takes effect
(R55); what a group collects is judged at GO (R60). -/
def valueRule (src base : Nat) (r : RDesc) : Rule := fun s old new =>
  if base = 0x2001 then capRule s old new
  else if (base = 0x3001 || inR 0x3100 0x327F base) && s.isRetired .lane (s.bankSel / 2) then some resValue
  else if inR 0x3011 0x3053 base && s.mode == .survey then some resMode
  else match s.commitAt base with
    | none => none
    | some c =>
      if src != srcImage && s.groupTakes c then none
      else
        let t := s.written r base new
        let s := if src = srcImage then t else s
        if s.ruleBroken t c [s.phys base] then some resValue else none

/-! What a change of a block's LIVE settings does, at a write, at GO or at a boundary. -/

/-- RUN of berth `n` as it now stands, in force or armed (R147, R148, R155, R191): a stopped berth starts; one told to stop completes its
frame, also from WAIT_LANE; a stop that was replaced is none. Log entry 13: DEDUCED. Log entry 138: DESIGN CHOICE. -/
def State.berthRunShow (s before : State) (n : Nat) : State :=
  let f := F.BTH_CTRL_RUN n
  if before.on (F.BTH_CTRL_STOPPED n) then
    if s.on f && !before.on f then s.berthBegin n
    else if !s.on f && (before.berth n).survey then ((s.putBerth n { s.berth n with survey := false }).freeLoads n).freeArea n
    else s
  else
    let st := s.bstate n
    if s.armedFor f 0 then
      if st == bsRunning || st == bsWaitLane then (s.put (F.BTH_STATUS_STATE n) bsStopping).fadeStop n else s
    else if st == bsStopping && before.armedFor f 0 && !(s.berth n).shedding && s.mode != .survey then
      s.put (F.BTH_STATUS_STATE n) (if s.on (F.LN_CTRL_STOPPED n) then bsWaitLane else bsRunning)
    else s

/-- The route of a berth's audio (Table 8.7). -/
def routeFields : List (Nat → Fld) := [F.FM_SVC1_ENABLE, F.FM_SVC1_PORT, F.FM_SVC1_SLOT_L, F.FM_SVC1_SLOT_R]

/-- A block shows what its LIVE settings, changed since `before`, now ask of it; `c` is its COMMIT register. -/
def State.blockShow (s before : State) (c : Nat) : State :=
  if Nat.ble 0x400 c && Nat.blt c 0x1C00 then
    let n := berthOf c
    let s := s.showLoad n
    if (c - 0x400) % 0x40 = 7 then
      let s := s.berthRunShow before n
      -- a change of BTH_SVC0 or BTH_SVC1 of an analogue home in a fade applies to both members (Table 8.5)
      let joint := ((serviceCopies (s.std n)).filter (fun f => (f 0).addr == 0x408) ++ routeFields).filter (fun f => s.get (f n) != before.get (f n))
      let s := if (s.fadeOf n).isSome && !s.digital n then s.copyFields joint n (s.partner n) else s
      let s := s.when (s.std n == 2 && s.get (F.FM_SVC5_EXPECT_PI n) != before.get (F.FM_SVC5_EXPECT_PI n)) (·.piJudge n)
      let s := s.when (s.std n == 4 && s.get (F.DAB_SVC2_EXPECT_EID n) != before.get (F.DAB_SVC2_EXPECT_EID n)) (·.eidJudge n)
      s.when (s.std n == 3 && s.refSid n != before.refSid n) (·.sidJudge n)
    else
      let moved := s.get (F.LN_NCO_FREQ n) != before.get (F.LN_NCO_FREQ n) || s.get (F.LN_DELAY n) != before.get (F.LN_DELAY n)
      s.when (moved && before.laneRuns n) (·.fadeChange n)
  else if c = 0x104 then s.showOutputs.showIntakes
  else if c = 0x300E then s.afShow
  else if Nat.ble 0x2100 c && Nat.blt c 0x2140 then
    let q := (c - 0x2100) / 0x10
    (s.quayRunShow q).showHeld q
  else if c = 0x2201 then s.landRunShow
  else if Nat.ble 0x2300 c && Nat.blt c 0x2340 then s.portChanged ((c - 0x2300) / 0x10)
  else if Nat.ble 0x2440 c && Nat.blt c 0x24C0 then
    let k := (c - 0x2440) / 0x10
    if s.on (F.CAP_CTRL_RUN k) && !before.on (F.CAP_CTRL_RUN k) then s.down (F.CAP_CTRL_STOPPED k)
    else if !s.on (F.CAP_CTRL_RUN k) && !s.on (F.CAP_CTRL_STOPPED k) then s.capStop k
    else s
  else if c = 0x2501 then s.pilotRunShow
  else s

/-! Groups and boundaries (R59 to R61, R279, R441). -/

/-- The table or hold that the one group of a COMMIT register of several blocks belongs to, when it opens now. -/
def State.groupItem (s : State) (c : Nat) : List (Nat × Nat) :=
  if c = 0x2004 then [(c, s.get F.HLD_SEL_HOLD)] else if c = 0x300E then [(c, s.get F.AF_SEL_INDEX)] else []

/-- Whether the block that owns a field runs. -/
def State.fldRuns (s : State) (f : Fld) : Bool :=
  if inR 0x12000 0x12FFF f.addr then s.berthUp ((f.addr - 0x12000) / 4)
  else if Nat.ble 0x10000 f.addr then true
  else s.blockRuns f.addr

/-- GO: every change of the group is armed, at once in force where its block is stopped, and the group closes (R59, R60). -/
def State.armGroup (s : State) (c : Nat) : State :=
  let mine := s.shadow.filter (fun x => x.commit == c && !x.armed)
  let s := s.abortGroup c
  s.each mine (fun x t => if s.fldRuns x.fld then t.shade c x.fld x.val true else t.put x.fld x.val)

/-- The state in which GO would leave the block's values. Log entry 12: DEDUCED. -/
def State.groupState (s : State) (c : Nat) : State := s.foreseen c true

/-- Whether GO of the open group fails a value rule of its block. -/
def State.groupFails (s : State) (c : Nat) : Bool :=
  s.ruleBroken (s.groupState c) c ((s.shadow.filter (fun x => x.commit == c && !x.armed)).map (·.fld.addr))

/-- The refusal rule of a COMMIT register (R60, R61, R442). Log entry 16: DEDUCED. -/
def commitRule (c : Nat) : Rule := fun s _ w =>
  if c = 0x300E && s.mode == .survey then some resMode
  else if (bit w 0 && bit w 1) || (bit w 0 && bit w 2) || (bit w 1 && bit w 2) then some resValue
  else if bit w 1 && s.on (fGroup c) && s.groupFails c then some resValue
  else none

/-- A write of a COMMIT register: OPEN, GO or ABORT (R60). Log entry 16: DEDUCED. -/
def State.commitWrite (s : State) (src c w : Nat) : State :=
  let before := s
  match s.write src c w (commitRule c) with
  | (s, some _) =>
    if bit w 0 then (if s.on (fGroup c) then s else (s.up (fGroup c)).setGroupOf (s.groupOf ++ s.groupItem c))
    else if bit w 1 then (if s.on (fGroup c) then (s.armGroup c).blockShow before c else s)
    else if bit w 2 then s.abortGroup c
    else s
  | (s, none) =>
    -- a GO that a value rule refuses discards the shadow and closes the group
    if bits w 0 3 = 2 && !before.gated src c && before.on (fGroup c) && before.groupFails c && !(c == 0x300E && before.mode == .survey) then
      let s := s.abortGroup c
      s.when (isCommit c && Nat.ble 0x400 c && Nat.blt c 0x1C00 && (c - 0x400) % 0x40 == 7 &&
        before.admitFails (before.groupState c) (berthOf c)) (·.admitRefused (berthOf c))
    else s

/-- The natural boundary of a block passes: its armed changes take effect, a stop of a berth or of a lane excepted, which has its own event (R59,
Table 3.15); a command fade that waits for its home's block starts (R190). Each movement output has its own, and each crane class, hold
and AF table: `u` says which (R88, R153, R279, R441). A hold judges ABOVE against its new marks at the handshake after it (R279). Log entry 15:
DESIGN CHOICE. -/
def State.boundary (s : State) (c u : Nat) : State :=
  let s := s.when (Nat.ble 0x400 c && Nat.blt c 0x1C00 && (c - 0x400) % 0x40 == 7) (·.fadeBlock (berthOf c))
  if !isCommit c || !s.shadow.any (fun x => x.commit == c && x.armed) then s
  else
    let s' :=
      if Nat.ble 0x400 c && Nat.blt c 0x1C00 then (if (c - 0x400) % 0x40 = 7 then s.berthBoundary (berthOf c) else s.laneApply (berthOf c))
      else if Nat.ble 0x2100 c && Nat.blt c 0x2140 then s.quayBoundary ((c - 0x2100) / 0x10)
      else if c = 0x2201 then s.landBoundary
      else if c = 0x2501 then (if s.onAir.isSome then s else s.applyArmed c)
      else if c = 0x104 then s.applyFields c (fun f => inR (0x120 + 2 * u) (0x121 + 2 * u) f.addr)
      else if c = 0x45 then s.applyFields c (fun f => f.addr == 0x40 + u)
      else if c = 0x2004 then s.applyFields c (fun f => inR (holdAddr u 0x2002) (holdAddr u 0x2003) f.addr)
      else if c = 0x300E then s.applyFields c (fun f => inR (afAddr u 0x3011) (afAddr u 0x3053) f.addr)
      else s.applyArmed c
    s'.blockShow s c

/-! Journals and statistics (R64, R410, R443). -/

/-- The 11 words of an entry of the change journal (Table 3.17). -/
def JEntry.words (e : JEntry) : List Nat :=
  [bits e.ts 0 16, bits e.ts 16 16, bits e.ts 32 16, bits e.ts 48 16, e.address, e.old, e.new,
   e.source * 4096 + e.result * 256 + e.detail, bits e.number 0 16, bits e.number 16 16, e.epoch]

/-- A selection reads the word of an entry: whether it is damaged, and what its read does (R391, R394). -/
def State.readEntry (s : State) (use : WordUse) : Bool × State :=
  match s.damaged.find? (·.1 == use) with
  | none => (false, s)
  | some e => (true, if s.readable e.2 then s.wordRead e.2 use else s)

/-- Copies the selected entry of the change journal, or zeros; one whose word is damaged reads as zeros (R64, R394). -/
def State.journalSelect (s : State) : State :=
  let e := s.jnl.find? (fun e => e.number == s.get F.JNL_SELECT_NUMBER)
  let (gone, s) := if e.isSome then s.readEntry (.change (s.get F.JNL_SELECT_NUMBER)) else (false, s)
  let words := if gone then [] else (e.map (·.words)).getD []
  (s.each (List.range 11) (fun i t => t.put (F.JNL_ENTRY_ENTRY i) (words.getD i 0))).put F.JNL_STATUS_SELECT_MISS (b2n e.isNone)

/-- UNREAD_LOST is zeroed, and the marker JOURNAL_LOST says how many entries were overwritten unread (R62, R64, Table 3.19).
Log entry 113: DESIGN CHOICE. -/
def State.lostMark (s : State) : State :=
  let n := s.jnlLost
  let s := (s.down F.JNL_STATUS_UNREAD_LOST).setJnlLost 0
  if n = 0 then s else ((s.journal 0xFFFF 0 n srcSupervisor 0xE 3).down F.JNL_STATUS_UNREAD_LOST).setJnlLost 0

/-- Copies the selected entry of the error journal, or zeros; one whose word is damaged reads as zeros (R394, R410). -/
def State.errorSelect (s : State) : State :=
  let e := s.err.find? (fun e => e.number == s.get F.ERR_SELECT_NUMBER)
  let (gone, s) := if e.isSome then s.readEntry (.error (s.get F.ERR_SELECT_NUMBER)) else (false, s)
  let words := if gone then [] else (e.map (·.words)).getD []
  (s.each (List.range 16) (fun i t => t.put (F.ERR_ENTRY_ENTRY i) (words.getD i 0))).put F.ERR_STATUS_SELECT_MISS (b2n e.isNone)

/-- Copies the lading statistics of the pair that `LST_SEL` names (R443). -/
def State.statSelect (s : State) : State :=
  let p := s.get F.LST_SEL_PRODUCER
  let c := s.get F.LST_SEL_CONTENT
  let x := s.stat p c
  let s := ((s.put F.LST_FRAMES_COUNT x.frames).put F.LST_BYTES_COUNT x.bytes).put F.LST_LAST_SEQ_SEQ x.lastSeq
  let s := (s.put F.LST_LAST_TIME_TIME x.lastTime).put F.LST_RESENDS_COUNT x.resends
  (s.put F.LST_ROUTE_CAPTURED (b2n (s.captureOf p c).isSome)).put F.LST_ROUTE_QUAY
    (if c = 0 then s.get (F.QY_ROUTE_DATA p) else s.route p c)

/-! Writes. -/

/-- What an accepted write does beyond its fields: `before` is the state before the write, `base` the lowest word of the register.
Log entry 101: DEDUCED. -/
def State.afterWrite (s before : State) (base new : Nat) : State :=
  if Nat.ble 0x400 base && Nat.blt base 0x1C00 && (base - 0x400) % 0x40 = 0 && s.std (berthOf base) != before.std (berthOf base) then
    -- the service words of the new standard (R436), then RUN
    let n := berthOf base
    let t := s.loadStandard n
    let t := t.each (List.range 8) (fun o u => u.journal (base + 8 + o) (before.wordAt (base + 8 + o)) (t.wordAt (base + 8 + o))
      srcSupervisor resAccepted 0)
    t.blockShow before (berthCommit n)
  else match s.commitAt base with
    | some c => s.blockShow before c
    | none =>
      if base = 0x200 || base = 0x220 then s.agcShow (1 + (base - 0x200) / 0x20)
      else if base = 0x20 then s.setSyncMask (s.syncMask ||| new)
      else if base = 0x2802 then s.journalSelect
      else if base = 0x2812 then s.errorSelect
      else if base = 0x280F then s.when (bit new 14) (·.lostMark)
      else if base = 0x2824 then s.when (bit new 14) (·.down F.ERR_STATUS_UNREAD_LOST)
      else if base = 0x3800 then s.statSelect
      else if inR 0x2404 0x2417 base then s.setKeyWrap (Tbl.set (fun _ => 0) s.keyWrap (base - 0x2404) new)
      else if inR 0x2420 0x242F base then s.setKekData (Tbl.set (fun _ => 0) s.kekData (base - 0x2420) new)
      else if base = 0x2900 then s.when (!s.on F.TW_CFG_ATTN) (·.down F.TW_STATUS_ATTN_PENDING)
      else if Nat.ble 0x1C00 base && Nat.blt base 0x1E10 && (base - 0x1C00) % 0x10 = 7 && bit new 0 then
        -- CRN_CMD: at the crane's next beat end, or at once where it serves nothing (R163)
        let c := (base - 0x1C00) / 0x10
        let s := { s with handover := c :: s.handover.filter (· != c) }
        s.when (!s.on (F.CRN_STATUS_BUSY c)) (·.handTicket c)
      else s

/-- A write that only its register's fields and the rules of its block decide. -/
def State.plainWrite (s : State) (src a w : Nat) : State :=
  match regAt (s.stdAt a) a with
  | none => (s.write src a w).1
  | some (r, base) =>
    let crane := src != srcImage && Nat.ble 0x1C00 base && Nat.blt base 0x1E10 && (base - 0x1C00) % 0x10 == 7
    let rule := if crane then craneRule ((base - 0x1C00) / 0x10) else valueRule src base r
    match s.write src a w rule with
    | (t, some (_, new)) =>
      if src = srcImage then
        -- the image starts nothing: its run fields take effect at the end of WIND (R34, R55)
        let n := berthOf base
        t.when (base == 0x400 + 0x40 * n && Nat.blt n 96 && t.std n != s.std n) (fun u =>
          let v := u.loadStandard n
          v.each (List.range 8) (fun o x => x.journal (base + 8 + o) (s.wordAt (base + 8 + o)) (v.wordAt (base + 8 + o))
            srcSupervisor resAccepted 0))
      else t.afterWrite s base new
    | (t, none) =>
      let n := berthOf base
      let judged := base == 0x400 + 0x40 * n && Nat.blt n 96 && src != srcImage && !s.gated src a && !s.groupTakes (berthCommit n)
      t.when (judged && (s.classBreak src base r (s.regValue r base) w).isNone && legal (s.stdAt base) r base w &&
        s.admitFails (s.written r base w) n) (·.admitRefused n)

/-- A write of one word to an address, from any source: the commands among the registers by their own operations, every other register
by its fields and rules. Log entry 11: DEDUCED. -/
def State.regWrite (s : State) (src a w : Nat) : State :=
  let o := (a - 0x400) % 0x40
  if a = 0x5 then s.modeCommand src w
  else if inR 0x10 0x12 a then s.surveyAtWrite src a w
  else if a = 0x81 then s.alertWrite src w
  else if inR 0x89 0x8B a then s.urgEntryWrite src a w
  else if a = 0x105 then s.relock src w
  else if a = 0x106 then s.familyWrite src w
  else if inR 0x154 0x156 a then s.timeWrite src a w
  else if a = 0x260 then s.feedWrite src 1 w
  else if a = 0x270 then s.feedWrite src 2 w
  else if Nat.ble 0x400 a && Nat.blt a 0x1C00 && o = 0xE && inR 1 4 (s.std (berthOf a)) then s.fadeCommand src (berthOf a) w
  else if isCommit a then s.commitWrite src a w
  else if a = 0x2340 then s.auStart src w
  else if a = 0x2401 then s.bondCmd src w
  else if a = 0x260C then s.protWrite src w
  else if a = 0x2705 then s.injWrite src w
  else if a = 0x2A00 then s.domWrite src w
  else s.plainWrite src a w

end Sys2Proof.Machine
end

