-- ==== Sys2Proof/Machine/TwoWire.lean ====
section
/-! DEFINITION. Register reads and the two-wire target port (R7, R9 to R11, R32, R413 to R431). -/

namespace Sys2Proof.Machine

/-! Reads. -/

/-- S_own of a berth in 0.1 µs: the largest service time of Table 17.3 among the tickets of its standard; a DVB-T2 berth's LDPC tickets
count as 64K FEC frames (R383). -/
def State.ownService (s : State) (n : Nat) : Nat :=
  let std := s.std n
  if s.on (F.BTH_CTRL_STOPPED n) then 0
  else if std = 1 || std = 2 || std = 7 then 10 * (s.loadsOf n).narrow
  else if std = 3 then
    let m := s.get (F.DRM_SVC0_RMODE n)
    max 50 (if Nat.ble m 1 then tFft 3 else if Nat.ble m 3 then tFft 2 else tFft 1)
  else if std = 4 then 4608
  else if std = 5 then max 1088 (tFft (s.get (F.BTH_DECL_FFT_MAX n)))
  else if std = 6 then max 10800 (tFft (s.get (F.BTH_DECL_FFT_MAX n)))
  else 0

/-- Whether a change of a field in a range of storage addresses is armed. -/
def State.pendingAt (s : State) (c lo hi : Nat) : Bool := s.shadow.any (fun x => x.commit == c && x.armed && inR lo hi x.fld.addr)

/-- Brings the fields that a register computes when it is read up to date; `base` is its lowest word.
Log entry 100: DEDUCED. Log entry 104: DEDUCED. -/
def State.refreshed (s : State) (base : Nat) : State :=
  if base = 0x150 then s.put F.TB_TIME_TIME s.ts
  else if base = 0x72 then s.put F.MSR_PRECISION_BITS (s.precision)
  else if inR 0x2A10 0x2A25 base then s.supSampled ((base - 0x2A10) % 8)
  else if inR 0x2A30 0x2A32 base then s.tempSampled
  else if base = 0x8D then s.put F.URG_OWN_S_OWN (s.ownService (s.get F.URG_BERTH_SEL_BERTH))
  else if base = 0x245 || base = 0x246 then
    let i := s.get F.CAL_TABLE_SELECT_INDEX
    let e := s.calEntry (1024 * s.get F.CAL_TABLE_SELECT_INTAKE + (if s.on F.CAL_TABLE_SELECT_KIND then 256 + i else i))
    (s.put F.CAL_TABLE_DATA_GAIN e.1).put F.CAL_TABLE_DATA_PHASE e.2
  else if base = 0x2010 then
    let some (h : Nat) : Bool := [F.HLD_STATUS_HIGH_EV, F.HLD_STATUS_LOW_EV, F.HLD_STATUS_OVERRUN_EV, F.HLD_STATUS_UNDERRUN_EV,
      F.HLD_STATUS_PARK_EV, F.HLD_STATUS_DROP_EV].any (fun f => s.on (f.ofHold h))
    s.put F.HLD_SUMMARY_EVENTS (((List.range 116).filter some).map (2 ^ ·)).sum
  else if base = 0x2020 then s.put F.HLD_EPOCH_EPOCH s.epoch
  else if base = 0x2023 then s.put F.HLD_SEQ_NEXT_NEXT (s.prod (s.get F.HLD_SEQ_SEL_PRODUCER)).next
  else if base = 0x2025 then s.put F.HLD_SEQ_RELEASED_LAST (s.prod (s.get F.HLD_SEQ_SEL_PRODUCER)).released
  else if base = 0x2028 then
    s.put F.HLD_HELD_ITEMS_COUNT (min 65535 (s.held.filter (·.1 == s.get F.HLD_SEQ_SEL_PRODUCER)).length)
  -- PENDING of the one group register stands for the selected hold or table (R279, R441)
  else if base = 0x2004 then
    s.put F.HLD_COMMIT_PENDING (b2n (s.pendingAt 0x2004 (holdAddr (s.get F.HLD_SEL_HOLD) 0x2002) (holdAddr (s.get F.HLD_SEL_HOLD) 0x2003)))
  else if base = 0x300E then
    s.put F.AF_COMMIT_PENDING (b2n (s.pendingAt 0x300E (afAddr (s.get F.AF_SEL_INDEX) 0x3011) (afAddr (s.get F.AF_SEL_INDEX) 0x3053)))
  else if base = 0x2208 || base = 0x220A then
    let x := s.chan (s.get F.LAND_CHAN_SEL_CHANNEL)
    (s.put F.LAND_CHAN_EPOCH_EPOCH x.epoch).put F.LAND_CHAN_SEQ_SEQ x.seq
  else if base = 0x2419 || base = 0x241A then
    let v := s.slotInfo
    let s := ((s.put F.BOND_SLOT_INFO_STATE (bits v 14 2)).put F.BOND_SLOT_INFO_SIZE (bits v 13 1)).put F.BOND_SLOT_INFO_USAGE (bits v 11 2)
    (s.put F.BOND_SLOT_INFO_IN_FLIGHT (min 64 (bits v 0 11))).put F.BOND_SLOT_GEN_GENERATION
      (s.slot (s.get F.BOND_SLOT_SEL_SLOT)).gen
  else if base = 0x2502 then s.put F.PLT_STATUS_PAIR_READY (b2n s.pairReady)
  else if base = 0x250C then s.put F.PLT_DUTY_USED_USED (min 65535 s.dutyUsedShown)
  else if base = 0x250D then s.put F.PLT_DUTY_LEFT_LEFT (min 65535 s.dutyLeftShown)
  else if base = 0x2904 then s.put F.TW_ADDR_ADDRESS (0x58 + Config.twStraps.toNat)
  else if inR 0x2300 0x233F base && base % 0x10 = 6 then
    let p := (base - 0x2300) / 0x10
    s.put (F.AU_POSITION_FRAME p) (s.position p)
  else if Nat.ble 0x400 base && Nat.blt base 0x1C00 then
    let n := berthOf base
    let o := (base - 0x400) % 0x40
    if o = 1 then s.put (F.BTH_STATUS_URGENT_ELIGIBLE n) (b2n (s.eligible n))
    else if o = 4 then s.put (F.BTH_SEQ_NEXT n) (s.prod n).next
    else s
  else s

/-- The value that a register reads: with PLP_ALL the slots of a DVB-T2 berth read the PLPs chosen (R228); a port whose ramp waits for its
first fresh frame is SILENT until then (R316, Table 14.3). -/
def State.shownValue (s : State) (r : RDesc) (base : Nat) : Nat :=
  let n := berthOf base
  let o := (base - 0x400) % 0x40
  if Nat.ble 0x400 base && Nat.blt base 0x1C00 && inR 9 12 o && s.std n == 6 && s.on (F.T2_SVC0_PLP_ALL n) then
    256 * ((s.selected n (2 * (o - 9) + 1)).getD 0) + (s.selected n (2 * (o - 9))).getD 0
  else if inR 0x2300 0x233F base && base % 0x10 = 2 && s.outState ((base - 0x2300) / 0x10) == osRamping &&
      Nat.blt (s.position ((base - 0x2300) / 0x10)) (s.port ((base - 0x2300) / 0x10)).moveAt then
    s.regValue r base - (osRamping - osSilent) * 2 ^ 12
  else s.regValue r base

/-- What an RC field clears to: 0, or for a lowest or highest value since the last read the reset value it is compared with (R10,
Tables 2.5 and 20.6; log entry 23). Log entry 23: DEDUCED. Log entry 104: DEDUCED. -/
def rcCleared (base : Nat) (f : FDesc) : Nat := if base = 0x0007 then 0 else f.reset

/-- A read of one word at an address, from any port: the value goes to `tw.word`, RC fields clear, and the low word
of a wide value takes the snapshot, zeros where the register has no power (R7, R9, R10, R32, R420, R443). Log entry 102: DEDUCED.
Log entry 112: DESIGN CHOICE. -/
def State.readWord (s : State) (a : Nat) : State :=
  let s := s.touch a
  let give (s : State) (v : Nat) : State := s.setTw { s.tw with word := v }
  match regAt (s.stdAt a) a with
  | none => give s 0
  | some (r, base) =>
    if !s.domOn (domainOf a) then give (s.when (a == base && r.words != 1) (fun s => s.setSnap ((base, 0) :: s.snap.filter (·.1 != base)))) 0
    else
      let s := s.refreshed base
      let v := s.shownValue r base
      let word (v : Nat) : Nat := bits v (16 * (a - base)) 16
      if r.words = 1 || inR 0x3801 0x380E base then
        let s := give s (word v)
        s.each r.fields (fun f t => if f.acc == .rc then t.put ⟨t.phys base, f.lo, f.width⟩ (rcCleared base f) else t)
      else if a = base then give (s.setSnap ((base, v) :: s.snap.filter (·.1 != base))) (word v)
      else give s (word (((s.snap.find? (·.1 == base)).map (·.2)).getD v))

/-! Transactions (R416 to R427). -/

/-- The address that the port answers (R413). Log entry 6: DESIGN CHOICE. -/
def State.twAddress (_ : State) : Nat := 0x58 + Config.twStraps.toNat

/-- Whether the port answers at all: it has power, for 1 ms or longer, and `RESET_N` is high (R44, R415). -/
def State.twAnswers (s : State) : Bool := !s.dead && !s.pinLow && Nat.ble 1000000 s.clock

/-- A transaction ends for the port. -/
def State.twClose (s : State) : State := s.setTw { s.tw with opened := false, mine := false, reading := false }

/-- A START and an address: the port takes part where the address is its own; the master code of High-speed mode makes it ignore the bus
until the next STOP (R413 to R416, Table 19.1). -/
def State.twStart (s : State) (addr : Nat) (read : Bool) : State :=
  if !s.twAnswers || s.tw.ignore then s
  else
    let mine := addr == s.twAddress
    s.setTw { s.tw with opened := true, mine := mine, ignore := addr / 4 == 1, reading := mine && read }

/-- The pointer is loaded (R417). Log entry 103: DEDUCED. -/
def State.twPointer (s : State) (ra : Nat) : State :=
  if s.tw.mine && !s.tw.reading then s.setTw { s.tw with pointer := ra } else s

/-- A complete word is written at the pointer, which advances (R417, R418). Log entry 103: DEDUCED. -/
def State.twWrite (s : State) (w : Nat) : State :=
  if s.tw.mine && !s.tw.reading then
    let a := s.tw.pointer
    (s.setTw { s.tw with pointer := (a + 1) % 65536 }).regWrite srcTwoWire a w
  else s

/-- A word is read at the pointer, which advances; after a not-acknowledge the port sends no more (R416, R417, R420). -/
def State.twRead (s : State) (ack : Bool) : State :=
  if s.tw.mine && s.tw.reading then
    let s := s.readWord s.tw.pointer
    s.setTw { s.tw with pointer := (s.tw.pointer + 1) % 65536, reading := ack }
  else s

/-- A STOP in place (R416). -/
def State.twStop (s : State) : State := s.twClose.setTw { s.twClose.tw with ignore := false }

/-- The word in progress is discarded (R418). -/
def State.twDiscard (s : State) (partialWord : Bool) : State := s.when partialWord (·.up F.TW_STATUS_PARTIAL_EV)

/-- A START or STOP out of place (R423). -/
def State.twFrame (s : State) (start partialWord : Bool) : State :=
  if !s.twAnswers then s
  else if s.tw.ignore then (if start then s else s.twStop)
  else
    let s := ((s.twDiscard partialWord).up F.TW_STATUS_FRAME_EV).bump F.TW_COUNTS_FRAME
    let s := s.twStop
    s.when start (fun s => s.setTw { s.tw with opened := true })

/-- `TW_SCL` has stayed high for 1 ms while the port drives `TW_SDA` low (R425). -/
def State.twAbandon (s : State) (partialWord : Bool) : State :=
  if s.tw.mine then ((s.twDiscard partialWord).up F.TW_STATUS_ABANDON_EV).twClose else s

/-- Whether a value can be late: a domain is in transition, or a custody rebuild runs (R422). Log entry 102: DEDUCED. -/
def State.mayStale (s : State) : Bool :=
  s.rebuilding || s.closing || s.boot.isSome || s.mode == .wind || [1, 2, 3, 4, 5, 6, 7].any (fun d => s.get (F.DOM_STATE d) == dsSwitching)

/-- A read value is not ready 1.5 ms into a stretch: 0x0000 is sent, and counts as the word and as an access; the snapshot that it would have
replaced is gone (R7, R8, R417, R419, R422). Log entry 102: DEDUCED. -/
def State.twStale (s : State) : State :=
  if s.tw.mine && s.tw.reading && s.mayStale then
    let s := s.touch s.tw.pointer
    let s := s.setSnap (s.snap.filter (·.1 != s.tw.pointer))
    let s := s.setTw { s.tw with word := 0, pointer := (s.tw.pointer + 1) % 65536 }
    (s.up F.TW_STATUS_STALE_READ_EV).bump F.TW_COUNTS_STALE
  else s

/-- `TW_SCL` has been low for 25 ms in an open transaction (R427). -/
def State.twSclStuck (s : State) (partialWord : Bool) : State :=
  if s.tw.opened then (((s.twDiscard partialWord).up F.TW_STATUS_SCL_STUCK).up F.TW_STATUS_SCL_LOW).twClose else s

/-- `TW_SDA` has been held low by another device for 25 ms (R427). -/
def State.twSdaStuck (s : State) : State :=
  if s.twAnswers && !s.tw.pulse then (s.up F.TW_STATUS_SDA_STUCK).up F.TW_STATUS_SDA_LOW else s

/-- A stuck line rises again (R427, Table 19.4). -/
def State.twRisen (s : State) (scl : Bool) : State :=
  let f := if scl then F.TW_STATUS_SCL_LOW else F.TW_STATUS_SDA_LOW
  if s.on f then (s.down f).attn 7 else s

/-! The request for attention (R428, R429). -/

/-- The bus has been idle for 100 µs: the queued pulse begins. -/
def State.pulseStart (s : State) : State :=
  let idle := !s.tw.opened && !s.on F.TW_STATUS_SCL_LOW && !s.on F.TW_STATUS_SDA_LOW
  if s.twAnswers && s.on F.TW_STATUS_ATTN_PENDING && s.on F.TW_CFG_ATTN && idle then s.setTw { s.tw with pulse := true } else s

/-- The pulse has been sent. -/
def State.pulseEnd (s : State) : State :=
  if s.tw.pulse then ((s.setTw { s.tw with pulse := false }).down F.TW_STATUS_ATTN_PENDING).bump F.TW_COUNTS_ATTN_SENT else s

/-- `TW_SCL` fell during the pulse: it stays queued. -/
def State.pulseCollide (s : State) : State :=
  if s.tw.pulse then (s.setTw { s.tw with pulse := false }).bump F.TW_COUNTS_ATTN_COLLIDE else s

/-- The reminder period is over while an enabled source stays set. -/
def State.attnRepeat (s : State) : State :=
  if s.get F.TW_CFG_REPEAT != 0 && s.on F.TW_CFG_ATTN && (s.get F.TW_ATTN_SRC_SOURCES &&& s.get F.TW_ATTN_EN_ENABLE) != 0 then
    s.up F.TW_STATUS_ATTN_PENDING else s

end Sys2Proof.Machine
end

