-- ==== Sys2Proof/Machine/Winding.lean ====
section
/-! DEFINITION. WIND: the headers and copies of the configuration image, the checks of a copy, and how a copy that passes them is
applied (R46 to R57, Tables 3.1 to 3.13). -/

namespace Sys2Proof.Machine

/-! The layout of an image (R49, R50). -/

/-- A 16-bit field of an image. -/
def imgW (l : List Byte) (i : Nat) : Nat := ofLe (slice l i 2)

/-- A 32-bit field of an image. -/
def imgD (l : List Byte) (i : Nat) : Nat := ofLe (slice l i 4)

/-- A section table entry (Table 3.2). -/
structure SecEntry where
  type : Nat
  flags : Nat
  offset : Nat
  length : Nat
  crc : Nat
  deriving DecidableEq, Repr

/-- The section count N of a header. -/
def imgN (h : List Byte) : Nat := imgW h 6

/-- The section table of a header. -/
def secTable (h : List Byte) : List SecEntry :=
  (List.range (imgN h)).map (fun i =>
    let o := 0x20 + 16 * i
    ⟨imgW h o, imgW h (o + 2), imgD h (o + 4), imgD h (o + 8), imgD h (o + 12)⟩)

/-- Codes of Table 3.13. -/
def wrApplied : Nat := 0
/-- See `wrApplied`. -/
def wrNotNeeded : Nat := 1
/-- See `wrApplied`. -/
def wrMagic : Nat := 2
/-- See `wrApplied`. -/
def wrVersion : Nat := 3
/-- See `wrApplied`. -/
def wrTarget : Nat := 4
/-- See `wrApplied`. -/
def wrHeaderCrc : Nat := 5
/-- See `wrApplied`. -/
def wrLayout : Nat := 6
/-- See `wrApplied`. -/
def wrSectionCrc : Nat := 7
/-- See `wrApplied`. -/
def wrImageCrc : Nat := 8
/-- See `wrApplied`. -/
def wrContent : Nat := 9
/-- See `wrApplied`. -/
def wrUnwrap : Nat := 10
/-- See `wrApplied`. -/
def wrNotJudged : Nat := 0xF

/-- The number of header bytes that the largest section table needs; an erased flash reads 0xFF (R55). -/
def padHeader (h : List Byte) : List Byte := h ++ List.replicate (0x424 - h.length) 0xFF#8

/-- Whether two section bodies overlap (R50). -/
def bodiesMeet (a b : SecEntry) : Bool :=
  a.length != 0 && b.length != 0 && Nat.blt a.offset (b.offset + b.length) && Nat.blt b.offset (a.offset + a.length)

/-- Whether some two bodies of a table overlap. -/
def bodiesClash : List SecEntry → Bool
  | [] => false
  | e :: l => l.any (bodiesMeet e) || bodiesClash l

/-- Whether the layout of a header holds: N, L, and the offsets, lengths and alignment of the sections (Tables 3.1 and 3.2). -/
def layoutOk (h : List Byte) : Bool :=
  let n := imgN h
  let len := imgD h 0x0C
  inR 1 64 n && len % 4 == 0 && inR (0x28 + 16 * n) 4194304 len &&
  (secTable h).all (fun e => e.offset % 4 == 0 && Nat.ble (0x24 + 16 * n) e.offset && e.length % 4 == 0 &&
    Nat.ble (e.offset + e.length) (len - 4)) && !bodiesClash (secTable h)

/-- The result of the header checks, in the order of R55; `wrApplied` where all pass (Table 3.13). Log entry 52: DEDUCED. -/
def headerResult (h : List Byte) : Nat :=
  if slice h 0 4 != [0x41#8, 0x4C#8, 0x56#8, 0x49#8] then wrMagic
  else if imgW h 4 != 1 || imgW h 0x14 / 2 != 0 || (slice h 0x16 10).any (· != 0#8) ||
    (Nat.ble (imgN h) 64 && (secTable h).any (·.flags != 0)) then wrVersion
  else if imgW h 0x10 != 0x9604 || Nat.blt 0xB0 (imgW h 0x12) then wrTarget
  else if !layoutOk h then wrLayout
  else if (crc32 (slice h 0 (0x20 + 16 * imgN h))).toNat != imgD h (0x20 + 16 * imgN h) then wrHeaderCrc
  else wrApplied

/-- The generation of a copy. -/
def imgGen (h : List Byte) : Nat := imgD h 8

/-- The copies whose header is good, the newer first (R54). -/
def windOrder (h0 h1 : List Byte) : List Nat :=
  let ok0 := headerResult h0 == wrApplied
  let ok1 := headerResult h1 == wrApplied
  if ok0 && ok1 then (if follows (imgGen h1) (imgGen h0) then [1, 0] else [0, 1])
  else if ok0 then [0] else if ok1 then [1] else []

/-! Section bodies (Tables 3.4 to 3.10). Every reader gives its entries in order, or none where an entry breaks a rule or the body does not
end on an entry boundary (R56); the first argument bounds the number of entries by the number of bytes. -/

/-- Register records (Table 3.4): address and words. -/
def readRecords : Nat → List Byte → Option (List (Nat × List Nat))
  | _, [] => some []
  | 0, _ => none
  | n + 1, l =>
    let c := imgW l 2
    let size := 4 + 2 * c + 2 * (c % 2)
    if Nat.blt l.length size || !inR 1 256 c || Nat.blt 0x10000 (imgW l 0 + c) || (c % 2 == 1 && imgW l (4 + 2 * c) != 0) then none
    else (readRecords n (l.drop size)).map ((imgW l 0, (List.range c).map (fun i => imgW l (4 + 2 * i))) :: ·)

/-- Coefficient banks (Table 3.5): lane × 2 + bank, and taps. -/
def readBanks : Nat → List Byte → Option (List (Nat × List Nat))
  | _, [] => some []
  | 0, _ => none
  | n + 1, l =>
    let t := imgW l 2
    let size := 4 + 2 * t + 2 * (t % 2)
    if Nat.blt l.length size || Nat.blt 103 (byteAt l 0) || Nat.blt 1 (byteAt l 1) || !inR 1 384 t ||
      (t % 2 == 1 && imgW l (4 + 2 * t) != 0) then none
    else (readBanks n (l.drop size)).map ((2 * byteAt l 0 + byteAt l 1, (List.range t).map (fun i => imgW l (4 + 2 * i))) :: ·)

/-- AF tables (Table 3.6). -/
def readTables : Nat → List Byte → Option (List AfEntry)
  | _, [] => some []
  | 0, _ => none
  | n + 1, l =>
    let kind := byteAt l 1
    let f := byteAt l 2
    let size := 8 + 4 * f
    let e : AfEntry := ⟨byteAt l 0, kind, imgD l 4, (List.range f).map (fun i => imgD l (8 + 4 * i))⟩
    if Nat.blt l.length size || Nat.blt 254 e.index || !inR 1 3 kind || !inR 1 32 f || byteAt l 3 != 0 ||
      Nat.ble (2 ^ afWidth kind) e.ident || !e.freqs.all (inR 100000 960000000) then none
    else (readTables n (l.drop size)).map (e :: ·)

/-- Wrapped keys (Table 3.7): slot, usage and wrapped key; `seen` the slots before. -/
def readKeys : Nat → List Nat → List Byte → Option (List (Nat × Nat × List Byte))
  | _, _, [] => some []
  | 0, _, _ => none
  | n + 1, seen, l =>
    let slot := byteAt l 0
    let usage := byteAt l 2
    let wrapped := if byteAt l 1 = 0x10 then 24 else 40
    let size := 4 + wrapped
    if Nat.blt l.length size || Nat.blt 31 slot || seen.contains slot || (byteAt l 1 != 0x10 && byteAt l 1 != 0x20) ||
      !usageFits slot usage || byteAt l 3 != 0 then none
    else (readKeys n (slot :: seen) (l.drop size)).map ((slot, usage, slice l 4 wrapped) :: ·)

/-- A periodic entry of the pilot schedule (Table 3.9). -/
def readPeriodic (l : List Byte) : Option Periodic :=
  let p := byteAt l 8
  if imgW l 0 = 0 || Nat.ble (imgW l 0) (imgW l 2) || Nat.blt 34 (byteAt l 4) || Nat.blt 1 (byteAt l 5) || Nat.blt 1000 (imgW l 6) ||
    !inR 1 32 p || (slice l 9 3).any (· != 0#8) || (slice l (12 + p) (32 - p)).any (· != 0#8) then none
  else some ⟨imgW l 0, imgW l 2, byteAt l 4, if byteAt l 5 = 1 then imgW l 6 else 0, slice l 12 p⟩

/-- The header of the pilot schedule (Table 3.8) as bytes, and its periodic entries. -/
def readSchedule (l : List Byte) : Option (List Byte × List Periodic) :=
  let e := byteAt l 9
  let cca := sext 8 (byteAt l 8)
  if l.length != 16 + 44 * e || l.length < 16 || !inR 1 1000 (imgW l 0) || !inR 1 1000 (imgW l 2) || Nat.blt 96 (byteAt l 4) ||
    Nat.blt 1 (byteAt l 5) || !inR 4 32 (byteAt l 6) || Nat.blt 15 (byteAt l 7) || !decide (-110 ≤ cca ∧ cca ≤ -50) || Nat.blt 32 e ||
    (slice l 10 6).any (· != 0#8) then none
  else ((List.range e).mapM (fun i => readPeriodic (slice l (16 + 44 * i) 44))).map (fun p => (slice l 0 16, p))

/-- The urgent-class table (Table 3.10): kind, berth, action, hold. -/
def readUrgent (l : List Byte) : Option (List (Nat × Nat × Nat × Nat)) :=
  let es := (List.range (l.length / 8)).map (fun i => slice l (8 * i) 8)
  if l.length % 8 != 0 || Nat.blt 512 l.length ||
    es.any (fun e => !inR 1 4 (byteAt e 0) || !isBerthOr 0xFF (byteAt e 1) || Nat.blt 3 (byteAt e 2) || byteAt e 3 != 0 || imgW e 6 != 0)
  then none
  else some (es.map (fun e => (byteAt e 0, byteAt e 1, byteAt e 2, imgW e 4)))

/-! The content check of register records (R52). -/

/-- Registers that no record may write (R52); `BOND_KEY_CFG` counts as one of the key-entry registers. Log entry 138: DESIGN CHOICE. -/
def imgExcluded (a : Nat) : Bool :=
  a == 5 || inR 0x20 0x25 a || isCommit a || a == 0x2403 || keyEntry a || inR 0x2800 0x28FF a || inR 0x3000 0x3FFF a

/-- One register of a record: how many of `words` it takes and the state with its RW fields written, or none where R52 forbids it. The
state is a scratch copy: `s` gives the field map in force when the word is applied (R436). -/
def State.recordWord (s : State) (a : Nat) (words : List Nat) : Option (State × Nat) :=
  match regAt (s.stdAt a) a with
  | none => none
  | some (r, base) =>
    let v := ((List.range r.words).map (fun i => words.getD i 0 * 2 ^ (16 * i))).sum
    if imgExcluded a || a != base || Nat.blt words.length r.words || !r.fields.any (fun f => f.acc == .rw) || !legal (s.stdAt a) r base v then none
    else
      let t := s.written r base v
      if (5 == t.std (berthOf a) || 6 == t.std (berthOf a)) && Nat.ble 0x400 a && Nat.blt a 0x1C00 && t.dgReserved (berthOf a) then none
      else some (t, r.words)

/-- The words of a record from an address on. -/
def State.recordWords (s : State) : Nat → Nat → List Nat → Option State
  | _, _, [] => some s
  | 0, _, _ => none
  | n + 1, a, w :: ws =>
    match s.recordWord a (w :: ws) with
    | none => none
    | some (t, k) => t.recordWords n (a + k) ((w :: ws).drop k)

/-- The records of a section. -/
def State.recordsOk (s : State) (l : List (Nat × List Nat)) : Option State :=
  l.foldl (fun t e => t.bind (fun t => t.recordWords e.2.length e.1 e.2)) (some s)

/-! The checks of a copy (R55, R56, R53). -/

/-- How often a copy may hold a section type (Table 3.3). -/
def secMax (type : Nat) : Nat :=
  if type = 1 || type = 2 then 16 else if type = 3 then 4 else if inR 4 6 type then 1 else 0

/-- The body of a section. -/
def secBody (img : List Byte) (e : SecEntry) : List Byte := slice img e.offset e.length

/-- The index of the first section whose content fails; none where all pass. `s` is the scratch state with the records so far, `seen` the
types before, `af` the frequencies so far. Log entry 52: DEDUCED. -/
def contentFault (img : List Byte) : List SecEntry → Nat → List Nat → State → Nat → Option Nat
  | [], _, _, _, _ => none
  | e :: rest, i, seen, s, af =>
    let b := secBody img e
    let n := b.length
    if Nat.ble 0x8000 e.type then contentFault img rest (i + 1) seen s af
    else if Nat.ble (secMax e.type) (seen.count e.type) then some i
    else
      let next (s : State) (af : Nat) : Option Nat := contentFault img rest (i + 1) (e.type :: seen) s af
      if e.type = 1 then
        match (readRecords n b).bind s.recordsOk with
        | some t => next t af
        | none => some i
      else if e.type = 2 then (if (readBanks n b).isSome then next s af else some i)
      else if e.type = 3 then
        match readTables n b with
        | some l =>
          let af := af + (l.map (·.freqs.length)).sum
          if Nat.blt afLimit af then some i else next s af
        | none => some i
      else if e.type = 4 then (if (readKeys n [] b).isSome then next s af else some i)
      else if e.type = 5 then (if (readSchedule b).isSome then next s af else some i)
      else if (readUrgent b).isSome then next s af else some i

/-- The index of the first section that holds a wrapped key that does not unwrap (R53). Log entry 117: DESIGN CHOICE. -/
def State.unwrapFails (s : State) (img : List Byte) (es : List SecEntry) : Option Nat :=
  es.findIdx? (fun e => e.type == 4 && ((readKeys e.length [] (secBody img e)).getD []).any (fun k =>
    (s.kek.bind (fun kek => unwrapKey kek k.2.2)).isNone))

/-- Whether a storage address belongs to a table that the apply step loads anew: an AF table or an urgent-class entry (R51, Tables 3.6 and
3.10). -/
def imgTable (a : Nat) : Bool := inR 0x3010 0x3053 (mapAddr a) || inR 0x89 0x8B (mapAddr a)

/-- The registers outside KEEP at their reset values, and the tables of an image empty, as the apply step leaves them before the first section
(R55); the read-only ones then show what stands in their blocks. Log entry 53: DEDUCED. Log entry 22: DEDUCED. -/
def State.windClean (s : State) : State :=
  ((s.setRegs (s.regs.filter (fun e => domainOf (mapAddr (e.1 / 16)) == 0 && !imgTable (e.1 / 16)))).setPeriodics []).showOutside

/-- The first failing check of a copy and the section it names (0xFF: none); none where every check passes. The section CRCs come before the
image CRC, so that a corrupt section is named (Table 3.14). Log entry 52: DEDUCED. -/
def State.copyFault (s : State) (h img : List Byte) : Option (Nat × Nat) :=
  let es := secTable h
  let crcBad := es.findIdx? (fun e => (crc32 (secBody img e)).toNat != e.crc)
  match crcBad with
  | some i => some (wrSectionCrc, i)
  | none =>
    if (crc32 (img.take (imgD h 0x0C - 4))).toNat != imgD img (imgD h 0x0C - 4) then some (wrImageCrc, 0xFF)
    else match contentFault img es 0 [] s.windClean 0 with
      | some i => some (wrContent, i)
      | none =>
        if !es.any (·.type == 1) then some (wrContent, 0xFF)
        else (s.unwrapFails img es).map (fun i => (wrUnwrap, i))

/-! Applying a copy (R51, R55, R62, R63). -/

/-- One word of a register record. -/
def State.imageWord (s : State) (a w : Nat) : State :=
  if inR 0x154 0x156 a then s.timeWrite srcImage a w
  else if inR 0x89 0x8B a then s.urgEntryWrite srcImage a w
  else s.plainWrite srcImage a w

/-- A coefficient bank; taps from its count on stay as they are. A bank of a retired lane is refused (R125). -/
def State.imageBank (s : State) (b : Nat) (taps : List Nat) : State :=
  if s.isRetired .lane (b / 2) then (s.journal 2 0 0 srcImage resValue b).refusalBit resValue
  else
  let s := s.put { F.LN_BANK_LEN_TAPS with addr := bankAddr b 0x3001 } taps.length
  let s := s.each (List.range taps.length) (fun i t => t.put ⟨bankAddr b (0x3100 + i), 0, 16⟩ (taps.getD i 0))
  s.journal 2 0 0 srcImage 0xA b

/-- A wrapped key. -/
def State.imageKey (s : State) (k : Nat × Nat × List Byte) : State :=
  match s.kek.bind (fun kek => unwrapKey kek k.2.2) with
  | some key => s.loadSlot k.1 key k.2.1 srcImage true
  | none => s

/-- The pilot schedule. -/
def State.imageSchedule (s : State) (h : List Byte) (p : List Periodic) : State :=
  let s := (s.put F.PLT_DUTY_BUDGET (imgW h 0)).put F.PLT_HOLD_LIMIT (imgW h 2)
  let s := ((s.put F.PLT_TX_CFG_POWER (byteAt h 4)).put F.PLT_TX_CFG_RATE (byteAt h 5)).put F.PLT_TX_CFG_PREAMBLE (byteAt h 6)
  let s := (s.put F.PLT_RX_CFG_CAPTURE (byteAt h 7)).put F.PLT_RX_CFG_CCA_THRESH (byteAt h 8)
  (s.setPeriodics p).journal 5 0 0 srcImage 0xA 0

/-- The urgent-class table: its entries, and no kind in the others (R377). -/
def State.imageUrgent (s : State) (l : List (Nat × Nat × Nat × Nat)) : State :=
  let s := s.each (List.range 64) (fun i t =>
    let e := l.getD i (0, 0, 0, 0)
    (((t.put (F.URG_ENTRY_A_KIND.ofUrg i) e.1).put (F.URG_ENTRY_A_BERTH.ofUrg i) e.2.1).put (F.URG_ENTRY_B_ACTION.ofUrg i) e.2.2.1).put
      (F.URG_ENTRY_C_HOLD.ofUrg i) e.2.2.2)
  s.journal 6 0 0 srcImage 0xA 0

/-- One section. Log entry 53: DEDUCED. -/
def State.applySection (s : State) (img : List Byte) (e : SecEntry) : State :=
  let b := secBody img e
  let n := b.length
  if e.type = 1 then
    s.each ((readRecords n b).getD []) (fun r t =>
      t.each (List.range r.2.length) (fun i u => u.imageWord (r.1 + i) (r.2.getD i 0)))
  else if e.type = 2 then s.each ((readBanks n b).getD []) (fun x t => t.imageBank x.1 x.2)
  else if e.type = 3 then s.each ((readTables n b).getD []) (fun x t => (t.afPut x).journal 3 0 0 srcImage 0xA x.index)
  else if e.type = 4 then s.each ((readKeys n [] b).getD []) (fun x t => t.imageKey x)
  else if e.type = 5 then (match readSchedule b with | some (h, p) => s.imageSchedule h p | none => s)
  else if e.type = 6 then s.imageUrgent ((readUrgent b).getD [])
  else s

/-- A marker of WIND (Table 3.19). -/
def State.windMark (s : State) (code copy half : Nat) : State := s.journal 0xFFFF copy half srcSupervisor 0xE code

/-- The apply step (R51, R55). Log entry 53: DEDUCED. -/
def State.applyCopy (s : State) (copy : Nat) (h img : List Byte) : State :=
  let g := imgGen h
  let s := (s.windMark 1 copy (bits g 0 16)).windClean
  let es := secTable h
  let s := s.each [1, 2, 3, 4, 5, 6] (fun ty t => t.each (es.filter (·.type == ty)) (fun e u => u.applySection img e))
  let s := (s.each (List.range 116) (fun k t => t.holdFill k (t.fillOf k))).each (List.range 96) (fun n t => t.showLoad n)
  s.windMark 2 copy (bits g 16 16)

/-! The sequence (R55, R57). -/

/-- The result field of a copy. -/
def windResult (copy : Nat) : Fld := if copy = 0 then F.GLB_WIND_STATUS_COPY0_RESULT else F.GLB_WIND_STATUS_COPY1_RESULT

/-- The section field of a copy. -/
def windSection (copy : Nat) : Fld := if copy = 0 then F.GLB_WIND_DETAIL_SECTION0 else F.GLB_WIND_DETAIL_SECTION1

/-- No copy is left: ANCHOR (R55, Table 2.8). Log entry 54: DEDUCED. -/
def State.windFails (s : State) : State := s.enterAnchor cImageInvalid 0 9

/-- Where a copy begins in the flash (R46). -/
def copyBase (copy : Nat) : Nat := if copy = 0 then 0x000000 else 0x400000

/-- Whether the SFDP signature reads "SFDP" (R47). -/
def sfdpOk (x : Sfdp) : Bool := x.signature == 0x50444653#32

/-- Whether the parameter tables allow 1-1-4 reads (R47): DWORD 1 bit 22, the instruction 0x6B in DWORD 3, and no quad-enable bit that is
still to be set. QUAD_OK of the header that is read decides with them. -/
def sfdpQuad (x : Sfdp) : Bool :=
  sfdpOk x && bit x.dword1.toNat 22 && bits x.dword3.toNat 24 8 == 0x6B && (bits x.dword15.toNat 20 3 == 0 || x.quadEnabled)

/-- The dummy and mode clocks of a 1-1-4 read (R47). -/
def sfdpClocks (x : Sfdp) : Nat := bits x.dword3.toNat 16 5 + bits x.dword3.toNat 21 3

/-- The instructions of the start of WIND, the last one first: release, SFDP, and the two headers in 1-1-1 mode (R46, R47). -/
def headReads : List FlashRead :=
  [⟨0x0B, copyBase 1, 8, false⟩, ⟨0x0B, copyBase 0, 8, false⟩, ⟨0x5A, 0, 8, false⟩, ⟨0xAB, 0, 0, false⟩]

/-- How the body of a copy is read (R46, R47): 1-1-4 where the flash and the header allow it. -/
def bodyRead (quad : Bool) (clocks : Nat) (copy : Nat) (h : List Byte) : FlashRead :=
  if quad && bit (imgW h 0x14) 0 then ⟨0x6B, copyBase copy, clocks, true⟩ else ⟨0x0B, copyBase copy, 8, false⟩

/-- The reads with that of the next copy, where there is one. -/
def withBody (quad : Bool) (clocks : Nat) (headers : List (List Byte)) (todo : List Nat) (reads : List FlashRead) : List FlashRead :=
  match todo with
  | [] => reads
  | c :: _ => bodyRead quad clocks c (headers.getD c []) :: reads

/-- WIND begins: the flash reader has found what it reads before the first copy (R46, R47, R55, R446). -/
def State.windStart (s : State) (x : Sfdp) (hdr0 hdr1 : List Byte) : State :=
  let sfdp := sfdpOk x
  let h0 := padHeader hdr0
  let h1 := padHeader hdr1
  match s.boot with
  | none => s
  | some b =>
    if !b.ended || s.pinLow || s.dead then s
    else
      let order := windOrder h0 h1
      let s := s.windBegin (sfdpQuad x) (sfdpClocks x) [h0, h1] order (withBody (sfdpQuad x) (sfdpClocks x) [h0, h1] order headReads)
      let show_ (r : Nat) : Nat := if r = wrApplied then wrNotJudged else r
      let s := (s.put (windResult 0) (show_ (headerResult h0))).put (windResult 1) (show_ (headerResult h1))
      let s := ((s.put F.GLB_WIND_STATUS_SFDP_OK (b2n sfdp)).down F.GLB_WIND_STATUS_QUAD).put F.GLB_WIND_STATUS_COPY_USED 3
      let s := ((s.put (windSection 0) 0xFF).put (windSection 1) 0xFF).put F.GLB_WIND_GEN_GENERATION 0
      if order.isEmpty then s.windFails else s

/-- A copy that passed every check is applied, and REGULATE begins (R26, R34, R55). -/
def State.windEnd (s : State) (w : Wind) (copy : Nat) (h img : List Byte) : State :=
  let s := (s.applyCopy copy h img).setWind none
  let s := s.put (windResult copy) wrApplied
  let s := s.when (w.todo.length == 2) (·.put (windResult (1 - copy)) wrNotNeeded)
  let s := (s.put F.GLB_WIND_STATUS_COPY_USED copy).put F.GLB_WIND_STATUS_QUAD (b2n (w.quad && bit (imgW h 0x14) 0))
  let s := (s.put F.GLB_WIND_GEN_GENERATION (imgGen h)).windTime w.since
  let s := (s.enterMode .regulate cImageOk copy).tcxoShow
  let s := s.setRefCount { s.refCount with lost := false }
  let s := ((s.modeDomains).sweepBegin.regulateMovements).feedsBegin
  s.surveyDue

/-- The read of a copy ends: it is checked, and applied or rejected (R55). -/
def State.windCopy (s : State) (copy : Nat) (img : List Byte) : State :=
  match s.wind with
  | none => s
  | some w =>
    let h := w.headers.getD copy []
    if !(s.mode == .wind && s.boot.isNone && w.todo.head? == some copy && img.length == imgD h 0x0C) then s
    else match s.copyFault h img with
      | none => s.windEnd w copy h img
      | some (code, section_) =>
        let s := (s.put (windResult copy) code).put (windSection copy) section_
        let rest := w.todo.drop 1
        if rest.isEmpty then s.windFails else s.setWind (some { w with todo := rest, reads := withBody w.quad w.clocks w.headers rest w.reads })

end Sys2Proof.Machine
end

