-- ==== Sys2Proof/Machine/Events.lean ====
section
/-! DEFINITION. The two forms of a command, an event of the hardware and a word written by the host, and the small operations that only a
command uses. -/

namespace Sys2Proof.Machine

/-- What status fields show of state that is held elsewhere: the mode, the fill of the IV table, and the alert sources with their pin (Table
2.2 MODE, R341, R378). Every command ends with them up to date. Log entry 99: DEDUCED. -/
def State.shown (s : State) : State := ((s.put F.GLB_MODE_MODE s.mode.code).put F.BOND_IV_FILL_ENTRIES s.ivTable.length).alertShow

/-- The end of a command that began in `s` and has the effect `t`: the status fields are shown, and the queue is as it was. Log entry 99: DEDUCED. -/
def State.finish (s t : State) : State := t.shedFades.recordsTouch.shown.setPending s.pending

/-- A change of the supply or the reset pin, which reaches the device in every state. Log entry 1: DESIGN CHOICE. Log entry 47: DEDUCED. -/
def State.raw (s : State) (g : State → State) : Host.Outcome State Fault Refusal := .next (s.finish (g s))

/-- An event: where `ok` says that its unit exists and `VKEEP` holds the device up, `g` is its effect; otherwise nothing happens (R445, log
entry 1). Log entry 1: DESIGN CHOICE. -/
def State.event (s : State) (ok : Bool) (g : State → State) : Host.Outcome State Fault Refusal :=
  .next (if s.dead || !ok then s else s.finish (g s))

/-- A word that the host writes over the two-wire port, which answers while `VKEEP` holds the device up and `RESET_N` is high (R415).
Log entry 1: DESIGN CHOICE. Log entry 47: DEDUCED. Log entry 103: DEDUCED. -/
def State.host (s : State) (ok : Bool) (a w : Nat) : Host.Outcome State Fault Refusal :=
  s.event (ok && !s.pinLow) (fun s => s.regWrite srcTwoWire a w)

/-- What an event does to the timestamp counter may be a step, at which the record windows end (R258). -/
def State.stepped (s : State) (g : State → State) : State :=
  let t := g s
  if t.ts = s.ts then t else t.recordStep s

/-- The ban of a candidate runs out (R182). -/
def State.banOver (s : State) (h cand : Nat) : State := s.putFoll h { s.foll h with bans := (s.foll h).bans.filter (· != cand) }

/-- The DRBG reseeds (R324). Log entry 93: DEDUCED. -/
def State.reseed (s : State) : State := if s.on F.BOND_STATUS_ENGINE_OK then s.seed else s

/-- The engine processes a stretch of its request, or finds its two round computations apart, which is an alarm (R331, R349).
Log entry 93: DEDUCED. -/
def State.serveRound (s : State) (bytes : Nat) (roundOk : Bool) : State :=
  if roundOk then s.serve bytes
  else if s.on F.BOND_STATUS_ENGINE_OK && (s.bondServing.isSome || s.bondHead.isSome) then s.securityAlarm 4
  else s

/-- A request of the host, or a relayed stream, enters the pilot schedule where it has credit; a stream whose GCM request waits for that
credit enters with its request's release (R340, R360, R361). Log entry 95: DEDUCED. -/
def State.pilotArrive (s : State) (src srcSeq : Nat) (cont : Bool) (data : List Byte) : State :=
  if !(s.txCredit && s.domOn 7) then s
  else if src = 0x63 then
    if s.isTaken (256 + 0x63) srcSeq then s else (s.take (256 + 0x63) srcSeq).txAccept (s.hostRequest srcSeq cont data)
  else if src = 0x62 then
    if s.relays.any (·.srcSeq == srcSeq) then s.bondSettle
    else if Tbl.get (fun _ => 0) s.taken (256 + 0x62) == srcSeq + 1 then s
    else if relayFits false data.length then (s.take (256 + 0x62) srcSeq).txAccept (s.relayRequest ⟨src, srcSeq, false, [], false, data⟩)
    else s
  else s

/-- `DOM_CTRL` as it stands, with the bit of one domain changed (R438). -/
def State.domWord (s : State) (d : Nat) (v : Bool) : Nat :=
  let w := s.wordAt 0x2A00
  let b := 2 ^ domBit d
  if bit w (domBit d) == v then w else if v then w + b else w - b

end Sys2Proof.Machine
end

