-- ==== Sys2Proof/Machine/ExecAnalogue.lean ====
section
/-! DEFINITION. The commands of AM, FM and RDS berths and their fades. -/

namespace Sys2Proof.Machine

/-- AM_DEPTH_UPDATE (R169): Once a second an AM berth loads the peak modulation depths of the last second. -/
def execAmDepthUpdate (n : Nat) (s : State) : Host.Outcome State Fault Refusal :=
  s.event (Nat.blt n 96) (fun s => s.amDepth n)

/-- STEREO_PILOT_TIMER (R170): The pilot deviation has stayed past its threshold for 100 ms, and stereo is declared or dropped. -/
def execStereoPilotTimer (n : Nat) (above : Bool) (s : State) : Host.Outcome State Fault Refusal :=
  s.event (Nat.blt n 96) (fun s => s.stereo n above)

/-- RDS_BLOCK (R175): An RDS block is demodulated, checked against its offset word, and corrected within the limit. -/
def execRdsBlock (n : Nat) (raw : BitVec 32) (ts : BitVec 64) (s : State) : Host.Outcome State Fault Refusal :=
  s.event (Nat.blt n 96) (fun s => s.rdsBlock n (raw.toNat % 2 ^ 26) ts.toNat)

/-- AF_SOUNDING_DONE (R181): A spare lane's sounding of an AF candidate ends with a measured level. -/
def execAfSoundingDone (ml : Nat) (s : State) : Host.Outcome State Fault Refusal :=
  s.event (Nat.blt ml 104) (fun s => s.soundDone ml)

/-- AF_BAN_EXPIRE (R182): A candidate's 60 s ban expires. -/
def execAfBanExpire (h cand : Nat) (s : State) : Host.Outcome State Fault Refusal := s.event (Nat.blt h 96) (fun s => s.banOver h cand)

/-- AF_FADE_START (R182): A candidate meets the FOLLOW conditions, and a fade starts with the partner in STARTING. -/
def execAfFadeStart (h : Nat) (qHome : Int) (s : State) : Host.Outcome State Fault Refusal :=
  s.event (Nat.blt h 96 && !s.digital h) (fun s => s.followStart h qHome)

/-- FADE_PARTNER_SETTLED (R185): The partner's lane has settled, and the fade leaves STARTING. -/
def execFadePartnerSettled (h : Nat) (s : State) : Host.Outcome State Fault Refusal := s.event (Nat.blt h 96) (fun s => s.fadeSettled h)

/-- FADE_PI_TIMEOUT (R185): No matching PI arrives within 1 s, and the fade ends with PI_TIMEOUT. -/
def execFadePiTimeout (h : Nat) (s : State) : Host.Outcome State Fault Refusal :=
  s.event (Nat.blt h 96 && !s.digital h) (fun s => s.fadeTimeout h)

/-- FADE_DWELL_WINDOW (R186): A 100 ms dwell window ends with the quality comparison, which either counts toward DWELL or ends the fade with
QUALITY. -/
def execFadeDwellWindow (h : Nat) (qHome qPartner : Int) (s : State) : Host.Outcome State Fault Refusal :=
  s.event (Nat.blt h 96 && !s.digital h) (fun s => s.fadeWindow h qHome qPartner)

/-- FADE_ALIGN_DONE (R187): The delay alignment ends, and the partner's delay is applied or the fade fails. -/
def execFadeAlignDone (h : Nat) (s : State) : Host.Outcome State Fault Refusal :=
  s.event (Nat.blt h 96) (fun s => s.fadeAligned h)

/-- FADE_RAMP_DONE (R188): The raised-cosine audio ramp over N samples completes, and the fade enters SWAP. -/
def execFadeRampDone (h : Nat) (s : State) : Host.Outcome State Fault Refusal := s.event (Nat.blt h 96) (fun s => s.fadeRamped h)

/-- FADE_SWAP (R189): At the next 1 ms block the home and partner exchange lanes and lane fields, and the partner stops. -/
def execFadeSwap (h : Nat) (s : State) : Host.Outcome State Fault Refusal :=
  s.event (Nat.blt h 96) (fun s => (s.fadeSwapped h).recordSwap s h)

/-- FADE_GO_CMD (R190): BTH_SVC6 with CONFIRM 0x5A and GO starts a command fade at the home's next 1 ms block, or is refused. -/
def execFadeGoCmd (h : Nat) (w : Word) (s : State) : Host.Outcome State Fault Refusal :=
  s.host (Nat.blt h 96 && inR 1 4 (s.std h)) (0x40E + 0x40 * h) w.toNat

/-- FADE_ABORT_CMD (R190): BTH_SVC6 with ABORT ends a fade with ABORT_CMD, and the ramp returns along its mirror. -/
def execFadeAbortCmd (h : Nat) (w : Word) (s : State) : Host.Outcome State Fault Refusal :=
  s.host (Nat.blt h 96 && inR 1 4 (s.std h)) (0x40E + 0x40 * h) w.toNat

end Sys2Proof.Machine
end

