-- ==== Sys2Proof/Machine/ExecAudio.lean ====
section
/-! DEFINITION. The commands of audio ports. -/

namespace Sys2Proof.Machine

/-- AU_START_WRITE (R314): A write of AU_START is a synchronising reset of the named audio ports. -/
def execAuStartWrite (w : Word) (s : State) : Host.Outcome State Fault Refusal := s.host true 0x2340 w.toNat

/-- AUDIO_START_INSTANT (R313): A port reaches its start instant; a master sends its first sync, or a slave takes frame 0. -/
def execAudioStartInstant (p : Nat) (s : State) : Host.Outcome State Fault Refusal := s.event (Nat.blt p 4) (fun s => s.startInstant p)

/-- AUDIO_SETTLED (R312): The converter holds 64 input samples of every routed berth, and the port leaves SETTLING and ramps. -/
def execAudioSettled (p : Nat) (s : State) : Host.Outcome State Fault Refusal := s.event (Nat.blt p 4) (fun s => s.portSettled p)

/-- AUDIO_FADE_DONE (R312): A 64-frame fade or ramp completes, and the port reaches SILENT, PLAYING or STOPPED. -/
def execAudioFadeDone (p : Nat) (s : State) : Host.Outcome State Fault Refusal := s.event (Nat.blt p 4) (fun s => s.portFaded p)

/-- AUDIO_SLOT_LATE (R311): The FIFO falls to LOW while a slot's audio is missing, and the slot is faded and written as zeros. -/
def execAudioSlotLate (p slot : Nat) (s : State) : Host.Outcome State Fault Refusal := s.event (Nat.blt p 4) (fun s => s.slotLate p slot)

/-- AUDIO_UNDERRUN (R316): The output stage needs a frame and the drain FIFO is empty, so the port fades its guard line. -/
def execAudioUnderrun (p : Nat) (s : State) : Host.Outcome State Fault Refusal := s.event (Nat.blt p 4) (fun s => s.portUnderrun p)

/-- AUDIO_CONVERTER_RESUME (R316): The converter runs again and computes frames from 65 positions ahead, and the port ramps. -/
def execAudioConverterResume (p : Nat) (s : State) : Host.Outcome State Fault Refusal := s.event (Nat.blt p 4) (fun s => s.portResume p)

/-- AUDIO_RATE_WINDOW (R307): A 100 ms window of a slave port ends, and AU_RATE and FS_FOUND are updated. -/
def execAudioRateWindow (p : Nat) (rate : BitVec 32) (s : State) : Host.Outcome State Fault Refusal :=
  s.event (Nat.blt p 4) (fun s => s.rateWindow p rate.toNat)

/-- SLAVE_CLOCK_STOP (R317): No sync edge arrives within 2 frame periods, and the slave port mutes. -/
def execSlaveClockStop (p : Nat) (s : State) : Host.Outcome State Fault Refusal := s.event (Nat.blt p 4) (fun s => s.clockStop p)

/-- SLAVE_FRAME_GLITCH (R317): A frame arrives with a wrong bit-clock count, and the port mutes and re-aligns. -/
def execSlaveFrameGlitch (p : Nat) (s : State) : Host.Outcome State Fault Refusal := s.event (Nat.blt p 4) (fun s => s.clockGlitch p)

/-- SLAVE_RATE_CHANGE (R317): Eight frame periods lie outside ±0.2 %, and the port mutes and retargets. -/
def execSlaveRateChange (p : Nat) (s : State) : Host.Outcome State Fault Refusal := s.event (Nat.blt p 4) (fun s => s.rateChange p)

/-- SLAVE_CLOCK_QUALIFIED (R317): Sixteen good frames qualify the slave clock, and the port ramps. -/
def execSlaveClockQualified (p : Nat) (s : State) : Host.Outcome State Fault Refusal := s.event (Nat.blt p 4) (fun s => s.clockGood p)

end Sys2Proof.Machine
end

