-- ==== Sys2Proof/Machine/ExecBerths.lean ====
section
/-! DEFINITION. The commands of berths, tickets and cranes. -/

namespace Sys2Proof.Machine

/-- BERTH_RUN_WRITE (R155): RUN at 1 is armed for a berth, and the admission check runs against the loads, occupancy and count limits. -/
def execBerthRunWrite (n : Nat) (w : Word) (s : State) : Host.Outcome State Fault Refusal :=
  s.host (Nat.blt n 96 && w.getLsbD 15) (0x400 + 0x40 * n) w.toNat

/-- STANDARD_CHANGE (R436): A write that changes BTH_CTRL.STANDARD loads all eight service words with the new map's reset values. -/
def execStandardChange (n : Nat) (w : Word) (s : State) : Host.Outcome State Fault Refusal :=
  s.host (Nat.blt n 96) (0x400 + 0x40 * n) w.toNat

/-- BERTH_STOP_COMPLETE (R147): A stopping berth completes its current frame, reads STOPPED, and releases its loads. -/
def execBerthStopComplete (n : Nat) (s : State) : Host.Outcome State Fault Refusal := s.event (Nat.blt n 96) (fun s => s.berthStopped n)

/-- TICKET_READY (R150): A berth's next ticket becomes ready and enters its class's ready queue. -/
def execTicketReady (n cls : Nat) (kinds : List Nat) (s : State) : Host.Outcome State Fault Refusal :=
  s.event (Nat.blt n 96) (fun s => s.ticketReady n cls kinds)

/-- BEAT_END (R151): A crane's beat ends by its length or by the ticket's completion, and the crane chooses its next work. -/
def execBeatEnd (c : Nat) (complete : Bool) (noCredit : Bool) (progress : Nat) (s : State) : Host.Outcome State Fault Refusal :=
  s.event (Nat.blt c 33) (fun s => (s.beatDone c complete).beatEnd c complete noCredit progress)

/-- TICKET_UNPARK (R263): Credits become available, and a parked ticket rejoins the tail of its ready queue. -/
def execTicketUnpark (n : Nat) (s : State) : Host.Outcome State Fault Refusal := s.event (Nat.blt n 96) (fun s => s.unpark n)

/-- BERTH_INPUT_OVERWRITE (R264): A parked berth's lane would overwrite unconsumed input; its oldest frame is discarded and the mark is moved. -/
def execBerthInputOverwrite (n len : Nat) (s : State) : Host.Outcome State Fault Refusal := s.event (Nat.blt n 96) (fun s => s.berthOverwrite n len)

/-- CRANE_FAULT (R161): A crane check detects a fault; the crane stops, and the spare replays the ticket from its last mark. -/
def execCraneFault (c detector : Nat) (s : State) : Host.Outcome State Fault Refusal :=
  s.event (Nat.blt c 33 && inR 0x0401 0x0402 detector && s.domOn 5) (fun s => s.craneFault c detector)

/-- BEAT_WATCHDOG_EXPIRE (R395): No beat end comes by 2 × B_c + t_sw after a beat began, and the crane fault detector 0x0403 fires. -/
def execBeatWatchdogExpire (c : Nat) (s : State) : Host.Outcome State Fault Refusal :=
  s.event (Nat.blt c 33 && s.on (F.CRN_STATUS_BUSY c)) (fun s => s.craneFault c 0x0403)

/-- CRANE_SELFTEST_DONE (R161): A crane's known-answer self-test ends, and the crane becomes the spare, returns to work, or is retired. -/
def execCraneSelftestDone (c : Nat) (pass : Bool) (s : State) : Host.Outcome State Fault Refusal :=
  s.event (Nat.blt c 33) (fun s => s.craneTested c pass)

/-- CRANE_SELFTEST_CMD (R163): CRN_CMD with SELFTEST hands a working crane's ticket to the spare at its next beat end and then tests the crane. -/
def execCraneSelftestCmd (c : Nat) (w : Word) (s : State) : Host.Outcome State Fault Refusal :=
  s.host (Nat.blt c 33) (0x1C07 + 0x10 * c) w.toNat

/-- CONSIGNMENT_ARRIVAL (R162): A consignment arrives at the hold entrance and is accepted, dropped as a duplicate, or refused. -/
def execConsignmentArrival (n c : Nat) (seq : BitVec 32) (content : Nat) (settling injected : Bool) (ts : BitVec 64) (payload : List Byte) (s : State) : Host.Outcome State Fault Refusal :=
  s.event (Nat.blt n 96 && Nat.blt c 33) (fun s => s.arrive n c seq.toNat content (s.flags settling false false injected) ts.toNat payload)

end Sys2Proof.Machine
end

