-- ==== Sys2Proof/Machine/ExecBond.lean ====
section
/-! DEFINITION. The commands of the bond engine. -/

namespace Sys2Proof.Machine

/-- LOAD_KEY (R326): The BOND_CMD operation unwraps the staged key into a slot, defers it, or is refused. -/
def execLoadKey (confirm : Byte) (slot : Nat) (s : State) : Host.Outcome State Fault Refusal :=
  s.host (Nat.blt slot 32) 0x2401 (confirm.toNat * 256 + slot * 8 + 1)

/-- ERASE_SLOT (R347): The BOND_CMD operation erases one slot at once and ends its requests with KEY_GONE. -/
def execEraseSlot (confirm : Byte) (slot : Nat) (s : State) : Host.Outcome State Fault Refusal :=
  s.host (Nat.blt slot 32) 0x2401 (confirm.toNat * 256 + slot * 8 + 2)

/-- ERASE_ALL (R347): The BOND_CMD operation erases every slot at once. -/
def execEraseAll (confirm : Byte) (s : State) : Host.Outcome State Fault Refusal := s.host true 0x2401 (confirm.toNat * 256 + 3)

/-- PROGRAM_KEK (R328): The BOND_CMD operation starts burning the device KEK into OTP, or is refused. -/
def execProgramKek (confirm : Byte) (s : State) : Host.Outcome State Fault Refusal := s.host true 0x2401 (confirm.toNat * 256 + 4)

/-- KEK_BURN_DONE (R328): The fuses are burned; KEK_LOCKED sets and the check value loads. -/
def execKekBurnDone (s : State) : Host.Outcome State Fault Refusal := s.event true (·.kekBurned)

/-- BOND_REQUEST_ACCEPT (R330): A request enters the 64-entry request hold with its generation bound, once it has credit. -/
def execBondRequestAccept (src : Nat) (srcSeq : BitVec 32) (mode : Nat) (ts : BitVec 64) (data : List Byte) (s : State) : Host.Outcome State Fault Refusal :=
  s.event true (fun s => s.reqArrive src srcSeq.toNat mode ts.toNat data)

/-- BOND_REQUEST_SERVE (R331): The engine takes the head request and processes it block by block. -/
def execBondRequestServe (bytes : Nat) (roundOk : Bool) (s : State) : Host.Outcome State Fault Refusal :=
  s.event true (fun s => s.serveRound bytes roundOk)

/-- BOND_RESIDUE_FAULT (R395): A bond datapath residue failure stops the engine, discards unaccepted output, and re-serves the request after
self-test. -/
def execBondResidueFault (s : State) : Host.Outcome State Fault Refusal := s.event true (fun s => s.bondResidue false)

/-- GCM_VERDICT (R336): A GCM request's checks and tag end in ACCEPT or REJECT, and the plaintext and verdict marker are written. -/
def execGcmVerdict (s : State) : Host.Outcome State Fault Refusal := s.event true (·.gcmVerdict)

/-- XTS_SECTOR_DONE (R344): An XTS request completes, and its data unit leaves as sector consignments or a REJECT marker. -/
def execXtsSectorDone (s : State) : Host.Outcome State Fault Refusal := s.event true (·.xtsDone)

/-- CAPTURE_FLUSH_TIMEOUT (R343): A unit's first byte has waited CAP_FLUSH ms, and the unit is closed early with 0xFF fill. -/
def execCaptureFlushTimeout (c : Nat) (s : State) : Host.Outcome State Fault Refusal := s.event (Nat.blt c 8) (fun s => s.capFlush c)

/-- IV_ENTRY_EXPIRE (R341): An IV table entry expires BOND_IV_HOLD seconds after its last change. -/
def execIvEntryExpire (slot : Nat) (gen : Word) (iv : List Byte) (s : State) : Host.Outcome State Fault Refusal :=
  s.event true (fun s => s.ivExpire slot gen.toNat iv)

/-- ENTROPY_HEALTH_FAIL (R324): An entropy health test fails, and the engine stops before its next block. -/
def execEntropyHealthFail (s : State) : Host.Outcome State Fault Refusal := s.event true (·.entropyFail)

/-- ENTROPY_RETRY (R324): Every 10 ms the seed is retried, and the engine resumes when a test passes. -/
def execEntropyRetry (pass : Bool) (s : State) : Host.Outcome State Fault Refusal := s.event true (fun s => s.entropyRetry pass)

/-- DRBG_RESEED (R324): The DRBG reseeds after 1 s or 2¹⁶ generate calls. -/
def execDrbgReseed (s : State) : Host.Outcome State Fault Refusal := s.event true (·.reseed)

/-- KEY_SHARE_REFRESH (R323): Every 1 s the key shares in each slot are re-randomised. -/
def execKeyShareRefresh (s : State) : Host.Outcome State Fault Refusal := s.event true (·.refreshShares)

end Sys2Proof.Machine
end

