-- ==== Sys2Proof/Machine/ExecDigital.lean ====
section
/-! DEFINITION. The commands of DAB and DRM berths and their fades. -/

namespace Sys2Proof.Machine

/-- DAB_FRAME (R197): A DAB transmission frame is received; the FIC is decoded at once and the MSC symbols are stored for deinterleaving. -/
def execDabFrame (n : Nat) (f : DabFrame) (s : State) : Host.Outcome State Fault Refusal := s.event (Nat.blt n 96) (fun s => s.dabFrame n f)

/-- DAB_ALARM_TIMEOUT (R201): No FIG 0/19 for cluster 0xFF arrives for 2 s, and the alarm state ends. -/
def execDabAlarmTimeout (n : Nat) (s : State) : Host.Outcome State Fault Refusal := s.event (Nat.blt n 96) (fun s => s.dabAlarmTimeout n)

/-- DAB_SYNC_LOSS (R196): The PRS is missed in 3 frames or no FIB passes for 1 s; the berth returns to SEARCH and voids incomplete units. -/
def execDabSyncLoss (n : Nat) (s : State) : Host.Outcome State Fault Refusal := s.event (Nat.blt n 96) (fun s => s.dabLost n)

/-- DAB_RECONFIG_APPLY (R200): The signalled CIF arrives, and the new organisation applies with CONFIG incremented. -/
def execDabReconfigApply (n : Nat) (cif : Nat) (s : State) : Host.Outcome State Fault Refusal :=
  s.event (Nat.blt n 96) (fun s => s.dabReconfig n cif)

/-- CIF_DEINTERLEAVED (R197): A CIF leaves the time deinterleaver once CIF 15 later is received, and its subchannels are decoded. -/
def execCifDeinterleaved (n : Nat) (cif : Nat) (ts : BitVec 64) (subs : List SubchData) (s : State) : Host.Outcome State Fault Refusal :=
  s.event (Nat.blt n 96) (fun s => s.cifOut n cif ts.toNat subs)

/-- DRM_FRAME (R208): A DRM transmission frame is received, its FAC is decoded, and its MSC cells are stored. -/
def execDrmFrame (n : Nat) (f : DrmFrame) (s : State) : Host.Outcome State Fault Refusal := s.event (Nat.blt n 96) (fun s => s.drmFrame n f)

/-- DRM_SUPERFRAME (R208): A DRM super frame completes; its SDC is decoded, its MSC is decoded by levels, and its units are emitted. -/
def execDrmSuperframe (n : Nat) (f : DrmSuper) (s : State) : Host.Outcome State Fault Refusal :=
  s.event (Nat.blt n 96) (fun s => s.drmSuper n f)

/-- DRM_SYNC_LOSS (R207): No FAC passes its CRC for 2 s, and the berth returns to SEARCH. -/
def execDrmSyncLoss (n : Nat) (s : State) : Host.Outcome State Fault Refusal := s.event (Nat.blt n 96) (fun s => s.drmLost n)

/-- DRM_RECONFIG_APPLY (R208): A signalled reconfiguration applies at its super frame boundary. -/
def execDrmReconfigApply (n : Nat) (s : State) : Host.Outcome State Fault Refusal := s.event (Nat.blt n 96) (fun s => s.drmReconfig n)

/-- DIGITAL_FADE_START (R215): A DAB or DRM FOLLOW berth starts a fade to the best candidate. -/
def execDigitalFadeStart (h : Nat) (pHome : Int) (s : State) : Host.Outcome State Fault Refusal :=
  s.event (Nat.blt h 96 && s.digital h) (fun s => s.followStart h pHome)

/-- DIGITAL_VERIFY_TIMEOUT (R216): The partner has not shown the reference identifier within 3 s or 4 s, and the fade ends with PI_TIMEOUT. -/
def execDigitalVerifyTimeout (h : Nat) (s : State) : Host.Outcome State Fault Refusal :=
  s.event (Nat.blt h 96 && s.digital h) (fun s => s.fadeTimeout h)

/-- DIGITAL_DWELL_WINDOW (R217): A 100 ms MER comparison window of a DAB or DRM fade ends. -/
def execDigitalDwellWindow (h : Nat) (home partner : Nat × Nat) (s : State) : Host.Outcome State Fault Refusal :=
  s.event (Nat.blt h 96) (fun s => s.digitalWindow h home partner)

/-- DIGITAL_ALIGN_DONE (R218): ALIGN chooses a seamless or cut swap and the swap point c, or fails. -/
def execDigitalAlignDone (h : Nat) (s : State) : Host.Outcome State Fault Refusal :=
  s.event (Nat.blt h 96) (fun s => s.digitalAligned h)

/-- DIGITAL_SWAP (R219): At the start of c the home and partner exchange lanes, decoders and areas. -/
def execDigitalSwap (h : Nat) (s : State) : Host.Outcome State Fault Refusal :=
  s.event (Nat.blt h 96) (fun s => (s.digitalSwap h).recordSwap s h)

/-- FADE_PARTNER_DRAINED (R219): The old decoder's last unit has left, and the partner stops. -/
def execFadePartnerDrained (h : Nat) (s : State) : Host.Outcome State Fault Refusal := s.event (Nat.blt h 96) (fun s => s.partnerDrained h)

end Sys2Proof.Machine
end

