-- ==== Sys2Proof/Machine/ExecDvb.lean ====
section
/-! DEFINITION. The commands of DVB-T and DVB-T2 berths. -/

namespace Sys2Proof.Machine

/-- T2_FRAME (R227): A DVB-T2 frame is received, P1 and L1 are decoded, and cells are written into the time deinterleaver. -/
def execT2Frame (n : Nat) (f : T2Frame) (s : State) : Host.Outcome State Fault Refusal := s.event (Nat.blt n 96) (fun s => s.t2Frame n f)

/-- EWS_TIMEOUT (R236): No L1 passes its CRC for 2 s, and the EWS state ends. -/
def execEwsTimeout (n : Nat) (s : State) : Host.Outcome State Fault Refusal := s.event (Nat.blt n 96) (fun s => s.ewsTimeout n)

/-- DVBT_FRAME (R225): A DVB-T OFDM frame is received, the TPS is decoded, and the stream is decoded. -/
def execDvbtFrame (n : Nat) (f : DvbtFrame) (s : State) : Host.Outcome State Fault Refusal :=
  s.event (Nat.blt n 96) (fun s => s.dvbtFrame n f)

/-- DVB_SYNC_LOSS (R224): P1 is missed 3 times or L1 fails for 1 s, and the DVB berth returns to SEARCH. -/
def execDvbSyncLoss (n : Nat) (s : State) : Host.Outcome State Fault Refusal := s.event (Nat.blt n 96) (fun s => s.dvbLost n)

/-- L1_CHANGE_APPLY (R230): An announced L1 change applies at its T2 frame, and memory is judged again. -/
def execL1ChangeApply (n : Nat) (plps : List Plp) (ts : BitVec 64) (s : State) : Host.Outcome State Fault Refusal :=
  s.event (Nat.blt n 96) (fun s => s.l1Change n plps ts.toNat)

/-- INTERLEAVING_FRAME_COMPLETE (R227): An interleaving frame is complete, and its FEC frames are LDPC-decoded and rebuilt into TS packets. -/
def execInterleavingFrameComplete (n : Nat) (plp frameIdx : Nat) (ts : BitVec 64) (fecs : List FecFrame) (s : State) : Host.Outcome State Fault Refusal :=
  s.event (Nat.blt n 96) (fun s => s.ifComplete n plp frameIdx ts.toNat fecs)

/-- DG_REASSEMBLY_TIMEOUT (R237): A reassembly is not complete within 2 s of its first section, and it is discarded. -/
def execDgReassemblyTimeout (n ref : Nat) (s : State) : Host.Outcome State Fault Refusal :=
  s.event (Nat.blt n 96) (fun s => s.dgTimeout n ref)

end Sys2Proof.Machine
end

