-- ==== Sys2Proof/Machine/ExecIntakes.lean ====
section
/-! DEFINITION. The commands of intakes, calibration and feeds. -/

namespace Sys2Proof.Machine

/-- REGULATE_CAPTURE_DONE (R99): A 14 ms calibrator capture ends and is checked against the factory vectors; a failure is repeated or marks the
intake faulty. -/
def execRegulateCaptureDone (k : Nat) (pass : Bool) (meas : List (Word × Word)) (s : State) : Host.Outcome State Fault Refusal :=
  s.event (isFeed k) (fun s => s.captureDone k pass (meas.map (fun x => (x.1.toNat, x.2.toNat))))

/-- ADC_BLOCK (R110): A 256-sample ADC block completes and is health-checked, and gain-state changes take effect at it. -/
def execAdcBlock (k : Nat) (xs : List (BitVec 14)) (fault pops : Nat) (s : State) : Host.Outcome State Fault Refusal :=
  s.event (isFeed k) (fun s => s.adcBlock k (xs.map BitVec.toInt) fault pops)

/-- AGC_WINDOW_END (R92): A 10 ms AGC measurement window ends, and the AGC may lower or raise the net gain. -/
def execAgcWindowEnd (k : Nat) (level : Int) (s : State) : Host.Outcome State Fault Refusal :=
  s.event (isFeed k) (fun s => s.agcWindow k level)

/-- INTAKE_SELFTEST_DONE (R111): An intake's 2 ms calibrator-tone self-test ends, and the event is classed TRANSIENT, repeated, or LASTING with
the intake retired. -/
def execIntakeSelftestDone (k : Nat) (pass : Bool) (s : State) : Host.Outcome State Fault Refusal :=
  s.event (isFeed k) (fun s => s.intakeTested k pass)

/-- NO_SIGNAL_TIMEOUT (R112): The wideband level has stayed below −60 dBFS for 1 s at the ceiling gain, and NO_SIGNAL sets. -/
def execNoSignalTimeout (k : Nat) (s : State) : Host.Outcome State Fault Refusal := s.event (isFeed k) (fun s => s.noSignal k)

/-- VREF_CHECK (R97): The 100 ms comparison of VREF_CAL with the bandgap updates CAL_VREF and VREF_OK. -/
def execVrefCheck (tenthMv : Nat) (s : State) : Host.Outcome State Fault Refusal := s.event true (fun s => s.vrefCheck tenthMv)

/-- CAL_VISIT_DUE (R101): A background calibration visit of an intake falls due and injects a tone into a free bin when nothing blocks it. -/
def execCalVisitDue (k : Nat) (quiet : List Nat) (s : State) : Host.Outcome State Fault Refusal :=
  s.event (isFeed k) (fun s => s.visitDue k quiet)

/-- CAL_VISIT_DONE (R102): A 2 ms background injection ends and the intake's drift term is updated. -/
def execCalVisitDone (k : Nat) (gain phase : Int) (s : State) : Host.Outcome State Fault Refusal :=
  s.event (isFeed k) (fun s => s.visitDone k gain phase)

/-- CAL_VISIT_SKIP (R101): A visit cannot take place within 1 s of its due time; it is skipped, and STALE sets after 6 skips. -/
def execCalVisitSkip (k : Nat) (s : State) : Host.Outcome State Fault Refusal := s.event (isFeed k) (fun s => s.visitSkip k)

/-- FEED_ENABLE_WRITE (R104): A write of FEED_CFG.ENABLE switches a feed on with a soft start, or off. -/
def execFeedEnableWrite (k : Nat) (w : Word) (s : State) : Host.Outcome State Fault Refusal :=
  s.host (isFeed k) (0x260 + 0x10 * (k - 1)) w.toNat

/-- FEED_SOFT_START_END (R104): The PWM soft-start ramp ends, and FEEDk_EN stays high. -/
def execFeedSoftStartEnd (k : Nat) (s : State) : Host.Outcome State Fault Refusal :=
  s.event (isFeed k) (fun s => s.down (F.FEED_STATUS_SOFT k))

/-- FEED_SHORT (R105): The sensed current crosses FEED_SHORT, and the comparator drives FEEDk_EN low within 2 µs. -/
def execFeedShort (k ma : Nat) (s : State) : Host.Outcome State Fault Refusal :=
  s.event (isFeed k) (fun s => (s.feedSense k ma).feedTrip k 0x0208 (F.FEED_STATUS_SHORT_EV k))

/-- FEED_I2T_TRIP (R106): The I²t accumulator exceeds FEED_I2T, and the feed is cut. -/
def execFeedI2tTrip (k ma us : Nat) (s : State) : Host.Outcome State Fault Refusal :=
  s.event (isFeed k) (fun s => s.feedI2t k ma us)

/-- FEED_COOL_OFF_END (R107): The cool-off after a trip ends, and the feed restarts when ENABLE and AUTO_RETRY are set. -/
def execFeedCoolOffEnd (k : Nat) (s : State) : Host.Outcome State Fault Refusal := s.event (isFeed k) (fun s => s.feedCooled k)

/-- FEED_STUCK (R108): Current still flows 1 ms after FEEDk_EN fell, and STUCK_EV sets. -/
def execFeedStuck (k ma : Nat) (s : State) : Host.Outcome State Fault Refusal := s.event (isFeed k) (fun s => s.feedStuck k ma)

/-- FEED_TRIP_AGE_OUT (R107): A feed trip becomes older than 10 minutes and leaves the FEED_STATUS.TRIPS count on which LATCHED is judged.
Log entry 66: DEDUCED. -/
def execFeedTripAgeOut (k : Nat) (s : State) : Host.Outcome State Fault Refusal :=
  s.event (isFeed k) (fun s => s.putTrips k (s.trips k - 1))

end Sys2Proof.Machine
end

