-- ==== Sys2Proof/Machine/ExecLanes.lean ====
section
/-! DEFINITION. The commands of lanes. -/

namespace Sys2Proof.Machine

/-- LANE_START (R134): A lane told to run starts at the next channeliser block with zeroed histories and phases. -/
def execLaneStart (n : Nat) (s : State) : Host.Outcome State Fault Refusal := s.event (Nat.blt n 96) (fun s => s.laneStart n)

/-- LANE_STOP (R134): A lane told to stop completes its current output sample and reads STOPPED. -/
def execLaneStop (n : Nat) (s : State) : Host.Outcome State Fault Refusal := s.event (Nat.blt n 96) (fun s => s.laneStop n)

/-- GLB_SYNCRESET_WRITE (R135): The highest word of GLB_SYNCRESET is written, arming a synchronising reset of the berths named. -/
def execGlbSyncresetWrite (w : Word) (s : State) : Host.Outcome State Fault Refusal := s.host true 0x25 w.toNat

/-- LANE_SYNC_RESET (R135): At the first channeliser block after the write, every running lane of the named berths restarts on the same block. -/
def execLaneSyncReset (s : State) : Host.Outcome State Fault Refusal := s.event true (·.syncReset)

/-- LANE_SETTLED (R136): A lane's first N_settle output samples after a start or reset have been emitted, and SETTLING ends. -/
def execLaneSettled (n : Nat) (s : State) : Host.Outcome State Fault Refusal :=
  s.event (Nat.blt n 96) (fun s => s.laneSettled n)

/-- DETECTOR_WINDOW_END (R129): A detector window of 2^w samples ends, and the peak, RMS and envelope registers load, or DET_STALE sets. -/
def execDetectorWindowEnd (n : Nat) (s : State) : Host.Outcome State Fault Refusal := s.event (Nat.blt n 96) (fun s => s.detectorEnd n)

/-- LANE_RESIDUE_FAULT (R138): A residue check or a bank error detects a lane fault, and the sample concerned is marked as an erasure. -/
def execLaneResidueFault (l : Nat) (bank branch2 : Bool) (s : State) : Host.Outcome State Fault Refusal :=
  s.event (Nat.blt l 104) (fun s => s.laneFault l (if bank then 0x0302 else 0x0301) {} (b2n branch2))

/-- PATROL_START (R140): A free spare copies a running lane and starts mirroring it. -/
def execPatrolStart (l : Nat) (s : State) : Host.Outcome State Fault Refusal := s.event (Nat.blt l 104) (fun s => s.patrolStart l)

/-- PATROL_COMPARE_END (R140): A patrol's 100 ms bit-for-bit comparison ends, and a mismatch leads to a spare self-test and a takeover. -/
def execPatrolCompareEnd (l : Nat) (equal : Bool) (spareOk : Bool) (s : State) : Host.Outcome State Fault Refusal :=
  s.event (Nat.blt l 104) (fun s => s.patrolEnd l equal spareOk)

/-- TAKEOVER_SWITCH (R141): The spare has settled and matches the lane, and the berth's output switches to it between two samples. -/
def execTakeoverSwitch (n : Nat) (s : State) : Host.Outcome State Fault Refusal := s.event (Nat.blt n 96) (fun s => s.takeoverSwitch n)

/-- LANE_SELFTEST_DONE (R142): A lane's calibrator-tone and bank read-back self-test ends, and the lane becomes a spare or is retired. -/
def execLaneSelftestDone (l : Nat) (pass : Bool) (s : State) : Host.Outcome State Fault Refusal :=
  s.event (Nat.blt l 104) (fun s => s.laneTested l pass)

end Sys2Proof.Machine
end

