-- ==== Sys2Proof/Machine/ExecModes.lean ====
section
/-! DEFINITION. The commands of modes, resets and WIND. -/

namespace Sys2Proof.Machine

/-- VKEEP_POWER_ON (R446): VKEEP rises through its 0.72 V power-on threshold, releasing the power-on reset with a new epoch and empty journals. -/
def execVkeepPowerOn (s : State) : Host.Outcome State Fault Refusal := s.raw (·.keepBack)

/-- VKEEP_FALL (R445): VKEEP falls below 0.66 V; KEEP loses its contents and the device is held in power-on reset. -/
def execVkeepFall (s : State) : Host.Outcome State Fault Refusal := s.raw (·.keepLost)

/-- RESET_PIN_WARM (R45): RESET_N has been low for 1 µs; the device classes a warm reset and runs the shutdown steps 2 to 5 of R41. -/
def execResetPinWarm (s : State) : Host.Outcome State Fault Refusal := s.raw (·.pinWarm)

/-- RESET_PIN_FULL (R44): RESET_N is still low at 10 ms; the reset becomes a full reset with a new epoch and cleared STORE, QUAY and key store. -/
def execResetPinFull (s : State) : Host.Outcome State Fault Refusal := s.raw (·.pinFull)

/-- RESET_N_RELEASE (R45): RESET_N rises, allowing WIND to begin once the shutdown steps have ended. -/
def execResetNRelease (s : State) : Host.Outcome State Fault Refusal := s.raw (·.setPinLow false)

/-- WIND_BEGIN (R446): Once reset is released and the supplies have been in range for 1 ms, the supervisor powers every domain on and starts WIND. -/
def execWindBegin (sfdp : Sfdp) (hdr0 hdr1 : List Byte) (s : State) : Host.Outcome State Fault Refusal :=
  s.event true (fun s => s.windStart sfdp hdr0 hdr1)

/-- WIND_COPY_READ_DONE (R55): The flash read of an image copy completes; the copy is checked and either applied or rejected. -/
def execWindCopyReadDone (copy : Nat) (img : List Byte) (s : State) : Host.Outcome State Fault Refusal :=
  s.event true (fun s => s.windCopy copy img)

/-- REGULATE_END (R99): The tables are built and all movements are locked, so REGULATE ends with REGULATED or REGULATED_NO_REFIN. -/
def execRegulateEnd (ms : Nat) (dIntake : List Nat × List Nat) (uIntake : Nat × Nat) (s : State) : Host.Outcome State Fault Refusal :=
  s.event true (fun s => s.regulated ms dIntake uIntake)

/-- REGULATE_LOCK_TIMEOUT (R26): At 3 s into REGULATE a pair is still unlocked or no reference is usable, and the device enters ANCHOR. -/
def execRegulateLockTimeout (s : State) : Host.Outcome State Fault Refusal := s.event true (·.regulateTimeout)

/-- ENTER_SURVEY (R29): The ENTER_SURVEY mode command takes the device from RUN into SURVEY. -/
def execEnterSurvey (confirm : Byte) (s : State) : Host.Outcome State Fault Refusal := s.host true 0x5 (confirm.toNat * 256 + 1)

/-- END_SURVEY (R40): The END_SURVEY mode command returns the device from SURVEY to RUN and restarts the stopped berths. -/
def execEndSurvey (confirm : Byte) (s : State) : Host.Outcome State Fault Refusal := s.host true 0x5 (confirm.toNat * 256 + 2)

/-- ENTER_ANCHOR (R41): The ENTER_ANCHOR mode command takes the device to ANCHOR. -/
def execEnterAnchor (confirm : Byte) (s : State) : Host.Outcome State Fault Refusal := s.host true 0x5 (confirm.toNat * 256 + 3)

/-- REWIND (R45): The REWIND mode command starts a warm reset with the same epoch. -/
def execRewind (confirm : Byte) (s : State) : Host.Outcome State Fault Refusal := s.host true 0x5 (confirm.toNat * 256 + 4)

/-- FULL_RESET (R44): The FULL_RESET mode command starts a full reset with a new epoch. -/
def execFullReset (confirm : Byte) (s : State) : Host.Outcome State Fault Refusal := s.host true 0x5 (confirm.toNat * 256 + 5)

/-- CANCEL_SURVEY_SCHEDULE (R29): The mode command writes 0 to GLB_SURVEY_AT and clears SURVEY_DEFERRED. -/
def execCancelSurveySchedule (confirm : Byte) (s : State) : Host.Outcome State Fault Refusal := s.host true 0x5 (confirm.toNat * 256 + 6)

/-- SURVEY_AT_WRITE (R37): The highest word of GLB_SURVEY_AT is written; a non-zero value at or below the present seconds makes the schedule due
at once. -/
def execSurveyAtWrite (w : Word) (s : State) : Host.Outcome State Fault Refusal := s.host true 0x12 w.toNat

/-- SURVEY_SCHEDULE_DUE (R37): The timestamp counter reaches GLB_SURVEY_AT; SURVEY starts in RUN, and otherwise is deferred to the next entry
into RUN. -/
def execSurveyScheduleDue (s : State) : Host.Outcome State Fault Refusal := s.event true (·.surveyDue)

/-- SURVEY_COMPLETE (R40): The full-band scan completes, inventory records are emitted, and the device returns to RUN. -/
def execSurveyComplete (found : List Found) (tables : List AfEntry) (s : State) : Host.Outcome State Fault Refusal :=
  s.event true (fun s => s.surveyDone found tables)

/-- SURVEY_LIMIT_EXPIRE (R40): SURVEY has lasted GLB_SURVEY_LIMIT seconds, and the device returns to RUN. -/
def execSurveyLimitExpire (s : State) : Host.Outcome State Fault Refusal := s.event true (fun s => s.surveyEnd cSurveyLimit)

/-- TAMPER_ALARM (R349): TAMPER_N has been low for 200 ns with TAMPER_EN set, raising a security alarm. -/
def execTamperAlarm (s : State) : Host.Outcome State Fault Refusal :=
  s.event true (fun s => s.when (s.on F.BOND_CTRL_TAMPER_EN) (·.securityAlarm 0))

/-- SUPPLY_GLITCH (R349): VCORE or VKEEP has been outside its glitch window for 10 ns, raising a security alarm. -/
def execSupplyGlitch (s : State) : Host.Outcome State Fault Refusal := s.event true (fun s => s.when (!s.glitchMasked) (·.securityAlarm 1))

/-- TEMPERATURE_ALARM (R349): The junction temperature passes above 125 °C or below −50 °C, raising a security alarm. -/
def execTemperatureAlarm (s : State) : Host.Outcome State Fault Refusal := s.event true (fun s => s.securityAlarm 2)

end Sys2Proof.Machine
end

