-- ==== Sys2Proof/Machine/ExecPilot.lean ====
section
/-! DEFINITION. The commands of the pilot link. -/

namespace Sys2Proof.Machine

/-- PILOT_REQUEST_ACCEPT (R360): A host, relay or periodic transmit request enters the pilot schedule and takes a producer 0x64 number. -/
def execPilotRequestAccept (src : Nat) (srcSeq : BitVec 32) (cont : Bool) (data : List Byte) (s : State) : Host.Outcome State Fault Refusal :=
  s.event true (fun s => s.pilotArrive src srcSeq.toNat cont data)

/-- PERIODIC_DUE (R362): A periodic entry falls due at its second and becomes a request, or is skipped. -/
def execPeriodicDue (e : Nat) (s : State) : Host.Outcome State Fault Refusal := s.event true (fun s => s.periodicDue e)

/-- PILOT_SCHEDULE_STEP (R363): The request at the head of the schedule passes through the checks of steps 1 to 7 in order. -/
def execPilotScheduleStep (s : State) : Host.Outcome State Fault Refusal := s.event true (·.scheduleStep)

/-- LOCK_WAIT_EXPIRE (R358): The accumulated lock wait exceeds the hold limit, and the request ends LATE. -/
def execLockWaitExpire (s : State) : Host.Outcome State Fault Refusal := s.event true (·.lockWaitExpire)

/-- BUDGET_WAIT_EXPIRE (R365): A request has waited PLT_WAIT seconds for budget, and it ends NO_BUDGET. -/
def execBudgetWaitExpire (s : State) : Host.Outcome State Fault Refusal := s.event true (·.budgetWaitExpire)

/-- CCA_MEASURE_DONE (R364): The clear-channel measurement ends; a clear channel gives the start decision, and a busy one gives a backoff or
CHANNEL_BUSY. -/
def execCcaMeasureDone (s : State) : Host.Outcome State Fault Refusal := s.event true (·.ccaDone)

/-- CCA_BACKOFF_END (R364): A random backoff ends, and the clear-channel check runs again. -/
def execCcaBackoffEnd (s : State) : Host.Outcome State Fault Refusal := s.event true (·.backoffEnd)

/-- PILOT_WINDOW_OPEN (R357): At t_d + 1.2 µs TRSW0 and TRSW1 switch to transmit, and the pilot window opens. -/
def execPilotWindowOpen (clamped : Bool) (s : State) : Host.Outcome State Fault Refusal := s.event true (fun s => s.windowOpen clamped)

/-- PILOT_AIR_END (R357): The last FCS bit ends, the DAC goes to 0, and the switches return to receive. -/
def execPilotAirEnd (s : State) : Host.Outcome State Fault Refusal := s.event true (·.airEnd)

/-- PILOT_TURNROUND_END (R357): The TX-to-RX turn-round ends; the pilot window closes, the request ends, and a listen window may open. -/
def execPilotTurnroundEnd (s : State) : Host.Outcome State Fault Refusal := s.event true (·.turnroundEnd)

/-- LISTEN_WINDOW_END (R366): The listen window's time expires, and LISTENING clears. -/
def execListenWindowEnd (s : State) : Host.Outcome State Fault Refusal := s.event true (·.listenClose)

/-- DUTY_BIN_EXPIRE (R365): A 1 s air-time bin leaves the rolling-hour sum 3,601 s after its start. -/
def execDutyBinExpire (second : Nat) (s : State) : Host.Outcome State Fault Refusal := s.event true (fun s => s.dutyExpire second)

/-- PREAMBLE_DECLARED (R370): A receive berth's correlator declares a preamble, which starts or restarts synchronisation or preempts a frame. -/
def execPreambleDeclared (n timing : Nat) (freq : Int) (s : State) : Host.Outcome State Fault Refusal :=
  s.event (Nat.blt n 96) (fun s => s.preamble n timing freq)

/-- SFD_FOUND (R370): The SFD is found, AFC freezes, and the berth reads the PHR. -/
def execSfdFound (n : Nat) (freq : Int) (s : State) : Host.Outcome State Fault Refusal := s.event (Nat.blt n 96) (fun s => s.sfd n freq)

/-- SFD_TIMEOUT (R370): No SFD comes within 272 bit periods, and the reception counts as FALSE_PREAMBLE. -/
def execSfdTimeout (n : Nat) (s : State) : Host.Outcome State Fault Refusal := s.event (Nat.blt n 96) (fun s => s.sfdTimeout n)

/-- PHR_RECEIVED (R370): The PHR is read and checked, or the frame ends with PHR_INVALID. -/
def execPhrReceived (n : Nat) (phr : Word) (snr : Int) (s : State) : Host.Outcome State Fault Refusal :=
  s.event (Nat.blt n 96) (fun s => s.phr n phr.toNat snr)

/-- PILOT_FRAME_RECEIVED (R372): The PSDU ends; the FCS is checked and a frame-received consignment is emitted. -/
def execPilotFrameReceived (n : Nat) (psdu : List Byte) (freqs : List Int) (s : State) : Host.Outcome State Fault Refusal :=
  s.event (Nat.blt n 96) (fun s => s.rxFrame n psdu freqs)

/-- CAPTURE_OVERRUN (R373): A pilot capture FIFO overruns, the frame ends CAPTURE_LOST, and the berth returns to SEARCH. -/
def execCaptureOverrun (i : Nat) (s : State) : Host.Outcome State Fault Refusal := s.event true (fun s => s.captureOverrun i)

end Sys2Proof.Machine
end

