-- ==== Sys2Proof/Machine/ExecProtection.lean ====
section
/-! DEFINITION. The commands of protection, injection, domains and supplies. -/

namespace Sys2Proof.Machine

/-- SCRUB_WORD_READ (R392): The scrubber reads one protected word and handles it by the DEC-TED rules. -/
def execScrubWordRead (mem bank row col : Nat) (seen : WordSeen) (s : State) : Host.Outcome State Fault Refusal :=
  s.event true (fun s => s.scrub mem bank row col seen)

/-- SCRUB_PASS_LATE (R392): A scrub pass has not ended within 1.1 times its period, and SCRUB_LATE sets. -/
def execScrubPassLate (mem : Nat) (s : State) : Host.Outcome State Fault Refusal := s.event (inR 1 6 mem) (fun s => s.scrubLate false)

/-- MEMORY_SELFTEST_DONE (R391): A memory word's pattern self-test ends, and the word is classed TRANSIENT, repeated, or LASTING. -/
def execMemorySelftestDone (mem bank row col : Nat) (pass : Bool) (s : State) : Host.Outcome State Fault Refusal :=
  s.event true (fun s => s.wordTested (wordAddr mem bank row col) pass)

/-- ROW_REPLACE_DONE (R401): A retired row has been copied into a spare row, and the row map is updated. -/
def execRowReplaceDone (mem bank row : Nat) (s : State) : Host.Outcome State Fault Refusal :=
  s.event true (fun s => s.rowReplaced mem bank row)

/-- UNIT_SELFTEST_DONE (R398): The self-test of an audio converter, the bond engine or the TX DAC ends and is classified. -/
def execUnitSelftestDone (ty idx : Nat) (pass : Bool) (s : State) : Host.Outcome State Fault Refusal :=
  s.event true (fun s => s.unitTested ty idx pass)

/-- RETEST (R400): The PROT_CMD operation starts two self-test runs of a retired unit, or is refused. -/
def execRetest (w : Word) (s : State) : Host.Outcome State Fault Refusal := s.host true 0x260C w.toNat

/-- RETEST_DONE (R400): The RETEST runs end, and the unit is restored on PASS or stays retired on FAIL. -/
def execRetestDone (pass : Bool) (s : State) : Host.Outcome State Fault Refusal := s.event true (fun s => s.retested pass)

/-- INJECT_ARM (R405): INJ_CMD with ARM arms an injection, or is refused. -/
def execInjectArm (w : Word) (s : State) : Host.Outcome State Fault Refusal := s.host true 0x2705 w.toNat

/-- INJECT_CANCEL (R406): INJ_CMD with CANCEL disarms the injection. -/
def execInjectCancel (w : Word) (s : State) : Host.Outcome State Fault Refusal := s.host true 0x2705 w.toNat

/-- DOMAIN_FAULT (R402): The supervisor declares a domain fault, and the restart sequence begins at its isolation step. -/
def execDomainFault (d cause : Nat) (s : State) : Host.Outcome State Fault Refusal := s.event (inR 1 7 d) (fun s => s.domainFault d cause)

/-- DOMAIN_HEARTBEAT_TIMEOUT (R402): A domain does not answer the heartbeat within 1 ms, and a domain fault follows. Log entry 39: DEDUCED. -/
def execDomainHeartbeatTimeout (d : Nat) (s : State) : Host.Outcome State Fault Refusal := s.event (inR 1 7 d) (fun s => s.domainFault d 4)

/-- DOMAIN_RESTART_STEP_DONE (R402): A timed step of a domain restart completes, and the next step begins. -/
def execDomainRestartStepDone (d : Nat) (s : State) : Host.Outcome State Fault Refusal := s.event (inR 1 7 d) (fun s => s.restartStep d)

/-- CUSTODY_REBUILD_DONE (R277): The custody rebuild ends; copies are checked against their descriptors, and resends follow. -/
def execCustodyRebuildDone (errs : List (Nat × BitVec 32 × Nat × Byte)) (s : State) : Host.Outcome State Fault Refusal :=
  s.event true (fun s => s.rebuildDone (errs.map (fun x => (x.1, x.2.1.toNat, x.2.2))))

/-- DOMAIN_RESTART_TIMEOUT (R43): The domain is not ready within 50 ms, and the device enters ANCHOR with DOMAIN_FAULT. -/
def execDomainRestartTimeout (d : Nat) (s : State) : Host.Outcome State Fault Refusal := s.event (inR 1 7 d) (fun s => s.restartTimeout d)

/-- INTAKE_DOMAIN_OFF (R438): DOM_CTRL.INTAKEk_ON written to 0 switches the intake domain off. -/
def execIntakeDomainOff (k : Nat) (s : State) : Host.Outcome State Fault Refusal := s.host (isFeed k) 0x2A00 (s.domWord (1 + k) false)

/-- INTAKE_DOMAIN_ON (R438): DOM_CTRL.INTAKEk_ON written to 1 switches the intake domain on, with its registers restored. -/
def execIntakeDomainOn (k : Nat) (s : State) : Host.Outcome State Fault Refusal := s.host (isFeed k) 0x2A00 (s.domWord (1 + k) true)

/-- QUAY_DOMAIN_RETAIN (R438): DOM_CTRL.QUAY_ON written to 0 stops the quays and pilot link and passes QUAY to retention. -/
def execQuayDomainRetain (s : State) : Host.Outcome State Fault Refusal := s.host true 0x2A00 (s.domWord 7 false)

/-- QUAY_DOMAIN_ON (R438): DOM_CTRL.QUAY_ON written to 1 brings QUAY on, and held consignments leave. -/
def execQuayDomainOn (s : State) : Host.Outcome State Fault Refusal := s.host true 0x2A00 (s.domWord 7 true)

/-- DOMAIN_SWITCH_DONE (R438): A commanded domain switch completes, and SWITCH_EV sets. -/
def execDomainSwitchDone (d : Nat) (s : State) : Host.Outcome State Fault Refusal := s.event (inR 1 7 d) (fun s => s.switchDone d)

/-- SUPPLY_RANGE_EXIT (R440): A supply's 1 ms mean leaves its range; RANGE_EV sets and a domain fault follows for the domains it feeds. -/
def execSupplyRangeExit (sup mv : Nat) (s : State) : Host.Outcome State Fault Refusal :=
  s.event (Nat.blt sup 6) (fun s => s.supplyExit sup mv)

/-- TEMP_WARN_RISE (R440): The junction reaches SUP_TEMP_WARN, and TEMP_WARN rises. -/
def execTempWarnRise (temp : Word) (s : State) : Host.Outcome State Fault Refusal := s.event true (fun s => s.tempRise temp.toNat)

/-- SUPPLY_RANGE_RETURN (R440): A supply's 1 ms mean returns into its operating range, and its IN_RANGE bit sets again. -/
def execSupplyRangeReturn (sup mv : Nat) (s : State) : Host.Outcome State Fault Refusal :=
  s.event (Nat.blt sup 6) (fun s => s.supplyReturn sup mv)

/-- TEMP_WARN_FALL (R440): The junction temperature falls 3 °C below SUP_TEMP_WARN, and TEMP_WARN falls. -/
def execTempWarnFall (temp : Word) (s : State) : Host.Outcome State Fault Refusal := s.event true (fun s => s.tempFall temp.toNat)

end Sys2Proof.Machine
end

