-- ==== Sys2Proof/Machine/ExecQuays.lean ====
section
/-! DEFINITION. The commands of quays and the landing port. -/

namespace Sys2Proof.Machine

/-- QUAY_FRAME_START (R289): At a frame boundary a running quay not held off starts the oldest consignment in its hold. -/
def execQuayFrameStart (q : Nat) (s : State) : Host.Outcome State Fault Refusal := s.event (Nat.blt q 4) (fun s => s.quayStart q)

/-- QUAY_FRAME_END (R276): The last CRC byte of a frame is committed to the serialiser, and the consignment is released. -/
def execQuayFrameEnd (q : Nat) (s : State) : Host.Outcome State Fault Refusal := s.event (Nat.blt q 4) (fun s => (s.quayEnd q).settle)

/-- QUAY_HOLD_RISE (R290): Qn_HOLD rises, and SOF decisions 30 ns later are withheld. -/
def execQuayHoldRise (q : Nat) (s : State) : Host.Outcome State Fault Refusal := s.event (Nat.blt q 4) (fun s => s.quayHold q true)

/-- QUAY_HOLD_FALL (R290): Qn_HOLD falls, and the quay may start frames again 30 ns later. -/
def execQuayHoldFall (q : Nat) (s : State) : Host.Outcome State Fault Refusal := s.event (Nat.blt q 4) (fun s => s.quayHold q false)

/-- QUAY_HOLD_LONG (R291): Qn_HOLD stays high beyond QY_HOLD_LIMIT, and the quay notices it. -/
def execQuayHoldLong (q : Nat) (s : State) : Host.Outcome State Fault Refusal := s.event (Nat.blt q 4) (fun s => s.quayHoldLong q)

/-- LANDING_ALIGNED (R294): After 16 clean comma columns the landing port sets ALIGNED. -/
def execLandingAligned (s : State) : Host.Outcome State Fault Refusal := s.event true (·.landAligned)

/-- LANDING_ALIGN_LOST (R294): Four code errors within 64 columns clear ALIGNED and restart alignment. -/
def execLandingAlignLost (s : State) : Host.Outcome State Fault Refusal := s.event true (·.landAlignLost)

/-- LANDING_FRAME_JUDGED (R297): A landing frame is judged for refused bytes, CRC, header and duplicates, and is accepted or discarded. -/
def execLandingFrameJudged (codeError : Bool) (eofOk : Bool) (s : State) : Host.Outcome State Fault Refusal :=
  s.event true (fun s => s.landJudge codeError eofOk)

/-- LANDING_FRAME_HANDOFF (R299): The destination has credit, and an accepted landing frame passes to the pilot schedule or the bond request hold. -/
def execLandingFrameHandoff (s : State) : Host.Outcome State Fault Refusal := s.event true (·.landHandoff)

/-- LANDING_COLUMN_RECEIVED (R296): A column arrives on the landing lanes; a data column of a frame is pushed into the landing FIFO or refused at
full, with L_STOP and L_FULL following within 20 ns and CODE_EV set on a code error. -/
def execLandingColumnReceived (g0 g1 : BitVec 10) (pops : Nat) (s : State) : Host.Outcome State Fault Refusal :=
  s.event true (fun s => s.landColumn g0 g1 pops)

end Sys2Proof.Machine
end

