-- ==== Sys2Proof/Machine/ExecRecords.lean ====
section
/-! DEFINITION. The commands of measurement records. -/

namespace Sys2Proof.Machine

/-- RECORD_WINDOW_END (R255): A berth's record window on the fixed grid ends. -/
def execRecordWindowEnd (n : Nat) (s : State) : Host.Outcome State Fault Refusal := s.event (Nat.blt n 96) (fun s => s.windowEnd n)

/-- RECORD_COMPLETE (R255): The last frame or unit belonging to an ended window is decoded, and the record is emitted as a consignment. -/
def execRecordComplete (n : Nat) (s : State) : Host.Outcome State Fault Refusal :=
  s.event (Nat.blt n 96) (fun s => s.recordDone n)

/-- INTAKE_RECORD_WINDOW_END (R255): A window of the intake record grid ends, and the supervisor emits an intake record. -/
def execIntakeRecordWindowEnd (s : State) : Host.Outcome State Fault Refusal :=
  s.event true (fun s => s.intakeRecord)

end Sys2Proof.Machine
end

