-- ==== Sys2Proof/Machine/ExecRegisters.lean ====
section
/-! DEFINITION. The commands of registers. -/

namespace Sys2Proof.Machine

/-- COMMIT_OPEN (R60): The COMMIT operation OPEN opens a group for the block's LIVE writes. -/
def execCommitOpen (a : Word) (s : State) : Host.Outcome State Fault Refusal := s.host (isCommit a.toNat) (a.toNat) 1

/-- COMMIT_GO (R60): The COMMIT operation GO judges the group and arms it, or refuses it with REFUSED_VALUE. -/
def execCommitGo (a : Word) (s : State) : Host.Outcome State Fault Refusal := s.host (isCommit a.toNat) (a.toNat) 2

/-- COMMIT_ABORT (R60): The COMMIT operation ABORT discards the unarmed shadow and closes the group. -/
def execCommitAbort (a : Word) (s : State) : Host.Outcome State Fault Refusal := s.host (isCommit a.toNat) (a.toNat) 4

/-- LIVE_CHANGE_APPLY (R59): An armed LIVE change takes effect at its block's next natural boundary. -/
def execLiveChangeApply (a : Word) (u : Nat) (s : State) : Host.Outcome State Fault Refusal :=
  s.event true (fun s => s.boundary a.toNat u)

/-- JNL_SELECT_WRITE (R64): The high word of JNL_SELECT copies the named change-journal entry into JNL_ENTRY, or sets SELECT_MISS. -/
def execJnlSelectWrite (w : Word) (s : State) : Host.Outcome State Fault Refusal := s.host true 0x2803 w.toNat

/-- JNL_CLEAR_LOST (R64): Writing 1 to JNL_STATUS.CLEAR_LOST zeroes UNREAD_LOST. -/
def execJnlClearLost (w : Word) (s : State) : Host.Outcome State Fault Refusal := s.host true 0x280F w.toNat

/-- ERR_SELECT_WRITE (R410): The high word of ERR_SELECT copies the named error-journal entry into ERR_ENTRY. -/
def execErrSelectWrite (w : Word) (s : State) : Host.Outcome State Fault Refusal := s.host true 0x2813 w.toNat

/-- ERR_CLEAR_LOST (R410): Writing 1 to ERR_STATUS.CLEAR_LOST zeroes the error journal's UNREAD_LOST. -/
def execErrClearLost (w : Word) (s : State) : Host.Outcome State Fault Refusal := s.host true 0x2824 w.toNat

/-- LST_SEL_WRITE (R443): A write of LST_SEL copies the lading statistics of the named pair into the window. -/
def execLstSelWrite (w : Word) (s : State) : Host.Outcome State Fault Refusal := s.host true 0x3800 w.toNat

/-- READ_WITH_EFFECT (R10): A read of an RC field clears it, and a read of a wide value's low word snapshots its upper words. -/
def execReadWithEffect (a : Word) (s : State) : Host.Outcome State Fault Refusal := s.event (!s.pinLow) (fun s => s.readWord a.toNat)

/-- REGISTER_WRITE (R12): A write to a register without a row of its own is judged by access type, class, mode and value, then applied or refused. -/
def execRegisterWrite (a w : Word) (s : State) : Host.Outcome State Fault Refusal := s.host true (a.toNat) w.toNat

end Sys2Proof.Machine
end

