-- ==== Sys2Proof/Machine/ExecTimebase.lean ====
section
/-! DEFINITION. The commands of references, movements and the timestamp counter. -/

namespace Sys2Proof.Machine

/-- REFIN_LOST (R81): REFIN misses an edge or fails two frequency windows; the device enters DRIFT and holds over, or enters ANCHOR when no TCXO
is qualified. -/
def execRefinLost (edge : Bool) (s : State) : Host.Outcome State Fault Refusal := s.event true (fun s => s.refinGone edge)

/-- TCXO_LOST (R66): TCXO_IN misses an edge for 37.5 ns or fails its window; TCXO_OK clears, and in DRIFT the device enters ANCHOR. -/
def execTcxoLost (edge : Bool) (s : State) : Host.Outcome State Fault Refusal := s.event true (fun s => s.tcxoLost edge)

/-- REF_COUNT_WINDOW_END (R66): A 100 ms reference-counter window ends; the frequency of each input is judged and the qualification counts
advance or restart. -/
def execRefCountWindowEnd (refin tcxo : Nat) (s : State) : Host.Outcome State Fault Refusal :=
  s.event true (fun s => s.refWindow refin tcxo)

/-- BAND_SEARCH_DONE (R68): A movement's 7-step binary band search completes, its loop closes, and its lock windows start. -/
def execBandSearchDone (m : Nat) (counts : List Nat) (s : State) : Host.Outcome State Fault Refusal :=
  s.event (Nat.blt m 4) (fun s => s.bandDone m counts)

/-- LOCK_WINDOW_END (R69): A 1,024-period lock window ends; the movement declares lock after 4 windows in tolerance, or loss of lock after 2
windows out of tolerance. -/
def execLockWindowEnd (m count : Nat) (s : State) : Host.Outcome State Fault Refusal :=
  s.event (Nat.blt m 4) (fun s => s.lockWindow m count)

/-- LOCK_BOUND_EXPIRE (R69): A movement misses its lock bound; it searches once more, and after a second miss it has failed its re-check. -/
def execLockBoundExpire (m : Nat) (s : State) : Host.Outcome State Fault Refusal := s.event (Nat.blt m 4) (fun s => s.lockMissed m)

/-- PFD_SLIP (R70): The PFD phase error exceeds a quarter comparison period, and the locked movement declares loss of lock. -/
def execPfdSlip (m : Nat) (s : State) : Host.Outcome State Fault Refusal := s.event (Nat.blt m 4) (fun s => s.slip m)

/-- TWIN_GUARD_CHECK (R70): Once per reference period the twin guard compares the counts of both members and declares the one further from
nominal lost. -/
def execTwinGuardCheck (pair : Nat) (c0 c1 : Nat) (s : State) : Host.Outcome State Fault Refusal :=
  s.event (Nat.blt pair 2) (fun s => s.twinGuard pair c0 c1)

/-- TWIN_TRIM_DONE (R76): The vernier trim of a re-locked member completes, and the loads move back at a period boundary. -/
def execTwinTrimDone (pair : Nat) (skew : Word) (s : State) : Host.Outcome State Fault Refusal :=
  s.event (Nat.blt pair 2) (fun s => s.trimDone pair skew.toNat)

/-- AUDIO_FAMILY_WRITE (R79): A write of TB_AUDIO_CFG.FAMILY starts the four-step change of N of the audio pair, or is refused. -/
def execAudioFamilyWrite (w : Word) (s : State) : Host.Outcome State Fault Refusal := s.host true 0x106 w.toNat

/-- RELOCK_CMD (R80): A write of TB_PAIR_CMD forces a re-lock of one movement, or is refused. -/
def execRelockCmd (w : Word) (s : State) : Host.Outcome State Fault Refusal := s.host true 0x105 w.toNat

/-- TCXO_OFFSET_WINDOW_END (R82): A 10 s window ends and TB_TCXO_OFFSET is updated with the measured TCXO offset. -/
def execTcxoOffsetWindowEnd (off : BitVec 32) (s : State) : Host.Outcome State Fault Refusal :=
  s.event true (fun s => s.offsetWindow off.toNat)

/-- PPS_EDGE (R85): An active PPS_IN edge arrives and is used for qualification, steering, ignored as stray, or as the time for a pending
TB_TIME_SET. -/
def execPpsEdge (err : Int) (gap : Int) (s : State) : Host.Outcome State Fault Refusal :=
  s.event true (fun s => s.stepped (·.ppsEdge err gap))

/-- PPS_LOST (R86): No edge arrives within 10 µs after a predicted second, and PPS_IN counts as lost. -/
def execPpsLost (s : State) : Host.Outcome State Fault Refusal := s.event true (·.ppsLost)

/-- TIME_SET_WRITE (R87): The highest word of TB_TIME_SET is written, and the seconds value is applied at the next qualified PPS edge or whole
second. -/
def execTimeSetWrite (w : Word) (s : State) : Host.Outcome State Fault Refusal := s.host true 0x156 w.toNat

/-- TIME_SET_WHOLE_SECOND (R87): With no qualified PPS_IN, a pending TB_TIME_SET seconds value takes effect at the timestamp counter's next whole
second, and nanoseconds restart at 0. -/
def execTimeSetWholeSecond (s : State) : Host.Outcome State Fault Refusal := s.event true (fun s => s.stepped (·.wholeSecond))

end Sys2Proof.Machine
end

