-- ==== Sys2Proof/Machine/ExecTwoWire.lean ====
section
/-! DEFINITION. The commands of the two-wire port. -/

namespace Sys2Proof.Machine

/-- TW_START (R416): A START with the port's address opens a two-wire transaction. -/
def execTwStart (addr : BitVec 7) (read : Bool) (s : State) : Host.Outcome State Fault Refusal :=
  s.event true (fun s => s.twStart addr.toNat read)

/-- TW_POINTER_SET (R417): Two register-address bytes load the port's pointer. -/
def execTwPointerSet (ra : Word) (s : State) : Host.Outcome State Fault Refusal := s.event true (fun s => s.twPointer ra.toNat)

/-- TW_WORD_WRITE (R418): A complete written word is applied as one access at the pointer, and the pointer advances. -/
def execTwWordWrite (w : Word) (s : State) : Host.Outcome State Fault Refusal := s.event true (fun s => s.twWrite w.toNat)

/-- TW_WORD_READ (R420): A word is sampled for reading; its side effects act at the end of its sixteenth bit, and the pointer advances. -/
def execTwWordRead (ack : Bool) (s : State) : Host.Outcome State Fault Refusal := s.event true (fun s => s.twRead ack)

/-- TW_STOP (R416): A STOP in place ends the transaction. -/
def execTwStop (s : State) : Host.Outcome State Fault Refusal := s.event true (·.twStop)

/-- TW_FRAME_ERROR (R423): A START or STOP out of place discards the word in progress and counts a FRAME error. -/
def execTwFrameError (start : Bool) (partialWord : Bool) (s : State) : Host.Outcome State Fault Refusal :=
  s.event true (fun s => s.twFrame start partialWord)

/-- TW_SDA_RELEASE_TIMEOUT (R425): SCL has stayed high for 1 ms while the port drives SDA low, so the port releases and abandons the transaction. -/
def execTwSdaReleaseTimeout (partialWord : Bool) (s : State) : Host.Outcome State Fault Refusal :=
  s.event true (fun s => s.twAbandon partialWord)

/-- TW_STRETCH_TIMEOUT (R422): A read value is not ready 1.5 ms into a stretch, and 0x0000 is sent as a stale read. -/
def execTwStretchTimeout (s : State) : Host.Outcome State Fault Refusal := s.event true (·.twStale)

/-- TW_SCL_TIMEOUT (R427): SCL has been low for 25 ms in an open transaction, and the port returns to idle. -/
def execTwSclTimeout (partialWord : Bool) (s : State) : Host.Outcome State Fault Refusal := s.event true (fun s => s.twSclStuck partialWord)

/-- TW_SDA_TIMEOUT (R427): SDA has been held low by another device for 25 ms, and SDA_STUCK sets. -/
def execTwSdaTimeout (s : State) : Host.Outcome State Fault Refusal := s.event true (·.twSdaStuck)

/-- ATTN_PULSE_START (R429): After 100 µs of idle bus the port pulls SDA low for a queued attention pulse. -/
def execAttnPulseStart (s : State) : Host.Outcome State Fault Refusal := s.event true (·.pulseStart)

/-- ATTN_PULSE_END (R429): The 40 µs pulse ends, SDA is released, and ATTN_SENT increments. -/
def execAttnPulseEnd (s : State) : Host.Outcome State Fault Refusal := s.event true (·.pulseEnd)

/-- ATTN_COLLIDE (R429): SCL falls during a pulse; the port releases SDA and queues the pulse again. -/
def execAttnCollide (s : State) : Host.Outcome State Fault Refusal := s.event true (·.pulseCollide)

/-- ATTN_REPEAT (R429): The reminder period expires while an enabled source stays set, and a further pulse is queued. -/
def execAttnRepeat (s : State) : Host.Outcome State Fault Refusal := s.event true (·.attnRepeat)

/-- TW_LINE_RISEN (R427): A stuck TW_SCL or TW_SDA line rises again, so SCL_LOW or SDA_LOW clears, the port resumes, and the PORT attention
source is raised. -/
def execTwLineRisen (scl : Bool) (s : State) : Host.Outcome State Fault Refusal := s.event true (fun s => s.twRisen scl)

end Sys2Proof.Machine
end

