-- ==== Sys2Proof/Machine/ExecUrgent.lean ====
section
/-! DEFINITION. The commands of the urgent path. -/

namespace Sys2Proof.Machine

/-- ALERT_HOLD_EXPIRE (R379): An alert source's hold time expires, and the source ends when its state allows. -/
def execAlertHoldExpire (kind src : Nat) (s : State) : Host.Outcome State Fault Refusal := s.event true (fun s => s.alertExpire kind src)

/-- ALERT_TEST (R378): ALERT_CMD with TEST starts the test source, and ALERT_N falls. -/
def execAlertTest (w : Word) (s : State) : Host.Outcome State Fault Refusal := s.host true 0x81 w.toNat

/-- ALERT_CLEAR (R379): ALERT_CMD with CLEAR ends the sources that wait for a clear. -/
def execAlertClear (w : Word) (s : State) : Host.Outcome State Fault Refusal := s.host true 0x81 w.toNat

/-- URG_ENTRY_WRITE (R387): A write of URG_ENTRY_C commits the staged words of the selected urgent-class entry, or is refused. -/
def execUrgEntryWrite (w : Word) (s : State) : Host.Outcome State Fault Refusal := s.host true 0x8B w.toNat

end Sys2Proof.Machine
end

