-- ==== Sys2Proof/Machine/Dispatch.lean ====
section
/-! DEFINITION. One arm per command: its meaning on everything but the queue. -/

namespace Sys2Proof.Machine

/-- What a command does to everything but the queue. -/
def exec (i : Instr) (s : State) : Host.Outcome State Fault Refusal :=
  match i with
  | .vkeepPowerOn => Sys2Proof.Machine.execVkeepPowerOn s
  | .vkeepFall => Sys2Proof.Machine.execVkeepFall s
  | .resetPinWarm => Sys2Proof.Machine.execResetPinWarm s
  | .resetPinFull => Sys2Proof.Machine.execResetPinFull s
  | .resetNRelease => Sys2Proof.Machine.execResetNRelease s
  | .windBegin sfdp hdr0 hdr1 => Sys2Proof.Machine.execWindBegin sfdp hdr0 hdr1 s
  | .windCopyReadDone copy img => Sys2Proof.Machine.execWindCopyReadDone copy img s
  | .regulateCaptureDone k pass meas => Sys2Proof.Machine.execRegulateCaptureDone k pass meas s
  | .regulateEnd ms dIntake uIntake => Sys2Proof.Machine.execRegulateEnd ms dIntake uIntake s
  | .regulateLockTimeout => Sys2Proof.Machine.execRegulateLockTimeout s
  | .enterSurvey confirm => Sys2Proof.Machine.execEnterSurvey confirm s
  | .endSurvey confirm => Sys2Proof.Machine.execEndSurvey confirm s
  | .enterAnchor confirm => Sys2Proof.Machine.execEnterAnchor confirm s
  | .rewind confirm => Sys2Proof.Machine.execRewind confirm s
  | .fullReset confirm => Sys2Proof.Machine.execFullReset confirm s
  | .cancelSurveySchedule confirm => Sys2Proof.Machine.execCancelSurveySchedule confirm s
  | .surveyAtWrite w => Sys2Proof.Machine.execSurveyAtWrite w s
  | .surveyScheduleDue => Sys2Proof.Machine.execSurveyScheduleDue s
  | .surveyComplete found tables => Sys2Proof.Machine.execSurveyComplete found tables s
  | .surveyLimitExpire => Sys2Proof.Machine.execSurveyLimitExpire s
  | .tamperAlarm => Sys2Proof.Machine.execTamperAlarm s
  | .supplyGlitch => Sys2Proof.Machine.execSupplyGlitch s
  | .temperatureAlarm => Sys2Proof.Machine.execTemperatureAlarm s
  | .refinLost edge => Sys2Proof.Machine.execRefinLost edge s
  | .tcxoLost edge => Sys2Proof.Machine.execTcxoLost edge s
  | .refCountWindowEnd refin tcxo => Sys2Proof.Machine.execRefCountWindowEnd refin tcxo s
  | .bandSearchDone m counts => Sys2Proof.Machine.execBandSearchDone m counts s
  | .lockWindowEnd m count => Sys2Proof.Machine.execLockWindowEnd m count s
  | .lockBoundExpire m => Sys2Proof.Machine.execLockBoundExpire m s
  | .pfdSlip m => Sys2Proof.Machine.execPfdSlip m s
  | .twinGuardCheck pair c0 c1 => Sys2Proof.Machine.execTwinGuardCheck pair c0 c1 s
  | .twinTrimDone pair skew => Sys2Proof.Machine.execTwinTrimDone pair skew s
  | .audioFamilyWrite w => Sys2Proof.Machine.execAudioFamilyWrite w s
  | .relockCmd w => Sys2Proof.Machine.execRelockCmd w s
  | .tcxoOffsetWindowEnd off => Sys2Proof.Machine.execTcxoOffsetWindowEnd off s
  | .ppsEdge err gap => Sys2Proof.Machine.execPpsEdge err gap s
  | .ppsLost => Sys2Proof.Machine.execPpsLost s
  | .timeSetWrite w => Sys2Proof.Machine.execTimeSetWrite w s
  | .adcBlock k xs fault pops => Sys2Proof.Machine.execAdcBlock k xs fault pops s
  | .agcWindowEnd k level => Sys2Proof.Machine.execAgcWindowEnd k level s
  | .intakeSelftestDone k pass => Sys2Proof.Machine.execIntakeSelftestDone k pass s
  | .noSignalTimeout k => Sys2Proof.Machine.execNoSignalTimeout k s
  | .vrefCheck tenthMv => Sys2Proof.Machine.execVrefCheck tenthMv s
  | .calVisitDue k quiet => Sys2Proof.Machine.execCalVisitDue k quiet s
  | .calVisitDone k gain phase => Sys2Proof.Machine.execCalVisitDone k gain phase s
  | .calVisitSkip k => Sys2Proof.Machine.execCalVisitSkip k s
  | .feedEnableWrite k w => Sys2Proof.Machine.execFeedEnableWrite k w s
  | .feedSoftStartEnd k => Sys2Proof.Machine.execFeedSoftStartEnd k s
  | .feedShort k ma => Sys2Proof.Machine.execFeedShort k ma s
  | .feedI2tTrip k ma us => Sys2Proof.Machine.execFeedI2tTrip k ma us s
  | .feedCoolOffEnd k => Sys2Proof.Machine.execFeedCoolOffEnd k s
  | .feedStuck k ma => Sys2Proof.Machine.execFeedStuck k ma s
  | .laneStart n => Sys2Proof.Machine.execLaneStart n s
  | .laneStop n => Sys2Proof.Machine.execLaneStop n s
  | .glbSyncresetWrite w => Sys2Proof.Machine.execGlbSyncresetWrite w s
  | .laneSyncReset => Sys2Proof.Machine.execLaneSyncReset s
  | .laneSettled n => Sys2Proof.Machine.execLaneSettled n s
  | .detectorWindowEnd n => Sys2Proof.Machine.execDetectorWindowEnd n s
  | .laneResidueFault l bank branch2 => Sys2Proof.Machine.execLaneResidueFault l bank branch2 s
  | .patrolStart l => Sys2Proof.Machine.execPatrolStart l s
  | .patrolCompareEnd l equal spareOk => Sys2Proof.Machine.execPatrolCompareEnd l equal spareOk s
  | .takeoverSwitch n => Sys2Proof.Machine.execTakeoverSwitch n s
  | .laneSelftestDone l pass => Sys2Proof.Machine.execLaneSelftestDone l pass s
  | .berthRunWrite n w => Sys2Proof.Machine.execBerthRunWrite n w s
  | .standardChange n w => Sys2Proof.Machine.execStandardChange n w s
  | .berthStopComplete n => Sys2Proof.Machine.execBerthStopComplete n s
  | .ticketReady n cls kinds => Sys2Proof.Machine.execTicketReady n cls kinds s
  | .beatEnd c complete noCredit progress => Sys2Proof.Machine.execBeatEnd c complete noCredit progress s
  | .ticketUnpark n => Sys2Proof.Machine.execTicketUnpark n s
  | .berthInputOverwrite n len => Sys2Proof.Machine.execBerthInputOverwrite n len s
  | .craneFault c detector => Sys2Proof.Machine.execCraneFault c detector s
  | .beatWatchdogExpire c => Sys2Proof.Machine.execBeatWatchdogExpire c s
  | .craneSelftestDone c pass => Sys2Proof.Machine.execCraneSelftestDone c pass s
  | .craneSelftestCmd c w => Sys2Proof.Machine.execCraneSelftestCmd c w s
  | .consignmentArrival n c seq content settling injected ts payload => Sys2Proof.Machine.execConsignmentArrival n c seq content settling injected ts payload s
  | .amDepthUpdate n => Sys2Proof.Machine.execAmDepthUpdate n s
  | .stereoPilotTimer n above => Sys2Proof.Machine.execStereoPilotTimer n above s
  | .rdsBlock n raw ts => Sys2Proof.Machine.execRdsBlock n raw ts s
  | .afSoundingDone ml => Sys2Proof.Machine.execAfSoundingDone ml s
  | .afBanExpire h cand => Sys2Proof.Machine.execAfBanExpire h cand s
  | .afFadeStart h qHome => Sys2Proof.Machine.execAfFadeStart h qHome s
  | .fadePartnerSettled h => Sys2Proof.Machine.execFadePartnerSettled h s
  | .fadePiTimeout h => Sys2Proof.Machine.execFadePiTimeout h s
  | .fadeDwellWindow h qHome qPartner => Sys2Proof.Machine.execFadeDwellWindow h qHome qPartner s
  | .fadeAlignDone h => Sys2Proof.Machine.execFadeAlignDone h s
  | .fadeRampDone h => Sys2Proof.Machine.execFadeRampDone h s
  | .fadeSwap h => Sys2Proof.Machine.execFadeSwap h s
  | .fadeGoCmd h w => Sys2Proof.Machine.execFadeGoCmd h w s
  | .fadeAbortCmd h w => Sys2Proof.Machine.execFadeAbortCmd h w s
  | .dabFrame n f => Sys2Proof.Machine.execDabFrame n f s
  | .dabAlarmTimeout n => Sys2Proof.Machine.execDabAlarmTimeout n s
  | .dabSyncLoss n => Sys2Proof.Machine.execDabSyncLoss n s
  | .dabReconfigApply n cif => Sys2Proof.Machine.execDabReconfigApply n cif s
  | .cifDeinterleaved n cif ts subs => Sys2Proof.Machine.execCifDeinterleaved n cif ts subs s
  | .drmFrame n f => Sys2Proof.Machine.execDrmFrame n f s
  | .drmSuperframe n f => Sys2Proof.Machine.execDrmSuperframe n f s
  | .drmSyncLoss n => Sys2Proof.Machine.execDrmSyncLoss n s
  | .drmReconfigApply n => Sys2Proof.Machine.execDrmReconfigApply n s
  | .digitalFadeStart h pHome => Sys2Proof.Machine.execDigitalFadeStart h pHome s
  | .digitalVerifyTimeout h => Sys2Proof.Machine.execDigitalVerifyTimeout h s
  | .digitalDwellWindow h home partner => Sys2Proof.Machine.execDigitalDwellWindow h home partner s
  | .digitalAlignDone h => Sys2Proof.Machine.execDigitalAlignDone h s
  | .digitalSwap h => Sys2Proof.Machine.execDigitalSwap h s
  | .fadePartnerDrained h => Sys2Proof.Machine.execFadePartnerDrained h s
  | .t2Frame n f => Sys2Proof.Machine.execT2Frame n f s
  | .ewsTimeout n => Sys2Proof.Machine.execEwsTimeout n s
  | .dvbtFrame n f => Sys2Proof.Machine.execDvbtFrame n f s
  | .dvbSyncLoss n => Sys2Proof.Machine.execDvbSyncLoss n s
  | .l1ChangeApply n plps ts => Sys2Proof.Machine.execL1ChangeApply n plps ts s
  | .interleavingFrameComplete n plp frameIdx ts fecs => Sys2Proof.Machine.execInterleavingFrameComplete n plp frameIdx ts fecs s
  | .dgReassemblyTimeout n ref => Sys2Proof.Machine.execDgReassemblyTimeout n ref s
  | .recordWindowEnd n => Sys2Proof.Machine.execRecordWindowEnd n s
  | .recordComplete n => Sys2Proof.Machine.execRecordComplete n s
  | .intakeRecordWindowEnd => Sys2Proof.Machine.execIntakeRecordWindowEnd s
  | .quayFrameStart q => Sys2Proof.Machine.execQuayFrameStart q s
  | .quayFrameEnd q => Sys2Proof.Machine.execQuayFrameEnd q s
  | .quayHoldRise q => Sys2Proof.Machine.execQuayHoldRise q s
  | .quayHoldFall q => Sys2Proof.Machine.execQuayHoldFall q s
  | .quayHoldLong q => Sys2Proof.Machine.execQuayHoldLong q s
  | .landingAligned => Sys2Proof.Machine.execLandingAligned s
  | .landingAlignLost => Sys2Proof.Machine.execLandingAlignLost s
  | .landingFrameJudged codeError eofOk => Sys2Proof.Machine.execLandingFrameJudged codeError eofOk s
  | .landingFrameHandoff => Sys2Proof.Machine.execLandingFrameHandoff s
  | .auStartWrite w => Sys2Proof.Machine.execAuStartWrite w s
  | .audioStartInstant p => Sys2Proof.Machine.execAudioStartInstant p s
  | .audioSettled p => Sys2Proof.Machine.execAudioSettled p s
  | .audioFadeDone p => Sys2Proof.Machine.execAudioFadeDone p s
  | .audioSlotLate p slot => Sys2Proof.Machine.execAudioSlotLate p slot s
  | .audioUnderrun p => Sys2Proof.Machine.execAudioUnderrun p s
  | .audioConverterResume p => Sys2Proof.Machine.execAudioConverterResume p s
  | .audioRateWindow p rate => Sys2Proof.Machine.execAudioRateWindow p rate s
  | .slaveClockStop p => Sys2Proof.Machine.execSlaveClockStop p s
  | .slaveFrameGlitch p => Sys2Proof.Machine.execSlaveFrameGlitch p s
  | .slaveRateChange p => Sys2Proof.Machine.execSlaveRateChange p s
  | .slaveClockQualified p => Sys2Proof.Machine.execSlaveClockQualified p s
  | .loadKey confirm slot => Sys2Proof.Machine.execLoadKey confirm slot s
  | .eraseSlot confirm slot => Sys2Proof.Machine.execEraseSlot confirm slot s
  | .eraseAll confirm => Sys2Proof.Machine.execEraseAll confirm s
  | .programKek confirm => Sys2Proof.Machine.execProgramKek confirm s
  | .kekBurnDone => Sys2Proof.Machine.execKekBurnDone s
  | .bondRequestAccept src srcSeq mode ts data => Sys2Proof.Machine.execBondRequestAccept src srcSeq mode ts data s
  | .bondRequestServe bytes roundOk => Sys2Proof.Machine.execBondRequestServe bytes roundOk s
  | .bondResidueFault => Sys2Proof.Machine.execBondResidueFault s
  | .gcmVerdict => Sys2Proof.Machine.execGcmVerdict s
  | .xtsSectorDone => Sys2Proof.Machine.execXtsSectorDone s
  | .captureFlushTimeout c => Sys2Proof.Machine.execCaptureFlushTimeout c s
  | .ivEntryExpire slot gen iv => Sys2Proof.Machine.execIvEntryExpire slot gen iv s
  | .entropyHealthFail => Sys2Proof.Machine.execEntropyHealthFail s
  | .entropyRetry pass => Sys2Proof.Machine.execEntropyRetry pass s
  | .drbgReseed => Sys2Proof.Machine.execDrbgReseed s
  | .keyShareRefresh => Sys2Proof.Machine.execKeyShareRefresh s
  | .pilotRequestAccept src srcSeq cont data => Sys2Proof.Machine.execPilotRequestAccept src srcSeq cont data s
  | .periodicDue e => Sys2Proof.Machine.execPeriodicDue e s
  | .pilotScheduleStep => Sys2Proof.Machine.execPilotScheduleStep s
  | .lockWaitExpire => Sys2Proof.Machine.execLockWaitExpire s
  | .budgetWaitExpire => Sys2Proof.Machine.execBudgetWaitExpire s
  | .ccaMeasureDone => Sys2Proof.Machine.execCcaMeasureDone s
  | .ccaBackoffEnd => Sys2Proof.Machine.execCcaBackoffEnd s
  | .pilotWindowOpen clamped => Sys2Proof.Machine.execPilotWindowOpen clamped s
  | .pilotAirEnd => Sys2Proof.Machine.execPilotAirEnd s
  | .pilotTurnroundEnd => Sys2Proof.Machine.execPilotTurnroundEnd s
  | .listenWindowEnd => Sys2Proof.Machine.execListenWindowEnd s
  | .dutyBinExpire second => Sys2Proof.Machine.execDutyBinExpire second s
  | .preambleDeclared n timing freq => Sys2Proof.Machine.execPreambleDeclared n timing freq s
  | .sfdFound n freq => Sys2Proof.Machine.execSfdFound n freq s
  | .sfdTimeout n => Sys2Proof.Machine.execSfdTimeout n s
  | .phrReceived n phr snr => Sys2Proof.Machine.execPhrReceived n phr snr s
  | .pilotFrameReceived n psdu freqs => Sys2Proof.Machine.execPilotFrameReceived n psdu freqs s
  | .captureOverrun fifo => Sys2Proof.Machine.execCaptureOverrun fifo s
  | .alertHoldExpire kind src => Sys2Proof.Machine.execAlertHoldExpire kind src s
  | .alertTest w => Sys2Proof.Machine.execAlertTest w s
  | .alertClear w => Sys2Proof.Machine.execAlertClear w s
  | .urgEntryWrite w => Sys2Proof.Machine.execUrgEntryWrite w s
  | .scrubWordRead mem bank row col seen => Sys2Proof.Machine.execScrubWordRead mem bank row col seen s
  | .scrubPassLate mem => Sys2Proof.Machine.execScrubPassLate mem s
  | .memorySelftestDone mem bank row col pass => Sys2Proof.Machine.execMemorySelftestDone mem bank row col pass s
  | .rowReplaceDone mem bank row => Sys2Proof.Machine.execRowReplaceDone mem bank row s
  | .unitSelftestDone ty idx pass => Sys2Proof.Machine.execUnitSelftestDone ty idx pass s
  | .retest w => Sys2Proof.Machine.execRetest w s
  | .retestDone pass => Sys2Proof.Machine.execRetestDone pass s
  | .injectArm w => Sys2Proof.Machine.execInjectArm w s
  | .injectCancel w => Sys2Proof.Machine.execInjectCancel w s
  | .domainFault d cause => Sys2Proof.Machine.execDomainFault d cause s
  | .domainHeartbeatTimeout d => Sys2Proof.Machine.execDomainHeartbeatTimeout d s
  | .domainRestartStepDone d => Sys2Proof.Machine.execDomainRestartStepDone d s
  | .custodyRebuildDone errs => Sys2Proof.Machine.execCustodyRebuildDone errs s
  | .domainRestartTimeout d => Sys2Proof.Machine.execDomainRestartTimeout d s
  | .intakeDomainOff k => Sys2Proof.Machine.execIntakeDomainOff k s
  | .intakeDomainOn k => Sys2Proof.Machine.execIntakeDomainOn k s
  | .quayDomainRetain => Sys2Proof.Machine.execQuayDomainRetain s
  | .quayDomainOn => Sys2Proof.Machine.execQuayDomainOn s
  | .domainSwitchDone d => Sys2Proof.Machine.execDomainSwitchDone d s
  | .supplyRangeExit sup mv => Sys2Proof.Machine.execSupplyRangeExit sup mv s
  | .tempWarnRise temp => Sys2Proof.Machine.execTempWarnRise temp s
  | .twStart addr read => Sys2Proof.Machine.execTwStart addr read s
  | .twPointerSet ra => Sys2Proof.Machine.execTwPointerSet ra s
  | .twWordWrite w => Sys2Proof.Machine.execTwWordWrite w s
  | .twWordRead ack => Sys2Proof.Machine.execTwWordRead ack s
  | .twStop => Sys2Proof.Machine.execTwStop s
  | .twFrameError start partialWord => Sys2Proof.Machine.execTwFrameError start partialWord s
  | .twSdaReleaseTimeout partialWord => Sys2Proof.Machine.execTwSdaReleaseTimeout partialWord s
  | .twStretchTimeout => Sys2Proof.Machine.execTwStretchTimeout s
  | .twSclTimeout partialWord => Sys2Proof.Machine.execTwSclTimeout partialWord s
  | .twSdaTimeout => Sys2Proof.Machine.execTwSdaTimeout s
  | .attnPulseStart => Sys2Proof.Machine.execAttnPulseStart s
  | .attnPulseEnd => Sys2Proof.Machine.execAttnPulseEnd s
  | .attnCollide => Sys2Proof.Machine.execAttnCollide s
  | .attnRepeat => Sys2Proof.Machine.execAttnRepeat s
  | .commitOpen a => Sys2Proof.Machine.execCommitOpen a s
  | .commitGo a => Sys2Proof.Machine.execCommitGo a s
  | .commitAbort a => Sys2Proof.Machine.execCommitAbort a s
  | .liveChangeApply a u => Sys2Proof.Machine.execLiveChangeApply a u s
  | .jnlSelectWrite w => Sys2Proof.Machine.execJnlSelectWrite w s
  | .jnlClearLost w => Sys2Proof.Machine.execJnlClearLost w s
  | .errSelectWrite w => Sys2Proof.Machine.execErrSelectWrite w s
  | .errClearLost w => Sys2Proof.Machine.execErrClearLost w s
  | .lstSelWrite w => Sys2Proof.Machine.execLstSelWrite w s
  | .readWithEffect a => Sys2Proof.Machine.execReadWithEffect a s
  | .registerWrite a w => Sys2Proof.Machine.execRegisterWrite a w s
  | .landingColumnReceived g0 g1 pops => Sys2Proof.Machine.execLandingColumnReceived g0 g1 pops s
  | .timeSetWholeSecond => Sys2Proof.Machine.execTimeSetWholeSecond s
  | .twLineRisen scl => Sys2Proof.Machine.execTwLineRisen scl s
  | .supplyRangeReturn sup mv => Sys2Proof.Machine.execSupplyRangeReturn sup mv s
  | .tempWarnFall temp => Sys2Proof.Machine.execTempWarnFall temp s
  | .feedTripAgeOut k => Sys2Proof.Machine.execFeedTripAgeOut k s

end Sys2Proof.Machine
end

