-- ==== Sys2Proof/Machine/Idle.lean ====
section
/-! DEFINITION. What happens at a tick: one nanosecond of the time base (log entry 2). -/

namespace Sys2Proof.Machine

/-- How far the counter is behind or ahead of the tick that ends, in 10⁻¹¹ ns: it takes each period of a TCXO that runs fast by `off` × 0.01
ppb as 25 ns ÷ (1 + offset) (R82, R84). -/
def tickError (off : Int) : Int := -(off * 100000000000) / (100000000000 + off)

/-- The nanoseconds by which a tick advances the counter: one, and what the correction of R82 has made a whole one. -/
def State.tickNs (s : State) : Int :=
  let f := s.fine + tickError s.correction
  if 100000000000 ≤ f then 2 else if f ≤ -100000000000 then 0 else 1

/-- A tick of the reference in use: the timestamp counter advances, corrected while it runs on `TCXO_IN` (R82 to R84). Log entry 2: DESIGN CHOICE. -/
def State.nanosecond (s : State) : State :=
  let f := s.fine + tickError s.correction
  let d := s.tickNs
  let t := s.ns + d.toNat
  let s := (s.setClock (s.clock + 1)).setFine (f - (d - 1) * 100000000000)
  if t < 1000000000 then s.setNs t else (s.setNs (t - 1000000000)).setSec (s.sec + 1)

/-- A tick: time passes, the quays' shares count, the counter is steered, a free spare begins to sound, the audio ports send their frames, and an
armed injection fires where it can (R83, R85, R181, R292, R308, R405). Without `VKEEP` nothing happens. Log entry 2: DESIGN CHOICE. -/
def State.tick (s : State) : State :=
  if s.dead then s
  else
    let t := s.nanosecond
    s.finish (((t.quayShares (t.clock % 1000000000 == 0)).craneShares (t.clock % 1000000000 == 0)).steerTick.soundStart.audioTick).injTick

end Sys2Proof.Machine
end

