-- ==== Sys2Proof/Safety.lean ====
section
/-! DEFINITION. What the statements speak of: the status fields that follow other state, and what a command leaves as it was. -/

namespace Sys2Proof.Machine

/-- The status fields show what they stand for: the mode, the fill of the IV table, and the alert sources with their pin (Table 2.2 MODE,
R341, R378, Table 17.8). -/
def State.Shows (s : State) : Prop :=
  s.get F.GLB_MODE_MODE = s.mode.code ∧
  s.get F.BOND_IV_FILL_ENTRIES = s.ivTable.length % 8192 ∧
  s.get F.ALERT_STATUS_PIN = b2n (!s.alerts.isEmpty) ∧
  s.get F.ALERT_STATUS_TEST = b2n (s.alerts.any (·.kind == 0x20)) ∧
  s.get F.ALERT_STATUS_MODE = b2n (s.alerts.any (·.kind == 0x10)) ∧
  s.get F.ALERT_STATUS_KIND = b2n (s.alerts.any (·.kind == 1)) + 2 * b2n (s.alerts.any (·.kind == 2)) +
    4 * b2n (s.alerts.any (·.kind == 3)) + 8 * b2n (s.alerts.any (·.kind == 4))

/-- The register table is in its canonical form, and the journals and the entries that wait for their consignment stay within their rings (R63,
R408, R409). -/
def State.Formed (s : State) : Prop :=
  Tbl.wf regDefault s.regs = true ∧ s.jnl.length ≤ 1024 ∧ s.err.length ≤ 4096 ∧ s.errExport.length ≤ 256

/-- No berth that is being shed has a fade to end: none is being shed, or no fade is in progress (R191, R220). -/
def State.Calm (s : State) : Prop := (∀ e ∈ s.berths, e.2.shedding = false) ∨ (∀ e ∈ s.follow, e.2.fade = none)

/-- The status fields show what they stand for, and no fade waits for its end. -/
def State.Settled (s : State) : Prop := s.Shows ∧ s.Calm

/-- Every register field but those listed reads as before. -/
def State.fieldsBut (l : List Fld) (s t : State) : Prop := ∀ f : Fld, f.key ∉ l.map Fld.key → t.get f = s.get f

/-- A record window without the precision bits that it collects and its time in DRIFT. -/
def Win.plain (w : Win) : Win := { w with bits := 0, drift := 0 }

/-- Every open record window is as before but for the precision bits that it collects (R252); the intake window may open or close with the
supervisor's records (R255). -/
def State.sameWindows (u t : State) : Prop := ∀ n, n ≠ winIntake → (t.window n).map Win.plain = (u.window n).map Win.plain

/-- From `s` to `t` the state has become `u` but for the register fields, of which those listed have the values that are said of them and every
other reads as before, and for the precision bits of the record windows with what marks them. -/
def State.changes (l : List Fld) (s u t : State) : Prop :=
  t = { u with regs := t.regs, windows := t.windows, injBits := t.injBits, precNow := t.precNow, injSeen := t.injSeen } ∧
  State.sameWindows u t ∧ State.fieldsBut l s t

/-- The whole state is as before but for the listed register fields and the precision bits of the record windows. -/
def State.onlyFields (l : List Fld) (s t : State) : Prop := State.changes l s s t

/-- A field that an entry of the error journal, the consignment that carries it, and the requests for attention they raise may change:
the windows of the holds, HELD_OFF of the quays, `PROT_STATUS`, the registers of the error journal, and the two-wire attention registers (R300,
R396, R409, R429). -/
def Fld.booked (f : Fld) : Bool :=
  inR 0x10000 0x11FFF f.addr || inR 0x2810 0x2825 f.addr || [0, 1, 2, 3].any (fun q => f.key == (F.QY_STATUS_HELD_OFF q).key) || f.key == F.PROT_STATUS_INJECTED_EV.key ||
  f.key == F.TW_ATTN_SRC_SOURCES.key || f.key == F.TW_STATUS_ATTN_PENDING.key

/-- As `State.changes`, but for what entries of the error journal change too: the journal, its consignments in custody with their
producers, and the fields that show them. -/
def State.changesErr (l : List Fld) (s u t : State) : Prop :=
  t = { u with
    regs := t.regs, windows := t.windows, injBits := t.injBits, precNow := t.precNow, injSeen := t.injSeen, err := t.err,
    errCount := t.errCount, errExport := t.errExport, custody := t.custody, prods := t.prods } ∧
  State.sameWindows u t ∧ ∀ f : Fld, f.key ∉ l.map Fld.key → f.booked = false → t.get f = s.get f

/-- What no work of a service, a lane, a crane or a quay touches: the mode, the key slots, the key-encryption key in OTP, the
calibration table, the row map, the duty bins, the time, the power and the epoch. -/
def State.steady (s t : State) : Prop :=
  t.mode = s.mode ∧ t.slots = s.slots ∧ t.kek = s.kek ∧ t.calTable = s.calTable ∧ t.rowMap = s.rowMap ∧ t.dutyBins = s.dutyBins ∧
  t.sec = s.sec ∧ t.ns = s.ns ∧ t.dead = s.dead ∧ t.pinLow = s.pinLow ∧ t.epoch = s.epoch

end Sys2Proof.Machine
end

