-- ==== Sys2Proof/Certificates/Slice0/Obligations.lean ====
section
/-! DEFINITION. The statements about the model, in the order of OBLIGATIONS.json: the queue and the invariants first, then a family of commands each.
The first parenthesis of a docstring names the rules that the statement rests on. -/

open Sys2Proof Sys2Proof.Machine

/-- The queue and the tick (log entries 1 and 2). A step takes the command at the front and runs it on the state with the queue's rest; on an
empty queue it is one nanosecond of time, which leaves the queue empty; the counter takes it with the correction of R82 where the reference is
the TCXO. -/
def Obligations.QueueStep : Prop :=
  ∀ s : State,
    (∀ c rest, s.pending = c :: rest → step s = exec c (s.setPending rest)) ∧
    (s.pending = [] → ∃ t, step s = .next t ∧ t.pending = [] ∧
      (s.dead = true → t = s) ∧
      (s.dead = false → s.Calm → s.steer = (0, 0) → s.inj = none → s.ns < 1000000000 →
        1000000000 * (t.sec : Int) + t.ns = 1000000000 * s.sec + s.ns + s.tickNs ∧ 0 ≤ s.tickNs ∧
        (s.correction = 0 → s.fine = 0 → s.tickNs = 1) ∧ t.clock = s.clock + 1 ∧ t.mode = s.mode ∧ t.custody = s.custody))

/-- Every command answers a next state, and leaves the queue as it is. -/
def Obligations.CommandsAnswer : Prop :=
  ∀ (c : Instr) (s : State), ∃ t, exec c s = .next t ∧ t.pending = s.pending

/-- Every step keeps the canonical form of the register table and the bounds of the journals (R63, R408, R409). -/
def Obligations.FormKept : Prop :=
  ∀ s t : State, s.Formed → step s = .next t → t.Formed

/-- After every step the status fields show what they stand for: the mode, the fill of the IV table, the alert sources and their pin (R26, R341,
R378). -/
def Obligations.StatusKept : Prop :=
  ∀ s t : State, s.Shows → step s = .next t → t.Shows

/-- The state after the power-on reset (R1, R44, Tables 2.2, 12.1, 13.7, 13.8): its form, what the status shows, the identity, WIND, empty
journals and holds, stopped quays and landing port, and no key. The epoch is the model's choice (log entry 5), and no clause speaks of it. -/
def Obligations.ResetState : Prop :=
  State.reset.Formed ∧ State.reset.Shows ∧ State.reset.mode = .wind ∧ State.reset.get F.GLB_IDENTITY_IDENTITY = 0x9604 ∧
  State.reset.get F.GLB_REVISION_REVISION = 0x00B0 ∧ State.reset.jnl = [] ∧ State.reset.err = [] ∧ State.reset.custody = [] ∧
  State.reset.pending = [] ∧ (∀ i < 32, (State.reset.slot i).key = none) ∧
  (∀ q < 4, State.reset.get (F.QY_CTRL_STOPPED q) = 1 ∧ State.reset.get (F.QY_CTRL_RUN q) = 0) ∧
  State.reset.get F.LAND_CTRL_STOPPED = 1 ∧
  (∀ n < 96, State.reset.get (F.BTH_CTRL_STOPPED n) = 1 ∧ State.reset.get (F.LN_CTRL_STOPPED n) = 1 ∧
    State.reset.get (F.HLD_CAP_CAP.ofHold n) = 64) ∧
  (∀ m < 4, State.reset.get (F.TB_MOV_STATUS_LOCKED m) = 0) ∧ State.reset.sec = 0 ∧ State.reset.ns = 0

/-- What only few commands change (R42, R328, R415, R445). Nothing but the end of its burn changes the key-encryption key; ANCHOR is left only
for WIND; the time changes only by `PPS_IN`, by a written time and by the fall of VKEEP; the calibration table only by the end of REGULATE, the
row map only by a row's replacement; a device without VKEEP knows only its supply and its reset pin; and with `RESET_N` low no word of the host
acts. -/
def Obligations.WhatLasts : Prop :=
  ∀ (c : Instr) (s t : State), exec c s = .next t →
    (c ≠ .kekBurnDone → t.kek = s.kek) ∧
    (s.mode = .anchor → t.mode = .anchor ∨ t.mode = .wind) ∧
    (c ≠ .vkeepFall →
      ((∀ e g, c ≠ .ppsEdge e g) → c ≠ .timeSetWholeSecond → t.sec = s.sec ∧ t.ns = s.ns) ∧
      ((∀ ms d u, c ≠ .regulateEnd ms d u) → t.calTable = s.calTable) ∧
      ((∀ m b r, c ≠ .rowReplaceDone m b r) → t.rowMap = s.rowMap) ∧
      (c ≠ .ccaMeasureDone → (∀ x, c ≠ .dutyBinExpire x) → t.dutyBins = s.dutyBins)) ∧
    (s.dead = true → c ∉ [Instr.vkeepPowerOn, .vkeepFall, .resetPinWarm, .resetPinFull, .resetNRelease] → t = s) ∧
    (∀ (a w : Word) (b : Byte), s.pinLow = true →
        c ∈ [Instr.registerWrite a w, .readWithEffect a, .commitOpen a, .commitGo a, .commitAbort a, .enterSurvey b, .endSurvey b, .enterAnchor b,
          .rewind b, .fullReset b, .eraseAll b, .programKek b, .glbSyncresetWrite w, .auStartWrite w, .alertTest w, .alertClear w, .retest w,
          .injectArm w, .relockCmd w, .quayDomainRetain, .quayDomainOn] → t = s)

/-- No read returns key material (R322, R326, Table 0.4). Two states that differ only in the bytes of the keys, of the key-encryption key and of
the words staged for them answer every register read with the same word, and show the same fields after it. -/
def Obligations.KeysUnread : Prop :=
  ∀ (s u : State) (a : Word),
    u = { s with slots := u.slots, kek := u.kek, keyWrap := u.keyWrap, kekData := u.kekData, kekBurn := u.kekBurn } →
    (∀ i, (u.slot i).key.map List.length = (s.slot i).key.map List.length ∧ (u.slot i).usage = (s.slot i).usage ∧
      (u.slot i).gen = (s.slot i).gen ∧ (u.slot i).pending.isSome = (s.slot i).pending.isSome) →
    ∃ t t', exec (.readWithEffect a) s = .next t ∧ exec (.readWithEffect a) u = .next t' ∧ t'.tw = t.tw ∧ t'.regs = t.regs

/-- Domains without power (R421). The read of a register whose domain is off, in retention or under restart answers 0, and that of a low word
leaves zeros for the upper words too (R7); a write to it is refused with REFUSED_MODE, sets DOMAIN_OFF_EV, and changes no register of its own. -/
def Obligations.DomainsOff : Prop :=
  ∀ (s : State) (a w : Word) (r : RDesc) (base : Nat), s.Settled → s.dead = false → s.pinLow = false → s.stage = none →
      regAt (s.stdAt a.toNat) a.toNat = some (r, base) → domainOf a.toNat ≠ 0 → s.get (F.DOM_STATE (domainOf a.toNat)) ≠ dsOn →
    (∃ t, exec (.readWithEffect a) s = .next t ∧ t.tw.word = 0 ∧
      (a.toNat ≠ base ∨ r.words = 1 → s.changes [] (s.setTw { s.tw with word := 0 }) t) ∧
      (a.toNat = base → r.words ≠ 1 →
        s.changes [] ((s.setSnap ((base, 0) :: s.snap.filter (·.1 != base))).setTw { s.tw with word := 0 }) t)) ∧
    (∃ t, exec (.registerWrite a w) s = .next t ∧ t.get F.TW_STATUS_DOMAIN_OFF_EV = 1 ∧ t.get F.GLB_STATUS_MODE_REFUSED = 1 ∧
      t.get F.TW_LAST_REFUSED_ADDRESS = a.toNat ∧ t.jnlCount = s.jnlCount + 1 ∧ t.jnl.head?.map JEntry.result = some resMode ∧
      t.jnl.head?.map JEntry.address = some a.toNat ∧
      State.fieldsBut [F.TW_STATUS_DOMAIN_OFF_EV, F.GLB_STATUS_MODE_REFUSED, F.TW_LAST_REFUSED_ADDRESS, F.TW_STATUS_REFUSED_EV,
        F.JNL_NEWEST_NUMBER, F.JNL_STATUS_UNREAD_LOST] s t ∧ s.steady t)

/-- Sequence numbers (R272). They start at 0 in each epoch, wrap from 0xFFFFFFFF to 0, and are compared modulo 2³²; whether an arriving
consignment of a berth is old, and which is the next, is judged in this arithmetic. -/
def Obligations.SequenceNumbers : Prop :=
  (∀ a b : Nat, a < 2 ^ 32 → b < 2 ^ 32 →
    (follows a b = true ↔ 1 ≤ (a + 2 ^ 32 - b) % 2 ^ 32 ∧ (a + 2 ^ 32 - b) % 2 ^ 32 ≤ 0x7FFFFFFF)) ∧
  (∀ p, (State.reset.prod p).next = 0) ∧
  (∀ s : State, s.dead = false → s.pinLow = false → s.stage = none → s.ranks 2 = true →
    ∃ t, exec (.fullReset 0x5A#8) s = .next t ∧ (s.epoch % 65536 ≠ 0xFFFF → t.epoch = s.epoch + 1) ∧ ∀ p, (t.prod p).next = 0) ∧
  (∀ (s : State) (p content flags ts : Nat) (d : List Byte) (res : Bool),
    (s.accept p content flags ts d res).custody.getLast?.map Item.seq = some (s.prod p).next ∧
    ((s.accept p content flags ts d res).prod p).next = ((s.prod p).next + 1) % 2 ^ 32) ∧
  (∀ (s : State) (n seq h : Nat), (s.prod n).highest = some h → seq < 2 ^ 32 → h < 2 ^ 32 →
    (s.isOld n seq = true ↔ ¬(1 ≤ (seq + 2 ^ 32 - h) % 2 ^ 32 ∧ (seq + 2 ^ 32 - h) % 2 ^ 32 ≤ 0x7FFFFFFF)) ∧
    s.expected n = (h + 1) % 2 ^ 32)

/-- The windows onto the two journals (R64, R410). The high word of a SELECT, the low word staged before it, copies the entry of that number into
the window, or zeros with SELECT_MISS where the journal does not hold it, and zeros where the entry's word is damaged (R394); CLEAR_LOST zeroes
the count of lost entries, and that it leaves the marker JOURNAL_LOST (Table 3.19) at this moment is the model's choice (log entry 113). No
journal records these accesses. Completes: `jnlSelectWrite`, `errSelectWrite`, `jnlClearLost`, `errClearLost`. -/
def Obligations.JournalWindows : Prop :=
  ∀ s : State, s.Settled → s.dead = false → s.pinLow = false →
    (∀ (w : Word) (lo : Nat), lo < 65536 → s.stage = some ⟨0x2802, [(0, lo)]⟩ → s.gated srcTwoWire 0x2803 = false →
      ∃ t, exec (.jnlSelectWrite w) s = .next t ∧ t.get F.JNL_SELECT_NUMBER = w.toNat * 65536 + lo ∧
        (∀ e, s.jnl.find? (fun e => e.number == w.toNat * 65536 + lo) = some e →
          t.get F.JNL_STATUS_SELECT_MISS = 0 ∧ ∀ i < 11, t.get (F.JNL_ENTRY_ENTRY i) =
            if s.damaged.any (·.1 == WordUse.change (w.toNat * 65536 + lo)) then 0 else e.words.getD i 0 % 65536) ∧
        (s.jnl.find? (fun e => e.number == w.toNat * 65536 + lo) = none →
          t.get F.JNL_STATUS_SELECT_MISS = 1 ∧ ∀ i < 11, t.get (F.JNL_ENTRY_ENTRY i) = 0) ∧
        (s.damaged.any (·.1 == WordUse.change (w.toNat * 65536 + lo)) = false →
          s.changes (F.JNL_SELECT_NUMBER :: F.JNL_STATUS_SELECT_MISS :: (List.range 11).map F.JNL_ENTRY_ENTRY) (s.setStage none) t)) ∧
    (∀ (w : Word) (lo : Nat), lo < 65536 → s.stage = some ⟨0x2812, [(0, lo)]⟩ → s.gated srcTwoWire 0x2813 = false →
      ∃ t, exec (.errSelectWrite w) s = .next t ∧ t.get F.ERR_SELECT_NUMBER = w.toNat * 65536 + lo ∧
        (∀ e, s.err.find? (fun e => e.number == w.toNat * 65536 + lo) = some e →
          t.get F.ERR_STATUS_SELECT_MISS = 0 ∧ ∀ i < 16, t.get (F.ERR_ENTRY_ENTRY i) =
            if s.damaged.any (·.1 == WordUse.error (w.toNat * 65536 + lo)) then 0 else e.words.getD i 0 % 65536) ∧
        (s.err.find? (fun e => e.number == w.toNat * 65536 + lo) = none →
          t.get F.ERR_STATUS_SELECT_MISS = 1 ∧ ∀ i < 16, t.get (F.ERR_ENTRY_ENTRY i) = 0) ∧
        (s.damaged.any (·.1 == WordUse.error (w.toNat * 65536 + lo)) = false →
          s.changes (F.ERR_SELECT_NUMBER :: F.ERR_STATUS_SELECT_MISS :: (List.range 16).map F.ERR_ENTRY_ENTRY) (s.setStage none) t)) ∧
    (∀ w : Word, w.getLsbD 14 = true → s.stage = none → s.gated srcTwoWire 0x280F = false →
      ∃ t, exec (.jnlClearLost w) s = .next t ∧ t.get F.JNL_STATUS_UNREAD_LOST = 0 ∧ t.jnlLost = 0 ∧
        (s.jnlLost = 0 → s.onlyFields [F.JNL_STATUS_CLEAR_LOST, F.JNL_STATUS_UNREAD_LOST] t) ∧
        (s.jnlLost ≠ 0 → t.jnl.head?.map (fun e => (e.address, e.new, e.detail)) = some (0xFFFF, s.jnlLost % 65536, 3) ∧ s.steady t)) ∧
    (∀ w : Word, w.getLsbD 14 = true → s.stage = none → s.gated srcTwoWire 0x2824 = false →
      ∃ t, exec (.errClearLost w) s = .next t ∧ t.get F.ERR_STATUS_UNREAD_LOST = 0 ∧
        (w.getLsbD 13 = false → t.get F.ERR_STATUS_DAMAGED_EV = s.get F.ERR_STATUS_DAMAGED_EV) ∧
        s.onlyFields [F.ERR_STATUS_CLEAR_LOST, F.ERR_STATUS_DAMAGED_EV, F.ERR_STATUS_UNREAD_LOST] t)

/-- Reads with an effect and the statistics window. A read of `GLB_RESET_CAUSE` clears it (R10, R45); a read of the lowest word of `TB_TIME`
takes a snapshot of all of it (R7); a read of a register of a domain that is off gives 0 (R32); a write of `LST_SEL` copies the statistics of its
pair into the window (R443). Completes: `readWithEffect`, `lstSelWrite`. -/
def Obligations.ReadsAndStatistics : Prop :=
  ∀ s : State, s.Settled → s.dead = false → s.pinLow = false → s.stage = none →
    (∃ t, exec (.readWithEffect 7#16) s = .next t ∧ t.tw.word = s.wordAt 7 ∧ t.wordAt 7 = 0 ∧
      s.changes [F.GLB_RESET_CAUSE_WARM_ANCHOR, F.GLB_RESET_CAUSE_WARM_CMD, F.GLB_RESET_CAUSE_WARM_PIN, F.GLB_RESET_CAUSE_FULL_CMD,
        F.GLB_RESET_CAUSE_FULL_PIN, F.GLB_RESET_CAUSE_POWER_ON] (s.setTw { s.tw with word := s.wordAt 7 }) t) ∧
    (∃ t, exec (.readWithEffect 0x150#16) s = .next t ∧ t.tw.word = s.ts % 65536 ∧
      t.snap.find? (fun e => e.1 == 0x150) = some (0x150, s.ts % 2 ^ 64) ∧
      s.changes [F.TB_TIME_TIME] ((s.setSnap t.snap).setTw { s.tw with word := s.ts % 65536 }) t) ∧
    (∀ a : Word, (regAt (s.stdAt a.toNat) a.toNat).isSome → s.domOn (domainOf a.toNat) = false →
      ∃ t, exec (.readWithEffect a) s = .next t ∧ t.tw.word = 0 ∧ State.fieldsBut [] s t ∧ s.steady t) ∧
    (∀ w : Word, s.gated srcTwoWire 0x3800 = false → bits w.toNat 8 5 ≤ 14 → isProducer (bits w.toNat 0 8) = true →
      let x := s.stat (bits w.toNat 0 8) (bits w.toNat 8 5)
      ∃ t, exec (.lstSelWrite w) s = .next t ∧
        t.get F.LST_SEL_PRODUCER = bits w.toNat 0 8 ∧ t.get F.LST_SEL_CONTENT = bits w.toNat 8 5 ∧
        t.get F.LST_FRAMES_COUNT = x.frames % 2 ^ 32 ∧ t.get F.LST_BYTES_COUNT = x.bytes % 2 ^ 64 ∧
        t.get F.LST_LAST_SEQ_SEQ = x.lastSeq % 2 ^ 32 ∧ t.get F.LST_LAST_TIME_TIME = x.lastTime % 2 ^ 64 ∧
        t.get F.LST_RESENDS_COUNT = x.resends % 65536 ∧
        s.changes [F.LST_SEL_CONTENT, F.LST_SEL_PRODUCER, F.LST_FRAMES_COUNT, F.LST_BYTES_COUNT, F.LST_LAST_SEQ_SEQ, F.LST_LAST_TIME_TIME,
          F.LST_RESENDS_COUNT, F.LST_ROUTE_CAPTURED, F.LST_ROUTE_QUAY, F.JNL_NEWEST_NUMBER, F.JNL_STATUS_UNREAD_LOST]
          (s.journal 0x3800 (s.wordAt 0x3800) w.toNat srcTwoWire resAccepted 0) t)

/-- A write of one word to a register without a row of its own (R9, R12, R13, R63): `ERR_EXPORT` takes its bits, and the journals' own registers
leave no entry; a FIXED field that the write would change refuses it all, with FIXED_REFUSED, the entry FIXED and `TW_LAST_REFUSED`; an address
that no register has is refused with UNDEFINED_REFUSED. Completes: `registerWrite`. -/
def Obligations.RegisterWrite : Prop :=
  ∀ (s : State) (w : Word), s.Settled → s.dead = false → s.pinLow = false → s.stage = none →
    (s.gated srcTwoWire 0x2825 = false →
      ∃ t, exec (.registerWrite 0x2825#16 w) s = .next t ∧
        t.get F.ERR_EXPORT_NOTICE = bits w.toNat 6 1 ∧ t.get F.ERR_EXPORT_MODE = bits w.toNat 5 1 ∧
        t.get F.ERR_EXPORT_STATE = bits w.toNat 4 1 ∧ t.get F.ERR_EXPORT_LASTING = bits w.toNat 3 1 ∧
        t.get F.ERR_EXPORT_TRANSIENT = bits w.toNat 2 1 ∧ t.get F.ERR_EXPORT_CORRECTED = bits w.toNat 1 1 ∧
        s.onlyFields [F.ERR_EXPORT_NOTICE, F.ERR_EXPORT_MODE, F.ERR_EXPORT_STATE, F.ERR_EXPORT_LASTING, F.ERR_EXPORT_TRANSIENT,
          F.ERR_EXPORT_CORRECTED] t) ∧
    (s.gated srcTwoWire 0x71 = false → s.wordAt 0x71 ≠ w.toNat →
      ∃ t, exec (.registerWrite 0x71#16 w) s = .next t ∧ t.get F.MSR_TCXO_DRIFT_DRIFT = s.get F.MSR_TCXO_DRIFT_DRIFT ∧
        t.get F.GLB_STATUS_FIXED_REFUSED = 1 ∧ t.get F.TW_LAST_REFUSED_ADDRESS = 0x71 ∧ t.get F.TW_STATUS_REFUSED_EV = 1 ∧
        s.changes [F.GLB_STATUS_FIXED_REFUSED, F.TW_LAST_REFUSED_ADDRESS, F.TW_STATUS_REFUSED_EV, F.JNL_NEWEST_NUMBER,
          F.JNL_STATUS_UNREAD_LOST] (s.journal 0x71 (s.wordAt 0x71) w.toNat srcTwoWire resFixed 0) t) ∧
    (∀ a : Word, regAt (s.stdAt a.toNat) a.toNat = none →
      ∃ t, exec (.registerWrite a w) s = .next t ∧ t.get F.GLB_STATUS_UNDEFINED_REFUSED = 1 ∧
        t.get F.TW_LAST_REFUSED_ADDRESS = a.toNat ∧ t.get F.TW_STATUS_REFUSED_EV = 1 ∧
        s.changes [F.GLB_STATUS_UNDEFINED_REFUSED, F.TW_LAST_REFUSED_ADDRESS, F.TW_STATUS_REFUSED_EV, F.JNL_NEWEST_NUMBER,
          F.JNL_STATUS_UNREAD_LOST] (s.journalWrite srcTwoWire a.toNat 0 w.toNat resUndefined) t)

/-- Groups of LIVE changes (R59, R60). OPEN opens the block's group; ABORT discards what it collects and closes it; both for every COMMIT
register. On the crane beats, while no crane of a collected class serves a ticket, GO puts one collected change in force at once and closes the
group; an armed change takes effect at its own class's boundary, and at no other's, and PENDING clears. Completes: `commitOpen`, `commitAbort`,
`commitGo`, `liveChangeApply`. -/
def Obligations.Groups : Prop :=
  ∀ s : State, s.Settled → s.dead = false →
    (∀ a : Word, s.pinLow = false → isCommit a.toNat = true → s.stage = none → s.gated srcTwoWire a.toNat = false →
        ¬(a.toNat = 0x300E ∧ s.mode = .survey) →
      (s.on (fGroup a.toNat) = false →
        ∃ t, exec (.commitOpen a) s = .next t ∧ t.get (fGroup a.toNat) = 1 ∧
          s.changes [fGroup a.toNat, F.JNL_NEWEST_NUMBER, F.JNL_STATUS_UNREAD_LOST]
            ((s.journal a.toNat (s.wordAt a.toNat) 1 srcTwoWire resAccepted 0).setGroupOf (s.groupOf ++ s.groupItem a.toNat)) t) ∧
      (∃ t, exec (.commitAbort a) s = .next t ∧ t.get (fGroup a.toNat) = 0 ∧
          s.changes [fGroup a.toNat, F.JNL_NEWEST_NUMBER, F.JNL_STATUS_UNREAD_LOST]
            (((s.journal a.toNat (s.wordAt a.toNat) 4 srcTwoWire resAccepted 0).setShadow
              (s.shadow.filter (fun x => !(x.commit == a.toNat && !x.armed)))).setGroupOf (s.groupOf.filter (·.1 != a.toNat))) t)) ∧
    (∀ (cls v : Nat), cls < 5 → 10 ≤ v → v ≤ 250 → s.pinLow = false → s.stage = none → s.gated srcTwoWire 0x45 = false →
        s.on (fGroup 0x45) = true → s.shadow = [⟨0x45, ⟨0x40 + cls, 0, 8⟩, v, false⟩] → s.blockRuns (0x40 + cls) = false →
      ∃ t, exec (.commitGo 0x45#16) s = .next t ∧ t.get ⟨0x40 + cls, 0, 8⟩ = v ∧ t.get (fGroup 0x45) = 0 ∧
        s.changes [⟨0x40 + cls, 0, 8⟩, fGroup 0x45, F.JNL_NEWEST_NUMBER, F.JNL_STATUS_UNREAD_LOST]
          (((s.journal 0x45 (s.wordAt 0x45) 2 srcTwoWire resAccepted 0).setShadow []).setGroupOf (s.groupOf.filter (·.1 != 0x45))) t) ∧
    (∀ (cls v : Nat), cls < 5 → 10 ≤ v → v ≤ 250 → s.on (fPending 0x45) = true → s.shadow = [⟨0x45, ⟨0x40 + cls, 0, 8⟩, v, true⟩] →
      ∃ t, exec (.liveChangeApply 0x45#16 cls) s = .next t ∧ t.get ⟨0x40 + cls, 0, 8⟩ = v ∧ t.get (fPending 0x45) = 0 ∧
        s.changes [⟨0x40 + cls, 0, 8⟩, fPending 0x45] (s.setShadow []) t ∧
        ∀ u, u < 5 → u ≠ cls → ∃ t', exec (.liveChangeApply 0x45#16 u) s = .next t' ∧ s.onlyFields [] t')

/-- A transaction of the two-wire port, which answers 1 ms after VKEEP rose (R413, R415, R416, R417, Table 19.1): a START opens it, and the port
takes part where the address is its own; the register address sets the pointer, a write frame having been opened; a STOP ends it. Nothing else of
the state changes. Completes: `twStart`, `twPointerSet`, `twStop`. -/
def Obligations.TwTransaction : Prop :=
  ∀ s : State, s.Settled → s.dead = false → s.pinLow = false → 1000000 ≤ s.clock →
    (∀ (addr : BitVec 7) (read : Bool), s.tw.ignore = false →
      ∃ t, exec (.twStart addr read) s = .next t ∧
        s.changes [] (s.setTw { s.tw with opened := true, mine := addr.toNat == s.twAddress, ignore := addr.toNat / 4 == 1,
                                          reading := addr.toNat == s.twAddress && read }) t) ∧
    (∀ ra : Word, s.tw.mine = true → s.tw.reading = false →
      ∃ t, exec (.twPointerSet ra) s = .next t ∧ s.changes [] (s.setTw { s.tw with pointer := ra.toNat }) t) ∧
    (∃ t, exec .twStop s = .next t ∧
      s.changes [] (s.setTw { s.tw with opened := false, mine := false, reading := false, ignore := false }) t)

/-- A word written over the port is one register write at the pointer, which advances by 1 (R417, R418); a word read is one register read at the
pointer, and an acknowledge asks for another (R416, R417, R420). Completes: `twWordWrite`, `registerWrite`, `twWordRead`, `readWithEffect`. -/
def Obligations.TwWords : Prop :=
  ∀ s : State, s.dead = false → s.pinLow = false → s.tw.mine = true → s.tw.pointer < 65536 →
    (∀ w : Word, s.tw.reading = false →
      ∃ t, exec (.twWordWrite w) s = .next t ∧
        exec (.registerWrite (BitVec.ofNat 16 s.tw.pointer) w) (s.setTw { s.tw with pointer := (s.tw.pointer + 1) % 65536 }) = .next t) ∧
    (∀ ack : Bool, s.tw.reading = true →
      ∃ t u, exec (.twWordRead ack) s = .next t ∧ exec (.readWithEffect (BitVec.ofNat 16 s.tw.pointer)) s = .next u ∧
        t = u.setTw { u.tw with pointer := (u.tw.pointer + 1) % 65536, reading := ack })

/-- What goes wrong on the two-wire bus: a START or STOP out of place discards the word in progress, sets FRAME_EV, counts and ends the
transaction (R423); a release of TW_SDA abandons it (R425); a value not ready in time is sent as 0x0000, marked and counted, and leaves no
snapshot (R7, R422); a stuck clock or data line is shown, and the clock's ends the transaction (R427). Completes: `twFrameError`,
`twSdaReleaseTimeout`, `twStretchTimeout`, `twSclTimeout`, `twSdaTimeout`. -/
def Obligations.TwTroubles : Prop :=
  ∀ s : State, s.Settled → s.dead = false → s.pinLow = false → 1000000 ≤ s.clock →
    (∀ start part : Bool, s.tw.ignore = false →
      ∃ t, exec (.twFrameError start part) s = .next t ∧
        (part = true → t.get F.TW_STATUS_PARTIAL_EV = 1) ∧ (part = false → t.get F.TW_STATUS_PARTIAL_EV = s.get F.TW_STATUS_PARTIAL_EV) ∧
        t.get F.TW_STATUS_FRAME_EV = 1 ∧ t.get F.TW_COUNTS_FRAME = min 255 (s.get F.TW_COUNTS_FRAME + 1) ∧
        s.changes [F.TW_STATUS_PARTIAL_EV, F.TW_STATUS_FRAME_EV, F.TW_COUNTS_FRAME]
          (s.setTw { s.tw with opened := start, mine := false, reading := false, ignore := false }) t) ∧
    (∀ part : Bool, s.tw.mine = true →
      ∃ t, exec (.twSdaReleaseTimeout part) s = .next t ∧ (part = true → t.get F.TW_STATUS_PARTIAL_EV = 1) ∧
        (part = false → t.get F.TW_STATUS_PARTIAL_EV = s.get F.TW_STATUS_PARTIAL_EV) ∧ t.get F.TW_STATUS_ABANDON_EV = 1 ∧
        s.changes [F.TW_STATUS_PARTIAL_EV, F.TW_STATUS_ABANDON_EV]
          (s.setTw { s.tw with opened := false, mine := false, reading := false }) t) ∧
    (s.tw.mine = true → s.tw.reading = true → s.mayStale = true → s.stage = none →
      ∃ t, exec .twStretchTimeout s = .next t ∧ t.tw.word = 0 ∧ t.get F.TW_STATUS_STALE_READ_EV = 1 ∧
        t.get F.TW_COUNTS_STALE = min 255 (s.get F.TW_COUNTS_STALE + 1) ∧
        s.changes [F.TW_STATUS_STALE_READ_EV, F.TW_COUNTS_STALE]
          ((s.setSnap (s.snap.filter (·.1 != s.tw.pointer))).setTw { s.tw with word := 0, pointer := (s.tw.pointer + 1) % 65536 }) t) ∧
    (∀ part : Bool, s.tw.opened = true →
      ∃ t, exec (.twSclTimeout part) s = .next t ∧ (part = true → t.get F.TW_STATUS_PARTIAL_EV = 1) ∧
        (part = false → t.get F.TW_STATUS_PARTIAL_EV = s.get F.TW_STATUS_PARTIAL_EV) ∧
        t.get F.TW_STATUS_SCL_STUCK = 1 ∧ t.get F.TW_STATUS_SCL_LOW = 1 ∧
        s.changes [F.TW_STATUS_PARTIAL_EV, F.TW_STATUS_SCL_STUCK, F.TW_STATUS_SCL_LOW]
          (s.setTw { s.tw with opened := false, mine := false, reading := false }) t) ∧
    (s.tw.pulse = false →
      ∃ t, exec .twSdaTimeout s = .next t ∧ t.get F.TW_STATUS_SDA_STUCK = 1 ∧ t.get F.TW_STATUS_SDA_LOW = 1 ∧
        s.onlyFields [F.TW_STATUS_SDA_STUCK, F.TW_STATUS_SDA_LOW] t)

/-- The request for attention on the bus (R427, R429): a queued pulse begins on an idle bus; when it ends it is no longer queued and is counted;
a collision leaves it queued and is counted; while an enabled source stays set, REPEAT queues one more; a line that rises again clears its bit
and raises the source PORT. Completes: `attnPulseStart`, `attnPulseEnd`, `attnCollide`, `attnRepeat`, `twLineRisen`. -/
def Obligations.TwAttention : Prop :=
  ∀ s : State, s.Settled → s.dead = false →
    (s.pinLow = false → 1000000 ≤ s.clock → s.on F.TW_STATUS_ATTN_PENDING = true → s.on F.TW_CFG_ATTN = true → s.tw.opened = false →
        s.on F.TW_STATUS_SCL_LOW = false → s.on F.TW_STATUS_SDA_LOW = false →
      ∃ t, exec .attnPulseStart s = .next t ∧ s.changes [] (s.setTw { s.tw with pulse := true }) t) ∧
    (s.tw.pulse = true →
      (∃ t, exec .attnPulseEnd s = .next t ∧ t.get F.TW_STATUS_ATTN_PENDING = 0 ∧
        t.get F.TW_COUNTS_ATTN_SENT = min 255 (s.get F.TW_COUNTS_ATTN_SENT + 1) ∧
        s.changes [F.TW_STATUS_ATTN_PENDING, F.TW_COUNTS_ATTN_SENT] (s.setTw { s.tw with pulse := false }) t) ∧
      (∃ t, exec .attnCollide s = .next t ∧
        t.get F.TW_COUNTS_ATTN_COLLIDE = min 255 (s.get F.TW_COUNTS_ATTN_COLLIDE + 1) ∧
        s.changes [F.TW_COUNTS_ATTN_COLLIDE] (s.setTw { s.tw with pulse := false }) t)) ∧
    (s.get F.TW_CFG_REPEAT ≠ 0 → s.on F.TW_CFG_ATTN = true → (s.get F.TW_ATTN_SRC_SOURCES &&& s.get F.TW_ATTN_EN_ENABLE) ≠ 0 →
      ∃ t, exec .attnRepeat s = .next t ∧ t.get F.TW_STATUS_ATTN_PENDING = 1 ∧ s.onlyFields [F.TW_STATUS_ATTN_PENDING] t) ∧
    (∀ scl : Bool, s.on (if scl then F.TW_STATUS_SCL_LOW else F.TW_STATUS_SDA_LOW) = true →
      ∃ t, exec (.twLineRisen scl) s = .next t ∧ t.get (if scl then F.TW_STATUS_SCL_LOW else F.TW_STATUS_SDA_LOW) = 0 ∧
        bit (t.get F.TW_ATTN_SRC_SOURCES) 7 = true ∧
        s.onlyFields [F.TW_STATUS_SCL_LOW, F.TW_STATUS_SDA_LOW, F.TW_ATTN_SRC_SOURCES, F.TW_STATUS_ATTN_PENDING] t)

/-- Power and the reset pin (R44, R45, R273, R328, R445). The fall of VKEEP leaves the state after power-on, with the key-encryption key of OTP
and the level of `RESET_N`; its rise ends the power-on reset with a new epoch whose upper half is not 0; 1 µs of `RESET_N` low brings a warm
reset with the epoch, the keys and the accepted work kept, once no quay is in a frame; 10 ms a full reset with the next epoch and custody and
keys cleared; the pin's rise changes its level alone. Completes: `vkeepFall`, `vkeepPowerOn`, `resetPinWarm`, `resetPinFull`, `resetNRelease`. -/
def Obligations.PowerAndPins : Prop :=
  ∀ s : State,
    (∃ t, exec .vkeepFall s = .next t ∧
      t = { State.reset with pending := s.pending, kek := s.kek, pinLow := s.pinLow, freeCtr := s.freeCtr, dead := true, precNow := t.precNow }) ∧
    (s.Settled → s.dead = true →
      ∃ t, exec .vkeepPowerOn s = .next t ∧ t.dead = false ∧ t.epoch % 65536 = 1 ∧ 0 < t.epoch / 65536 ∧ t.epoch / 65536 < 65536 ∧
        t.get F.BOND_STATUS_KEK_LOCKED = b2n s.kek.isSome ∧
        s.changes [F.BOND_STATUS_KEK_LOCKED] (((s.setFreeCtr (s.freeCtr + 1)).setDead false).setEpoch t.epoch) t) ∧
    (s.dead = false → s.pinLow = false → s.boot = none → s.closing = false → s.quaysStill = true →
      ∃ t, exec .resetPinWarm s = .next t ∧ t.mode = .wind ∧ t.pinLow = true ∧
        t.boot = some ⟨cWarmPin, 0, 6, s.mode.code, false, true⟩ ∧ t.get F.GLB_MODE_MODE = 1 ∧ t.get F.GLB_MODE_PREV_MODE = s.mode.code ∧
        t.get F.GLB_MODE_CAUSE_CAUSE = cWarmPin ∧ t.get F.GLB_RESET_CAUSE_WARM_PIN = 1 ∧
        t.epoch = s.epoch ∧ t.slots = s.slots ∧ t.kek = s.kek ∧ t.calTable = s.calTable ∧ t.rowMap = s.rowMap ∧ t.sec = s.sec ∧ t.ns = s.ns ∧
        (∀ i ∈ t.custody, i.replay = true) ∧
        (∀ i ∈ s.custody, (t.custody.any (fun j => j.prod == i.prod && j.seq == i.seq && j.payload == i.payload)) = true)) ∧
    (s.dead = false → s.pinLow = true → s.ranks 2 = true →
      ∃ t, exec .resetPinFull s = .next t ∧ t.mode = .wind ∧ t.boot = some ⟨cFullPin, 0, 2, (t.boot.map Boot.old).getD 0, false, true⟩ ∧
        (s.boot = none → t.boot.map Boot.old = some s.mode.code) ∧
        t.get F.GLB_MODE_CAUSE_CAUSE = cFullPin ∧ t.get F.GLB_RESET_CAUSE_FULL_PIN = 1 ∧
        (s.epoch % 65536 ≠ 0xFFFF → t.epoch = s.epoch + 1) ∧ t.custody = [] ∧ t.prods = [] ∧ t.stats = [] ∧
        (∀ i < 32, (t.slot i).key = none) ∧ t.kek = s.kek ∧ t.calTable = s.calTable ∧ t.rowMap = s.rowMap ∧ t.sec = s.sec ∧ t.ns = s.ns) ∧
    (s.Settled → ∃ t, exec .resetNRelease s = .next t ∧ t.pinLow = false ∧ s.changes [] (s.setPinLow false) t)

/-- The reset commands (R29, R44, R45). A confirmed REWIND in service, while no quay is in a frame, brings the warm reset of the command; a
confirmed FULL_RESET brings the full reset in every mode that no reset of its rank or above holds. Completes: `rewind`, `fullReset`. -/
def Obligations.ResetCommands : Prop :=
  ∀ s : State, s.dead = false → s.pinLow = false → s.stage = none →
    (s.serving = true → s.boot = none → s.closing = false → s.quaysStill = true →
      ∃ t, exec (.rewind 0x5A#8) s = .next t ∧ t.mode = .wind ∧ t.boot = some ⟨cWarmCmd, 0, 6, s.mode.code, true, true⟩ ∧
        t.get F.GLB_MODE_CAUSE_CAUSE = cWarmCmd ∧ t.get F.GLB_RESET_CAUSE_WARM_CMD = 1 ∧
        t.epoch = s.epoch ∧ t.slots = s.slots ∧ t.kek = s.kek ∧ t.calTable = s.calTable ∧ t.rowMap = s.rowMap ∧ t.sec = s.sec ∧ t.ns = s.ns ∧
        (∀ i ∈ t.custody, i.replay = true)) ∧
    (s.ranks 2 = true →
      ∃ t, exec (.fullReset 0x5A#8) s = .next t ∧ t.mode = .wind ∧ t.boot = some ⟨cFullCmd, 0, 2, (t.boot.map Boot.old).getD 0, true, true⟩ ∧
        (s.boot = none → t.boot.map Boot.old = some s.mode.code) ∧
        t.get F.GLB_MODE_CAUSE_CAUSE = cFullCmd ∧ t.get F.GLB_RESET_CAUSE_FULL_CMD = 1 ∧
        (s.epoch % 65536 ≠ 0xFFFF → t.epoch = s.epoch + 1) ∧ t.custody = [] ∧ t.prods = [] ∧ t.stats = [] ∧
        (∀ i < 32, (t.slot i).key = none) ∧ t.kek = s.kek ∧ t.calTable = s.calTable ∧ t.rowMap = s.rowMap ∧ t.sec = s.sec ∧ t.ns = s.ns)

/-- WIND (R26, R41, R46, R47, R54, R55, R446). After a reset has taken place WIND begins with every domain on and the headers judged; with no
good header the device enters ANCHOR with IMAGE_INVALID; the reader issues the four instructions of R46 alone. A copy that passes every check is
applied and REGULATE begins; a copy that fails is shown with its check and section, and the other is tried or the device enters ANCHOR.
Completes: `windBegin`, `windCopyReadDone`. -/
def Obligations.Winding : Prop :=
  ∀ s : State, s.dead = false →
    (∀ b : Boot, s.boot = some b → b.ended = true → s.pinLow = false → ∀ (x : Sfdp) (h0 h1 : List Byte),
      ∃ t, exec (.windBegin x h0 h1) s = .next t ∧ t.boot = none ∧ t.get F.GLB_WIND_STATUS_SFDP_OK = b2n (x.signature == 0x50444653#32) ∧
        t.get F.GLB_WIND_STATUS_COPY_USED = 3 ∧ t.get F.GLB_WIND_DETAIL_SECTION0 = 0xFF ∧ t.get F.GLB_WIND_DETAIL_SECTION1 = 0xFF ∧
        (windOrder (padHeader h0) (padHeader h1) ≠ [] → t.mode = s.mode ∧ (∀ d < 7, t.get (F.DOM_STATE (d + 1)) = 1) ∧
          let reads := (t.wind.map Wind.reads).getD []
          t.wind = some ⟨s.clock, sfdpQuad x, sfdpClocks x, [padHeader h0, padHeader h1], windOrder (padHeader h0) (padHeader h1), reads⟩ ∧
            ∀ i ∈ reads, i.code ∈ [0xAB, 0x5A, 0x0B, 0x6B]) ∧
        (windOrder (padHeader h0) (padHeader h1) = [] → s.mode ≠ .anchor →
          t.mode = .anchor ∧ t.get F.GLB_MODE_CAUSE_CAUSE = cImageInvalid ∧ t.wind = none) ∧
        t.slots = s.slots ∧ t.kek = s.kek ∧ t.calTable = s.calTable ∧ t.rowMap = s.rowMap ∧ t.epoch = s.epoch ∧ t.sec = s.sec ∧ t.ns = s.ns) ∧
    (∀ w : Wind, s.wind = some w → s.mode = .wind → s.boot = none → ∀ c : Nat, w.todo.head? = some c → c < 2 →
        ∀ img : List Byte, img.length = imgD (w.headers.getD c []) 0x0C →
      ∃ t, exec (.windCopyReadDone c img) s = .next t ∧
        (s.copyFault (w.headers.getD c []) img = none → t.mode = .regulate ∧ t.wind = none ∧ t.get F.GLB_MODE_CAUSE_CAUSE = cImageOk ∧
          t.get (windResult c) = wrApplied ∧ t.get F.GLB_WIND_STATUS_COPY_USED = c ∧
          t.get F.GLB_WIND_GEN_GENERATION = imgGen (w.headers.getD c [])) ∧
        (∀ x, s.copyFault (w.headers.getD c []) img = some x → t.get (windResult c) = x.1 ∧ t.get (windSection c) = x.2 % 256 ∧
          (w.todo.drop 1 = [] → t.mode = .anchor ∧ t.wind = none) ∧
          (w.todo.drop 1 ≠ [] → t.mode = .wind ∧ t.wind = some { w with todo := w.todo.drop 1, reads := (t.wind.map Wind.reads).getD [] })) ∧
        t.kek = s.kek ∧ t.calTable = s.calTable ∧ t.rowMap = s.rowMap ∧ t.epoch = s.epoch ∧ t.sec = s.sec ∧ t.ns = s.ns)

/-- The end of REGULATE (R26, R66, R99). Once the sweep is done and the movements are locked, a qualified `REFIN` that every movement runs on
brings RUN with REGULATED, a qualified `TCXO_IN` alone DRIFT with REGULATED_NO_REFIN; the intakes of D and U are set, the length shows, and the
calibration table is built from the captures of each intake whose sweep is complete, by the model's mean of the comb captures (log entry 120). At
3 s without a usable reference the device enters ANCHOR with NO_REFERENCE, and with one but with both movements of a pair unlocked with
LOCK_FAIL. A capture of the calibration sweep that passes is kept, and the sweep goes on; one that fails is taken once more. Completes:
`regulateEnd`, `regulateLockTimeout`, `regulateCaptureDone`. -/
def Obligations.Regulating : Prop :=
  ∀ s : State, s.dead = false → s.mode = .regulate → s.boot = none →
    (∀ (ms : Nat) (d : List Nat × List Nat) (u : Nat × Nat), s.sweeping = none → s.allLocked = true → s.on F.GLB_MODE_SURVEY_DEFERRED = false →
      (s.on F.TB_REF_STATUS_REFIN_OK = true → s.allRefin = true →
        ∃ t, exec (.regulateEnd ms d u) s = .next t ∧ t.mode = .run ∧ t.get F.GLB_MODE_CAUSE_CAUSE = cRegulated ∧
          t.dIntake = d ∧ t.uIntake = u ∧ t.get F.CAL_REG_TIME_DURATION = min 65535 ms ∧
          (∀ k, k < 2 → (∀ c < sweepLength, s.sweepCapture (k + 1) c ≠ []) →
            (∀ i < 256, t.calEntry (1024 * k + i) = s.combMean (k + 1) i) ∧
            (∀ i < 768, t.calEntry (1024 * k + 256 + i) = s.stateRel (k + 1) (i / 16) (i % 16))) ∧
          (s.captured = [] → t.calTable = s.calTable) ∧ t.captured = [] ∧
          t.slots = s.slots ∧ t.kek = s.kek ∧ t.rowMap = s.rowMap ∧ t.epoch = s.epoch ∧ t.sec = s.sec ∧ t.ns = s.ns) ∧
      (s.on F.TB_REF_STATUS_REFIN_OK = false → s.on F.TB_REF_STATUS_TCXO_OK = true → 3000 ≤ ms →
        ∃ t, exec (.regulateEnd ms d u) s = .next t ∧ t.mode = .drift ∧ t.get F.GLB_MODE_CAUSE_CAUSE = cRegulatedNoRefin ∧
          t.dIntake = d ∧ t.uIntake = u ∧ (s.captured = [] → t.calTable = s.calTable) ∧ t.captured = [] ∧ t.slots = s.slots ∧ t.kek = s.kek ∧
          t.rowMap = s.rowMap ∧ t.epoch = s.epoch ∧ t.sec = s.sec ∧ t.ns = s.ns)) ∧
    (s.on F.TB_REF_STATUS_REFIN_OK = false → s.on F.TB_REF_STATUS_TCXO_OK = false →
      ∃ t, exec .regulateLockTimeout s = .next t ∧ t.mode = .anchor ∧ t.get F.GLB_MODE_CAUSE_CAUSE = cNoReference ∧ t.slots = s.slots ∧
        t.kek = s.kek ∧ t.calTable = s.calTable ∧ t.rowMap = s.rowMap ∧ t.epoch = s.epoch ∧ t.sec = s.sec ∧ t.ns = s.ns) ∧
    (∀ p, p < 2 → (s.on F.TB_REF_STATUS_REFIN_OK || s.on F.TB_REF_STATUS_TCXO_OK) = true → s.locked (2 * p) = false → s.locked (2 * p + 1) = false →
      ∃ t, exec .regulateLockTimeout s = .next t ∧ t.mode = .anchor ∧ t.get F.GLB_MODE_CAUSE_CAUSE = cLockFail ∧ t.slots = s.slots ∧
        t.kek = s.kek ∧ t.calTable = s.calTable ∧ t.rowMap = s.rowMap ∧ t.epoch = s.epoch ∧ t.sec = s.sec ∧ t.ns = s.ns) ∧
    (∀ (k c : Nat) (meas : List (Word × Word)), k < 2 → s.sweeping = some (k + 1) → (s.intake (k + 1)).captures = c → c < sweepLength →
      ∃ t, exec (.regulateCaptureDone (k + 1) true meas) s = .next t ∧ (t.intake (k + 1)).captures = c + 1 ∧
        t.sweepCapture (k + 1) c = meas.map (fun m => (m.1.toNat, m.2.toNat)) ∧
        (∀ j, j ≠ 64 * k + c → Tbl.get (fun _ => []) t.captured j = Tbl.get (fun _ => []) s.captured j) ∧
        t.calTable = s.calTable ∧
        t.mode = s.mode ∧ t.slots = s.slots ∧ t.kek = s.kek ∧ t.rowMap = s.rowMap ∧ t.epoch = s.epoch ∧ t.sec = s.sec ∧ t.ns = s.ns) ∧
    (∀ (k : Nat) (meas : List (Word × Word)), k < 2 → s.sweeping = some (k + 1) → (s.intake (k + 1)).again = false → s.repeats < 16 → s.Settled →
      ∃ t, exec (.regulateCaptureDone (k + 1) false meas) s = .next t ∧ (t.intake (k + 1)).again = true ∧ t.repeats = s.repeats + 1 ∧
        s.changes [] ((s.setIntakes t.intakes).setRepeats (s.repeats + 1)) t)

/-- SURVEY (R29, R37, R40). A confirmed ENTER_SURVEY in RUN, and a schedule that falls due there, bring SURVEY; END_SURVEY, the limit and the
completed scan return to RUN; outside RUN a due schedule waits; the high word of `GLB_SURVEY_AT` puts the staged time in force;
CANCEL_SURVEY_SCHEDULE takes the schedule away. Completes: `enterSurvey`, `surveyScheduleDue`, `endSurvey`, `surveyLimitExpire`,
`surveyComplete`, `surveyAtWrite`, `cancelSurveySchedule`. -/
def Obligations.Surveying : Prop :=
  ∀ s : State, s.dead = false → s.boot = none →
    (s.mode = .run →
      (s.pinLow = false → s.stage = none →
        ∃ t, exec (.enterSurvey 0x5A#8) s = .next t ∧ t.mode = .survey ∧ t.get F.GLB_MODE_CAUSE_CAUSE = cSurveyCmd ∧
          t.get F.GLB_MODE_PREV_MODE = 3 ∧ t.get F.ALERT_STATUS_FROZEN = 1 ∧ t.slots = s.slots ∧ t.kek = s.kek ∧ t.calTable = s.calTable ∧
          t.rowMap = s.rowMap ∧ t.epoch = s.epoch ∧ t.sec = s.sec ∧ t.ns = s.ns) ∧
      (s.get F.GLB_SURVEY_AT_SECONDS ≠ 0 → s.get F.GLB_SURVEY_AT_SECONDS ≤ s.sec →
        ∃ t, exec .surveyScheduleDue s = .next t ∧ t.mode = .survey ∧ t.get F.GLB_MODE_CAUSE_CAUSE = cSurveySchedule ∧
          t.get F.GLB_SURVEY_AT_SECONDS = 0 ∧ t.slots = s.slots ∧ t.kek = s.kek ∧ t.calTable = s.calTable ∧ t.rowMap = s.rowMap ∧
          t.epoch = s.epoch ∧ t.sec = s.sec ∧ t.ns = s.ns)) ∧
    (s.mode = .survey → s.on F.GLB_MODE_SURVEY_DEFERRED = false →
      (s.pinLow = false → s.stage = none →
        ∃ t, exec (.endSurvey 0x5A#8) s = .next t ∧ t.mode = .run ∧ t.get F.GLB_MODE_CAUSE_CAUSE = cSurveyEnd ∧
          t.get F.ALERT_STATUS_FROZEN = 0 ∧ t.slots = s.slots ∧ t.kek = s.kek ∧ t.calTable = s.calTable ∧ t.rowMap = s.rowMap ∧
          t.epoch = s.epoch ∧ t.sec = s.sec ∧ t.ns = s.ns) ∧
      (∃ t, exec .surveyLimitExpire s = .next t ∧ t.mode = .run ∧ t.get F.GLB_MODE_CAUSE_CAUSE = cSurveyLimit ∧
        t.get F.ALERT_STATUS_FROZEN = 0 ∧ t.slots = s.slots ∧ t.kek = s.kek ∧ t.calTable = s.calTable ∧ t.rowMap = s.rowMap ∧
        t.epoch = s.epoch ∧ t.sec = s.sec ∧ t.ns = s.ns) ∧
      (∀ (found : List Found) (tables : List AfEntry),
        ∃ t, exec (.surveyComplete found tables) s = .next t ∧ t.mode = .run ∧ t.get F.GLB_MODE_CAUSE_CAUSE = cSurveyComplete ∧
          t.get F.ALERT_STATUS_FROZEN = 0 ∧ t.slots = s.slots ∧ t.kek = s.kek ∧ t.calTable = s.calTable ∧ t.rowMap = s.rowMap ∧
          t.epoch = s.epoch ∧ t.sec = s.sec ∧ t.ns = s.ns)) ∧
    (s.Settled → s.mode ≠ .run → s.get F.GLB_SURVEY_AT_SECONDS ≠ 0 → s.get F.GLB_SURVEY_AT_SECONDS ≤ s.sec →
      ∃ t, exec .surveyScheduleDue s = .next t ∧ t.get F.GLB_MODE_SURVEY_DEFERRED = 1 ∧ s.onlyFields [F.GLB_MODE_SURVEY_DEFERRED] t) ∧
    (s.Settled → ∀ (lo mid hi : Word), s.serving = true → s.pinLow = false → s.stage = some ⟨0x10, [(1, mid.toNat), (0, lo.toNat)]⟩ →
        let v := lo.toNat + 65536 * mid.toNat + 2 ^ 32 * bits hi.toNat 0 2
        (v = 0 ∨ s.sec < v) →
      ∃ t, exec (.surveyAtWrite hi) s = .next t ∧ t.get F.GLB_SURVEY_AT_SECONDS = v ∧ t.stage = none ∧ t.mode = s.mode ∧
        State.fieldsBut [F.GLB_SURVEY_AT_SECONDS, F.JNL_NEWEST_NUMBER, F.JNL_STATUS_UNREAD_LOST] s t) ∧
    (s.Settled → s.mode ≠ .anchor → s.pinLow = false → s.stage = none →
      ∃ t, exec (.cancelSurveySchedule 0x5A#8) s = .next t ∧ t.get F.GLB_SURVEY_AT_SECONDS = 0 ∧ t.get F.GLB_MODE_SURVEY_DEFERRED = 0 ∧
        t.mode = s.mode ∧
        State.fieldsBut [F.GLB_SURVEY_AT_SECONDS, F.GLB_MODE_SURVEY_DEFERRED, F.JNL_NEWEST_NUMBER, F.JNL_STATUS_UNREAD_LOST] s t)

/-- ANCHOR (R29, R31, R41, R348, R349). A confirmed ENTER_ANCHOR brings ANCHOR from every other mode; a tamper, supply or temperature alarm
erases every key slot in every mode, under a reset too, and brings ANCHOR with SECURITY_ALARM where no reset is under way; the cause shows in
`BOND_ALARM`. Completes: `enterAnchor`, `tamperAlarm`, `supplyGlitch`, `temperatureAlarm`. -/
def Obligations.Anchoring : Prop :=
  ∀ s : State, s.dead = false →
    (s.boot = none → s.mode ≠ .anchor → s.pinLow = false → s.stage = none →
      ∃ t, exec (.enterAnchor 0x5A#8) s = .next t ∧ t.mode = .anchor ∧ t.get F.GLB_MODE_CAUSE_CAUSE = cAnchorCmd ∧
        t.get F.GLB_MODE_PREV_MODE = s.mode.code ∧ t.slots = s.slots ∧ t.kek = s.kek ∧ t.calTable = s.calTable ∧ t.rowMap = s.rowMap ∧
        t.epoch = s.epoch ∧ t.sec = s.sec ∧ t.ns = s.ns) ∧
    (let after (t : State) (d : Nat) : Prop :=
      (∀ i < 32, (t.slot i).key = none) ∧ t.kek = s.kek ∧ t.calTable = s.calTable ∧ t.rowMap = s.rowMap ∧ t.sec = s.sec ∧ t.ns = s.ns ∧
        (s.boot = none → t.get F.BOND_STATUS_ERASED = 1 ∧ bit (t.get F.BOND_ALARM_CAUSES) d = true ∧ t.mode = .anchor ∧ t.epoch = s.epoch ∧
          (s.mode ≠ .anchor → t.get F.GLB_MODE_CAUSE_CAUSE = cSecurity ∧ t.get F.GLB_MODE_CAUSE_DETAIL = d ∧
            (t.alerts.any (fun a => a.kind == 0x10)) = true))
     (s.on F.BOND_CTRL_TAMPER_EN = true → ∃ t, exec .tamperAlarm s = .next t ∧ after t 0) ∧
     (∃ t, exec .supplyGlitch s = .next t ∧ after t 1) ∧
     (∃ t, exec .temperatureAlarm s = .next t ∧ after t 2))

/-- The references (R35, R66, R81, R82). The loss of a qualified `REFIN` in RUN brings DRIFT where `TCXO_IN` is qualified and ANCHOR where it is
not; the loss of `TCXO_IN` outside DRIFT shows and is journaled; a counter window with both inputs in tolerance adds to both counts; an offset
window shows its measurement while both inputs are qualified. Completes: `refinLost`, `tcxoLost`, `refCountWindowEnd`, `tcxoOffsetWindowEnd`. -/
def Obligations.References : Prop :=
  ∀ s : State, s.Settled → s.dead = false →
    (∀ edge : Bool, s.mode = .run → s.boot = none → s.on F.TB_REF_STATUS_REFIN_OK = true →
      (s.on F.TB_REF_STATUS_TCXO_OK = true →
        ∃ t, exec (.refinLost edge) s = .next t ∧ t.mode = .drift ∧ t.get F.GLB_MODE_CAUSE_CAUSE = cRefinLost ∧
          t.get F.GLB_MODE_CAUSE_DETAIL = 3 ∧ t.get F.TB_REF_STATUS_REFIN_OK = 0 ∧ t.get F.TB_REF_STATUS_REFIN_LOST_EV = 1 ∧
          t.slots = s.slots ∧ t.kek = s.kek ∧ t.calTable = s.calTable ∧ t.rowMap = s.rowMap ∧ t.epoch = s.epoch ∧ t.sec = s.sec ∧ t.ns = s.ns) ∧
      (s.on F.TB_REF_STATUS_TCXO_OK = false →
        ∃ t, exec (.refinLost edge) s = .next t ∧ t.mode = .anchor ∧ t.get F.GLB_MODE_CAUSE_CAUSE = cNoReference ∧
          t.get F.TB_REF_STATUS_REFIN_OK = 0 ∧ t.get F.TB_REF_STATUS_REFIN_LOST_EV = 1 ∧
          t.slots = s.slots ∧ t.kek = s.kek ∧ t.calTable = s.calTable ∧ t.rowMap = s.rowMap ∧ t.epoch = s.epoch ∧ t.sec = s.sec ∧ t.ns = s.ns)) ∧
    (∀ edge : Bool, s.mode ≠ .drift → s.on F.TB_REF_STATUS_TCXO_OK = true →
      ∃ t, exec (.tcxoLost edge) s = .next t ∧ t.get F.TB_REF_STATUS_TCXO_OK = 0 ∧ t.get F.TB_REF_STATUS_TCXO_LOST_EV = 1 ∧
        t.errCount = s.errCount + 1 ∧ t.refCount = { s.refCount with tcxo := s.refCount.tcxo && !edge, tcxoGood := 0 } ∧
        s.changesErr [F.TB_REF_STATUS_TCXO_OK, F.TB_REF_STATUS_TCXO_LOST_EV] (s.setRefCount t.refCount) t) ∧
    (s.on F.TB_REF_CFG_REFIN_FREQ = false → s.on F.TB_REF_STATUS_REFIN_OK = true → s.on F.TB_REF_STATUS_TCXO_OK = true →
        s.on F.TB_REF_CFG_TCXO_FITTED = true → ∀ r c : Nat, 999990 ≤ r → r ≤ 1000010 → 3999920 ≤ c → c ≤ 4000080 →
      ∃ t, exec (.refCountWindowEnd r c) s = .next t ∧
        t.refCount = ⟨s.refCount.lost, true, min 10 (s.refCount.refinGood + 1), 0, true, min 10 (s.refCount.tcxoGood + 1)⟩ ∧
        s.changes [] (s.setRefCount t.refCount) t) ∧
    (∀ off : BitVec 32, s.on F.TB_REF_STATUS_REFIN_OK = true → s.on F.TB_REF_STATUS_TCXO_OK = true →
      ∃ t, exec (.tcxoOffsetWindowEnd off) s = .next t ∧ t.get F.TB_TCXO_OFFSET_OFFSET = off.toNat ∧
        t.get F.TB_REF_STATUS_OFFSET_VALID = 1 ∧
        s.changes [F.TB_TCXO_OFFSET_OFFSET, F.TB_REF_STATUS_OFFSET_VALID] (s.setWindows t.windows) t)

/-- Lock and loss of lock of a movement (R68, R69, R70, R75). The band search ends in lock windows; the fourth window in tolerance declares lock;
the second window out of tolerance, and a slip, lose it: the count goes up, the movement searches, and the locked twin carries. A first missed
bound brings another search, a second leaves the movement idle. The guard leaves counts within 2 alone and declares the member further from
nominal lost. Completes: `bandSearchDone`, `lockWindowEnd`, `pfdSlip`, `lockBoundExpire`, `twinGuardCheck`. -/
def Obligations.LockAndLoss : Prop :=
  ∀ s : State, s.Settled → s.dead = false → ∀ m : Nat, m < 4 →
    (∀ counts : List Nat, s.get (F.TB_MOV_STATUS_STATE m) = 1 → counts.length = 7 →
      ∃ t, exec (.bandSearchDone m counts) s = .next t ∧ t.get (F.TB_MOV_STATUS_BAND m) = bandOf (s.divN m) counts ∧
        t.get (F.TB_MOV_STATUS_STATE m) = 2 ∧ t.get (F.TB_MOV_STATUS_HOLDOVER m) = 0 ∧
        s.changes [F.TB_MOV_STATUS_BAND m, F.TB_MOV_STATUS_STATE m, F.TB_MOV_STATUS_HOLDOVER m] (s.putMov m { s.mov m with good := 0, bad := 0 }) t) ∧
    (∀ count : Nat, s.on (F.TB_MOV_STATUS_HOLDOVER m) = false →
      (s.get (F.TB_MOV_STATUS_STATE m) = 2 → (count < 1023 ∨ 1025 < count) →
        ∃ t, exec (.lockWindowEnd m count) s = .next t ∧ s.changes [] (s.putMov m { s.mov m with good := 0 }) t) ∧
      (s.get (F.TB_MOV_STATUS_STATE m) = 2 → 1023 ≤ count → count ≤ 1025 → (s.mov m).good < 3 →
        ∃ t, exec (.lockWindowEnd m count) s = .next t ∧ s.changes [] (s.putMov m { s.mov m with good := (s.mov m).good + 1 }) t) ∧
      (s.get (F.TB_MOV_STATUS_STATE m) = 2 → 1023 ≤ count → count ≤ 1025 → (s.mov m).good = 3 → (s.unit .movement m).testing = false →
          (s.pair (pairOf m)).todo = [] → s.mode ≠ .drift →
        ∃ t, exec (.lockWindowEnd m count) s = .next t ∧ t.get (F.TB_MOV_STATUS_LOCKED m) = 1 ∧ t.get (F.TB_MOV_STATUS_STATE m) = 3 ∧
          s.steady t) ∧
      (s.get (F.TB_MOV_STATUS_STATE m) = 3 → (count < 1023 ∨ 1025 < count) → (s.mov m).bad = 0 →
        ∃ t, exec (.lockWindowEnd m count) s = .next t ∧ s.changes [] (s.putMov m { s.mov m with bad := 1 }) t)) ∧
    (∀ count : Nat, s.get (F.TB_MOV_STATUS_STATE m) = 3 → (count < 1023 ∨ 1025 < count) → (s.mov m).bad = 1 →
        s.on (F.TB_MOV_STATUS_HOLDOVER m) = false → s.locked m = true → s.movRetired m = false → s.locked (twinOf m) = true →
      ∃ t t', exec (.lockWindowEnd m count) s = .next t ∧ exec (.pfdSlip m) s = .next t' ∧
        t.get (F.TB_MOV_STATUS_LOCKED m) = 0 ∧ t.get (F.TB_MOV_STATUS_STATE m) = 1 ∧
        t'.get (F.TB_MOV_STATUS_LOCKED m) = 0 ∧ t'.get (F.TB_MOV_STATUS_STATE m) = 1 ∧
        t.get (F.TB_MOV_COUNT_LOSS_COUNT m) = min 255 (s.get (F.TB_MOV_COUNT_LOSS_COUNT m) + 1) ∧
        t'.get (F.TB_MOV_COUNT_LOSS_COUNT m) = min 255 (s.get (F.TB_MOV_COUNT_LOSS_COUNT m) + 1) ∧
        (s.carrier (pairOf m) = some m → t.carrier (pairOf m) = some (twinOf m) ∧ t'.carrier (pairOf m) = some (twinOf m)) ∧
        s.steady t ∧ s.steady t') ∧
    ((s.get (F.TB_MOV_STATUS_STATE m) = 1 ∨ s.get (F.TB_MOV_STATUS_STATE m) = 2) → (s.unit .movement m).testing = false →
      ∃ t, exec (.lockBoundExpire m) s = .next t ∧ t.get (F.TB_MOV_STATUS_LOCKED m) = 0 ∧
        ((s.mov m).missed = 0 → t.get (F.TB_MOV_STATUS_STATE m) = 1 ∧ (t.mov m).missed = 1) ∧
        ((s.mov m).missed ≠ 0 → t.get (F.TB_MOV_STATUS_STATE m) = 0) ∧ s.steady t) ∧
    (∀ (p c0 c1 : Nat), p < 2 → c0 ≤ c1 + 200 → c1 ≤ c0 + 200 →
      ∃ t, exec (.twinGuardCheck p c0 c1) s = .next t ∧ s.onlyFields [] t) ∧
    (∀ (p c : Nat), p < 2 → (∀ i < 2, s.locked (2 * p + i) = true ∧ s.movRetired (2 * p + i) = false ∧
          s.on (F.TB_MOV_STATUS_HOLDOVER (2 * p + i)) = false ∧ s.on (F.TB_MOV_STATUS_ON_TCXO (2 * p + i)) = false ∧
          (s.mov (2 * p + i)).fam = 0) →
        201 ≤ c → s.guardNominal (2 * p) % 10 = 0 →
      ∃ t, exec (.twinGuardCheck p (s.guardNominal (2 * p) / 10 + c) (s.guardNominal (2 * p) / 10)) s = .next t ∧
        t.get (F.TB_MOV_STATUS_LOCKED (2 * p)) = 0 ∧ t.get (F.TB_MOV_STATUS_STATE (2 * p)) = 1 ∧
        t.carrier p = some (2 * p + 1) ∧ s.steady t)

/-- Commands and trims of the movement pairs (R76, R78, R79, R80). A trim that ends shows its skew, and the loads move to the member it was for;
a change of FAMILY gives the audio pair its four steps; `TB_PAIR_CMD` makes the named movement lock again, after its loads have moved. Completes:
`twinTrimDone`, `audioFamilyWrite`, `relockCmd`. -/
def Obligations.PairCommands : Prop :=
  ∀ s : State, s.dead = false →
    (∀ (p m : Nat) (skew : Word), p < 2 → (m = 2 * p ∨ m = 2 * p + 1) → s.trimming = [p] → s.pilotWindow = false →
        s.pair p = ⟨[.move m], false, 0⟩ → s.locked m = true → s.carrier p = some (twinOf m) → (s.mov 0).fam = 0 → (s.mov 1).fam = 0 →
        (s.mov 2).fam = 0 → (s.mov 3).fam = 0 →
      ∃ t, exec (.twinTrimDone p skew) s = .next t ∧ t.carrier p = some m ∧ (t.pair p).todo = [] ∧ t.trimming = [] ∧
        t.get (if p = 0 then F.TB_TWIN_SKEW_SAMPLE else F.TB_TWIN_SKEW_AUDIO) = skew.toNat ∧
        t.get (F.TB_MOV_COUNT_SWITCH_COUNT (twinOf m)) = min 255 (s.get (F.TB_MOV_COUNT_SWITCH_COUNT (twinOf m)) + 1) ∧ s.steady t) ∧
    (∀ w : Word, s.pinLow = false → s.stage = none → s.gated srcTwoWire 0x106 = false → s.alone 1 = false → (s.pair 1).fam < 2 →
        (s.pair 1).todo = [] → s.carrier 1 = some 2 → s.locked 3 = true → s.get F.TB_AUDIO_CFG_FAMILY ≠ bits w.toNat 0 1 →
      ∃ t, exec (.audioFamilyWrite w) s = .next t ∧ t.get F.TB_AUDIO_CFG_FAMILY = bits w.toNat 0 1 ∧
        t.pair 1 = { s.pair 1 with todo := [.lock 3, .move 3, .lock 2, .move 2], fam := 2 + bits w.toNat 0 1 } ∧
        (t.mov 3).fam = bits w.toNat 0 1 ∧ t.get (F.TB_MOV_STATUS_STATE 3) = 1 ∧ t.get (F.TB_MOV_STATUS_LOCKED 3) = 0 ∧ s.steady t) ∧
    (∀ m < 4, s.pinLow = false → s.stage = none → s.gated srcTwoWire 0x105 = false → s.serving = true → s.locked (twinOf m) = true →
        s.alone (pairOf m) = false → (s.pair (pairOf m)).todo = [] → s.trimming = [] → s.locked m = true → 
      (s.carrier (pairOf m) = some (twinOf m) →
        ∃ t, exec (.relockCmd (BitVec.ofNat 16 (2 ^ m))) s = .next t ∧ t.get (F.TB_MOV_STATUS_LOCKED m) = 0 ∧
          t.get (F.TB_MOV_STATUS_STATE m) = 1 ∧ (t.pair (pairOf m)).todo = [.lock m, .move (homeMov (pairOf m))] ∧
          t.carrier (pairOf m) = some (twinOf m) ∧ s.steady t) ∧
      (s.carrier (pairOf m) = some m →
        ∃ t, exec (.relockCmd (BitVec.ofNat 16 (2 ^ m))) s = .next t ∧ t.trimming = [pairOf m] ∧
          (t.pair (pairOf m)).todo = [.move (twinOf m), .lock m, .move (homeMov (pairOf m))] ∧ t.carrier (pairOf m) = some m ∧ s.steady t))

/-- `PPS_IN` and the time (R85, R86, R87). An edge of a qualified `PPS_IN` within 10 µs shows its error and is steered away; one further off only
counts as a stray; before qualification good gaps are counted and a bad one starts the count again. The loss of `PPS_IN` shows and is journaled.
A written time waits, and without a qualified `PPS_IN` it is the time from the next whole second on. Completes: `ppsEdge`, `ppsLost`,
`timeSetWrite`, `timeSetWholeSecond`. -/
def Obligations.TimeKeeping : Prop :=
  ∀ s : State, s.Settled → s.dead = false →
    (∀ err gap : Int, s.on F.TB_PPS_STATUS_QUALIFIED = true → s.ppsStep = false →
      (err.natAbs ≤ 10000000 → s.timeSet = none →
        ∃ t, exec (.ppsEdge err gap) s = .next t ∧ t.get F.TB_PPS_ERROR_ERROR = toBits 32 err ∧ t.steer = (-err, 0) ∧
          t.get F.TB_PPS_STATUS_SLEWING = b2n (decide (err ≠ 0)) ∧
          s.changes [F.TB_PPS_ERROR_ERROR, F.TB_PPS_STATUS_SLEWING] ((s.setSteer (-err, 0)).setWindows t.windows) t) ∧
      (10000000 < err.natAbs →
        ∃ t, exec (.ppsEdge err gap) s = .next t ∧ t.get F.TB_PPS_STATUS_STRAY = min 255 (s.get F.TB_PPS_STATUS_STRAY + 1) ∧
          s.onlyFields [F.TB_PPS_STATUS_STRAY] t)) ∧
    (∀ err gap : Int, s.on F.TB_PPS_STATUS_QUALIFIED = false →
      (1000 < gap.natAbs → ∃ t, exec (.ppsEdge err gap) s = .next t ∧ s.changes [] (s.setPpsGood 0) t) ∧
      (gap.natAbs ≤ 1000 → s.ppsGood < 2 → ∃ t, exec (.ppsEdge err gap) s = .next t ∧ s.changes [] (s.setPpsGood (s.ppsGood + 1)) t) ∧
      (gap.natAbs ≤ 1000 → 2 ≤ s.ppsGood → err.natAbs ≤ 1000000000 →
        ∃ t, exec (.ppsEdge err gap) s = .next t ∧ t.get F.TB_PPS_STATUS_QUALIFIED = 1 ∧ t.get F.TB_REF_STATUS_PPS_OK = 1 ∧
          t.get F.TB_PPS_STATUS_HOLDOVER = 0 ∧ t.steer = (-err, 0) ∧
          s.changes [F.TB_PPS_STATUS_QUALIFIED, F.TB_REF_STATUS_PPS_OK, F.TB_PPS_STATUS_HOLDOVER, F.TB_PPS_ERROR_ERROR, F.TB_PPS_STATUS_SLEWING]
            (((s.setPpsGood 0).setSteer (-err, 0)).setWindows t.windows) t)) ∧
    (s.on F.TB_PPS_STATUS_QUALIFIED = true →
      ∃ t, exec .ppsLost s = .next t ∧ t.get F.TB_PPS_STATUS_QUALIFIED = 0 ∧ t.get F.TB_REF_STATUS_PPS_OK = 0 ∧
        t.get F.TB_PPS_STATUS_HOLDOVER = 1 ∧ t.get F.TB_REF_STATUS_PPS_LOST_EV = 1 ∧ t.get F.TB_PPS_STATUS_SLEWING = 0 ∧
        t.errCount = s.errCount + 1 ∧
        s.changesErr [F.TB_PPS_STATUS_QUALIFIED, F.TB_REF_STATUS_PPS_OK, F.TB_PPS_STATUS_HOLDOVER, F.TB_REF_STATUS_PPS_LOST_EV,
          F.TB_PPS_STATUS_SLEWING] ((((s.setSteer (0, 0)).setPpsGood 0).setPpsStep false).setWindows t.windows) t) ∧
    (∀ lo mid hi : Word, s.serving = true → s.pinLow = false → s.stage = some ⟨0x154, [(1, mid.toNat), (0, lo.toNat)]⟩ →
        let v := lo.toNat + 65536 * mid.toNat + 2 ^ 32 * bits hi.toNat 0 2
      ∃ t, exec (.timeSetWrite hi) s = .next t ∧ t.timeSet = some v ∧ t.get F.TB_TIME_SET_SECONDS = v ∧ t.stage = none ∧ t.sec = s.sec ∧
        t.ns = s.ns ∧ State.fieldsBut [F.TB_TIME_SET_SECONDS, F.JNL_NEWEST_NUMBER, F.JNL_STATUS_UNREAD_LOST] s t) ∧
    (∀ v : Nat, s.timeSet = some v → s.on F.TB_PPS_STATUS_QUALIFIED = false →
      ∃ t, exec .timeSetWholeSecond s = .next t ∧ t.sec = v ∧ t.ns = 0 ∧ t.timeSet = none ∧ t.mode = s.mode ∧ t.slots = s.slots ∧
        t.kek = s.kek ∧ t.calTable = s.calTable ∧ t.rowMap = s.rowMap ∧ t.dutyBins = s.dutyBins ∧ t.epoch = s.epoch)

/-- The blocks and windows of a running intake (R20, R91, R92, R93, R110, R111, R112). A clean block brings MANUAL its gain state; one whose
check fails makes the intake invalid, journals it and starts the tone test; one that finds the FIFO of 16 blocks full counts a drop. A window
shows the level at the converter and at the input and, in AUTO, lowers the net gain by 2 dB above the target's band, but leaves a change that
waits for the next block as it is; under a hold it only starts the count of low windows again. The level below the limit at the ceiling shows
NO_SIGNAL. A passed test ends TRANSIENT. Completes: `adcBlock`, `agcWindowEnd`, `noSignalTimeout`, `intakeSelftestDone`. -/
def Obligations.IntakeBlocks : Prop :=
  ∀ s : State, s.Settled → s.dead = false → ∀ k : Nat, (k = 1 ∨ k = 2) → s.on (F.INT_STATUS_RUNNING k) = true → s.on F.PLT_CTRL_RUN = false →
    (∀ (xs : List (BitVec 14)) (fault pops : Nat), xs.length = 256 →
      (s.agcMode k = 2 → s.on (F.INT_STATUS_AGC_HELD k) = false → s.get (F.INT_CFG_MAN_GAIN k) < 48 →
          s.get (F.INT_CFG_MAN_GAIN k) ≠ s.get (F.INT_GAIN_STATE k) → blockCheck (xs.map BitVec.toInt) fault = 0 →
          (xs.map BitVec.toInt).any fullCode = false → s.chanFill k < 16 → s.injStall = [] → pops = 0 → (s.intake k).missing = 0 →
        ∃ t, exec (.adcBlock k xs fault pops) s = .next t ∧ t.get (F.INT_GAIN_STATE k) = s.get (F.INT_CFG_MAN_GAIN k) ∧
          t.get (F.INT_GAIN_NET_GAIN k) = toBits 8 (netOf (s.get (F.INT_CFG_MAN_GAIN k))) ∧ t.get (F.INT_STATUS_GAIN_EV k) = 1 ∧
          t.chanFill k = s.chanFill k + 1 ∧ t.err = s.err ∧ t.custody = s.custody ∧
          s.changesErr [F.INT_GAIN_STATE k, F.INT_GAIN_NET_GAIN k, F.INT_STATUS_GAIN_EV k, F.INT_STATUS_CEILING k]
            { s with intakes := t.intakes, chans := t.chans, ended := t.ended, banks := t.banks } t) ∧
      (blockCheck (xs.map BitVec.toInt) fault ∈ [1, 2, 3, 4, 5] → s.isRetired .intake k = false → (s.unit .intake k).testing = false →
          pops = 0 → s.chanFill k < 16 → s.injStall = [] →
        ∃ t, exec (.adcBlock k xs fault pops) s = .next t ∧ t.get (F.INT_STATUS_FAULT_EV k) = 1 ∧
          t.get (F.INT_HEALTH_LAST_CHECK k) = blockCheck (xs.map BitVec.toInt) fault ∧
          t.get (F.INT_HEALTH_FAULT_COUNT k) = min 255 (s.get (F.INT_HEALTH_FAULT_COUNT k) + 1) ∧
          (t.unit .intake k).testing = true ∧ (t.unit .intake k).detector = 0x0200 + blockCheck (xs.map BitVec.toInt) fault ∧
          (t.intake k).missing = 12 ∧ t.errCount = s.errCount + 1 ∧ s.steady t) ∧
      (s.chanFill k = 16 → pops = 0 →
        ∃ t, exec (.adcBlock k xs fault pops) s = .next t ∧ t.get (F.INT_STATUS_CHAN_OVERRUN k) = 1 ∧ t.chanFill k = 16 ∧
          t.get (F.INT_CHAN_DROP_COUNT_COUNT k) = min 65535 (s.get (F.INT_CHAN_DROP_COUNT_COUNT k) + 1) ∧ s.steady t) ∧
      (∃ t, exec (.adcBlock k xs fault pops) s = .next t ∧ s.steady t)) ∧
    (∀ level : Int, s.on (F.INT_STATUS_AGC_HELD k) = false → s.agcMode k = 0 → -900 - 100 * (s.get (F.INT_CFG_AGC_TARGET k) : Int) + 300 < level →
        level ≤ 0 → (s.intake k).next = none →
      ∃ t, exec (.agcWindowEnd k level) s = .next t ∧ t.get (F.INT_LEVEL_ADC_LEVEL k) = toBits 16 level ∧
        t.get (F.INT_INPUT_LEVEL_INPUT k) = toBits 16 (clamp16 (level - 1000 - 100 * s.net k)) ∧
        (t.intake k).next = some (ladder (max (-30) (s.net k - 2))) ∧ (t.intake k).low = 0 ∧
        s.changes [F.INT_LEVEL_ADC_LEVEL k, F.INT_INPUT_LEVEL_INPUT k, F.INT_STATUS_NO_SIGNAL k] (s.setIntakes t.intakes) t) ∧
    (∀ level : Int, s.on (F.INT_STATUS_AGC_HELD k) = true →
      ∃ t, exec (.agcWindowEnd k level) s = .next t ∧ s.changes [] (s.putIntake k { s.intake k with low := 0 }) t) ∧
    (∀ level : Int, s.on (F.INT_STATUS_AGC_HELD k) = false → s.agcMode k = 0 → level ≤ 0 → (s.intake k).next.isSome = true →
      ∃ t, exec (.agcWindowEnd k level) s = .next t ∧ (t.intake k) = s.intake k ∧
        t.get (F.INT_LEVEL_ADC_LEVEL k) = toBits 16 (clamp16 level) ∧ s.steady t) ∧
    (s.net k = 24 → sext 16 (s.get (F.INT_LEVEL_ADC_LEVEL k)) < -6000 →
      ∃ t, exec (.noSignalTimeout k) s = .next t ∧ t.get (F.INT_STATUS_NO_SIGNAL k) = 1 ∧ t.get (F.INT_STATUS_NO_SIGNAL_EV k) = 1 ∧
        s.onlyFields [F.INT_STATUS_NO_SIGNAL k, F.INT_STATUS_NO_SIGNAL_EV k] t) ∧
    ((s.unit .intake k).testing = true → (s.unit .intake k).past = [] → s.inj = none →
      (∃ t, exec (.intakeSelftestDone k true) s = .next t ∧ (t.unit .intake k).testing = false ∧ (t.unit .intake k).past = [s.clock] ∧
        t.isRetired .intake k = s.isRetired .intake k ∧ t.errCount = s.errCount + 1 ∧ s.steady t) ∧
      ((s.unit .intake k).runs = 0 →
        ∃ t, exec (.intakeSelftestDone k false) s = .next t ∧ (t.unit .intake k).testing = true ∧ (t.unit .intake k).runs = 1 ∧ s.steady t) ∧
      ((s.unit .intake k).runs = 1 →
        ∃ t, exec (.intakeSelftestDone k false) s = .next t ∧ t.isRetired .intake k = true ∧ t.get (F.INT_STATUS_RETIRED k) = 1 ∧
          t.get F.PROT_STATUS_LASTING_EV = 1 ∧ s.steady t))

/-- The calibration in service (R97, R101, R102). The reference check shows its value and whether it is in the window; a visit takes the next
free bin and holds the AGC; its end moves the drift terms by at most 5 steps towards the measurement; a visit that cannot take place is counted,
and the sixth in a row makes the calibration stale. Completes: `vrefCheck`, `calVisitDue`, `calVisitDone`, `calVisitSkip`. -/
def Obligations.Calibration : Prop :=
  ∀ s : State, s.Settled → s.dead = false →
    (∀ v : Nat, 12375 ≤ v → v ≤ 12625 →
      ∃ t, exec (.vrefCheck v) s = .next t ∧ t.get F.CAL_VREF_VOLTAGE = v ∧ t.get F.CAL_STATUS_VREF_OK = 1 ∧
        s.changes [F.CAL_VREF_VOLTAGE, F.CAL_STATUS_VREF_OK] (s.setWindows t.windows) t) ∧
    (∀ v : Nat, (v < 12375 ∨ 12625 < v) →
      ∃ t, exec (.vrefCheck v) s = .next t ∧ t.get F.CAL_VREF_VOLTAGE = min 65535 v ∧ t.get F.CAL_STATUS_VREF_OK = 0 ∧
        t.get F.CAL_STATUS_VREF_FAULT_EV = 1 ∧ t.errCount = s.errCount + 1 ∧
        s.changesErr [F.CAL_VREF_VOLTAGE, F.CAL_STATUS_VREF_OK, F.CAL_STATUS_VREF_FAULT_EV] (s.setWindows t.windows) t) ∧
    (∀ k : Nat, (k = 1 ∨ k = 2) → s.serving = true →
      (∀ (quiet : List Nat) (b : Nat), s.on (F.INT_STATUS_RUNNING k) = true → s.pilotWindow = false → (s.intake k).gainAt = 0 → s.visiting = [] →
          (∀ l < 104, s.lane l ≠ .testing) →
          (s.setQuiet (Tbl.set (fun _ => []) s.quiet k quiet)).nextFree k (s.get (calLastBin k)) = some b →
        ∃ t, exec (.calVisitDue k quiet) s = .next t ∧ t.get (calLastBin k) = b ∧ (t.intake k).bin = b ∧ t.visiting = [k] ∧
          t.get (F.INT_STATUS_AGC_HELD k) = 1 ∧
          s.changes [calLastBin k, F.INT_STATUS_AGC_HELD k] (((s.setIntakes t.intakes).setVisiting [k]).setQuiet t.quiet) t) ∧
      (∀ gain phase : Int, s.visiting = [k] →
        ∃ t, exec (.calVisitDone k gain phase) s = .next t ∧ t.visiting = [] ∧
          t.get (F.INT_DRIFT_GAIN k) = toBits 16 (drift (sext 16 (s.get (F.INT_DRIFT_GAIN k))) gain) ∧
          t.get (F.INT_DRIFT_PHASE k) = toBits 16 (drift (sext 16 (s.get (F.INT_DRIFT_PHASE k))) phase) ∧
          t.get (calSkips k) = 0 ∧ t.get (calStale k) = 0 ∧ t.get (F.INT_STATUS_AGC_HELD k) = b2n s.pilotWindow ∧
          s.changes [F.INT_DRIFT_GAIN k, F.INT_DRIFT_PHASE k, calDriftLarge k, calSkips k, calStale k, F.INT_STATUS_AGC_HELD k]
            ((s.setVisiting []).setWindows t.windows) t) ∧
      (s.domOn (1 + k) = true → s.visiting.contains k = false →
        ∃ t, exec (.calVisitSkip k) s = .next t ∧ t.get (calSkips k) = min 255 (s.get (calSkips k) + 1) ∧
          (5 ≤ s.get (calSkips k) → t.get (calStale k) = 1) ∧ (s.get (calSkips k) < 5 → t.get (calStale k) = s.get (calStale k)) ∧
          s.changes [calSkips k, calStale k] (s.setWindows t.windows) t))

/-- The antenna feeds (R104, R105, R106, R107, R108). ENABLE starts a feed that is not cooling off, softly, and takes its latch away; the soft
start ends; a short or an I²t trip cuts it for its cool-off and the third trip latches it off; after the cool-off it starts again where it may;
current that goes on is journaled; a trip older than 10 minutes no longer counts. Completes: `feedEnableWrite`, `feedSoftStartEnd`, `feedShort`,
`feedI2tTrip`, `feedCoolOffEnd`, `feedStuck`, `feedTripAgeOut`. -/
def Obligations.Feeds : Prop :=
  ∀ s : State, s.Settled → s.dead = false → ∀ k : Nat, (k = 1 ∨ k = 2) →
    (∀ w : Word, s.serving = true → s.pinLow = false → s.stage = none → bits w.toNat 15 1 = 1 → 10 ≤ bits w.toNat 0 8 → bits w.toNat 0 8 ≤ 250 →
        s.get (F.FEED_CFG_SENSE_MOHM k) = bits w.toNat 0 8 → s.get (F.FEED_CFG_ENABLE k) = 0 → s.on (F.FEED_STATUS_COOLING k) = false →
      ∃ t, exec (.feedEnableWrite k w) s = .next t ∧ t.get (F.FEED_CFG_ENABLE k) = 1 ∧ t.get (F.FEED_CFG_AUTO_RETRY k) = bits w.toNat 14 1 ∧
        t.get (F.FEED_STATUS_ON k) = 1 ∧ t.get (F.FEED_STATUS_SOFT k) = 1 ∧
        t.get (F.FEED_STATUS_LATCHED k) = 0 ∧
        s.changes [F.FEED_CFG_ENABLE k, F.FEED_CFG_AUTO_RETRY k, F.FEED_STATUS_ON k, F.FEED_STATUS_SOFT k,
          F.FEED_STATUS_LATCHED k, F.JNL_NEWEST_NUMBER, F.JNL_STATUS_UNREAD_LOST]
          (s.journal (0x260 + 0x10 * (k - 1)) (s.wordAt (0x260 + 0x10 * (k - 1))) w.toNat srcTwoWire resAccepted 0) t) ∧
    (∃ t, exec (.feedSoftStartEnd k) s = .next t ∧ t.get (F.FEED_STATUS_SOFT k) = 0 ∧ s.onlyFields [F.FEED_STATUS_SOFT k] t) ∧
    (s.on (F.FEED_STATUS_ON k) = true → s.on (F.FEED_CFG_AUTO_RETRY k) = true →
      (∀ ma : Nat, ∃ t, exec (.feedShort k ma) s = .next t ∧ t.get (F.FEED_STATUS_SHORT_EV k) = 1 ∧ t.get (F.FEED_STATUS_ON k) = 0 ∧
        t.get (F.FEED_STATUS_SOFT k) = 0 ∧ t.get (F.FEED_STATUS_COOLING k) = 1 ∧
        t.get (F.FEED_CURRENT_CURRENT k) = min 65535 ma ∧ t.trips k = s.trips k + 1 ∧
        t.get (F.FEED_STATUS_TRIPS k) = min 3 (s.trips k + 1) ∧
        t.get (F.FEED_STATUS_LATCHED k) = (if 2 ≤ s.trips k then 1 else s.get (F.FEED_STATUS_LATCHED k)) ∧
        t.errCount = s.errCount + 1 ∧
        s.changesErr [F.FEED_STATUS_SHORT_EV k, F.FEED_STATUS_ON k, F.FEED_STATUS_SOFT k, F.FEED_STATUS_COOLING k, F.FEED_STATUS_TRIPS k,
          F.FEED_STATUS_LATCHED k, F.FEED_CURRENT_CURRENT k] (s.setFeedTrips t.feedTrips) t) ∧
      (∀ ma us : Nat, 100000000 * s.get (F.FEED_I2T_BUDGET k) <
            ((s.heat k : Int) + ((ma * ma : Nat) - (s.get (F.FEED_TRIP_I_CONT k) * s.get (F.FEED_TRIP_I_CONT k) : Nat) : Int) * us).toNat →
        ∃ t, exec (.feedI2tTrip k ma us) s = .next t ∧ t.heat k = 0 ∧ t.get (F.FEED_STATUS_I2T_EV k) = 1 ∧ t.get (F.FEED_STATUS_ON k) = 0 ∧
        t.get (F.FEED_STATUS_SOFT k) = 0 ∧ t.get (F.FEED_STATUS_COOLING k) = 1 ∧
        t.get (F.FEED_CURRENT_CURRENT k) = min 65535 ma ∧ t.trips k = s.trips k + 1 ∧
        t.get (F.FEED_STATUS_TRIPS k) = min 3 (s.trips k + 1) ∧
        t.get (F.FEED_STATUS_LATCHED k) = (if 2 ≤ s.trips k then 1 else s.get (F.FEED_STATUS_LATCHED k)) ∧
        t.errCount = s.errCount + 1 ∧
        s.changesErr [F.FEED_STATUS_I2T_EV k, F.FEED_STATUS_ON k, F.FEED_STATUS_SOFT k, F.FEED_STATUS_COOLING k, F.FEED_STATUS_TRIPS k,
          F.FEED_STATUS_LATCHED k, F.FEED_CURRENT_CURRENT k] ((s.setFeedTrips t.feedTrips).setFeedHeat t.feedHeat) t)) ∧
    (∀ ma us : Nat, ((s.heat k : Int) + ((ma * ma : Nat) - (s.get (F.FEED_TRIP_I_CONT k) * s.get (F.FEED_TRIP_I_CONT k) : Nat) : Int) * us).toNat ≤
          100000000 * s.get (F.FEED_I2T_BUDGET k) →
      ∃ t, exec (.feedI2tTrip k ma us) s = .next t ∧ t.get (F.FEED_CURRENT_CURRENT k) = min 65535 ma ∧
        (t.heat k : Int) = max 0 ((s.heat k : Int) +
          ((ma * ma : Nat) - (s.get (F.FEED_TRIP_I_CONT k) * s.get (F.FEED_TRIP_I_CONT k) : Nat) : Int) * us) ∧
        s.changes [F.FEED_CURRENT_CURRENT k] (s.setFeedHeat t.feedHeat) t) ∧
    (s.on (F.FEED_STATUS_COOLING k) = true →
      ∃ t, exec (.feedCoolOffEnd k) s = .next t ∧ t.get (F.FEED_STATUS_COOLING k) = 0 ∧
        (s.serving = true → s.on (F.FEED_CFG_ENABLE k) = true → s.on (F.FEED_CFG_AUTO_RETRY k) = true → s.on (F.FEED_STATUS_LATCHED k) = false →
          t.get (F.FEED_STATUS_ON k) = 1 ∧ t.get (F.FEED_STATUS_SOFT k) = 1) ∧
        (s.on (F.FEED_STATUS_LATCHED k) = true → t.get (F.FEED_STATUS_ON k) = s.get (F.FEED_STATUS_ON k)) ∧
        s.onlyFields [F.FEED_STATUS_COOLING k, F.FEED_STATUS_ON k, F.FEED_STATUS_SOFT k] t) ∧
    (∀ ma : Nat, s.on (F.FEED_STATUS_ON k) = false →
      (max 100 (s.get (F.FEED_TRIP_I_CONT k)) < 10 * ma →
        ∃ t, exec (.feedStuck k ma) s = .next t ∧ t.get (F.FEED_STATUS_STUCK_EV k) = 1 ∧ t.errCount = s.errCount + 1 ∧
          t.get (F.FEED_CURRENT_CURRENT k) = min 65535 ma ∧ s.changesErr [F.FEED_STATUS_STUCK_EV k, F.FEED_CURRENT_CURRENT k] s t) ∧
      (10 * ma ≤ max 100 (s.get (F.FEED_TRIP_I_CONT k)) →
        ∃ t, exec (.feedStuck k ma) s = .next t ∧ t.get (F.FEED_CURRENT_CURRENT k) = min 65535 ma ∧ s.onlyFields [F.FEED_CURRENT_CURRENT k] t)) ∧
    (∃ t, exec (.feedTripAgeOut k) s = .next t ∧ t.trips k = s.trips k - 1 ∧ t.get (F.FEED_STATUS_TRIPS k) = min 3 (s.trips k - 1) ∧
      s.changes [F.FEED_STATUS_TRIPS k] (s.setFeedTrips t.feedTrips) t)

/-- The work of a lane (R124, R129, R130, R134, R135, R136, R137). A lane told to run starts at a block boundary with settling samples; one told
to stop reads STOPPED with its armed changes in force; the highest word of `GLB_SYNCRESET` names berths whose running lanes restart at the
synchronising reset; the settled lane's samples lose SETTLING; a detector window shows its results, or that too much of it was ignored.
Completes: `laneStart`, `laneStop`, `glbSyncresetWrite`, `laneSyncReset`, `laneSettled`, `detectorWindowEnd`. -/
def Obligations.LaneWork : Prop :=
  ∀ s : State, s.Settled → s.dead = false → ∀ n : Nat, n < 96 →
    (s.on (F.LN_CTRL_RUN n) = true → s.on (F.LN_CTRL_STOPPED n) = true → s.domOn 4 = true → s.serving = true → s.ratioOk n = true → s.shadow = [] →
      ∃ t, exec (.laneStart n) s = .next t ∧ t.get (F.LN_CTRL_STOPPED n) = 0 ∧ t.get (F.LN_STATUS_SETTLING n) = 1 ∧
        t.get (F.LN_SETTLE_N_SETTLE n) = nSettle (s.get (F.LN_CTRL_GROUP_SIZE n)) (s.taps (s.bankOf n)) (s.get (F.LN_FIR_DECIM n))
          (s.get (F.LN_RS_L_L n)) (s.get (F.LN_RS_M_M n)) (s.get (F.LN_DELAY n) / 64) % 65536 ∧
        (∀ b < 2, s.lane (s.get (F.LN_PHYS_LANE n)) = .carries n → s.get (F.LN_PHYS_LANE n) < 104 →
          t.chain (s.get (F.LN_PHYS_LANE n)) b = Chain.start (s.chain (s.get (F.LN_PHYS_LANE n)) b).index) ∧
        s.changes [F.LN_CTRL_STOPPED n, F.LN_STATUS_SETTLING n, F.LN_STATUS_ASYM n, F.LN_STATUS_VALID1 n, F.LN_STATUS_VALID2 n,
          F.LN_SETTLE_N_SETTLE n, F.LN_GD_INTAKE_D_INTAKE n, F.LN_GD_RESIDUAL_RESIDUAL n, F.LN_GD_APPLIED_D_TOTAL n, F.LN_COMMIT_PENDING n]
          { s with chains := t.chains, dets := t.dets, detFull := t.detFull, gChain := t.gChain } t) ∧
    (s.shadow = [⟨laneCommit n, F.LN_CTRL_RUN n, 0, true⟩] →
      ∃ t, exec (.laneStop n) s = .next t ∧ t.get (F.LN_CTRL_RUN n) = 0 ∧ t.get (F.LN_CTRL_STOPPED n) = 1 ∧ t.get (F.LN_STATUS_SETTLING n) = 0 ∧
        t.get (F.LN_COMMIT_PENDING n) = 0 ∧ (s.bstate n = bsRunning → t.bstate n = bsWaitLane) ∧
        s.changes [F.LN_CTRL_RUN n, F.LN_CTRL_STOPPED n, F.LN_STATUS_SETTLING n, F.LN_STATUS_VALID1 n, F.LN_STATUS_VALID2 n,
          F.LN_COMMIT_PENDING n, F.BTH_STATUS_STATE n] { s with shadow := [], windows := t.windows } t) ∧
    (∀ a b c d e w : Word, s.serving = true → s.pinLow = false →
        s.stage = some ⟨0x20, [(4, e.toNat), (3, d.toNat), (2, c.toNat), (1, b.toNat), (0, a.toNat)]⟩ →
      ∃ t, exec (.glbSyncresetWrite w) s = .next t ∧ t.stage = none ∧
        t.syncMask = s.syncMask ||| (a.toNat + b.toNat * 2 ^ 16 + c.toNat * 2 ^ 32 + d.toNat * 2 ^ 48 + e.toNat * 2 ^ 64 + w.toNat * 2 ^ 80) ∧
        State.fieldsBut [F.JNL_NEWEST_NUMBER, F.JNL_STATUS_UNREAD_LOST] s t ∧ s.steady t) ∧
    (∃ t, exec .laneSyncReset s = .next t ∧ t.syncMask = 0 ∧
      (bit s.syncMask n = true → s.laneRuns n = true → t.get (F.LN_STATUS_SETTLING n) = 1) ∧
      ((bit s.syncMask n && s.laneRuns n) = false → t.get (F.LN_STATUS_SETTLING n) = s.get (F.LN_STATUS_SETTLING n)) ∧ s.steady t) ∧
    (s.laneRuns n = true → s.fed n = true → s.pilotWindow = false →
      ∃ t, exec (.laneSettled n) s = .next t ∧ t.get (F.LN_STATUS_SETTLING n) = 0 ∧ s.steady t) ∧
    (s.laneRuns n = true → (s.detDone n).count ≠ 0 →
      (2 * (s.detDone n).ignored ≤ (s.detDone n).count →
        ∃ t, exec (.detectorWindowEnd n) s = .next t ∧
          t.get (F.LN_PEAK_PEAK n) = toBits 16 (clamp16 (centibel (s.detDone n).peak (2 ^ 30))) ∧
          t.get (F.LN_RMS_RMS n) = toBits 16 (clamp16 (centibel (s.detDone n).sum
            (2 ^ 30 * ((s.detDone n).count - (s.detDone n).ignored)))) ∧
          t.get (F.LN_ENV_MAX_MAX n) = envShown (s.detDone n).envMax ∧
          t.get (F.LN_ENV_MIN_MIN n) = envShown (s.detDone n).envMin ∧ t.get (F.LN_STATUS_DET_STALE n) = 0 ∧ (t.detDone n).count = 0 ∧
          s.changes [F.LN_PEAK_PEAK n, F.LN_RMS_RMS n, F.LN_ENV_MAX_MAX n, F.LN_ENV_MIN_MIN n, F.LN_STATUS_DET_STALE n]
            (s.setDetFull t.detFull) t) ∧
      ((s.detDone n).count < 2 * (s.detDone n).ignored →
        ∃ t, exec (.detectorWindowEnd n) s = .next t ∧ t.get (F.LN_STATUS_DET_STALE n) = 1 ∧
          s.changes [F.LN_STATUS_DET_STALE n] (s.setDetFull t.detFull) t))

/-- Faults, patrols and takeovers of the lanes (R138, R139, R140, R141, R142, R143). A residue fault of a lane that carries a berth is journaled
and a spare takes the berth over; without a spare NO_SPARE is journaled and the lane goes on; a spare's own fault starts its test. A spare
patrols the next running lane; equal results free it again, a mismatch counts. The settled taker carries the berth and the old lane tests itself;
a passed test makes a spare, a second failure retires the lane. Completes: `laneResidueFault`, `patrolStart`, `patrolCompareEnd`,
`takeoverSwitch`, `laneSelftestDone`. -/
def Obligations.LaneFaults : Prop :=
  ∀ s : State, s.Settled → s.dead = false → ∀ l : Nat, l < 104 →
    (∀ (bank second : Bool) (n : Nat), n < 96 → s.lane l = .carries n → s.get (F.LN_PHYS_TAKEOVER n) = 0 →
      (∀ x : Nat, s.takeSpare = some x →
        ∃ t, exec (.laneResidueFault l bank second) s = .next t ∧ t.get (F.LN_STATUS_FAULT_EV n) = 1 ∧ t.get (F.LN_PHYS_TAKEOVER n) = 1 ∧
          t.lane x = .takes n ∧ (bank = false → (t.chain l (b2n second)).erase = true) ∧ t.errCount = s.errCount + 1 ∧ s.steady t) ∧
      (s.takeSpare = none →
        ∃ t, exec (.laneResidueFault l bank second) s = .next t ∧ t.get (F.LN_STATUS_FAULT_EV n) = 1 ∧ t.lane l = .carries n ∧
          (bank = false → (t.chain l (b2n second)).erase = true) ∧
          t.errCount = s.errCount + 2 ∧ s.changesErr [F.LN_STATUS_FAULT_EV n] (s.setChains t.chains) t)) ∧
    (∀ bank second : Bool, s.lane l = .spare →
      ∃ t, exec (.laneResidueFault l bank second) s = .next t ∧ t.lane l = .testing ∧ t.errCount = s.errCount + 1 ∧ s.steady t) ∧
    (∀ n : Nat, s.lane l = .spare → s.domOn 4 = true → s.patrolNext s.patrolAt = some n →
      ∃ t, exec (.patrolStart l) s = .next t ∧ t.lane l = .patrols n ∧ t.patrolAt = (n + 1) % 96 ∧
        (∀ b < 2, t.chain l b = (s.chain (s.get (F.LN_PHYS_LANE n)) b).follow) ∧
        (s.get (F.LN_PHYS_LANE n) < 104 → s.get (F.LN_PHYS_LANE n) ≠ l → ∀ b < 2, ∀ k < 512,
          t.tap (2 * l + b) k = s.tap (2 * s.get (F.LN_PHYS_LANE n) + b) k) ∧ s.steady t) ∧
    (∀ n : Nat, n < 96 → s.lane l = .patrols n →
      (∀ spareOk : Bool, ∃ t, exec (.patrolCompareEnd l true spareOk) s = .next t ∧ t.lane l = .spare ∧
        t.get F.PROT_PATROLS_COUNT = min 65535 (s.get F.PROT_PATROLS_COUNT + 1) ∧
        s.changes [F.PROT_PATROLS_COUNT, F.PROT_LANES_SPARES, F.PROT_LANES_RETIRED] (s.setLanes t.lanes) t) ∧
      (s.inj = none → s.get (F.LN_PHYS_TAKEOVER n) = 0 →
        ∃ t, exec (.patrolCompareEnd l false true) s = .next t ∧ t.lane l = .takes n ∧ t.get (F.LN_STATUS_FAULT_EV n) = 1 ∧
          t.get (F.LN_PHYS_TAKEOVER n) = 1 ∧ t.get F.PROT_TAKEOVERS_MISMATCHES = min 255 (s.get F.PROT_TAKEOVERS_MISMATCHES + 1) ∧ s.steady t) ∧
      (∃ t, exec (.patrolCompareEnd l false false) s = .next t ∧ t.lane l = .testing ∧ t.errCount = s.errCount + 1 ∧ s.steady t)) ∧
    (∀ n : Nat, n < 96 → (List.range 104).find? (fun x => s.lane x == .takes n && s.takerSettled n x) = some l → s.get (F.LN_PHYS_LANE n) ≠ l →
        s.get (F.LN_PHYS_LANE n) < 104 →
      ∃ t, exec (.takeoverSwitch n) s = .next t ∧ t.lane l = .carries n ∧ t.get (F.LN_PHYS_LANE n) = l ∧ t.get (F.LN_PHYS_TAKEOVER n) = 0 ∧
        t.get (F.LN_STATUS_TAKEOVER_EV n) = 1 ∧ t.lane (s.get (F.LN_PHYS_LANE n)) = .testing ∧ s.steady t) ∧
    ((s.unit .lane l).testing = true → (s.unit .lane l).past = [] → s.inj = none → s.words = [] →
      (∃ t, exec (.laneSelftestDone l true) s = .next t ∧ t.lane l = .spare ∧ (t.unit .lane l).testing = false ∧
        t.errCount = s.errCount + 1 ∧ s.steady t) ∧
      ((s.unit .lane l).runs = 1 →
        ∃ t, exec (.laneSelftestDone l false) s = .next t ∧ t.lane l = .retired ∧ t.isRetired .lane l = true ∧
          t.get F.PROT_STATUS_LASTING_EV = 1 ∧ t.errCount = s.errCount + 1 ∧ s.steady t))

/-- Starts and stops of a berth (R147, R148, R155, R163, R264, R436). RUN of a stopped berth that is admissible reserves its loads and starts it;
another STANDARD brings the reset values of its service words; a berth told to stop, its frame completed, reads STOPPED and its loads are free; a
parked berth drops its oldest frame of input. Completes: `berthRunWrite`, `standardChange`, `berthStopComplete`, `berthInputOverwrite`. -/
def Obligations.BerthStarts : Prop :=
  ∀ s : State, s.Settled → s.dead = false → ∀ n : Nat, n < 96 →
    (∀ w : Word, s.serving = true → s.pinLow = false → s.stage = none → s.shadow = [] → s.on (fGroup (berthCommit n)) = false →
        bits w.toNat 15 1 = 1 → bits w.toNat 8 4 = s.std n → s.get (F.BTH_CTRL_RUN n) = 0 → s.get (F.BTH_CTRL_STOPPED n) = 1 →
        s.admissible n = true → s.slotClash s n = false → s.dgReserved n = false → s.std n ≤ 8 →
      ∃ t, exec (.berthRunWrite n w) s = .next t ∧ t.get (F.BTH_CTRL_RUN n) = 1 ∧ t.get (F.BTH_CTRL_STOPPED n) = 0 ∧
        t.bstate n = (if s.get (F.LN_CTRL_STOPPED n) = 1 then bsWaitLane else bsRunning) ∧
        (t.berth n).held = some (if s.following n then (s.loadsOf n).twice else s.loadsOf n) ∧
        t.get (F.BTH_OCCUPANCY_OMEGA n) = ceilDiv (s.loadsOf n).omega6 6 % 1024 ∧ s.steady t) ∧
    (∀ w : Word, s.serving = true → s.pinLow = false → s.stage = none → s.shadow = [] → s.on (fGroup (berthCommit n)) = false →
        bits w.toNat 15 1 = 0 → bits w.toNat 8 4 ≠ s.std n → bits w.toNat 8 4 ≤ 8 → s.get (F.BTH_CTRL_RUN n) = 0 →
        s.get (F.BTH_CTRL_STOPPED n) = 1 → s.slotsOf n = [] → s.dgReserved n = false → (s.berth n).survey = false →
      ∃ t, exec (.standardChange n w) s = .next t ∧ t.std n = bits w.toNat 8 4 ∧ t.get (F.BTH_CTRL_PRIORITY n) = bits w.toNat 12 2 ∧
        (∀ o < 8, ∀ x, regAt (bits w.toNat 8 4) (0x408 + 0x40 * n + o) = some x →
          ∀ f ∈ x.1.fields, t.get ⟨x.2, f.lo, f.width⟩ = f.reset % 2 ^ f.width) ∧ s.steady t) ∧
    (s.get (F.BTH_CTRL_STOPPED n) = 0 → s.shadow = [⟨berthCommit n, F.BTH_CTRL_RUN n, 0, true⟩] → (s.berth n).shedding = false →
        (s.berth n).survey = false →
      ∃ t, exec (.berthStopComplete n) s = .next t ∧ t.get (F.BTH_CTRL_RUN n) = 0 ∧ t.get (F.BTH_CTRL_STOPPED n) = 1 ∧
        t.bstate n = bsStopped ∧ (t.berth n).held = none ∧ t.get (F.BTH_TICKET_IN_FLIGHT n) = 0 ∧ s.steady t) ∧
    (∀ len : Nat, (s.berth n).parked = true →
      ∃ t, exec (.berthInputOverwrite n len) s = .next t ∧
        t.get (F.HLD_DROPS_COUNT.ofHold n) = min 65535 (s.get (F.HLD_DROPS_COUNT.ofHold n) + 1) ∧
        t.get (F.HLD_STATUS_DROP_EV.ofHold n) = 1 ∧
        (t.berth n).markOld = (s.berth n).mark ∧ (t.berth n).mark.progress = (s.berth n).mark.progress + len ∧ (t.berth n).mark.seq = (s.berth n).mark.seq ∧
        (t.berth n).mark.ctx = t.ctx n ∧
        (∀ b < 2, t.input n b = (s.input n b).dropWhile (fun y => Nat.blt y.index ((s.berth n).mark.progress + len))) ∧
        (t.dvbOf n).gaps = s.owedGaps n ∧ s.steady t ∧
        (s.std n ≠ 1 → s.std n ≠ 2 →
          s.changes [F.HLD_DROPS_COUNT.ofHold n, F.HLD_STATUS_DROP_EV.ofHold n] { s with berths := t.berths, inputs := t.inputs, dvb := t.dvb } t))

/-- Tickets and consignments (R150, R151, R160, R162, R262, R263). A ready ticket joins the tail of its class's queue where every crane is busy;
its beat's end with nothing left to do commits the mark and frees the crane, on a narrow crane with the 1 ms block of an AM or FM berth formed
(R173); with outputs that wait it is parked; a parked ticket rejoins at the tail once there is credit, and ends where its work was done; a
consignment with the expected number and credit is accepted, one with an accepted number is dropped. Completes: `ticketReady`, `beatEnd`,
`ticketUnpark`, `consignmentArrival`. -/
def Obligations.Tickets : Prop :=
  ∀ s : State, s.Settled → s.dead = false → ∀ n : Nat, n < 96 →
    (∀ (cls : Nat) (kinds : List Nat), cls < 5 → s.working n = true → s.domOn 6 = true → s.on (F.BTH_TICKET_IN_FLIGHT n) = false →
        s.idleCrane cls = none → (∀ m ∈ s.queue cls, s.inputAt m ≤ s.clock) → s.input n 0 = [] → s.input n 1 = [] → n ∉ s.queue cls →
        s.reached n cls = true →
      ∃ t, exec (.ticketReady n cls kinds) s = .next t ∧ t.queue cls = s.queue cls ++ [n] ∧ t.get (F.BTH_TICKET_IN_FLIGHT n) = 1 ∧
        t.get (F.BTH_TICKET_CLASS n) = cls ∧ t.get (F.BTH_TICKET_URGENT n) = b2n (s.ticketUrgent n cls kinds) ∧ t.get (F.BTH_TICKET_CRANE n) = 0x3F ∧
        (t.berth n).readyAt = s.clock ∧
        s.changes [F.BTH_TICKET_IN_FLIGHT n, F.BTH_TICKET_CLASS n, F.BTH_TICKET_URGENT n, F.BTH_TICKET_CRANE n]
          ({ s with berths := t.berths, ready := t.ready }) t) ∧
    (∀ (c progress : Nat), c < 33 → s.on (F.CRN_STATUS_BUSY c) = true → s.get (F.CRN_STATUS_BERTH c) = n → (s.berth n).promoted = false →
        s.queue (classOf c) = [] → s.handover = [] → s.waiting n = [] → s.shadow = [] →
        (classOf c = 4 → s.fadeOf n = none ∧ s.blockInput n = none) →
      ∃ t, exec (.beatEnd c true false progress) s = .next t ∧ t.get (F.CRN_STATUS_BUSY c) = 0 ∧ t.get (F.CRN_STATUS_BERTH c) = 0x7F ∧
        t.get (F.CRN_BEATS_COUNT c) = (s.get (F.CRN_BEATS_COUNT c) + 1) % 2 ^ 32 ∧ t.get (F.BTH_TICKET_IN_FLIGHT n) = 0 ∧
        t.get (F.BTH_TICKET_CRANE n) = 0x3F ∧ (t.berth n).mark.seq = (s.prod n).next ∧ (t.berth n).mark.ctx = s.ctx n ∧
        (t.berth n).mark.progress = (if s.std n = 1 ∨ s.std n = 2 then ((Tbl.entry s.aud n).map (·.next)).getD (s.berth n).mark.progress
          else progress) ∧ (t.berth n).mark.gen = (s.berth n).mark.gen + 1 ∧
        (t.berth n).mark.beats = 0 ∧ (t.berth n).markOld = (s.berth n).mark ∧ t.dvbOf n = (s.pass n (s.get (F.BTH_TICKET_CLASS n))).dvbOf n ∧
        s.changes [F.CRN_STATUS_BUSY c, F.CRN_STATUS_BERTH c, F.CRN_STATUS_URGENT c, F.CRN_BEATS_COUNT c, F.BTH_TICKET_IN_FLIGHT n,
          F.BTH_TICKET_URGENT n, F.BTH_TICKET_CLASS n, F.BTH_TICKET_CRANE n] ({ s with berths := t.berths, inputs := t.inputs, dvb := t.dvb }) t) ∧
    (∀ (c progress : Nat), c < 33 → classOf c = 4 → s.on (F.CRN_STATUS_BUSY c) = true → s.get (F.CRN_STATUS_BERTH c) = n → s.fadeOf n = none →
        s.queue 4 = [] → s.handover = [] → s.waiting n = [] → s.shadow = [] → s.std n = 1 ∨ s.std n = 2 →
      ∃ t, exec (.beatEnd c true false progress) s = .next t ∧ t.audio n = (s.audioRaw n).audio n ∧ t.audOf n = (s.audioRaw n).audOf n ∧
        (t.berth n).mark.progress = ((Tbl.entry (s.audioRaw n).aud n).map (·.next)).getD (s.berth n).mark.progress ∧
        t.get (F.BTH_TICKET_IN_FLIGHT n) = 0 ∧ t.get (F.CRN_STATUS_BUSY c) = 0 ∧ s.steady t) ∧
    (∀ (c progress : Nat), c < 33 → s.on (F.CRN_STATUS_BUSY c) = true → s.get (F.CRN_STATUS_BERTH c) = n → (s.berth n).promoted = false →
        s.queue (classOf c) = [] → s.handover = [] → s.waiting n ≠ [] → s.shadow = [] → s.get (F.BTH_TICKET_IN_FLIGHT n) = 1 →
      ∃ t, exec (.beatEnd c false false progress) s = .next t ∧ (t.berth n).parked = true ∧ t.get (F.BTH_TICKET_IN_FLIGHT n) = 1 ∧
        t.get (F.BTH_TICKET_CRANE n) = 0x3F ∧ t.get (F.CRN_STATUS_BUSY c) = 0 ∧
        t.get (F.HLD_PARKS_COUNT.ofHold n) = min 65535 (s.get (F.HLD_PARKS_COUNT.ofHold n) + 1) ∧
        t.get (F.HLD_STATUS_PARK_EV.ofHold n) = 1 ∧ (t.berth n).mark.ctx = s.ctx n ∧ t.outbox = s.outbox ∧ s.steady t) ∧
    ((s.berth n).parked = true → s.waiting n = [] → (s.std n = 8 → s.input n 0 = [] ∧ s.input n 1 = []) → (s.berth n).finished = true →
      ∃ t, exec (.ticketUnpark n) s = .next t ∧ (t.berth n).parked = false ∧ t.get (F.BTH_TICKET_IN_FLIGHT n) = 0 ∧ t.ready = s.ready ∧ s.steady t) ∧
    ((s.berth n).parked = true → s.waiting n = [] → (s.std n = 8 → s.input n 0 = [] ∧ s.input n 1 = []) → (s.berth n).finished = false →
        s.charged n < s.get (F.HLD_CAP_CAP.ofHold n) → s.idleCrane (s.get (F.BTH_TICKET_CLASS n)) = none →
      ∃ t, exec (.ticketUnpark n) s = .next t ∧ (t.berth n).parked = false ∧
        t.queue (s.get (F.BTH_TICKET_CLASS n)) = s.queue (s.get (F.BTH_TICKET_CLASS n)) ++ [n] ∧
        s.changes [F.BTH_TICKET_CRANE n] ({ s with berths := t.berths, ready := t.ready }) t) ∧
    (∀ (c content : Nat) (seq : BitVec 32) (ts : BitVec 64) (payload : List Byte), c < 33 → s.waiting n = [] →
      (s.isOld n seq.toNat = false → seq.toNat = s.expected n → s.credit n payload = true → s.captureOf n content = none →
        ∃ t, exec (.consignmentArrival n c seq content false false ts payload) s = .next t ∧
          t.custody = s.custody ++ [⟨n, seq.toNat, content, s.flags false false false false, s.epoch, ts.toNat, payload, n, s.route n content,
            false, false, none, Copy.of payload⟩] ∧
          (t.prod n).next = (seq.toNat + 1) % 2 ^ 32 ∧ (t.prod n).highest = some seq.toNat ∧ t.err = s.err ∧ s.changesErr [] s t) ∧
      (s.isOld n seq.toNat = true → (s.prod n).crcs.find? (·.1 == seq.toNat) = none →
        ∃ t, exec (.consignmentArrival n c seq content false false ts payload) s = .next t ∧
          t.get (F.BTH_REPLAY_DEDUPS n) = min 255 (s.get (F.BTH_REPLAY_DEDUPS n) + 1) ∧ t.get (F.BTH_EVENTS_DEDUP_EV n) = 1 ∧
          s.onlyFields [F.BTH_REPLAY_DEDUPS n, F.BTH_EVENTS_DEDUP_EV n] t))

/-- The cranes (R161, R163, R396, R398). A fault and a beat that overruns take the crane to its test; the spare works in its place and restarts
the ticket from its mark; the test command does the same with an idle crane; a passed test makes the crane the spare again where its class has
its working cranes; a second failure retires it. Completes: `craneFault`, `beatWatchdogExpire`, `craneSelftestCmd`, `craneSelftestDone`. -/
def Obligations.Cranes : Prop :=
  ∀ s : State, s.dead = false → ∀ c p : Nat, c < 33 → s.domOn 5 = true → s.get (F.CRN_STATUS_ROLE c) = roleWorking →
    s.spareCrane (classOf c) = some p →
    (∀ n : Nat, n < 96 → s.on (F.CRN_STATUS_BUSY c) = true → s.get (F.CRN_STATUS_BERTH c) = n →
      (∀ det : Nat, (det = 0x0401 ∨ det = 0x0402) →
        ∃ t, exec (.craneFault c det) s = .next t ∧ t.get (F.CRN_EVENTS_FAULT_EV c) = 1 ∧ t.get (F.CRN_LAST_FAULT_DETECTOR c) = det ∧
          t.get (F.CRN_FAULTS_FAULTS c) = min 255 (s.get (F.CRN_FAULTS_FAULTS c) + 1) ∧ t.get (F.CRN_STATUS_ROLE c) = roleTest ∧
          t.get (F.CRN_STATUS_ROLE p) = roleWorking ∧ t.get (F.CRN_EVENTS_TAKEOVER_EV p) = 1 ∧ t.get (F.CRN_STATUS_BUSY c) = 0 ∧
          t.get (F.CRN_STATUS_BUSY p) = 1 ∧ t.get (F.CRN_STATUS_BERTH p) = n ∧ (t.prod n).next = (s.berth n).mark.seq ∧
          t.errCount = s.errCount + 1 ∧ s.steady t) ∧
      (∃ t, exec (.beatWatchdogExpire c) s = .next t ∧ t.get (F.CRN_EVENTS_FAULT_EV c) = 1 ∧ t.get (F.CRN_LAST_FAULT_DETECTOR c) = 0x0403 ∧
        t.get (F.CRN_STATUS_ROLE c) = roleTest ∧ t.get (F.CRN_STATUS_ROLE p) = roleWorking ∧ t.get (F.CRN_STATUS_BERTH p) = n ∧
        (t.prod n).next = (s.berth n).mark.seq ∧ t.errCount = s.errCount + 1 ∧ s.steady t)) ∧
    (s.serving = true → s.pinLow = false → s.stage = none → s.on (F.CRN_STATUS_BUSY c) = false → s.queue (classOf c) = [] → s.handover = [] →
      ∃ t, exec (.craneSelftestCmd c 0x5A01#16) s = .next t ∧ t.get (F.CRN_STATUS_ROLE c) = roleTest ∧
        t.get (F.CRN_STATUS_ROLE p) = roleWorking ∧ t.get (F.CRN_EVENTS_TAKEOVER_EV p) = 1 ∧ t.handover = [] ∧ s.steady t) ∧
    ((s.unit .crane p).testing = true → (s.unit .crane p).past = [] → s.inj = none →
        (s.withRole (classOf c) roleWorking).length = workingCount (classOf c) →
      (∃ t, exec (.craneSelftestDone p true) s = .next t ∧ t.get (F.CRN_EVENTS_TRANSIENT_EV p) = 1 ∧ t.get (F.CRN_STATUS_ROLE p) = roleSpare ∧
        (t.unit .crane p).testing = false ∧ t.errCount = s.errCount + 1 ∧ s.steady t) ∧
      ((s.unit .crane p).runs = 1 →
        ∃ t, exec (.craneSelftestDone p false) s = .next t ∧ t.get (F.CRN_EVENTS_LASTING_EV p) = 1 ∧ t.get (F.CRN_STATUS_ROLE p) = roleRetired ∧
          t.isRetired .crane p = true ∧ bit (t.get F.PROT_CRANES_RETIRED_MASK) p = true ∧ s.steady t))

/-- AM and FM reception (R169, R170, R175). The peak depths of a second show, m₋ at most 100.0 %; stereo is declared or dropped on a berth with a
pilot loop once the pilot deviation has stood past its threshold for the 100 blocks of 100 ms; the third RDS block in order, each with a correct
offset word, declares synchronisation, one without an offset word starts the count again, and in RBDS a block with offset word E is ignored.
Completes: `amDepthUpdate`, `stereoPilotTimer`, `rdsBlock`. -/
def Obligations.AnalogueReception : Prop :=
  ∀ s : State, s.Settled → s.dead = false → ∀ n : Nat, n < 96 →
    (s.works n 1 = true →
      let d := (s.audOf n).depth
      ∃ t, exec (.amDepthUpdate n) s = .next t ∧ t.get (F.AM_SVC3_DEPTH_POS n) = min 65535 (depthOf (d.2.2.1 * d.2.1 - d.1) d.1) ∧
        t.get (F.AM_SVC4_DEPTH_NEG n) = min 1000 (depthOf (d.1 - d.2.2.2 * d.2.1) d.1) ∧ (t.audOf n).depth = (0, 0, 0, 0) ∧
        State.fieldsBut [F.AM_SVC3_DEPTH_POS n, F.AM_SVC4_DEPTH_NEG n] s t ∧ s.steady t) ∧
    (∀ above : Bool, s.works n 2 = true → s.get (F.FM_SVC0_MODE n) ≠ 0 → 100 ≤ (if above then (s.audOf n).above else (s.audOf n).below) →
      ∃ t, exec (.stereoPilotTimer n above) s = .next t ∧ t.get (F.FM_SVC7_STEREO n) = b2n above ∧ s.onlyFields [F.FM_SVC7_STEREO n] t) ∧
    (∀ (raw : BitVec 32) (ts : BitVec 64), s.works n 2 = true → s.get (F.FM_SVC0_MODE n) = 2 → s.get (F.FM_SVC7_RDS_SYNC n) = 0 →
      (∀ i, rdsWords.findIdx? (· == rdsOffset (raw.toNat % 2 ^ 26)) = some i →
          (if i < 3 then i else i - 1) = (s.rdsOf n).pos → (s.rdsOf n).run = 2 →
        ∃ t, exec (.rdsBlock n raw ts) s = .next t ∧ t.get (F.FM_SVC7_RDS_SYNC n) = 1 ∧ s.steady t) ∧
      (rdsWords.findIdx? (· == rdsOffset (raw.toNat % 2 ^ 26)) = none → rdsOffset (raw.toNat % 2 ^ 26) ≠ 0 →
        ∃ t, exec (.rdsBlock n raw ts) s = .next t ∧ (t.rdsOf n).run = 0 ∧ s.changes [] ({ s with rds := t.rds }) t) ∧
      (rdsOffset (raw.toNat % 2 ^ 26) = 0 → s.on (F.FM_SVC0_RBDS n) = true →
        ∃ t, exec (.rdsBlock n raw ts) s = .next t ∧ s.onlyFields [] t))

/-- Following another frequency (R181, R182, R183). A sounding keeps its level and frees its spare; a ban runs out; a candidate that is better
than the home by the margin starts a fade with a free partner, which runs. Completes: `afSoundingDone`, `afBanExpire`, `afFadeStart`. -/
def Obligations.Following : Prop :=
  ∀ s : State, s.Settled → s.dead = false → ∀ h : Nat, h < 96 →
    (∀ l cand : Nat, l < 104 → s.soundingAt = some (l, h, cand) → s.lane l = .sounds h → s.soundDet.count = 2 ^ 15 →
      ∃ t, exec (.afSoundingDone l) s = .next t ∧ t.lane l = .spare ∧
        (t.foll h).heard.contains (cand, s.soundLevel h cand, s.clock) = true ∧ t.soundingAt = some (l, h, cand) ∧ l ∉ t.sounding ∧
        s.changes [F.PROT_LANES_SPARES, F.PROT_LANES_RETIRED]
          ({ s with follow := t.follow, lanes := t.lanes, sounding := t.sounding, soundDet := t.soundDet }) t) ∧
    (∀ cand : Nat, ∃ t, exec (.afBanExpire h cand) s = .next t ∧ (t.foll h).bans = (s.foll h).bans.filter (· != cand) ∧
      s.changes [] ({ s with follow := t.follow }) t) ∧
    (∀ q : Int, ∀ x, s.bestCandidate h = some x → s.std h = 2 → s.following h = true → s.bstate h = bsRunning → s.fadeOf h = none → s.serving = true →
        q + 100 * (s.get (F.FM_SVC3_MARGIN h) : Int) ≤ x.2 → s.on (F.FM_SVC7_ALARM h) = false → s.partnerFree h = true →
      ∃ t, exec (.afFadeStart h q) s = .next t ∧ t.xf h = xfStarting ∧ t.fadeOf h = some (Fade.new false x.1 (s.lostLong h)) ∧
        t.get (F.BTH_CTRL_RUN (s.partner h)) = 1 ∧ t.get (F.BTH_CTRL_STOPPED (s.partner h)) = 0 ∧ t.get (F.LN_CTRL_RUN (s.partner h)) = 1 ∧
        t.std (s.partner h) = 2 ∧ s.steady t)

/-- The course of an analogue fade (R184, R185, R186, R187, R188, R189, R190). The settled partner is verified, or aligned in a command fade; no
identifier in time ends the fade with TIMEOUT; a passed window of DWELL counts, the last one brings ALIGN, and a failed one ends the fade with
QUALITY; alignment brings the ramp or ends the fade; after the whole ramp the lanes exchange. GO makes a command fade that the home's next 1 ms
block starts; ABORT ends a fade, and in RAMP turns the mix back. Completes: `fadePartnerSettled`, `fadePiTimeout`, `fadeDwellWindow`,
`fadeAlignDone`, `fadeRampDone`, `fadeSwap`, `fadeAbortCmd`, `fadeGoCmd`. -/
def Obligations.AnalogueFades : Prop :=
  ∀ s : State, s.dead = false → ∀ h : Nat, h < 96 → s.std h = 2 →
    (∀ f, s.fadeOf h = some f → s.partner h < 96 → s.partner h ≠ h →
      (s.xf h = xfStarting → s.laneRuns (s.partner h) = true → s.get (F.LN_STATUS_SETTLING (s.partner h)) = 0 → s.Settled →
        ∃ t, exec (.fadePartnerSettled h) s = .next t ∧ t.xf h = (if f.cmd then xfAlign else xfVerify) ∧
          t.fadeOf h = some { f with alignNs := if f.cmd then tsNs s.ts else f.alignNs } ∧
          s.changes [F.FM_SVC7_XF_STATE h] { s with follow := t.follow } t) ∧
      (s.xf h = xfVerify →
        ∃ t, exec (.fadePiTimeout h) s = .next t ∧ t.xf h = xfIdle ∧ t.get (F.FM_SVC7_XF_RESULT h) = xrTimeout ∧
          t.get (F.FM_SVC7_XF_DONE_EV h) = 1 ∧ t.fadeOf h = none ∧ (f.cmd = false → (t.foll h).bans.head? = some f.cand) ∧ s.steady t) ∧
      (∀ a b : Int, s.xf h = xfDwell → s.lostLong h = false →
        (a + 100 * (s.get (F.FM_SVC3_MARGIN h) : Int) ≤ b → f.count + 1 < s.get (F.FM_SVC4_DWELL h) → s.Settled →
          ∃ t, exec (.fadeDwellWindow h a b) s = .next t ∧ t.fadeOf h = some { f with count := f.count + 1 } ∧
            s.changes [] ({ s with follow := t.follow }) t) ∧
        (a + 100 * (s.get (F.FM_SVC3_MARGIN h) : Int) ≤ b → s.get (F.FM_SVC4_DWELL h) ≤ f.count + 1 →
          ∃ t, exec (.fadeDwellWindow h a b) s = .next t ∧ t.xf h = xfAlign ∧ s.steady t) ∧
        (b < a + 100 * (s.get (F.FM_SVC3_MARGIN h) : Int) →
          ∃ t, exec (.fadeDwellWindow h a b) s = .next t ∧ t.xf h = xfIdle ∧ t.get (F.FM_SVC7_XF_RESULT h) = xrQuality ∧ t.fadeOf h = none ∧
            s.steady t)) ∧
      (s.xf h = xfAlign →
        ∀ r, (if s.sameSignal h (s.partner h) then some (s.exactLead h (s.partner h), true) else s.foundLead h (s.partner h)) = some r →
        (r.2 = true → 0 ≤ (s.get (F.LN_DELAY h) : Int) + r.1 → (s.get (F.LN_DELAY h) : Int) + r.1 ≤ 262143 →
          ∃ t, exec (.fadeAlignDone h) s = .next t ∧ t.xf h = xfRamp ∧
            (t.get (F.LN_DELAY (s.partner h)) : Int) = (s.get (F.LN_DELAY h) : Int) + r.1 ∧ s.steady t) ∧
        (r.2 = true → ((s.get (F.LN_DELAY h) : Int) + r.1 < 0 ∨ 262143 < (s.get (F.LN_DELAY h) : Int) + r.1) →
          ∃ t, exec (.fadeAlignDone h) s = .next t ∧ t.xf h = xfIdle ∧ t.get (F.FM_SVC7_XF_RESULT h) = xrAlignRange ∧
            t.fadeOf h = none ∧ s.steady t) ∧
        (r.2 = false →
          ∃ t, exec (.fadeAlignDone h) s = .next t ∧ t.xf h = xfIdle ∧ t.get (F.FM_SVC7_XF_RESULT h) = xrAlignFail ∧
            t.fadeOf h = none ∧ s.steady t)) ∧
      (s.xf h = xfRamp →
        (f.back = false → s.Settled →
          ∃ t, exec (.fadeRampDone h) s = .next t ∧ t.xf h = (if s.rampLen h ≤ f.ramp then xfSwap else xfRamp) ∧
            s.onlyFields [F.FM_SVC7_XF_STATE h] t) ∧
        (f.back = true →
          ∃ t, exec (.fadeRampDone h) s = .next t ∧ t.xf h = xfIdle ∧ t.get (F.FM_SVC7_XF_RESULT h) = xrAbortCmd ∧ t.fadeOf h = none ∧
            s.steady t)) ∧
      (s.xf h = xfSwap →
        ∃ t, exec (.fadeSwap h) s = .next t ∧ t.xf h = xfIdle ∧ t.get (F.FM_SVC7_XF_RESULT h) = xrDone ∧ t.fadeOf h = none ∧
          t.get (F.LN_PHYS_LANE h) = s.get (F.LN_PHYS_LANE (s.partner h)) ∧ t.get (F.LN_PHYS_LANE (s.partner h)) = s.get (F.LN_PHYS_LANE h) ∧
          t.get (F.FM_SVC7_AF_SWITCH_EV h) = 1 ∧ (t.foll h).switch = ((s.foll h).switch + 1) % 128 ∧ s.steady t) ∧
      (s.serving = true → s.pinLow = false → s.stage = none →
        (¬(s.xf h = xfRamp ∧ f.ramp ≠ 0) →
          ∃ t, exec (.fadeAbortCmd h 0x5A02#16) s = .next t ∧ t.xf h = xfIdle ∧ t.get (F.FM_SVC7_XF_RESULT h) = xrAbortCmd ∧
            t.fadeOf h = none ∧ s.steady t) ∧
        (s.xf h = xfRamp → f.ramp ≠ 0 →
          ∃ t, exec (.fadeAbortCmd h 0x5A02#16) s = .next t ∧ t.xf h = xfRamp ∧ t.fadeOf h = some { f with back := true } ∧ s.steady t))) ∧
    (s.fadeOf h = none → s.partner h < 96 → s.partner h ≠ h → s.std (s.partner h) = 2 → s.homeOf (s.partner h) = none →
        s.get (F.BTH_CTRL_STOPPED (s.partner h)) = 1 → s.bstate h = bsRunning → s.serving = true → s.pinLow = false → s.stage = none →
      ∃ t, exec (.fadeGoCmd h 0x5A01#16) s = .next t ∧ t.fadeOf h = some (Fade.new true 0 false) ∧ t.xf h = s.xf h ∧
        (s.Settled → State.fieldsBut [F.JNL_NEWEST_NUMBER, F.JNL_STATUS_UNREAD_LOST] s t) ∧ s.steady t)

/-- DAB reception (R196, R198, R199, R200, R201, R202, R206). A missed frame is counted and the third in a row loses sync; the second frame in a
row with a good FIB locks, and the ensemble's FIG sets AL_FLAG and EID_MATCH; the alarm ends without FIG 0/19 for 2 s; the loss of sync shows;
the signalled CIF brings the new organisation; a data subchannel's logical frame leaves as a unit of Table 9.5. Completes: `dabFrame`,
`dabAlarmTimeout`, `dabSyncLoss`, `dabReconfigApply`, `cifDeinterleaved`. -/
def Obligations.DabReception : Prop :=
  ∀ s : State, s.Settled → s.dead = false → ∀ n : Nat, n < 96 → s.std n = 4 → s.homeOf n = none →
    (∀ f : DabFrame, s.works n 4 = true → s.get (F.DAB_SVC0_TMODE n) = 0 → f.found = false →
      (s.get (F.DAB_SVC5_SYNC n) = syncSearch →
        ∃ t, exec (.dabFrame n f) s = .next t ∧ t.dabOf n = { s.dabOf n with found := (s.dabOf n).found.filter (·.1 != f.mode) } ∧
          s.changes [] { s with dab := t.dab } t) ∧
      (s.get (F.DAB_SVC5_SYNC n) ≠ syncSearch → f.mode = (s.dabOf n).mode → (s.dabOf n).missed < 2 →
        ∃ t, exec (.dabFrame n f) s = .next t ∧ (t.dabOf n).missed = (s.dabOf n).missed + 1 ∧ (t.dabOf n).fibRun = 0 ∧
          t.get (F.DAB_SVC5_SYNC n) = s.get (F.DAB_SVC5_SYNC n) ∧ s.changes [] { s with dab := t.dab } t)) ∧
    (∀ (m eid cif : Nat) (al : Bool) (bytes : List Byte) (ts : BitVec 64) (o : Ofdm), s.works n 4 = true → s.get (F.DAB_SVC0_TMODE n) = 0 →
        1 ≤ m → m ≤ 4 → (s.dabOf n).mode = m → s.get (F.DAB_SVC5_SYNC n) = syncFrame → (s.dabOf n).fibRun = 1 →
        s.on (F.DAB_SVC0_FIC_OUT n) = false → s.get (F.DAB_SVC2_EXPECT_EID n) = eid → eid ≠ 0 →
      ∃ t, exec (.dabFrame n ⟨m, true, [⟨true, bytes, [.ensemble eid al cif none]⟩], ts, o⟩) s = .next t ∧
        t.get (F.DAB_SVC5_SYNC n) = syncLocked ∧
        t.get (F.DAB_SVC5_TMODE_FOUND n) = m ∧ t.get (F.DAB_SVC5_AL_FLAG n) = b2n al ∧ (t.dabOf n).cif = cif % 5000 ∧
        t.get (F.DAB_SVC5_EID_MATCH n) = b2n ((s.dabOf n).eids.head? == some eid) ∧
        s.changes [F.DAB_SVC5_SYNC n, F.DAB_SVC5_TMODE_FOUND n, F.DAB_SVC5_AL_FLAG n, F.DAB_SVC5_EID_MATCH n]
          { s with dab := t.dab, windows := t.windows, ended := t.ended } t) ∧
    (s.get (F.DAB_SVC5_ALARM n) = 1 →
      ∃ t, exec (.dabAlarmTimeout n) s = .next t ∧ t.get (F.DAB_SVC5_ALARM n) = 0 ∧ t.errCount = s.errCount + 1 ∧ s.steady t) ∧
    (s.get (F.DAB_SVC5_SYNC n) ≠ syncSearch →
      ∃ t, exec (.dabSyncLoss n) s = .next t ∧ t.get (F.DAB_SVC5_SYNC n) = syncSearch ∧ t.get (F.DAB_SVC5_TMODE_FOUND n) = 0 ∧
        t.get (F.DAB_SVC5_SYNC_LOST_EV n) = 1 ∧
        s.changes [F.DAB_SVC5_SYNC n, F.DAB_SVC5_TMODE_FOUND n, F.DAB_SVC5_SYNC_LOST_EV n]
          { s with dab := t.dab, follow := t.follow, windows := t.windows, ended := t.ended } t) ∧
    (∀ o, (s.dabOf n).occurrence = some o → s.works n 4 = true → ∀ cif : Nat, cif % 256 = o % 256 →
      ∃ t, exec (.dabReconfigApply n cif) s = .next t ∧
        (t.dabOf n).org = (s.dabOf n).nextOrg.filter (fun x =>
          (s.dabOf n).nextAudio.any (·.1 == x.subch) || (s.dabOf n).org.contains x || (s.dabOf n).packets.any (·.1 == x.subch)) ∧
        (∀ a ∈ (s.dabOf n).nextAudio, a ∈ (t.dabOf n).audio) ∧ (t.dabOf n).occurrence = none ∧
        (t.dabOf n).config = ((s.dabOf n).config + 1) % 256 ∧ t.get (F.DAB_SVC5_RECONFIG_PENDING n) = 0 ∧ t.get (F.DAB_SVC5_RECONFIG_EV n) = 1 ∧
        s.changes [F.DAB_SVC5_RECONFIG_PENDING n, F.DAB_SVC5_RECONFIG_EV n] ({ s with dab := t.dab }) t) ∧
    (∀ (cif : Nat) (ts : BitVec 64) (x : SubchData), s.get (F.DAB_SVC5_SYNC n) = syncLocked → s.get (F.BTH_CTRL_STOPPED n) = 0 →
        (s.dabOf n).org.any (·.subch == x.subch) = true → (s.dabOf n).packets = [] → (s.dabOf n).audio = [] → (s.dabOf n).was = [] → s.fadeOf n = none →
        (s.foll n).since ≤ tsNs ts.toNat →
        let payload := be 1 2 ++ be 1 x.subch ++ be 2 cif ++ be 1 (s.dabOf n).config ++ be 1 (b2n (s.foll n).cut * 128 + (s.foll n).switch % 128) ++
          (be 2 0 ++ be 2 0 ++ be 2 0) ++ x.bytes
        s.waiting n = [] → s.isOld n (s.prod n).next = false → s.credit n payload = true →
      ∃ t, exec (.cifDeinterleaved n cif ts [x]) s = .next t ∧
        t.custody = s.custody ++ [⟨n, (s.prod n).next, 2, s.berthFlags n, s.epoch, ts.toNat, payload, n, s.route n 2, false, false, none, Copy.of payload⟩] ∧
        t.err = s.err ∧ s.changesErr [] { s with windows := t.windows, ended := t.ended } t)

/-- DRM reception (R207, R208, R210, R216). A FAC that fails its check starts the count again; the second in a row with one mode and occupancy
locks and shows both; a super frame without the reference counts its absence, the second shows SID_CHANGE_EV; the loss of sync shows; a signalled
reconfiguration applies. Completes: `drmFrame`, `drmSuperframe`, `drmSyncLoss`, `drmReconfigApply`. -/
def Obligations.DrmReception : Prop :=
  ∀ s : State, s.Settled → s.dead = false → ∀ n : Nat, n < 96 → s.std n = 3 → s.homeOf n = none →
    (∀ (m o i : Nat) (fac : List Byte) (l : List (Nat × Nat)) (rc : Bool) (ts : BitVec 64) (e : Ofdm), s.works n 3 = true → s.get (F.DRM_SVC0_RMODE n) = 0 →
        1 ≤ m → m ≤ 4 →
      (∃ t, exec (.drmFrame n ⟨m, o, i, false, fac, l, rc, ts, e⟩) s = .next t ∧ t.drmOf n = { s.drmOf n with run := 0, idents := [] } ∧
        s.changes [] ({ s with drm := t.drm }) t) ∧
      ((s.drmOf n).seen = (m, o) → (s.drmOf n).run = 1 → s.get (F.DRM_SVC0_FACSDC_OUT n) = 0 →
        ∃ t, exec (.drmFrame n ⟨m, o, i, true, fac, [], false, ts, e⟩) s = .next t ∧ t.get (F.DRM_SVC5_SYNC n) = syncLocked ∧
          t.get (F.DRM_SVC5_RMODE_FOUND n) = m ∧ t.get (F.DRM_SVC5_SO_FOUND n) = o % 2 ^ (F.DRM_SVC5_SO_FOUND n).width ∧
          s.changes [F.DRM_SVC5_SYNC n, F.DRM_SVC5_RMODE_FOUND n, F.DRM_SVC5_SO_FOUND n]
            { s with drm := t.drm, windows := t.windows, ended := t.ended } t)) ∧
    (∀ ts : BitVec 64, s.get (F.DRM_SVC5_SYNC n) = syncLocked → s.get (F.BTH_CTRL_STOPPED n) = 0 → (s.drmRef n).any (s.drmOf n).ids.1.contains = false →
      ((s.drmOf n).absent = 1 → (s.refSid n).isSome = true →
        ∃ t, exec (.drmSuperframe n ⟨ts, true, [], false, [], [], []⟩) s = .next t ∧ (t.drmOf n).absent = 2 ∧ t.get (F.DRM_SVC5_SID_MATCH n) = 0 ∧
          t.get (F.DRM_SVC5_SID_CHANGE_EV n) = 1 ∧ s.steady t) ∧
      (∃ t, exec (.drmSuperframe n ⟨ts, false, [], false, [], [], []⟩) s = .next t ∧ (t.drmOf n).present = 0 ∧
        (t.drmOf n).absent = min 3 ((s.drmOf n).absent + 1) ∧
        s.changes [F.DRM_SVC5_SID_MATCH n, F.DRM_SVC5_SID_CHANGE_EV n] ({ s with drm := t.drm }) t)) ∧
    (s.get (F.DRM_SVC5_SYNC n) ≠ syncSearch →
      ∃ t, exec (.drmSyncLoss n) s = .next t ∧ t.get (F.DRM_SVC5_SYNC n) = syncSearch ∧ t.get (F.DRM_SVC5_RMODE_FOUND n) = 0 ∧
        t.get (F.DRM_SVC5_SO_FOUND n) = 0 ∧ t.get (F.DRM_SVC5_SYNC_LOST_EV n) = 1 ∧ t.get (F.DRM_SVC5_SID_MATCH n) = 0 ∧
        (s.get (F.DRM_SVC5_SID_MATCH n) = 1 → t.get (F.DRM_SVC5_SID_CHANGE_EV n) = 1) ∧
        s.changes [F.DRM_SVC5_SYNC n, F.DRM_SVC5_RMODE_FOUND n, F.DRM_SVC5_SO_FOUND n, F.DRM_SVC5_SYNC_LOST_EV n, F.DRM_SVC5_SID_MATCH n,
            F.DRM_SVC5_SID_CHANGE_EV n]
          ({ s with drm := t.drm, follow := t.follow }) t) ∧
    (s.get (F.DRM_SVC5_RECONFIG_PENDING n) = 1 →
      ∃ t, exec (.drmReconfigApply n) s = .next t ∧ (t.drmOf n).config = ((s.drmOf n).config + 1) % 256 ∧
        t.get (F.DRM_SVC5_RECONFIG_PENDING n) = 0 ∧ t.get (F.DRM_SVC5_RECONFIG_EV n) = 1 ∧
        s.changes [F.DRM_SVC5_RECONFIG_PENDING n, F.DRM_SVC5_RECONFIG_EV n] ({ s with drm := t.drm }) t)

/-- The course of a DAB or DRM fade (R215, R216, R217, R218, R219). A better candidate starts a fade with a free partner; no identifier in time
ends it with TIMEOUT; a partner that is not LOCKED fails the window of DWELL; the alignment settles whether the swap is seamless; the swap
exchanges the lanes, and a cut stops the partner; the drained partner stops. Completes: `digitalFadeStart`, `digitalVerifyTimeout`,
`digitalDwellWindow`, `digitalAlignDone`, `digitalSwap`, `fadePartnerDrained`. -/
def Obligations.DigitalFades : Prop :=
  ∀ s : State, s.dead = false → ∀ h : Nat, h < 96 → s.std h = 4 →
    (∀ p : Int, ∀ x, s.bestCandidate h = some x → s.following h = true → s.bstate h = bsRunning → s.fadeOf h = none → s.serving = true →
        p + 100 * (s.get (F.FM_SVC3_MARGIN h) : Int) ≤ x.2 → s.on (F.DAB_SVC5_ALARM h) = false → s.partnerFree h = true →
      ∃ t, exec (.digitalFadeStart h p) s = .next t ∧ t.xf h = xfStarting ∧
        t.fadeOf h = some (Fade.new false x.1 (s.lostLong h)) ∧
        t.get (F.BTH_CTRL_RUN (s.partner h)) = 1 ∧ t.get (F.BTH_CTRL_STOPPED (s.partner h)) = 0 ∧ t.get (F.LN_CTRL_RUN (s.partner h)) = 1 ∧
        t.std (s.partner h) = 4 ∧ s.steady t) ∧
    (∀ f, s.fadeOf h = some f → s.partner h < 96 → s.partner h ≠ h →
      (s.xf h = xfVerify →
        ∃ t, exec (.digitalVerifyTimeout h) s = .next t ∧ t.xf h = xfIdle ∧ t.get (F.FM_SVC7_XF_RESULT h) = xrTimeout ∧
          t.get (F.FM_SVC7_XF_DONE_EV h) = 1 ∧ t.fadeOf h = none ∧ s.steady t) ∧
      (∀ a b : Nat × Nat, s.xf h = xfDwell →
        (s.get (F.DAB_SVC5_SYNC (s.partner h)) ≠ syncLocked →
          ∃ t, exec (.digitalDwellWindow h a b) s = .next t ∧ t.xf h = xfIdle ∧ t.get (F.FM_SVC7_XF_RESULT h) = xrQuality ∧ t.fadeOf h = none ∧
            s.steady t) ∧
        (s.get (F.DAB_SVC5_SYNC (s.partner h)) = syncLocked → s.lostLong h = false →
            min 40000 (merOf a) + 100 * (s.get (F.FM_SVC3_MARGIN h) : Int) ≤ min 40000 (merOf b) → s.get (F.FM_SVC4_DWELL h) ≤ f.count + 1 →
          ∃ t, exec (.digitalDwellWindow h a b) s = .next t ∧ t.xf h = xfAlign ∧ s.steady t)) ∧
      (s.xf h = xfAlign → f.count ≠ 1 →
        let a := s.dabOf h
        let b := s.dabOf (s.partner h)
        let c := if cifAtOrAfter a.cif b.cif then b.cif else a.cif
        (a.eids.head?.isSome = true → a.eids.head? = b.eids.head? →
          ((a.at c).1.all (b.at c).1.contains && (b.at c).1.all (a.at c).1.contains) = true →
          ((cifLead a b).natAbs ≤ 384000000 → s.Settled →
            ∃ t, exec (.digitalAlignDone h) s = .next t ∧
              t.fadeOf h = some { f with seamless := true, lead := cifLead a b, point := (a.cif + a.cifsTo (f.alignNs + 48000000)) % 5000,
                                         pointNs := tsNs (a.start.getD 0) + 24000000 * a.cifsTo (f.alignNs + 48000000), count := 1 } ∧
              s.changes [] ({ s with follow := t.follow }) t) ∧
          (384000000 < (cifLead a b).natAbs →
            ∃ t, exec (.digitalAlignDone h) s = .next t ∧ t.xf h = xfIdle ∧ t.get (F.FM_SVC7_XF_RESULT h) = xrAlignRange ∧
              t.fadeOf h = none ∧ s.steady t)) ∧
        (a.eids.head?.isSome = true → a.eids.head? = b.eids.head? →
          ((a.at c).1.all (b.at c).1.contains && (b.at c).1.all (a.at c).1.contains) = false →
          ∃ t, exec (.digitalAlignDone h) s = .next t ∧ t.xf h = xfIdle ∧ t.get (F.FM_SVC7_XF_RESULT h) = xrAlignFail ∧
            t.fadeOf h = none ∧ s.steady t) ∧
        (a.eids.head? ≠ b.eids.head? → s.Settled →
          ∃ t, exec (.digitalAlignDone h) s = .next t ∧
            t.fadeOf h = some { f with pointNs := tsNs (a.start.getD 0) + 24000000 * a.cifsTo (tsNs s.ts), count := 1 } ∧
            s.changes [] ({ s with follow := t.follow }) t)) ∧
      (s.xf h = xfAlign → f.count = 1 →
        ∃ t, exec (.digitalSwap h) s = .next t ∧ t.xf h = xfSwap ∧ t.fadeOf h = some { f with drained := !f.seamless } ∧
          t.get (F.LN_PHYS_LANE h) = s.get (F.LN_PHYS_LANE (s.partner h)) ∧ t.get (F.LN_PHYS_LANE (s.partner h)) = s.get (F.LN_PHYS_LANE h) ∧
          t.get (F.DAB_SVC5_SYNC h) = s.get (F.DAB_SVC5_SYNC (s.partner h)) ∧ s.steady t) ∧
      (s.xf h = xfSwap → f.units = [] →
        ∃ t, exec (.fadePartnerDrained h) s = .next t ∧ t.fadeOf h = some { f with drained := true } ∧
          (s.get (F.BTH_CTRL_STOPPED (s.partner h)) = 0 → t.armedFor (F.BTH_CTRL_RUN (s.partner h)) 0 = true) ∧ s.steady t) ∧
      (s.xf h = xfSwap → f.units ≠ [] →
        ∃ t, exec (.fadePartnerDrained h) s = .next t ∧ t.fadeOf h = none ∧ t.xf h = xfIdle ∧ t.get (F.FM_SVC7_XF_RESULT h) = xrDone ∧
          t.get (F.FM_SVC7_AF_SWITCH_EV h) = 1 ∧ s.steady t))

/-- DVB reception (R224, R225, R226, R227, R228, R230, R231, R232, R236, R237). A missed T2 frame is counted, the P1 of another profile begins a
FEF part, whose samples are discarded, a frame with other fields starts the count of frames again; the alarm flag's state ends without L1 for 2
s; a missed OFDM frame starts the TPS count again; the loss of sync shows and every PLP owes a gap; an L1 change applies; the packets of an
interleaving frame leave in one consignment; an unfinished datagram is discarded. Completes: `t2Frame`, `ewsTimeout`, `dvbtFrame`, `dvbSyncLoss`,
`l1ChangeApply`, `interleavingFrameComplete`, `dgReassemblyTimeout`. -/
def Obligations.DvbReception : Prop :=
  ∀ s : State, s.Settled → s.dead = false → s.shadow = [] → ∀ n : Nat, n < 96 →
    (∀ (f : T2Frame), s.works n 6 = true → f.found = false → (s.dvbOf n).missed < 2 → s.get (F.BTH_COMMIT_PENDING n) = 0 →
      ∃ t, exec (.t2Frame n f) s = .next t ∧ t.dvbOf n = { s.dvbOf n with found := 0, missed := (s.dvbOf n).missed + 1, good := 0, fef := none } ∧
        s.changes [] ({ s with dvb := t.dvb }) t) ∧
    (∀ (f : T2Frame), s.works n 6 = true → f.found = true → p1Ours (s.on (F.T2_SVC0_PROFILE n)) f.fields = false →
      ∃ t, exec (.t2Frame n f) s = .next t ∧
        t.dvbOf n = { s.dvbOf n with fef := some (tsNs f.ts.toNat, tsNs f.ts.toNat + s.periods n (s.dvbOf n).l1.fefLength) } ∧
        (∀ b, b < 2 → t.input n b = (s.input n b).filter (fun y => !t.inFef n (y.stamp / 1000).toNat)) ∧
        s.changes [] ({ s with dvb := t.dvb, inputs := t.inputs }) t) ∧
    (∀ (f : T2Frame), s.works n 6 = true → f.found = true → p1Ours (s.on (F.T2_SVC0_PROFILE n)) f.fields = true →
        s.get (F.T2_SVC7_SYNC n) = syncSearch → (s.dvbOf n).fields ≠ f.fields →
      ∃ t, exec (.t2Frame n f) s = .next t ∧ (t.dvbOf n).found = 1 ∧ (t.dvbOf n).fields = f.fields ∧ (t.dvbOf n).missed = 0 ∧
        t.get (F.T2_SVC7_SYNC n) = syncSearch ∧ s.changes [F.BTH_COMMIT_PENDING n] ({ s with dvb := t.dvb }) t) ∧
    (s.std n = 6 → s.get (F.T2_SVC7_EWS n) = 1 →
      ∃ t, exec (.ewsTimeout n) s = .next t ∧ t.get (F.T2_SVC7_EWS n) = 0 ∧ t.errCount = s.errCount + 1 ∧ s.steady t) ∧
    (∀ f : DvbtFrame, s.works n 5 = true → f.found = false →
      (s.get (F.DVBT_SVC7_SYNC n) = syncSearch →
        ∃ t, exec (.dvbtFrame n f) s = .next t ∧ t.dvbOf n = { s.dvbOf n with good := 0, paramsSeen := (s.dvbOf n).params } ∧
          s.changes [F.BTH_COMMIT_PENDING n] ({ s with dvb := t.dvb }) t) ∧
      (s.get (F.DVBT_SVC7_SYNC n) ≠ syncSearch →
        ∃ t, exec (.dvbtFrame n f) s = .next t ∧ t.get (F.DVBT_SVC7_SYNC n) = syncSearch ∧ t.get (F.T2_SVC7_SYNC_LOST_EV n) = 1 ∧
          t.get (F.DVBT_SVC7_STREAM_ACTIVE n) = 0 ∧ (t.dvbOf n).good = 0 ∧ (t.dvbOf n).gaps = s.owedGaps n ∧
          s.changes [F.BTH_COMMIT_PENDING n, F.DVBT_SVC7_SYNC n, F.T2_SVC7_SYNC_LOST_EV n, F.DVBT_SVC7_STREAM_ACTIVE n]
            ({ s with dvb := t.dvb }) t)) ∧
    (∀ f : DvbtFrame, s.works n 5 = true → f.found = true → (f.fft = 3 ∨ f.fft = 5) → f.tpsOk = true → tpsWord f.tps = true →
        s.get (F.DVBT_SVC7_SYNC n) = syncFrame → (s.dvbOf n).good = 1 →
        s.get (F.DVBT_SVC0_L1_OUT n) = 0 → f.fft ≤ s.get (F.BTH_DECL_FFT_MAX n) → f.rate ≤ s.get (F.BTH_DECL_RATE_MAX n) →
        s.get (F.BTH_STATUS_OVER_DECL n) = 0 → s.get (F.DVBT_SVC0_HP_LP n) = 0 → f.hp = [] → s.get (F.T2_SVC5_DG_ENABLE n) = 0 →
      ∃ t, exec (.dvbtFrame n f) s = .next t ∧ t.get (F.DVBT_SVC7_SYNC n) = syncLocked ∧ t.get (F.DVBT_SVC7_STREAM_ACTIVE n) = 1 ∧
        (t.dvbOf n).params = f.params ∧
        s.changes [F.BTH_COMMIT_PENDING n, F.DVBT_SVC7_SYNC n, F.DVBT_SVC7_STREAM_ACTIVE n]
          { s with dvb := t.dvb, windows := t.windows, ended := t.ended } t) ∧
    (s.std n = 6 → s.get (F.T2_SVC7_SYNC n) ≠ syncSearch →
      ∃ t, exec (.dvbSyncLoss n) s = .next t ∧ t.get (F.T2_SVC7_SYNC n) = syncSearch ∧ t.get (F.T2_SVC7_SYNC_LOST_EV n) = 1 ∧
        t.get (F.T2_SVC7_PLP_ACTIVE n) = 0 ∧ (∀ a ∈ (s.dvbOf n).act, a.1 ∈ (t.dvbOf n).gaps) ∧
        s.changes [F.T2_SVC7_SYNC n, F.T2_SVC7_SYNC_LOST_EV n, F.T2_SVC7_PLP_ACTIVE n]
          { s with dvb := t.dvb, windows := t.windows, ended := t.ended } t) ∧
    (∀ (plps : List Plp) (ts : BitVec 64), s.works n 6 = true → s.get (F.T2_SVC7_SYNC n) = syncLocked →
      ∃ t, exec (.l1ChangeApply n plps ts) s = .next t ∧ (t.dvbOf n).plps = plps ∧ (t.dvbOf n).config = ((s.dvbOf n).config + 1) % 256 ∧
        t.get (F.T2_SVC7_L1_CHANGE_EV n) = 1 ∧ s.steady t) ∧
    (∀ (plp idx iter : Nat) (ts : BitVec 64) (p : TsPacket), s.std n = 6 → s.get (F.T2_SVC7_SYNC n) = syncLocked →
        s.get (F.BTH_CTRL_STOPPED n) = 0 → (s.dvbOf n).decodes plp ts.toNat = true → (s.dvbOf n).plps = [] → (s.dvbOf n).gaps = [] →
        s.get (F.T2_SVC0_NULL_REINSERT n) = 0 → s.get (F.T2_SVC5_DG_ENABLE n) = 0 → p.crc = none → p.bad = false → s.captureOf n 1 = none →
        let payload := dvbHeader 0x21 plp idx 1 (s.dvbOf n).config 0 p.fixed 0 iter ++ (0x47#8 :: (p.bytes[1]?).getD 0 :: p.bytes.drop 2)
        s.waiting n = [] → s.isOld n (s.prod n).next = false → s.credit n payload = true →
      ∃ t, exec (.interleavingFrameComplete n plp idx ts [⟨true, true, [p], iter⟩]) s = .next t ∧
        t.custody = s.custody ++ [⟨n, (s.prod n).next, 1, s.berthFlags n, s.epoch, ts.toNat, payload, n, s.route n 1, false, false, none, Copy.of payload⟩] ∧
        t.err = s.err ∧ s.changesErr [] { s with dvb := t.dvb, windows := t.windows, ended := t.ended } t) ∧
    (∀ ref : Nat, ∀ o, (s.dvbOf n).reasm.find? (·.ref == ref) = some o → (s.std n = 5 ∨ s.std n = 6) →
      ∃ t, exec (.dgReassemblyTimeout n ref) s = .next t ∧ t.get (F.T2_SVC7_DG_MALFORMED_EV n) = 1 ∧
        (t.dvbOf n).reasm = (s.dvbOf n).reasm.filter (fun r => !(r.ref == ref && r.version == o.version)) ∧
        s.changes [F.T2_SVC7_DG_MALFORMED_EV n] ({ s with dvb := t.dvb }) t)

/-- Measurement records (R255, R256, R257, R258, R259). Before its grid interval is over a window goes on; then it has ended at the interval's
end, where the next begins, with the precision bits of the moment, and the ended one waits for its record with what it needs of that moment; a
new PERIOD applies there, its first window marked PARTIAL. The record of the oldest ended window enters custody once its last frame is decoded;
the window of the intakes goes by its own grid. Completes: `recordWindowEnd`, `recordComplete`, `intakeRecordWindowEnd`. -/
def Obligations.Records : Prop :=
  ∀ s : State, s.Settled → s.dead = false →
    (∀ n < 96, ∀ w, s.window n = some w →
      (tsNs s.ts < w.due → ∃ t, exec (.recordWindowEnd n) s = .next t ∧ s.onlyFields [] t) ∧
      (w.due ≤ tsNs s.ts → s.period n ≠ 0 → s.shadow = [] →
        ∃ t, exec (.recordWindowEnd n) s = .next t ∧ (t.window n).map Win.plain = some (s.freshWin n (tsOfNs w.due) 0) ∧
          t.closed n = s.closed n ++ [s.winDone n (tsOfNs w.due) 0 w] ∧
          s.changes [fPending (berthCommit n)] ({ s with windows := t.windows, ended := t.ended }) t) ∧
      (w.due ≤ tsNs s.ts →
        ∃ t, exec (.recordWindowEnd n) s = .next t ∧ t.closed n = s.closed n ++ [s.winDone n (tsOfNs w.due) 0 w] ∧
          (t.window n).map Win.plain = (if t.period n = 0 then none else some (t.freshWin n (tsOfNs w.due) 0)) ∧
          (t.period n ≠ s.period n → ∀ v, t.window n = some v → bit v.bits pbPartial = true) ∧ s.steady t)) ∧
    (∀ n < 96,
      (s.closed n = [] → ∃ t, exec (.recordComplete n) s = .next t ∧ s.onlyFields [] t) ∧
      (∀ w, (s.closed n).head? = some w →
        ∃ t, exec (.recordComplete n) s = .next t ∧ t.closed n = (s.closed n).drop 1 ∧
          t.get { F.MSR_WINDOW_LAST with addr := msrAddr n 0x76 } = min 65535 (w.micros / 1000) ∧ s.steady t ∧
          (s.waiting n = [] → (s.prod n).highest = none → s.get (F.HLD_CAP_CAP.ofHold n) = 64 → s.charged n = 0 →
              w.results.length ≤ 900 → s.homeOf n = none →
            ∃ i ∈ t.custody, i.prod = n ∧ i.content = 8 ∧ i.ts = w.start ∧ i.seq = (s.prod n).next ∧ i.epoch = s.epoch))) ∧
    (s.get F.MSR_CFG_INTAKE_PERIOD ≠ 0 → s.serving = true → ∀ w, s.window winIntake = some w →
      (w.due ≤ tsNs s.ts →
        (∃ t, exec .intakeRecordWindowEnd s = .next t ∧ (t.window winIntake).map Win.start = some (tsOfNs w.due) ∧ s.steady t) ∧
        (s.waiting 0x60 = [] → 4 ≤ s.get (F.HLD_CAP_CAP.ofHold 107) → s.charged 107 = 0 →
          ∃ t, exec .intakeRecordWindowEnd s = .next t ∧
            ∃ i ∈ t.custody, i.prod = 0x60 ∧ i.content = 8 ∧ i.ts = w.start ∧ i.seq = (s.prod 0x60).next ∧ i.epoch = s.epoch)) ∧
      (tsNs s.ts < w.due → ∃ t, exec .intakeRecordWindowEnd s = .next t ∧ s.onlyFields [] t))

/-- The quays (R276, R281, R289, R290, R443). At a frame boundary a running quay that is not held off starts its oldest consignment, its first
one behind 64 idle columns; the last byte of the frame releases it and counts it; `Qn_HOLD` shows while QUAY is on, and holds a start off.
Completes: `quayFrameStart`, `quayFrameEnd`, `quayHoldRise`, `quayHoldFall`. -/
def Obligations.Quays : Prop :=
  ∀ s : State, s.Settled → s.dead = false → ∀ q < 4,
    (∀ i, s.quayHead q = some i → (s.quay q).sending = none → s.quayMayRun q = true → s.shadow = [] → s.get (F.QY_CTRL_STOPPED q) = 0 →
        s.domOn 7 = true → s.rebuilding = false → s.on (F.TB_OUT_CFG_RUNNING (4 + q)) = true →
      (s.heldOff q = false → (s.quay q).fresh = false ∨ 64 ≤ s.idleColumns q →
        ∃ t, exec (.quayFrameStart q) s = .next t ∧ (t.quay q).sending = some (i.prod, i.seq) ∧ (t.quay q).line = columnsOf 4 i.frame ∧
          t.get (F.QY_STATUS_SENDING q) = 1 ∧
          (i.replay = true → t.get (F.QY_STATUS_RESEND_EV q) = 1) ∧
          s.changes [F.QY_STATUS_SENDING q, F.QY_STATUS_RESEND_EV q, F.QY_STATUS_HELD_OFF q, fPending (quayCommit q)]
            ({ s with quays := t.quays }) t) ∧
      (s.heldOff q = true →
        ∃ t, exec (.quayFrameStart q) s = .next t ∧ (t.quay q).sending = none ∧ t.get (F.QY_STATUS_HELD_OFF q) = 1 ∧
          s.onlyFields [F.QY_STATUS_HELD_OFF q, fPending (quayCommit q)] t) ∧
      ((s.quay q).fresh = true → s.idleColumns q < 64 →
        ∃ t, exec (.quayFrameStart q) s = .next t ∧ (t.quay q).sending = none ∧
          s.onlyFields [F.QY_STATUS_HELD_OFF q, fPending (quayCommit q)] t)) ∧
    (∀ i, s.quayHead q = some i → (s.quay q).sending = some (i.prod, i.seq) → s.closing = false → 0 < i.content → i.content < 16 →
      ∃ t, exec (.quayFrameEnd q) s = .next t ∧ (t.quay q).sending = none ∧ t.get (F.QY_STATUS_SENDING q) = 0 ∧
        t.get (F.QY_FRAMES_COUNT q) = (s.get (F.QY_FRAMES_COUNT q) + 1) % 2 ^ 32 ∧ (t.prod i.prod).released = newer i.seq (s.prod i.prod).released ∧
        (t.stat i.prod 0).frames = ((s.stat i.prod 0).frames + 1) % 2 ^ 32 ∧
        (t.stat i.prod 0).lastSeq = i.seq ∧ (t.stat i.prod 0).bytes = ((s.stat i.prod 0).bytes + i.payload.length + 28) % 2 ^ 64 ∧ s.steady t ∧
        (s.outbox = [] → s.errExport = [] →
          t.custody = s.custody.filter (fun x => !(x.prod == i.prod && x.seq == i.seq)))) ∧
    (∃ t, exec (.quayHoldRise q) s = .next t ∧ bit t.holdPins q = true ∧
      t.get (F.QY_STATUS_HOLD_IN q) = (if s.domOn 7 then 1 else s.get (F.QY_STATUS_HOLD_IN q)) ∧
      (s.get (F.QY_CTRL_HOLD_EN q) = 0 → t.heldOff q = false) ∧
      s.changes [F.QY_STATUS_HOLD_IN q, F.QY_STATUS_HELD_OFF q] ({ s with holdPins := t.holdPins }) t) ∧
    (∃ t, exec (.quayHoldFall q) s = .next t ∧ bit t.holdPins q = false ∧
      t.get (F.QY_STATUS_HOLD_IN q) = (if s.domOn 7 then 0 else s.get (F.QY_STATUS_HOLD_IN q)) ∧
      (s.domOn 7 = true → t.get (F.QY_STATUS_HELD_OFF q) = 0) ∧
      s.changes [F.QY_STATUS_HOLD_IN q, F.QY_STATUS_HELD_OFF q] ({ s with holdPins := t.holdPins }) t)

/-- A receiver that holds a quay off for too long (R291). With HOLD_EN 1 and a limit, the quay sets HOLD_LONG_EV, writes an error-journal event
and raises the request, and still obeys the hold; a limit of 0 disables the notice; with HOLD_EN 0 the pin holds nothing off and nothing is
noticed, and HOLD_IN shows its level. Completes: `quayHoldLong`, `quayHoldRise`, `quayHoldFall`. -/
def Obligations.QuayHeldLong : Prop :=
  ∀ s : State, s.Settled → s.dead = false → s.domOn 7 = true → ∀ q < 4,
    (s.get (F.QY_CTRL_HOLD_EN q) = 1 → s.get (F.QY_STATUS_HOLD_IN q) = 1 → s.get (F.QY_HOLD_LIMIT_LIMIT q) ≠ 0 →
      ∃ t, exec (.quayHoldLong q) s = .next t ∧ t.get (F.QY_STATUS_HOLD_LONG_EV q) = 1 ∧ bit (t.get F.TW_ATTN_SRC_SOURCES) 2 = true ∧
        t.errCount = s.errCount + 1 ∧ t.heldOff q = true ∧ s.changesErr [F.QY_STATUS_HOLD_LONG_EV q] s t) ∧
    (s.get (F.QY_CTRL_HOLD_EN q) = 0 ∨ s.get (F.QY_HOLD_LIMIT_LIMIT q) = 0 →
      ∃ t, exec (.quayHoldLong q) s = .next t ∧ s.onlyFields [] t) ∧
    (s.get (F.QY_CTRL_HOLD_EN q) = 0 →
      ∃ t t', exec (.quayHoldRise q) s = .next t ∧ exec (.quayHoldFall q) s = .next t' ∧ t.heldOff q = false ∧ t.get (F.QY_STATUS_HOLD_IN q) = 1 ∧
        t'.get (F.QY_STATUS_HOLD_IN q) = 0)

/-- The landing port (R266, R267, R268, R281, R294, R295, R296, R297, R298, R299). Alignment is gained and lost; SOF opens a frame; a column of
frame bytes enters the FIFO, or is refused at full; what is no column sets CODE_EV; a whole frame is accepted, or discarded for its CRC, its
header or as a duplicate; the oldest accepted frame passes on where its destination has credit. Completes: `landingAligned`, `landingAlignLost`,
`landingColumnReceived`, `landingFrameJudged`, `landingFrameHandoff`. -/
def Obligations.Landing : Prop :=
  ∀ s : State, s.Settled → s.dead = false → s.landRuns = true →
    (∃ t, exec .landingAligned s = .next t ∧ t.get F.LAND_STATUS_ALIGNED = 1 ∧ s.onlyFields [F.LAND_STATUS_ALIGNED] t) ∧
    (s.on F.LAND_STATUS_ALIGNED = true →
      (∃ t, exec .landingAlignLost s = .next t ∧ t.get F.LAND_STATUS_ALIGNED = 0 ∧ t.get F.LAND_STATUS_ALIGN_LOST_EV = 1 ∧
        s.onlyFields [F.LAND_STATUS_ALIGNED, F.LAND_STATUS_ALIGN_LOST_EV] t) ∧
      (∀ g0 g1 : BitVec 10, s.landBusy = false → s.shadow = [] → s.landMayRun = true →
          landed (landGroup false (s.landRx.disparity.getD 0 false) g0) (landGroup false (s.landRx.disparity.getD 1 false) g1) = .sof →
        ∃ t, exec (.landingColumnReceived g0 g1 0) s = .next t ∧ t.landBusy = true ∧ t.landRx.bytes = s.landRx.bytes ∧
          t.landFifo = s.landFifo ∧ t.custody = s.custody ∧ t.err = s.err ∧ s.steady t) ∧
      (∀ (g0 g1 : BitVec 10) (l : List Byte), s.landBusy = true →
          landed (landGroup true (s.landRx.disparity.getD 0 false) g0) (landGroup true (s.landRx.disparity.getD 1 false) g1) = .bytes l →
        let next := { s.landRx with
          bytes := s.landRx.bytes ++ l, filled := l.length == 1, misplaced := s.landRx.misplaced || s.landRx.filled,
          disparity := [groupDisparity (s.landRx.disparity.getD 0 false) g0, groupDisparity (s.landRx.disparity.getD 1 false) g1] }
        (s.landDepth < landWords →
          ∃ t, exec (.landingColumnReceived g0 g1 0) s = .next t ∧ t.landRx = { next with words := s.landRx.words + 1 } ∧
            t.landFifo = s.landFifo ∧ t.custody = s.custody ∧ t.err = s.err ∧ s.steady t) ∧
        (landWords ≤ s.landDepth →
          ∃ t, exec (.landingColumnReceived g0 g1 0) s = .next t ∧ t.landRx = { next with refused := true } ∧
            t.get F.LAND_STATUS_OVERRUN = 1 ∧ t.get (F.HLD_STATUS_OVERRUN_EV.ofHold 109) = 1 ∧ t.landFifo = s.landFifo ∧ s.steady t) ∧
        (∀ f, s.landFifo.head? = some f → f.taken < f.words → s.landCredit f.bytes = true → s.landDepth = landWords →
          ∃ t, exec (.landingColumnReceived g0 g1 1) s = .next t ∧ t.landRx = { next with words := s.landRx.words + 1 } ∧
            t.landFifo = { f with taken := f.taken + 1 } :: s.landFifo.drop 1 ∧ s.steady t)) ∧
      (∀ g0 g1 : BitVec 10, s.landBusy = true →
          landed (landGroup true (s.landRx.disparity.getD 0 false) g0) (landGroup true (s.landRx.disparity.getD 1 false) g1) = .wrong →
        ∃ t, exec (.landingColumnReceived g0 g1 0) s = .next t ∧ t.landRx.code = true ∧ t.landRx.bytes = s.landRx.bytes ∧
          t.get F.LAND_STATUS_CODE_EV = 1 ∧ t.landFifo = s.landFifo ∧ t.custody = s.custody ∧ t.err = s.err ∧ s.steady t)) ∧
    (s.landBusy = true → s.landRx.refused = false → s.landRx.code = false → 28 ≤ s.landRx.bytes.length →
        ∀ body, s.landRx.bytes.take (s.landRx.bytes.length - 4) = body →
      (ofLe (s.landRx.bytes.drop (s.landRx.bytes.length - 4)) ≠ (crc32 body).toNat →
        ∃ t, exec (.landingFrameJudged false true) s = .next t ∧ t.landRx = { LandRx.reset with disparity := s.landRx.disparity } ∧
          t.get F.LAND_STATUS_CRC_EV = 1 ∧
          t.get F.LAND_DISCARDS_CRC = min 255 (s.get F.LAND_DISCARDS_CRC + 1) ∧ t.landFifo = s.landFifo ∧ s.steady t) ∧
      (ofLe (s.landRx.bytes.drop (s.landRx.bytes.length - 4)) = (crc32 body).toNat →
        (landHeaderOk s.landRx.bytes (!s.landRx.misplaced) = false →
          ∃ t, exec (.landingFrameJudged false true) s = .next t ∧ t.landRx = { LandRx.reset with disparity := s.landRx.disparity } ∧
            t.get F.LAND_STATUS_HEADER_EV = 1 ∧
            t.landFifo = s.landFifo ∧ t.landChans = s.landChans ∧ s.steady t) ∧
        (∀ c, s.chan (frameChan s.landRx.bytes) = c → landHeaderOk s.landRx.bytes (!s.landRx.misplaced) = true →
          (ofBe (slice s.landRx.bytes 12 4) = c.epoch → follows (ofBe (slice s.landRx.bytes 8 4)) c.seq = false →
            ∃ t, exec (.landingFrameJudged false true) s = .next t ∧ t.landRx = { LandRx.reset with disparity := s.landRx.disparity } ∧
              t.get F.LAND_STATUS_DUP_EV = 1 ∧
              t.landFifo = s.landFifo ∧ t.landChans = s.landChans ∧ s.steady t) ∧
          (ofBe (slice s.landRx.bytes 12 4) ≠ c.epoch ∨ follows (ofBe (slice s.landRx.bytes 8 4)) c.seq = true →
            ∃ t, exec (.landingFrameJudged false true) s = .next t ∧ t.landRx = { LandRx.reset with disparity := s.landRx.disparity } ∧
              t.landFifo = s.landFifo ++ [⟨(s.prod 0x63).next, s.landRx.bytes, s.landRx.words, 0, Copy.of s.landRx.bytes⟩] ∧
              (t.prod 0x63).next = ((s.prod 0x63).next + 1) % 2 ^ 32 ∧
              t.chan (frameChan s.landRx.bytes) = { c with epoch := ofBe (slice s.landRx.bytes 12 4), seq := ofBe (slice s.landRx.bytes 8 4) } ∧
              t.get F.LAND_ACCEPTED_COUNT = (s.get F.LAND_ACCEPTED_COUNT + 1) % 2 ^ 32 ∧ s.steady t)))) ∧
    (∀ f, s.landFifo.head? = some f → s.landCredit f.bytes = true →
      ∃ t, exec .landingFrameHandoff s = .next t ∧ t.landFifo = s.landFifo.drop 1 ∧
        (t.landKept f.seq = false → (t.prod 0x63).released = newer f.seq (s.prod 0x63).released) ∧ s.steady t) ∧
    (∀ f, s.landFifo.head? = some f → s.landCredit f.bytes = false → ∃ t, exec .landingFrameHandoff s = .next t ∧ s.onlyFields [] t)

/-- The start and the output states of audio ports (R306, R309, R311, R312, R313, R314, R315). `AU_START` sets RUN and the start instant of the
ports it names: with `AU_START_AT` 0, the next 10 ms boundary at least 2 ms ahead; at the instant a port runs and settles, counting from frame 0,
where its start is still allowed; it ramps once its converter is filled, and fades and ramps end in SILENT, PLAYING or STOPPED; those of single
slots of a playing port end one by one. Completes: `auStartWrite`, `audioStartInstant`, `audioSettled`, `audioFadeDone`. -/
def Obligations.AudioOutput : Prop :=
  ∀ s : State, s.Settled → s.dead = false → ∀ p < 4,
    (s.portsUp = true → s.pinLow = false → s.stage = none → s.startBad p = false → s.get F.AU_START_AT_SECONDS = 0 →
      ∃ t, exec (.auStartWrite (BitVec.ofNat 16 (2 ^ p))) s = .next t ∧ t.get (F.AU_CTRL_RUN p) = 1 ∧
        (t.port p).startAt = some (ceilDiv (s.nowNs + 2000000) 10000000 * 10000000) ∧ s.steady t) ∧
    (s.portsUp = true → s.get (F.AU_CTRL_RUN p) = 1 → (s.port p).startAt ≠ none → s.on (F.AU_STATUS_UNSUPPORTED p) = false →
        s.isRetired .converter p = false → s.mode ≠ .survey →
      (s.get (F.AU_CTRL_MASTER p) = 1 → s.get (F.AU_CTRL_STOPPED p) = 1 → s.startBad p = true →
        ∃ t, exec (.audioStartInstant p) s = .next t ∧ t.get (F.AU_CTRL_STOPPED p) = 1 ∧ t.get (F.AU_CTRL_RUN p) = 0 ∧
          (t.port p).startAt = none ∧ s.steady t) ∧
      (s.get (F.AU_CTRL_MASTER p) = 1 → s.get (F.AU_CTRL_STOPPED p) = 1 → s.startBad p = false →
        ∃ t, exec (.audioStartInstant p) s = .next t ∧ t.get (F.AU_CTRL_STOPPED p) = 0 ∧ t.outState p = osSettling ∧
          t.get (F.AU_DIV_DIV p) = ((s.auDiv p).1 / (s.auDiv p).2) % 2 ^ (F.AU_DIV_DIV p).width ∧ t.position p = 0 ∧ s.steady t) ∧
      (s.get (F.AU_CTRL_MASTER p) = 0 → s.on (F.AU_STATUS_CLOCK_OK p) = true → s.get (F.AU_CTRL_STOPPED p) = 0 ∨ s.startBad p = false →
        ∃ t, exec (.audioStartInstant p) s = .next t ∧ t.get (F.AU_CTRL_STOPPED p) = 0 ∧ t.outState p = osSettling ∧
          t.get (F.AU_DIV_DIV p) = 0 ∧ (t.port p).fs = s.get (F.AU_CLOCK_FS_FOUND p) ∧ s.steady t) ∧
      (s.get (F.AU_CTRL_MASTER p) = 0 → s.on (F.AU_STATUS_CLOCK_OK p) = false →
        ∃ t, exec (.audioStartInstant p) s = .next t ∧ s.onlyFields [] t)) ∧
    (s.portRuns p = true → s.outState p = osSettling →
      ∃ t, exec (.audioSettled p) s = .next t ∧ t.outState p = (if s.portQuiet p then osSilent else osRamping) ∧
        t.get (F.HLD_FILL_FILL.ofHold (100 + p)) = (t.port p).fifo.length % 2 ^ (F.HLD_FILL_FILL.ofHold (100 + p)).width ∧ s.steady t) ∧
    (s.portRuns p = true →
      (s.outState p = osRamping → ∃ t, exec (.audioFadeDone p) s = .next t ∧ t.outState p = osPlaying ∧ s.onlyFields [F.AU_STATUS_OUT_STATE p] t) ∧
      (s.outState p = osFading → (s.port p).stop = false → s.portQuiet p = true →
        s.get (F.AU_CTRL_RUN p) = 1 → ∃ t, exec (.audioFadeDone p) s = .next t ∧ t.outState p = osSilent ∧ s.steady t) ∧
      (s.outState p = osFading → (s.port p).stop = true → s.get (F.AU_CTRL_RUN p) = 0 →
        ∃ t, exec (.audioFadeDone p) s = .next t ∧ t.outState p = osStopped ∧ t.get (F.AU_CTRL_STOPPED p) = 1 ∧ s.steady t) ∧
      (s.outState p = osPlaying → ∃ t, exec (.audioFadeDone p) s = .next t ∧
        t.port p = (s.port p).settle (fun slot => (s.slotSource p slot).isSome) ∧ s.changes [] ({ s with ports := t.ports }) t))

/-- Late slots and underruns (R268, R311, R316). A late slot shows in `AU_LATE` and is written as zeros; an underrun counts, fades the port and
is noted in the error journal; once the converter runs again the port ramps. Completes: `audioSlotLate`, `audioUnderrun`, `audioConverterResume`.
-/
def Obligations.AudioGaps : Prop :=
  ∀ s : State, s.Settled → s.dead = false → ∀ p < 4,
    (∀ slot < 32, s.portRuns p = true → slot ≤ s.get (F.AU_CFG_SLOTS p) → s.slotRouted p slot = true →
      ∃ t, exec (.audioSlotLate p slot) s = .next t ∧ t.get (F.AU_STATUS_LATE_EV p) = 1 ∧
        bit (t.get (F.AU_LATE_SLOTS p)) slot = true ∧
        (∃ f, (t.port p).fifo.getLast? = some f ∧ f.number = (s.port p).ahead ∧ f.words[slot]? = some 0) ∧ s.steady t) ∧
    (s.portRuns p = true →
      ∃ t, exec (.audioUnderrun p) s = .next t ∧ t.get (F.AU_STATUS_UNDERRUN p) = 1 ∧
        t.get (F.AU_COUNTS_UNDERRUNS p) = min 255 (s.get (F.AU_COUNTS_UNDERRUNS p) + 1) ∧
        t.get (F.HLD_STATUS_UNDERRUN_EV.ofHold (100 + p)) = 1 ∧ (t.port p).dry = true ∧ (t.port p).fifo = [] ∧
        t.outState p = (if s.outState p = osPlaying ∨ s.outState p = osRamping then osFading else s.outState p) ∧
        s.errCount < t.errCount ∧ s.steady t) ∧
    ((s.port p).dry = true → (s.unit .converter p).testing = false → s.isRetired .converter p = false →
      ∃ t, exec (.audioConverterResume p) s = .next t ∧ (t.port p).dry = false ∧ s.steady t ∧
        (s.get (F.AU_CTRL_RUN p) = 1 → (t.port p).fresh = (s.port p).frames + 65) ∧
        (s.portRuns p = true → s.get (F.AU_CTRL_RUN p) = 1 → s.on (F.AU_CTRL_MUTE p) = false → (s.port p).survey = false →
          (s.port p).startAt = none → s.outState p = osSilent → t.outState p = osRamping))

/-- Slave clocks (R307, R317). A window shows the rate and the standard rate found; a stopped clock, a wrong frame or a changed rate mutes the
port; sixteen good frames qualify the clock, and a muted port ramps. Completes: `audioRateWindow`, `slaveClockStop`, `slaveFrameGlitch`,
`slaveRateChange`, `slaveClockQualified`. -/
def Obligations.SlaveClocks : Prop :=
  ∀ s : State, s.Settled → s.dead = false → ∀ p < 4, s.slaveUp p = true →
    (∀ rate : BitVec 32,
      (s.slaveFits p (rateFound rate.toNat) = true →
        ∃ t, exec (.audioRateWindow p rate) s = .next t ∧ t.get (F.AU_RATE_RATE p) = rate.toNat ∧
          t.get (F.AU_CLOCK_FS_FOUND p) = rateFound rate.toNat ∧ t.get (F.AU_STATUS_UNSUPPORTED p) = 0 ∧
          s.onlyFields [F.AU_RATE_RATE p, F.AU_CLOCK_FS_FOUND p, F.AU_STATUS_UNSUPPORTED p] t) ∧
      (s.slaveFits p (rateFound rate.toNat) = false →
        ∃ t, exec (.audioRateWindow p rate) s = .next t ∧ t.get (F.AU_CLOCK_FS_FOUND p) = rateFound rate.toNat ∧ t.get (F.AU_STATUS_UNSUPPORTED p) = 1 ∧
          (s.portRuns p = true → t.outState p = osMuted) ∧
          s.onlyFields [F.AU_RATE_RATE p, F.AU_CLOCK_FS_FOUND p, F.AU_STATUS_UNSUPPORTED p, F.AU_STATUS_OUT_STATE p] t)) ∧
    (∃ t, exec (.slaveClockStop p) s = .next t ∧ t.get (F.AU_STATUS_CLK_STOP_EV p) = 1 ∧ t.get (F.AU_STATUS_CLOCK_OK p) = 0 ∧
      t.outState p = (if s.portRuns p then osMuted else s.outState p) ∧
      s.onlyFields [F.AU_STATUS_CLK_STOP_EV p, F.AU_STATUS_CLOCK_OK p, F.AU_STATUS_OUT_STATE p] t) ∧
    (∃ t, exec (.slaveFrameGlitch p) s = .next t ∧ t.get (F.AU_STATUS_GLITCH_EV p) = 1 ∧ t.get (F.AU_STATUS_CLOCK_OK p) = 0 ∧
      t.get (F.AU_COUNTS_GLITCHES p) = min 255 (s.get (F.AU_COUNTS_GLITCHES p) + 1) ∧
      t.outState p = (if s.portRuns p then osMuted else s.outState p) ∧
      s.onlyFields [F.AU_STATUS_GLITCH_EV p, F.AU_COUNTS_GLITCHES p, F.AU_STATUS_CLOCK_OK p, F.AU_STATUS_OUT_STATE p] t) ∧
    (∃ t, exec (.slaveRateChange p) s = .next t ∧ t.get (F.AU_STATUS_RATE_EV p) = 1 ∧ t.get (F.AU_STATUS_CLOCK_OK p) = 0 ∧
      t.outState p = (if s.portRuns p then osMuted else s.outState p) ∧ bit (t.get F.TW_ATTN_SRC_SOURCES) 6 = true ∧
      s.onlyFields [F.AU_STATUS_RATE_EV p, F.AU_STATUS_CLOCK_OK p, F.AU_STATUS_OUT_STATE p, F.TW_ATTN_SRC_SOURCES, F.TW_STATUS_ATTN_PENDING] t) ∧
    (s.slaveFits p (s.get (F.AU_CLOCK_FS_FOUND p)) = true →
      ∃ t, exec (.slaveClockQualified p) s = .next t ∧ t.get (F.AU_STATUS_CLOCK_OK p) = 1 ∧
        (s.portRuns p = true → (t.port p).fs = s.get (F.AU_CLOCK_FS_FOUND p)) ∧
        (s.portRuns p = true → s.outState p = osMuted → s.isRetired .converter p = false →
          t.outState p = (if s.portQuiet p then osSilent else osRamping)) ∧
        s.changes [F.AU_STATUS_CLOCK_OK p, F.AU_STATUS_RATE_EV p, F.AU_STATUS_OUT_STATE p, F.TW_ATTN_SRC_SOURCES, F.TW_STATUS_ATTN_PENDING]
          ({ s with ports := t.ports }) t)

/-- The keys of the bond engine (R326, R327, R328, R347). A key that unwraps enters its slot, or waits for the requests of the old generation;
erasure empties the slots at once; the burn of the fuses starts once, and at its end the key-encryption key is locked with its check value.
Completes: `loadKey`, `eraseSlot`, `eraseAll`, `programKek`, `kekBurnDone`. -/
def Obligations.BondKeys : Prop :=
  ∀ s : State, s.Settled → s.dead = false →
    (s.pinLow = false → s.stage = none → s.gated srcTwoWire 0x2401 = false →
      (∀ slot < 32, ∀ k, (s.loadCheck slot).1 = some k →
        (s.inUse slot = false →
          ∃ t, exec (.loadKey 0x5A slot) s = .next t ∧ (t.slot slot).key = some k.1 ∧ (t.slot slot).usage = k.2 ∧
            (t.slot slot).gen = ((s.slot slot).gen + 1) % 65536 ∧ (t.slot slot).pending = none ∧ t.get F.BOND_STATUS_ERASED = 0 ∧
            t.keyWrap = [] ∧ t.kek = s.kek ∧ (∀ j < 32, j ≠ slot → t.slot j = s.slot j) ∧ t.custody = s.custody ∧ t.mode = s.mode) ∧
        (s.inUse slot = true →
          ∃ t, exec (.loadKey 0x5A slot) s = .next t ∧ (t.slot slot).key = (s.slot slot).key ∧ (t.slot slot).gen = (s.slot slot).gen ∧
            (t.slot slot).pending = some (k.1, k.2, false) ∧ t.keyWrap = [] ∧ t.kek = s.kek)) ∧
      (∀ slot < 32, (s.loadCheck slot).1 = none →
        ∃ t, exec (.loadKey 0x5A slot) s = .next t ∧ t.slots = s.slots ∧ t.get F.BOND_STATUS_CMD_REFUSED = 1 ∧ t.keyWrap = []) ∧
      (∀ slot < 32,
        (∃ t, exec (.eraseSlot 0x5A slot) s = .next t ∧ (t.slot slot).key = none ∧ (t.slot slot).pending = none ∧ t.kek = s.kek) ∧
        (s.bondReqs = [] →
          ∃ t, exec (.eraseSlot 0x5A slot) s = .next t ∧ (t.slot slot).key = none ∧
            (t.slot slot).gen = ((s.slot slot).gen + b2n (s.slot slot).key.isSome) % 65536 ∧ (∀ j < 32, j ≠ slot → t.slot j = s.slot j) ∧
            t.kek = s.kek ∧ t.custody = s.custody)) ∧
      (∃ t, exec (.eraseAll 0x5A) s = .next t ∧ (∀ j < 32, (t.slot j).key = none ∧ (t.slot j).pending = none) ∧ t.kek = s.kek) ∧
      (s.kek = none → s.kekBurn = none → s.serving = true →
        ∃ t, exec (.programKek 0x5A) s = .next t ∧
          t.kekBurn = some ((List.range 16).map (fun j => be 2 (Tbl.get (fun _ => 0) s.kekData j))).flatten ∧ s.steady t)) ∧
    (∀ k, s.kekBurn = some k →
      ∃ t, exec .kekBurnDone s = .next t ∧ t.kek = some k ∧ t.get F.BOND_STATUS_KEK_LOCKED = 1 ∧
        t.get F.BOND_KEK_KCV_KCV = keyCheck k % 2 ^ F.BOND_KEK_KCV_KCV.width ∧
        s.changes [F.BOND_STATUS_KEK_LOCKED, F.BOND_KEK_KCV_KCV] ({ s with kek := t.kek, kekBurn := none, kekData := [] }) t)

/-- The work of the bond engine (R18, R330, R331, R336, R338, R341, R344, R347, R395). A request enters the hold bound to the generation of its
slot; the engine takes the request in the hold, and makes its IV entry; a whole envelope with the right tag is accepted, one with a wrong tag or
a bad header is rejected; an XTS unit that is processed is counted and leaves the hold; a request handed over again is not taken twice; while
outputs wait for credit the engine waits; a residue failure starts the request again. Completes: `bondRequestAccept`, `bondRequestServe`,
`gcmVerdict`, `xtsSectorDone`, `bondResidueFault`. -/
def Obligations.BondService : Prop :=
  ∀ s : State, s.Settled → s.dead = false →
    (∀ (mode : Nat) (seq : BitVec 32) (ts : BitVec 64) (d : List Byte), s.domOn 7 = true → mode = 1 ∨ mode = 3 →
        s.bondCredit d.length = true →
      (s.isTaken 0x63 seq.toNat = true → ∃ t, exec (.bondRequestAccept 0x63 seq mode ts d) s = .next t ∧ s.onlyFields [] t) ∧
      (s.isTaken 0x63 seq.toNat = false →
      ∃ t, exec (.bondRequestAccept 0x63 seq mode ts d) s = .next t ∧ t.bondReqs.length = s.bondReqs.length + 1 ∧
        t.bondNext = s.bondNext + 1 ∧ t.isTaken 0x63 seq.toNat = true ∧
        (∃ r ∈ t.bondReqs, r.id = s.bondNext ∧ r.src = 0x63 ∧ r.srcSeq = seq.toNat ∧ r.mode = mode ∧ r.data = d ∧
          r.slot = byteAt d 2 % 32 ∧ r.gen = (s.slot (byteAt d 2 % 32)).bound) ∧ s.steady t)) ∧
    (s.on F.BOND_STATUS_ENGINE_OK = true → s.outputsWait = false → ∀ bytes : Nat,
      (∀ r, s.bondHead = some r → s.bondServing = none → r.mode ≠ 1 → s.bondReqs = [r] →
        ∃ t, exec (.bondRequestServe bytes true) s = .next t ∧ t.bondNow = some r.id ∧
          t.bondReqs = [{ r with progress := min r.total (r.progress + bytes) }] ∧ s.changes [] ({ s with bondNow := t.bondNow, bondReqs := t.bondReqs }) t) ∧
      (∀ r, s.bondHead = some r → s.bondServing = none → r.mode = 1 → r.early = rsnNone → r.owns = false → s.ivMatch r = none →
          s.bondReqs = [r] → s.ivTable.length < 4096 → r.streams = false →
        ∃ t, exec (.bondRequestServe bytes true) s = .next t ∧ t.bondNow = some r.id ∧
          t.bondReqs = [{ r with owns := true, progress := min r.total (r.progress + bytes) }] ∧
          t.ivTable = s.ivTable ++ [⟨r.slot, r.gen, envIv r.data, 0, s.clock⟩] ∧
          s.changes [F.BOND_IV_FILL_ENTRIES] ({ s with bondNow := t.bondNow, bondReqs := t.bondReqs, ivTable := t.ivTable }) t)) ∧
    (∀ r, s.bondServing = some r → r.mode = 1 → s.bondReqs = [r] → s.outbox = [] → s.caps = [] → s.relays = [] →
        (∀ j < 32, (s.slot j).pending = none) →
        s.charged 105 + 33 * ceilDiv r.total 8176 + 1 ≤ s.get (F.HLD_CAP_CAP.ofHold 105) →
      (r.early ≠ rsnNone →
        ∃ t, exec .gcmVerdict s = .next t ∧ t.bondReqs = [] ∧ t.bondNow = none ∧
          t.get F.BOND_REJECTS_COUNT = (s.get F.BOND_REJECTS_COUNT + 1) % 2 ^ 32 ∧
            (t.prod r.src).released = (((s.releaseNo r.src r.srcSeq).each r.landed (fun n x => x.releaseNo 0x63 n)).prod r.src).released ∧ s.steady t) ∧
      (r.early = rsnNone → s.slotCheck r = rsnNone → r.complete = true → r.total ≤ r.progress → r.streams = false → envTag96 r.data = false →
          bit (byteAt r.data 1) 1 = false →
        ∀ key, (s.slot r.slot).key = some key →
        (gcmTag key (envIv r.data) (envAad r.data) (envCt r.data) = envTag r.data →
          ∃ t, exec .gcmVerdict s = .next t ∧ t.bondReqs = [] ∧ t.bondNow = none ∧
            t.get F.BOND_ACCEPTS_COUNT = (s.get F.BOND_ACCEPTS_COUNT + 1) % 2 ^ 32 ∧
            t.get F.BOND_REJECTS_COUNT = s.get F.BOND_REJECTS_COUNT ∧
            (t.prod r.src).released = (((s.releaseNo r.src r.srcSeq).each r.landed (fun n x => x.releaseNo 0x63 n)).prod r.src).released ∧ s.steady t) ∧
        (gcmTag key (envIv r.data) (envAad r.data) (envCt r.data) ≠ envTag r.data →
          ∃ t, exec .gcmVerdict s = .next t ∧ t.bondReqs = [] ∧ t.bondNow = none ∧
            t.get F.BOND_REJECTS_COUNT = (s.get F.BOND_REJECTS_COUNT + 1) % 2 ^ 32 ∧ t.get F.BOND_STATUS_TAG_FAIL = 1 ∧
            t.get F.BOND_ACCEPTS_COUNT = s.get F.BOND_ACCEPTS_COUNT ∧
            (t.prod r.src).released = (((s.releaseNo r.src r.srcSeq).each r.landed (fun n x => x.releaseNo 0x63 n)).prod r.src).released ∧ s.steady t))) ∧
    (s.outputsWait = true →
      (∃ t, exec .gcmVerdict s = .next t ∧ s.onlyFields [] t) ∧ (∃ t, exec .xtsSectorDone s = .next t ∧ s.onlyFields [] t)) ∧
    (∀ r, s.bondServing = some r → r.mode = 2 → s.bondReqs = [r] → s.outbox = [] → s.caps = [] → s.relays = [] →
        (∀ j < 32, (s.slot j).pending = none) →
        s.charged 105 + 33 * ceilDiv r.total 8176 + 1 ≤ s.get (F.HLD_CAP_CAP.ofHold 105) → r.channel < 8 → s.xtsCheck r = rsnNone → r.total ≤ r.progress →
      ∃ t, exec .xtsSectorDone s = .next t ∧ t.bondReqs = [] ∧ t.bondNow = none ∧
        t.get (F.CAP_UNITS_COUNT r.channel) = (s.get (F.CAP_UNITS_COUNT r.channel) + 1) % 2 ^ 32 ∧ s.steady t) ∧
    (∀ r, s.bondServing = some r →
      ∃ t, exec .bondResidueFault s = .next t ∧ t.bondNow = none ∧ t.get F.BOND_STATUS_ENGINE_OK = 0 ∧ s.errCount < t.errCount ∧
        t.bondReqs = s.bondReqs.map (fun x => if x.id == r.id then { x with progress := 0 } else x) ∧ s.steady t)

/-- Capture, IV table, entropy and key shares (R323, R324, R341, R343). A unit that waits is closed early, filled with 0xFF, and enters the
request hold, and one whose channel never flushes stays open; an entry of the IV table expires, unless in flight; a failed health test stops the
engine and starts its self-test; a retry that passes seeds the DRBG with 384 bits of entropy and, where nothing else stops it, the engine runs
again, one that fails leaves it stopped; the DRBG of a running engine takes a new seed; the shares of every slot that holds a key take new masks
of the DRBG, one after another, and no key, usage or generation changes. Completes: `captureFlushTimeout`, `ivEntryExpire`, `entropyHealthFail`,
`entropyRetry`, `drbgReseed`, `keyShareRefresh`. -/
def Obligations.BondUpkeep : Prop :=
  ∀ s : State, s.Settled → s.dead = false →
    (∀ c < 8, (s.cap c).buf ≠ [] → (s.cap c).buf.length < s.capUnit c → s.bondCredit (s.capUnit c) = true →
        s.get (F.CAP_FLUSH_MS c) ≠ 0 →
      ∃ t, exec (.captureFlushTimeout c) s = .next t ∧ (t.cap c).buf = [] ∧ t.bondReqs.length = s.bondReqs.length + 1 ∧
        t.get (F.CAP_CTRL_FILLING c) = 0 ∧ t.get (F.CAP_DUN_DUN c) = (s.get (F.CAP_DUN_DUN c) + 1) % 2 ^ (F.CAP_DUN_DUN c).width ∧
        (∃ r ∈ t.bondReqs, r.id = s.bondNext ∧ r.mode = 2 ∧ r.channel = c ∧ r.dun = s.get (F.CAP_DUN_DUN c) ∧
          r.data = (s.cap c).buf ++ List.replicate (s.capUnit c - (s.cap c).buf.length) 0xFF#8) ∧ s.steady t) ∧
    (∀ c < 8, s.get (F.CAP_FLUSH_MS c) = 0 → ∃ t, exec (.captureFlushTimeout c) s = .next t ∧ s.onlyFields [] t) ∧
    (∀ (slot : Nat) (gen : Word) (iv : List Byte),
      ∃ t, exec (.ivEntryExpire slot gen iv) s = .next t ∧
        t.ivTable = s.ivTable.filter (fun e => !(e.slot == slot && e.gen == gen.toNat && e.iv == iv && e.state != 0)) ∧
        t.get F.BOND_IV_FILL_ENTRIES = t.ivTable.length % 2 ^ F.BOND_IV_FILL_ENTRIES.width ∧
        s.changes [F.BOND_IV_FILL_ENTRIES] ({ s with ivTable := t.ivTable }) t) ∧
    (∃ t, exec .entropyHealthFail s = .next t ∧ t.get F.BOND_STATUS_ENTROPY_FAIL = 1 ∧ t.get F.BOND_STATUS_ENGINE_OK = 0 ∧
      (t.unit .bond 0).testing = true ∧ s.errCount < t.errCount ∧ t.bondReqs = s.bondReqs ∧ s.steady t) ∧
    (s.get F.BOND_STATUS_ENTROPY_FAIL = 1 →
      (∃ t, exec (.entropyRetry true) s = .next t ∧ t.get F.BOND_STATUS_ENTROPY_FAIL = 0 ∧ t.drbg = some (Drbg.fresh s.drbg s.entropy.1) ∧
        t.freeCtr = s.freeCtr + 6 ∧
        t.get F.BOND_STATUS_ENGINE_OK = b2n (s.domOn 7 && !(s.unit .bond 0).testing && !(s.unit .bond 0).retired) ∧
        s.changes [F.BOND_STATUS_ENTROPY_FAIL, F.BOND_STATUS_ENGINE_OK] ({ s with drbg := t.drbg, freeCtr := t.freeCtr }) t) ∧
      (∃ t, exec (.entropyRetry false) s = .next t ∧ s.onlyFields [] t)) ∧
    (s.get F.BOND_STATUS_ENGINE_OK = 1 →
      ∃ t, exec .drbgReseed s = .next t ∧ t.drbg = some (Drbg.fresh s.drbg s.entropy.1) ∧ t.freeCtr = s.freeCtr + 6 ∧
        s.changes [F.BOND_STATUS_ENGINE_OK] ({ s with drbg := t.drbg, freeCtr := t.freeCtr }) t) ∧
    (s.get F.BOND_STATUS_ENGINE_OK = 0 → ∃ t, exec .drbgReseed s = .next t ∧ s.onlyFields [] t) ∧
    (∃ t, exec .keyShareRefresh s = .next t ∧
      (∀ j < 32, t.slot j = (match (s.slot j).key with
        | some key => { s.slot j with
            mask := ((s.each ((List.range j).filterMap (fun i => (s.slot i).key.map List.length)) (fun n u => (u.random n).2)).random
              key.length).1 }
        | none => s.slot j)) ∧
      t.drbg = (s.each ((List.range 32).filterMap (fun i => (s.slot i).key.map List.length)) (fun n u => (u.random n).2)).drbg ∧
      t.freeCtr = (s.each ((List.range 32).filterMap (fun i => (s.slot i).key.map List.length)) (fun n u => (u.random n).2)).freeCtr ∧
      s.changes [] ({ s with slots := t.slots, freeCtr := t.freeCtr, drbg := t.drbg }) t)

/-- The pilot schedule (R276, R340, R358, R360, R362, R363, R364, R365). Requests take numbers of producer 0x64, and one handed over again is not
taken twice; at the head of the schedule a disabled link or a malformed request ends it, a sample pair that is not ready makes it wait, and an
urgent one waits for budget or goes to the clear-channel check; a clear channel gives the start decision, which charges the air time; a busy one
gives a backoff, and after seven the end; a wait that lasts too long ends the request. Completes: `pilotRequestAccept`, `periodicDue`,
`pilotScheduleStep`, `lockWaitExpire`, `budgetWaitExpire`, `ccaMeasureDone`, `ccaBackoffEnd`. -/
def Obligations.PilotSchedule : Prop :=
  ∀ s : State, s.Settled → s.dead = false →
    (∀ (seq : BitVec 32) (cont : Bool) (d : List Byte), s.txCredit = true → s.domOn 7 = true →
      (s.isTaken (256 + 0x63) seq.toNat = false →
        ∃ t, exec (.pilotRequestAccept 0x63 seq cont d) s = .next t ∧
          t.schedule = s.schedule ++ [{ s.hostRequest seq.toNat cont d with
            seq := (s.prod 0x64).next, copy := Copy.of (s.hostRequest seq.toNat cont d).payloads.flatten }] ∧
          (t.prod 0x64).next = ((s.prod 0x64).next + 1) % 2 ^ 32 ∧ t.isTaken (256 + 0x63) seq.toNat = true ∧ s.steady t) ∧
      (s.isTaken (256 + 0x63) seq.toNat = true →
        ∃ t, exec (.pilotRequestAccept 0x63 seq cont d) s = .next t ∧ s.onlyFields [] t)) ∧
    (∀ e p, s.periodics[e]? = some p → bit (s.get F.PLT_PERIODIC_EN_ENABLE) e = true → s.serving = true → s.domOn 7 = true →
      (s.txCredit = true → s.schedule.any (fun r => r.entry == some e) = false →
        ∃ t, exec (.periodicDue e) s = .next t ∧ t.schedule.length = s.schedule.length + 1 ∧
          t.schedule.getLast?.map TxReq.entry = some (some e) ∧ t.schedule.getLast?.map TxReq.payloads = some [p.payload] ∧ s.steady t) ∧
      (s.schedule.any (fun r => r.entry == some e) = true →
        ∃ t, exec (.periodicDue e) s = .next t ∧ t.get F.PLT_STATUS_PERIODIC_SKIP_EV = 1 ∧ s.onlyFields [F.PLT_STATUS_PERIODIC_SKIP_EV] t)) ∧
    (∀ r, s.txHead = some r → s.txNow = none → s.scheduleServes = true →
      (s.on F.PLT_CTRL_RUN = false ∨ r.malformed = true →
        ∃ t, exec .pilotScheduleStep s = .next t ∧ t.schedule = s.schedule.filter (fun x => x.seq != r.seq) ∧
          t.get F.PLT_LAST_RESULT = (if s.on F.PLT_CTRL_RUN then txMalformed else txDisabled) ∧
          (t.prod 0x64).released = newer r.seq (s.prod 0x64).released ∧ s.steady t) ∧
      (s.on F.PLT_CTRL_RUN = true → r.malformed = false → s.pairReady = false →
        ∃ t, exec .pilotScheduleStep s = .next t ∧ s.changes [] ({ s with txAt := (r.seq, .lockWait), cca := [] }) t) ∧
      (s.on F.PLT_CTRL_RUN = true → r.malformed = false → s.pairReady = true → (s.unit .txDac 0).testing = false → r.urgent = true →
        (r.charged = false → s.allowance true < s.dutyUsed + r.air →
          ∃ t, exec .pilotScheduleStep s = .next t ∧ s.changes [] ({ s with txAt := (r.seq, .budgetWait), cca := [] }) t) ∧
        (s.dutyUsed + r.air ≤ s.allowance true →
          ∃ t, exec .pilotScheduleStep s = .next t ∧ s.changes [] ({ s with txAt := (r.seq, .cca), cca := [] }) t))) ∧
    (∀ r, s.txHead = some r → ∀ x, s.txNow = some x → x.seq ≠ r.seq → s.txAt.2 ∈ [.lockWait, .listenWait, .rxWait, .budgetWait] →
        s.scheduleServes = true → s.on F.PLT_CTRL_RUN = true → r.malformed = false → s.pairReady = false →
      ∃ t, exec .pilotScheduleStep s = .next t ∧
        s.changes [] ({ s with txAt := (r.seq, .lockWait), cca := [],
                               schedule := s.schedule.map (fun y => if y.seq == x.seq then { y with attempts := 0 } else y) }) t) ∧
    (∀ r, s.txNow = some r →
      (s.txAt.2 = .lockWait →
        ∃ t, exec .lockWaitExpire s = .next t ∧ t.schedule = s.schedule.filter (fun x => x.seq != r.seq) ∧ t.txAt = (0, .idle) ∧
          t.get F.PLT_LAST_RESULT = txLate ∧ t.get F.PLT_STATUS_LATE_EV = 1 ∧ s.steady t) ∧
      (s.txAt.2 = .budgetWait →
        ∃ t, exec .budgetWaitExpire s = .next t ∧ t.schedule = s.schedule.filter (fun x => x.seq != r.seq) ∧ t.txAt = (0, .idle) ∧
          t.get F.PLT_LAST_RESULT = txNoBudget ∧ t.get F.PLT_STATUS_NO_BUDGET_EV = 1 ∧ s.steady t) ∧
      (s.txAt.2 = .cca → s.displaced r = none → r.attempts ≤ 7 →
        ∃ t, exec .ccaMeasureDone s = .next t ∧
          (if s.ccaLevel r.channel r.rate < 1000 * sext 8 (s.get F.PLT_RX_CFG_CCA_THRESH) then
            if s.pairReady then
              t.txAt = (r.seq, .started) ∧ t.get F.PLT_CTRL_TX_BUSY = 1 ∧
              t.dutyUsed = s.dutyUsed + airUnits r.rate r.preamble ((r.payloads.headD []).length) ∧
              s.changes [F.PLT_CTRL_TX_BUSY] ({ s with dutyBins := t.dutyBins, schedule := t.schedule, txAt := t.txAt }) t
            else s.changes [] ({ s with txAt := (r.seq, .lockWait) }) t
          else if r.attempts < 7 then
            t.txAt = (r.seq, .backoff) ∧
            (if r.urgent then 1 ≤ t.backoff ∧ t.backoff ≤ 8 else 5 ≤ t.backoff ∧ t.backoff ≤ 40) ∧
            s.changes [] ({ s with txAt := t.txAt, backoff := t.backoff, freeCtr := t.freeCtr, drbg := t.drbg,
                                   schedule := s.schedule.map (fun x => if x.seq == r.seq then { x with attempts := x.attempts + 1 } else x) }) t
          else
            t.schedule = s.schedule.filter (fun x => x.seq != r.seq) ∧
            t.get F.PLT_LAST_RESULT = txBusy ∧ t.get F.PLT_STATUS_BUSY_EV = 1 ∧ s.steady t)) ∧
      (s.txAt.2 = .backoff → s.displaced r = none →
        ∃ t, exec .ccaBackoffEnd s = .next t ∧ s.changes [] ({ s with txAt := (r.seq, .cca), cca := [] }) t))

/-- The transmitter (R355, R356, R357, R361, R365, R366, R367). The pilot window opens with the switches to transmit; the last bit returns them
to receive and counts the frame; the turn-round closes the window, and ends the request or turns to its next frame; a listen window ends; an
air-time bin leaves the hour. Completes: `pilotWindowOpen`, `pilotAirEnd`, `pilotTurnroundEnd`, `listenWindowEnd`, `dutyBinExpire`. -/
def Obligations.PilotTransmitter : Prop :=
  ∀ s : State, s.Settled → s.dead = false →
    (∀ r, s.txNow = some r →
      (∀ clamped : Bool, s.txAt.2 = .started →
        ∃ t, exec (.pilotWindowOpen clamped) s = .next t ∧ t.txAt = (r.seq, .window) ∧ t.trsw = true ∧ t.pilotWindow = true ∧
          t.onAir = some (r.channel, min r.power (s.get F.PLT_TX_CFG_POWER), r.octets) ∧ t.get (F.INT_STATUS_PILOT_TX 1) = 1 ∧
          t.get (F.INT_STATUS_PILOT_TX 2) = 1 ∧
          t.get (F.INT_STATUS_AGC_HELD 1) = 1 ∧
          t.get F.PLT_TX_LEVEL_LEVEL = toBits 16 (s.txLevel (min r.power (s.get F.PLT_TX_CFG_POWER)) clamped) ∧
          (clamped = true → t.get F.PLT_STATUS_CLAMP_EV = 1) ∧
          (∀ n < 96, s.std n = 7 → s.laneRuns n = true → t.get (F.LN_STATUS_SETTLING n) = 1) ∧ (r.urgent = true → t.listen = none) ∧ s.steady t) ∧
      (s.txAt.2 = .window →
        ∃ t, exec .pilotAirEnd s = .next t ∧ t.txAt = (r.seq, .turnround) ∧ t.trsw = false ∧ t.onAir = none ∧
          t.get F.PLT_SENT_COUNT = (s.get F.PLT_SENT_COUNT + 1) % 2 ^ 32 ∧
          t.schedule = s.schedule.map (fun x => if x.seq == r.seq then
            { x with payloads := x.payloads.drop 1, sent := x.sent + 1, attempts := 0 } else x) ∧ s.steady t) ∧
      (s.txAt.2 = .turnround →
        (r.payloads ≠ [] →
          ∃ t, exec .pilotTurnroundEnd s = .next t ∧ t.txAt = (r.seq, .idle) ∧ t.pilotWindow = false ∧ t.get F.PLT_CTRL_TX_BUSY = 0 ∧
            t.schedule = s.schedule ∧ s.steady t) ∧
        (r.payloads = [] →
          ∃ t, exec .pilotTurnroundEnd s = .next t ∧ t.txAt = (0, .idle) ∧ t.pilotWindow = false ∧ t.get F.PLT_CTRL_TX_BUSY = 0 ∧
            t.schedule = s.schedule.filter (fun x => x.seq != r.seq) ∧ t.get F.PLT_LAST_RESULT = (if r.disturbed then txDisturbed else txSent) ∧
            (r.listenMs ≠ 0 → t.listen = some (r.seq, r.channel) ∧ t.get F.PLT_CTRL_LISTENING = 1) ∧ s.steady t))) ∧
    (s.listen ≠ none →
      ∃ t, exec .listenWindowEnd s = .next t ∧ t.listen = none ∧ t.get F.PLT_CTRL_LISTENING = 0 ∧
        s.changes (F.PLT_CTRL_LISTENING :: (List.range 96).map F.PRX_SVC1_LISTEN_OPEN) ({ s with listen := none, listens := t.listens }) t) ∧
    (∀ second : Nat, ∃ t, exec (.dutyBinExpire second) s = .next t ∧
      s.changes [] ({ s with dutyBins := s.dutyBins.filter (·.1 != second) }) t)

/-- Pilot-link receive berths (R366, R370, R371, R372, R373). A preamble starts or restarts synchronisation; the SFD leads to the header, with
the listen window that held it; a good header leads to the frame, whose LQI stands over SFD and header; a frame whose FCS holds counts; a missing
SFD, a bad header, a bad FCS and a capture overrun end the reception. Completes: `preambleDeclared`, `sfdFound`, `sfdTimeout`, `phrReceived`,
`pilotFrameReceived`, `captureOverrun`. -/
def Obligations.PilotReception : Prop :=
  ∀ s : State, s.Settled → s.dead = false → ∀ n < 96, s.rxWorks n = true →
    (∀ (timing : Nat) (freq : Int), s.get (F.PRX_SVC1_STATE n) = 0 →
      ∃ t, exec (.preambleDeclared n timing freq) s = .next t ∧ t.get (F.PRX_SVC1_STATE n) = 1 ∧ (t.rxOf n).level = s.rxLevel n 16 ∧
        (t.rxOf n).timing = timing ∧ (t.rxOf n).freq = freq ∧ s.changes [F.PRX_SVC1_STATE n] ({ s with rx := t.rx }) t) ∧
    (∀ (timing : Nat) (freq : Int), s.get (F.PRX_SVC1_STATE n) = 1 →
      ∃ t, exec (.preambleDeclared n timing freq) s = .next t ∧ t.get (F.PRX_SVC1_STATE n) = 1 ∧
        (if (s.rxOf n).differs timing freq (s.rxLevel n 16) then
          (t.rxOf n).level = s.rxLevel n 16 ∧ (t.rxOf n).timing = timing ∧ (t.rxOf n).freq = freq ∧
            s.changes [F.PRX_SVC1_STATE n] ({ s with rx := t.rx }) t
        else s.onlyFields [] t)) ∧
    (s.get (F.PRX_SVC1_STATE n) = 1 →
      (∀ freq : Int,
        ∃ t, exec (.sfdFound n freq) s = .next t ∧ t.get (F.PRX_SVC1_STATE n) = 2 ∧ (t.rxOf n).freq = freq ∧
          (t.rxOf n).ts = tsOfPs (s.rxSince n 16) ∧ (t.rxOf n).level = s.rxLevel n 16 ∧
          (t.rxOf n).listen = s.listenAt (s.get (F.PRX_SVC0_CHANNEL n)) (s.rxSince n 16 / 1000) ∧
          s.changes [F.PRX_SVC1_STATE n] ({ s with rx := t.rx }) t) ∧
      (∃ t, exec (.sfdTimeout n) s = .next t ∧ t.get (F.PRX_SVC1_STATE n) = 0 ∧ t.get (F.PRX_SVC1_FALSE_PREAMBLE_EV n) = 1 ∧
        s.onlyFields [F.PRX_SVC1_STATE n, F.PRX_SVC1_FALSE_PREAMBLE_EV n, F.PRX_SVC4_FALSE_PREAMBLE n] t)) ∧
    (∀ (w : Word) (snr : Int), s.get (F.PRX_SVC1_STATE n) = 2 →
      (bit w.toNat 15 = false → bit w.toNat 12 = false → 5 ≤ bits w.toNat 0 11 →
        ∃ t, exec (.phrReceived n w snr) s = .next t ∧ t.get (F.PRX_SVC1_STATE n) = 3 ∧ (t.rxOf n).phr = w.toNat ∧ (t.rxOf n).lqi = lqi snr ∧
          s.changes [F.PRX_SVC1_STATE n] ({ s with rx := t.rx }) t) ∧
      (bit w.toNat 15 = true ∨ bit w.toNat 12 = true ∨ bits w.toNat 0 11 < 5 →
        ∃ t, exec (.phrReceived n w snr) s = .next t ∧ t.get (F.PRX_SVC1_STATE n) = 0 ∧ t.get (F.PRX_SVC1_PHR_INVALID_EV n) = 1 ∧ s.steady t)) ∧
    (∀ (d : List Byte) (freqs : List Int), s.get (F.PRX_SVC1_STATE n) = 3 →
      (bits (s.rxOf n).phr 0 11 = d.length + 4 →
        ∃ t, exec (.pilotFrameReceived n (if bit (s.rxOf n).phr 11 then whitened (d ++ be 4 (crc32 d).toNat)
            else d ++ be 4 (crc32 d).toNat) freqs) s = .next t ∧ t.get (F.PRX_SVC1_STATE n) = 0 ∧
          t.get (F.PRX_SVC1_FRAME_EV n) = 1 ∧ t.get (F.PRX_SVC2_FRAMES_OK n) = min 65535 (s.get (F.PRX_SVC2_FRAMES_OK n) + 1) ∧
          t.get (F.PRX_SVC5_LAST_LQI n) = (s.rxOf n).lqi % 256 ∧ s.steady t) ∧
      (∀ x : BitVec 32, x ≠ crc32 d → bit (s.rxOf n).phr 11 = false →
        ∃ t, exec (.pilotFrameReceived n (d ++ be 4 x.toNat) freqs) s = .next t ∧ t.get (F.PRX_SVC1_STATE n) = 0 ∧
          t.get (F.PRX_SVC1_FCS_FAIL_EV n) = 1 ∧ t.get (F.PRX_SVC2_FRAMES_OK n) = s.get (F.PRX_SVC2_FRAMES_OK n) ∧ s.steady t)) ∧
    (∀ i < 4, s.rxBerth i = some n →
      ∃ t, exec (.captureOverrun i) s = .next t ∧ t.get (F.PRX_SVC1_STATE n) = 0 ∧ t.get (F.PRX_SVC1_CAPTURE_OVERRUN_EV n) = 1 ∧
        t.get F.PLT_STATUS_CAPTURE_OVERRUN = 1 ∧ t.get (F.HLD_STATUS_OVERRUN_EV.ofHold (112 + i)) = 1 ∧ s.steady t)

/-- The commands of the urgent path in RUN and DRIFT (R377, R378, R379, R387). A confirmed TEST starts the test source, or starts it again; CLEAR
ends the sources without a hold whose state is off; the end of a hold ends its source unless its state keeps it active; the last word of an
urgent-class entry puts the three staged words in force for the entry that `URG_SEL` names. In SURVEY the path is frozen (R380): an accepted
`ALERT_CMD` waits, CLEAR with CLEAR_PENDING, and the end of a hold changes nothing. Completes: `alertTest`, `alertClear`, `alertHoldExpire`,
`urgEntryWrite`. -/
def Obligations.UrgentCommands : Prop :=
  ∀ s : State, s.Settled → s.dead = false →
    (s.serving = true →
      (∀ w : Word, s.pinLow = false → s.stage = none → bits w.toNat 8 8 = 0x5A → bits w.toNat 0 2 = 2 →
        ∃ t, exec (.alertTest w) s = .next t ∧
          t.alerts = s.alerts.filter (fun a => !(a.kind == 0x20 && a.src == 0)) ++ [⟨0x20, 0, false, 0, false⟩] ∧
          t.get F.ALERT_STATUS_PIN = 1 ∧ t.get F.ALERT_STATUS_TEST = 1 ∧ t.get F.ALERT_STATUS_START_EV = 1 ∧
          t.get F.ALERT_COUNT_COUNT = min 65535 (s.get F.ALERT_COUNT_COUNT + 1) ∧
          (s.alerts = [] → t.get F.ALERT_FIRST_KIND = 0x20 ∧ t.get F.ALERT_FIRST_DETAIL = 0 ∧ t.get F.ALERT_TIME_TIME = s.ts % 2 ^ 64) ∧
          (s.alerts ≠ [] → t.get F.ALERT_FIRST_KIND = s.get F.ALERT_FIRST_KIND ∧ t.get F.ALERT_TIME_TIME = s.get F.ALERT_TIME_TIME) ∧
          s.changes [F.ALERT_STATUS_PIN, F.ALERT_STATUS_TEST, F.ALERT_STATUS_START_EV, F.ALERT_COUNT_COUNT, F.ALERT_FIRST_KIND,
            F.ALERT_FIRST_DETAIL, F.ALERT_TIME_TIME, F.JNL_NEWEST_NUMBER, F.JNL_STATUS_UNREAD_LOST]
            ((s.journal 0x81 (s.wordAt 0x81) w.toNat srcTwoWire resAccepted 0).setAlerts t.alerts) t) ∧
      (∀ w : Word, s.pinLow = false → s.stage = none → bits w.toNat 8 8 = 0x5A → bits w.toNat 0 2 = 1 →
        ∃ t, exec (.alertClear w) s = .next t ∧ t.alerts = s.alerts.filter (fun a => a.hold != 0 || a.stateOn) ∧
          t.get F.ALERT_STATUS_PIN = b2n (!t.alerts.isEmpty) ∧
          s.changes [F.ALERT_STATUS_PIN, F.ALERT_STATUS_TEST, F.ALERT_STATUS_MODE, F.ALERT_STATUS_KIND, F.JNL_NEWEST_NUMBER,
            F.JNL_STATUS_UNREAD_LOST] ((s.journal 0x81 (s.wordAt 0x81) w.toNat srcTwoWire resAccepted 0).setAlerts t.alerts) t) ∧
      (∀ kind src : Nat,
        ∃ t, exec (.alertHoldExpire kind src) s = .next t ∧
          t.alerts = (s.alerts.map (fun a => if a.kind == kind && a.src == src && a.hold != 0 then { a with running := false } else a)).filter
            (fun a => a.hold == 0 || a.running || a.stateOn) ∧
          t.get F.ALERT_STATUS_PIN = b2n (!t.alerts.isEmpty) ∧
          s.changes [F.ALERT_STATUS_PIN, F.ALERT_STATUS_TEST, F.ALERT_STATUS_MODE, F.ALERT_STATUS_KIND] (s.setAlerts t.alerts) t) ∧
      (∀ (a b c : Word), s.pinLow = false → s.stage = some ⟨0x89, [(1, b.toNat), (0, a.toNat)]⟩ →
          bits a.toNat 8 8 ≤ 4 → (bits a.toNat 0 8 < 96 ∨ bits a.toNat 0 8 = 0xFF) → b.toNat ≤ 3 →
        let i := s.get F.URG_SEL_ENTRY
        ∃ t, exec (.urgEntryWrite c) s = .next t ∧ t.stage = none ∧
          t.get (F.URG_ENTRY_A_KIND.ofUrg i) = bits a.toNat 8 8 ∧ t.get (F.URG_ENTRY_A_BERTH.ofUrg i) = bits a.toNat 0 8 ∧
          t.get (F.URG_ENTRY_B_ACTION.ofUrg i) = b.toNat ∧ t.get (F.URG_ENTRY_C_HOLD.ofUrg i) = c.toNat ∧ t.alerts = s.alerts ∧
          State.fieldsBut [F.URG_ENTRY_A_KIND.ofUrg i, F.URG_ENTRY_A_BERTH.ofUrg i, F.URG_ENTRY_B_ACTION.ofUrg i, F.URG_ENTRY_C_HOLD.ofUrg i,
            F.JNL_NEWEST_NUMBER, F.JNL_STATUS_UNREAD_LOST] s t)) ∧
    (s.mode = .survey →
      (∀ w : Word, s.pinLow = false → s.stage = none → bits w.toNat 8 8 = 0x5A → bits w.toNat 0 2 ≠ 3 →
        ∃ t, exec (.alertClear w) s = .next t ∧ exec (.alertTest w) s = .next t ∧ t.alertCmds = s.alertCmds ++ [w.toNat] ∧ t.alerts = s.alerts ∧
          (bit w.toNat 0 = true → t.get F.ALERT_STATUS_CLEAR_PENDING = 1) ∧
          s.changes [F.ALERT_STATUS_CLEAR_PENDING, F.JNL_NEWEST_NUMBER, F.JNL_STATUS_UNREAD_LOST]
            ((s.journal 0x81 (s.wordAt 0x81) w.toNat srcTwoWire resAccepted 0).setAlertCmds t.alertCmds) t) ∧
      (∀ kind src : Nat, ∃ t, exec (.alertHoldExpire kind src) s = .next t ∧ s.onlyFields [] t))

/-- Protected memories (R390, R391, R392, R396, R398, R399, R401). A word of any memory with correctable errors is counted and noted, and its
self-test starts; so does that of a word of the first four memories with uncorrectable ones; a clean one is left alone; the last word ends a
pass; a late pass shows. A passed test makes the event TRANSIENT and leaves the corrected word; after a failed first run a second one follows;
after two its event is LASTING and its row waits for a spare; the copied row enters the row map. Completes: `scrubWordRead`, `scrubPassLate`,
`memorySelftestDone`, `rowReplaceDone`. -/
def Obligations.Memories : Prop :=
  ∀ s : State, s.Settled → s.dead = false →
    (∀ mem bank row col : Nat, 1 ≤ mem → mem ≤ 6 → bank < 64 → row < 1024 → col < 4096 →
        ¬(mem = 1 ∧ bank = 47 ∧ row = 511 ∧ col = 127) → ¬(mem = 2 ∧ bank = 15 ∧ row = 127 ∧ col = 127) →
        s.readable (wordAddr mem bank row col) = true →
      ∀ (x : WordSeen) (u : State), s.wordMeets (wordAddr mem bank row col) x = u →
      (x.written = false → x.upset = [] → s.stuckBits (wordAddr mem bank row col) = 0 →
        u.flipsAt (wordAddr mem bank row col) = s.flipsAt (wordAddr mem bank row col)) ∧
      (check (u.flipsAt (wordAddr mem bank row col)) = .clean →
        ∃ t, exec (.scrubWordRead mem bank row col x) s = .next t ∧
          s.changes [] ({ s with flips := u.flips, injWords := u.injWords, damaged := u.damaged }) t) ∧
      (∀ l p, check (u.flipsAt (wordAddr mem bank row col)) = .fixed l p →
        ∃ t, exec (.scrubWordRead mem bank row col x) s = .next t ∧ t.get F.PROT_STATUS_CORR_EV = 1 ∧
          t.get F.PROT_CORRECTED_COUNT = min (2 ^ F.PROT_CORRECTED_COUNT.width - 1) (s.get F.PROT_CORRECTED_COUNT + 1) ∧
          t.errCount = s.errCount + 1 ∧ t.err.head?.map EEntry.outcome = some Outc.corrected.code ∧
          t.err.head?.map EEntry.detector = some (memDetector mem true) ∧
          (t.word (wordAddr mem bank row col)).testing = true ∧ t.flips = u.flips ∧
          s.changesErr [F.PROT_STATUS_CORR_EV, F.PROT_CORRECTED_COUNT]
            ({ s with flips := u.flips, injWords := u.injWords, damaged := u.damaged, words := t.words }) t) ∧
      (mem ≤ 4 → check (u.flipsAt (wordAddr mem bank row col)) = .bad →
        ∃ t, exec (.scrubWordRead mem bank row col x) s = .next t ∧ t.get F.PROT_STATUS_UNCORR_EV = 1 ∧
          t.get F.PROT_UNCORRECTABLE_COUNT = min (2 ^ F.PROT_UNCORRECTABLE_COUNT.width - 1) (s.get F.PROT_UNCORRECTABLE_COUNT + 1) ∧
          t.errCount = s.errCount + 1 ∧ t.err.head?.map EEntry.outcome = some Outc.detected.code ∧
          t.err.head?.map EEntry.detector = some (memDetector mem false) ∧
          (t.word (wordAddr mem bank row col)).testing = true ∧ t.flips = u.flips ∧ s.steady t)) ∧
    (s.flips = [] → s.words = [] →
      ∃ t, exec (.scrubWordRead 2 15 127 127 ⟨false, [], .single⟩) s = .next t ∧
        t.get F.PROT_SCRUB_PASSES_KEEP = (s.get F.PROT_SCRUB_PASSES_KEEP + 1) % 2 ^ F.PROT_SCRUB_PASSES_KEEP.width ∧
        s.onlyFields [F.PROT_SCRUB_PASSES_KEEP] t) ∧
    (∀ mem : Nat, 1 ≤ mem → mem ≤ 6 →
      ∃ t, exec (.scrubPassLate mem) s = .next t ∧ t.get F.PROT_STATUS_SCRUB_LATE = 1 ∧ t.errCount = s.errCount + 1 ∧
        t.err.head?.map EEntry.detector = some 0x0508 ∧ s.changesErr [F.PROT_STATUS_SCRUB_LATE] s t) ∧
    (∀ mem bank row col : Nat, 1 ≤ mem → mem ≤ 6 → bank < 64 → row < 1024 → col < 4096 → ∀ r, s.word (wordAddr mem bank row col) = r →
        r.testing = true →
      (∀ l p, check (s.flipsAt (wordAddr mem bank row col)) = .fixed l p → s.stuckBits (wordAddr mem bank row col) = 0 → r.past = [] →
        ∃ t, exec (.memorySelftestDone mem bank row col true) s = .next t ∧ (t.word (wordAddr mem bank row col)).testing = false ∧
          t.flipsAt (wordAddr mem bank row col) =
            (check (s.flipsAt (wordAddr mem bank row col))).apply (s.flipsAt (wordAddr mem bank row col)) ∧
          t.rowsDue = s.rowsDue ∧ t.errCount = s.errCount + 1 ∧ t.err.head?.map EEntry.outcome = some Outc.transient.code ∧
          t.err.head?.map EEntry.detector = some (r.detector) ∧ s.steady t) ∧
      (r.runs = 0 →
        ∃ t, exec (.memorySelftestDone mem bank row col false) s = .next t ∧ (t.word (wordAddr mem bank row col)).runs = 1 ∧
          (t.word (wordAddr mem bank row col)).testing = true ∧ s.changes [] ({ s with words := t.words }) t) ∧
      (mem ≤ 4 → r.runs = 1 → s.rowsDue = [] → s.freeRows (rowOf (wordAddr mem bank row col)) ≠ [] →
        ∃ t, exec (.memorySelftestDone mem bank row col false) s = .next t ∧ t.get F.PROT_STATUS_LASTING_EV = 1 ∧
          t.rowsDue = [rowOf (wordAddr mem bank row col)] ∧ (t.word (wordAddr mem bank row col)).testing = false ∧
          t.errCount = s.errCount + 1 ∧ t.err.head?.map EEntry.outcome = some Outc.lasting.code ∧ s.steady t)) ∧
    (∀ mem bank row : Nat, 1 ≤ mem → mem ≤ 4 → bank < 64 → row < 1024 → s.rowsDue = [mem * 2 ^ 16 + bank * 2 ^ 10 + row] →
        ∀ x, (s.freeRows (mem * 2 ^ 16 + bank * 2 ^ 10 + row)).head? = some x →
      ∃ t, exec (.rowReplaceDone mem bank row) s = .next t ∧ t.rowsDue = [] ∧
        t.rowMap = Tbl.set (fun _ => 0) s.rowMap (mem * 2 ^ 16 + bank * 2 ^ 10 + row) x ∧ t.custody = s.custody ∧ t.mode = s.mode)

/-- Self-tests of units without a block, RETEST and injection (R398, R399, R400, R405, R406, R407). A passed test of the transmitter ends its
event; a second failed one retires it; RETEST runs on a retired unit, which passes back to service or stays out; an injection is armed in RUN or
DRIFT with its counts, and cancelled. Completes: `unitSelftestDone`, `retest`, `retestDone`, `injectArm`, `injectCancel`. -/
def Obligations.TestsAndInjection : Prop :=
  ∀ s : State, s.Settled → s.dead = false →
    (∀ u, s.unit .txDac 0 = u → u.testing = true → u.retired = false → s.onAir = none →
      (u.past = [] → s.inj = none →
        ∃ t, exec (.unitSelftestDone 10 0 true) s = .next t ∧ (t.unit .txDac 0).testing = false ∧ (t.unit .txDac 0).retired = false ∧
          t.errCount = s.errCount + 1 ∧ s.steady t) ∧
      (u.runs = 1 →
        ∃ t, exec (.unitSelftestDone 10 0 false) s = .next t ∧ (t.unit .txDac 0).testing = false ∧ (t.unit .txDac 0).retired = true ∧
          t.get F.PLT_CTRL_RUN = 0 ∧ s.steady t)) ∧
    (s.onAir ≠ none → ∀ pass : Bool, ∃ t, exec (.unitSelftestDone 10 0 pass) s = .next t ∧ s.onlyFields [] t) ∧
    (s.pinLow = false → s.stage = none → s.gated srcTwoWire 0x260C = false → s.retesting = none → s.get F.PROT_CMD_UNIT_TYPE = 10 →
        s.get F.PROT_CMD_UNIT_INDEX = 0 →
      (s.isRetired .txDac 0 = true →
        ∃ t, exec (.retest 0x5A01#16) s = .next t ∧ t.retesting = some (10, 0) ∧ t.get F.PROT_LAST_RESULT = 3 ∧ s.steady t) ∧
      (s.isRetired .txDac 0 = false →
        ∃ t, exec (.retest 0x5A01#16) s = .next t ∧ t.retesting = none ∧ s.steady t)) ∧
    (s.retesting = some (10, 0) → s.persistFails .txDac 0 = false →
      (∃ t, exec (.retestDone true) s = .next t ∧ t.retesting = none ∧ t.get F.PROT_LAST_RESULT = 1 ∧ (t.unit .txDac 0).retired = false ∧
        t.errCount = s.errCount + 1 ∧ s.steady t) ∧
      (∃ t, exec (.retestDone false) s = .next t ∧ t.retesting = none ∧ t.get F.PROT_LAST_RESULT = 2 ∧
        s.changes [F.PROT_LAST_RESULT] (s.setRetesting none) t)) ∧
    (s.pinLow = false → s.stage = none → s.gated srcTwoWire 0x2705 = false →
      (s.injArmable = true →
        ∃ t, exec (.injectArm (if codeGrave (s.get F.INJ_DETECTOR_CODE) then 0xC301#16 else 0x5A01#16)) s = .next t ∧
          t.inj.map Inj.code = some (s.get F.INJ_DETECTOR_CODE) ∧ t.inj.map Inj.index = some (s.get F.INJ_UNIT_INDEX) ∧
          t.inj.map Inj.left = some (s.get F.INJ_CFG_COUNT) ∧ t.get F.INJ_STATUS_ARMED = 1 ∧ t.get F.INJ_STATUS_FIRED = 0 ∧ s.steady t) ∧
      (s.injArmable = false →
        ∃ t, exec (.injectArm 0x5A01#16) s = .next t ∧ t.inj = s.inj ∧ t.get F.INJ_STATUS_REFUSED_EV = 1 ∧ s.steady t) ∧
      (∃ t, exec (.injectCancel 0x5A02#16) s = .next t ∧ t.inj = none ∧ t.get F.INJ_STATUS_ARMED = 0 ∧ t.get F.INJ_STATUS_PERSISTING = 0 ∧
        s.steady t))

/-- Domain faults and restarts (R43, R277, R278, R402). A fault of a domain that is on counts, names its cause and starts the restart; a missed
heartbeat is such a fault; the restart goes on step by step; the custody rebuild ends with the domain ready, and with a copy that fails its check
as lost custody; a restart that takes too long leads to ANCHOR. Completes: `domainFault`, `domainHeartbeatTimeout`, `domainRestartStepDone`,
`custodyRebuildDone`, `domainRestartTimeout`. -/
def Obligations.DomainRestarts : Prop :=
  ∀ s : State, s.Settled → s.dead = false → ∀ d : Nat, 1 ≤ d → d ≤ 7 →
    (∀ cause < 16, (s.dom d).step = 0 → s.get (F.DOM_STATE d) = dsOn → (s.dom d).faults = [] →
      (∃ t, exec (.domainFault d cause) s = .next t ∧ (t.dom d).step = 1 ∧ t.get (F.DOM_STATE d) = dsSwitching ∧
        t.get F.DOM_LAST_FAULT_DOMAIN = d ∧ t.get F.DOM_LAST_FAULT_SUBCAUSE = cause ∧ t.get F.DOM_STATUS_FAULT_EV = 1 ∧
        t.errCount = s.errCount + 1 ∧ s.steady t) ∧
      (∃ t, exec (.domainHeartbeatTimeout d) s = .next t ∧ (t.dom d).step = 1 ∧ t.get (F.DOM_STATE d) = dsSwitching ∧
        t.get F.DOM_LAST_FAULT_DOMAIN = d ∧ t.get F.DOM_LAST_FAULT_SUBCAUSE = 4 ∧ t.get F.DOM_STATUS_FAULT_EV = 1 ∧ s.steady t)) ∧
    ((s.dom d).dependant = false →
      ((s.dom d).step = 1 → ∃ t, exec (.domainRestartStepDone d) s = .next t ∧ (t.dom d).step = 2 ∧ s.steady t) ∧
      ((s.dom d).step = 2 →
        ∃ t, exec (.domainRestartStepDone d) s = .next t ∧ (t.dom d).step = 3 ∧ s.changes [] ({ s with doms := t.doms }) t) ∧
      ((s.dom d).step = 3 → (suppliesOf d).all (bit (s.get F.SUP_STATUS_IN_RANGE)) = true → s.persistFails .domain d = false →
        ∃ t, exec (.domainRestartStepDone d) s = .next t ∧ (t.dom d).step = 4 ∧ s.changes [] ({ s with doms := t.doms }) t) ∧
      ((s.dom d).step = 4 → d < 6 → s.get (F.DOM_STATE d) = dsSwitching → s.modeHas d = true →
        ∃ t, exec (.domainRestartStepDone d) s = .next t ∧ (t.dom d).step = 0 ∧ t.get (F.DOM_STATE d) = dsOn ∧
          t.get F.DOM_STATUS_RESTART_EV = 1 ∧ s.steady t) ∧
      ((s.dom d).step = 4 → 6 ≤ d →
        ∃ t, exec (.domainRestartStepDone d) s = .next t ∧ (t.dom d).step = 5 ∧ t.rebuilding = true ∧ t.get F.HLD_CUSTODY_REBUILDING = 1 ∧
          s.changes [F.HLD_CUSTODY_REBUILDING] ({ s with doms := t.doms, rebuilding := true }) t)) ∧
    (s.rebuilding = true → d = 6 → (s.dom 6).step = 5 → s.get (F.DOM_STATE 6) = dsSwitching →
      ∀ errs : List (Nat × BitVec 32 × Nat × BitVec 8),
      ∃ t, exec (.custodyRebuildDone errs) s = .next t ∧ t.rebuilding = false ∧ t.get F.HLD_CUSTODY_REBUILDING = 0 ∧
        t.get F.HLD_CUSTODY_REBUILT_EV = 1 ∧ (t.dom 6).step = 0 ∧ t.get (F.DOM_STATE 6) = dsOn ∧
        (s.badCopies (errs.map (fun x => (x.1, x.2.1.toNat, x.2.2))) ≠ [] → t.get F.HLD_CUSTODY_LOST_EV = 1 ∧ s.errCount < t.errCount) ∧
        s.steady t) ∧
    ((s.dom d).step ≠ 0 → s.serving = true →
      ∃ t, exec (.domainRestartTimeout d) s = .next t ∧ t.mode = .anchor ∧ t.get F.GLB_MODE_CAUSE_CAUSE = cDomainFault)

/-- Commanded domain switches, supplies and temperature (R23, R33, R438, R440). A bit of `DOM_CTRL` starts the switch of its domain, which shows
until it completes; a supply that leaves its range shows and faults what it feeds, and shows again when it returns; the temperature warning rises
and falls. Completes: `intakeDomainOff`, `intakeDomainOn`, `quayDomainRetain`, `quayDomainOn`, `domainSwitchDone`, `supplyRangeExit`,
`supplyRangeReturn`, `tempWarnRise`, `tempWarnFall`. -/
def Obligations.DomainSwitches : Prop :=
  ∀ s : State, s.Settled → s.dead = false →
    (s.pinLow = false → s.stage = none → s.serving = true → s.closing = false → s.get (F.DOM_STATE 1) = dsOn →
      (∀ k : Nat, k = 1 ∨ k = 2 →
        (bit (s.wordAt 0x2A00) (k - 1) = true → s.get (F.DOM_STATE (1 + k)) = dsOn →
          ∃ t, exec (.intakeDomainOff k) s = .next t ∧ t.get (F.DOM_STATE (1 + k)) = dsSwitching ∧ (t.dom (1 + k)).goal = some dsOff ∧
            s.steady t) ∧
        (bit (s.wordAt 0x2A00) (k - 1) = false → s.get (F.DOM_STATE (1 + k)) = dsOff →
          ∃ t, exec (.intakeDomainOn k) s = .next t ∧ t.get (F.DOM_STATE (1 + k)) = dsSwitching ∧ (t.dom (1 + k)).goal = some dsOn ∧
            s.steady t)) ∧
      (bit (s.wordAt 0x2A00) 2 = true → s.get (F.DOM_STATE 7) = dsOn →
        ∃ t, exec .quayDomainRetain s = .next t ∧ t.get (F.DOM_STATE 7) = dsSwitching ∧ (t.dom 7).goal = some dsRetention ∧ s.steady t) ∧
      (bit (s.wordAt 0x2A00) 2 = false → s.get (F.DOM_STATE 7) = dsRetention →
        ∃ t, exec .quayDomainOn s = .next t ∧ t.get (F.DOM_STATE 7) = dsSwitching ∧ (t.dom 7).goal = some dsOn ∧ s.steady t)) ∧
    (∀ d g : Nat, 1 ≤ d → d ≤ 7 → (s.dom d).goal = some g → g < 4 → d ≠ 7 ∨ s.quaysStill = true →
      ∃ t, exec (.domainSwitchDone d) s = .next t ∧ t.get (F.DOM_STATE d) = g ∧ (t.dom d).goal = none ∧ t.get F.DOM_STATUS_SWITCH_EV = 1 ∧
        s.steady t) ∧
    (∀ sup mv : Nat, sup < 6 → mv < 65536 →
      (inR (supRange sup).1 (supRange sup).2 mv = false → fedBy sup = [] →
        ∃ t, exec (.supplyRangeExit sup mv) s = .next t ∧ bit (t.get F.SUP_STATUS_IN_RANGE) sup = false ∧
          bit (t.get F.SUP_STATUS_RANGE_EV) sup = true ∧ t.get (F.SUP_LEVEL_MV sup) = mv ∧
          s.onlyFields [F.SUP_LEVEL_MV sup, F.SUP_MIN_MV sup, F.SUP_MAX_MV sup, F.SUP_STATUS_IN_RANGE, F.SUP_STATUS_RANGE_EV] t) ∧
      (inR (supRange sup).1 (supRange sup).2 mv = false → sup = 2 → (s.dom 1).step = 0 → s.get (F.DOM_STATE 1) = dsOn →
          (∀ d < 8, (s.dom d).faults = []) →
        ∃ t, exec (.supplyRangeExit sup mv) s = .next t ∧ bit (t.get F.SUP_STATUS_IN_RANGE) sup = false ∧ (t.dom 1).step = 1 ∧
          t.get (F.DOM_STATE 1) = dsSwitching ∧ t.get F.DOM_STATUS_FAULT_EV = 1 ∧ s.steady t) ∧
      (inR (supRange sup).1 (supRange sup).2 mv = true →
        ∃ t, exec (.supplyRangeReturn sup mv) s = .next t ∧ bit (t.get F.SUP_STATUS_IN_RANGE) sup = true ∧ t.get (F.SUP_LEVEL_MV sup) = mv ∧
          s.onlyFields [F.SUP_LEVEL_MV sup, F.SUP_MIN_MV sup, F.SUP_MAX_MV sup, F.SUP_STATUS_IN_RANGE] t)) ∧
    (∀ temp : Word,
      ((100 * s.get F.SUP_TEMP_WARN_DEG : Nat) ≤ sext 16 temp.toNat → s.get F.SUP_STATUS_TEMP_WARN = 0 →
        ∃ t, exec (.tempWarnRise temp) s = .next t ∧ t.get F.SUP_STATUS_TEMP_WARN = 1 ∧ t.get F.SUP_STATUS_TEMP_WARN_EV = 1 ∧
          t.get F.SUP_TEMP_TEMP = temp.toNat ∧
          s.onlyFields [F.SUP_TEMP_TEMP, F.SUP_TEMP_MIN_TEMP, F.SUP_TEMP_MAX_TEMP, F.SUP_STATUS_TEMP_WARN, F.SUP_STATUS_TEMP_WARN_EV] t) ∧
      (sext 16 temp.toNat ≤ (100 * s.get F.SUP_TEMP_WARN_DEG : Nat) - (300 : Int) → s.get F.SUP_STATUS_TEMP_WARN = 1 →
        ∃ t, exec (.tempWarnFall temp) s = .next t ∧ t.get F.SUP_STATUS_TEMP_WARN = 0 ∧ t.get F.SUP_TEMP_TEMP = temp.toNat ∧
          s.onlyFields [F.SUP_TEMP_TEMP, F.SUP_TEMP_MIN_TEMP, F.SUP_TEMP_MAX_TEMP, F.SUP_STATUS_TEMP_WARN] t))
end

