-- ==== Sys2Proof/Laws/Aes.lean ====
section
/-! SUPPORT. The substitution tables of the cipher are what FIPS 197 defines them to be: the affine transformation of the inverse in
GF(2⁸), and its inverse. -/

namespace Sys2Proof.Machine

/-- The inverse in GF(2⁸), 0 for 0: the 254th power. -/
def fieldInverse (a : Byte) : Byte :=
  let a2 := gmulN 8 a a
  let a3 := gmulN 8 a2 a
  let a12 := gmulN 8 (gmulN 8 a3 a3) (gmulN 8 a3 a3)
  let a15 := gmulN 8 a12 a3
  let a30 := gmulN 8 a15 a15
  let a60 := gmulN 8 a30 a30
  let a120 := gmulN 8 a60 a60
  gmulN 8 (gmulN 8 (gmulN 8 a120 a120) a12) a2

/-- The S-box is the affine transformation of the inverse. -/
theorem sbox_eq_affine : ∀ a : Byte,
    sbox a = (let b := fieldInverse a; b ^^^ b.rotateLeft 1 ^^^ b.rotateLeft 2 ^^^ b.rotateLeft 3 ^^^ b.rotateLeft 4 ^^^ 0x63#8) := by
  decide +kernel

/-- The inverse S-box undoes the S-box. -/
theorem sboxInv_sbox : ∀ a : Byte, sboxInv (sbox a) = a := by decide +kernel

/-- The S-box undoes the inverse S-box. -/
theorem sbox_sboxInv : ∀ a : Byte, sbox (sboxInv a) = a := by decide +kernel

end Sys2Proof.Machine
end

