-- ==== Sys2Proof/Laws/Tbl.lean ====
section
/-! SUPPORT. The laws of sparse tables: a read after a write, and the canonical form. -/

namespace Sys2Proof.Machine

variable {α : Type}

theorem Tbl.get_erase_ne (d : Nat → α) (t : Tbl α) {k j : Nat} (h : j ≠ k) :
    Tbl.get d (Tbl.erase k t) j = Tbl.get d t j := by
  induction t with
  | nil => rfl
  | cons e t ih =>
    obtain ⟨a, v⟩ := e
    unfold Tbl.erase at ih ⊢
    by_cases ha : a = k
    · subst ha; simp [Tbl.get, Ne.symm h, ih]
    · simp [Tbl.get, ha, ih]

theorem Tbl.get_erase_eq (d : Nat → α) (t : Tbl α) (k : Nat) : Tbl.get d (Tbl.erase k t) k = d k := by
  induction t with
  | nil => rfl
  | cons e t ih =>
    obtain ⟨a, v⟩ := e
    unfold Tbl.erase at ih ⊢
    by_cases ha : a = k
    · subst ha; simpa [Tbl.get] using ih
    · simp [Tbl.get, ha, ih]

theorem Tbl.get_insert_ne (d : Nat → α) (t : Tbl α) {k j : Nat} (v : α) (h : j ≠ k) :
    Tbl.get d (Tbl.insert k v t) j = Tbl.get d t j := by
  induction t with
  | nil => simp [Tbl.insert, Tbl.get, Ne.symm h]
  | cons e t ih =>
    obtain ⟨a, w⟩ := e
    by_cases hk : k < a
    · simp [Tbl.insert, Tbl.get, hk, Ne.symm h]
    · simp [Tbl.insert, Tbl.get, hk, ih]

theorem Tbl.get_insert_eq (d : Nat → α) (t : Tbl α) (k : Nat) (v : α) (h : k ∉ t.map (·.1)) :
    Tbl.get d (Tbl.insert k v t) k = v := by
  induction t with
  | nil => simp [Tbl.insert, Tbl.get]
  | cons e t ih =>
    obtain ⟨a, w⟩ := e
    simp only [List.map_cons, List.mem_cons, not_or] at h
    by_cases hk : k < a
    · simp [Tbl.insert, Tbl.get, hk]
    · simp [Tbl.insert, Tbl.get, hk, Ne.symm h.1, ih h.2]

/-- A read after a write: the value written at its key, what was there at every other. -/
theorem Tbl.get_set [DecidableEq α] (d : Nat → α) (t : Tbl α) (k j : Nat) (v : α) :
    Tbl.get d (Tbl.set d t k v) j = if j = k then v else Tbl.get d t j := by
  unfold Tbl.set
  by_cases hj : j = k
  · subst hj
    by_cases hv : v = d j
    · simp [hv, Tbl.get_erase_eq]
    · simp only [hv, if_false, if_true]
      exact Tbl.get_insert_eq d _ j v (by simp [Tbl.erase])
  · by_cases hv : v = d k
    · simp [hv, hj, Tbl.get_erase_ne d t hj]
    · simp [hv, hj, Tbl.get_insert_ne d _ v hj, Tbl.get_erase_ne d t hj]

@[simp] theorem Tbl.get_set_eq [DecidableEq α] (d : Nat → α) (t : Tbl α) (k : Nat) (v : α) :
    Tbl.get d (Tbl.set d t k v) k = v := by simp [Tbl.get_set]

theorem Tbl.get_set_ne [DecidableEq α] (d : Nat → α) (t : Tbl α) {k j : Nat} (v : α) (h : j ≠ k) :
    Tbl.get d (Tbl.set d t k v) j = Tbl.get d t j := by simp [Tbl.get_set, h]

@[simp] theorem Tbl.get_nil (d : Nat → α) (k : Nat) : Tbl.get d [] k = d k := rfl

theorem Tbl.mem_insert (k : Nat) (v : α) (t : Tbl α) (e : Nat × α) :
    e ∈ Tbl.insert k v t ↔ e = (k, v) ∨ e ∈ t := by
  induction t with
  | nil => simp [Tbl.insert]
  | cons a t ih =>
    obtain ⟨a, w⟩ := a
    by_cases hk : k < a
    · simp [Tbl.insert, hk]
    · simp [Tbl.insert, hk, ih]; tauto

theorem Tbl.pairwise_insert (k : Nat) (v : α) (t : Tbl α) (h : t.Pairwise (fun a b => a.1 < b.1))
    (hk : k ∉ t.map (·.1)) : (Tbl.insert k v t).Pairwise (fun a b => a.1 < b.1) := by
  induction t with
  | nil => simp [Tbl.insert]
  | cons e t ih =>
    obtain ⟨a, w⟩ := e
    simp only [List.map_cons, List.mem_cons, not_or] at hk
    rw [List.pairwise_cons] at h
    by_cases hlt : k < a
    · simp only [Tbl.insert, hlt, if_true, List.pairwise_cons]
      refine ⟨?_, h.1, h.2⟩
      intro b hb
      rcases List.mem_cons.1 hb with rfl | hb
      · exact hlt
      · exact lt_trans hlt (h.1 b hb)
    · simp only [Tbl.insert, hlt, if_false, List.pairwise_cons]
      refine ⟨?_, ih h.2 hk.2⟩
      intro b hb
      rcases (Tbl.mem_insert k v t b).1 hb with rfl | hb
      · exact lt_of_le_of_ne (not_lt.1 hlt) (Ne.symm hk.1)
      · exact h.1 b hb

/-- A write keeps the canonical form. -/
theorem Tbl.wf_set [DecidableEq α] (d : Nat → α) (t : Tbl α) (k : Nat) (v : α) (h : Tbl.wf d t = true) :
    Tbl.wf d (Tbl.set d t k v) = true := by
  simp only [Tbl.wf, Bool.and_eq_true, decide_eq_true_eq, List.all_eq_true] at h ⊢
  have hp : (Tbl.erase k t).Pairwise (fun a b => a.1 < b.1) := h.1.filter _
  have ha : ∀ e ∈ Tbl.erase k t, e.2 ≠ d e.1 := fun e he => h.2 e (List.mem_filter.1 he).1
  have hk : k ∉ (Tbl.erase k t).map (·.1) := by simp [Tbl.erase]
  unfold Tbl.set
  by_cases hv : v = d k
  · simpa [hv] using ⟨hp, fun a b h => ha (a, b) h⟩
  · simp only [hv, if_false]
    refine ⟨Tbl.pairwise_insert k v _ hp hk, ?_⟩
    intro e he
    rcases (Tbl.mem_insert k v _ e).1 he with rfl | he
    · exact hv
    · exact ha e he

end Sys2Proof.Machine
end

