-- ==== Sys2Proof/Laws/State.lean ====
section
/-! SUPPORT. The laws of the state: what a field of a register reads after an update. The projections of every update (one lemma per field
per update, by `rfl`) come with `@[simps]` at the updates in `Machine/Updates.lean` and at `State.put`. -/

namespace Sys2Proof.Machine

/-- A read after a write of a field: the value cut to the width at its own key, what was there at every other. -/
theorem State.get_put (s : State) (f g : Fld) (v : Nat) :
    (s.put f v).get g = if g.key = f.key then v % 2 ^ f.width else s.get g := by
  simp [State.get, State.put, Tbl.get_set]

@[simp] theorem State.get_put_same (s : State) (f : Fld) (v : Nat) : (s.put f v).get f = v % 2 ^ f.width := by simp [State.get_put]

theorem State.get_put_ne (s : State) {f g : Fld} (v : Nat) (h : g.key ≠ f.key) : (s.put f v).get g = s.get g := by
  simp [State.get_put, h]

theorem State.on_put (s : State) (f g : Fld) (v : Nat) :
    (s.put f v).on g = if g.key = f.key then v % 2 ^ f.width == 1 else s.on g := by
  simp only [State.on, State.get_put]; split <;> rfl

theorem State.on_put_ne (s : State) {f g : Fld} (v : Nat) (h : g.key ≠ f.key) : (s.put f v).on g = s.on g := by
  simp [State.on, State.get_put_ne s v h]

/-! Updates of other fields of the state leave the registers. -/

@[simp] theorem State.get_setPending (s : State) (v : List Instr) (f : Fld) : (s.setPending v).get f = s.get f := rfl
@[simp] theorem State.get_setStage (s : State) (v : Option Stage) (f : Fld) : (s.setStage v).get f = s.get f := rfl
@[simp] theorem State.get_setSnap (s : State) (v : List (Nat × Nat)) (f : Fld) : (s.setSnap v).get f = s.get f := rfl
@[simp] theorem State.get_setShadow (s : State) (v : List Shadow) (f : Fld) : (s.setShadow v).get f = s.get f := rfl
@[simp] theorem State.get_setGroupOf (s : State) (v : List (Nat × Nat)) (f : Fld) : (s.setGroupOf v).get f = s.get f := rfl
@[simp] theorem State.get_setSec (s : State) (v : Nat) (f : Fld) : (s.setSec v).get f = s.get f := rfl
@[simp] theorem State.get_setNs (s : State) (v : Nat) (f : Fld) : (s.setNs v).get f = s.get f := rfl
@[simp] theorem State.get_setFreeCtr (s : State) (v : Nat) (f : Fld) : (s.setFreeCtr v).get f = s.get f := rfl
@[simp] theorem State.get_setMode (s : State) (v : Mode) (f : Fld) : (s.setMode v).get f = s.get f := rfl
@[simp] theorem State.get_setJnl (s : State) (v : List JEntry) (f : Fld) : (s.setJnl v).get f = s.get f := rfl
@[simp] theorem State.get_setJnlCount (s : State) (v : Nat) (f : Fld) : (s.setJnlCount v).get f = s.get f := rfl
@[simp] theorem State.get_setErr (s : State) (v : List EEntry) (f : Fld) : (s.setErr v).get f = s.get f := rfl
@[simp] theorem State.get_setErrCount (s : State) (v : Nat) (f : Fld) : (s.setErrCount v).get f = s.get f := rfl
@[simp] theorem State.get_setErrExport (s : State) (v : List EEntry) (f : Fld) : (s.setErrExport v).get f = s.get f := rfl
@[simp] theorem State.get_setBoot (s : State) (v : Option Boot) (f : Fld) : (s.setBoot v).get f = s.get f := rfl
@[simp] theorem State.get_setWind (s : State) (v : Option Wind) (f : Fld) : (s.setWind v).get f = s.get f := rfl
@[simp] theorem State.get_setDead (s : State) (v : Bool) (f : Fld) : (s.setDead v).get f = s.get f := rfl
@[simp] theorem State.get_setPinLow (s : State) (v : Bool) (f : Fld) : (s.setPinLow v).get f = s.get f := rfl
@[simp] theorem State.get_setClosing (s : State) (v : Bool) (f : Fld) : (s.setClosing v).get f = s.get f := rfl
@[simp] theorem State.get_setTrimming (s : State) (v : List Nat) (f : Fld) : (s.setTrimming v).get f = s.get f := rfl
@[simp] theorem State.get_setMovs (s : State) (v : Tbl Mov) (f : Fld) : (s.setMovs v).get f = s.get f := rfl
@[simp] theorem State.get_setPairs (s : State) (v : Tbl Pair) (f : Fld) : (s.setPairs v).get f = s.get f := rfl
@[simp] theorem State.get_setRefCount (s : State) (v : RefCount) (f : Fld) : (s.setRefCount v).get f = s.get f := rfl
@[simp] theorem State.get_setPpsGood (s : State) (v : Nat) (f : Fld) : (s.setPpsGood v).get f = s.get f := rfl
@[simp] theorem State.get_setPpsStep (s : State) (v : Bool) (f : Fld) : (s.setPpsStep v).get f = s.get f := rfl
@[simp] theorem State.get_setSteer (s : State) (v : Int × Int) (f : Fld) : (s.setSteer v).get f = s.get f := rfl
@[simp] theorem State.get_setTimeSet (s : State) (v : Option Nat) (f : Fld) : (s.setTimeSet v).get f = s.get f := rfl
@[simp] theorem State.get_setVisiting (s : State) (v : List Nat) (f : Fld) : (s.setVisiting v).get f = s.get f := rfl
@[simp] theorem State.get_setIntakes (s : State) (v : Tbl Intake) (f : Fld) : (s.setIntakes v).get f = s.get f := rfl
@[simp] theorem State.get_setRepeats (s : State) (v : Nat) (f : Fld) : (s.setRepeats v).get f = s.get f := rfl
@[simp] theorem State.get_setCalTable (s : State) (v : Tbl (Nat × Nat)) (f : Fld) : (s.setCalTable v).get f = s.get f := rfl
@[simp] theorem State.get_setLanes (s : State) (v : Tbl LaneRole) (f : Fld) : (s.setLanes v).get f = s.get f := rfl
@[simp] theorem State.get_setSounding (s : State) (v : List Nat) (f : Fld) : (s.setSounding v).get f = s.get f := rfl
@[simp] theorem State.get_setSyncMask (s : State) (v : Nat) (f : Fld) : (s.setSyncMask v).get f = s.get f := rfl
@[simp] theorem State.get_setPatrolAt (s : State) (v : Nat) (f : Fld) : (s.setPatrolAt v).get f = s.get f := rfl
@[simp] theorem State.get_setDIntake (s : State) (v : List Nat × List Nat) (f : Fld) : (s.setDIntake v).get f = s.get f := rfl
@[simp] theorem State.get_setUIntake (s : State) (v : Nat × Nat) (f : Fld) : (s.setUIntake v).get f = s.get f := rfl
@[simp] theorem State.get_setBerths (s : State) (v : Tbl Berth) (f : Fld) : (s.setBerths v).get f = s.get f := rfl
@[simp] theorem State.get_setReady (s : State) (v : Tbl (List Nat)) (f : Fld) : (s.setReady v).get f = s.get f := rfl
@[simp] theorem State.get_setHandover (s : State) (v : List Nat) (f : Fld) : (s.setHandover v).get f = s.get f := rfl
@[simp] theorem State.get_setOutbox (s : State) (v : Tbl (List Wait)) (f : Fld) : (s.setOutbox v).get f = s.get f := rfl
@[simp] theorem State.get_setRds (s : State) (v : Tbl Rds) (f : Fld) : (s.setRds v).get f = s.get f := rfl
@[simp] theorem State.get_setFollow (s : State) (v : Tbl Follow) (f : Fld) : (s.setFollow v).get f = s.get f := rfl
@[simp] theorem State.get_setSoundingAt (s : State) (v : Option (Nat × Nat × Nat)) (f : Fld) : (s.setSoundingAt v).get f = s.get f := rfl
@[simp] theorem State.get_setDab (s : State) (v : Tbl Dab) (f : Fld) : (s.setDab v).get f = s.get f := rfl
@[simp] theorem State.get_setDrm (s : State) (v : Tbl Drm) (f : Fld) : (s.setDrm v).get f = s.get f := rfl
@[simp] theorem State.get_setDvb (s : State) (v : Tbl Dvb) (f : Fld) : (s.setDvb v).get f = s.get f := rfl
@[simp] theorem State.get_setWindows (s : State) (v : Tbl (Option Win)) (f : Fld) : (s.setWindows v).get f = s.get f := rfl
@[simp] theorem State.get_setEnded (s : State) (v : Tbl (List Win)) (f : Fld) : (s.setEnded v).get f = s.get f := rfl
@[simp] theorem State.get_setDriftAt (s : State) (v : Nat) (f : Fld) : (s.setDriftAt v).get f = s.get f := rfl
@[simp] theorem State.get_setCustody (s : State) (v : List Item) (f : Fld) : (s.setCustody v).get f = s.get f := rfl
@[simp] theorem State.get_setProds (s : State) (v : Tbl Producer) (f : Fld) : (s.setProds v).get f = s.get f := rfl
@[simp] theorem State.get_setStats (s : State) (v : Tbl Stat) (f : Fld) : (s.setStats v).get f = s.get f := rfl
@[simp] theorem State.get_setQuays (s : State) (v : Tbl Quay) (f : Fld) : (s.setQuays v).get f = s.get f := rfl
@[simp] theorem State.get_setEpoch (s : State) (v : Nat) (f : Fld) : (s.setEpoch v).get f = s.get f := rfl
@[simp] theorem State.get_setRebuilding (s : State) (v : Bool) (f : Fld) : (s.setRebuilding v).get f = s.get f := rfl
@[simp] theorem State.get_setLandRx (s : State) (v : LandRx) (f : Fld) : (s.setLandRx v).get f = s.get f := rfl
@[simp] theorem State.get_setLandFifo (s : State) (v : List LFrame) (f : Fld) : (s.setLandFifo v).get f = s.get f := rfl
@[simp] theorem State.get_setLandChans (s : State) (v : Tbl LandChan) (f : Fld) : (s.setLandChans v).get f = s.get f := rfl
@[simp] theorem State.get_setPorts (s : State) (v : Tbl Port) (f : Fld) : (s.setPorts v).get f = s.get f := rfl
@[simp] theorem State.get_setSlots (s : State) (v : Tbl Slot) (f : Fld) : (s.setSlots v).get f = s.get f := rfl
@[simp] theorem State.get_setBondReqs (s : State) (v : List BReq) (f : Fld) : (s.setBondReqs v).get f = s.get f := rfl
@[simp] theorem State.get_setBondNext (s : State) (v : Nat) (f : Fld) : (s.setBondNext v).get f = s.get f := rfl
@[simp] theorem State.get_setBondNow (s : State) (v : Option Nat) (f : Fld) : (s.setBondNow v).get f = s.get f := rfl
@[simp] theorem State.get_setIvTable (s : State) (v : List IvEntry) (f : Fld) : (s.setIvTable v).get f = s.get f := rfl
@[simp] theorem State.get_setKeyWrap (s : State) (v : Tbl Nat) (f : Fld) : (s.setKeyWrap v).get f = s.get f := rfl
@[simp] theorem State.get_setKekData (s : State) (v : Tbl Nat) (f : Fld) : (s.setKekData v).get f = s.get f := rfl
@[simp] theorem State.get_setKek (s : State) (v : Option (List Byte)) (f : Fld) : (s.setKek v).get f = s.get f := rfl
@[simp] theorem State.get_setKekBurn (s : State) (v : Option (List Byte)) (f : Fld) : (s.setKekBurn v).get f = s.get f := rfl
@[simp] theorem State.get_setDrbg (s : State) (v : Option Drbg) (f : Fld) : (s.setDrbg v).get f = s.get f := rfl
@[simp] theorem State.get_setCaps (s : State) (v : Tbl Cap) (f : Fld) : (s.setCaps v).get f = s.get f := rfl
@[simp] theorem State.get_setSchedule (s : State) (v : List TxReq) (f : Fld) : (s.setSchedule v).get f = s.get f := rfl
@[simp] theorem State.get_setTxAt (s : State) (v : Nat × TxStage) (f : Fld) : (s.setTxAt v).get f = s.get f := rfl
@[simp] theorem State.get_setTrsw (s : State) (v : Bool) (f : Fld) : (s.setTrsw v).get f = s.get f := rfl
@[simp] theorem State.get_setPilotWindow (s : State) (v : Bool) (f : Fld) : (s.setPilotWindow v).get f = s.get f := rfl
@[simp] theorem State.get_setOnAir (s : State) (v : Option (Nat × Nat × List Byte)) (f : Fld) : (s.setOnAir v).get f = s.get f := rfl
@[simp] theorem State.get_setDutyBins (s : State) (v : List (Nat × Nat)) (f : Fld) : (s.setDutyBins v).get f = s.get f := rfl
@[simp] theorem State.get_setPeriodics (s : State) (v : List Periodic) (f : Fld) : (s.setPeriodics v).get f = s.get f := rfl
@[simp] theorem State.get_setListen (s : State) (v : Option (Nat × Nat)) (f : Fld) : (s.setListen v).get f = s.get f := rfl
@[simp] theorem State.get_setRelays (s : State) (v : List Relay) (f : Fld) : (s.setRelays v).get f = s.get f := rfl
@[simp] theorem State.get_setRx (s : State) (v : Tbl Rx) (f : Fld) : (s.setRx v).get f = s.get f := rfl
@[simp] theorem State.get_setBackoff (s : State) (v : Nat) (f : Fld) : (s.setBackoff v).get f = s.get f := rfl
@[simp] theorem State.get_setAlerts (s : State) (v : List Alert) (f : Fld) : (s.setAlerts v).get f = s.get f := rfl
@[simp] theorem State.get_setAlertDue (s : State) (v : List (Nat × Nat)) (f : Fld) : (s.setAlertDue v).get f = s.get f := rfl
@[simp] theorem State.get_setAlertCmds (s : State) (v : List Nat) (f : Fld) : (s.setAlertCmds v).get f = s.get f := rfl
@[simp] theorem State.get_setUnits (s : State) (v : Tbl UnitRec) (f : Fld) : (s.setUnits v).get f = s.get f := rfl
@[simp] theorem State.get_setInj (s : State) (v : Option Inj) (f : Fld) : (s.setInj v).get f = s.get f := rfl
@[simp] theorem State.get_setClock (s : State) (v : Nat) (f : Fld) : (s.setClock v).get f = s.get f := rfl
@[simp] theorem State.get_setFlips (s : State) (v : Tbl Nat) (f : Fld) : (s.setFlips v).get f = s.get f := rfl
@[simp] theorem State.get_setWords (s : State) (v : Tbl UnitRec) (f : Fld) : (s.setWords v).get f = s.get f := rfl
@[simp] theorem State.get_setRowMap (s : State) (v : Tbl Nat) (f : Fld) : (s.setRowMap v).get f = s.get f := rfl
@[simp] theorem State.get_setRowsDue (s : State) (v : List Nat) (f : Fld) : (s.setRowsDue v).get f = s.get f := rfl
@[simp] theorem State.get_setRetesting (s : State) (v : Option (Nat × Nat)) (f : Fld) : (s.setRetesting v).get f = s.get f := rfl
@[simp] theorem State.get_setTw (s : State) (v : TwoWire) (f : Fld) : (s.setTw v).get f = s.get f := rfl
@[simp] theorem State.get_setDoms (s : State) (v : Tbl Dom) (f : Fld) : (s.setDoms v).get f = s.get f := rfl
@[simp] theorem State.get_setJnlLost (s : State) (v : Nat) (f : Fld) : (s.setJnlLost v).get f = s.get f := rfl
@[simp] theorem State.get_setFine (s : State) (v : Int) (f : Fld) : (s.setFine v).get f = s.get f := rfl
@[simp] theorem State.get_setBeatOf (s : State) (v : Tbl Nat) (f : Fld) : (s.setBeatOf v).get f = s.get f := rfl
@[simp] theorem State.get_setChans (s : State) (v : Tbl Chan) (f : Fld) : (s.setChans v).get f = s.get f := rfl
@[simp] theorem State.get_setChains (s : State) (v : Tbl Chain) (f : Fld) : (s.setChains v).get f = s.get f := rfl
@[simp] theorem State.get_setDets (s : State) (v : Tbl Det) (f : Fld) : (s.setDets v).get f = s.get f := rfl
@[simp] theorem State.get_setDetFull (s : State) (v : Tbl Det) (f : Fld) : (s.setDetFull v).get f = s.get f := rfl
@[simp] theorem State.get_setInputs (s : State) (v : Tbl (List BSmp)) (f : Fld) : (s.setInputs v).get f = s.get f := rfl
@[simp] theorem State.get_setFeedHeat (s : State) (v : Tbl Nat) (f : Fld) : (s.setFeedHeat v).get f = s.get f := rfl
@[simp] theorem State.get_setFeedTrips (s : State) (v : Tbl Nat) (f : Fld) : (s.setFeedTrips v).get f = s.get f := rfl
@[simp] theorem State.get_setQuiet (s : State) (v : Tbl (List Nat)) (f : Fld) : (s.setQuiet v).get f = s.get f := rfl
@[simp] theorem State.get_setTestBins (s : State) (v : Tbl Nat) (f : Fld) : (s.setTestBins v).get f = s.get f := rfl
@[simp] theorem State.get_setCaptured (s : State) (v : Tbl (List (Nat × Nat))) (f : Fld) : (s.setCaptured v).get f = s.get f := rfl
@[simp] theorem State.get_setAud (s : State) (v : Tbl Aud) (f : Fld) : (s.setAud v).get f = s.get f := rfl
@[simp] theorem State.get_setPcm (s : State) (v : Tbl (List Pcm)) (f : Fld) : (s.setPcm v).get f = s.get f := rfl
@[simp] theorem State.get_setCraneNs (s : State) (v : Tbl Nat) (f : Fld) : (s.setCraneNs v).get f = s.get f := rfl
@[simp] theorem State.get_setGChain (s : State) (v : Tbl Int) (f : Fld) : (s.setGChain v).get f = s.get f := rfl
@[simp] theorem State.get_setSoundDet (s : State) (v : Det) (f : Fld) : (s.setSoundDet v).get f = s.get f := rfl
@[simp] theorem State.get_setScopeAt (s : State) (v : Tbl Nat) (f : Fld) : (s.setScopeAt v).get f = s.get f := rfl
@[simp] theorem State.get_setCca (s : State) (v : Tbl (List Smp)) (f : Fld) : (s.setCca v).get f = s.get f := rfl
@[simp] theorem State.get_setListens (s : State) (v : List (Nat × Nat × Nat × Option Nat)) (f : Fld) : (s.setListens v).get f = s.get f := rfl
@[simp] theorem State.get_setRxHeard (s : State) (v : Tbl (List (Int × Int × Nat))) (f : Fld) : (s.setRxHeard v).get f = s.get f := rfl
@[simp] theorem State.get_setInjWords (s : State) (v : List Nat) (f : Fld) : (s.setInjWords v).get f = s.get f := rfl
@[simp] theorem State.get_setSingles (s : State) (v : List Nat) (f : Fld) : (s.setSingles v).get f = s.get f := rfl
@[simp] theorem State.get_setDamaged (s : State) (v : List (WordUse × Nat)) (f : Fld) : (s.setDamaged v).get f = s.get f := rfl
@[simp] theorem State.get_setInjSeen (s : State) (v : Bool) (f : Fld) : (s.setInjSeen v).get f = s.get f := rfl
@[simp] theorem State.get_setInjBits (s : State) (v : Nat) (f : Fld) : (s.setInjBits v).get f = s.get f := rfl
@[simp] theorem State.get_setPrecNow (s : State) (v : Nat) (f : Fld) : (s.setPrecNow v).get f = s.get f := rfl
@[simp] theorem State.get_setTainted (s : State) (v : Nat) (f : Fld) : (s.setTainted v).get f = s.get f := rfl
@[simp] theorem State.get_setInjStall (s : State) (v : List Nat) (f : Fld) : (s.setInjStall v).get f = s.get f := rfl
@[simp] theorem State.get_setJtag (s : State) (v : Tap) (f : Fld) : (s.setJtag v).get f = s.get f := rfl

@[simp] theorem State.on_setPending (s : State) (v : List Instr) (f : Fld) : (s.setPending v).on f = s.on f := rfl
@[simp] theorem State.on_setStage (s : State) (v : Option Stage) (f : Fld) : (s.setStage v).on f = s.on f := rfl
@[simp] theorem State.on_setSnap (s : State) (v : List (Nat × Nat)) (f : Fld) : (s.setSnap v).on f = s.on f := rfl
@[simp] theorem State.on_setShadow (s : State) (v : List Shadow) (f : Fld) : (s.setShadow v).on f = s.on f := rfl
@[simp] theorem State.on_setGroupOf (s : State) (v : List (Nat × Nat)) (f : Fld) : (s.setGroupOf v).on f = s.on f := rfl
@[simp] theorem State.on_setSec (s : State) (v : Nat) (f : Fld) : (s.setSec v).on f = s.on f := rfl
@[simp] theorem State.on_setNs (s : State) (v : Nat) (f : Fld) : (s.setNs v).on f = s.on f := rfl
@[simp] theorem State.on_setFreeCtr (s : State) (v : Nat) (f : Fld) : (s.setFreeCtr v).on f = s.on f := rfl
@[simp] theorem State.on_setMode (s : State) (v : Mode) (f : Fld) : (s.setMode v).on f = s.on f := rfl
@[simp] theorem State.on_setJnl (s : State) (v : List JEntry) (f : Fld) : (s.setJnl v).on f = s.on f := rfl
@[simp] theorem State.on_setJnlCount (s : State) (v : Nat) (f : Fld) : (s.setJnlCount v).on f = s.on f := rfl
@[simp] theorem State.on_setErr (s : State) (v : List EEntry) (f : Fld) : (s.setErr v).on f = s.on f := rfl
@[simp] theorem State.on_setErrCount (s : State) (v : Nat) (f : Fld) : (s.setErrCount v).on f = s.on f := rfl
@[simp] theorem State.on_setErrExport (s : State) (v : List EEntry) (f : Fld) : (s.setErrExport v).on f = s.on f := rfl
@[simp] theorem State.on_setBoot (s : State) (v : Option Boot) (f : Fld) : (s.setBoot v).on f = s.on f := rfl
@[simp] theorem State.on_setWind (s : State) (v : Option Wind) (f : Fld) : (s.setWind v).on f = s.on f := rfl
@[simp] theorem State.on_setDead (s : State) (v : Bool) (f : Fld) : (s.setDead v).on f = s.on f := rfl
@[simp] theorem State.on_setPinLow (s : State) (v : Bool) (f : Fld) : (s.setPinLow v).on f = s.on f := rfl
@[simp] theorem State.on_setClosing (s : State) (v : Bool) (f : Fld) : (s.setClosing v).on f = s.on f := rfl
@[simp] theorem State.on_setTrimming (s : State) (v : List Nat) (f : Fld) : (s.setTrimming v).on f = s.on f := rfl
@[simp] theorem State.on_setMovs (s : State) (v : Tbl Mov) (f : Fld) : (s.setMovs v).on f = s.on f := rfl
@[simp] theorem State.on_setPairs (s : State) (v : Tbl Pair) (f : Fld) : (s.setPairs v).on f = s.on f := rfl
@[simp] theorem State.on_setRefCount (s : State) (v : RefCount) (f : Fld) : (s.setRefCount v).on f = s.on f := rfl
@[simp] theorem State.on_setPpsGood (s : State) (v : Nat) (f : Fld) : (s.setPpsGood v).on f = s.on f := rfl
@[simp] theorem State.on_setPpsStep (s : State) (v : Bool) (f : Fld) : (s.setPpsStep v).on f = s.on f := rfl
@[simp] theorem State.on_setSteer (s : State) (v : Int × Int) (f : Fld) : (s.setSteer v).on f = s.on f := rfl
@[simp] theorem State.on_setTimeSet (s : State) (v : Option Nat) (f : Fld) : (s.setTimeSet v).on f = s.on f := rfl
@[simp] theorem State.on_setVisiting (s : State) (v : List Nat) (f : Fld) : (s.setVisiting v).on f = s.on f := rfl
@[simp] theorem State.on_setIntakes (s : State) (v : Tbl Intake) (f : Fld) : (s.setIntakes v).on f = s.on f := rfl
@[simp] theorem State.on_setRepeats (s : State) (v : Nat) (f : Fld) : (s.setRepeats v).on f = s.on f := rfl
@[simp] theorem State.on_setCalTable (s : State) (v : Tbl (Nat × Nat)) (f : Fld) : (s.setCalTable v).on f = s.on f := rfl
@[simp] theorem State.on_setLanes (s : State) (v : Tbl LaneRole) (f : Fld) : (s.setLanes v).on f = s.on f := rfl
@[simp] theorem State.on_setSounding (s : State) (v : List Nat) (f : Fld) : (s.setSounding v).on f = s.on f := rfl
@[simp] theorem State.on_setSyncMask (s : State) (v : Nat) (f : Fld) : (s.setSyncMask v).on f = s.on f := rfl
@[simp] theorem State.on_setPatrolAt (s : State) (v : Nat) (f : Fld) : (s.setPatrolAt v).on f = s.on f := rfl
@[simp] theorem State.on_setDIntake (s : State) (v : List Nat × List Nat) (f : Fld) : (s.setDIntake v).on f = s.on f := rfl
@[simp] theorem State.on_setUIntake (s : State) (v : Nat × Nat) (f : Fld) : (s.setUIntake v).on f = s.on f := rfl
@[simp] theorem State.on_setBerths (s : State) (v : Tbl Berth) (f : Fld) : (s.setBerths v).on f = s.on f := rfl
@[simp] theorem State.on_setReady (s : State) (v : Tbl (List Nat)) (f : Fld) : (s.setReady v).on f = s.on f := rfl
@[simp] theorem State.on_setHandover (s : State) (v : List Nat) (f : Fld) : (s.setHandover v).on f = s.on f := rfl
@[simp] theorem State.on_setOutbox (s : State) (v : Tbl (List Wait)) (f : Fld) : (s.setOutbox v).on f = s.on f := rfl
@[simp] theorem State.on_setRds (s : State) (v : Tbl Rds) (f : Fld) : (s.setRds v).on f = s.on f := rfl
@[simp] theorem State.on_setFollow (s : State) (v : Tbl Follow) (f : Fld) : (s.setFollow v).on f = s.on f := rfl
@[simp] theorem State.on_setSoundingAt (s : State) (v : Option (Nat × Nat × Nat)) (f : Fld) : (s.setSoundingAt v).on f = s.on f := rfl
@[simp] theorem State.on_setDab (s : State) (v : Tbl Dab) (f : Fld) : (s.setDab v).on f = s.on f := rfl
@[simp] theorem State.on_setDrm (s : State) (v : Tbl Drm) (f : Fld) : (s.setDrm v).on f = s.on f := rfl
@[simp] theorem State.on_setDvb (s : State) (v : Tbl Dvb) (f : Fld) : (s.setDvb v).on f = s.on f := rfl
@[simp] theorem State.on_setWindows (s : State) (v : Tbl (Option Win)) (f : Fld) : (s.setWindows v).on f = s.on f := rfl
@[simp] theorem State.on_setEnded (s : State) (v : Tbl (List Win)) (f : Fld) : (s.setEnded v).on f = s.on f := rfl
@[simp] theorem State.on_setDriftAt (s : State) (v : Nat) (f : Fld) : (s.setDriftAt v).on f = s.on f := rfl
@[simp] theorem State.on_setCustody (s : State) (v : List Item) (f : Fld) : (s.setCustody v).on f = s.on f := rfl
@[simp] theorem State.on_setProds (s : State) (v : Tbl Producer) (f : Fld) : (s.setProds v).on f = s.on f := rfl
@[simp] theorem State.on_setStats (s : State) (v : Tbl Stat) (f : Fld) : (s.setStats v).on f = s.on f := rfl
@[simp] theorem State.on_setQuays (s : State) (v : Tbl Quay) (f : Fld) : (s.setQuays v).on f = s.on f := rfl
@[simp] theorem State.on_setEpoch (s : State) (v : Nat) (f : Fld) : (s.setEpoch v).on f = s.on f := rfl
@[simp] theorem State.on_setRebuilding (s : State) (v : Bool) (f : Fld) : (s.setRebuilding v).on f = s.on f := rfl
@[simp] theorem State.on_setLandRx (s : State) (v : LandRx) (f : Fld) : (s.setLandRx v).on f = s.on f := rfl
@[simp] theorem State.on_setLandFifo (s : State) (v : List LFrame) (f : Fld) : (s.setLandFifo v).on f = s.on f := rfl
@[simp] theorem State.on_setLandChans (s : State) (v : Tbl LandChan) (f : Fld) : (s.setLandChans v).on f = s.on f := rfl
@[simp] theorem State.on_setPorts (s : State) (v : Tbl Port) (f : Fld) : (s.setPorts v).on f = s.on f := rfl
@[simp] theorem State.on_setSlots (s : State) (v : Tbl Slot) (f : Fld) : (s.setSlots v).on f = s.on f := rfl
@[simp] theorem State.on_setBondReqs (s : State) (v : List BReq) (f : Fld) : (s.setBondReqs v).on f = s.on f := rfl
@[simp] theorem State.on_setBondNext (s : State) (v : Nat) (f : Fld) : (s.setBondNext v).on f = s.on f := rfl
@[simp] theorem State.on_setBondNow (s : State) (v : Option Nat) (f : Fld) : (s.setBondNow v).on f = s.on f := rfl
@[simp] theorem State.on_setIvTable (s : State) (v : List IvEntry) (f : Fld) : (s.setIvTable v).on f = s.on f := rfl
@[simp] theorem State.on_setKeyWrap (s : State) (v : Tbl Nat) (f : Fld) : (s.setKeyWrap v).on f = s.on f := rfl
@[simp] theorem State.on_setKekData (s : State) (v : Tbl Nat) (f : Fld) : (s.setKekData v).on f = s.on f := rfl
@[simp] theorem State.on_setKek (s : State) (v : Option (List Byte)) (f : Fld) : (s.setKek v).on f = s.on f := rfl
@[simp] theorem State.on_setKekBurn (s : State) (v : Option (List Byte)) (f : Fld) : (s.setKekBurn v).on f = s.on f := rfl
@[simp] theorem State.on_setDrbg (s : State) (v : Option Drbg) (f : Fld) : (s.setDrbg v).on f = s.on f := rfl
@[simp] theorem State.on_setCaps (s : State) (v : Tbl Cap) (f : Fld) : (s.setCaps v).on f = s.on f := rfl
@[simp] theorem State.on_setSchedule (s : State) (v : List TxReq) (f : Fld) : (s.setSchedule v).on f = s.on f := rfl
@[simp] theorem State.on_setTxAt (s : State) (v : Nat × TxStage) (f : Fld) : (s.setTxAt v).on f = s.on f := rfl
@[simp] theorem State.on_setTrsw (s : State) (v : Bool) (f : Fld) : (s.setTrsw v).on f = s.on f := rfl
@[simp] theorem State.on_setPilotWindow (s : State) (v : Bool) (f : Fld) : (s.setPilotWindow v).on f = s.on f := rfl
@[simp] theorem State.on_setOnAir (s : State) (v : Option (Nat × Nat × List Byte)) (f : Fld) : (s.setOnAir v).on f = s.on f := rfl
@[simp] theorem State.on_setDutyBins (s : State) (v : List (Nat × Nat)) (f : Fld) : (s.setDutyBins v).on f = s.on f := rfl
@[simp] theorem State.on_setPeriodics (s : State) (v : List Periodic) (f : Fld) : (s.setPeriodics v).on f = s.on f := rfl
@[simp] theorem State.on_setListen (s : State) (v : Option (Nat × Nat)) (f : Fld) : (s.setListen v).on f = s.on f := rfl
@[simp] theorem State.on_setRelays (s : State) (v : List Relay) (f : Fld) : (s.setRelays v).on f = s.on f := rfl
@[simp] theorem State.on_setRx (s : State) (v : Tbl Rx) (f : Fld) : (s.setRx v).on f = s.on f := rfl
@[simp] theorem State.on_setBackoff (s : State) (v : Nat) (f : Fld) : (s.setBackoff v).on f = s.on f := rfl
@[simp] theorem State.on_setAlerts (s : State) (v : List Alert) (f : Fld) : (s.setAlerts v).on f = s.on f := rfl
@[simp] theorem State.on_setAlertDue (s : State) (v : List (Nat × Nat)) (f : Fld) : (s.setAlertDue v).on f = s.on f := rfl
@[simp] theorem State.on_setAlertCmds (s : State) (v : List Nat) (f : Fld) : (s.setAlertCmds v).on f = s.on f := rfl
@[simp] theorem State.on_setUnits (s : State) (v : Tbl UnitRec) (f : Fld) : (s.setUnits v).on f = s.on f := rfl
@[simp] theorem State.on_setInj (s : State) (v : Option Inj) (f : Fld) : (s.setInj v).on f = s.on f := rfl
@[simp] theorem State.on_setClock (s : State) (v : Nat) (f : Fld) : (s.setClock v).on f = s.on f := rfl
@[simp] theorem State.on_setFlips (s : State) (v : Tbl Nat) (f : Fld) : (s.setFlips v).on f = s.on f := rfl
@[simp] theorem State.on_setWords (s : State) (v : Tbl UnitRec) (f : Fld) : (s.setWords v).on f = s.on f := rfl
@[simp] theorem State.on_setRowMap (s : State) (v : Tbl Nat) (f : Fld) : (s.setRowMap v).on f = s.on f := rfl
@[simp] theorem State.on_setRowsDue (s : State) (v : List Nat) (f : Fld) : (s.setRowsDue v).on f = s.on f := rfl
@[simp] theorem State.on_setRetesting (s : State) (v : Option (Nat × Nat)) (f : Fld) : (s.setRetesting v).on f = s.on f := rfl
@[simp] theorem State.on_setTw (s : State) (v : TwoWire) (f : Fld) : (s.setTw v).on f = s.on f := rfl
@[simp] theorem State.on_setDoms (s : State) (v : Tbl Dom) (f : Fld) : (s.setDoms v).on f = s.on f := rfl
@[simp] theorem State.on_setJnlLost (s : State) (v : Nat) (f : Fld) : (s.setJnlLost v).on f = s.on f := rfl
@[simp] theorem State.on_setFine (s : State) (v : Int) (f : Fld) : (s.setFine v).on f = s.on f := rfl
@[simp] theorem State.on_setBeatOf (s : State) (v : Tbl Nat) (f : Fld) : (s.setBeatOf v).on f = s.on f := rfl
@[simp] theorem State.on_setChans (s : State) (v : Tbl Chan) (f : Fld) : (s.setChans v).on f = s.on f := rfl
@[simp] theorem State.on_setChains (s : State) (v : Tbl Chain) (f : Fld) : (s.setChains v).on f = s.on f := rfl
@[simp] theorem State.on_setDets (s : State) (v : Tbl Det) (f : Fld) : (s.setDets v).on f = s.on f := rfl
@[simp] theorem State.on_setDetFull (s : State) (v : Tbl Det) (f : Fld) : (s.setDetFull v).on f = s.on f := rfl
@[simp] theorem State.on_setInputs (s : State) (v : Tbl (List BSmp)) (f : Fld) : (s.setInputs v).on f = s.on f := rfl
@[simp] theorem State.on_setFeedHeat (s : State) (v : Tbl Nat) (f : Fld) : (s.setFeedHeat v).on f = s.on f := rfl
@[simp] theorem State.on_setFeedTrips (s : State) (v : Tbl Nat) (f : Fld) : (s.setFeedTrips v).on f = s.on f := rfl
@[simp] theorem State.on_setQuiet (s : State) (v : Tbl (List Nat)) (f : Fld) : (s.setQuiet v).on f = s.on f := rfl
@[simp] theorem State.on_setTestBins (s : State) (v : Tbl Nat) (f : Fld) : (s.setTestBins v).on f = s.on f := rfl
@[simp] theorem State.on_setCaptured (s : State) (v : Tbl (List (Nat × Nat))) (f : Fld) : (s.setCaptured v).on f = s.on f := rfl
@[simp] theorem State.on_setAud (s : State) (v : Tbl Aud) (f : Fld) : (s.setAud v).on f = s.on f := rfl
@[simp] theorem State.on_setPcm (s : State) (v : Tbl (List Pcm)) (f : Fld) : (s.setPcm v).on f = s.on f := rfl
@[simp] theorem State.on_setCraneNs (s : State) (v : Tbl Nat) (f : Fld) : (s.setCraneNs v).on f = s.on f := rfl
@[simp] theorem State.on_setGChain (s : State) (v : Tbl Int) (f : Fld) : (s.setGChain v).on f = s.on f := rfl
@[simp] theorem State.on_setSoundDet (s : State) (v : Det) (f : Fld) : (s.setSoundDet v).on f = s.on f := rfl
@[simp] theorem State.on_setScopeAt (s : State) (v : Tbl Nat) (f : Fld) : (s.setScopeAt v).on f = s.on f := rfl
@[simp] theorem State.on_setCca (s : State) (v : Tbl (List Smp)) (f : Fld) : (s.setCca v).on f = s.on f := rfl
@[simp] theorem State.on_setListens (s : State) (v : List (Nat × Nat × Nat × Option Nat)) (f : Fld) : (s.setListens v).on f = s.on f := rfl
@[simp] theorem State.on_setRxHeard (s : State) (v : Tbl (List (Int × Int × Nat))) (f : Fld) : (s.setRxHeard v).on f = s.on f := rfl
@[simp] theorem State.on_setInjWords (s : State) (v : List Nat) (f : Fld) : (s.setInjWords v).on f = s.on f := rfl
@[simp] theorem State.on_setSingles (s : State) (v : List Nat) (f : Fld) : (s.setSingles v).on f = s.on f := rfl
@[simp] theorem State.on_setDamaged (s : State) (v : List (WordUse × Nat)) (f : Fld) : (s.setDamaged v).on f = s.on f := rfl
@[simp] theorem State.on_setInjSeen (s : State) (v : Bool) (f : Fld) : (s.setInjSeen v).on f = s.on f := rfl
@[simp] theorem State.on_setInjBits (s : State) (v : Nat) (f : Fld) : (s.setInjBits v).on f = s.on f := rfl
@[simp] theorem State.on_setPrecNow (s : State) (v : Nat) (f : Fld) : (s.setPrecNow v).on f = s.on f := rfl
@[simp] theorem State.on_setTainted (s : State) (v : Nat) (f : Fld) : (s.setTainted v).on f = s.on f := rfl
@[simp] theorem State.on_setInjStall (s : State) (v : List Nat) (f : Fld) : (s.setInjStall v).on f = s.on f := rfl
@[simp] theorem State.on_setJtag (s : State) (v : Tap) (f : Fld) : (s.setJtag v).on f = s.on f := rfl
@[simp] theorem State.get_setHoldPins (s : State) (v : Nat) (f : Fld) : (s.setHoldPins v).get f = s.get f := rfl
@[simp] theorem State.on_setHoldPins (s : State) (v : Nat) (f : Fld) : (s.setHoldPins v).on f = s.on f := rfl
@[simp] theorem State.get_setTaken (s : State) (v : Tbl Nat) (f : Fld) : (s.setTaken v).get f = s.get f := rfl
@[simp] theorem State.on_setTaken (s : State) (v : Tbl Nat) (f : Fld) : (s.setTaken v).on f = s.on f := rfl
@[simp] theorem State.get_setBanks (s : State) (v : Tbl Nat) (f : Fld) : (s.setBanks v).get f = s.get f := rfl
@[simp] theorem State.on_setBanks (s : State) (v : Tbl Nat) (f : Fld) : (s.setBanks v).on f = s.on f := rfl

end Sys2Proof.Machine
end

