-- ==== Sys2Proof/Laws/Events.lean ====
section
/-! SUPPORT. The laws of the two forms of a command: what an event answers, and what its end leaves. -/

namespace Sys2Proof.Machine

/-- An event of a unit that exists, while `VKEEP` holds the device up, is its effect. -/
theorem State.event_on {s : State} {ok : Bool} (g : State → State) (hd : s.dead = false) (ho : ok = true) :
    s.event ok g = .next (s.finish (g s)) := by simp [State.event, hd, ho]

/-- An event while `VKEEP` is low, or of a unit that does not exist, changes nothing. -/
theorem State.event_off {s : State} {ok : Bool} (g : State → State) (h : s.dead = true ∨ ok = false) : s.event ok g = .next s := by
  rcases h with h | h <;> simp [State.event, h]

/-- Every event answers a next state. -/
theorem State.event_next (s : State) (ok : Bool) (g : State → State) :
    s.event ok g = .next (if s.dead || !ok then s else s.finish (g s)) := rfl

/-- A word of the host is a register write, while the port answers. -/
theorem State.host_on {s : State} {ok : Bool} (a w : Nat) (hd : s.dead = false) (hp : s.pinLow = false) (ho : ok = true) :
    s.host ok a w = .next (s.finish (s.regWrite srcTwoWire a w)) := by simp [State.host, State.event, hd, hp, ho]

/-- Without the port a word of the host changes nothing. -/
theorem State.host_off {s : State} {ok : Bool} (a w : Nat) (h : s.dead = true ∨ s.pinLow = true) : s.host ok a w = .next s := by
  rcases h with h | h <;> simp [State.host, State.event, h]

/-! The end of a command: no berth that is shed keeps a fade, the open record windows take the precision bits, the status fields show what they
stand for, and the queue is kept. -/

/-- Where no fade waits for its end, none is ended. -/
theorem State.shedFades_calm {s : State} (h : s.Calm) : s.shedFades = s := by
  rcases h with h | h
  · have e : s.berths.filter (fun e => e.2.shedding) = [] := by
      rw [List.filter_eq_nil_iff]; intro e he; simp [h e he]
    simp [State.shedFades, State.each, e]
  · have h1 : ∀ n, s.fadeOf n = none := by
      have key : ∀ l : Tbl Follow, (∀ e ∈ l, e.2.fade = none) → ∀ n, (Tbl.get (fun _ => Follow.reset) l n).fade = none := by
        intro l
        induction l with
        | nil => intro _ n; rfl
        | cons e l ih =>
          intro hl n
          obtain ⟨k, v⟩ := e
          simp only [Tbl.get]
          split
          · exact hl (k, v) (by simp)
          · exact ih (fun e he => hl e (List.mem_cons_of_mem _ he)) n
      exact fun n => key _ h n
    have h2 : ∀ n, s.homeOf n = none := by
      intro n
      have : s.follow.find? (fun e => e.2.fade.isSome && s.partner e.1 == n && e.1 != n) = none := by
        rw [List.find?_eq_none]; intro e he; simp [h e he]
      simp [State.homeOf, this]
    unfold State.shedFades State.each
    generalize (s.berths.filter fun e => e.2.shedding).map (·.1) = l
    induction l with
    | nil => rfl
    | cons n l ih =>
      have e : s.when ((s.fadeOf n).isSome || (s.homeOf n).isSome) (·.fadeAbort n xrAbortEvent) = s := by simp [State.when, h1, h2]
      exact (congrArg (fun t => l.foldl _ t) e).trans ih

/-- What renewing the open record windows leaves: the windows but for their precision bits, and what marks them. -/
theorem State.each_mark (l : List Nat) (g : Nat → State → Nat) (s : State) :
    let t := s.each l (fun n t => t.markWindow n (g n t))
    t = { s with windows := t.windows } ∧ ∀ n, (t.window n).map Win.plain = (s.window n).map Win.plain := by
  induction l generalizing s with
  | nil => exact ⟨rfl, fun _ => rfl⟩
  | cons k l ih =>
    have h : ∀ x, s.markWindow k x = { s with windows := (s.markWindow k x).windows } ∧
        ∀ n, ((s.markWindow k x).window n).map Win.plain = (s.window n).map Win.plain := by
      intro x
      unfold State.markWindow
      split
      · rename_i w hw
        refine ⟨rfl, fun n => ?_⟩
        by_cases hn : n = k
        · subst hn
          rw [hw]
          simp [State.window, State.putWindow, Win.plain]
        · simp [State.window, State.putWindow, Tbl.get_set_ne _ _ _ hn]
      · exact ⟨rfl, fun _ => rfl⟩
    obtain ⟨h1, h2⟩ := h (g k s)
    obtain ⟨i1, i2⟩ := ih (s.markWindow k (g k s))
    refine ⟨?_, fun n => (i2 n).trans (h2 n)⟩
    have e : s.each (k :: l) (fun n t => t.markWindow n (g n t)) = (s.markWindow k (g k s)).each l (fun n t => t.markWindow n (g n t)) := rfl
    rw [e]
    refine i1.trans ?_
    rw [h1]

/-- The end of the windows' part of a command changes only the windows and what marks them. -/
theorem State.recordsTouch_rest (s : State) :
    s.recordsTouch = { s with
      windows := s.recordsTouch.windows, injBits := s.recordsTouch.injBits, precNow := s.recordsTouch.precNow,
      injSeen := s.recordsTouch.injSeen } ∧ State.sameWindows s s.recordsTouch := by
  have h := State.each_mark (Tbl.keys s.injShow.windows) (fun n t => t.touchOf n) s.injShow
  have hm : s.touchRecords = { s with
      windows := s.touchRecords.windows, injBits := s.touchRecords.injBits, precNow := s.touchRecords.precNow,
      injSeen := s.touchRecords.injSeen } ∧ ∀ n, (s.touchRecords.window n).map Win.plain = (s.window n).map Win.plain := by
    refine ⟨?_, fun n => h.2 n⟩
    unfold State.touchRecords
    dsimp only
    rw [h.1]
    rfl
  have hp : ∀ (u : State) (w : Option Win), u.putWindow winIntake w = { u with windows := (u.putWindow winIntake w).windows } ∧
      ∀ n, n ≠ winIntake → (u.putWindow winIntake w).window n = u.window n := fun u w =>
    ⟨rfl, fun n hn => by simp [State.window, State.putWindow, Tbl.get_set_ne _ _ _ hn]⟩
  unfold State.recordsTouch
  dsimp only
  generalize s.touchRecords = u at hm ⊢
  obtain ⟨m1, m2⟩ := hm
  have key : ∀ w, u.putWindow winIntake w = { s with
      windows := (u.putWindow winIntake w).windows, injBits := (u.putWindow winIntake w).injBits,
      precNow := (u.putWindow winIntake w).precNow, injSeen := (u.putWindow winIntake w).injSeen } ∧
      State.sameWindows s (u.putWindow winIntake w) := fun w =>
    ⟨by unfold State.putWindow; rw [m1], fun n hn => by rw [(hp u w).2 n hn]; exact m2 n⟩
  split
  · exact key _
  · split
    · exact key _
    · exact ⟨m1, fun n _ => m2 n⟩

/-- Updates of register fields in a row leave the rest of the state. -/
theorem State.rest_put {s t : State} (h : t = { s with regs := t.regs }) (f : Fld) (v : Nat) : t.put f v = { s with regs := (t.put f v).regs } :=
  congrArg (fun x : State => { x with regs := (t.put f v).regs }) h

/-- The status fields are registers. -/
theorem State.shown_rest (s : State) : s.shown = { s with regs := s.shown.regs } :=
  State.rest_put (State.rest_put (State.rest_put (State.rest_put (State.rest_put (State.rest_put rfl _ _) _ _) _ _) _ _) _ _) _ _

@[simp] theorem State.finish_pending (s t : State) : (s.finish t).pending = s.pending := rfl

/-- What the end of a command leaves where no fade waits for its end: everything but the register fields, the windows' precision bits and
the queue. -/
theorem State.finish_rest (s : State) {t : State} (h : t.Calm) :
    s.finish t = { t with
      regs := (s.finish t).regs, windows := (s.finish t).windows, injBits := (s.finish t).injBits, precNow := (s.finish t).precNow,
      injSeen := (s.finish t).injSeen, pending := s.pending } ∧ State.sameWindows t (s.finish t) := by
  obtain ⟨h1, h2⟩ := State.recordsTouch_rest t
  have e : s.finish t = t.recordsTouch.shown.setPending s.pending := by unfold State.finish; rw [State.shedFades_calm h]
  rw [e]
  generalize t.recordsTouch = u at h1 h2
  have f := State.shown_rest u
  generalize u.shown = w at f ⊢
  have g : ∀ x : Tbl Nat, ({ u with regs := x } : State).setPending s.pending = { t with
      regs := x, windows := u.windows, injBits := u.injBits, precNow := u.precNow, injSeen := u.injSeen, pending := s.pending } := fun x =>
    congrArg (fun y : State => { y with regs := x, pending := s.pending }) h1
  rw [f]
  exact ⟨g _, h2⟩

/-- The keys of the status fields that every command's end shows. -/
def shownKeys : List Nat := [F.GLB_MODE_MODE.key, F.BOND_IV_FILL_ENTRIES.key, F.ALERT_STATUS_PIN.key, F.ALERT_STATUS_TEST.key,
  F.ALERT_STATUS_MODE.key, F.ALERT_STATUS_KIND.key]

/-- Every other field reads as the effect left it. -/
theorem State.get_finish {s t : State} (hc : t.Calm) {f : Fld} (h : f.key ∉ shownKeys) : (s.finish t).get f = t.get f := by
  simp only [shownKeys, List.mem_cons, List.not_mem_nil, or_false, not_or] at h
  obtain ⟨h1, h2, h3, h4, h5, h6⟩ := h
  have e : ∀ u : State, (u.shown.setPending s.pending).get f = u.get f := fun u => by
    simp [State.shown, State.alertShow, State.get_put_ne, h1, h2, h3, h4, h5, h6]
  unfold State.finish
  rw [e, State.shedFades_calm hc, (State.recordsTouch_rest t).1]
  rfl

/-- After a command the status fields show what they stand for. -/
theorem State.finish_shows (s t : State) : (s.finish t).Shows := by
  have hk : ∀ a b c d : Bool, (b2n a + 2 * b2n b + 4 * b2n c + 8 * b2n d) % 16 = b2n a + 2 * b2n b + 4 * b2n c + 8 * b2n d := by decide
  have hb : ∀ a : Bool, b2n a % 2 = b2n a := by decide
  unfold State.finish
  generalize t.shedFades.recordsTouch = u
  have hm : u.mode.code % 16 = u.mode.code := by cases u.mode <;> rfl
  refine ⟨?_, ?_, ?_, ?_, ?_, ?_⟩ <;>
    simp [State.shown, State.alertShow, State.get_put, Fld.key, F.GLB_MODE_MODE, F.BOND_IV_FILL_ENTRIES, F.ALERT_STATUS_PIN,
      F.ALERT_STATUS_TEST, F.ALERT_STATUS_MODE, F.ALERT_STATUS_KIND, hk, hb, hm]

/-- Where they showed it before and the effect leaves the mode, the IV table and the sources, every field reads as the effect left it. -/
theorem State.get_finish_of_shows {s t : State} (hc : t.Calm) (hs : t.Shows) (f : Fld) : (s.finish t).get f = t.get f := by
  by_cases h : f.key ∈ shownKeys
  · obtain ⟨h1, h2, h3, h4, h5, h6⟩ := hs
    obtain ⟨g1, g2, g3, g4, g5, g6⟩ := State.finish_shows s t
    have r := (State.finish_rest s hc).1
    have em : (s.finish t).mode = t.mode := by rw [r]
    have ei : (s.finish t).ivTable = t.ivTable := by rw [r]
    have ea : (s.finish t).alerts = t.alerts := by rw [r]
    have e : ∀ g : Fld, f.key = g.key → ∀ u : State, u.get f = u.get g := fun g hg u => by simp [State.get, hg]
    simp only [shownKeys, List.mem_cons, List.not_mem_nil, or_false] at h
    rcases h with h | h | h | h | h | h
    · rw [e _ h, e _ h, g1, h1, em]
    · rw [e _ h, e _ h, g2, h2, ei]
    · rw [e _ h, e _ h, g3, h3, ea]
    · rw [e _ h, e _ h, g4, h4, ea]
    · rw [e _ h, e _ h, g5, h5, ea]
    · rw [e _ h, e _ h, g6, h6, ea]
  · exact State.get_finish hc h

end Sys2Proof.Machine
end

