-- ==== Sys2Proof/Laws/Keeps.lean ====
section
/-! SUPPORT. What a function of the model leaves as it was. `s.Keeps kp t` says that from `s` to `t` every part of the state that `kp` names is the
same (the mode, the key slots, the key-encryption key in OTP, the calibration table, the row map, the duty bins, the time, the power, the
epoch), and that the register table and the journals keep their form. One lemma per function of the model, in the model's order; a function that
writes a part asks that `kp` does not name it. -/

namespace Sys2Proof.Machine

/-- The parts of the state that few functions write. -/
inductive Part where
  | mode | keys | kek | cal | rows | duty | time | power | epoch
  deriving DecidableEq, Repr

/-- Every part that `k` names is the same in `t` as in `s`, and what was in form stays so. -/
structure State.Keeps (k : Part → Bool) (s t : State) : Prop where
  mode : k .mode = true → t.mode = s.mode
  keys : k .keys = true → t.slots = s.slots
  kek : k .kek = true → t.kek = s.kek
  cal : k .cal = true → t.calTable = s.calTable
  rows : k .rows = true → t.rowMap = s.rowMap
  duty : k .duty = true → t.dutyBins = s.dutyBins
  time : k .time = true → t.sec = s.sec ∧ t.ns = s.ns
  power : k .power = true → t.dead = s.dead ∧ t.pinLow = s.pinLow
  epoch : k .epoch = true → t.epoch = s.epoch
  formed : s.Formed → t.Formed

theorem Tbl.wf_filter {α : Type} [DecidableEq α] (d : Nat → α) (t : Tbl α) (q : Nat × α → Bool) (h : Tbl.wf d t = true) :
    Tbl.wf d (t.filter q) = true := by
  simp only [Tbl.wf, Bool.and_eq_true, decide_eq_true_eq, List.all_eq_true] at h ⊢
  exact ⟨h.1.filter _, fun e he => h.2 e (List.mem_filter.1 he).1⟩

theorem Tbl.wf_foldl {α β : Type} [DecidableEq α] (d : Nat → α) (l : List β) (k : β → Nat) (v : β → α) (t : Tbl α) (h : Tbl.wf d t = true) :
    Tbl.wf d (l.foldl (fun t e => Tbl.set d t (k e) (v e)) t) = true := by
  induction l generalizing t with
  | nil => exact h
  | cons e l ih => exact ih _ (Tbl.wf_set _ _ _ _ h)

theorem State.Formed.regs {s : State} (h : s.Formed) : Tbl.wf regDefault s.regs = true := h.1

theorem State.formed_filter {s : State} {q : Nat × Nat → Bool} (h : s.Formed) : Tbl.wf regDefault (s.regs.filter q) = true :=
  Tbl.wf_filter _ _ _ h.1

theorem State.formed_of_clear {s : State} (h : s.clearBlocks.Formed) : s.Formed := h

namespace State.Keeps

variable {kp : Part → Bool} {z s : State}

theorem refl (k : Part → Bool) (s : State) : s.Keeps k s :=
  ⟨fun _ => rfl, fun _ => rfl, fun _ => rfl, fun _ => rfl, fun _ => rfl, fun _ => rfl, fun _ => ⟨rfl, rfl⟩, fun _ => ⟨rfl, rfl⟩, fun _ => rfl, id⟩

theorem trans {t u : State} (h : s.Keeps kp t) (h' : t.Keeps kp u) : s.Keeps kp u :=
  ⟨fun e => (h'.mode e).trans (h.mode e), fun e => (h'.keys e).trans (h.keys e), fun e => (h'.kek e).trans (h.kek e),
   fun e => (h'.cal e).trans (h.cal e), fun e => (h'.rows e).trans (h.rows e), fun e => (h'.duty e).trans (h.duty e),
   fun e => ⟨(h'.time e).1.trans (h.time e).1, (h'.time e).2.trans (h.time e).2⟩,
   fun e => ⟨(h'.power e).1.trans (h.power e).1, (h'.power e).2.trans (h.power e).2⟩, fun e => (h'.epoch e).trans (h.epoch e),
   fun e => h'.formed (h.formed e)⟩

theorem of_formed {u : State} (h : z.Keeps kp s) (h1 : u.mode = s.mode) (h2 : u.slots = s.slots) (h3 : u.kek = s.kek)
    (h4 : u.calTable = s.calTable) (h5 : u.rowMap = s.rowMap) (h6 : u.dutyBins = s.dutyBins) (h7 : u.sec = s.sec) (h8 : u.ns = s.ns)
    (h9 : u.dead = s.dead) (h10 : u.pinLow = s.pinLow) (h11 : u.epoch = s.epoch) (hf : z.Formed → s.Formed → u.Formed) : z.Keeps kp u :=
  ⟨by rw [h1]; exact h.mode, by rw [h2]; exact h.keys, by rw [h3]; exact h.kek, by rw [h4]; exact h.cal, by rw [h5]; exact h.rows,
   by rw [h6]; exact h.duty, by rw [h7, h8]; exact h.time, by rw [h9, h10]; exact h.power, by rw [h11]; exact h.epoch,
   fun e => hf e (h.formed e)⟩

theorem ite {s t : State} {c : Prop} [Decidable c] (h1 : z.Keeps kp s) (h2 : z.Keeps kp t) : z.Keeps kp (if c then s else t) := by
  split <;> assumption

theorem dite {c : Prop} [Decidable c] {s t : State} (h1 : c → z.Keeps kp s) (h2 : ¬c → z.Keeps kp t) : z.Keeps kp (if c then s else t) := by
  split
  · exact h1 ‹_›
  · exact h2 ‹_›

theorem when {c : Bool} {g : State → State} (h : z.Keeps kp s) (hg : ∀ t, z.Keeps kp t → z.Keeps kp (g t)) : z.Keeps kp (s.when c g) := by
  unfold State.when; split
  · exact hg _ h
  · exact h

theorem each {α : Type} {l : List α} {g : α → State → State} (h : z.Keeps kp s) (hg : ∀ a t, z.Keeps kp t → z.Keeps kp (g a t)) :
    z.Keeps kp (s.each l g) := by
  unfold State.each
  induction l generalizing s with
  | nil => exact h
  | cons a l ih => exact ih (hg a s h)

theorem foldl {α : Type} {l : List α} {g : State → α → State} (h : z.Keeps kp s) (hg : ∀ t a, z.Keeps kp t → z.Keeps kp (g t a)) :
    z.Keeps kp (l.foldl g s) := by
  induction l generalizing s with
  | nil => exact h
  | cons a l ih => exact ih (hg s a h)

/-- An update of other fields, as a whole record. -/
theorem lit {pending : List Instr} {stage : Option Stage} {snap : List (Nat × Nat)} {shadow : List Shadow} {groupOf : List (Nat × Nat)}
    {freeCtr : Nat} {jnlCount : Nat} {jnlLost : Nat} {errCount : Nat} {boot : Option Boot} {wind : Option Wind} {closing : Bool} {trimming
    : List Nat} {movs : Tbl Mov} {pairs : Tbl Pair} {refCount : RefCount} {ppsGood : Nat} {ppsStep : Bool} {steer : Int × Int} {fine :
    Int} {timeSet : Option Nat} {visiting : List Nat} {intakes : Tbl Intake} {repeats : Nat} {captured : Tbl (List (Nat × Nat))} {feedHeat
    : Tbl Nat} {feedTrips : Tbl Nat} {quiet : Tbl (List Nat)} {testBins : Tbl Nat} {chans : Tbl Chan} {lanes : Tbl LaneRole} {chains : Tbl
    Chain} {dets : Tbl Det} {detFull : Tbl Det} {gChain : Tbl Int} {sounding : List Nat} {soundDet : Det} {syncMask : Nat} {patrolAt :
    Nat} {dIntake : List Nat × List Nat} {uIntake : Nat × Nat} {berths : Tbl Berth} {inputs : Tbl (List BSmp)} {ready : Tbl (List Nat)}
    {handover : List Nat} {beatOf : Tbl Nat} {craneNs : Tbl Nat} {outbox : Tbl (List Wait)} {rds : Tbl Rds} {follow : Tbl Follow}
    {soundingAt : Option (Nat × Nat × Nat)} {dab : Tbl Dab} {drm : Tbl Drm} {dvb : Tbl Dvb} {aud : Tbl Aud} {pcm : Tbl (List Pcm)}
    {scopeAt : Tbl Nat} {windows : Tbl (Option Win)} {ended : Tbl (List Win)} {driftAt : Nat} {custody : List Item} {prods : Tbl Producer}
    {stats : Tbl Stat} {quays : Tbl Quay} {holdPins : Nat} {taken : Tbl Nat} {rebuilding : Bool} {landRx : LandRx} {landFifo : List
    LFrame} {landChans : Tbl LandChan} {ports : Tbl Port} {banks : Tbl Nat} {bondReqs : List BReq} {bondNext : Nat} {bondNow : Option Nat}
    {ivTable : List IvEntry} {keyWrap : Tbl Nat} {kekData : Tbl Nat} {kekBurn : Option (List Byte)} {drbg : Option Drbg} {caps : Tbl Cap}
    {schedule : List TxReq} {txAt : Nat × TxStage} {trsw : Bool} {pilotWindow : Bool} {onAir : Option (Nat × Nat × List Byte)} {periodics
    : List Periodic} {listen : Option (Nat × Nat)} {listens : List (Nat × Nat × Nat × Option Nat)} {relays : List Relay} {rx : Tbl Rx}
    {rxHeard : Tbl (List (Int × Int × Nat))} {backoff : Nat} {cca : Tbl (List Smp)} {alerts : List Alert} {alertDue : List (Nat × Nat)}
    {alertCmds : List Nat} {units : Tbl UnitRec} {inj : Option Inj} {clock : Nat} {flips : Tbl Nat} {words : Tbl UnitRec} {injWords : List
    Nat} {singles : List Nat} {damaged : List (WordUse × Nat)} {injSeen : Bool} {injBits : Nat} {precNow : Nat} {tainted : Nat} {injStall
    : List Nat} {rowsDue : List Nat} {retesting : Option (Nat × Nat)} {tw : TwoWire} {jtag : Tap} {doms : Tbl Dom} (h : z.Keeps kp s) :
    z.Keeps kp ⟨pending, s.regs, stage, snap, shadow, groupOf, s.sec, s.ns, freeCtr, s.mode, s.jnl, jnlCount, jnlLost, s.err, errCount,
    s.errExport, boot, wind, s.dead, s.pinLow, closing, trimming, movs, pairs, refCount, ppsGood, ppsStep, steer, fine, timeSet, visiting,
    intakes, repeats, captured, s.calTable, feedHeat, feedTrips, quiet, testBins, chans, lanes, chains, dets, detFull, gChain, sounding,
    soundDet, syncMask, patrolAt, dIntake, uIntake, berths, inputs, ready, handover, beatOf, craneNs, outbox, rds, follow, soundingAt,
    dab, drm, dvb, aud, pcm, scopeAt, windows, ended, driftAt, custody, prods, stats, quays, holdPins, taken, s.epoch, rebuilding, landRx,
    landFifo, landChans, ports, banks, s.slots, bondReqs, bondNext, bondNow, ivTable, keyWrap, kekData, s.kek, kekBurn, drbg, caps,
    schedule, txAt, trsw, pilotWindow, onAir, s.dutyBins, periodics, listen, listens, relays, rx, rxHeard, backoff, cca, alerts, alertDue,
    alertCmds, units, inj, clock, flips, words, injWords, singles, damaged, injSeen, injBits, precNow, tainted, injStall, s.rowMap,
    rowsDue, retesting, tw, jtag, doms⟩ := h.of_formed rfl rfl rfl rfl rfl rfl rfl rfl rfl rfl rfl (fun _ h => h)

theorem setPending (hk : z.Keeps kp s) (v : List Instr) :
    z.Keeps kp (s.setPending v) := ⟨hk.mode, hk.keys, hk.kek, hk.cal, hk.rows, hk.duty, hk.time, hk.power, hk.epoch, hk.formed⟩

theorem setRegs (hk : z.Keeps kp s) (v : Tbl Nat) (hv : s.Formed → Tbl.wf regDefault v = true) : z.Keeps kp (s.setRegs v) :=
  hk.of_formed rfl rfl rfl rfl rfl rfl rfl rfl rfl rfl rfl (fun _ h => ⟨hv h, h.2⟩)

theorem setStage (hk : z.Keeps kp s) (v : Option Stage) :
    z.Keeps kp (s.setStage v) := ⟨hk.mode, hk.keys, hk.kek, hk.cal, hk.rows, hk.duty, hk.time, hk.power, hk.epoch, hk.formed⟩

theorem setSnap (hk : z.Keeps kp s) (v : List (Nat × Nat)) :
    z.Keeps kp (s.setSnap v) := ⟨hk.mode, hk.keys, hk.kek, hk.cal, hk.rows, hk.duty, hk.time, hk.power, hk.epoch, hk.formed⟩

theorem setShadow (hk : z.Keeps kp s) (v : List Shadow) :
    z.Keeps kp (s.setShadow v) := ⟨hk.mode, hk.keys, hk.kek, hk.cal, hk.rows, hk.duty, hk.time, hk.power, hk.epoch, hk.formed⟩

theorem setGroupOf (hk : z.Keeps kp s) (v : List (Nat × Nat)) :
    z.Keeps kp (s.setGroupOf v) := ⟨hk.mode, hk.keys, hk.kek, hk.cal, hk.rows, hk.duty, hk.time, hk.power, hk.epoch, hk.formed⟩

theorem setSec (htime : kp .time = false) (hk : z.Keeps kp s) (v : Nat) :
    z.Keeps kp (s.setSec v) := ⟨hk.mode, hk.keys, hk.kek, hk.cal, hk.rows, hk.duty, fun e => by simp [htime] at e, hk.power, hk.epoch, hk.formed⟩

theorem setNs (htime : kp .time = false) (hk : z.Keeps kp s) (v : Nat) :
    z.Keeps kp (s.setNs v) := ⟨hk.mode, hk.keys, hk.kek, hk.cal, hk.rows, hk.duty, fun e => by simp [htime] at e, hk.power, hk.epoch, hk.formed⟩

theorem setFreeCtr (hk : z.Keeps kp s) (v : Nat) :
    z.Keeps kp (s.setFreeCtr v) := ⟨hk.mode, hk.keys, hk.kek, hk.cal, hk.rows, hk.duty, hk.time, hk.power, hk.epoch, hk.formed⟩

theorem setMode (hmode : kp .mode = false) (hk : z.Keeps kp s) (v : Mode) :
    z.Keeps kp (s.setMode v) := ⟨fun e => by simp [hmode] at e, hk.keys, hk.kek, hk.cal, hk.rows, hk.duty, hk.time, hk.power, hk.epoch, hk.formed⟩

theorem setJnl (hk : z.Keeps kp s) (v : List JEntry) (hv : s.Formed → v.length ≤ 1024) : z.Keeps kp (s.setJnl v) :=
  hk.of_formed rfl rfl rfl rfl rfl rfl rfl rfl rfl rfl rfl (fun _ h => ⟨h.1, hv h, h.2.2⟩)

theorem setJnlCount (hk : z.Keeps kp s) (v : Nat) :
    z.Keeps kp (s.setJnlCount v) := ⟨hk.mode, hk.keys, hk.kek, hk.cal, hk.rows, hk.duty, hk.time, hk.power, hk.epoch, hk.formed⟩

theorem setErr (hk : z.Keeps kp s) (v : List EEntry) (hv : s.Formed → v.length ≤ 4096) : z.Keeps kp (s.setErr v) :=
  hk.of_formed rfl rfl rfl rfl rfl rfl rfl rfl rfl rfl rfl (fun _ h => ⟨h.1, h.2.1, hv h, h.2.2.2⟩)

theorem setErrCount (hk : z.Keeps kp s) (v : Nat) :
    z.Keeps kp (s.setErrCount v) := ⟨hk.mode, hk.keys, hk.kek, hk.cal, hk.rows, hk.duty, hk.time, hk.power, hk.epoch, hk.formed⟩

theorem setErrExport (hk : z.Keeps kp s) (v : List EEntry) (hv : s.Formed → v.length ≤ 256) : z.Keeps kp (s.setErrExport v) :=
  hk.of_formed rfl rfl rfl rfl rfl rfl rfl rfl rfl rfl rfl (fun _ h => ⟨h.1, h.2.1, h.2.2.1, hv h⟩)

theorem setBoot (hk : z.Keeps kp s) (v : Option Boot) :
    z.Keeps kp (s.setBoot v) := ⟨hk.mode, hk.keys, hk.kek, hk.cal, hk.rows, hk.duty, hk.time, hk.power, hk.epoch, hk.formed⟩

theorem setWind (hk : z.Keeps kp s) (v : Option Wind) :
    z.Keeps kp (s.setWind v) := ⟨hk.mode, hk.keys, hk.kek, hk.cal, hk.rows, hk.duty, hk.time, hk.power, hk.epoch, hk.formed⟩

theorem setDead (hpower : kp .power = false) (hk : z.Keeps kp s) (v : Bool) :
    z.Keeps kp (s.setDead v) := ⟨hk.mode, hk.keys, hk.kek, hk.cal, hk.rows, hk.duty, hk.time, fun e => by simp [hpower] at e, hk.epoch, hk.formed⟩

theorem setPinLow (hpower : kp .power = false) (hk : z.Keeps kp s) (v : Bool) :
    z.Keeps kp (s.setPinLow v) := ⟨hk.mode, hk.keys, hk.kek, hk.cal, hk.rows, hk.duty, hk.time, fun e => by simp [hpower] at e, hk.epoch, hk.formed⟩

theorem setClosing (hk : z.Keeps kp s) (v : Bool) :
    z.Keeps kp (s.setClosing v) := ⟨hk.mode, hk.keys, hk.kek, hk.cal, hk.rows, hk.duty, hk.time, hk.power, hk.epoch, hk.formed⟩

theorem setTrimming (hk : z.Keeps kp s) (v : List Nat) :
    z.Keeps kp (s.setTrimming v) := ⟨hk.mode, hk.keys, hk.kek, hk.cal, hk.rows, hk.duty, hk.time, hk.power, hk.epoch, hk.formed⟩

theorem setMovs (hk : z.Keeps kp s) (v : Tbl Mov) :
    z.Keeps kp (s.setMovs v) := ⟨hk.mode, hk.keys, hk.kek, hk.cal, hk.rows, hk.duty, hk.time, hk.power, hk.epoch, hk.formed⟩

theorem setPairs (hk : z.Keeps kp s) (v : Tbl Pair) :
    z.Keeps kp (s.setPairs v) := ⟨hk.mode, hk.keys, hk.kek, hk.cal, hk.rows, hk.duty, hk.time, hk.power, hk.epoch, hk.formed⟩

theorem setRefCount (hk : z.Keeps kp s) (v : RefCount) :
    z.Keeps kp (s.setRefCount v) := ⟨hk.mode, hk.keys, hk.kek, hk.cal, hk.rows, hk.duty, hk.time, hk.power, hk.epoch, hk.formed⟩

theorem setPpsGood (hk : z.Keeps kp s) (v : Nat) :
    z.Keeps kp (s.setPpsGood v) := ⟨hk.mode, hk.keys, hk.kek, hk.cal, hk.rows, hk.duty, hk.time, hk.power, hk.epoch, hk.formed⟩

theorem setPpsStep (hk : z.Keeps kp s) (v : Bool) :
    z.Keeps kp (s.setPpsStep v) := ⟨hk.mode, hk.keys, hk.kek, hk.cal, hk.rows, hk.duty, hk.time, hk.power, hk.epoch, hk.formed⟩

theorem setSteer (hk : z.Keeps kp s) (v : Int × Int) :
    z.Keeps kp (s.setSteer v) := ⟨hk.mode, hk.keys, hk.kek, hk.cal, hk.rows, hk.duty, hk.time, hk.power, hk.epoch, hk.formed⟩

theorem setTimeSet (hk : z.Keeps kp s) (v : Option Nat) :
    z.Keeps kp (s.setTimeSet v) := ⟨hk.mode, hk.keys, hk.kek, hk.cal, hk.rows, hk.duty, hk.time, hk.power, hk.epoch, hk.formed⟩

theorem setVisiting (hk : z.Keeps kp s) (v : List Nat) :
    z.Keeps kp (s.setVisiting v) := ⟨hk.mode, hk.keys, hk.kek, hk.cal, hk.rows, hk.duty, hk.time, hk.power, hk.epoch, hk.formed⟩

theorem setIntakes (hk : z.Keeps kp s) (v : Tbl Intake) :
    z.Keeps kp (s.setIntakes v) := ⟨hk.mode, hk.keys, hk.kek, hk.cal, hk.rows, hk.duty, hk.time, hk.power, hk.epoch, hk.formed⟩

theorem setRepeats (hk : z.Keeps kp s) (v : Nat) :
    z.Keeps kp (s.setRepeats v) := ⟨hk.mode, hk.keys, hk.kek, hk.cal, hk.rows, hk.duty, hk.time, hk.power, hk.epoch, hk.formed⟩

theorem setCalTable (hcal : kp .cal = false) (hk : z.Keeps kp s) (v : Tbl (Nat × Nat)) :
    z.Keeps kp (s.setCalTable v) := ⟨hk.mode, hk.keys, hk.kek, fun e => by simp [hcal] at e, hk.rows, hk.duty, hk.time, hk.power, hk.epoch, hk.formed⟩

theorem setLanes (hk : z.Keeps kp s) (v : Tbl LaneRole) :
    z.Keeps kp (s.setLanes v) := ⟨hk.mode, hk.keys, hk.kek, hk.cal, hk.rows, hk.duty, hk.time, hk.power, hk.epoch, hk.formed⟩

theorem setSounding (hk : z.Keeps kp s) (v : List Nat) :
    z.Keeps kp (s.setSounding v) := ⟨hk.mode, hk.keys, hk.kek, hk.cal, hk.rows, hk.duty, hk.time, hk.power, hk.epoch, hk.formed⟩

theorem setSyncMask (hk : z.Keeps kp s) (v : Nat) :
    z.Keeps kp (s.setSyncMask v) := ⟨hk.mode, hk.keys, hk.kek, hk.cal, hk.rows, hk.duty, hk.time, hk.power, hk.epoch, hk.formed⟩

theorem setPatrolAt (hk : z.Keeps kp s) (v : Nat) :
    z.Keeps kp (s.setPatrolAt v) := ⟨hk.mode, hk.keys, hk.kek, hk.cal, hk.rows, hk.duty, hk.time, hk.power, hk.epoch, hk.formed⟩

theorem setDIntake (hk : z.Keeps kp s) (v : List Nat × List Nat) :
    z.Keeps kp (s.setDIntake v) := ⟨hk.mode, hk.keys, hk.kek, hk.cal, hk.rows, hk.duty, hk.time, hk.power, hk.epoch, hk.formed⟩

theorem setUIntake (hk : z.Keeps kp s) (v : Nat × Nat) :
    z.Keeps kp (s.setUIntake v) := ⟨hk.mode, hk.keys, hk.kek, hk.cal, hk.rows, hk.duty, hk.time, hk.power, hk.epoch, hk.formed⟩

theorem setBerths (hk : z.Keeps kp s) (v : Tbl Berth) :
    z.Keeps kp (s.setBerths v) := ⟨hk.mode, hk.keys, hk.kek, hk.cal, hk.rows, hk.duty, hk.time, hk.power, hk.epoch, hk.formed⟩

theorem setReady (hk : z.Keeps kp s) (v : Tbl (List Nat)) :
    z.Keeps kp (s.setReady v) := ⟨hk.mode, hk.keys, hk.kek, hk.cal, hk.rows, hk.duty, hk.time, hk.power, hk.epoch, hk.formed⟩

theorem setHandover (hk : z.Keeps kp s) (v : List Nat) :
    z.Keeps kp (s.setHandover v) := ⟨hk.mode, hk.keys, hk.kek, hk.cal, hk.rows, hk.duty, hk.time, hk.power, hk.epoch, hk.formed⟩

theorem setOutbox (hk : z.Keeps kp s) (v : Tbl (List Wait)) :
    z.Keeps kp (s.setOutbox v) := ⟨hk.mode, hk.keys, hk.kek, hk.cal, hk.rows, hk.duty, hk.time, hk.power, hk.epoch, hk.formed⟩

theorem setRds (hk : z.Keeps kp s) (v : Tbl Rds) :
    z.Keeps kp (s.setRds v) := ⟨hk.mode, hk.keys, hk.kek, hk.cal, hk.rows, hk.duty, hk.time, hk.power, hk.epoch, hk.formed⟩

theorem setFollow (hk : z.Keeps kp s) (v : Tbl Follow) :
    z.Keeps kp (s.setFollow v) := ⟨hk.mode, hk.keys, hk.kek, hk.cal, hk.rows, hk.duty, hk.time, hk.power, hk.epoch, hk.formed⟩

theorem setSoundingAt (hk : z.Keeps kp s) (v : Option (Nat × Nat × Nat)) :
    z.Keeps kp (s.setSoundingAt v) := ⟨hk.mode, hk.keys, hk.kek, hk.cal, hk.rows, hk.duty, hk.time, hk.power, hk.epoch, hk.formed⟩

theorem setDab (hk : z.Keeps kp s) (v : Tbl Dab) :
    z.Keeps kp (s.setDab v) := ⟨hk.mode, hk.keys, hk.kek, hk.cal, hk.rows, hk.duty, hk.time, hk.power, hk.epoch, hk.formed⟩

theorem setDrm (hk : z.Keeps kp s) (v : Tbl Drm) :
    z.Keeps kp (s.setDrm v) := ⟨hk.mode, hk.keys, hk.kek, hk.cal, hk.rows, hk.duty, hk.time, hk.power, hk.epoch, hk.formed⟩

theorem setDvb (hk : z.Keeps kp s) (v : Tbl Dvb) :
    z.Keeps kp (s.setDvb v) := ⟨hk.mode, hk.keys, hk.kek, hk.cal, hk.rows, hk.duty, hk.time, hk.power, hk.epoch, hk.formed⟩

theorem setWindows (hk : z.Keeps kp s) (v : Tbl (Option Win)) :
    z.Keeps kp (s.setWindows v) := ⟨hk.mode, hk.keys, hk.kek, hk.cal, hk.rows, hk.duty, hk.time, hk.power, hk.epoch, hk.formed⟩

theorem setEnded (hk : z.Keeps kp s) (v : Tbl (List Win)) :
    z.Keeps kp (s.setEnded v) := ⟨hk.mode, hk.keys, hk.kek, hk.cal, hk.rows, hk.duty, hk.time, hk.power, hk.epoch, hk.formed⟩

theorem setDriftAt (hk : z.Keeps kp s) (v : Nat) :
    z.Keeps kp (s.setDriftAt v) := ⟨hk.mode, hk.keys, hk.kek, hk.cal, hk.rows, hk.duty, hk.time, hk.power, hk.epoch, hk.formed⟩

theorem setCustody (hk : z.Keeps kp s) (v : List Item) :
    z.Keeps kp (s.setCustody v) := ⟨hk.mode, hk.keys, hk.kek, hk.cal, hk.rows, hk.duty, hk.time, hk.power, hk.epoch, hk.formed⟩

theorem setProds (hk : z.Keeps kp s) (v : Tbl Producer) :
    z.Keeps kp (s.setProds v) := ⟨hk.mode, hk.keys, hk.kek, hk.cal, hk.rows, hk.duty, hk.time, hk.power, hk.epoch, hk.formed⟩

theorem setStats (hk : z.Keeps kp s) (v : Tbl Stat) :
    z.Keeps kp (s.setStats v) := ⟨hk.mode, hk.keys, hk.kek, hk.cal, hk.rows, hk.duty, hk.time, hk.power, hk.epoch, hk.formed⟩

theorem setQuays (hk : z.Keeps kp s) (v : Tbl Quay) :
    z.Keeps kp (s.setQuays v) := ⟨hk.mode, hk.keys, hk.kek, hk.cal, hk.rows, hk.duty, hk.time, hk.power, hk.epoch, hk.formed⟩

theorem setEpoch (hepoch : kp .epoch = false) (hk : z.Keeps kp s) (v : Nat) :
    z.Keeps kp (s.setEpoch v) := ⟨hk.mode, hk.keys, hk.kek, hk.cal, hk.rows, hk.duty, hk.time, hk.power, fun e => by simp [hepoch] at e, hk.formed⟩

theorem setHoldPins (hk : z.Keeps kp s) (v : Nat) :
    z.Keeps kp (s.setHoldPins v) := ⟨hk.mode, hk.keys, hk.kek, hk.cal, hk.rows, hk.duty, hk.time, hk.power, hk.epoch, hk.formed⟩

theorem setTaken (hk : z.Keeps kp s) (v : Tbl Nat) :
    z.Keeps kp (s.setTaken v) := ⟨hk.mode, hk.keys, hk.kek, hk.cal, hk.rows, hk.duty, hk.time, hk.power, hk.epoch, hk.formed⟩

theorem setRebuilding (hk : z.Keeps kp s) (v : Bool) :
    z.Keeps kp (s.setRebuilding v) := ⟨hk.mode, hk.keys, hk.kek, hk.cal, hk.rows, hk.duty, hk.time, hk.power, hk.epoch, hk.formed⟩

theorem setLandRx (hk : z.Keeps kp s) (v : LandRx) :
    z.Keeps kp (s.setLandRx v) := ⟨hk.mode, hk.keys, hk.kek, hk.cal, hk.rows, hk.duty, hk.time, hk.power, hk.epoch, hk.formed⟩

theorem setLandFifo (hk : z.Keeps kp s) (v : List LFrame) :
    z.Keeps kp (s.setLandFifo v) := ⟨hk.mode, hk.keys, hk.kek, hk.cal, hk.rows, hk.duty, hk.time, hk.power, hk.epoch, hk.formed⟩

theorem setLandChans (hk : z.Keeps kp s) (v : Tbl LandChan) :
    z.Keeps kp (s.setLandChans v) := ⟨hk.mode, hk.keys, hk.kek, hk.cal, hk.rows, hk.duty, hk.time, hk.power, hk.epoch, hk.formed⟩

theorem setPorts (hk : z.Keeps kp s) (v : Tbl Port) :
    z.Keeps kp (s.setPorts v) := ⟨hk.mode, hk.keys, hk.kek, hk.cal, hk.rows, hk.duty, hk.time, hk.power, hk.epoch, hk.formed⟩

theorem setBanks (hk : z.Keeps kp s) (v : Tbl Nat) :
    z.Keeps kp (s.setBanks v) := ⟨hk.mode, hk.keys, hk.kek, hk.cal, hk.rows, hk.duty, hk.time, hk.power, hk.epoch, hk.formed⟩

theorem setSlots (hkeys : kp .keys = false) (hk : z.Keeps kp s) (v : Tbl Slot) :
    z.Keeps kp (s.setSlots v) := ⟨hk.mode, fun e => by simp [hkeys] at e, hk.kek, hk.cal, hk.rows, hk.duty, hk.time, hk.power, hk.epoch, hk.formed⟩

theorem setBondReqs (hk : z.Keeps kp s) (v : List BReq) :
    z.Keeps kp (s.setBondReqs v) := ⟨hk.mode, hk.keys, hk.kek, hk.cal, hk.rows, hk.duty, hk.time, hk.power, hk.epoch, hk.formed⟩

theorem setBondNext (hk : z.Keeps kp s) (v : Nat) :
    z.Keeps kp (s.setBondNext v) := ⟨hk.mode, hk.keys, hk.kek, hk.cal, hk.rows, hk.duty, hk.time, hk.power, hk.epoch, hk.formed⟩

theorem setBondNow (hk : z.Keeps kp s) (v : Option Nat) :
    z.Keeps kp (s.setBondNow v) := ⟨hk.mode, hk.keys, hk.kek, hk.cal, hk.rows, hk.duty, hk.time, hk.power, hk.epoch, hk.formed⟩

theorem setIvTable (hk : z.Keeps kp s) (v : List IvEntry) :
    z.Keeps kp (s.setIvTable v) := ⟨hk.mode, hk.keys, hk.kek, hk.cal, hk.rows, hk.duty, hk.time, hk.power, hk.epoch, hk.formed⟩

theorem setKeyWrap (hk : z.Keeps kp s) (v : Tbl Nat) :
    z.Keeps kp (s.setKeyWrap v) := ⟨hk.mode, hk.keys, hk.kek, hk.cal, hk.rows, hk.duty, hk.time, hk.power, hk.epoch, hk.formed⟩

theorem setKekData (hk : z.Keeps kp s) (v : Tbl Nat) :
    z.Keeps kp (s.setKekData v) := ⟨hk.mode, hk.keys, hk.kek, hk.cal, hk.rows, hk.duty, hk.time, hk.power, hk.epoch, hk.formed⟩

theorem setKek (hkek : kp .kek = false) (hk : z.Keeps kp s) (v : Option (List Byte)) :
    z.Keeps kp (s.setKek v) := ⟨hk.mode, hk.keys, fun e => by simp [hkek] at e, hk.cal, hk.rows, hk.duty, hk.time, hk.power, hk.epoch, hk.formed⟩

theorem setKekBurn (hk : z.Keeps kp s) (v : Option (List Byte)) :
    z.Keeps kp (s.setKekBurn v) := ⟨hk.mode, hk.keys, hk.kek, hk.cal, hk.rows, hk.duty, hk.time, hk.power, hk.epoch, hk.formed⟩

theorem setDrbg (hk : z.Keeps kp s) (v : Option Drbg) :
    z.Keeps kp (s.setDrbg v) := ⟨hk.mode, hk.keys, hk.kek, hk.cal, hk.rows, hk.duty, hk.time, hk.power, hk.epoch, hk.formed⟩

theorem setCaps (hk : z.Keeps kp s) (v : Tbl Cap) :
    z.Keeps kp (s.setCaps v) := ⟨hk.mode, hk.keys, hk.kek, hk.cal, hk.rows, hk.duty, hk.time, hk.power, hk.epoch, hk.formed⟩

theorem setSchedule (hk : z.Keeps kp s) (v : List TxReq) :
    z.Keeps kp (s.setSchedule v) := ⟨hk.mode, hk.keys, hk.kek, hk.cal, hk.rows, hk.duty, hk.time, hk.power, hk.epoch, hk.formed⟩

theorem setTxAt (hk : z.Keeps kp s) (v : Nat × TxStage) :
    z.Keeps kp (s.setTxAt v) := ⟨hk.mode, hk.keys, hk.kek, hk.cal, hk.rows, hk.duty, hk.time, hk.power, hk.epoch, hk.formed⟩

theorem setTrsw (hk : z.Keeps kp s) (v : Bool) :
    z.Keeps kp (s.setTrsw v) := ⟨hk.mode, hk.keys, hk.kek, hk.cal, hk.rows, hk.duty, hk.time, hk.power, hk.epoch, hk.formed⟩

theorem setPilotWindow (hk : z.Keeps kp s) (v : Bool) :
    z.Keeps kp (s.setPilotWindow v) := ⟨hk.mode, hk.keys, hk.kek, hk.cal, hk.rows, hk.duty, hk.time, hk.power, hk.epoch, hk.formed⟩

theorem setOnAir (hk : z.Keeps kp s) (v : Option (Nat × Nat × List Byte)) :
    z.Keeps kp (s.setOnAir v) := ⟨hk.mode, hk.keys, hk.kek, hk.cal, hk.rows, hk.duty, hk.time, hk.power, hk.epoch, hk.formed⟩

theorem setDutyBins (hduty : kp .duty = false) (hk : z.Keeps kp s) (v : List (Nat × Nat)) :
    z.Keeps kp (s.setDutyBins v) := ⟨hk.mode, hk.keys, hk.kek, hk.cal, hk.rows, fun e => by simp [hduty] at e, hk.time, hk.power, hk.epoch, hk.formed⟩

theorem setPeriodics (hk : z.Keeps kp s) (v : List Periodic) :
    z.Keeps kp (s.setPeriodics v) := ⟨hk.mode, hk.keys, hk.kek, hk.cal, hk.rows, hk.duty, hk.time, hk.power, hk.epoch, hk.formed⟩

theorem setListen (hk : z.Keeps kp s) (v : Option (Nat × Nat)) :
    z.Keeps kp (s.setListen v) := ⟨hk.mode, hk.keys, hk.kek, hk.cal, hk.rows, hk.duty, hk.time, hk.power, hk.epoch, hk.formed⟩

theorem setRelays (hk : z.Keeps kp s) (v : List Relay) :
    z.Keeps kp (s.setRelays v) := ⟨hk.mode, hk.keys, hk.kek, hk.cal, hk.rows, hk.duty, hk.time, hk.power, hk.epoch, hk.formed⟩

theorem setRx (hk : z.Keeps kp s) (v : Tbl Rx) :
    z.Keeps kp (s.setRx v) := ⟨hk.mode, hk.keys, hk.kek, hk.cal, hk.rows, hk.duty, hk.time, hk.power, hk.epoch, hk.formed⟩

theorem setBackoff (hk : z.Keeps kp s) (v : Nat) :
    z.Keeps kp (s.setBackoff v) := ⟨hk.mode, hk.keys, hk.kek, hk.cal, hk.rows, hk.duty, hk.time, hk.power, hk.epoch, hk.formed⟩

theorem setAlerts (hk : z.Keeps kp s) (v : List Alert) :
    z.Keeps kp (s.setAlerts v) := ⟨hk.mode, hk.keys, hk.kek, hk.cal, hk.rows, hk.duty, hk.time, hk.power, hk.epoch, hk.formed⟩

theorem setAlertDue (hk : z.Keeps kp s) (v : List (Nat × Nat)) :
    z.Keeps kp (s.setAlertDue v) := ⟨hk.mode, hk.keys, hk.kek, hk.cal, hk.rows, hk.duty, hk.time, hk.power, hk.epoch, hk.formed⟩

theorem setAlertCmds (hk : z.Keeps kp s) (v : List Nat) :
    z.Keeps kp (s.setAlertCmds v) := ⟨hk.mode, hk.keys, hk.kek, hk.cal, hk.rows, hk.duty, hk.time, hk.power, hk.epoch, hk.formed⟩

theorem setUnits (hk : z.Keeps kp s) (v : Tbl UnitRec) :
    z.Keeps kp (s.setUnits v) := ⟨hk.mode, hk.keys, hk.kek, hk.cal, hk.rows, hk.duty, hk.time, hk.power, hk.epoch, hk.formed⟩

theorem setInj (hk : z.Keeps kp s) (v : Option Inj) :
    z.Keeps kp (s.setInj v) := ⟨hk.mode, hk.keys, hk.kek, hk.cal, hk.rows, hk.duty, hk.time, hk.power, hk.epoch, hk.formed⟩

theorem setClock (hk : z.Keeps kp s) (v : Nat) :
    z.Keeps kp (s.setClock v) := ⟨hk.mode, hk.keys, hk.kek, hk.cal, hk.rows, hk.duty, hk.time, hk.power, hk.epoch, hk.formed⟩

theorem setFlips (hk : z.Keeps kp s) (v : Tbl Nat) :
    z.Keeps kp (s.setFlips v) := ⟨hk.mode, hk.keys, hk.kek, hk.cal, hk.rows, hk.duty, hk.time, hk.power, hk.epoch, hk.formed⟩

theorem setWords (hk : z.Keeps kp s) (v : Tbl UnitRec) :
    z.Keeps kp (s.setWords v) := ⟨hk.mode, hk.keys, hk.kek, hk.cal, hk.rows, hk.duty, hk.time, hk.power, hk.epoch, hk.formed⟩

theorem setRowMap (hrows : kp .rows = false) (hk : z.Keeps kp s) (v : Tbl Nat) :
    z.Keeps kp (s.setRowMap v) := ⟨hk.mode, hk.keys, hk.kek, hk.cal, fun e => by simp [hrows] at e, hk.duty, hk.time, hk.power, hk.epoch, hk.formed⟩

theorem setRowsDue (hk : z.Keeps kp s) (v : List Nat) :
    z.Keeps kp (s.setRowsDue v) := ⟨hk.mode, hk.keys, hk.kek, hk.cal, hk.rows, hk.duty, hk.time, hk.power, hk.epoch, hk.formed⟩

theorem setRetesting (hk : z.Keeps kp s) (v : Option (Nat × Nat)) :
    z.Keeps kp (s.setRetesting v) := ⟨hk.mode, hk.keys, hk.kek, hk.cal, hk.rows, hk.duty, hk.time, hk.power, hk.epoch, hk.formed⟩

theorem setTw (hk : z.Keeps kp s) (v : TwoWire) :
    z.Keeps kp (s.setTw v) := ⟨hk.mode, hk.keys, hk.kek, hk.cal, hk.rows, hk.duty, hk.time, hk.power, hk.epoch, hk.formed⟩

theorem setDoms (hk : z.Keeps kp s) (v : Tbl Dom) :
    z.Keeps kp (s.setDoms v) := ⟨hk.mode, hk.keys, hk.kek, hk.cal, hk.rows, hk.duty, hk.time, hk.power, hk.epoch, hk.formed⟩

theorem setJnlLost (hk : z.Keeps kp s) (v : Nat) :
    z.Keeps kp (s.setJnlLost v) := ⟨hk.mode, hk.keys, hk.kek, hk.cal, hk.rows, hk.duty, hk.time, hk.power, hk.epoch, hk.formed⟩

theorem setFine (hk : z.Keeps kp s) (v : Int) :
    z.Keeps kp (s.setFine v) := ⟨hk.mode, hk.keys, hk.kek, hk.cal, hk.rows, hk.duty, hk.time, hk.power, hk.epoch, hk.formed⟩

theorem setBeatOf (hk : z.Keeps kp s) (v : Tbl Nat) :
    z.Keeps kp (s.setBeatOf v) := ⟨hk.mode, hk.keys, hk.kek, hk.cal, hk.rows, hk.duty, hk.time, hk.power, hk.epoch, hk.formed⟩

theorem setChans (hk : z.Keeps kp s) (v : Tbl Chan) :
    z.Keeps kp (s.setChans v) := ⟨hk.mode, hk.keys, hk.kek, hk.cal, hk.rows, hk.duty, hk.time, hk.power, hk.epoch, hk.formed⟩

theorem setChains (hk : z.Keeps kp s) (v : Tbl Chain) :
    z.Keeps kp (s.setChains v) := ⟨hk.mode, hk.keys, hk.kek, hk.cal, hk.rows, hk.duty, hk.time, hk.power, hk.epoch, hk.formed⟩

theorem setDets (hk : z.Keeps kp s) (v : Tbl Det) :
    z.Keeps kp (s.setDets v) := ⟨hk.mode, hk.keys, hk.kek, hk.cal, hk.rows, hk.duty, hk.time, hk.power, hk.epoch, hk.formed⟩

theorem setDetFull (hk : z.Keeps kp s) (v : Tbl Det) :
    z.Keeps kp (s.setDetFull v) := ⟨hk.mode, hk.keys, hk.kek, hk.cal, hk.rows, hk.duty, hk.time, hk.power, hk.epoch, hk.formed⟩

theorem setInputs (hk : z.Keeps kp s) (v : Tbl (List BSmp)) :
    z.Keeps kp (s.setInputs v) := ⟨hk.mode, hk.keys, hk.kek, hk.cal, hk.rows, hk.duty, hk.time, hk.power, hk.epoch, hk.formed⟩

theorem setFeedHeat (hk : z.Keeps kp s) (v : Tbl Nat) :
    z.Keeps kp (s.setFeedHeat v) := ⟨hk.mode, hk.keys, hk.kek, hk.cal, hk.rows, hk.duty, hk.time, hk.power, hk.epoch, hk.formed⟩

theorem setFeedTrips (hk : z.Keeps kp s) (v : Tbl Nat) :
    z.Keeps kp (s.setFeedTrips v) := ⟨hk.mode, hk.keys, hk.kek, hk.cal, hk.rows, hk.duty, hk.time, hk.power, hk.epoch, hk.formed⟩

theorem setQuiet (hk : z.Keeps kp s) (v : Tbl (List Nat)) :
    z.Keeps kp (s.setQuiet v) := ⟨hk.mode, hk.keys, hk.kek, hk.cal, hk.rows, hk.duty, hk.time, hk.power, hk.epoch, hk.formed⟩

theorem setTestBins (hk : z.Keeps kp s) (v : Tbl Nat) :
    z.Keeps kp (s.setTestBins v) := ⟨hk.mode, hk.keys, hk.kek, hk.cal, hk.rows, hk.duty, hk.time, hk.power, hk.epoch, hk.formed⟩

theorem setCaptured (hk : z.Keeps kp s) (v : Tbl (List (Nat × Nat))) :
    z.Keeps kp (s.setCaptured v) := ⟨hk.mode, hk.keys, hk.kek, hk.cal, hk.rows, hk.duty, hk.time, hk.power, hk.epoch, hk.formed⟩

theorem setAud (hk : z.Keeps kp s) (v : Tbl Aud) :
    z.Keeps kp (s.setAud v) := ⟨hk.mode, hk.keys, hk.kek, hk.cal, hk.rows, hk.duty, hk.time, hk.power, hk.epoch, hk.formed⟩

theorem setPcm (hk : z.Keeps kp s) (v : Tbl (List Pcm)) :
    z.Keeps kp (s.setPcm v) := ⟨hk.mode, hk.keys, hk.kek, hk.cal, hk.rows, hk.duty, hk.time, hk.power, hk.epoch, hk.formed⟩

theorem setCraneNs (hk : z.Keeps kp s) (v : Tbl Nat) :
    z.Keeps kp (s.setCraneNs v) := ⟨hk.mode, hk.keys, hk.kek, hk.cal, hk.rows, hk.duty, hk.time, hk.power, hk.epoch, hk.formed⟩

theorem setGChain (hk : z.Keeps kp s) (v : Tbl Int) :
    z.Keeps kp (s.setGChain v) := ⟨hk.mode, hk.keys, hk.kek, hk.cal, hk.rows, hk.duty, hk.time, hk.power, hk.epoch, hk.formed⟩

theorem setSoundDet (hk : z.Keeps kp s) (v : Det) :
    z.Keeps kp (s.setSoundDet v) := ⟨hk.mode, hk.keys, hk.kek, hk.cal, hk.rows, hk.duty, hk.time, hk.power, hk.epoch, hk.formed⟩

theorem setScopeAt (hk : z.Keeps kp s) (v : Tbl Nat) :
    z.Keeps kp (s.setScopeAt v) := ⟨hk.mode, hk.keys, hk.kek, hk.cal, hk.rows, hk.duty, hk.time, hk.power, hk.epoch, hk.formed⟩

theorem setCca (hk : z.Keeps kp s) (v : Tbl (List Smp)) :
    z.Keeps kp (s.setCca v) := ⟨hk.mode, hk.keys, hk.kek, hk.cal, hk.rows, hk.duty, hk.time, hk.power, hk.epoch, hk.formed⟩

theorem setListens (hk : z.Keeps kp s) (v : List (Nat × Nat × Nat × Option Nat)) :
    z.Keeps kp (s.setListens v) := ⟨hk.mode, hk.keys, hk.kek, hk.cal, hk.rows, hk.duty, hk.time, hk.power, hk.epoch, hk.formed⟩

theorem setRxHeard (hk : z.Keeps kp s) (v : Tbl (List (Int × Int × Nat))) :
    z.Keeps kp (s.setRxHeard v) := ⟨hk.mode, hk.keys, hk.kek, hk.cal, hk.rows, hk.duty, hk.time, hk.power, hk.epoch, hk.formed⟩

theorem setInjWords (hk : z.Keeps kp s) (v : List Nat) :
    z.Keeps kp (s.setInjWords v) := ⟨hk.mode, hk.keys, hk.kek, hk.cal, hk.rows, hk.duty, hk.time, hk.power, hk.epoch, hk.formed⟩

theorem setSingles (hk : z.Keeps kp s) (v : List Nat) :
    z.Keeps kp (s.setSingles v) := ⟨hk.mode, hk.keys, hk.kek, hk.cal, hk.rows, hk.duty, hk.time, hk.power, hk.epoch, hk.formed⟩

theorem setDamaged (hk : z.Keeps kp s) (v : List (WordUse × Nat)) :
    z.Keeps kp (s.setDamaged v) := ⟨hk.mode, hk.keys, hk.kek, hk.cal, hk.rows, hk.duty, hk.time, hk.power, hk.epoch, hk.formed⟩

theorem setInjSeen (hk : z.Keeps kp s) (v : Bool) :
    z.Keeps kp (s.setInjSeen v) := ⟨hk.mode, hk.keys, hk.kek, hk.cal, hk.rows, hk.duty, hk.time, hk.power, hk.epoch, hk.formed⟩

theorem setInjBits (hk : z.Keeps kp s) (v : Nat) :
    z.Keeps kp (s.setInjBits v) := ⟨hk.mode, hk.keys, hk.kek, hk.cal, hk.rows, hk.duty, hk.time, hk.power, hk.epoch, hk.formed⟩

theorem setPrecNow (hk : z.Keeps kp s) (v : Nat) :
    z.Keeps kp (s.setPrecNow v) := ⟨hk.mode, hk.keys, hk.kek, hk.cal, hk.rows, hk.duty, hk.time, hk.power, hk.epoch, hk.formed⟩

theorem setTainted (hk : z.Keeps kp s) (v : Nat) :
    z.Keeps kp (s.setTainted v) := ⟨hk.mode, hk.keys, hk.kek, hk.cal, hk.rows, hk.duty, hk.time, hk.power, hk.epoch, hk.formed⟩

theorem setInjStall (hk : z.Keeps kp s) (v : List Nat) :
    z.Keeps kp (s.setInjStall v) := ⟨hk.mode, hk.keys, hk.kek, hk.cal, hk.rows, hk.duty, hk.time, hk.power, hk.epoch, hk.formed⟩

theorem setJtag (hk : z.Keeps kp s) (v : Tap) :
    z.Keeps kp (s.setJtag v) := ⟨hk.mode, hk.keys, hk.kek, hk.cal, hk.rows, hk.duty, hk.time, hk.power, hk.epoch, hk.formed⟩

theorem put (hk : z.Keeps kp s) (f : Fld) (v : Nat) : z.Keeps kp (s.put f v) :=
  hk.of_formed rfl rfl rfl rfl rfl rfl rfl rfl rfl rfl rfl (fun _ h => ⟨Tbl.wf_set _ _ _ _ h.1, h.2⟩)

theorem up (hk : z.Keeps kp s) (f : Fld) : z.Keeps kp (s.up f) := by
  unfold State.up
  repeat' with_reducible first
    | assumption | intro _ | apply put

theorem down (hk : z.Keeps kp s) (f : Fld) : z.Keeps kp (s.down f) := by
  unfold State.down
  repeat' with_reducible first
    | assumption | intro _ | apply put

theorem bump (hk : z.Keeps kp s) (f : Fld) : z.Keeps kp (s.bump f) := by
  unfold State.bump
  repeat' with_reducible first
    | assumption | intro _ | apply put

theorem bumpWrap (hk : z.Keeps kp s) (f : Fld) : z.Keeps kp (s.bumpWrap f) := by
  unfold State.bumpWrap
  repeat' with_reducible first
    | assumption | intro _ | apply put

theorem resetRegs (hk : z.Keeps kp s) (p : Nat → Bool) : z.Keeps kp (s.resetRegs p) :=
  hk.of_formed rfl rfl rfl rfl rfl rfl rfl rfl rfl rfl rfl (fun _ h => ⟨State.formed_filter h, h.2⟩)

theorem draw (hk : z.Keeps kp s) : z.Keeps kp (s.draw).2 := by
  unfold State.draw
  (try dsimp only)
  repeat' with_reducible first
    | assumption | intro _ | apply when | apply each | apply foldl | apply dite | dsimp only | split | (fail_if_no_progress apply lit)

theorem journal (hk : z.Keeps kp s) (address old new source result detail : Nat) :
    z.Keeps kp (s.journal address old new source result detail) := by
  unfold State.journal
  (try dsimp only)
  repeat' with_reducible first
    | assumption | intro _ | apply setJnl | apply setJnlCount | apply setJnlLost | apply put | apply bump | apply take | apply when
    | apply each | apply foldl | apply dite | dsimp only | split | (fail_if_no_progress apply lit) | (exact List.length_take_le ..)

theorem supWrite (hk : z.Keeps kp s) (f : Fld) (v : Nat) : z.Keeps kp (s.supWrite f v) := by
  unfold State.supWrite
  (try dsimp only)
  repeat' with_reducible first
    | assumption | intro _ | apply put | apply journal | apply when | apply each | apply foldl

theorem attn (hk : z.Keeps kp s) (b : Nat) : z.Keeps kp (s.attn b) := by
  unfold State.attn
  (try dsimp only)
  repeat' with_reducible first
    | assumption | intro _ | apply put | apply up | apply when | apply each | apply foldl | apply dite

theorem holdEvent (hk : z.Keeps kp s) (h : Nat) (f : Fld) (enabled : Bool) : z.Keeps kp (s.holdEvent h f enabled) := by
  unfold State.holdEvent
  (try dsimp only)
  repeat' with_reducible first
    | assumption | intro _ | apply up | apply attn | apply when

theorem holdJudge (hk : z.Keeps kp s) (h : Nat) : z.Keeps kp (s.holdJudge h) := by
  unfold State.holdJudge
  (try dsimp only)
  repeat' with_reducible first
    | assumption | intro _ | apply up | apply down | apply bump | apply holdEvent | apply when | apply each | apply foldl | apply dite

theorem holdFill (hk : z.Keeps kp s) (h fill : Nat) : z.Keeps kp (s.holdFill h fill) := by
  unfold State.holdFill
  (try dsimp only)
  repeat' with_reducible first
    | assumption | intro _ | apply put | apply holdJudge | apply when

theorem ringFill (hk : z.Keeps kp s) (h popped fill : Nat) : z.Keeps kp (s.ringFill h popped fill) := by
  unfold State.ringFill
  (try dsimp only)
  repeat' with_reducible first
    | assumption | intro _ | apply setBanks | apply holdFill

theorem ringShow (hk : z.Keeps kp s) (h fill : Nat) : z.Keeps kp (s.ringShow h fill) := by
  unfold State.ringShow
  repeat' with_reducible first
    | assumption | intro _ | apply ringFill

theorem putProd (hk : z.Keeps kp s) (p : Nat) (v : Producer) : z.Keeps kp (s.putProd p v) := by
  unfold State.putProd
  repeat' with_reducible first
    | assumption | intro _ | apply when | apply each | apply foldl | apply dite | dsimp only | split | (fail_if_no_progress apply lit)

theorem refreshHolds (hk : z.Keeps kp s) (h q : Nat) : z.Keeps kp (s.refreshHolds h q) := by
  unfold State.refreshHolds
  (try dsimp only)
  repeat' with_reducible first
    | assumption | intro _ | apply holdFill

theorem showHeld (hk : z.Keeps kp s) (q : Nat) : z.Keeps kp (s.showHeld q) := by
  unfold State.showHeld
  repeat' with_reducible first
    | assumption | intro _ | apply put

theorem numbered (hk : z.Keeps kp s) (p : Nat) (data : List Byte) : z.Keeps kp (s.numbered p data) := by
  unfold State.numbered
  (try dsimp only)
  repeat' with_reducible first
    | assumption | intro _ | apply putProd

theorem accept (hk : z.Keeps kp s) (p content flags ts : Nat) (payload : List Byte) (reserve : Bool) :
    z.Keeps kp (s.accept p content flags ts payload reserve) := by
  unfold State.accept
  (try dsimp only)
  repeat' with_reducible first
    | assumption | intro _ | apply refreshHolds | apply showHeld | apply numbered | apply when | apply each | apply foldl | apply dite
    | dsimp only | split | (fail_if_no_progress apply lit)

theorem releaseNo (hk : z.Keeps kp s) (p seq : Nat) : z.Keeps kp (s.releaseNo p seq) := by
  unfold State.releaseNo
  (try dsimp only)
  repeat' with_reducible first
    | assumption | intro _ | apply putProd

theorem release (hk : z.Keeps kp s) (p seq : Nat) : z.Keeps kp (s.release p seq) := by
  unfold State.release
  (try dsimp only)
  repeat' with_reducible first
    | assumption | intro _ | apply refreshHolds | apply releaseNo | apply when | apply each | apply foldl | apply dite | dsimp only
    | split | (fail_if_no_progress apply lit)

theorem exportOne {r0 : State} {e : EEntry} (e0 : (s.exportOne e) = some r0) (hk : z.Keeps kp s) : z.Keeps kp r0 := by
  unfold State.exportOne at e0
  dsimp only at e0
  split at e0
  · rw [← Option.some.inj e0]; exact hk.accept ..
  · split at e0
    · rw [← Option.some.inj e0]; exact hk.accept ..
    · cases e0

theorem exportDrain (hk : z.Keeps kp s) : z.Keeps kp (s.exportDrain) := by
  unfold State.exportDrain
  refine Keeps.foldl hk (fun t _ ht => ?_)
  have one : ∀ {u : State} {l : List EEntry}, z.Keeps kp u → l.length ≤ u.errExport.length → z.Keeps kp (u.setErrExport l) :=
    fun hu hl => hu.setErrExport _ (fun h => hl.trans h.2.2.2)
  split
  · split
    · rename_i hu
      exact one (Keeps.exportOne hu ht) (by simp)
    · split
      · split
        · rename_i hu
          exact one (Keeps.exportOne hu ht) (List.length_erase_le ..)
        · exact ht
      · exact ht
  · exact ht

theorem error (hk : z.Keeps kp s) (detector : Nat) (u : UnitType) (index : Nat) (o : Outc) (a : EArgs) :
    z.Keeps kp (s.error detector u index o a) := by
  unfold State.error
  (try dsimp only)
  repeat' first
    | with_reducible assumption
    | intro _
    | with_reducible apply Keeps.setErr
    | with_reducible apply Keeps.setErrCount
    | with_reducible apply Keeps.setErrExport
    | with_reducible apply Keeps.setInjSeen
    | with_reducible apply Keeps.put
    | with_reducible apply Keeps.up
    | with_reducible apply Keeps.bump
    | with_reducible apply Keeps.attn
    | with_reducible apply Keeps.exportDrain
    | with_reducible apply Keeps.take
    | with_reducible apply Keeps.when
    | with_reducible apply Keeps.each
    | with_reducible apply Keeps.foldl
    | with_reducible apply Keeps.dite
    | dsimp only
    | split
    | (fail_if_no_progress with_reducible apply Keeps.lit)
    | (exact List.length_take_le ..)
    | (exact (List.length_append ..).trans_le (Nat.succ_le_of_lt (by with_reducible assumption)))

theorem journalWrite (hk : z.Keeps kp s) (src a old new res : Nat) : z.Keeps kp (s.journalWrite src a old new res) := by
  unfold State.journalWrite
  repeat' with_reducible first
    | assumption | intro _ | apply journal | apply when | apply each | apply foldl | apply dite

theorem refusalBit (hk : z.Keeps kp s) (res : Nat) : z.Keeps kp (s.refusalBit res) := by
  unfold State.refusalBit
  repeat' with_reducible first
    | assumption | intro _ | apply up | apply when | apply each | apply foldl | apply dite

theorem refuse (hk : z.Keeps kp s) (src a old new res : Nat) : z.Keeps kp (s.refuse src a old new res) := by
  unfold State.refuse
  (try dsimp only)
  repeat' with_reducible first
    | assumption | intro _ | apply put | apply up | apply journalWrite | apply refusalBit | apply when | apply each | apply foldl
    | apply dite

theorem touch (hk : z.Keeps kp s) (a : Nat) : z.Keeps kp (s.touch a) := by
  unfold State.touch
  (try dsimp only)
  repeat' with_reducible first
    | assumption | intro _ | apply refuse | apply when | apply each | apply foldl | apply dite | dsimp only | split
    | (fail_if_no_progress apply lit)

theorem shade (hk : z.Keeps kp s) (c : Nat) (f : Fld) (v : Nat) (armed : Bool) : z.Keeps kp (s.shade c f v armed) := by
  unfold State.shade
  (try dsimp only)
  repeat' with_reducible first
    | assumption | intro _ | apply up | apply when | apply each | apply foldl | apply dite | dsimp only | split
    | (fail_if_no_progress apply lit)

theorem writeField (hk : z.Keeps kp s) (src base : Nat) (f : FDesc) (new : Nat) : z.Keeps kp (s.writeField src base f new) := by
  unfold State.writeField
  (try dsimp only)
  repeat' with_reducible first
    | assumption | intro _ | apply put | apply shade | apply when | apply each | apply foldl | apply dite | dsimp only | split

theorem acceptWrite (hk : z.Keeps kp s) (src base : Nat) (r : RDesc) (old new : Nat) : z.Keeps kp (s.acceptWrite src base r old new) := by
  unfold State.acceptWrite
  (try dsimp only)
  repeat' with_reducible first
    | assumption | intro _ | apply journalWrite | apply writeField | apply when | apply each | apply foldl

theorem judge (hk : z.Keeps kp s) (src a base : Nat) (r : RDesc) (new : Nat) (rule : Rule) :
    z.Keeps kp (s.judge src a base r new rule).1 := by
  unfold State.judge
  (try dsimp only)
  repeat' with_reducible first
    | assumption | intro _ | apply refuse | apply acceptWrite | apply when | apply each | apply foldl | apply dite | dsimp only | split

theorem writeAt (hk : z.Keeps kp s) (src a w : Nat) (rule : Rule) : z.Keeps kp (s.writeAt src a w rule).1 := by
  unfold State.writeAt
  (try dsimp only)
  repeat' with_reducible first
    | assumption | intro _ | apply up | apply refuse | apply judge | apply when | apply each | apply foldl | apply dite | dsimp only
    | split | (fail_if_no_progress apply lit)

theorem write (hk : z.Keeps kp s) (src a w : Nat) (rule : Rule) : z.Keeps kp (s.write src a w rule).1 := by
  unfold State.write
  (try dsimp only)
  repeat' with_reducible first
    | assumption | intro _ | apply up | apply touch | apply writeAt | apply when | apply each | apply foldl | apply dite | dsimp only
    | split

theorem applyArmed (hk : z.Keeps kp s) (c : Nat) : z.Keeps kp (s.applyArmed c) := by
  unfold State.applyArmed
  (try dsimp only)
  repeat' with_reducible first
    | assumption | intro _ | apply put | apply down | apply when | apply each | apply foldl | apply dite | dsimp only | split
    | (fail_if_no_progress apply lit)

theorem applyFields (hk : z.Keeps kp s) (c : Nat) (p : Fld → Bool) : z.Keeps kp (s.applyFields c p) := by
  unfold State.applyFields
  (try dsimp only)
  repeat' with_reducible first
    | assumption | intro _ | apply put | apply down | apply when | apply each | apply foldl | apply dite | dsimp only | split
    | (fail_if_no_progress apply lit)

theorem abortGroup (hk : z.Keeps kp s) (c : Nat) : z.Keeps kp (s.abortGroup c) := by
  unfold State.abortGroup
  repeat' with_reducible first
    | assumption | intro _ | apply down | apply when | apply each | apply foldl | apply dite | dsimp only | split
    | (fail_if_no_progress apply lit)

theorem putUnit (hk : z.Keeps kp s) (u : UnitType) (i : Nat) (r : UnitRec) : z.Keeps kp (s.putUnit u i r) := by
  unfold State.putUnit
  repeat' with_reducible first
    | assumption | intro _ | apply when | apply each | apply foldl | apply dite | dsimp only | split | (fail_if_no_progress apply lit)

theorem putFlips (hk : z.Keeps kp s) (a e : Nat) : z.Keeps kp (s.putFlips a e) := by
  unfold State.putFlips
  repeat' with_reducible first
    | assumption | intro _ | apply setFlips

theorem putWord (hk : z.Keeps kp s) (a : Nat) (r : UnitRec) : z.Keeps kp (s.putWord a r) := by
  unfold State.putWord
  repeat' with_reducible first
    | assumption | intro _ | apply setWords

theorem clearWords (hk : z.Keeps kp s) (mems : List Nat) : z.Keeps kp (s.clearWords mems) := by
  unfold State.clearWords
  (try dsimp only)
  repeat' with_reducible first
    | assumption | intro _ | apply setFlips | apply setWords | apply setInjWords | apply setSingles | apply putFlips | apply when
    | apply each

theorem mask (hk : z.Keeps kp s) (f : Fld) (b : Nat) (v : Bool) : z.Keeps kp (s.mask f b v) := by
  unfold State.mask
  (try dsimp only)
  repeat' with_reducible first
    | assumption | intro _ | apply put | apply when | apply each | apply foldl | apply dite

theorem showRetired (hk : z.Keeps kp s) (u : UnitType) (i : Nat) (v : Bool) : z.Keeps kp (s.showRetired u i v) := by
  unfold State.showRetired
  repeat' with_reducible first
    | assumption | intro _ | apply put | apply mask | apply when | apply each | apply foldl | apply dite | dsimp only | split

theorem retire (hk : z.Keeps kp s) (u : UnitType) (i : Nat) : z.Keeps kp (s.retire u i) := by
  unfold State.retire
  (try dsimp only)
  repeat' with_reducible first
    | assumption | intro _ | apply up | apply putUnit | apply showRetired

theorem startTest (hk : z.Keeps kp s) (u : UnitType) (i detector : Nat) (injected : Bool) :
    z.Keeps kp (s.startTest u i detector injected) := by
  unfold State.startTest
  (try dsimp only)
  repeat' with_reducible first
    | assumption | intro _ | apply putUnit | apply when | apply each | apply foldl | apply dite

theorem classify (hk : z.Keeps kp s) (u : UnitType) (i : Nat) (pass : Bool) : z.Keeps kp (s.classify u i pass).1 := by
  unfold State.classify
  (try dsimp only)
  repeat' with_reducible first
    | assumption | intro _ | apply error | apply putUnit | apply retire | apply when | apply each | apply foldl | apply dite
    | dsimp only | split

theorem alertShow (hk : z.Keeps kp s) : z.Keeps kp (s.alertShow) := by
  unfold State.alertShow
  (try dsimp only)
  repeat' with_reducible first
    | assumption | intro _ | apply put

theorem alertStart (hk : z.Keeps kp s) (kind src hold : Nat) (stateOn : Bool) : z.Keeps kp (s.alertStart kind src hold stateOn) := by
  unfold State.alertStart
  (try dsimp only)
  repeat' with_reducible first
    | assumption | intro _ | apply setAlerts | apply put | apply up | apply bump | apply alertShow | apply when

theorem alertSweep (hk : z.Keeps kp s) : z.Keeps kp (s.alertSweep) := by
  unfold State.alertSweep
  repeat' with_reducible first
    | assumption | intro _ | apply setAlerts | apply alertShow | apply when | apply each | apply foldl | apply dite

theorem alertStateOff (hk : z.Keeps kp s) (kind src : Nat) : z.Keeps kp (s.alertStateOff kind src) := by
  unfold State.alertStateOff
  repeat' with_reducible first
    | assumption | intro _ | apply setAlerts | apply alertSweep

theorem alertClear (hk : z.Keeps kp s) : z.Keeps kp (s.alertClear) := by
  unfold State.alertClear
  repeat' with_reducible first
    | assumption | intro _ | apply setAlerts | apply alertShow

theorem alertCommand (hk : z.Keeps kp s) (w : Nat) : z.Keeps kp (s.alertCommand w) := by
  unfold State.alertCommand
  (try dsimp only)
  repeat' with_reducible first
    | assumption | intro _ | apply setAlertCmds | apply up | apply alertStart | apply alertClear | apply when | apply each | apply foldl
    | apply dite

theorem alertThaw (hk : z.Keeps kp s) : z.Keeps kp (s.alertThaw) := by
  unfold State.alertThaw
  (try dsimp only)
  repeat' with_reducible first
    | assumption | intro _ | apply down | apply alertStart | apply alertCommand | apply when | apply each | apply foldl | apply dite
    | dsimp only | split | (fail_if_no_progress apply lit)

theorem alertReset (hk : z.Keeps kp s) : z.Keeps kp (s.alertReset) := by
  unfold State.alertReset
  (try dsimp only)
  repeat' with_reducible first
    | assumption | intro _ | apply down | apply alertShow | apply when | apply each | apply foldl | apply dite | dsimp only | split
    | (fail_if_no_progress apply lit)

theorem urgentStart (hk : z.Keeps kp s) (kind n : Nat) (injected : Bool) : z.Keeps kp (s.urgentStart kind n injected) := by
  unfold State.urgentStart
  (try dsimp only)
  repeat' with_reducible first
    | assumption | intro _ | apply error | apply alertStart | apply when

theorem urgentEnd (hk : z.Keeps kp s) (kind n : Nat) (injected : Bool) : z.Keeps kp (s.urgentEnd kind n injected) := by
  unfold State.urgentEnd
  (try dsimp only)
  repeat' with_reducible first
    | assumption | intro _ | apply error | apply alertStateOff

theorem urgentAccept (hk : z.Keeps kp s) (src : Nat) (injected : Bool) : z.Keeps kp (s.urgentAccept src injected) := by
  unfold State.urgentAccept
  (try dsimp only)
  repeat' with_reducible first
    | assumption | intro _ | apply error | apply alertStart | apply when | apply each | apply foldl | apply dite | dsimp only | split
    | (fail_if_no_progress apply lit)

theorem alertWrite (hk : z.Keeps kp s) (src w : Nat) : z.Keeps kp (s.alertWrite src w) := by
  unfold State.alertWrite
  repeat' with_reducible first
    | assumption | intro _ | apply write | apply alertCommand | apply when | apply each | apply foldl | apply dite | dsimp only | split
    | (fail_if_no_progress apply lit) | (exact List.length_take_le ..)
    | (exact (List.length_append ..).trans_le (Nat.succ_le_of_lt (by assumption)))
    | (exact State.formed_filter (State.formed_of_clear (by assumption))) | (exact State.formed_filter (by assumption))
    | (exact Tbl.wf_foldl _ _ _ (fun e => e.2) _ (State.Formed.regs (by assumption)))
    | (have e := congrArg Prod.fst ‹_ = ((_ : State), _)›; dsimp only at e; subst e)

theorem alertExpire (hk : z.Keeps kp s) (kind src : Nat) : z.Keeps kp (s.alertExpire kind src) := by
  unfold State.alertExpire
  repeat' with_reducible first
    | assumption | intro _ | apply setAlerts | apply alertSweep | apply when | apply each | apply foldl | apply dite

theorem urgEntryWrite (hk : z.Keeps kp s) (src a w : Nat) : z.Keeps kp (s.urgEntryWrite src a w) := by
  unfold State.urgEntryWrite
  (try dsimp only)
  repeat' with_reducible first
    | assumption | intro _ | apply put | apply journalWrite | apply refuse | apply touch | apply when | apply each | apply foldl
    | apply dite | dsimp only | split | (fail_if_no_progress apply lit)

theorem putSlot (hkeys : kp .keys = false) (hk : z.Keeps kp s) (i : Nat) (v : Slot) : z.Keeps kp (s.putSlot i v) := by
  unfold State.putSlot
  repeat' with_reducible first
    | assumption | intro _ | apply setSlots

theorem putReqs (hk : z.Keeps kp s) (l : List BReq) : z.Keeps kp (s.putReqs l) := by
  unfold State.putReqs
  repeat' with_reducible first
    | assumption | intro _ | apply setBondReqs | apply holdFill

theorem updReq (hk : z.Keeps kp s) (id : Nat) (g : BReq → BReq) : z.Keeps kp (s.updReq id g) := by
  unfold State.updReq
  repeat' with_reducible first
    | assumption | intro _ | apply setBondReqs

theorem enterReq (hk : z.Keeps kp s) (r : BReq) : z.Keeps kp (s.enterReq r) := by
  unfold State.enterReq
  (try dsimp only)
  repeat' with_reducible first
    | assumption | intro _ | apply putReqs | apply when | apply each | apply foldl | apply dite | dsimp only | split
    | (fail_if_no_progress apply lit)

theorem take (hk : z.Keeps kp s) (key seq : Nat) : z.Keeps kp (s.take key seq) := by
  unfold State.take
  repeat' with_reducible first
    | assumption | intro _ | apply setTaken

theorem acceptReq (hk : z.Keeps kp s) (src srcSeq mode ts : Nat) (frame : List Byte) (complete : Bool) :
    z.Keeps kp (s.acceptReq src srcSeq mode ts frame complete) := by
  unfold State.acceptReq
  (try dsimp only)
  repeat' with_reducible first
    | assumption | intro _ | apply enterReq

theorem acceptDatagram (hk : z.Keeps kp s) (n ts : Nat) (env : List Byte) : z.Keeps kp (s.acceptDatagram n ts env) := by
  unfold State.acceptDatagram
  repeat' with_reducible first
    | assumption | intro _ | apply numbered | apply acceptReq

theorem putCap (hk : z.Keeps kp s) (c : Nat) (v : Cap) : z.Keeps kp (s.putCap c v) := by
  unfold State.putCap
  repeat' with_reducible first
    | assumption | intro _ | apply put | apply when | apply each | apply foldl | apply dite | dsimp only | split
    | (fail_if_no_progress apply lit)

theorem capCut (hk : z.Keeps kp s) (c : Nat) : z.Keeps kp (s.capCut c) := by
  unfold State.capCut
  (try dsimp only)
  repeat' with_reducible first
    | assumption | intro _ | apply put | apply enterReq | apply take | apply putCap

theorem capShow (hk : z.Keeps kp s) (c : Nat) : z.Keeps kp (s.capShow c) := by
  unfold State.capShow
  repeat' with_reducible first
    | assumption | intro _ | apply up | apply when

theorem capPump (hk : z.Keeps kp s) (c : Nat) : z.Keeps kp (s.capPump c) := by
  unfold State.capPump
  (try dsimp only)
  repeat' with_reducible first
    | assumption | intro _ | apply capCut | apply capShow | apply when | apply each | apply foldl | apply dite

theorem capClose (hk : z.Keeps kp s) (c : Nat) : z.Keeps kp (s.capClose c) := by
  unfold State.capClose
  (try dsimp only)
  repeat' with_reducible first
    | assumption | intro _ | apply putCap | apply capPump

theorem capFlush (hk : z.Keeps kp s) (c : Nat) : z.Keeps kp (s.capFlush c) := by
  unfold State.capFlush
  repeat' with_reducible first
    | assumption | intro _ | apply capClose | apply when | apply each | apply foldl | apply dite

theorem markerAccepted (hk : z.Keeps kp s) (p content flags : Nat) (payload : List Byte) :
    z.Keeps kp (s.markerAccepted p content flags payload) := by
  unfold State.markerAccepted
  (try dsimp only)
  repeat' with_reducible first
    | assumption | intro _ | apply urgentAccept | apply when

theorem acceptFeed (hk : z.Keeps kp s) (p content flags ts : Nat) (payload : List Byte) (reserve : Bool) :
    z.Keeps kp (s.acceptFeed p content flags ts payload reserve) := by
  unfold State.acceptFeed
  (try dsimp only)
  repeat' with_reducible first
    | assumption | intro _ | apply accept | apply putCap | apply capPump | apply markerAccepted | apply when | apply each | apply foldl
    | apply dite | dsimp only | split

theorem capStop (hk : z.Keeps kp s) (c : Nat) : z.Keeps kp (s.capStop c) := by
  unfold State.capStop
  repeat' with_reducible first
    | assumption | intro _ | apply down | apply capClose

theorem putWindow (hk : z.Keeps kp s) (n : Nat) (w : Option Win) : z.Keeps kp (s.putWindow n w) := by
  unfold State.putWindow
  repeat' with_reducible first
    | assumption | intro _ | apply when | apply each | apply foldl | apply dite | dsimp only | split | (fail_if_no_progress apply lit)

theorem putClosed (hk : z.Keeps kp s) (n : Nat) (l : List Win) : z.Keeps kp (s.putClosed n l) := by
  unfold State.putClosed
  repeat' with_reducible first
    | assumption | intro _ | apply when | apply each | apply foldl | apply dite | dsimp only | split | (fail_if_no_progress apply lit)

theorem markWindow (hk : z.Keeps kp s) (n extra : Nat) : z.Keeps kp (s.markWindow n extra) := by
  unfold State.markWindow
  repeat' with_reducible first
    | assumption | intro _ | apply putWindow | apply when | apply each | apply foldl | apply dite | dsimp only | split

theorem inWindow (hk : z.Keeps kp s) (n : Nat) (ps : Int) (g : Win → Win) : z.Keeps kp (s.inWindow n ps g) := by
  unfold State.inWindow
  repeat' with_reducible first
    | assumption | intro _ | apply putWindow | apply putClosed | apply when | apply each | apply foldl | apply dite | dsimp only | split

theorem tally (hk : z.Keeps kp s) (n q i k ts : Nat) : z.Keeps kp (s.tally n q i k ts) := by
  unfold State.tally
  repeat' with_reducible first
    | assumption | intro _ | apply inWindow

theorem putBerth (hk : z.Keeps kp s) (n : Nat) (b : Berth) : z.Keeps kp (s.putBerth n b) := by
  unfold State.putBerth
  repeat' with_reducible first
    | assumption | intro _ | apply when | apply each | apply foldl | apply dite | dsimp only | split | (fail_if_no_progress apply lit)

theorem putInput (hk : z.Keeps kp s) (n b : Nat) (l : List BSmp) : z.Keeps kp (s.putInput n b l) := by
  unfold State.putInput
  repeat' with_reducible first
    | assumption | intro _ | apply setInputs

theorem putWaiting (hk : z.Keeps kp s) (p : Nat) (l : List Wait) : z.Keeps kp (s.putWaiting p l) := by
  unfold State.putWaiting
  repeat' with_reducible first
    | assumption | intro _ | apply when | apply each | apply foldl | apply dite | dsimp only | split | (fail_if_no_progress apply lit)

theorem loadCtx (hk : z.Keeps kp s) (n : Nat) (c : Ctx) : z.Keeps kp (s.loadCtx n c) := by
  unfold State.loadCtx
  (try dsimp only)
  repeat' with_reducible first
    | assumption | intro _ | apply setRds | apply setDab | apply setDrm | apply setDvb | apply setRx | apply setAud | apply put
    | apply putWaiting | apply when | apply each

theorem putDvb (hk : z.Keeps kp s) (n : Nat) (v : Dvb) : z.Keeps kp (s.putDvb n v) := by
  unfold State.putDvb
  repeat' with_reducible first
    | assumption | intro _ | apply when | apply each | apply foldl | apply dite | dsimp only | split | (fail_if_no_progress apply lit)

theorem showLoads (hk : z.Keeps kp s) : z.Keeps kp (s.showLoads) := by
  unfold State.showLoads
  repeat' with_reducible first
    | assumption | intro _ | apply put | apply when | apply each

theorem showOwn (hk : z.Keeps kp s) (n : Nat) (l : Load) : z.Keeps kp (s.showOwn n l) := by
  unfold State.showOwn
  (try dsimp only)
  repeat' with_reducible first
    | assumption | intro _ | apply put

theorem showLoad (hk : z.Keeps kp s) (n : Nat) : z.Keeps kp (s.showLoad n) := by
  unfold State.showLoad
  repeat' with_reducible first
    | assumption | intro _ | apply showOwn

theorem admitLoads (hk : z.Keeps kp s) (n : Nat) : z.Keeps kp (s.admitLoads n) := by
  unfold State.admitLoads
  (try dsimp only)
  repeat' with_reducible first
    | assumption | intro _ | apply put | apply down | apply putBerth | apply showLoads | apply showLoad

theorem admitRefused (hk : z.Keeps kp s) (n : Nat) : z.Keeps kp (s.admitRefused n) := by
  unfold State.admitRefused
  repeat' with_reducible first
    | assumption | intro _ | apply up

theorem freeArea (hk : z.Keeps kp s) (n : Nat) : z.Keeps kp (s.freeArea n) := by
  unfold State.freeArea
  (try dsimp only)
  repeat' with_reducible first
    | assumption | intro _ | apply putBerth

theorem freeLoads (hk : z.Keeps kp s) (n : Nat) : z.Keeps kp (s.freeLoads n) := by
  unfold State.freeLoads
  (try dsimp only)
  repeat' with_reducible first
    | assumption | intro _ | apply putBerth | apply showLoads

theorem putQueue (hk : z.Keeps kp s) (cls : Nat) (q : List Nat) : z.Keeps kp (s.putQueue cls q) := by
  unfold State.putQueue
  repeat' with_reducible first
    | assumption | intro _ | apply when | apply each | apply foldl | apply dite | dsimp only | split | (fail_if_no_progress apply lit)

theorem craneIdle (hk : z.Keeps kp s) (c : Nat) : z.Keeps kp (s.craneIdle c) := by
  unfold State.craneIdle
  repeat' with_reducible first
    | assumption | intro _ | apply put | apply down

theorem craneTake (hk : z.Keeps kp s) (c n : Nat) : z.Keeps kp (s.craneTake c n) := by
  unfold State.craneTake
  (try dsimp only)
  repeat' with_reducible first
    | assumption | intro _ | apply put | apply up | apply bump | apply putBerth | apply when | apply each | apply foldl | apply dite

theorem craneChoose (hk : z.Keeps kp s) (c : Nat) : z.Keeps kp (s.craneChoose c) := by
  unfold State.craneChoose
  (try dsimp only)
  repeat' with_reducible first
    | assumption | intro _ | apply putQueue | apply craneIdle | apply craneTake | apply when | apply each | apply foldl | apply dite
    | dsimp only | split

theorem enterQueue (hk : z.Keeps kp s) (n younger : Nat) : z.Keeps kp (s.enterQueue n younger) := by
  unfold State.enterQueue
  (try dsimp only)
  repeat' with_reducible first
    | assumption | intro _ | apply put | apply take | apply putBerth | apply putQueue | apply craneChoose | apply when | apply each
    | apply foldl | apply dite | dsimp only | split

theorem enqueue (hk : z.Keeps kp s) (n : Nat) : z.Keeps kp (s.enqueue n) := by
  unfold State.enqueue
  repeat' with_reducible first
    | assumption | intro _ | apply enterQueue

theorem promote (hk : z.Keeps kp s) (n : Nat) : z.Keeps kp (s.promote n) := by
  unfold State.promote
  (try dsimp only)
  repeat' with_reducible first
    | assumption | intro _ | apply up | apply putBerth | apply when | apply each | apply foldl | apply dite

theorem pass (hk : z.Keeps kp s) (n cls : Nat) : z.Keeps kp (s.pass n cls) := by
  unfold State.pass
  (try dsimp only)
  repeat' with_reducible first
    | assumption | intro _ | apply putDvb | apply when | apply each | apply foldl | apply dite | dsimp only | split

theorem ticketReady (hk : z.Keeps kp s) (n cls : Nat) (kinds : List Nat) : z.Keeps kp (s.ticketReady n cls kinds) := by
  unfold State.ticketReady
  (try dsimp only)
  repeat' with_reducible first
    | assumption | intro _ | apply put | apply up | apply enqueue | apply promote | apply when | apply each | apply foldl | apply dite

theorem ticketDone (hk : z.Keeps kp s) (n : Nat) : z.Keeps kp (s.ticketDone n) := by
  unfold State.ticketDone
  (try dsimp only)
  repeat' with_reducible first
    | assumption | intro _ | apply put | apply down | apply putBerth

theorem commitMark (hk : z.Keeps kp s) (n progress : Nat) (complete : Bool) : z.Keeps kp (s.commitMark n progress complete) := by
  unfold State.commitMark
  (try dsimp only)
  repeat' with_reducible first
    | assumption | intro _ | apply putBerth | apply putInput | apply when | apply each

theorem markHere (hk : z.Keeps kp s) (n : Nat) : z.Keeps kp (s.markHere n) := by
  unfold State.markHere
  (try dsimp only)
  repeat' with_reducible first
    | assumption | intro _ | apply putBerth | apply putInput | apply when | apply each

theorem markSwap (hk : z.Keeps kp s) (h p : Nat) : z.Keeps kp (s.markSwap h p) := by
  unfold State.markSwap
  (try dsimp only)
  repeat' with_reducible first
    | assumption | intro _ | apply putBerth

theorem park (hk : z.Keeps kp s) (n : Nat) (finished : Bool) : z.Keeps kp (s.park n finished) := by
  unfold State.park
  (try dsimp only)
  repeat' with_reducible first
    | assumption | intro _ | apply put | apply up | apply bump | apply putBerth | apply when | apply each | apply foldl | apply dite

theorem spareTakes (hk : z.Keeps kp s) (c : Nat) : z.Keeps kp (s.spareTakes c) := by
  unfold State.spareTakes
  repeat' with_reducible first
    | assumption | intro _ | apply put | apply up

theorem judgeClass (hk : z.Keeps kp s) (cls : Nat) : z.Keeps kp (s.judgeClass cls) := by
  unfold State.judgeClass
  (try dsimp only)
  repeat' with_reducible first
    | assumption | intro _ | apply put | apply mask

theorem shed (hk : z.Keeps kp s) (cls : Nat) : z.Keeps kp (s.shed cls) := by
  unfold State.shed
  (try dsimp only)
  repeat' with_reducible first
    | assumption | intro _ | apply put | apply up | apply error | apply putBerth | apply freeArea | apply freeLoads | apply when
    | apply each | apply foldl | apply dite | dsimp only | split

theorem rejudge (hk : z.Keeps kp s) (cls : Nat) : z.Keeps kp (s.rejudge cls) := by
  unfold State.rejudge
  (try dsimp only)
  repeat' with_reducible first
    | assumption | intro _ | apply up | apply down | apply judgeClass | apply shed | apply when | apply each | apply foldl | apply dite

theorem assignRoles (hk : z.Keeps kp s) (cls : Nat) : z.Keeps kp (s.assignRoles cls) := by
  unfold State.assignRoles
  (try dsimp only)
  repeat' with_reducible first
    | assumption | intro _ | apply put | apply judgeClass | apply when | apply each | apply foldl | apply dite | dsimp only | split

theorem beatPass (hk : z.Keeps kp s) (c : Nat) : z.Keeps kp (s.beatPass c) := by
  unfold State.beatPass
  (try dsimp only)
  repeat' with_reducible first
    | assumption | intro _ | apply setBeatOf | apply applyFields | apply when | apply each | apply foldl | apply dite | dsimp only
    | split

theorem requeue (hk : z.Keeps kp s) (n cls : Nat) : z.Keeps kp (s.requeue n cls) := by
  unfold State.requeue
  (try dsimp only)
  repeat' with_reducible first
    | assumption | intro _ | apply put | apply putBerth | apply putQueue

theorem handTicket (hk : z.Keeps kp s) (c : Nat) : z.Keeps kp (s.handTicket c) := by
  unfold State.handTicket
  (try dsimp only)
  repeat' with_reducible first
    | assumption | intro _ | apply put | apply startTest | apply putBerth | apply craneIdle | apply craneTake | apply craneChoose
    | apply spareTakes | apply judgeClass | apply rejudge | apply requeue | apply when | apply each | apply foldl | apply dite
    | dsimp only | split | (fail_if_no_progress apply lit)

theorem ticketComplete (hk : z.Keeps kp s) (n : Nat) : z.Keeps kp (s.ticketComplete n) := by
  unfold State.ticketComplete
  (try dsimp only)
  repeat' with_reducible first
    | assumption | intro _ | apply pass | apply ticketDone | apply park | apply when | apply each | apply foldl | apply dite

theorem beatEnd (hk : z.Keeps kp s) (c : Nat) (complete noCredit : Bool) (progress : Nat) :
    z.Keeps kp (s.beatEnd c complete noCredit progress) := by
  unfold State.beatEnd
  (try dsimp only)
  repeat' with_reducible first
    | assumption | intro _ | apply put | apply up | apply bumpWrap | apply putBerth | apply putQueue | apply craneIdle | apply craneTake
    | apply craneChoose | apply commitMark | apply park | apply beatPass | apply handTicket | apply ticketComplete | apply when
    | apply each | apply foldl | apply dite | dsimp only | split

theorem toMark (hk : z.Keeps kp s) (n : Nat) : z.Keeps kp (s.toMark n) := by
  unfold State.toMark
  (try dsimp only)
  repeat' with_reducible first
    | assumption | intro _ | apply putProd | apply putBerth | apply loadCtx

theorem craneFault (hk : z.Keeps kp s) (c detector : Nat) (a : EArgs) : z.Keeps kp (s.craneFault c detector a) := by
  unfold State.craneFault
  (try dsimp only)
  repeat' with_reducible first
    | assumption | intro _ | apply put | apply up | apply bump | apply error | apply startTest | apply putBerth | apply craneIdle
    | apply craneTake | apply craneChoose | apply spareTakes | apply rejudge | apply requeue | apply toMark | apply when | apply each
    | apply foldl | apply dite | dsimp only | split | (fail_if_no_progress apply lit)

theorem craneBack (hk : z.Keeps kp s) (c : Nat) : z.Keeps kp (s.craneBack c) := by
  unfold State.craneBack
  (try dsimp only)
  repeat' with_reducible first
    | assumption | intro _ | apply put | apply craneChoose | apply rejudge | apply when | apply each | apply foldl | apply dite

theorem craneTested (hk : z.Keeps kp s) (c : Nat) (pass : Bool) : z.Keeps kp (s.craneTested c pass) := by
  unfold State.craneTested
  repeat' with_reducible first
    | assumption | intro _ | apply put | apply up | apply classify | apply rejudge | apply craneBack | apply when | apply each
    | apply foldl | apply dite | dsimp only | split | (fail_if_no_progress apply lit) | (exact List.length_take_le ..)
    | (exact (List.length_append ..).trans_le (Nat.succ_le_of_lt (by assumption)))
    | (exact State.formed_filter (State.formed_of_clear (by assumption))) | (exact State.formed_filter (by assumption))
    | (exact Tbl.wf_foldl _ _ _ (fun e => e.2) _ (State.Formed.regs (by assumption)))
    | (have e := congrArg Prod.fst ‹_ = ((_ : State), _)›; dsimp only at e; subst e)

theorem dedup (hk : z.Keeps kp s) (n c seq : Nat) (payload : List Byte) : z.Keeps kp (s.dedup n c seq payload) := by
  unfold State.dedup
  (try dsimp only)
  repeat' with_reducible first
    | assumption | intro _ | apply up | apply bump | apply craneFault | apply when | apply each | apply foldl | apply dite | dsimp only
    | split

theorem offer {r0 : State} {p : Nat} {w : Wait} (e0 : (s.offer p w) = some r0) (hk : z.Keeps kp s) : z.Keeps kp r0 := by
  unfold State.offer at e0
  split at e0
  · split at e0
    · rw [← Option.some.inj e0]; exact hk.acceptDatagram ..
    · cases e0
  · split at e0
    · rw [← Option.some.inj e0]; exact hk.acceptFeed ..
    · split at e0
      · rw [← Option.some.inj e0]; exact hk.acceptFeed ..
      · cases e0

theorem drainOne (hk : z.Keeps kp s) (p : Nat) : z.Keeps kp (s.drainOne p) := by
  unfold State.drainOne
  (try dsimp only)
  repeat' with_reducible first
    | assumption | intro _ | apply putProd | apply putWaiting | apply dedup | apply erase | apply when | apply each | apply foldl
    | apply dite | dsimp only | split | (fail_if_no_progress apply lit) | (apply offer; case e0 => assumption)

theorem drainWaiting (hk : z.Keeps kp s) (p : Nat) : z.Keeps kp (s.drainWaiting p) := by
  unfold State.drainWaiting
  repeat' with_reducible first
    | assumption | intro _ | apply drainOne | apply when | apply each | apply foldl

theorem emitWait (hk : z.Keeps kp s) (p : Nat) (w : Wait) : z.Keeps kp (s.emitWait p w) := by
  unfold State.emitWait
  (try dsimp only)
  repeat' with_reducible first
    | assumption | intro _ | apply putProd | apply putWaiting | apply dedup | apply when | apply each | apply foldl | apply dite
    | dsimp only | split | (fail_if_no_progress apply lit) | (apply offer; case e0 => assumption)

theorem emit (hk : z.Keeps kp s) (p content flags ts : Nat) (payload : List Byte) : z.Keeps kp (s.emit p content flags ts payload) := by
  unfold State.emit
  repeat' with_reducible first
    | assumption | intro _ | apply emitWait

theorem emitDatagram (hk : z.Keeps kp s) (n ts : Nat) (env : List Byte) : z.Keeps kp (s.emitDatagram n ts env) := by
  unfold State.emitDatagram
  repeat' with_reducible first
    | assumption | intro _ | apply emitWait

theorem arrive (hk : z.Keeps kp s) (n c seq content flags ts : Nat) (payload : List Byte) :
    z.Keeps kp (s.arrive n c seq content flags ts payload) := by
  unfold State.arrive
  (try dsimp only)
  repeat' with_reducible first
    | assumption | intro _ | apply putProd | apply craneFault | apply dedup | apply emit | apply when | apply each | apply foldl
    | apply dite

theorem scopeEmit (hk : z.Keeps kp s) (n count : Nat) : z.Keeps kp (s.scopeEmit n count) := by
  unfold State.scopeEmit
  (try dsimp only)
  repeat' with_reducible first
    | assumption | intro _ | apply putInput | apply emit | apply when | apply each

theorem scopePump (hk : z.Keeps kp s) (n : Nat) (last : Bool) : z.Keeps kp (s.scopePump n last) := by
  unfold State.scopePump
  (try dsimp only)
  repeat' with_reducible first
    | assumption | intro _ | apply setScopeAt | apply scopeEmit | apply when | apply each | apply foldl | apply dite | dsimp only
    | split

theorem unpark (hk : z.Keeps kp s) (n : Nat) : z.Keeps kp (s.unpark n) := by
  unfold State.unpark
  (try dsimp only)
  repeat' with_reducible first
    | assumption | intro _ | apply enterQueue | apply ticketDone | apply drainWaiting | apply scopePump | apply when | apply each
    | apply foldl | apply dite

theorem inputOverwrite (hk : z.Keeps kp s) (n len : Nat) : z.Keeps kp (s.inputOverwrite n len) := by
  unfold State.inputOverwrite
  (try dsimp only)
  repeat' with_reducible first
    | assumption | intro _ | apply up | apply bump | apply putBerth | apply putInput | apply when | apply each | apply foldl
    | apply dite

theorem craneShares (hk : z.Keeps kp s) (second : Bool) : z.Keeps kp (s.craneShares second) := by
  unfold State.craneShares
  (try dsimp only)
  repeat' with_reducible first
    | assumption | intro _ | apply setCraneNs | apply put | apply when | apply each | apply foldl | apply dite

theorem laneGone (hk : z.Keeps kp s) (n : Nat) : z.Keeps kp (s.laneGone n) := by
  unfold State.laneGone
  repeat' with_reducible first
    | assumption | intro _ | apply put | apply putWindow | apply when

theorem laneHere (hk : z.Keeps kp s) (n : Nat) : z.Keeps kp (s.laneHere n) := by
  unfold State.laneHere
  repeat' with_reducible first
    | assumption | intro _ | apply put | apply when

theorem showSpares (hk : z.Keeps kp s) : z.Keeps kp (s.showSpares) := by
  unfold State.showSpares
  (try dsimp only)
  repeat' with_reducible first
    | assumption | intro _ | apply put

theorem putLane (hk : z.Keeps kp s) (l : Nat) (r : LaneRole) : z.Keeps kp (s.putLane l r) := by
  unfold State.putLane
  repeat' with_reducible first
    | assumption | intro _ | apply setLanes | apply showSpares

theorem putIntake (hk : z.Keeps kp s) (k : Nat) (v : Intake) : z.Keeps kp (s.putIntake k v) := by
  unfold State.putIntake
  repeat' with_reducible first
    | assumption | intro _ | apply when | apply each | apply foldl | apply dite | dsimp only | split | (fail_if_no_progress apply lit)

theorem showValid (hk : z.Keeps kp s) (n : Nat) : z.Keeps kp (s.showValid n) := by
  unfold State.showValid
  (try dsimp only)
  repeat' with_reducible first
    | assumption | intro _ | apply put

theorem showValidAll (hk : z.Keeps kp s) : z.Keeps kp (s.showValidAll) := by
  unfold State.showValidAll
  repeat' with_reducible first
    | assumption | intro _ | apply showValid | apply when | apply each

theorem showDelay (hk : z.Keeps kp s) (n : Nat) : z.Keeps kp (s.showDelay n) := by
  unfold State.showDelay
  (try dsimp only)
  repeat' with_reducible first
    | assumption | intro _ | apply put

theorem putChain (hk : z.Keeps kp s) (l b : Nat) (h : Chain) : z.Keeps kp (s.putChain l b h) := by
  unfold State.putChain
  repeat' with_reducible first
    | assumption | intro _ | apply setChains

theorem putDet (hk : z.Keeps kp s) (n : Nat) (d : Det) : z.Keeps kp (s.putDet n d) := by
  unfold State.putDet
  repeat' with_reducible first
    | assumption | intro _ | apply setDets

theorem putDetDone (hk : z.Keeps kp s) (n : Nat) (d : Det) : z.Keeps kp (s.putDetDone n d) := by
  unfold State.putDetDone
  repeat' with_reducible first
    | assumption | intro _ | apply setDetFull

theorem chainsStart (hk : z.Keeps kp s) (n : Nat) : z.Keeps kp (s.chainsStart n) := by
  unfold State.chainsStart
  (try dsimp only)
  repeat' with_reducible first
    | assumption | intro _ | apply putChain | apply putDet | apply putDetDone | apply when | apply each

theorem chainsFollow (hk : z.Keeps kp s) (n l : Nat) : z.Keeps kp (s.chainsFollow n l) := by
  unfold State.chainsFollow
  repeat' with_reducible first
    | assumption | intro _ | apply putChain | apply when | apply each

theorem eraseNext (hk : z.Keeps kp s) (l b : Nat) : z.Keeps kp (s.eraseNext l b) := by
  unfold State.eraseNext
  (try dsimp only)
  repeat' with_reducible first
    | assumption | intro _ | apply putChain

theorem laneBegin (hk : z.Keeps kp s) (n : Nat) : z.Keeps kp (s.laneBegin n) := by
  unfold State.laneBegin
  (try dsimp only)
  repeat' with_reducible first
    | assumption | intro _ | apply setGChain | apply put | apply up | apply showValid | apply showDelay | apply chainsStart

theorem laneApply (hk : z.Keeps kp s) (n : Nat) : z.Keeps kp (s.laneApply n) := by
  unfold State.laneApply
  (try dsimp only)
  repeat' with_reducible first
    | assumption | intro _ | apply setShadow | apply up | apply applyArmed | apply showDelay | apply when

theorem laneStart (hk : z.Keeps kp s) (n : Nat) : z.Keeps kp (s.laneStart n) := by
  unfold State.laneStart
  repeat' with_reducible first
    | assumption | intro _ | apply down | apply laneBegin | apply laneApply | apply when | apply each | apply foldl | apply dite

theorem laneStop (hk : z.Keeps kp s) (n : Nat) : z.Keeps kp (s.laneStop n) := by
  unfold State.laneStop
  (try dsimp only)
  repeat' with_reducible first
    | assumption | intro _ | apply up | apply down | apply applyArmed | apply laneGone | apply showValid | apply when | apply each
    | apply foldl | apply dite

theorem laneSyncReset (hk : z.Keeps kp s) : z.Keeps kp (s.laneSyncReset) := by
  unfold State.laneSyncReset
  (try dsimp only)
  repeat' with_reducible first
    | assumption | intro _ | apply laneBegin | apply laneApply | apply when | apply each | apply foldl | apply dite | dsimp only | split
    | (fail_if_no_progress apply lit)

theorem laneSettled (hk : z.Keeps kp s) (n : Nat) : z.Keeps kp (s.laneSettled n) := by
  unfold State.laneSettled
  (try dsimp only)
  repeat' with_reducible first
    | assumption | intro _ | apply down | apply when

theorem detectorEnd (hk : z.Keeps kp s) (n : Nat) : z.Keeps kp (s.detectorEnd n) := by
  unfold State.detectorEnd
  (try dsimp only)
  repeat' with_reducible first
    | assumption | intro _ | apply put | apply up | apply down | apply putDetDone | apply when | apply each | apply foldl | apply dite

theorem laneTest (hk : z.Keeps kp s) (l detector : Nat) (injected : Bool) : z.Keeps kp (s.laneTest l detector injected) := by
  unfold State.laneTest
  (try dsimp only)
  repeat' with_reducible first
    | assumption | intro _ | apply setSounding | apply setTestBins | apply startTest | apply putLane

theorem copyBank (hk : z.Keeps kp s) (src dst : Nat) : z.Keeps kp (s.copyBank src dst) := by
  unfold State.copyBank
  split
  · exact hk
  · exact (hk.resetRegs _).setRegs _ (fun h => Tbl.wf_foldl regDefault _ (fun e : Nat × Nat => 16 * bankAddr dst 0x3001 + e.1) (fun e => e.2) _ h.1)

theorem copyBanks (hk : z.Keeps kp s) (src dst : Nat) : z.Keeps kp (s.copyBanks src dst) := by
  unfold State.copyBanks
  repeat' with_reducible first
    | assumption | intro _ | apply copyBank

theorem takeover (hk : z.Keeps kp s) (n : Nat) (taker : Option Nat) (detector : Nat) (a : EArgs) :
    z.Keeps kp (s.takeover n taker detector a) := by
  unfold State.takeover
  (try dsimp only)
  repeat' with_reducible first
    | assumption | intro _ | apply setSounding | apply up | apply error | apply putUnit | apply putLane | apply chainsFollow
    | apply copyBanks | apply when | apply each | apply foldl | apply dite | dsimp only | split

theorem laneFault (hk : z.Keeps kp s) (l detector : Nat) (a : EArgs) (branch : Nat) : z.Keeps kp (s.laneFault l detector a branch) := by
  unfold State.laneFault
  (try dsimp only)
  repeat' with_reducible first
    | assumption | intro _ | apply up | apply down | apply error | apply startTest | apply eraseNext | apply laneTest | apply takeover
    | apply when | apply each | apply foldl | apply dite | dsimp only | split

theorem patrolStart (hk : z.Keeps kp s) (l : Nat) : z.Keeps kp (s.patrolStart l) := by
  unfold State.patrolStart
  repeat' with_reducible first
    | assumption | intro _ | apply setPatrolAt | apply putLane | apply chainsFollow | apply copyBanks | apply when | apply each
    | apply foldl | apply dite | dsimp only | split

theorem patrolEnd (hk : z.Keeps kp s) (l : Nat) (equal spareOk : Bool) : z.Keeps kp (s.patrolEnd l equal spareOk) := by
  unfold State.patrolEnd
  (try dsimp only)
  repeat' with_reducible first
    | assumption | intro _ | apply up | apply bump | apply error | apply putLane | apply laneTest | apply takeover | apply when
    | apply each | apply foldl | apply dite | dsimp only | split

theorem takeoverSwitch (hmode : kp .mode = false) (hkeys : kp .keys = false) (hepoch : kp .epoch = false) (hk : z.Keeps kp s) (n : Nat) :
    z.Keeps kp (s.takeoverSwitch n) := by
  unfold State.takeoverSwitch
  (try dsimp only)
  repeat' with_reducible first
    | assumption | intro _ | apply put | apply up | apply down | apply bump | apply putUnit | apply putLane | apply laneTest
    | apply when | apply each | apply foldl | apply dite | dsimp only | split

theorem laneTested (hk : z.Keeps kp s) (l : Nat) (pass : Bool) : z.Keeps kp (s.laneTested l pass) := by
  unfold State.laneTested
  repeat' with_reducible first
    | assumption | intro _ | apply classify | apply putLane | apply when | apply each | apply foldl | apply dite | dsimp only | split
    | (fail_if_no_progress apply lit) | (exact List.length_take_le ..)
    | (exact (List.length_append ..).trans_le (Nat.succ_le_of_lt (by assumption)))
    | (exact State.formed_filter (State.formed_of_clear (by assumption))) | (exact State.formed_filter (by assumption))
    | (exact Tbl.wf_foldl _ _ _ (fun e => e.2) _ (State.Formed.regs (by assumption)))
    | (have e := congrArg Prod.fst ‹_ = ((_ : State), _)›; dsimp only at e; subst e)

theorem entropy (hk : z.Keeps kp s) : z.Keeps kp (s.entropy).2 := by
  unfold State.entropy
  (try dsimp only)
  repeat' with_reducible first
    | assumption | intro _ | apply setFreeCtr

theorem drbgReady (hk : z.Keeps kp s) : z.Keeps kp (s.drbgReady).2 := by
  unfold State.drbgReady
  (try dsimp only)
  repeat' with_reducible first
    | assumption | intro _ | apply entropy | apply when | apply each | apply foldl | apply dite | dsimp only | split

theorem random (hk : z.Keeps kp s) (n : Nat) : z.Keeps kp (s.random n).2 := by
  unfold State.random
  (try dsimp only)
  repeat' with_reducible first
    | assumption | intro _ | apply setDrbg | apply drbgReady

theorem agcShow (hk : z.Keeps kp s) (k : Nat) : z.Keeps kp (s.agcShow k) := by
  unfold State.agcShow
  repeat' with_reducible first
    | assumption | intro _ | apply put

theorem putSchedule (hk : z.Keeps kp s) (l : List TxReq) : z.Keeps kp (s.putSchedule l) := by
  unfold State.putSchedule
  repeat' with_reducible first
    | assumption | intro _ | apply setSchedule | apply holdFill

theorem txAccept (hk : z.Keeps kp s) (r : TxReq) : z.Keeps kp (s.txAccept r) := by
  unfold State.txAccept
  (try dsimp only)
  repeat' with_reducible first
    | assumption | intro _ | apply numbered | apply putSchedule

theorem periodicDue (hk : z.Keeps kp s) (e : Nat) : z.Keeps kp (s.periodicDue e) := by
  unfold State.periodicDue
  repeat' with_reducible first
    | assumption | intro _ | apply up | apply txAccept | apply when | apply each | apply foldl | apply dite | dsimp only | split

theorem txUpdate (hk : z.Keeps kp s) (seq : Nat) (g : TxReq → TxReq) : z.Keeps kp (s.txUpdate seq g) := by
  unfold State.txUpdate
  repeat' with_reducible first
    | assumption | intro _ | apply setSchedule

theorem txEnd (hk : z.Keeps kp s) (r : TxReq) (result : Nat) : z.Keeps kp (s.txEnd r result) := by
  unfold State.txEnd
  (try dsimp only)
  repeat' with_reducible first
    | assumption | intro _ | apply setTxAt | apply put | apply up | apply bump | apply releaseNo | apply error | apply putSchedule
    | apply when | apply each | apply foldl | apply dite

theorem headShow (hk : z.Keeps kp s) (r : TxReq) : z.Keeps kp (s.headShow r) := by
  unfold State.headShow
  repeat' with_reducible first
    | assumption | intro _ | apply txUpdate | apply when | apply each | apply foldl | apply dite | dsimp only | split

theorem scheduleStep (hk : z.Keeps kp s) : z.Keeps kp (s.scheduleStep) := by
  unfold State.scheduleStep
  (try dsimp only)
  repeat' with_reducible first
    | assumption | intro _ | apply setTxAt | apply setCca | apply txEnd | apply headShow | apply when | apply each | apply foldl
    | apply dite | dsimp only | split

theorem startDecision (hduty : kp .duty = false) (hk : z.Keeps kp s) (r : TxReq) : z.Keeps kp (s.startDecision r) := by
  unfold State.startDecision
  (try dsimp only)
  repeat' with_reducible first
    | assumption | intro _ | apply setTxAt | apply setDutyBins | apply up | apply txUpdate

theorem displaced {r0 : State} {r : TxReq} (e0 : (s.displaced r) = some r0) (hk : z.Keeps kp s) : z.Keeps kp r0 := by
  unfold State.displaced at e0
  split at e0
  · split at e0
    · cases e0
    · rw [← Option.some.inj e0]
      exact ((hk.txUpdate ..).setTxAt _).scheduleStep
  · cases e0

theorem ccaTake (hk : z.Keeps kp s) (k : Nat) (bins : List Smp) : z.Keeps kp (s.ccaTake k bins) := by
  unfold State.ccaTake
  (try dsimp only)
  repeat' with_reducible first
    | assumption | intro _ | apply setCca | apply take | apply when | apply each | apply foldl | apply dite | dsimp only | split

theorem ccaDone (hduty : kp .duty = false) (hk : z.Keeps kp s) : z.Keeps kp (s.ccaDone) := by
  unfold State.ccaDone
  (try dsimp only)
  repeat' with_reducible first
    | assumption | intro _ | apply setTxAt | apply setBackoff | apply random | apply txUpdate | apply txEnd | apply startDecision
    | apply when | apply each | apply foldl | apply dite | dsimp only | split | (fail_if_no_progress apply lit)
    | (apply displaced; case e0 => assumption)

theorem backoffEnd (hk : z.Keeps kp s) : z.Keeps kp (s.backoffEnd) := by
  unfold State.backoffEnd
  split
  · rename_i r _ _
    cases e0 : s.displaced r with
    | none => exact (hk.setTxAt _).setCca _
    | some t => exact Keeps.displaced e0 hk
  · exact hk

theorem lockWaitExpire (hk : z.Keeps kp s) : z.Keeps kp (s.lockWaitExpire) := by
  unfold State.lockWaitExpire
  repeat' with_reducible first
    | assumption | intro _ | apply txEnd | apply when | apply each | apply foldl | apply dite | dsimp only | split

theorem budgetWaitExpire (hk : z.Keeps kp s) : z.Keeps kp (s.budgetWaitExpire) := by
  unfold State.budgetWaitExpire
  repeat' with_reducible first
    | assumption | intro _ | apply txEnd | apply when | apply each | apply foldl | apply dite | dsimp only | split

theorem putRx (hk : z.Keeps kp s) (n : Nat) (r : Rx) : z.Keeps kp (s.putRx n r) := by
  unfold State.putRx
  repeat' with_reducible first
    | assumption | intro _ | apply when | apply each | apply foldl | apply dite | dsimp only | split | (fail_if_no_progress apply lit)

theorem rxTake (hk : z.Keeps kp s) (n : Nat) (y : BSmp) (off : Int) : z.Keeps kp (s.rxTake n y off) := by
  unfold State.rxTake
  repeat' with_reducible first
    | assumption | intro _ | apply setRxHeard

theorem rxEmit (hk : z.Keeps kp s) (n status fev : Nat) (psdu : List Byte) : z.Keeps kp (s.rxEmit n status fev psdu) := by
  unfold State.rxEmit
  (try dsimp only)
  repeat' with_reducible first
    | assumption | intro _ | apply emit

theorem rxFail (hk : z.Keeps kp s) (n status : Nat) (fev : Nat) : z.Keeps kp (s.rxFail n status fev) := by
  unfold State.rxFail
  (try dsimp only)
  repeat' with_reducible first
    | assumption | intro _ | apply up | apply bump | apply rxEmit | apply when | apply each | apply foldl | apply dite

theorem rxState (hk : z.Keeps kp s) (n st : Nat) : z.Keeps kp (s.rxState n st) := by
  unfold State.rxState
  repeat' with_reducible first
    | assumption | intro _ | apply put

theorem preamble (hk : z.Keeps kp s) (n timing : Nat) (freq : Int) : z.Keeps kp (s.preamble n timing freq) := by
  unfold State.preamble
  (try dsimp only)
  repeat' with_reducible first
    | assumption | intro _ | apply putRx | apply rxFail | apply rxState | apply when | apply each | apply foldl | apply dite

theorem sfd (hk : z.Keeps kp s) (n : Nat) (freq : Int) : z.Keeps kp (s.sfd n freq) := by
  unfold State.sfd
  (try dsimp only)
  repeat' with_reducible first
    | assumption | intro _ | apply putRx | apply rxState | apply when | apply each | apply foldl | apply dite

theorem sfdTimeout (hk : z.Keeps kp s) (n : Nat) : z.Keeps kp (s.sfdTimeout n) := by
  unfold State.sfdTimeout
  repeat' with_reducible first
    | assumption | intro _ | apply up | apply bump | apply rxState | apply when | apply each | apply foldl | apply dite

theorem phr (hk : z.Keeps kp s) (n w : Nat) (snr : Int) : z.Keeps kp (s.phr n w snr) := by
  unfold State.phr
  (try dsimp only)
  repeat' with_reducible first
    | assumption | intro _ | apply putRx | apply rxFail | apply rxState | apply when | apply each | apply foldl | apply dite

theorem rxFrame (hk : z.Keeps kp s) (n : Nat) (air : List Byte) (freqs : List Int) : z.Keeps kp (s.rxFrame n air freqs) := by
  unfold State.rxFrame
  (try dsimp only)
  repeat' with_reducible first
    | assumption | intro _ | apply put | apply up | apply bump | apply take | apply rxEmit | apply rxFail | apply rxState | apply phr
    | apply when | apply each | apply foldl | apply dite

theorem captureOverrun (hk : z.Keeps kp s) (i : Nat) : z.Keeps kp (s.captureOverrun i) := by
  unfold State.captureOverrun
  (try dsimp only)
  repeat' with_reducible first
    | assumption | intro _ | apply up | apply error | apply rxFail | apply rxState | apply when | apply each | apply foldl | apply dite
    | dsimp only | split

theorem showListen (hk : z.Keeps kp s) (channel v : Nat) : z.Keeps kp (s.showListen channel v) := by
  unfold State.showListen
  repeat' with_reducible first
    | assumption | intro _ | apply put | apply when | apply each | apply foldl | apply dite

theorem listenClose (hk : z.Keeps kp s) : z.Keeps kp (s.listenClose) := by
  unfold State.listenClose
  (try dsimp only)
  repeat' with_reducible first
    | assumption | intro _ | apply setListen | apply setListens | apply down | apply showListen | apply when | apply each | apply foldl
    | apply dite | dsimp only | split

theorem listenOpen (hk : z.Keeps kp s) (seq channel : Nat) : z.Keeps kp (s.listenOpen seq channel) := by
  unfold State.listenOpen
  (try dsimp only)
  repeat' with_reducible first
    | assumption | intro _ | apply setListen | apply setListens | apply up | apply take | apply showListen | apply listenClose

theorem windowOpen (hk : z.Keeps kp s) (clamped : Bool) : z.Keeps kp (s.windowOpen clamped) := by
  unfold State.windowOpen
  (try dsimp only)
  repeat' with_reducible first
    | assumption | intro _ | apply setTxAt | apply setTrsw | apply setPilotWindow | apply setOnAir | apply put | apply up | apply error
    | apply startTest | apply agcShow | apply rxFail | apply listenClose | apply when | apply each | apply foldl | apply dite
    | dsimp only | split

theorem airEnd (hk : z.Keeps kp s) : z.Keeps kp (s.airEnd) := by
  unfold State.airEnd
  (try dsimp only)
  repeat' with_reducible first
    | assumption | intro _ | apply setTxAt | apply setTrsw | apply setOnAir | apply bumpWrap | apply applyArmed | apply txUpdate
    | apply when | apply each | apply foldl | apply dite | dsimp only | split

theorem windowClose (hmode : kp .mode = false) (hkeys : kp .keys = false) (hepoch : kp .epoch = false) (hk : z.Keeps kp s) :
    z.Keeps kp (s.windowClose) := by
  unfold State.windowClose
  (try dsimp only)
  repeat' with_reducible first
    | assumption | intro _ | apply setPilotWindow | apply put | apply down | apply agcShow | apply rxState | apply when | apply each
    | apply foldl | apply dite

theorem turnroundEnd (hmode : kp .mode = false) (hkeys : kp .keys = false) (hepoch : kp .epoch = false) (hk : z.Keeps kp s) :
    z.Keeps kp (s.turnroundEnd) := by
  unfold State.turnroundEnd
  (try dsimp only)
  repeat' with_reducible first
    | assumption | intro _ | apply setTxAt | apply txEnd | apply listenOpen | apply windowClose | apply when | apply each | apply foldl
    | apply dite | dsimp only | split

theorem dutyExpire (hduty : kp .duty = false) (hk : z.Keeps kp s) (second : Nat) : z.Keeps kp (s.dutyExpire second) := by
  unfold State.dutyExpire
  repeat' with_reducible first
    | assumption | intro _ | apply setDutyBins

theorem txLeave (hk : z.Keeps kp s) : z.Keeps kp (s.txLeave) := by
  unfold State.txLeave
  repeat' with_reducible first
    | assumption | intro _ | apply setTxAt | apply txEnd | apply when | apply each | apply foldl | apply dite | dsimp only | split

theorem pilotStop (hmode : kp .mode = false) (hkeys : kp .keys = false) (hepoch : kp .epoch = false) (hk : z.Keeps kp s) :
    z.Keeps kp (s.pilotStop) := by
  unfold State.pilotStop
  (try dsimp only)
  repeat' with_reducible first
    | assumption | intro _ | apply setTrsw | apply setOnAir | apply txEnd | apply listenClose | apply windowClose | apply txLeave
    | apply when | apply each | apply foldl | apply dite | dsimp only | split

theorem pilotHalt (hmode : kp .mode = false) (hkeys : kp .keys = false) (hepoch : kp .epoch = false) (hk : z.Keeps kp s) :
    z.Keeps kp (s.pilotHalt) := by
  unfold State.pilotHalt
  (try dsimp only)
  repeat' with_reducible first
    | assumption | intro _ | apply setTrsw | apply setOnAir | apply listenClose | apply windowClose | apply txLeave

theorem pilotDisturb (hk : z.Keeps kp s) : z.Keeps kp (s.pilotDisturb) := by
  unfold State.pilotDisturb
  repeat' with_reducible first
    | assumption | intro _ | apply txUpdate | apply when | apply each | apply foldl | apply dite | dsimp only | split

theorem pilotRunShow (hk : z.Keeps kp s) : z.Keeps kp (s.pilotRunShow) := by
  unfold State.pilotRunShow
  repeat' with_reducible first
    | assumption | intro _ | apply put | apply when

theorem engineShow (hk : z.Keeps kp s) : z.Keeps kp (s.engineShow) := by
  unfold State.engineShow
  (try dsimp only)
  repeat' with_reducible first
    | assumption | intro _ | apply put

theorem seed (hk : z.Keeps kp s) : z.Keeps kp (s.seed) := by
  unfold State.seed
  repeat' with_reducible first
    | assumption | intro _ | apply setDrbg | apply entropy | apply engineShow

theorem entropyFail (hk : z.Keeps kp s) (injected : Bool) : z.Keeps kp (s.entropyFail injected) := by
  unfold State.entropyFail
  (try dsimp only)
  repeat' with_reducible first
    | assumption | intro _ | apply up | apply down | apply error | apply startTest | apply engineShow

theorem entropyRetry (hk : z.Keeps kp s) (pass : Bool) : z.Keeps kp (s.entropyRetry pass) := by
  unfold State.entropyRetry
  repeat' with_reducible first
    | assumption | intro _ | apply down | apply seed | apply when | apply each | apply foldl | apply dite

theorem refreshShare (hkeys : kp .keys = false) (hk : z.Keeps kp s) (i : Nat) : z.Keeps kp (s.refreshShare i) := by
  unfold State.refreshShare
  (try dsimp only)
  repeat' with_reducible first
    | assumption | intro _ | apply putSlot | apply random | apply when | apply each | apply foldl | apply dite | dsimp only | split

theorem refreshShares (hkeys : kp .keys = false) (hk : z.Keeps kp s) : z.Keeps kp (s.refreshShares) := by
  unfold State.refreshShares
  repeat' with_reducible first
    | assumption | intro _ | apply refreshShare | apply when | apply each

theorem slotWritten (hk : z.Keeps kp s) (i source address : Nat) : z.Keeps kp (s.slotWritten i source address) := by
  unfold State.slotWritten
  repeat' with_reducible first
    | assumption | intro _ | apply journal

theorem setKey (hkeys : kp .keys = false) (hk : z.Keeps kp s) (i : Nat) (key : List Byte) (usage source address : Nat) :
    z.Keeps kp (s.setKey i key usage source address) := by
  unfold State.setKey
  (try dsimp only)
  repeat' with_reducible first
    | assumption | intro _ | apply down | apply putSlot | apply random | apply slotWritten

theorem applyDeferred (hkeys : kp .keys = false) (hk : z.Keeps kp s) : z.Keeps kp (s.applyDeferred) := by
  unfold State.applyDeferred
  (try dsimp only)
  repeat' with_reducible first
    | assumption | intro _ | apply setKey | apply when | apply each | apply foldl | apply dite | dsimp only | split

theorem loadSlot (hkeys : kp .keys = false) (hk : z.Keeps kp s) (i : Nat) (key : List Byte) (usage source : Nat) (image : Bool) :
    z.Keeps kp (s.loadSlot i key usage source image) := by
  unfold State.loadSlot
  (try dsimp only)
  repeat' with_reducible first
    | assumption | intro _ | apply putSlot | apply setKey | apply when | apply each | apply foldl | apply dite

theorem putIv (hk : z.Keeps kp s) (l : List IvEntry) : z.Keeps kp (s.putIv l) := by
  unfold State.putIv
  repeat' with_reducible first
    | assumption | intro _ | apply setIvTable | apply put

theorem ivSet (hk : z.Keeps kp s) (r : BReq) (state : Nat) : z.Keeps kp (s.ivSet r state) := by
  unfold State.ivSet
  repeat' with_reducible first
    | assumption | intro _ | apply putIv | apply when | apply each | apply foldl | apply dite | dsimp only | split

theorem ivMake (hk : z.Keeps kp s) (r : BReq) : z.Keeps kp (s.ivMake r) := by
  unfold State.ivMake
  (try dsimp only)
  repeat' with_reducible first
    | assumption | intro _ | apply up | apply updReq | apply putIv | apply when | apply each | apply foldl | apply dite | dsimp only
    | split

theorem freeReq (hk : z.Keeps kp s) (r : BReq) : z.Keeps kp (s.freeReq r) := by
  unfold State.freeReq
  (try dsimp only)
  repeat' with_reducible first
    | assumption | intro _ | apply releaseNo | apply release | apply putReqs | apply capPump | apply when | apply each | apply foldl
    | apply dite

theorem relayNext (hk : z.Keeps kp s) : z.Keeps kp (s.relayNext) := by
  unfold State.relayNext
  repeat' with_reducible first
    | assumption | intro _ | apply setRelays | apply take | apply txAccept | apply when | apply each | apply foldl | apply dite
    | dsimp only | split

theorem bondSettle (hk : z.Keeps kp s) : z.Keeps kp (s.bondSettle) := by
  unfold State.bondSettle
  (try dsimp only)
  repeat' with_reducible first
    | assumption | intro _ | apply freeReq | apply relayNext | apply when | apply each | apply foldl | apply dite

theorem endReq (hkeys : kp .keys = false) (hk : z.Keeps kp s) (r : BReq) : z.Keeps kp (s.endReq r) := by
  unfold State.endReq
  (try dsimp only)
  repeat' with_reducible first
    | assumption | intro _ | apply setBondNow | apply updReq | apply applyDeferred | apply bondSettle | apply when

theorem dropPlain (hk : z.Keeps kp s) (r : BReq) : z.Keeps kp (s.dropPlain r) := by
  unfold State.dropPlain
  (try dsimp only)
  repeat' with_reducible first
    | assumption | intro _ | apply updReq | apply putWaiting

theorem emitPlain (hk : z.Keeps kp s) (r : BReq) (stream : List Byte) (total k n : Nat) (provisional : Bool) :
    z.Keeps kp (s.emitPlain r stream total k n provisional) := by
  unfold State.emitPlain
  (try dsimp only)
  repeat' with_reducible first
    | assumption | intro _ | apply take | apply emit | apply when | apply each | apply foldl

theorem emitVerdict (hk : z.Keeps kp s) (r : BReq) (accept : Bool) (reason segments relay : Nat) (injected : Bool) :
    z.Keeps kp (s.emitVerdict r accept reason segments relay injected) := by
  unfold State.emitVerdict
  (try dsimp only)
  repeat' with_reducible first
    | assumption | intro _ | apply emit

theorem rejectReq (hkeys : kp .keys = false) (hk : z.Keeps kp s) (r : BReq) (reason : Nat) (injected : Bool) :
    z.Keeps kp (s.rejectReq r reason injected) := by
  unfold State.rejectReq
  (try dsimp only)
  repeat' with_reducible first
    | assumption | intro _ | apply up | apply bump | apply bumpWrap | apply attn | apply ivSet | apply endReq | apply emitVerdict
    | apply when

theorem takeReq (hkeys : kp .keys = false) (hk : z.Keeps kp s) (r : BReq) : z.Keeps kp (s.takeReq r) := by
  unfold State.takeReq
  repeat' with_reducible first
    | assumption | intro _ | apply setBondNow | apply up | apply bump | apply updReq | apply ivMake | apply endReq | apply when
    | apply each | apply foldl | apply dite | dsimp only | split

theorem processReq (hk : z.Keeps kp s) (r : BReq) (n : Nat) : z.Keeps kp (s.processReq r n) := by
  unfold State.processReq
  (try dsimp only)
  repeat' with_reducible first
    | assumption | intro _ | apply updReq | apply emitPlain | apply when | apply each | apply foldl | apply dite | dsimp only | split

theorem serve (hkeys : kp .keys = false) (hk : z.Keeps kp s) (bytes : Nat) : z.Keeps kp (s.serve bytes) := by
  unfold State.serve
  (try dsimp only)
  repeat' with_reducible first
    | assumption | intro _ | apply takeReq | apply processReq | apply when | apply each | apply foldl | apply dite | dsimp only | split

theorem relayOut (hkeys : kp .keys = false) (hk : z.Keeps kp s) (r : BReq) (stream : List Byte) : z.Keeps kp (s.relayOut r stream) := by
  unfold State.relayOut
  repeat' with_reducible first
    | assumption | intro _ | apply setRelays | apply endReq

theorem gcmVerdict (hkeys : kp .keys = false) (hk : z.Keeps kp s) : z.Keeps kp (s.gcmVerdict) := by
  unfold State.gcmVerdict
  (try dsimp only)
  repeat' with_reducible first
    | assumption | intro _ | apply bumpWrap | apply take | apply ivSet | apply endReq | apply emitPlain | apply emitVerdict
    | apply rejectReq | apply relayOut | apply when | apply each | apply foldl | apply dite | dsimp only | split

theorem xtsDone (hkeys : kp .keys = false) (hk : z.Keeps kp s) : z.Keeps kp (s.xtsDone) := by
  unfold State.xtsDone
  (try dsimp only)
  repeat' with_reducible first
    | assumption | intro _ | apply bumpWrap | apply emit | apply endReq | apply rejectReq | apply when | apply each | apply foldl
    | apply dite | dsimp only | split

theorem eraseOne (hkeys : kp .keys = false) (hk : z.Keeps kp s) (i source : Nat) : z.Keeps kp (s.eraseOne i source) := by
  unfold State.eraseOne
  (try dsimp only)
  repeat' with_reducible first
    | assumption | intro _ | apply putSlot | apply slotWritten | apply when | apply each | apply foldl | apply dite

theorem erase (hkeys : kp .keys = false) (hk : z.Keeps kp s) (l : List Nat) (source : Nat) (injected : Bool) :
    z.Keeps kp (s.erase l source injected) := by
  unfold State.erase
  (try dsimp only)
  repeat' with_reducible first
    | assumption | intro _ | apply dropPlain | apply rejectReq | apply eraseOne | apply when | apply each

theorem unwrapFault (hk : z.Keeps kp s) (injected : Bool) : z.Keeps kp (s.unwrapFault injected) := by
  unfold State.unwrapFault
  (try dsimp only)
  repeat' with_reducible first
    | assumption | intro _ | apply up | apply error | apply startTest | apply engineShow

theorem bondCmd (hkeys : kp .keys = false) (hk : z.Keeps kp s) (src w : Nat) : z.Keeps kp (s.bondCmd src w) := by
  unfold State.bondCmd
  (try dsimp only)
  repeat' with_reducible first
    | assumption | intro _ | apply setKeyWrap | apply setKekBurn | apply up | apply write | apply loadSlot | apply erase
    | apply unwrapFault | apply when | apply each | apply foldl | apply dite | dsimp only | split

theorem kekBurned (hkek : kp .kek = false) (hk : z.Keeps kp s) : z.Keeps kp (s.kekBurned) := by
  unfold State.kekBurned
  repeat' with_reducible first
    | assumption | intro _ | apply setKekData | apply setKek | apply setKekBurn | apply put | apply up | apply when | apply each
    | apply foldl | apply dite | dsimp only | split

theorem alarmErase (hkeys : kp .keys = false) (hk : z.Keeps kp s) (detail : Nat) (injected : Bool) :
    z.Keeps kp (s.alarmErase detail injected) := by
  unfold State.alarmErase
  (try dsimp only)
  repeat' with_reducible first
    | assumption | intro _ | apply setKeyWrap | apply put | apply up | apply error | apply erase

theorem bondResidue (hk : z.Keeps kp s) (injected : Bool) : z.Keeps kp (s.bondResidue injected) := by
  unfold State.bondResidue
  (try dsimp only)
  repeat' with_reducible first
    | assumption | intro _ | apply setBondNow | apply error | apply startTest | apply updReq | apply engineShow | apply dropPlain
    | apply when | apply each | apply foldl | apply dite | dsimp only | split

theorem ivExpire (hk : z.Keeps kp s) (slot gen : Nat) (iv : List Byte) : z.Keeps kp (s.ivExpire slot gen iv) := by
  unfold State.ivExpire
  repeat' with_reducible first
    | assumption | intro _ | apply putIv

theorem reqArrive (hk : z.Keeps kp s) (src srcSeq mode ts : Nat) (data : List Byte) :
    z.Keeps kp (s.reqArrive src srcSeq mode ts data) := by
  unfold State.reqArrive
  (try dsimp only)
  repeat' with_reducible first
    | assumption | intro _ | apply up | apply bump | apply putProd | apply enterReq | apply take | apply acceptReq | apply craneFault
    | apply emitDatagram | apply when | apply each | apply foldl | apply dite

theorem putQuay (hk : z.Keeps kp s) (q : Nat) (v : Quay) : z.Keeps kp (s.putQuay q v) := by
  unfold State.putQuay
  repeat' with_reducible first
    | assumption | intro _ | apply put | apply when | apply each | apply foldl | apply dite | dsimp only | split
    | (fail_if_no_progress apply lit)

theorem quayBoundary (hk : z.Keeps kp s) (q : Nat) : z.Keeps kp (s.quayBoundary q) := by
  unfold State.quayBoundary
  (try dsimp only)
  repeat' with_reducible first
    | assumption | intro _ | apply up | apply showHeld | apply applyArmed | apply when | apply each | apply foldl | apply dite

theorem quayRunShow (hk : z.Keeps kp s) (q : Nat) : z.Keeps kp (s.quayRunShow q) := by
  unfold State.quayRunShow
  (try dsimp only)
  repeat' with_reducible first
    | assumption | intro _ | apply down | apply putQuay | apply when

theorem quayStart (hk : z.Keeps kp s) (q : Nat) : z.Keeps kp (s.quayStart q) := by
  unfold State.quayStart
  (try dsimp only)
  repeat' with_reducible first
    | assumption | intro _ | apply up | apply showHeld | apply putQuay | apply quayBoundary | apply when | apply each | apply foldl
    | apply dite | dsimp only | split

theorem countOne (hk : z.Keeps kp s) (i : Item) (content : Nat) : z.Keeps kp (s.countOne i content) := by
  unfold State.countOne
  (try dsimp only)
  repeat' with_reducible first
    | assumption | intro _ | apply when | apply each | apply foldl | apply dite | dsimp only | split | (fail_if_no_progress apply lit)

theorem countRelease (hk : z.Keeps kp s) (i : Item) : z.Keeps kp (s.countRelease i) := by
  unfold State.countRelease
  repeat' with_reducible first
    | assumption | intro _ | apply countOne

theorem afterRelease (hk : z.Keeps kp s) : z.Keeps kp (s.afterRelease) := by
  unfold State.afterRelease
  repeat' with_reducible first
    | assumption | intro _ | apply exportDrain | apply drainWaiting | apply bondSettle

theorem quayEnd (hk : z.Keeps kp s) (q : Nat) : z.Keeps kp (s.quayEnd q) := by
  unfold State.quayEnd
  (try dsimp only)
  repeat' with_reducible first
    | assumption | intro _ | apply bumpWrap | apply release | apply putQuay | apply quayBoundary | apply countRelease
    | apply afterRelease | apply when | apply each | apply foldl | apply dite | dsimp only | split

theorem sampleHold (hk : z.Keeps kp s) (q : Nat) : z.Keeps kp (s.sampleHold q) := by
  unfold State.sampleHold
  repeat' with_reducible first
    | assumption | intro _ | apply put | apply showHeld

theorem quayHold (hk : z.Keeps kp s) (q : Nat) (v : Bool) : z.Keeps kp (s.quayHold q v) := by
  unfold State.quayHold
  (try dsimp only)
  repeat' with_reducible first
    | assumption | intro _ | apply setHoldPins | apply sampleHold | apply when

theorem quayHoldLong (hk : z.Keeps kp s) (q : Nat) : z.Keeps kp (s.quayHoldLong q) := by
  unfold State.quayHoldLong
  repeat' with_reducible first
    | assumption | intro _ | apply up | apply attn | apply error | apply when | apply each | apply foldl | apply dite

theorem quayShares (hk : z.Keeps kp s) (second : Bool) : z.Keeps kp (s.quayShares second) := by
  unfold State.quayShares
  (try dsimp only)
  repeat' with_reducible first
    | assumption | intro _ | apply put | apply putQuay | apply when | apply each | apply foldl | apply dite

theorem landShow (hk : z.Keeps kp s) : z.Keeps kp (s.landShow) := by
  unfold State.landShow
  (try dsimp only)
  repeat' with_reducible first
    | assumption | intro _ | apply put | apply ringShow

theorem landAligned (hk : z.Keeps kp s) : z.Keeps kp (s.landAligned) := by
  unfold State.landAligned
  repeat' with_reducible first
    | assumption | intro _ | apply up | apply when

theorem landAlignLost (hk : z.Keeps kp s) : z.Keeps kp (s.landAlignLost) := by
  unfold State.landAlignLost
  repeat' with_reducible first
    | assumption | intro _ | apply up | apply down | apply when

theorem landBoundary (hk : z.Keeps kp s) : z.Keeps kp (s.landBoundary) := by
  unfold State.landBoundary
  (try dsimp only)
  repeat' with_reducible first
    | assumption | intro _ | apply up | apply applyArmed | apply landShow | apply when | apply each | apply foldl | apply dite

theorem landRunShow (hk : z.Keeps kp s) : z.Keeps kp (s.landRunShow) := by
  unfold State.landRunShow
  repeat' with_reducible first
    | assumption | intro _ | apply setLandRx | apply down | apply landShow | apply when

theorem putChan (hk : z.Keeps kp s) (c : Nat) (v : LandChan) : z.Keeps kp (s.putChan c v) := by
  unfold State.putChan
  repeat' with_reducible first
    | assumption | intro _ | apply when | apply each | apply foldl | apply dite | dsimp only | split | (fail_if_no_progress apply lit)

theorem landPop (hk : z.Keeps kp s) : z.Keeps kp (s.landPop) := by
  unfold State.landPop
  repeat' with_reducible first
    | assumption | intro _ | apply setLandFifo | apply when | apply each | apply foldl | apply dite | dsimp only | split

theorem landJudge (hk : z.Keeps kp s) (codeError eofOk : Bool) : z.Keeps kp (s.landJudge codeError eofOk) := by
  unfold State.landJudge
  (try dsimp only)
  repeat' with_reducible first
    | assumption | intro _ | apply setLandRx | apply setLandFifo | apply up | apply bump | apply bumpWrap | apply numbered | apply take
    | apply landShow | apply landBoundary | apply putChan | apply when | apply each | apply foldl | apply dite

theorem landSof (hk : z.Keeps kp s) : z.Keeps kp (s.landSof) := by
  unfold State.landSof
  (try dsimp only)
  repeat' with_reducible first
    | assumption | intro _ | apply setLandRx | apply landBoundary | apply landJudge | apply when | apply each | apply foldl | apply dite

theorem landBytes (hk : z.Keeps kp s) (l : List Byte) (popped : Nat) : z.Keeps kp (s.landBytes l popped) := by
  unfold State.landBytes
  (try dsimp only)
  repeat' with_reducible first
    | assumption | intro _ | apply setLandRx | apply up | apply ringFill | apply error | apply landShow | apply when | apply each
    | apply foldl | apply dite

theorem landColumn (hk : z.Keeps kp s) (g0 g1 : BitVec 10) (pops : Nat) : z.Keeps kp (s.landColumn g0 g1 pops) := by
  unfold State.landColumn
  (try dsimp only)
  repeat' with_reducible first
    | assumption | intro _ | apply setLandRx | apply up | apply landShow | apply landPop | apply landSof | apply landBytes | apply when
    | apply each | apply foldl | apply dite | dsimp only | split

theorem landBreak (hk : z.Keeps kp s) (content id : Nat) : z.Keeps kp (s.landBreak content id) := by
  unfold State.landBreak
  (try dsimp only)
  repeat' with_reducible first
    | assumption | intro _ | apply up | apply updReq | apply when | apply each | apply foldl | apply dite

theorem itemWhole (hk : z.Keeps kp s) (id : Nat) : z.Keeps kp (s.itemWhole id) := by
  unfold State.itemWhole
  (try dsimp only)
  repeat' with_reducible first
    | assumption | intro _ | apply releaseNo | apply putReqs | apply updReq | apply enterReq | apply when | apply each | apply foldl
    | apply dite | dsimp only | split

theorem landPass (hk : z.Keeps kp s) (number : Nat) (f : List Byte) : z.Keeps kp (s.landPass number f) := by
  unfold State.landPass
  (try dsimp only)
  repeat' with_reducible first
    | assumption | intro _ | apply updReq | apply take | apply acceptReq | apply txAccept | apply txUpdate | apply putChan
    | apply landBreak | apply itemWhole | apply when | apply each | apply foldl | apply dite | dsimp only | split

theorem landHandoff (hk : z.Keeps kp s) : z.Keeps kp (s.landHandoff) := by
  unfold State.landHandoff
  (try dsimp only)
  repeat' with_reducible first
    | assumption | intro _ | apply setLandFifo | apply releaseNo | apply landShow | apply landPass | apply when | apply each
    | apply foldl | apply dite | dsimp only | split

theorem supDo (hk : z.Keeps kp s) (addrs : List Nat) (g : State → State) (hg : z.Keeps kp (g s)) : z.Keeps kp (s.supDo addrs g) := by
  unfold State.supDo
  exact Keeps.each hg (fun a t ht => ht.journal ..)

theorem supArm (hk : z.Keeps kp s) (c a : Nat) (f : Fld) (v : Nat) : z.Keeps kp (s.supArm c a f v) := by
  unfold State.supArm
  (try dsimp only)
  repeat' with_reducible first
    | assumption | intro _ | apply journal | apply shade

theorem loadStandard (hk : z.Keeps kp s) (n : Nat) : z.Keeps kp (s.loadStandard n) := by
  unfold State.loadStandard
  (try dsimp only)
  repeat' with_reducible first
    | assumption | intro _ | apply put | apply resetRegs | apply when | apply each | apply foldl | apply dite | dsimp only | split

theorem putFoll (hk : z.Keeps kp s) (h : Nat) (v : Follow) : z.Keeps kp (s.putFoll h v) := by
  unfold State.putFoll
  repeat' with_reducible first
    | assumption | intro _ | apply when | apply each | apply foldl | apply dite | dsimp only | split | (fail_if_no_progress apply lit)

theorem fadeUpdate (hk : z.Keeps kp s) (h : Nat) (g : Fade → Fade) : z.Keeps kp (s.fadeUpdate h g) := by
  unfold State.fadeUpdate
  (try dsimp only)
  repeat' with_reducible first
    | assumption | intro _ | apply putFoll

theorem setXf (hk : z.Keeps kp s) (h st : Nat) : z.Keeps kp (s.setXf h st) := by
  unfold State.setXf
  repeat' with_reducible first
    | assumption | intro _ | apply put

theorem partnerStop (hk : z.Keeps kp s) (p : Nat) : z.Keeps kp (s.partnerStop p) := by
  unfold State.partnerStop
  (try dsimp only)
  repeat' with_reducible first
    | assumption | intro _ | apply put | apply supArm | apply when

theorem fadeEnd (hk : z.Keeps kp s) (h result : Nat) : z.Keeps kp (s.fadeEnd h result) := by
  unfold State.fadeEnd
  (try dsimp only)
  repeat' with_reducible first
    | assumption | intro _ | apply put | apply up | apply putFoll | apply setXf | apply partnerStop | apply when | apply each
    | apply foldl | apply dite | dsimp only | split

theorem fadeAbort (hk : z.Keeps kp s) (n result : Nat) : z.Keeps kp (s.fadeAbort n result) := by
  unfold State.fadeAbort
  (try dsimp only)
  repeat' with_reducible first
    | assumption | intro _ | apply fadeUpdate | apply partnerStop | apply fadeEnd | apply when | apply each | apply foldl | apply dite
    | dsimp only | split

theorem fadeStop (hk : z.Keeps kp s) (n : Nat) : z.Keeps kp (s.fadeStop n) := by
  unfold State.fadeStop
  repeat' with_reducible first
    | assumption | intro _ | apply fadeEnd | apply fadeAbort | apply when | apply each | apply foldl | apply dite

theorem fadeChange (hk : z.Keeps kp s) (n : Nat) : z.Keeps kp (s.fadeChange n) := by
  unfold State.fadeChange
  (try dsimp only)
  repeat' with_reducible first
    | assumption | intro _ | apply fadeEnd | apply when | apply each | apply foldl | apply dite | dsimp only | split

theorem putRds (hk : z.Keeps kp s) (n : Nat) (v : Rds) : z.Keeps kp (s.putRds n v) := by
  unfold State.putRds
  repeat' with_reducible first
    | assumption | intro _ | apply when | apply each | apply foldl | apply dite | dsimp only | split | (fail_if_no_progress apply lit)

theorem putDab (hk : z.Keeps kp s) (n : Nat) (v : Dab) : z.Keeps kp (s.putDab n v) := by
  unfold State.putDab
  repeat' with_reducible first
    | assumption | intro _ | apply when | apply each | apply foldl | apply dite | dsimp only | split | (fail_if_no_progress apply lit)

theorem putDrm (hk : z.Keeps kp s) (n : Nat) (v : Drm) : z.Keeps kp (s.putDrm n v) := by
  unfold State.putDrm
  repeat' with_reducible first
    | assumption | intro _ | apply when | apply each | apply foldl | apply dite | dsimp only | split | (fail_if_no_progress apply lit)

theorem soundStart (hk : z.Keeps kp s) : z.Keeps kp (s.soundStart) := by
  unfold State.soundStart
  (try dsimp only)
  repeat' with_reducible first
    | assumption | intro _ | apply setSounding | apply setSoundingAt | apply setSoundDet | apply putLane | apply putChain
    | apply copyBank | apply when | apply each | apply foldl | apply dite | dsimp only | split

theorem soundDone (hk : z.Keeps kp s) (l : Nat) : z.Keeps kp (s.soundDone l) := by
  unfold State.soundDone
  (try dsimp only)
  repeat' with_reducible first
    | assumption | intro _ | apply setSounding | apply setSoundDet | apply putLane | apply putFoll | apply when | apply each
    | apply foldl | apply dite | dsimp only | split

theorem copyFields (hk : z.Keeps kp s) (l : List (Nat → Fld)) (h p : Nat) : z.Keeps kp (s.copyFields l h p) := by
  unfold State.copyFields
  repeat' with_reducible first
    | assumption | intro _ | apply put | apply when | apply each

theorem partnerRun (hk : z.Keeps kp s) (p : Nat) (reserved : Bool) : z.Keeps kp (s.partnerRun p reserved) := by
  unfold State.partnerRun
  (try dsimp only)
  repeat' with_reducible first
    | assumption | intro _ | apply setAud | apply setPcm | apply put | apply up | apply down | apply showLoad | apply admitLoads
    | apply markHere | apply supDo | apply when | apply each | apply foldl | apply dite

theorem decoderReset (hk : z.Keeps kp s) (n : Nat) : z.Keeps kp (s.decoderReset n) := by
  unfold State.decoderReset
  (try dsimp only)
  repeat' with_reducible first
    | assumption | intro _ | apply when | apply each | apply foldl | apply dite | dsimp only | split | (fail_if_no_progress apply lit)

theorem fadeStart (hk : z.Keeps kp s) (h cand : Nat) (cmd waived : Bool) : z.Keeps kp (s.fadeStart h cand cmd waived) := by
  unfold State.fadeStart
  (try dsimp only)
  repeat' with_reducible first
    | assumption | intro _ | apply put | apply copyBank | apply supDo | apply loadStandard | apply putFoll | apply setXf | apply fadeEnd
    | apply copyFields | apply partnerRun | apply decoderReset | apply when | apply each | apply foldl | apply dite

theorem fadeBlock (hk : z.Keeps kp s) (h : Nat) : z.Keeps kp (s.fadeBlock h) := by
  unfold State.fadeBlock
  repeat' with_reducible first
    | assumption | intro _ | apply fadeStart | apply when | apply each | apply foldl | apply dite | dsimp only | split

theorem fadeAbortCmd (hk : z.Keeps kp s) (h : Nat) : z.Keeps kp (s.fadeAbortCmd h) := by
  unfold State.fadeAbortCmd
  repeat' with_reducible first
    | assumption | intro _ | apply fadeUpdate | apply fadeEnd | apply when | apply each | apply foldl | apply dite | dsimp only | split

theorem fadeCommand (hk : z.Keeps kp s) (src h w : Nat) : z.Keeps kp (s.fadeCommand src h w) := by
  unfold State.fadeCommand
  (try dsimp only)
  repeat' with_reducible first
    | assumption | intro _ | apply write | apply putFoll | apply fadeStart | apply fadeAbortCmd | apply when | apply each | apply foldl
    | apply dite | dsimp only | split | (fail_if_no_progress apply lit) | (exact List.length_take_le ..)
    | (exact (List.length_append ..).trans_le (Nat.succ_le_of_lt (by assumption)))
    | (exact State.formed_filter (State.formed_of_clear (by assumption))) | (exact State.formed_filter (by assumption))
    | (exact Tbl.wf_foldl _ _ _ (fun e => e.2) _ (State.Formed.regs (by assumption)))
    | (have e := congrArg Prod.fst ‹_ = ((_ : State), _)›; dsimp only at e; subst e)

theorem followStart (hk : z.Keeps kp s) (h : Nat) (level : Int) : z.Keeps kp (s.followStart h level) := by
  unfold State.followStart
  (try dsimp only)
  repeat' with_reducible first
    | assumption | intro _ | apply fadeStart | apply when | apply each | apply foldl | apply dite | dsimp only | split

theorem toAlign (hk : z.Keeps kp s) (h : Nat) : z.Keeps kp (s.toAlign h) := by
  unfold State.toAlign
  repeat' with_reducible first
    | assumption | intro _ | apply fadeUpdate | apply setXf

theorem fadeSettled (hk : z.Keeps kp s) (h : Nat) : z.Keeps kp (s.fadeSettled h) := by
  unfold State.fadeSettled
  (try dsimp only)
  repeat' with_reducible first
    | assumption | intro _ | apply setXf | apply toAlign | apply when | apply each | apply foldl | apply dite | dsimp only | split

theorem fadeVerified (hk : z.Keeps kp s) (h : Nat) : z.Keeps kp (s.fadeVerified h) := by
  unfold State.fadeVerified
  (try dsimp only)
  repeat' with_reducible first
    | assumption | intro _ | apply fadeUpdate | apply setXf | apply toAlign | apply when | apply each | apply foldl | apply dite
    | dsimp only | split

theorem fadeTimeout (hk : z.Keeps kp s) (h : Nat) : z.Keeps kp (s.fadeTimeout h) := by
  unfold State.fadeTimeout
  repeat' with_reducible first
    | assumption | intro _ | apply fadeEnd | apply when

theorem fadeWindow (hk : z.Keeps kp s) (h : Nat) (home partner : Int) : z.Keeps kp (s.fadeWindow h home partner) := by
  unfold State.fadeWindow
  (try dsimp only)
  repeat' with_reducible first
    | assumption | intro _ | apply fadeUpdate | apply fadeEnd | apply toAlign | apply when | apply each | apply foldl | apply dite

theorem swapFields (hk : z.Keeps kp s) (l : List (Nat → Fld)) (h p : Nat) : z.Keeps kp (s.swapFields l h p) := by
  unfold State.swapFields
  repeat' with_reducible first
    | assumption | intro _ | apply put | apply when | apply each

theorem swapLanes (hk : z.Keeps kp s) (h p : Nat) : z.Keeps kp (s.swapLanes h p) := by
  unfold State.swapLanes
  (try dsimp only)
  repeat' with_reducible first
    | assumption | intro _ | apply setDets | apply setDetFull | apply setGChain | apply putInput | apply putLane | apply supDo
    | apply swapFields | apply when | apply each | apply foldl | apply dite | dsimp only | split | (fail_if_no_progress apply lit)

theorem putAud (hk : z.Keeps kp s) (n : Nat) (a : Aud) : z.Keeps kp (s.putAud n a) := by
  unfold State.putAud
  repeat' with_reducible first
    | assumption | intro _ | apply setAud

theorem putAudio (hk : z.Keeps kp s) (n : Nat) (l : List Pcm) : z.Keeps kp (s.putAudio n l) := by
  unfold State.putAudio
  repeat' with_reducible first
    | assumption | intro _ | apply setPcm

theorem amDepth (hk : z.Keeps kp s) (n : Nat) : z.Keeps kp (s.amDepth n) := by
  unfold State.amDepth
  (try dsimp only)
  repeat' with_reducible first
    | assumption | intro _ | apply put | apply inWindow | apply putAud | apply when | apply each | apply foldl | apply dite

theorem stereo (hk : z.Keeps kp s) (n : Nat) (above : Bool) : z.Keeps kp (s.stereo n above) := by
  unfold State.stereo
  (try dsimp only)
  repeat' with_reducible first
    | assumption | intro _ | apply put | apply when

theorem alarmAborts (hk : z.Keeps kp s) (h : Nat) : z.Keeps kp (s.alarmAborts h) := by
  unfold State.alarmAborts
  (try dsimp only)
  repeat' with_reducible first
    | assumption | intro _ | apply fadeEnd | apply when | apply each | apply foldl | apply dite | dsimp only | split

theorem fmAlarmStart (hk : z.Keeps kp s) (h : Nat) : z.Keeps kp (s.fmAlarmStart h) := by
  unfold State.fmAlarmStart
  (try dsimp only)
  repeat' with_reducible first
    | assumption | intro _ | apply up | apply urgentStart | apply putRds | apply alarmAborts | apply when | apply each | apply foldl
    | apply dite

theorem fmAlarmEnd (hk : z.Keeps kp s) (h : Nat) : z.Keeps kp (s.fmAlarmEnd h) := by
  unfold State.fmAlarmEnd
  repeat' with_reducible first
    | assumption | intro _ | apply down | apply urgentEnd | apply when

theorem testState (hk : z.Keeps kp s) (n : Nat) (on : Bool) : z.Keeps kp (s.testState n on) := by
  unfold State.testState
  (try dsimp only)
  repeat' with_reducible first
    | assumption | intro _ | apply up | apply error | apply putRds | apply when | apply each | apply foldl | apply dite

theorem piJudge (hk : z.Keeps kp s) (n : Nat) : z.Keeps kp (s.piJudge n) := by
  unfold State.piJudge
  (try dsimp only)
  repeat' with_reducible first
    | assumption | intro _ | apply put

theorem piSeen (hk : z.Keeps kp s) (n pi : Nat) (clean : Bool) : z.Keeps kp (s.piSeen n pi clean) := by
  unfold State.piSeen
  (try dsimp only)
  repeat' with_reducible first
    | assumption | intro _ | apply up | apply take | apply putRds | apply piJudge | apply gap | apply when | apply each | apply foldl
    | apply dite | dsimp only | split

theorem piVerify (hk : z.Keeps kp s) (h pi : Nat) (clean : Bool) : z.Keeps kp (s.piVerify h pi clean) := by
  unfold State.piVerify
  (try dsimp only)
  repeat' with_reducible first
    | assumption | intro _ | apply fadeUpdate | apply fadeEnd | apply fadeVerified | apply when | apply each | apply foldl | apply dite
    | dsimp only | split

theorem piBlock (hk : z.Keeps kp s) (n pi : Nat) (clean : Bool) : z.Keeps kp (s.piBlock n pi clean) := by
  unfold State.piBlock
  (try dsimp only)
  repeat' with_reducible first
    | assumption | intro _ | apply piSeen | apply piVerify | apply shown | apply when | apply each | apply foldl | apply dite
    | dsimp only | split

theorem ptySeen (hk : z.Keeps kp s) (n pi pty : Nat) (clean : Bool) : z.Keeps kp (s.ptySeen n pi pty clean).1 := by
  unfold State.ptySeen
  (try dsimp only)
  repeat' with_reducible first
    | assumption | intro _ | apply putRds | apply fmAlarmStart | apply testState | apply when | apply each | apply foldl | apply dite
    | dsimp only | split

theorem rdsGroup (hk : z.Keeps kp s) (n : Nat) : z.Keeps kp (s.rdsGroup n) := by
  unfold State.rdsGroup
  (try dsimp only)
  repeat' with_reducible first
    | assumption | intro _ | apply inWindow | apply emit | apply putRds | apply fmAlarmEnd | apply testState | apply when | apply each
    | apply foldl | apply dite

theorem rdsSync (hk : z.Keeps kp s) (n : Nat) (v : Bool) : z.Keeps kp (s.rdsSync n v) := by
  unfold State.rdsSync
  (try dsimp only)
  repeat' with_reducible first
    | assumption | intro _ | apply put | apply putFoll | apply when

theorem rdsInGroup (hk : z.Keeps kp s) (n pos : Nat) (got : Option (Nat × Nat)) (prime : Bool) (ts : Nat) :
    z.Keeps kp (s.rdsInGroup n pos got prime ts) := by
  unfold State.rdsInGroup
  (try dsimp only)
  repeat' with_reducible first
    | assumption | intro _ | apply putRds | apply piBlock | apply ptySeen | apply rdsGroup | apply shown | apply when | apply each
    | apply foldl | apply dite

theorem rdsBlock (hk : z.Keeps kp s) (n w ts : Nat) : z.Keeps kp (s.rdsBlock n w ts) := by
  unfold State.rdsBlock
  (try dsimp only)
  repeat' with_reducible first
    | assumption | intro _ | apply take | apply inWindow | apply putRds | apply rdsSync | apply rdsInGroup | apply when | apply each
    | apply foldl | apply dite | dsimp only | split

theorem audioRaw (hk : z.Keeps kp s) (n : Nat) : z.Keeps kp (s.audioRaw n) := by
  unfold State.audioRaw
  (try dsimp only)
  repeat' with_reducible first
    | assumption | intro _ | apply put | apply inWindow | apply putAud | apply putAudio | apply when | apply each | apply foldl
    | apply dite | dsimp only | split

theorem rampMix (hk : z.Keeps kp s) (h len : Nat) : z.Keeps kp (s.rampMix h len) := by
  unfold State.rampMix
  (try dsimp only)
  repeat' with_reducible first
    | assumption | intro _ | apply fadeUpdate | apply fadeEnd | apply putAudio | apply audioRaw | apply back | apply when | apply each
    | apply foldl | apply dite | dsimp only | split

theorem fadeAligned (hk : z.Keeps kp s) (h : Nat) : z.Keeps kp (s.fadeAligned h) := by
  unfold State.fadeAligned
  (try dsimp only)
  repeat' with_reducible first
    | assumption | intro _ | apply put | apply up | apply showDelay | apply supDo | apply setXf | apply fadeEnd | apply when
    | apply each | apply foldl | apply dite | dsimp only | split

theorem fadeRamped (hk : z.Keeps kp s) (h : Nat) : z.Keeps kp (s.fadeRamped h) := by
  unfold State.fadeRamped
  repeat' with_reducible first
    | assumption | intro _ | apply setXf | apply fadeEnd | apply back | apply when | apply each | apply foldl | apply dite | dsimp only
    | split

theorem audioSwap (hk : z.Keeps kp s) (h p : Nat) : z.Keeps kp (s.audioSwap h p) := by
  unfold State.audioSwap
  (try dsimp only)
  repeat' with_reducible first
    | assumption | intro _ | apply putAudio

theorem fadeSwapped (hk : z.Keeps kp s) (h : Nat) : z.Keeps kp (s.fadeSwapped h) := by
  unfold State.fadeSwapped
  (try dsimp only)
  repeat' with_reducible first
    | assumption | intro _ | apply up | apply markSwap | apply putFoll | apply fadeEnd | apply putRds | apply swapFields
    | apply swapLanes | apply putAud | apply audioSwap | apply when | apply each | apply foldl | apply dite

theorem blockDone (hk : z.Keeps kp s) (n : Nat) : z.Keeps kp (s.blockDone n) := by
  unfold State.blockDone
  (try dsimp only)
  repeat' with_reducible first
    | assumption | intro _ | apply fadeBlock | apply audioRaw | apply rampMix | apply when

theorem beatDone (hk : z.Keeps kp s) (c : Nat) (complete : Bool) : z.Keeps kp (s.beatDone c complete) := by
  unfold State.beatDone
  repeat' with_reducible first
    | assumption | intro _ | apply blockDone | apply when

theorem ofdmSeen (hk : z.Keeps kp s) (n ts : Nat) (plps : List Nat) (o : Ofdm) : z.Keeps kp (s.ofdmSeen n ts plps o) := by
  unfold State.ofdmSeen
  (try dsimp only)
  repeat' with_reducible first
    | assumption | intro _ | apply inWindow | apply arrive | apply when | apply each | apply foldl | apply dite | dsimp only | split

theorem unitCount (hk : z.Keeps kp s) (h : Nat) (u : UnitOut) : z.Keeps kp (s.unitCount h u) := by
  unfold State.unitCount
  repeat' with_reducible first
    | assumption | intro _ | apply tally | apply when | apply each | apply foldl | apply dite | dsimp only | split

theorem unitEmit (hk : z.Keeps kp s) (h : Nat) (u : UnitOut) : z.Keeps kp (s.unitEmit h u) := by
  unfold State.unitEmit
  repeat' with_reducible first
    | assumption | intro _ | apply emit | apply unitCount

theorem swapDone (hk : z.Keeps kp s) (h : Nat) (cut : Bool) : z.Keeps kp (s.swapDone h cut) := by
  unfold State.swapDone
  (try dsimp only)
  repeat' with_reducible first
    | assumption | intro _ | apply put | apply up | apply putFoll | apply setXf

theorem unitOut (hk : z.Keeps kp s) (n : Nat) (u : UnitOut) : z.Keeps kp (s.unitOut n u) := by
  unfold State.unitOut
  repeat' with_reducible first
    | assumption | intro _ | apply emit | apply fadeUpdate | apply unitCount | apply unitEmit | apply swapDone | apply when | apply each
    | apply foldl | apply dite | dsimp only | split

theorem unitVoid (hk : z.Keeps kp s) (n : Nat) (u : UnitOut) : z.Keeps kp (s.unitVoid n u) := by
  unfold State.unitVoid
  repeat' with_reducible first
    | assumption | intro _ | apply tally | apply when | apply each | apply foldl | apply dite | dsimp only | split

theorem partnerDrained (hk : z.Keeps kp s) (h : Nat) : z.Keeps kp (s.partnerDrained h) := by
  unfold State.partnerDrained
  (try dsimp only)
  repeat' with_reducible first
    | assumption | intro _ | apply emit | apply fadeUpdate | apply partnerStop | apply swapDone | apply when | apply each | apply foldl
    | apply dite | dsimp only | split

theorem dabAlarmStart (hk : z.Keeps kp s) (h : Nat) : z.Keeps kp (s.dabAlarmStart h) := by
  unfold State.dabAlarmStart
  (try dsimp only)
  repeat' with_reducible first
    | assumption | intro _ | apply up | apply urgentStart | apply putDab | apply alarmAborts | apply when | apply each | apply foldl
    | apply dite

theorem dabAlarmEnd (hk : z.Keeps kp s) (h : Nat) : z.Keeps kp (s.dabAlarmEnd h) := by
  unfold State.dabAlarmEnd
  repeat' with_reducible first
    | assumption | intro _ | apply down | apply urgentEnd | apply when

theorem announced (hk : z.Keeps kp s) (n : Nat) (alarm : Bool) : z.Keeps kp (s.announced n alarm) := by
  unfold State.announced
  (try dsimp only)
  repeat' with_reducible first
    | assumption | intro _ | apply putDab | apply dabAlarmStart | apply dabAlarmEnd | apply when | apply each | apply foldl | apply dite
    | dsimp only | split

theorem eidJudge (hk : z.Keeps kp s) (n : Nat) : z.Keeps kp (s.eidJudge n) := by
  unfold State.eidJudge
  repeat' with_reducible first
    | assumption | intro _ | apply put

theorem eidFrame (hk : z.Keeps kp s) (n : Nat) : z.Keeps kp (s.eidFrame n) := by
  unfold State.eidFrame
  (try dsimp only)
  repeat' with_reducible first
    | assumption | intro _ | apply up | apply putDab | apply eidJudge | apply when | apply each | apply foldl | apply dite | dsimp only
    | split

theorem fig (hk : z.Keeps kp s) (n ts : Nat) (g : Fig) : z.Keeps kp (s.fig n ts g) := by
  unfold State.fig
  (try dsimp only)
  repeat' with_reducible first
    | assumption | intro _ | apply put | apply up | apply take | apply inWindow | apply putDab | apply announced | apply eidJudge
    | apply announce | apply when | apply each | apply foldl | apply dite | dsimp only | split

theorem dabVoid (hk : z.Keeps kp s) (n : Nat) : z.Keeps kp (s.dabVoid n) := by
  unfold State.dabVoid
  (try dsimp only)
  repeat' with_reducible first
    | assumption | intro _ | apply putDab | apply unitVoid | apply when | apply each

theorem dabLost (hk : z.Keeps kp s) (n : Nat) : z.Keeps kp (s.dabLost n) := by
  unfold State.dabLost
  (try dsimp only)
  repeat' with_reducible first
    | assumption | intro _ | apply put | apply up | apply putFoll | apply fadeEnd | apply putDab | apply dabVoid | apply when
    | apply each | apply foldl | apply dite | dsimp only | split

theorem dabVerify (hk : z.Keeps kp s) (n : Nat) (eid : Option Nat) (sids : List Nat) : z.Keeps kp (s.dabVerify n eid sids) := by
  unfold State.dabVerify
  (try dsimp only)
  repeat' with_reducible first
    | assumption | intro _ | apply fadeUpdate | apply fadeEnd | apply fadeVerified | apply when | apply each | apply foldl | apply dite
    | dsimp only | split

theorem dabMissed (hk : z.Keeps kp s) (n mode : Nat) : z.Keeps kp (s.dabMissed n mode) := by
  unfold State.dabMissed
  (try dsimp only)
  repeat' with_reducible first
    | assumption | intro _ | apply putDab | apply dabLost | apply dabVerify | apply when | apply each | apply foldl | apply dite

theorem dabFic (hmode : kp .mode = false) (hk : z.Keeps kp s) (n : Nat) (f : DabFrame) : z.Keeps kp (s.dabFic n f) := by
  unfold State.dabFic
  (try dsimp only)
  repeat' with_reducible first
    | assumption | intro _ | apply put | apply putDab | apply unitOut | apply eidFrame | apply fig | apply dabVerify | apply when
    | apply each | apply foldl | apply dite

theorem dabFrame (hmode : kp .mode = false) (hk : z.Keeps kp s) (n : Nat) (f : DabFrame) : z.Keeps kp (s.dabFrame n f) := by
  unfold State.dabFrame
  (try dsimp only)
  repeat' with_reducible first
    | assumption | intro _ | apply put | apply putDab | apply ofdmSeen | apply dabMissed | apply dabFic | apply when | apply each
    | apply foldl | apply dite

theorem dabReconfig (hk : z.Keeps kp s) (n cif : Nat) : z.Keeps kp (s.dabReconfig n cif) := by
  unfold State.dabReconfig
  (try dsimp only)
  repeat' with_reducible first
    | assumption | intro _ | apply up | apply down | apply putDab | apply when | apply each | apply foldl | apply dite | dsimp only
    | split

theorem dabTurn (hk : z.Keeps kp s) (n cif : Nat) : z.Keeps kp (s.dabTurn n cif) := by
  unfold State.dabTurn
  (try dsimp only)
  repeat' with_reducible first
    | assumption | intro _ | apply putDab | apply unitVoid | apply when | apply each | apply foldl | apply dite | dsimp only | split

theorem dabAlarmTimeout (hk : z.Keeps kp s) (n : Nat) : z.Keeps kp (s.dabAlarmTimeout n) := by
  unfold State.dabAlarmTimeout
  repeat' with_reducible first
    | assumption | intro _ | apply dabAlarmEnd | apply when

theorem superFrame (hk : z.Keeps kp s) (n cif ts config : Nat) (x : SubchData) : z.Keeps kp (s.superFrame n cif ts config x) := by
  unfold State.superFrame
  (try dsimp only)
  repeat' with_reducible first
    | assumption | intro _ | apply putDab | apply unitOut | apply unitVoid | apply when | apply each | apply foldl | apply dite

theorem dataGroup (hk : z.Keeps kp s) (n cif ts config : Nat) (g : Group) (p : Packet) :
    z.Keeps kp (s.dataGroup n cif ts config g p) := by
  unfold State.dataGroup
  (try dsimp only)
  repeat' with_reducible first
    | assumption | intro _ | apply up | apply take | apply emitDatagram | apply unitOut | apply unitVoid | apply when | apply each
    | apply foldl | apply dite | dsimp only | split

theorem dabPacket (hk : z.Keeps kp s) (n cif ts config : Nat) (x : SubchData) (p : Packet) :
    z.Keeps kp (s.dabPacket n cif ts config x p) := by
  unfold State.dabPacket
  (try dsimp only)
  repeat' with_reducible first
    | assumption | intro _ | apply putDab | apply unitVoid | apply dataGroup | apply when | apply each | apply foldl | apply dite
    | dsimp only | split

theorem cifOut (hk : z.Keeps kp s) (n cif ts : Nat) (subs : List SubchData) : z.Keeps kp (s.cifOut n cif ts subs) := by
  unfold State.cifOut
  (try dsimp only)
  repeat' with_reducible first
    | assumption | intro _ | apply unitOut | apply dabTurn | apply superFrame | apply dabPacket | apply when | apply each | apply foldl
    | apply dite | dsimp only | split

theorem drmFrame (hk : z.Keeps kp s) (n : Nat) (f : DrmFrame) : z.Keeps kp (s.drmFrame n f) := by
  unfold State.drmFrame
  (try dsimp only)
  repeat' with_reducible first
    | assumption | intro _ | apply put | apply up | apply take | apply fadeEnd | apply putDrm | apply ofdmSeen | apply unitOut
    | apply when | apply each | apply foldl | apply dite | dsimp only | split

theorem drmSuper (hk : z.Keeps kp s) (n : Nat) (f : DrmSuper) : z.Keeps kp (s.drmSuper n f) := by
  unfold State.drmSuper
  (try dsimp only)
  repeat' with_reducible first
    | assumption | intro _ | apply up | apply down | apply take | apply putDrm | apply fadeVerified | apply unitOut | apply when
    | apply each | apply foldl | apply dite | dsimp only | split

theorem sidJudge (hk : z.Keeps kp s) (n : Nat) : z.Keeps kp (s.sidJudge n) := by
  unfold State.sidJudge
  (try dsimp only)
  repeat' with_reducible first
    | assumption | intro _ | apply put | apply putDrm

theorem drmLost (hk : z.Keeps kp s) (n : Nat) : z.Keeps kp (s.drmLost n) := by
  unfold State.drmLost
  (try dsimp only)
  repeat' with_reducible first
    | assumption | intro _ | apply put | apply up | apply down | apply putFoll | apply fadeEnd | apply putDrm | apply when | apply each
    | apply foldl | apply dite | dsimp only | split

theorem drmReconfig (hk : z.Keeps kp s) (n : Nat) : z.Keeps kp (s.drmReconfig n) := by
  unfold State.drmReconfig
  (try dsimp only)
  repeat' with_reducible first
    | assumption | intro _ | apply up | apply down | apply putDrm | apply when

theorem digitalWindow (hk : z.Keeps kp s) (h : Nat) (home partner : Nat × Nat) : z.Keeps kp (s.digitalWindow h home partner) := by
  unfold State.digitalWindow
  repeat' with_reducible first
    | assumption | intro _ | apply fadeEnd | apply fadeWindow | apply when | apply each | apply foldl | apply dite

theorem dabAligned (hk : z.Keeps kp s) (h : Nat) (f : Fade) : z.Keeps kp (s.dabAligned h f) := by
  unfold State.dabAligned
  (try dsimp only)
  repeat' with_reducible first
    | assumption | intro _ | apply fadeUpdate | apply fadeEnd | apply when | apply each | apply foldl | apply dite

theorem drmAligned (hk : z.Keeps kp s) (h : Nat) : z.Keeps kp (s.drmAligned h) := by
  unfold State.drmAligned
  (try dsimp only)
  repeat' with_reducible first
    | assumption | intro _ | apply fadeUpdate | apply when | apply each | apply foldl | apply dite | dsimp only | split

theorem digitalAligned (hk : z.Keeps kp s) (h : Nat) : z.Keeps kp (s.digitalAligned h) := by
  unfold State.digitalAligned
  repeat' with_reducible first
    | assumption | intro _ | apply dabAligned | apply drmAligned | apply when | apply each | apply foldl | apply dite | dsimp only
    | split

theorem digitalSwap (hk : z.Keeps kp s) (h : Nat) : z.Keeps kp (s.digitalSwap h) := by
  unfold State.digitalSwap
  (try dsimp only)
  repeat' with_reducible first
    | assumption | intro _ | apply put | apply fadeUpdate | apply setXf | apply partnerStop | apply putDab | apply putDrm
    | apply decoderReset | apply swapFields | apply swapLanes | apply when | apply each | apply foldl | apply dite | dsimp only | split

theorem berthApply (hk : z.Keeps kp s) (n : Nat) : z.Keeps kp (s.berthApply n) := by
  unfold State.berthApply
  (try dsimp only)
  repeat' with_reducible first
    | assumption | intro _ | apply setShadow | apply up | apply applyArmed | apply when

theorem overDeclared (hk : z.Keeps kp s) (n : Nat) : z.Keeps kp (s.overDeclared n) := by
  unfold State.overDeclared
  repeat' with_reducible first
    | assumption | intro _ | apply up | apply error | apply when | apply each | apply foldl | apply dite

theorem judgePlps (hk : z.Keeps kp s) (n ts : Nat) (held mid : List (Option Nat)) : z.Keeps kp (s.judgePlps n ts held mid) := by
  unfold State.judgePlps
  (try dsimp only)
  repeat' with_reducible first
    | assumption | intro _ | apply put | apply error | apply putDvb | apply overDeclared | apply when | apply each | apply foldl
    | apply dite | dsimp only | split

theorem t2Boundary (hk : z.Keeps kp s) (n ts : Nat) (due : Bool) (l1 : Dvb → Dvb) : z.Keeps kp (s.t2Boundary n ts due l1) := by
  unfold State.t2Boundary
  (try dsimp only)
  repeat' with_reducible first
    | assumption | intro _ | apply putDvb | apply berthApply | apply judgePlps | apply when

theorem berthBoundary (hk : z.Keeps kp s) (n : Nat) : z.Keeps kp (s.berthBoundary n) := by
  unfold State.berthBoundary
  repeat' with_reducible first
    | assumption | intro _ | apply berthApply | apply t2Boundary | apply when | apply each | apply foldl | apply dite

theorem ewsEnd (hk : z.Keeps kp s) (n : Nat) : z.Keeps kp (s.ewsEnd n) := by
  unfold State.ewsEnd
  repeat' with_reducible first
    | assumption | intro _ | apply down | apply urgentEnd | apply when

theorem ewsSeen (hk : z.Keeps kp s) (n : Nat) (flag : Bool) : z.Keeps kp (s.ewsSeen n flag) := by
  unfold State.ewsSeen
  (try dsimp only)
  repeat' with_reducible first
    | assumption | intro _ | apply up | apply urgentStart | apply putDvb | apply ewsEnd | apply when | apply each | apply foldl
    | apply dite

theorem signalUnit (hk : z.Keeps kp s) (n kind frame : Nat) (data : List Bool) (urgent : Bool) (ts : Nat) :
    z.Keeps kp (s.signalUnit n kind frame data urgent ts) := by
  unfold State.signalUnit
  repeat' with_reducible first
    | assumption | intro _ | apply emit

theorem tsConsignments (hk : z.Keeps kp s) (n plp frame iter : Nat) (ts : Option Nat) (ps : List OutPacket) :
    z.Keeps kp (s.tsConsignments n plp frame iter ts ps) := by
  unfold State.tsConsignments
  (try dsimp only)
  repeat' with_reducible first
    | assumption | intro _ | apply take | apply tally | apply putDvb | apply emit | apply when | apply each | apply foldl

theorem gap (hk : z.Keeps kp s) (n plp : Nat) : z.Keeps kp (s.gap n plp) := by
  unfold State.gap
  (try dsimp only)
  repeat' with_reducible first
    | assumption | intro _ | apply putDvb

theorem dgMalformed (hk : z.Keeps kp s) (n : Nat) (p : Reasm → Bool) : z.Keeps kp (s.dgMalformed n p) := by
  unfold State.dgMalformed
  (try dsimp only)
  repeat' with_reducible first
    | assumption | intro _ | apply up | apply putDvb

theorem section_ (hk : z.Keeps kp s) (n ts : Nat) (x : List Byte) (cut : Bool) : z.Keeps kp (s.section_ n ts x cut) := by
  unfold State.section_
  (try dsimp only)
  repeat' with_reducible first
    | assumption | intro _ | apply up | apply take | apply putDvb | apply emitDatagram | apply dgMalformed | apply when | apply each
    | apply foldl | apply dite | dsimp only | split

theorem sections (hk : z.Keeps kp s) (n plp ts : Nat) (ps : List OutPacket) : z.Keeps kp (s.sections n plp ts ps) := by
  unfold State.sections
  (try dsimp only)
  repeat' with_reducible first
    | assumption | intro _ | apply putDvb | apply section_ | apply when | apply each | apply foldl | apply dite

theorem dgTimeout (hk : z.Keeps kp s) (n ref : Nat) : z.Keeps kp (s.dgTimeout n ref) := by
  unfold State.dgTimeout
  repeat' with_reducible first
    | assumption | intro _ | apply dgMalformed | apply when | apply each | apply foldl | apply dite | dsimp only | split

theorem dvbLost (hk : z.Keeps kp s) (n : Nat) : z.Keeps kp (s.dvbLost n) := by
  unfold State.dvbLost
  (try dsimp only)
  repeat' with_reducible first
    | assumption | intro _ | apply put | apply up | apply down | apply tally | apply putDvb | apply when | apply each | apply foldl
    | apply dite

theorem fefBegin (hk : z.Keeps kp s) (n from_ len : Nat) : z.Keeps kp (s.fefBegin n from_ len) := by
  unfold State.fefBegin
  (try dsimp only)
  repeat' with_reducible first
    | assumption | intro _ | apply putInput | apply putDvb | apply when | apply each

theorem fefAfter (hk : z.Keeps kp s) (n : Nat) (f : T2Frame) : z.Keeps kp (s.fefAfter n f) := by
  unfold State.fefAfter
  (try dsimp only)
  repeat' with_reducible first
    | assumption | intro _ | apply putDvb | apply fefBegin | apply when | apply each | apply foldl | apply dite

theorem t2Frame (hk : z.Keeps kp s) (n : Nat) (f : T2Frame) : z.Keeps kp (s.t2Frame n f) := by
  unfold State.t2Frame
  (try dsimp only)
  repeat' with_reducible first
    | assumption | intro _ | apply put | apply ofdmSeen | apply t2Boundary | apply ewsSeen | apply signalUnit | apply dvbLost
    | apply fefBegin | apply fefAfter | apply when | apply each | apply foldl | apply dite | dsimp only | split

theorem l1Change (hk : z.Keeps kp s) (n : Nat) (plps : List Plp) (ts : Nat) : z.Keeps kp (s.l1Change n plps ts) := by
  unfold State.l1Change
  repeat' with_reducible first
    | assumption | intro _ | apply up | apply t2Boundary | apply when | apply each | apply foldl | apply dite

theorem ewsTimeout (hk : z.Keeps kp s) (n : Nat) : z.Keeps kp (s.ewsTimeout n) := by
  unfold State.ewsTimeout
  repeat' with_reducible first
    | assumption | intro _ | apply ewsEnd | apply when

theorem ifComplete (hk : z.Keeps kp s) (n plp idx ts : Nat) (fecs : List FecFrame) : z.Keeps kp (s.ifComplete n plp idx ts fecs) := by
  unfold State.ifComplete
  (try dsimp only)
  repeat' with_reducible first
    | assumption | intro _ | apply tally | apply tsConsignments | apply gap | apply sections | apply when | apply each | apply foldl
    | apply dite

theorem dvbtFrame (hk : z.Keeps kp s) (n : Nat) (f : DvbtFrame) : z.Keeps kp (s.dvbtFrame n f) := by
  unfold State.dvbtFrame
  (try dsimp only)
  repeat' with_reducible first
    | assumption | intro _ | apply put | apply up | apply putDvb | apply ofdmSeen | apply berthApply | apply overDeclared
    | apply signalUnit | apply tsConsignments | apply sections | apply dvbLost | apply when | apply each | apply foldl | apply dite

theorem injShow (hk : z.Keeps kp s) : z.Keeps kp (s.injShow) := by
  unfold State.injShow
  (try dsimp only)
  repeat' with_reducible first
    | assumption | intro _ | apply setInjBits | apply setPrecNow

theorem touchRecords (hk : z.Keeps kp s) : z.Keeps kp (s.touchRecords) := by
  unfold State.touchRecords
  (try dsimp only)
  repeat' with_reducible first
    | assumption | intro _ | apply setInjSeen | apply markWindow | apply injShow | apply when | apply each

theorem openAt (hk : z.Keeps kp s) (n start extra : Nat) : z.Keeps kp (s.openAt n start extra) := by
  unfold State.openAt
  repeat' with_reducible first
    | assumption | intro _ | apply putWindow

theorem openWindow (hk : z.Keeps kp s) (n extra : Nat) : z.Keeps kp (s.openWindow n extra) := by
  unfold State.openWindow
  repeat' with_reducible first
    | assumption | intro _ | apply openAt

theorem recordsTouch (hk : z.Keeps kp s) : z.Keeps kp (s.recordsTouch) := by
  unfold State.recordsTouch
  (try dsimp only)
  repeat' with_reducible first
    | assumption | intro _ | apply putWindow | apply touchRecords | apply openWindow | apply when | apply each | apply foldl
    | apply dite

theorem closeAt (hk : z.Keeps kp s) (n stop extra : Nat) : z.Keeps kp (s.closeAt n stop extra) := by
  unfold State.closeAt
  repeat' with_reducible first
    | assumption | intro _ | apply putWindow | apply putClosed | apply when | apply each | apply foldl | apply dite | dsimp only | split

theorem closeWindow (hk : z.Keeps kp s) (n extra : Nat) : z.Keeps kp (s.closeWindow n extra) := by
  unfold State.closeWindow
  repeat' with_reducible first
    | assumption | intro _ | apply closeAt

theorem recordStart (hk : z.Keeps kp s) (n : Nat) (ps : Int) : z.Keeps kp (s.recordStart n ps) := by
  unfold State.recordStart
  repeat' with_reducible first
    | assumption | intro _ | apply openAt | apply when | apply each | apply foldl | apply dite

theorem recordStop (hk : z.Keeps kp s) (n : Nat) : z.Keeps kp (s.recordStop n) := by
  unfold State.recordStop
  repeat' with_reducible first
    | assumption | intro _ | apply closeWindow

theorem recordReset (hk : z.Keeps kp s) (n : Nat) : z.Keeps kp (s.recordReset n) := by
  unfold State.recordReset
  repeat' with_reducible first
    | assumption | intro _ | apply closeWindow

theorem recordSwap (hk : z.Keeps kp s) (before : State) (h : Nat) : z.Keeps kp (s.recordSwap before h) := by
  unfold State.recordSwap
  repeat' with_reducible first
    | assumption | intro _ | apply putClosed | apply openWindow | apply when | apply each | apply foldl | apply dite | dsimp only
    | split

theorem recordSettings (hk : z.Keeps kp s) (n : Nat) : z.Keeps kp (s.recordSettings n) := by
  unfold State.recordSettings
  (try dsimp only)
  repeat' with_reducible first
    | assumption | intro _ | apply setShadow | apply put | apply down | apply when | apply each

theorem windowEnd (hk : z.Keeps kp s) (n : Nat) : z.Keeps kp (s.windowEnd n) := by
  unfold State.windowEnd
  (try dsimp only)
  repeat' with_reducible first
    | assumption | intro _ | apply openAt | apply closeAt | apply recordSettings | apply when | apply each | apply foldl | apply dite
    | dsimp only | split

theorem emitRecord (hk : z.Keeps kp s) (prod kind berth std b duration config switch ts : Nat) (entries : List (List Byte)) :
    z.Keeps kp (s.emitRecord prod kind berth std b duration config switch ts entries) := by
  unfold State.emitRecord
  (try dsimp only)
  repeat' with_reducible first
    | assumption | intro _ | apply take | apply emit | apply when | apply each

theorem recordDone (hk : z.Keeps kp s) (n : Nat) : z.Keeps kp (s.recordDone n) := by
  unfold State.recordDone
  (try dsimp only)
  repeat' with_reducible first
    | assumption | intro _ | apply put | apply putClosed | apply emitRecord | apply when | apply each | apply foldl | apply dite
    | dsimp only | split

theorem intakeEmit (hk : z.Keeps kp s) (w : Win) : z.Keeps kp (s.intakeEmit w) := by
  unfold State.intakeEmit
  repeat' with_reducible first
    | assumption | intro _ | apply emitRecord

theorem intakeRecord (hk : z.Keeps kp s) : z.Keeps kp (s.intakeRecord) := by
  unfold State.intakeRecord
  (try dsimp only)
  repeat' with_reducible first
    | assumption | intro _ | apply openAt | apply intakeEmit | apply when | apply each | apply foldl | apply dite | dsimp only | split

theorem recordStep (hk : z.Keeps kp s) (before : State) : z.Keeps kp (s.recordStep before) := by
  unfold State.recordStep
  (try dsimp only)
  repeat' with_reducible first
    | assumption | intro _ | apply putClosed | apply markWindow | apply openWindow | apply intakeEmit | apply when | apply each
    | apply foldl | apply dite | dsimp only | split

theorem inventory (hk : z.Keeps kp s) (found : List Found) : z.Keeps kp (s.inventory found) := by
  unfold State.inventory
  (try dsimp only)
  repeat' with_reducible first
    | assumption | intro _ | apply take | apply putWindow | apply emitRecord

theorem putMov (hk : z.Keeps kp s) (m : Nat) (v : Mov) : z.Keeps kp (s.putMov m v) := by
  unfold State.putMov
  repeat' with_reducible first
    | assumption | intro _ | apply when | apply each | apply foldl | apply dite | dsimp only | split | (fail_if_no_progress apply lit)

theorem putPair (hk : z.Keeps kp s) (p : Nat) (v : Pair) : z.Keeps kp (s.putPair p v) := by
  unfold State.putPair
  repeat' with_reducible first
    | assumption | intro _ | apply when | apply each | apply foldl | apply dite | dsimp only | split | (fail_if_no_progress apply lit)

theorem showOutputs (hk : z.Keeps kp s) : z.Keeps kp (s.showOutputs) := by
  unfold State.showOutputs
  repeat' with_reducible first
    | assumption | intro _ | apply put | apply when | apply each

theorem showIntakes (hk : z.Keeps kp s) : z.Keeps kp (s.showIntakes) := by
  unfold State.showIntakes
  (try dsimp only)
  repeat' with_reducible first
    | assumption | intro _ | apply put | apply showValidAll | apply when | apply each | apply foldl | apply dite

theorem showMovements (hk : z.Keeps kp s) : z.Keeps kp (s.showMovements) := by
  unfold State.showMovements
  repeat' with_reducible first
    | assumption | intro _ | apply put | apply showOutputs | apply showIntakes

theorem carry (hk : z.Keeps kp s) (p m : Nat) : z.Keeps kp (s.carry p m) := by
  unfold State.carry
  (try dsimp only)
  repeat' with_reducible first
    | assumption | intro _ | apply up | apply down | apply bump | apply pilotDisturb | apply showMovements | apply when | apply each
    | apply foldl | apply dite | dsimp only | split

theorem search (hk : z.Keeps kp s) (m : Nat) (tcxo : Bool) : z.Keeps kp (s.search m tcxo) := by
  unfold State.search
  (try dsimp only)
  repeat' with_reducible first
    | assumption | intro _ | apply put | apply down | apply putMov | apply showMovements

theorem movIdle (hk : z.Keeps kp s) (m : Nat) : z.Keeps kp (s.movIdle m) := by
  unfold State.movIdle
  (try dsimp only)
  repeat' with_reducible first
    | assumption | intro _ | apply put | apply down | apply putMov | apply showMovements

theorem regulateMovements (hk : z.Keeps kp s) : z.Keeps kp (s.regulateMovements) := by
  unfold State.regulateMovements
  (try dsimp only)
  repeat' with_reducible first
    | assumption | intro _ | apply down | apply putMov | apply putPair | apply search | apply when | apply each | apply foldl
    | apply dite | dsimp only | split | (fail_if_no_progress apply lit)

theorem timebaseOff (hk : z.Keeps kp s) : z.Keeps kp (s.timebaseOff) := by
  unfold State.timebaseOff
  (try dsimp only)
  repeat' with_reducible first
    | assumption | intro _ | apply setTrimming | apply putPair | apply showMovements | apply carry | apply movIdle | apply when
    | apply each | apply foldl | apply dite

theorem putPort (hk : z.Keeps kp s) (p : Nat) (v : Port) : z.Keeps kp (s.putPort p v) := by
  unfold State.putPort
  repeat' with_reducible first
    | assumption | intro _ | apply when | apply each | apply foldl | apply dite | dsimp only | split | (fail_if_no_progress apply lit)

theorem setOut (hk : z.Keeps kp s) (p v : Nat) : z.Keeps kp (s.setOut p v) := by
  unfold State.setOut
  repeat' with_reducible first
    | assumption | intro _ | apply put

theorem convertOne (hk : z.Keeps kp s) (p : Nat) (missing : List Nat) : z.Keeps kp (s.convertOne p missing) := by
  unfold State.convertOne
  (try dsimp only)
  repeat' with_reducible first
    | assumption | intro _ | apply put | apply up | apply putPort | apply when

theorem convertAhead (hk : z.Keeps kp s) (p : Nat) (n : Nat) : z.Keeps kp (s.convertAhead p n) := by
  induction n generalizing s with
  | zero => exact hk
  | succ n ih =>
    unfold State.convertAhead
    dsimp only
    split
    · exact hk
    · split
      · exact ih (hk.convertOne ..)
      · exact hk

theorem guardFill (hk : z.Keeps kp s) (p : Nat) : z.Keeps kp (s.guardFill p).1 := by
  unfold State.guardFill
  (try dsimp only)
  repeat' with_reducible first
    | assumption | intro _ | apply take | apply putPort

theorem portPump (hk : z.Keeps kp s) (p : Nat) : z.Keeps kp (s.portPump p) := by
  unfold State.portPump
  dsimp only
  have h2 := Keeps.guardFill (Keeps.convertAhead (Keeps.guardFill hk p) p (s.get (F.HLD_CAP_CAP.ofHold (100 + p)))) p
  exact Keeps.ringFill (by split; exact h2; exact Keeps.convertAhead h2 ..) ..

theorem portEmpty (hk : z.Keeps kp s) (p : Nat) : z.Keeps kp (s.portEmpty p) := by
  unfold State.portEmpty
  (try dsimp only)
  repeat' with_reducible first
    | assumption | intro _ | apply ringFill | apply putPort

theorem portStart (hk : z.Keeps kp s) (p : Nat) : z.Keeps kp (s.portStart p) := by
  unfold State.portStart
  (try dsimp only)
  repeat' with_reducible first
    | assumption | intro _ | apply up | apply putPort | apply when

theorem portStopped (hk : z.Keeps kp s) (p : Nat) : z.Keeps kp (s.portStopped p) := by
  unfold State.portStopped
  (try dsimp only)
  repeat' with_reducible first
    | assumption | intro _ | apply put | apply up | apply down | apply applyArmed | apply showOutputs | apply putPort | apply setOut
    | apply portEmpty | apply when

theorem portFade (hk : z.Keeps kp s) (p : Nat) : z.Keeps kp (s.portFade p) := by
  unfold State.portFade
  (try dsimp only)
  repeat' with_reducible first
    | assumption | intro _ | apply putPort | apply setOut

theorem portRamp (hk : z.Keeps kp s) (p : Nat) : z.Keeps kp (s.portRamp p) := by
  unfold State.portRamp
  (try dsimp only)
  repeat' with_reducible first
    | assumption | intro _ | apply putPort | apply setOut

theorem portShow (hk : z.Keeps kp s) (p : Nat) : z.Keeps kp (s.portShow p) := by
  unfold State.portShow
  (try dsimp only)
  repeat' with_reducible first
    | assumption | intro _ | apply showOutputs | apply putPort | apply portStart | apply portStopped | apply portFade | apply portRamp
    | apply when | apply each | apply foldl | apply dite

theorem portChanged (hk : z.Keeps kp s) (p : Nat) : z.Keeps kp (s.portChanged p) := by
  unfold State.portChanged
  repeat' with_reducible first
    | assumption | intro _ | apply applyArmed | apply portShow | apply when | apply each | apply foldl | apply dite

theorem portRefuse (hk : z.Keeps kp s) (p : Nat) : z.Keeps kp (s.portRefuse p) := by
  unfold State.portRefuse
  (try dsimp only)
  repeat' with_reducible first
    | assumption | intro _ | apply down | apply refuse | apply putPort

theorem startInstant (hk : z.Keeps kp s) (p : Nat) : z.Keeps kp (s.startInstant p) := by
  unfold State.startInstant
  (try dsimp only)
  repeat' with_reducible first
    | assumption | intro _ | apply put | apply up | apply down | apply supDo | apply showOutputs | apply putPort | apply setOut
    | apply portEmpty | apply portRefuse | apply when | apply each | apply foldl | apply dite

theorem portSettled (hk : z.Keeps kp s) (p : Nat) : z.Keeps kp (s.portSettled p) := by
  unfold State.portSettled
  (try dsimp only)
  repeat' with_reducible first
    | assumption | intro _ | apply setOut | apply portPump | apply portRamp | apply when | apply each | apply foldl | apply dite

theorem portFaded (hmode : kp .mode = false) (hkeys : kp .keys = false) (hepoch : kp .epoch = false) (hk : z.Keeps kp s) (p : Nat) :
    z.Keeps kp (s.portFaded p) := by
  unfold State.portFaded
  (try dsimp only)
  repeat' with_reducible first
    | assumption | intro _ | apply putPort | apply setOut | apply portStopped | apply portShow | apply settle | apply when | apply each
    | apply foldl | apply dite

theorem slotLate (hk : z.Keeps kp s) (p slot : Nat) : z.Keeps kp (s.slotLate p slot) := by
  unfold State.slotLate
  (try dsimp only)
  repeat' with_reducible first
    | assumption | intro _ | apply ringShow | apply putPort | apply convertOne | apply when | apply each | apply foldl | apply dite

theorem portUnderrun (hk : z.Keeps kp s) (p : Nat) (injected : Bool) : z.Keeps kp (s.portUnderrun p injected) := by
  unfold State.portUnderrun
  (try dsimp only)
  repeat' with_reducible first
    | assumption | intro _ | apply up | apply bump | apply ringShow | apply error | apply startTest | apply putPort | apply portFade
    | apply when | apply each | apply foldl | apply dite

theorem portResume (hk : z.Keeps kp s) (p : Nat) : z.Keeps kp (s.portResume p) := by
  unfold State.portResume
  (try dsimp only)
  repeat' with_reducible first
    | assumption | intro _ | apply putPort | apply portPump | apply portShow | apply when | apply each | apply foldl | apply dite

theorem rateWindow (hk : z.Keeps kp s) (p rate : Nat) : z.Keeps kp (s.rateWindow p rate) := by
  unfold State.rateWindow
  (try dsimp only)
  repeat' with_reducible first
    | assumption | intro _ | apply put | apply setOut | apply when | apply each | apply foldl | apply dite

theorem slaveMute (hk : z.Keeps kp s) (p : Nat) : z.Keeps kp (s.slaveMute p) := by
  unfold State.slaveMute
  repeat' with_reducible first
    | assumption | intro _ | apply down | apply setOut | apply when

theorem clockStop (hk : z.Keeps kp s) (p : Nat) : z.Keeps kp (s.clockStop p) := by
  unfold State.clockStop
  repeat' with_reducible first
    | assumption | intro _ | apply up | apply slaveMute | apply when | apply each | apply foldl | apply dite

theorem clockGlitch (hk : z.Keeps kp s) (p : Nat) : z.Keeps kp (s.clockGlitch p) := by
  unfold State.clockGlitch
  repeat' with_reducible first
    | assumption | intro _ | apply up | apply bump | apply slaveMute | apply when | apply each | apply foldl | apply dite

theorem rateChange (hk : z.Keeps kp s) (p : Nat) : z.Keeps kp (s.rateChange p) := by
  unfold State.rateChange
  repeat' with_reducible first
    | assumption | intro _ | apply up | apply attn | apply slaveMute | apply when | apply each | apply foldl | apply dite

theorem clockGood (hk : z.Keeps kp s) (p : Nat) : z.Keeps kp (s.clockGood p) := by
  unfold State.clockGood
  (try dsimp only)
  repeat' with_reducible first
    | assumption | intro _ | apply up | apply attn | apply putPort | apply setOut | apply portRamp | apply when | apply each
    | apply foldl | apply dite

theorem auStart (hk : z.Keeps kp s) (src w : Nat) : z.Keeps kp (s.auStart src w) := by
  unfold State.auStart
  (try dsimp only)
  repeat' with_reducible first
    | assumption | intro _ | apply up | apply write | apply putPort | apply portStart | apply when | apply each | apply foldl
    | apply dite | dsimp only | split | (fail_if_no_progress apply lit) | (exact List.length_take_le ..)
    | (exact (List.length_append ..).trans_le (Nat.succ_le_of_lt (by assumption)))
    | (exact State.formed_filter (State.formed_of_clear (by assumption))) | (exact State.formed_filter (by assumption))
    | (exact Tbl.wf_foldl _ _ _ (fun e => e.2) _ (State.Formed.regs (by assumption)))
    | (have e := congrArg Prod.fst ‹_ = ((_ : State), _)›; dsimp only at e; subst e)

theorem audioFamily (hk : z.Keeps kp s) (fam : Nat) : z.Keeps kp (s.audioFamily fam) := by
  unfold State.audioFamily
  (try dsimp only)
  repeat' with_reducible first
    | assumption | intro _ | apply put | apply supDo | apply putPort | apply setOut | apply portEmpty | apply when | apply each
    | apply foldl | apply dite

theorem portsSurvey (hk : z.Keeps kp s) : z.Keeps kp (s.portsSurvey) := by
  unfold State.portsSurvey
  (try dsimp only)
  repeat' with_reducible first
    | assumption | intro _ | apply putPort | apply portShow | apply when | apply each

theorem portsSurveyEnd (hk : z.Keeps kp s) : z.Keeps kp (s.portsSurveyEnd) := by
  unfold State.portsSurveyEnd
  (try dsimp only)
  repeat' with_reducible first
    | assumption | intro _ | apply putPort | apply when | apply each

theorem portsMute (hk : z.Keeps kp s) : z.Keeps kp (s.portsMute) := by
  unfold State.portsMute
  repeat' with_reducible first
    | assumption | intro _ | apply portStopped | apply when | apply each

theorem portsBegin (hk : z.Keeps kp s) : z.Keeps kp (s.portsBegin) := by
  unfold State.portsBegin
  repeat' with_reducible first
    | assumption | intro _ | apply portShow | apply portRefuse | apply when | apply each | apply foldl | apply dite

theorem frameSync (hmode : kp .mode = false) (hkeys : kp .keys = false) (hepoch : kp .epoch = false) (hk : z.Keeps kp s) (p : Nat) :
    z.Keeps kp (s.frameSync p) := by
  unfold State.frameSync
  (try dsimp only)
  repeat' with_reducible first
    | assumption | intro _ | apply putPort | apply portPump | apply portEmpty | apply portUnderrun | apply settle | apply when
    | apply each | apply foldl | apply dite

theorem audioTick (hmode : kp .mode = false) (hkeys : kp .keys = false) (hepoch : kp .epoch = false) (hk : z.Keeps kp s) :
    z.Keeps kp (s.audioTick) := by
  unfold State.audioTick
  repeat' with_reducible first
    | assumption | intro _ | apply frameSync | apply when | apply each

theorem putCal (hcal : kp .cal = false) (hk : z.Keeps kp s) (i : Nat) (v : Nat × Nat) : z.Keeps kp (s.putCal i v) := by
  unfold State.putCal
  repeat' with_reducible first
    | assumption | intro _ | apply setCalTable

theorem putBank (hk : z.Keeps kp s) (k : Nat) (c : Chan) : z.Keeps kp (s.putBank k c) := by
  unfold State.putBank
  repeat' with_reducible first
    | assumption | intro _ | apply setChans

theorem showCapture (hk : z.Keeps kp s) (n : Nat) : z.Keeps kp (s.showCapture n) := by
  unfold State.showCapture
  repeat' with_reducible first
    | assumption | intro _ | apply ringShow | apply when | apply each | apply foldl | apply dite | dsimp only | split

theorem taint (hk : z.Keeps kp s) (n : Nat) (v : Bool) : z.Keeps kp (s.taint n v) := by
  unfold State.taint
  repeat' with_reducible first
    | assumption | intro _ | apply setTainted | apply when | apply each | apply foldl | apply dite

theorem laneOutput (hk : z.Keeps kp s) (n b : Nat) (good : Int × Int) (y : BSmp) : z.Keeps kp (s.laneOutput n b good y) := by
  unfold State.laneOutput
  (try dsimp only)
  repeat' with_reducible first
    | assumption | intro _ | apply put | apply bump | apply inWindow | apply putInput | apply scopePump | apply laneHere | apply putDet
    | apply putDetDone | apply rxTake | apply captureOverrun | apply recordStart | apply showCapture | apply taint | apply when
    | apply each | apply foldl | apply dite | dsimp only | split

theorem soundRun (hk : z.Keeps kp s) (c : Chan) (blk : AdcBlk) (l h cand : Nat) : z.Keeps kp (s.soundRun c blk l h cand) := by
  unfold State.soundRun
  (try dsimp only)
  repeat' with_reducible first
    | assumption | intro _ | apply setSoundDet | apply take | apply putChain

theorem pairUp (hk : z.Keeps kp s) (n l b : Nat) (main : Bool) (outs : List BSmp) : z.Keeps kp (s.pairUp n l b main outs) := by
  unfold State.pairUp
  (try dsimp only)
  repeat' with_reducible first
    | assumption | intro _ | apply putChain | apply laneOutput | apply when | apply each | apply foldl | apply dite

theorem runLane (hk : z.Keeps kp s) (k : Nat) (c : Chan) (blk : AdcBlk) (l : Nat) : z.Keeps kp (s.runLane k c blk l) := by
  unfold State.runLane
  (try dsimp only)
  repeat' with_reducible first
    | assumption | intro _ | apply up | apply bump | apply inWindow | apply putChain | apply laneOutput | apply soundRun | apply pairUp
    | apply when | apply each | apply foldl | apply dite | dsimp only | split

theorem runBlock (hk : z.Keeps kp s) (k : Nat) (b : AdcBlk) : z.Keeps kp (s.runBlock k b) := by
  unfold State.runBlock
  (try dsimp only)
  repeat' with_reducible first
    | assumption | intro _ | apply ccaTake | apply putBank | apply runLane | apply when | apply each | apply foldl | apply dite

theorem showChan (hk : z.Keeps kp s) (k : Nat) : z.Keeps kp (s.showChan k) := by
  unfold State.showChan
  repeat' with_reducible first
    | assumption | intro _ | apply ringShow

theorem takeBlock (hk : z.Keeps kp s) (k : Nat) : z.Keeps kp (s.takeBlock k) := by
  unfold State.takeBlock
  (try dsimp only)
  repeat' with_reducible first
    | assumption | intro _ | apply take | apply putBank | apply runBlock | apply when | apply each

theorem popBlock (hk : z.Keeps kp s) (k : Nat) : z.Keeps kp (s.popBlock k) := by
  unfold State.popBlock
  repeat' with_reducible first
    | assumption | intro _ | apply showChan | apply takeBlock

theorem pushBlock (hk : z.Keeps kp s) (k : Nat) (b : AdcBlk) (pop faked : Bool) : z.Keeps kp (s.pushBlock k b pop faked).1 := by
  unfold State.pushBlock
  (try dsimp only)
  repeat' with_reducible first
    | assumption | intro _ | apply ringFill | apply putBank | apply takeBlock | apply when

theorem chainsLose (hk : z.Keeps kp s) : z.Keeps kp (s.chainsLose) := by
  unfold State.chainsLose
  (try dsimp only)
  repeat' with_reducible first
    | assumption | intro _ | apply setChans | apply setChains | apply setDets | apply setDetFull | apply putInput | apply showCapture
    | apply showChan | apply when | apply each

theorem setGain (hk : z.Keeps kp s) (k new : Nat) : z.Keeps kp (s.setGain k new) := by
  unfold State.setGain
  (try dsimp only)
  repeat' with_reducible first
    | assumption | intro _ | apply put | apply up | apply putIntake | apply when | apply each | apply foldl | apply dite

theorem gainBlock (hk : z.Keeps kp s) (k : Nat) : z.Keeps kp (s.gainBlock k) := by
  unfold State.gainBlock
  (try dsimp only)
  repeat' with_reducible first
    | assumption | intro _ | apply put | apply putIntake | apply setGain

theorem attack (hk : z.Keeps kp s) (k : Nat) : z.Keeps kp (s.attack k) := by
  unfold State.attack
  (try dsimp only)
  repeat' with_reducible first
    | assumption | intro _ | apply putIntake | apply when | apply each | apply foldl | apply dite

theorem agcWindow (hk : z.Keeps kp s) (k : Nat) (level : Int) : z.Keeps kp (s.agcWindow k level) := by
  unfold State.agcWindow
  (try dsimp only)
  repeat' with_reducible first
    | assumption | intro _ | apply put | apply down | apply putIntake | apply when | apply each | apply foldl | apply dite

theorem noSignal (hk : z.Keeps kp s) (k : Nat) : z.Keeps kp (s.noSignal k) := by
  unfold State.noSignal
  repeat' with_reducible first
    | assumption | intro _ | apply up | apply when | apply each | apply foldl | apply dite

theorem intakeInvalid (hk : z.Keeps kp s) (k : Nat) : z.Keeps kp (s.intakeInvalid k) := by
  unfold State.intakeInvalid
  (try dsimp only)
  repeat' with_reducible first
    | assumption | intro _ | apply up | apply putIntake | apply showValidAll | apply when | apply each

theorem intakeFault (hk : z.Keeps kp s) (k check : Nat) (a : EArgs) : z.Keeps kp (s.intakeFault k check a) := by
  unfold State.intakeFault
  (try dsimp only)
  repeat' with_reducible first
    | assumption | intro _ | apply put | apply up | apply bump | apply error | apply startTest | apply intakeInvalid | apply when
    | apply each | apply foldl | apply dite

theorem intakeValid (hmode : kp .mode = false) (hkeys : kp .keys = false) (hepoch : kp .epoch = false) (hk : z.Keeps kp s) (k : Nat) :
    z.Keeps kp (s.intakeValid k) := by
  unfold State.intakeValid
  (try dsimp only)
  repeat' with_reducible first
    | assumption | intro _ | apply down | apply putIntake | apply showValidAll | apply when | apply each | apply foldl | apply dite

theorem chanOverrun (hk : z.Keeps kp s) (k : Nat) (a : EArgs) : z.Keeps kp (s.chanOverrun k a) := by
  unfold State.chanOverrun
  (try dsimp only)
  repeat' with_reducible first
    | assumption | intro _ | apply setHandover | apply up | apply bump | apply error | apply handTicket | apply when | apply each
    | apply foldl | apply dite | dsimp only | split

theorem adcBlock (hmode : kp .mode = false) (hkeys : kp .keys = false) (hepoch : kp .epoch = false) (hk : z.Keeps kp s) (k : Nat) (xs : List Int) (fault pops : Nat) :
    z.Keeps kp (s.adcBlock k xs fault pops) := by
  unfold State.adcBlock
  (try dsimp only)
  repeat' with_reducible first
    | assumption | intro _ | apply setInjStall | apply up | apply bump | apply inWindow | apply popBlock | apply pushBlock
    | apply gainBlock | apply attack | apply intakeFault | apply intakeValid | apply chanOverrun | apply when | apply each | apply foldl
    | apply dite | dsimp only | split | (fail_if_no_progress apply lit) | (exact List.length_take_le ..)
    | (exact (List.length_append ..).trans_le (Nat.succ_le_of_lt (by assumption)))
    | (exact State.formed_filter (State.formed_of_clear (by assumption))) | (exact State.formed_filter (by assumption))
    | (exact Tbl.wf_foldl _ _ _ (fun e => e.2) _ (State.Formed.regs (by assumption)))
    | (have e := congrArg Prod.fst ‹_ = ((_ : State), _)›; dsimp only at e; subst e)

theorem intakeTested (hk : z.Keeps kp s) (k : Nat) (pass : Bool) : z.Keeps kp (s.intakeTested k pass) := by
  unfold State.intakeTested
  repeat' with_reducible first
    | assumption | intro _ | apply classify | apply showValidAll | apply when | apply each | apply foldl | apply dite | dsimp only
    | split | (fail_if_no_progress apply lit) | (exact List.length_take_le ..)
    | (exact (List.length_append ..).trans_le (Nat.succ_le_of_lt (by assumption)))
    | (exact State.formed_filter (State.formed_of_clear (by assumption))) | (exact State.formed_filter (by assumption))
    | (exact Tbl.wf_foldl _ _ _ (fun e => e.2) _ (State.Formed.regs (by assumption)))
    | (have e := congrArg Prod.fst ‹_ = ((_ : State), _)›; dsimp only at e; subst e)

theorem vrefCheck (hk : z.Keeps kp s) (v : Nat) : z.Keeps kp (s.vrefCheck v) := by
  unfold State.vrefCheck
  (try dsimp only)
  repeat' with_reducible first
    | assumption | intro _ | apply put | apply up | apply down | apply error | apply when | apply each | apply foldl | apply dite

theorem sweepShow (hk : z.Keeps kp s) : z.Keeps kp (s.sweepShow) := by
  unfold State.sweepShow
  (try dsimp only)
  repeat' with_reducible first
    | assumption | intro _ | apply setVisiting | apply agcShow | apply setGain | apply when | apply each

theorem sweepBegin (hk : z.Keeps kp s) : z.Keeps kp (s.sweepBegin) := by
  unfold State.sweepBegin
  (try dsimp only)
  repeat' with_reducible first
    | assumption | intro _ | apply setRepeats | apply setCaptured | apply put | apply down | apply draw | apply error | apply putUnit
    | apply showRetired | apply putIntake | apply sweepShow | apply when | apply each | apply foldl | apply dite

theorem captureDone (hk : z.Keeps kp s) (k : Nat) (pass : Bool) (meas : List (Nat × Nat)) : z.Keeps kp (s.captureDone k pass meas) := by
  unfold State.captureDone
  (try dsimp only)
  repeat' with_reducible first
    | assumption | intro _ | apply setRepeats | apply setCaptured | apply putIntake | apply intakeFault | apply sweepShow | apply when
    | apply each | apply foldl | apply dite

theorem buildTables (hcal : kp .cal = false) (hk : z.Keeps kp s) (k : Nat) : z.Keeps kp (s.buildTables k) := by
  unfold State.buildTables
  (try dsimp only)
  repeat' with_reducible first
    | assumption | intro _ | apply putCal | apply when | apply each

theorem tablesBuilt (hcal : kp .cal = false) (hk : z.Keeps kp s) : z.Keeps kp (s.tablesBuilt) := by
  unfold State.tablesBuilt
  repeat' with_reducible first
    | assumption | intro _ | apply setCaptured | apply buildTables | apply when | apply each

theorem visitDue (hk : z.Keeps kp s) (k : Nat) (quiet : List Nat) : z.Keeps kp (s.visitDue k quiet) := by
  unfold State.visitDue
  (try dsimp only)
  repeat' with_reducible first
    | assumption | intro _ | apply setVisiting | apply setQuiet | apply put | apply putIntake | apply agcShow | apply when | apply each
    | apply foldl | apply dite | dsimp only | split

theorem visitDone (hk : z.Keeps kp s) (k : Nat) (gain phase : Int) : z.Keeps kp (s.visitDone k gain phase) := by
  unfold State.visitDone
  (try dsimp only)
  repeat' with_reducible first
    | assumption | intro _ | apply setVisiting | apply put | apply up | apply down | apply agcShow | apply when | apply each
    | apply foldl | apply dite

theorem visitSkip (hk : z.Keeps kp s) (k : Nat) : z.Keeps kp (s.visitSkip k) := by
  unfold State.visitSkip
  (try dsimp only)
  repeat' with_reducible first
    | assumption | intro _ | apply up | apply bump | apply when | apply each | apply foldl | apply dite

theorem feedStart (hk : z.Keeps kp s) (k : Nat) : z.Keeps kp (s.feedStart k) := by
  unfold State.feedStart
  repeat' with_reducible first
    | assumption | intro _ | apply up | apply when | apply each | apply foldl | apply dite

theorem feedOff (hk : z.Keeps kp s) (k : Nat) : z.Keeps kp (s.feedOff k) := by
  unfold State.feedOff
  repeat' with_reducible first
    | assumption | intro _ | apply down

theorem feedEnabled (hk : z.Keeps kp s) (k old new : Nat) : z.Keeps kp (s.feedEnabled k old new) := by
  unfold State.feedEnabled
  repeat' with_reducible first
    | assumption | intro _ | apply up | apply down | apply feedStart | apply feedOff | apply when | apply each | apply foldl
    | apply dite

theorem feedWrite (hk : z.Keeps kp s) (src k w : Nat) : z.Keeps kp (s.feedWrite src k w) := by
  unfold State.feedWrite
  repeat' with_reducible first
    | assumption | intro _ | apply write | apply feedEnabled | apply when | apply each | apply foldl | apply dite | dsimp only | split
    | (fail_if_no_progress apply lit) | (exact List.length_take_le ..)
    | (exact (List.length_append ..).trans_le (Nat.succ_le_of_lt (by assumption)))
    | (exact State.formed_filter (State.formed_of_clear (by assumption))) | (exact State.formed_filter (by assumption))
    | (exact Tbl.wf_foldl _ _ _ (fun e => e.2) _ (State.Formed.regs (by assumption)))
    | (have e := congrArg Prod.fst ‹_ = ((_ : State), _)›; dsimp only at e; subst e)

theorem feedsBegin (hk : z.Keeps kp s) : z.Keeps kp (s.feedsBegin) := by
  unfold State.feedsBegin
  repeat' with_reducible first
    | assumption | intro _ | apply feedStart | apply when | apply each

theorem putTrips (hk : z.Keeps kp s) (k v : Nat) : z.Keeps kp (s.putTrips k v) := by
  unfold State.putTrips
  repeat' with_reducible first
    | assumption | intro _ | apply setFeedTrips | apply put

theorem putHeat (hk : z.Keeps kp s) (k v : Nat) : z.Keeps kp (s.putHeat k v) := by
  unfold State.putHeat
  repeat' with_reducible first
    | assumption | intro _ | apply setFeedHeat

theorem feedSense (hk : z.Keeps kp s) (k ma : Nat) : z.Keeps kp (s.feedSense k ma) := by
  unfold State.feedSense
  repeat' with_reducible first
    | assumption | intro _ | apply put

theorem feedTrip (hk : z.Keeps kp s) (k detector : Nat) (ev : Fld) (a : EArgs) : z.Keeps kp (s.feedTrip k detector ev a) := by
  unfold State.feedTrip
  (try dsimp only)
  repeat' with_reducible first
    | assumption | intro _ | apply put | apply up | apply error | apply supDo | apply feedOff | apply putTrips | apply when | apply each
    | apply foldl | apply dite

theorem feedI2t (hk : z.Keeps kp s) (k ma us : Nat) (a : EArgs) : z.Keeps kp (s.feedI2t k ma us a) := by
  unfold State.feedI2t
  (try dsimp only)
  repeat' with_reducible first
    | assumption | intro _ | apply putHeat | apply feedSense | apply feedTrip | apply when | apply each | apply foldl | apply dite

theorem feedCooled (hk : z.Keeps kp s) (k : Nat) : z.Keeps kp (s.feedCooled k) := by
  unfold State.feedCooled
  (try dsimp only)
  repeat' with_reducible first
    | assumption | intro _ | apply down | apply feedStart | apply when | apply each | apply foldl | apply dite

theorem feedStuckSeen (hk : z.Keeps kp s) (k : Nat) (a : EArgs) : z.Keeps kp (s.feedStuckSeen k a) := by
  unfold State.feedStuckSeen
  repeat' with_reducible first
    | assumption | intro _ | apply up | apply attn | apply error

theorem feedStuck (hk : z.Keeps kp s) (k ma : Nat) : z.Keeps kp (s.feedStuck k ma) := by
  unfold State.feedStuck
  (try dsimp only)
  repeat' with_reducible first
    | assumption | intro _ | apply feedSense | apply feedStuckSeen | apply when

theorem berthDrop (hk : z.Keeps kp s) (n : Nat) : z.Keeps kp (s.berthDrop n) := by
  unfold State.berthDrop
  (try dsimp only)
  repeat' with_reducible first
    | assumption | intro _ | apply setAud | apply setPcm | apply setScopeAt | apply put | apply down | apply putDvb | apply putRx
    | apply rxState | apply putFoll | apply decoderReset | apply fmAlarmEnd | apply testState | apply rdsSync | apply dabAlarmEnd
    | apply dabVoid | apply ewsEnd | apply when | apply each | apply foldl | apply dite

theorem dropTicket (hk : z.Keeps kp s) (n : Nat) : z.Keeps kp (s.dropTicket n) := by
  unfold State.dropTicket
  (try dsimp only)
  repeat' with_reducible first
    | assumption | intro _ | apply putQueue | apply craneChoose | apply ticketDone | apply when | apply each | apply foldl | apply dite

theorem berthStopped (hk : z.Keeps kp s) (n : Nat) : z.Keeps kp (s.berthStopped n) := by
  unfold State.berthStopped
  (try dsimp only)
  repeat' with_reducible first
    | assumption | intro _ | apply put | apply up | apply error | apply applyArmed | apply putBerth | apply freeArea | apply freeLoads
    | apply scopePump | apply recordStop | apply berthDrop | apply dropTicket | apply when | apply each | apply foldl | apply dite

theorem audioLost (hk : z.Keeps kp s) (n len : Nat) : z.Keeps kp (s.audioLost n len) := by
  unfold State.audioLost
  (try dsimp only)
  repeat' with_reducible first
    | assumption | intro _ | apply putAud | apply putAudio | apply when | apply each | apply foldl | apply dite

theorem berthOverwrite (hk : z.Keeps kp s) (n len : Nat) : z.Keeps kp (s.berthOverwrite n len) := by
  unfold State.berthOverwrite
  (try dsimp only)
  repeat' with_reducible first
    | assumption | intro _ | apply putDvb | apply inputOverwrite | apply audioLost | apply when | apply each | apply foldl | apply dite

theorem berthSync (hk : z.Keeps kp s) (n : Nat) : z.Keeps kp (s.berthSync n) := by
  unfold State.berthSync
  (try dsimp only)
  repeat' with_reducible first
    | assumption | intro _ | apply markHere | apply fadeAbort | apply recordReset | apply berthDrop | apply dropTicket | apply when
    | apply each | apply foldl | apply dite

theorem shedFades (hk : z.Keeps kp s) : z.Keeps kp (s.shedFades) := by
  unfold State.shedFades
  repeat' with_reducible first
    | assumption | intro _ | apply fadeAbort | apply when | apply each

theorem syncReset (hk : z.Keeps kp s) : z.Keeps kp (s.syncReset) := by
  unfold State.syncReset
  (try dsimp only)
  repeat' with_reducible first
    | assumption | intro _ | apply setSyncMask | apply laneSyncReset | apply berthSync | apply when | apply each

theorem berthBegin (hk : z.Keeps kp s) (n : Nat) : z.Keeps kp (s.berthBegin n) := by
  unfold State.berthBegin
  (try dsimp only)
  repeat' with_reducible first
    | assumption | intro _ | apply put | apply up | apply putBerth | apply admitLoads | apply markHere | apply berthDrop | apply when
    | apply each | apply foldl | apply dite

theorem berthSurvey (hk : z.Keeps kp s) (n : Nat) : z.Keeps kp (s.berthSurvey n) := by
  unfold State.berthSurvey
  (try dsimp only)
  repeat' with_reducible first
    | assumption | intro _ | apply put | apply putBerth | apply fadeStop | apply when | apply each | apply foldl | apply dite

theorem berthReturn (hk : z.Keeps kp s) (n : Nat) : z.Keeps kp (s.berthReturn n) := by
  unfold State.berthReturn
  (try dsimp only)
  repeat' with_reducible first
    | assumption | intro _ | apply setSyncMask | apply put | apply down | apply putBerth | apply when | apply each | apply foldl
    | apply dite

theorem lanesBegin (hk : z.Keeps kp s) : z.Keeps kp (s.lanesBegin) := by
  unfold State.lanesBegin
  (try dsimp only)
  repeat' with_reducible first
    | assumption | intro _ | apply down | apply refuse | apply when | apply each

theorem berthsBegin (hk : z.Keeps kp s) : z.Keeps kp (s.berthsBegin) := by
  unfold State.berthsBegin
  (try dsimp only)
  repeat' with_reducible first
    | assumption | intro _ | apply down | apply refuse | apply admitRefused | apply berthBegin | apply when | apply each | apply foldl
    | apply dite

theorem putDom (hk : z.Keeps kp s) (d : Nat) (v : Dom) : z.Keeps kp (s.putDom d v) := by
  unfold State.putDom
  repeat' with_reducible first
    | assumption | intro _ | apply when | apply each | apply foldl | apply dite | dsimp only | split | (fail_if_no_progress apply lit)

theorem loseReg (hk : z.Keeps kp s) (r : RDesc) (base : Nat) : z.Keeps kp (s.loseReg r base) := by
  unfold State.loseReg
  repeat' with_reducible first
    | assumption | intro _ | apply put | apply when | apply each

theorem loseRegs (hk : z.Keeps kp s) (d : Nat) : z.Keeps kp (s.loseRegs d) := by
  unfold State.loseRegs
  (try dsimp only)
  repeat' with_reducible first
    | assumption | intro _ | apply setRegs | apply loseReg | apply when | apply each | apply foldl | apply dite | dsimp only | split
    | (fail_if_no_progress apply lit) | (exact List.length_take_le ..)
    | (exact (List.length_append ..).trans_le (Nat.succ_le_of_lt (by assumption)))
    | (exact State.formed_filter (State.formed_of_clear (by assumption))) | (exact State.formed_filter (by assumption))

theorem assignLanes (hk : z.Keeps kp s) : z.Keeps kp (s.assignLanes) := by
  unfold State.assignLanes
  (try dsimp only)
  repeat' with_reducible first
    | assumption | intro _ | apply setLanes | apply setSounding | apply setSyncMask | apply put | apply down | apply putUnit
    | apply showSpares | apply putLane | apply copyBanks | apply when | apply each | apply foldl | apply dite | dsimp only | split

theorem loseTimebase (hk : z.Keeps kp s) : z.Keeps kp (s.loseTimebase) := by
  unfold State.loseTimebase
  repeat' with_reducible first
    | assumption | intro _ | apply showMovements | apply timebaseOff | apply loseRegs

theorem loseIntake (hk : z.Keeps kp s) (k : Nat) : z.Keeps kp (s.loseIntake k) := by
  unfold State.loseIntake
  (try dsimp only)
  repeat' with_reducible first
    | assumption | intro _ | apply setVisiting | apply put | apply putUnit | apply putIntake | apply showValidAll | apply loseRegs

theorem loseLanes (hk : z.Keeps kp s) : z.Keeps kp (s.loseLanes) := by
  unfold State.loseLanes
  (try dsimp only)
  repeat' with_reducible first
    | assumption | intro _ | apply applyArmed | apply clearWords | apply laneGone | apply fadeAbort | apply chainsLose | apply loseRegs
    | apply assignLanes | apply when | apply each | apply foldl | apply dite

theorem loseEngine (hk : z.Keeps kp s) : z.Keeps kp (s.loseEngine) := by
  unfold State.loseEngine
  (try dsimp only)
  repeat' with_reducible first
    | assumption | intro _ | apply setReady | apply setHandover | apply put | apply putUnit | apply putBerth | apply toMark
    | apply loseRegs | apply when | apply each

theorem loseStore (hk : z.Keeps kp s) : z.Keeps kp (s.loseStore) := by
  unfold State.loseStore
  (try dsimp only)
  repeat' with_reducible first
    | assumption | intro _ | apply setSyncMask | apply setRx | apply setRxHeard | apply put | apply down | apply putProd
    | apply clearWords | apply putWaiting | apply showLoad | apply markHere | apply berthDrop | apply berthSync | apply loseRegs
    | apply when | apply each

theorem quayLeave (hmode : kp .mode = false) (hkeys : kp .keys = false) (hepoch : kp .epoch = false) (hk : z.Keeps kp s) :
    z.Keeps kp (s.quayLeave) := by
  unfold State.quayLeave
  (try dsimp only)
  repeat' with_reducible first
    | assumption | intro _ | apply setLandRx | apply down | apply pilotStop | apply quayBoundary | apply landBoundary | apply portsMute
    | apply when | apply each

theorem loseQuay (hk : z.Keeps kp s) : z.Keeps kp (s.loseQuay) := by
  unfold State.loseQuay
  (try dsimp only)
  repeat' with_reducible first
    | assumption | intro _ | apply setBondNow | apply putUnit | apply engineShow | apply landShow | apply loseRegs | apply when
    | apply each

theorem failQuay (hmode : kp .mode = false) (hkeys : kp .keys = false) (hepoch : kp .epoch = false) (hk : z.Keeps kp s) :
    z.Keeps kp (s.failQuay) := by
  unfold State.failQuay
  (try dsimp only)
  repeat' with_reducible first
    | assumption | intro _ | apply setCustody | apply setLandRx | apply setBondReqs | apply setKeyWrap | apply setKekData
    | apply setDrbg | apply up | apply error | apply clearWords | apply pilotHalt | apply putQuay | apply portStopped | apply loseQuay
    | apply when | apply each

theorem lose (hmode : kp .mode = false) (hkeys : kp .keys = false) (hepoch : kp .epoch = false) (hk : z.Keeps kp s) (d : Nat) (keep : Bool) :
    z.Keeps kp (s.lose d keep) := by
  unfold State.lose
  repeat' with_reducible first
    | assumption | intro _ | apply loseTimebase | apply loseIntake | apply loseLanes | apply loseEngine | apply loseStore
    | apply loseQuay | apply failQuay | apply when | apply each | apply foldl | apply dite

theorem backTimebase (hk : z.Keeps kp s) : z.Keeps kp (s.backTimebase) := by
  unfold State.backTimebase
  (try dsimp only)
  repeat' with_reducible first
    | assumption | intro _ | apply putPair | apply showMovements | apply search | apply when | apply each | apply foldl | apply dite

theorem backIntake (hk : z.Keeps kp s) (k : Nat) : z.Keeps kp (s.backIntake k) := by
  unfold State.backIntake
  (try dsimp only)
  repeat' with_reducible first
    | assumption | intro _ | apply put | apply showValidAll | apply agcShow | apply showIntakes | apply when

theorem backEngine (hk : z.Keeps kp s) : z.Keeps kp (s.backEngine) := by
  unfold State.backEngine
  (try dsimp only)
  repeat' with_reducible first
    | assumption | intro _ | apply enqueue | apply assignRoles | apply when | apply each

theorem backQuay (hk : z.Keeps kp s) : z.Keeps kp (s.backQuay) := by
  unfold State.backQuay
  (try dsimp only)
  repeat' with_reducible first
    | assumption | intro _ | apply down | apply capPump | apply pilotRunShow | apply engineShow | apply seed | apply quayRunShow
    | apply sampleHold | apply landRunShow | apply portsBegin | apply when | apply each | apply foldl | apply dite

theorem back (hk : z.Keeps kp s) (d : Nat) : z.Keeps kp (s.back d) := by
  unfold State.back
  repeat' with_reducible first
    | assumption | intro _ | apply showValidAll | apply backTimebase | apply backIntake | apply backEngine | apply backQuay | apply when
    | apply each | apply foldl | apply dite

theorem switchTo (hmode : kp .mode = false) (hkeys : kp .keys = false) (hepoch : kp .epoch = false) (hk : z.Keeps kp s) (d state : Nat) :
    z.Keeps kp (s.switchTo d state) := by
  unfold State.switchTo
  (try dsimp only)
  repeat' with_reducible first
    | assumption | intro _ | apply put | apply putDom | apply lose | apply back | apply when | apply each | apply foldl | apply dite

theorem switchStart (hmode : kp .mode = false) (hkeys : kp .keys = false) (hepoch : kp .epoch = false) (hk : z.Keeps kp s) (d : Nat) (on : Bool) :
    z.Keeps kp (s.switchStart d on) := by
  unfold State.switchStart
  (try dsimp only)
  repeat' with_reducible first
    | assumption | intro _ | apply put | apply landShow | apply putDom | apply quayLeave | apply lose | apply when | apply each
    | apply foldl | apply dite

theorem domWrite (hmode : kp .mode = false) (hkeys : kp .keys = false) (hepoch : kp .epoch = false) (hk : z.Keeps kp s) (src w : Nat) :
    z.Keeps kp (s.domWrite src w) := by
  unfold State.domWrite
  (try dsimp only)
  repeat' with_reducible first
    | assumption | intro _ | apply write | apply switchStart | apply when | apply each | apply foldl | apply dite | dsimp only | split
    | (fail_if_no_progress apply lit) | (exact List.length_take_le ..)
    | (exact (List.length_append ..).trans_le (Nat.succ_le_of_lt (by assumption)))
    | (exact State.formed_filter (State.formed_of_clear (by assumption))) | (exact State.formed_filter (by assumption))
    | (exact Tbl.wf_foldl _ _ _ (fun e => e.2) _ (State.Formed.regs (by assumption)))
    | (have e := congrArg Prod.fst ‹_ = ((_ : State), _)›; dsimp only at e; subst e)

theorem switchDone (hmode : kp .mode = false) (hkeys : kp .keys = false) (hepoch : kp .epoch = false) (hk : z.Keeps kp s) (d : Nat) :
    z.Keeps kp (s.switchDone d) := by
  unfold State.switchDone
  (try dsimp only)
  repeat' with_reducible first
    | assumption | intro _ | apply put | apply up | apply putDom | apply lose | apply back | apply when | apply each | apply foldl
    | apply dite | dsimp only | split

theorem afShow (hk : z.Keeps kp s) : z.Keeps kp (s.afShow) := by
  unfold State.afShow
  repeat' with_reducible first
    | assumption | intro _ | apply put

theorem afPut (hk : z.Keeps kp s) (e : AfEntry) : z.Keeps kp (s.afPut e) := by
  unfold State.afPut
  (try dsimp only)
  repeat' with_reducible first
    | assumption | intro _ | apply put | apply afShow | apply when | apply each

theorem afSurvey (hk : z.Keeps kp s) (e : AfEntry) : z.Keeps kp (s.afSurvey e) := by
  unfold State.afSurvey
  (try dsimp only)
  repeat' with_reducible first
    | assumption | intro _ | apply journal | apply afPut | apply when | apply each | apply foldl | apply dite

theorem showMode (hmode : kp .mode = false) (hk : z.Keeps kp s) (m : Mode) (old cause detail : Nat) :
    z.Keeps kp (s.showMode m old cause detail) := by
  unfold State.showMode
  (try dsimp only)
  repeat' with_reducible first
    | assumption | intro _ | apply setMode | apply put | apply down

theorem announce (hk : z.Keeps kp s) (old new cause detail : Nat) (injected : Bool) :
    z.Keeps kp (s.announce old new cause detail injected) := by
  unfold State.announce
  (try dsimp only)
  repeat' with_reducible first
    | assumption | intro _ | apply attn | apply error | apply alertStart | apply when

theorem surveyLeft (hk : z.Keeps kp s) : z.Keeps kp (s.surveyLeft) := by
  unfold State.surveyLeft
  repeat' with_reducible first
    | assumption | intro _ | apply alertThaw | apply putWindow

theorem enterMode (hmode : kp .mode = false) (hk : z.Keeps kp s) (m : Mode) (cause detail : Nat) (injected : Bool) :
    z.Keeps kp (s.enterMode m cause detail injected) := by
  unfold State.enterMode
  (try dsimp only)
  repeat' with_reducible first
    | assumption | intro _ | apply setDriftAt | apply alertSweep | apply showMode | apply announce | apply surveyLeft | apply when

theorem modeDomains (hmode : kp .mode = false) (hkeys : kp .keys = false) (hepoch : kp .epoch = false) (hk : z.Keeps kp s) :
    z.Keeps kp (s.modeDomains) := by
  unfold State.modeDomains
  (try dsimp only)
  repeat' with_reducible first
    | assumption | intro _ | apply quayLeave | apply switchTo | apply switchStart | apply when | apply each | apply foldl | apply dite

theorem berthHalt (hk : z.Keeps kp s) (n : Nat) : z.Keeps kp (s.berthHalt n) := by
  unfold State.berthHalt
  (try dsimp only)
  repeat' with_reducible first
    | assumption | intro _ | apply put | apply up | apply putBerth | apply fadeStop | apply recordStop | apply berthDrop
    | apply dropTicket | apply when | apply each | apply foldl | apply dite

theorem powerDown (hmode : kp .mode = false) (hkeys : kp .keys = false) (hepoch : kp .epoch = false) (hk : z.Keeps kp s) :
    z.Keeps kp (s.powerDown) := by
  unfold State.powerDown
  repeat' with_reducible first
    | assumption | intro _ | apply switchTo

theorem drawEpoch (hk : z.Keeps kp s) : z.Keeps kp (s.drawEpoch).2 := by
  unfold State.drawEpoch
  (try dsimp only)
  repeat' with_reducible first
    | assumption | intro _ | apply draw

theorem nextEpoch (hepoch : kp .epoch = false) (hk : z.Keeps kp s) : z.Keeps kp (s.nextEpoch) := by
  unfold State.nextEpoch
  (try dsimp only)
  repeat' with_reducible first
    | assumption | intro _ | apply setEpoch | apply drawEpoch | apply when | apply each | apply foldl | apply dite

theorem fullClear (hkeys : kp .keys = false) (hepoch : kp .epoch = false) (hk : z.Keeps kp s) : z.Keeps kp (s.fullClear) := by
  unfold State.fullClear
  (try dsimp only)
  repeat' with_reducible first
    | assumption | intro _ | apply down | apply alertReset | apply eraseOne | apply putChan | apply nextEpoch | apply when | apply each
    | apply foldl | apply dite | dsimp only | split | (fail_if_no_progress apply lit)

theorem windTime (hk : z.Keeps kp s) (since : Nat) : z.Keeps kp (s.windTime since) := by
  unfold State.windTime
  repeat' with_reducible first
    | assumption | intro _ | apply put

theorem windStop (hk : z.Keeps kp s) : z.Keeps kp (s.windStop) := by
  unfold State.windStop
  repeat' with_reducible first
    | assumption | intro _ | apply setWind | apply windTime | apply when | apply each | apply foldl | apply dite | dsimp only | split

theorem testsEnd (hk : z.Keeps kp s) : z.Keeps kp (s.testsEnd) := by
  unfold State.testsEnd
  (try dsimp only)
  repeat' with_reducible first
    | assumption | intro _ | apply setUnits | apply setWords | apply when | apply each

theorem clearBlocks (hk : z.Keeps kp s) : z.Keeps kp (s.clearBlocks) := by
  unfold State.clearBlocks
  (try dsimp only)
  repeat' with_reducible first
    | assumption | intro _ | apply when | apply each | apply foldl | apply dite | dsimp only | split | (fail_if_no_progress apply lit)

theorem showOutside (hk : z.Keeps kp s) : z.Keeps kp (s.showOutside) := by
  unfold State.showOutside
  (try dsimp only)
  repeat' with_reducible first
    | assumption | intro _ | apply put | apply holdFill | apply ringShow | apply showLoads | apply showLoad | apply assignRoles
    | apply engineShow | apply landShow | apply showMovements | apply assignLanes | apply afShow | apply when | apply each | apply foldl
    | apply dite

theorem showAfter (hk : z.Keeps kp s) : z.Keeps kp (s.showAfter) := by
  unfold State.showAfter
  (try dsimp only)
  repeat' with_reducible first
    | assumption | intro _ | apply down | apply timebaseOff | apply feedOff | apply showOutside | apply when | apply each

theorem resetNow (hmode : kp .mode = false) (hkeys : kp .keys = false) (hepoch : kp .epoch = false) (hk : z.Keeps kp s) (b : Boot) :
    z.Keeps kp (s.resetNow b) := by
  unfold State.resetNow
  (try dsimp only)
  repeat' with_reducible first
    | assumption | intro _ | apply setRegs | apply setBoot | apply setCustody | apply put | apply down | apply showMode
    | apply surveyLeft | apply fullClear | apply windStop | apply testsEnd | apply clearBlocks | apply showAfter | apply when
    | apply each | apply foldl | apply dite | dsimp only | split | (fail_if_no_progress apply lit) | (exact List.length_take_le ..)
    | (exact (List.length_append ..).trans_le (Nat.succ_le_of_lt (by assumption)))
    | (exact State.formed_filter (State.formed_of_clear (by assumption)))

theorem settle (hmode : kp .mode = false) (hkeys : kp .keys = false) (hepoch : kp .epoch = false) (hk : z.Keeps kp s) :
    z.Keeps kp (s.settle) := by
  unfold State.settle
  (try dsimp only)
  repeat' with_reducible first
    | assumption | intro _ | apply setClosing | apply powerDown | apply resetNow | apply when | apply each | apply foldl | apply dite
    | dsimp only | split

theorem shutdown (hmode : kp .mode = false) (hkeys : kp .keys = false) (hepoch : kp .epoch = false) (hk : z.Keeps kp s) :
    z.Keeps kp (s.shutdown) := by
  unfold State.shutdown
  (try dsimp only)
  repeat' with_reducible first
    | assumption | intro _ | apply setClosing | apply setVisiting | apply put | apply landShow | apply feedOff | apply quayLeave
    | apply berthHalt | apply settle | apply when | apply each | apply foldl | apply dite

theorem dropCommand (hk : z.Keeps kp s) : z.Keeps kp (s.dropCommand) := by
  unfold State.dropCommand
  repeat' with_reducible first
    | assumption | intro _ | apply down | apply journal | apply refusalBit | apply when | apply each | apply foldl | apply dite
    | dsimp only | split

theorem startReset (hmode : kp .mode = false) (hkeys : kp .keys = false) (hepoch : kp .epoch = false) (hk : z.Keeps kp s) (cause detail rank : Nat) (cmd : Bool) :
    z.Keeps kp (s.startReset cause detail rank cmd) := by
  unfold State.startReset
  (try dsimp only)
  repeat' with_reducible first
    | assumption | intro _ | apply setBoot | apply up | apply resetNow | apply settle | apply shutdown | apply dropCommand | apply when
    | apply each | apply foldl | apply dite

theorem anchorCause (hmode : kp .mode = false) (hk : z.Keeps kp s) (cause detail rank : Nat) (injected : Bool) :
    z.Keeps kp (s.anchorCause cause detail rank injected) := by
  unfold State.anchorCause
  (try dsimp only)
  repeat' with_reducible first
    | assumption | intro _ | apply showMode | apply announce | apply when | apply each | apply foldl | apply dite

theorem announceBoot (hk : z.Keeps kp s) : z.Keeps kp (s.announceBoot) := by
  unfold State.announceBoot
  repeat' with_reducible first
    | assumption | intro _ | apply announce | apply when | apply each | apply foldl | apply dite | dsimp only | split

theorem enterAnchor (hmode : kp .mode = false) (hkeys : kp .keys = false) (hepoch : kp .epoch = false) (hk : z.Keeps kp s) (cause detail rank : Nat) (injected : Bool) :
    z.Keeps kp (s.enterAnchor cause detail rank injected) := by
  unfold State.enterAnchor
  (try dsimp only)
  repeat' with_reducible first
    | assumption | intro _ | apply setBoot | apply enterMode | apply windStop | apply shutdown | apply dropCommand | apply anchorCause
    | apply announceBoot | apply when | apply each | apply foldl | apply dite

theorem securityAlarm (hmode : kp .mode = false) (hkeys : kp .keys = false) (hepoch : kp .epoch = false) (hk : z.Keeps kp s) (detail : Nat) (injected : Bool) :
    z.Keeps kp (s.securityAlarm detail injected) := by
  unfold State.securityAlarm
  repeat' with_reducible first
    | assumption | intro _ | apply alarmErase | apply enterAnchor | apply when | apply each | apply foldl | apply dite

theorem surveyBegin (hmode : kp .mode = false) (hkeys : kp .keys = false) (hepoch : kp .epoch = false) (hk : z.Keeps kp s) (cause detail : Nat) :
    z.Keeps kp (s.surveyBegin cause detail) := by
  unfold State.surveyBegin
  (try dsimp only)
  repeat' with_reducible first
    | assumption | intro _ | apply setVisiting | apply setSounding | apply setSoundingAt | apply up | apply down | apply supWrite
    | apply abortGroup | apply putLane | apply agcShow | apply openWindow | apply portsSurvey | apply berthSurvey | apply enterMode
    | apply modeDomains | apply when | apply each | apply foldl | apply dite | dsimp only | split

theorem surveyDeferred (hmode : kp .mode = false) (hkeys : kp .keys = false) (hepoch : kp .epoch = false) (hk : z.Keeps kp s) :
    z.Keeps kp (s.surveyDeferred) := by
  unfold State.surveyDeferred
  repeat' with_reducible first
    | assumption | intro _ | apply surveyBegin | apply when | apply each | apply foldl | apply dite

theorem surveyOver (hmode : kp .mode = false) (hkeys : kp .keys = false) (hepoch : kp .epoch = false) (hk : z.Keeps kp s) :
    z.Keeps kp (s.surveyOver) := by
  unfold State.surveyOver
  (try dsimp only)
  repeat' with_reducible first
    | assumption | intro _ | apply portsSurveyEnd | apply berthReturn | apply modeDomains | apply when | apply each

theorem surveyEnd (hmode : kp .mode = false) (hkeys : kp .keys = false) (hepoch : kp .epoch = false) (hk : z.Keeps kp s) (cause : Nat) :
    z.Keeps kp (s.surveyEnd cause) := by
  unfold State.surveyEnd
  repeat' with_reducible first
    | assumption | intro _ | apply enterMode | apply surveyDeferred | apply surveyOver | apply when | apply each | apply foldl
    | apply dite

theorem surveyDue (hmode : kp .mode = false) (hkeys : kp .keys = false) (hepoch : kp .epoch = false) (hk : z.Keeps kp s) :
    z.Keeps kp (s.surveyDue) := by
  unfold State.surveyDue
  (try dsimp only)
  repeat' with_reducible first
    | assumption | intro _ | apply up | apply surveyBegin | apply when | apply each | apply foldl | apply dite

theorem surveyDone (hmode : kp .mode = false) (hkeys : kp .keys = false) (hepoch : kp .epoch = false) (hk : z.Keeps kp s) (found : List Found) (tables : List AfEntry) :
    z.Keeps kp (s.surveyDone found tables) := by
  unfold State.surveyDone
  repeat' with_reducible first
    | assumption | intro _ | apply inventory | apply afSurvey | apply surveyEnd | apply when | apply each | apply foldl | apply dite

theorem modeCommand (hmode : kp .mode = false) (hkeys : kp .keys = false) (hepoch : kp .epoch = false) (hk : z.Keeps kp s) (src w : Nat) :
    z.Keeps kp (s.modeCommand src w) := by
  unfold State.modeCommand
  (try dsimp only)
  repeat' with_reducible first
    | assumption | intro _ | apply down | apply journal | apply write | apply startReset | apply enterAnchor | apply surveyBegin
    | apply surveyEnd | apply when | apply each | apply foldl | apply dite | dsimp only | split | (fail_if_no_progress apply lit)
    | (exact List.length_take_le ..) | (exact (List.length_append ..).trans_le (Nat.succ_le_of_lt (by assumption)))
    | (exact State.formed_filter (State.formed_of_clear (by assumption))) | (exact State.formed_filter (by assumption))
    | (exact Tbl.wf_foldl _ _ _ (fun e => e.2) _ (State.Formed.regs (by assumption)))
    | (have e := congrArg Prod.fst ‹_ = ((_ : State), _)›; dsimp only at e; subst e)

theorem surveyAtWrite (hmode : kp .mode = false) (hkeys : kp .keys = false) (hepoch : kp .epoch = false) (hk : z.Keeps kp s) (src a w : Nat) :
    z.Keeps kp (s.surveyAtWrite src a w) := by
  unfold State.surveyAtWrite
  repeat' with_reducible first
    | assumption | intro _ | apply write | apply surveyDue | apply when | apply each | apply foldl | apply dite | dsimp only | split
    | (fail_if_no_progress apply lit) | (exact List.length_take_le ..)
    | (exact (List.length_append ..).trans_le (Nat.succ_le_of_lt (by assumption)))
    | (exact State.formed_filter (State.formed_of_clear (by assumption))) | (exact State.formed_filter (by assumption))
    | (exact Tbl.wf_foldl _ _ _ (fun e => e.2) _ (State.Formed.regs (by assumption)))
    | (have e := congrArg Prod.fst ‹_ = ((_ : State), _)›; dsimp only at e; subst e)

theorem pinFull (hmode : kp .mode = false) (hkeys : kp .keys = false) (hepoch : kp .epoch = false) (hk : z.Keeps kp s) :
    z.Keeps kp (s.pinFull) := by
  unfold State.pinFull
  repeat' with_reducible first
    | assumption | intro _ | apply startReset | apply when | apply each | apply foldl | apply dite

theorem windBegin (hk : z.Keeps kp s) (quad : Bool) (clocks : Nat) (headers : List (List Byte)) (order : List Nat) (reads : List FlashRead) :
    z.Keeps kp (s.windBegin quad clocks headers order reads) := by
  unfold State.windBegin
  (try dsimp only)
  repeat' with_reducible first
    | assumption | intro _ | apply setBoot | apply setWind | apply put | apply assignRoles | apply seed | apply sampleHold
    | apply showMovements | apply announce | apply when | apply each | apply foldl | apply dite | dsimp only | split

theorem capsBegin (hk : z.Keeps kp s) : z.Keeps kp (s.capsBegin) := by
  unfold State.capsBegin
  (try dsimp only)
  repeat' with_reducible first
    | assumption | intro _ | apply down | apply refuse | apply when | apply each | apply foldl | apply dite

theorem serviceBegin (hmode : kp .mode = false) (hkeys : kp .keys = false) (hepoch : kp .epoch = false) (hk : z.Keeps kp s) :
    z.Keeps kp (s.serviceBegin) := by
  unfold State.serviceBegin
  (try dsimp only)
  repeat' with_reducible first
    | assumption | intro _ | apply txEnd | apply pilotRunShow | apply quayRunShow | apply landRunShow | apply openWindow
    | apply portsBegin | apply lanesBegin | apply berthsBegin | apply modeDomains | apply capsBegin | apply when | apply each

theorem dropItem (hkeys : kp .keys = false) (hk : z.Keeps kp s) (p seq : Nat) : z.Keeps kp (s.dropItem p seq) := by
  unfold State.dropItem
  (try dsimp only)
  repeat' with_reducible first
    | assumption | intro _ | apply setCustody | apply setLandFifo | apply setBondReqs | apply setBondNow | apply setSchedule
    | apply setTxAt | apply refreshHolds | apply showHeld | apply putReqs | apply putSchedule | apply applyDeferred | apply putIv
    | apply erase | apply landShow | apply when | apply each | apply foldl | apply dite | dsimp only | split

theorem custodyLost (hkeys : kp .keys = false) (hk : z.Keeps kp s) (l : List (Nat × Nat)) (injected : Bool) :
    z.Keeps kp (s.custodyLost l injected) := by
  unfold State.custodyLost
  (try dsimp only)
  repeat' with_reducible first
    | assumption | intro _ | apply up | apply error | apply afterRelease | apply dropItem | apply when | apply each

theorem domainFailed (hmode : kp .mode = false) (hkeys : kp .keys = false) (hepoch : kp .epoch = false) (hk : z.Keeps kp s) (d : Nat) :
    z.Keeps kp (s.domainFailed d) := by
  unfold State.domainFailed
  repeat' with_reducible first
    | assumption | intro _ | apply enterAnchor | apply when | apply each | apply foldl | apply dite

theorem domainFault (hmode : kp .mode = false) (hkeys : kp .keys = false) (hepoch : kp .epoch = false) (hk : z.Keeps kp s) (d cause : Nat) (injected : Bool) :
    z.Keeps kp (s.domainFault d cause injected) := by
  unfold State.domainFault
  (try dsimp only)
  repeat' with_reducible first
    | assumption | intro _ | apply put | apply up | apply bump | apply error | apply engineShow | apply landShow | apply putDom
    | apply domainFailed | apply when | apply each | apply foldl | apply dite

theorem restartOff (hmode : kp .mode = false) (hkeys : kp .keys = false) (hepoch : kp .epoch = false) (hk : z.Keeps kp s) (d : Nat) :
    z.Keeps kp (s.restartOff d) := by
  unfold State.restartOff
  (try dsimp only)
  repeat' with_reducible first
    | assumption | intro _ | apply put | apply putDom | apply lose | apply custodyLost | apply when | apply each | apply foldl
    | apply dite

theorem restartOn (hmode : kp .mode = false) (hkeys : kp .keys = false) (hepoch : kp .epoch = false) (hk : z.Keeps kp s) (d : Nat) :
    z.Keeps kp (s.restartOn d) := by
  unfold State.restartOn
  (try dsimp only)
  repeat' with_reducible first
    | assumption | intro _ | apply bump | apply putDom | apply switchTo

theorem restartDone (hmode : kp .mode = false) (hkeys : kp .keys = false) (hepoch : kp .epoch = false) (hk : z.Keeps kp s) (d : Nat) :
    z.Keeps kp (s.restartDone d) := by
  unfold State.restartDone
  (try dsimp only)
  repeat' with_reducible first
    | assumption | intro _ | apply up | apply error | apply restartOn | apply when | apply each

theorem restartStep (hmode : kp .mode = false) (hkeys : kp .keys = false) (hepoch : kp .epoch = false) (hk : z.Keeps kp s) (d : Nat) :
    z.Keeps kp (s.restartStep d) := by
  unfold State.restartStep
  (try dsimp only)
  repeat' with_reducible first
    | assumption | intro _ | apply setRebuilding | apply up | apply putDom | apply domainFailed | apply restartOff | apply restartDone
    | apply when | apply each | apply foldl | apply dite

theorem rebuildDone (hmode : kp .mode = false) (hkeys : kp .keys = false) (hepoch : kp .epoch = false) (hk : z.Keeps kp s) (errs : List (Nat × Nat × Nat × Byte)) :
    z.Keeps kp (s.rebuildDone errs) := by
  unfold State.rebuildDone
  (try dsimp only)
  repeat' with_reducible first
    | assumption | intro _ | apply setRebuilding | apply up | apply down | apply error | apply custodyLost | apply restartDone
    | apply when | apply each | apply foldl | apply dite

theorem restartTimeout (hmode : kp .mode = false) (hkeys : kp .keys = false) (hepoch : kp .epoch = false) (hk : z.Keeps kp s) (d : Nat) :
    z.Keeps kp (s.restartTimeout d) := by
  unfold State.restartTimeout
  repeat' with_reducible first
    | assumption | intro _ | apply domainFailed | apply when | apply each | apply foldl | apply dite

theorem supLevel (hk : z.Keeps kp s) (sup mv : Nat) : z.Keeps kp (s.supLevel sup mv) := by
  unfold State.supLevel
  (try dsimp only)
  repeat' with_reducible first
    | assumption | intro _ | apply put | apply when

theorem supplyExit (hmode : kp .mode = false) (hkeys : kp .keys = false) (hepoch : kp .epoch = false) (hk : z.Keeps kp s) (sup mv : Nat) :
    z.Keeps kp (s.supplyExit sup mv) := by
  unfold State.supplyExit
  (try dsimp only)
  repeat' with_reducible first
    | assumption | intro _ | apply mask | apply domainFault | apply supLevel | apply when | apply each | apply foldl | apply dite

theorem supplyReturn (hk : z.Keeps kp s) (sup mv : Nat) : z.Keeps kp (s.supplyReturn sup mv) := by
  unfold State.supplyReturn
  repeat' with_reducible first
    | assumption | intro _ | apply mask | apply supLevel | apply when | apply each | apply foldl | apply dite

theorem tempLevel (hk : z.Keeps kp s) (t : Nat) : z.Keeps kp (s.tempLevel t) := by
  unfold State.tempLevel
  (try dsimp only)
  repeat' with_reducible first
    | assumption | intro _ | apply put | apply when

theorem supSampled (hk : z.Keeps kp s) (sup : Nat) : z.Keeps kp (s.supSampled sup) := by
  unfold State.supSampled
  (try dsimp only)
  repeat' with_reducible first
    | assumption | intro _ | apply draw | apply supLevel | apply when | apply each | apply foldl | apply dite

theorem tempSampled (hk : z.Keeps kp s) : z.Keeps kp (s.tempSampled) := by
  unfold State.tempSampled
  (try dsimp only)
  repeat' with_reducible first
    | assumption | intro _ | apply draw | apply tempLevel | apply when | apply each | apply foldl | apply dite

theorem tempRise (hk : z.Keeps kp s) (t : Nat) : z.Keeps kp (s.tempRise t) := by
  unfold State.tempRise
  repeat' with_reducible first
    | assumption | intro _ | apply up | apply tempLevel | apply when | apply each | apply foldl | apply dite

theorem tempFall (hk : z.Keeps kp s) (t : Nat) : z.Keeps kp (s.tempFall t) := by
  unfold State.tempFall
  repeat' with_reducible first
    | assumption | intro _ | apply down | apply tempLevel | apply when | apply each | apply foldl | apply dite

theorem moveLoads (hk : z.Keeps kp s) (p m : Nat) : z.Keeps kp (s.moveLoads p m) := by
  unfold State.moveLoads
  (try dsimp only)
  repeat' with_reducible first
    | assumption | intro _ | apply carry | apply audioFamily | apply when | apply each | apply foldl | apply dite

theorem pairSearch (hk : z.Keeps kp s) (p m : Nat) : z.Keeps kp (s.pairSearch p m) := by
  unfold State.pairSearch
  (try dsimp only)
  repeat' with_reducible first
    | assumption | intro _ | apply putMov | apply search

theorem advance (hk : z.Keeps kp s) (p : Nat) (n : Nat) : z.Keeps kp (s.advance p n) := by
  induction n generalizing s with
  | zero => exact hk
  | succ n ih =>
    unfold State.advance
    repeat' with_reducible first
    | assumption | apply ih | apply putPair | apply setTrimming | apply moveLoads | apply pairSearch | apply ite | split

theorem pairDo (hk : z.Keeps kp s) (p : Nat) (l : List Job) : z.Keeps kp (s.pairDo p l) := by
  unfold State.pairDo
  (try dsimp only)
  repeat' with_reducible first
    | assumption | intro _ | apply putPair | apply advance

theorem reReference (hk : z.Keeps kp s) (p : Nat) (tcxo : Bool) : z.Keeps kp (s.reReference p tcxo) := by
  unfold State.reReference
  (try dsimp only)
  repeat' with_reducible first
    | assumption | intro _ | apply setTrimming | apply down | apply putPair | apply pairDo | apply when | apply each | apply foldl
    | apply dite

theorem driftOver (hmode : kp .mode = false) (hkeys : kp .keys = false) (hepoch : kp .epoch = false) (hk : z.Keeps kp s) :
    z.Keeps kp (s.driftOver) := by
  unfold State.driftOver
  repeat' with_reducible first
    | assumption | intro _ | apply enterMode | apply surveyDeferred | apply when | apply each | apply foldl | apply dite

theorem bandDone (hk : z.Keeps kp s) (m : Nat) (counts : List Nat) : z.Keeps kp (s.bandDone m counts) := by
  unfold State.bandDone
  (try dsimp only)
  repeat' with_reducible first
    | assumption | intro _ | apply put | apply down | apply putMov | apply when | apply each | apply foldl | apply dite

theorem movRetire (hk : z.Keeps kp s) (m : Nat) : z.Keeps kp (s.movRetire m) := by
  unfold State.movRetire
  (try dsimp only)
  repeat' with_reducible first
    | assumption | intro _ | apply setTrimming | apply putPair | apply movIdle | apply moveLoads | apply when | apply each | apply foldl
    | apply dite

theorem lockDeclared (hmode : kp .mode = false) (hkeys : kp .keys = false) (hepoch : kp .epoch = false) (hk : z.Keeps kp s) (m : Nat) :
    z.Keeps kp (s.lockDeclared m) := by
  unfold State.lockDeclared
  dsimp only
  have hc := (((hk.up (F.TB_MOV_STATUS_LOCKED m)).put (F.TB_MOV_STATUS_STATE m) 3).putMov m
    { s.mov m with good := 0, bad := 0, missed := 0 }).classify .movement m true
  generalize State.classify _ .movement m true = x at hc ⊢
  obtain ⟨t, v⟩ := x
  cases v <;> dsimp only at hc ⊢
  all_goals
   repeat' first
    | with_reducible assumption
    | with_reducible apply Keeps.driftOver
    | with_reducible apply Keeps.pairDo
    | with_reducible apply Keeps.pairSearch
    | with_reducible apply Keeps.movRetire
    | with_reducible apply Keeps.moveLoads
    | with_reducible apply Keeps.putPair
    | with_reducible apply Keeps.showMovements
    | with_reducible apply Keeps.ite
    | split

theorem lockLost (hmode : kp .mode = false) (hkeys : kp .keys = false) (hepoch : kp .epoch = false) (hk : z.Keeps kp s) (m detector : Nat) (injected : Bool) :
    z.Keeps kp (s.lockLost m detector injected) := by
  unfold State.lockLost
  (try dsimp only)
  repeat' with_reducible first
    | assumption | intro _ | apply setTrimming | apply up | apply down | apply bump | apply error | apply startTest | apply domainFault
    | apply moveLoads | apply pairSearch | apply advance | apply when | apply each | apply foldl | apply dite

theorem lockWindow (hmode : kp .mode = false) (hkeys : kp .keys = false) (hepoch : kp .epoch = false) (hk : z.Keeps kp s) (m count : Nat) :
    z.Keeps kp (s.lockWindow m count) := by
  unfold State.lockWindow
  (try dsimp only)
  repeat' with_reducible first
    | assumption | intro _ | apply putMov | apply lockDeclared | apply lockLost | apply when | apply each | apply foldl | apply dite

theorem lockMissed (hk : z.Keeps kp s) (m : Nat) : z.Keeps kp (s.lockMissed m) := by
  unfold State.lockMissed
  (try dsimp only)
  repeat' with_reducible first
    | assumption | intro _ | apply classify | apply putMov | apply movIdle | apply pairSearch | apply movRetire | apply when
    | apply each | apply foldl | apply dite | dsimp only | split | (fail_if_no_progress apply lit) | (exact List.length_take_le ..)
    | (exact (List.length_append ..).trans_le (Nat.succ_le_of_lt (by assumption)))
    | (exact State.formed_filter (State.formed_of_clear (by assumption))) | (exact State.formed_filter (by assumption))
    | (exact Tbl.wf_foldl _ _ _ (fun e => e.2) _ (State.Formed.regs (by assumption)))
    | (have e := congrArg Prod.fst ‹_ = ((_ : State), _)›; dsimp only at e; subst e)

theorem slip (hmode : kp .mode = false) (hkeys : kp .keys = false) (hepoch : kp .epoch = false) (hk : z.Keeps kp s) (m : Nat) (injected : Bool) :
    z.Keeps kp (s.slip m injected) := by
  unfold State.slip
  repeat' with_reducible first
    | assumption | intro _ | apply lockLost | apply when | apply each | apply foldl | apply dite

theorem twinGuard (hmode : kp .mode = false) (hkeys : kp .keys = false) (hepoch : kp .epoch = false) (hk : z.Keeps kp s) (p c0 c1 : Nat) :
    z.Keeps kp (s.twinGuard p c0 c1) := by
  unfold State.twinGuard
  (try dsimp only)
  repeat' with_reducible first
    | assumption | intro _ | apply lockLost | apply when | apply each | apply foldl | apply dite

theorem trimDone (hk : z.Keeps kp s) (p skew : Nat) : z.Keeps kp (s.trimDone p skew) := by
  unfold State.trimDone
  (try dsimp only)
  repeat' with_reducible first
    | assumption | intro _ | apply setTrimming | apply put | apply putPair | apply moveLoads | apply pairDo | apply when | apply each
    | apply foldl | apply dite | dsimp only | split

theorem holdover (hk : z.Keeps kp s) : z.Keeps kp (s.holdover) := by
  unfold State.holdover
  (try dsimp only)
  repeat' with_reducible first
    | assumption | intro _ | apply up | apply reReference | apply when | apply each

theorem refinLost (hmode : kp .mode = false) (hkeys : kp .keys = false) (hepoch : kp .epoch = false) (hk : z.Keeps kp s) (injected : Bool) :
    z.Keeps kp (s.refinLost injected) := by
  unfold State.refinLost
  (try dsimp only)
  repeat' with_reducible first
    | assumption | intro _ | apply setRefCount | apply up | apply down | apply error | apply enterMode | apply enterAnchor
    | apply surveyOver | apply holdover | apply when | apply each | apply foldl | apply dite

theorem refinGone (hmode : kp .mode = false) (hkeys : kp .keys = false) (hepoch : kp .epoch = false) (hk : z.Keeps kp s) (edge : Bool) (injected : Bool) :
    z.Keeps kp (s.refinGone edge injected) := by
  unfold State.refinGone
  (try dsimp only)
  repeat' with_reducible first
    | assumption | intro _ | apply setRefCount | apply regulateMovements | apply refinLost | apply when | apply each | apply foldl
    | apply dite

theorem tcxoLost (hmode : kp .mode = false) (hkeys : kp .keys = false) (hepoch : kp .epoch = false) (hk : z.Keeps kp s) (edge : Bool) (injected : Bool) :
    z.Keeps kp (s.tcxoLost edge injected) := by
  unfold State.tcxoLost
  (try dsimp only)
  repeat' with_reducible first
    | assumption | intro _ | apply setRefCount | apply up | apply down | apply error | apply enterAnchor | apply when | apply each
    | apply foldl | apply dite

theorem refinQualified (hmode : kp .mode = false) (hkeys : kp .keys = false) (hepoch : kp .epoch = false) (hk : z.Keeps kp s) :
    z.Keeps kp (s.refinQualified) := by
  unfold State.refinQualified
  (try dsimp only)
  repeat' with_reducible first
    | assumption | intro _ | apply setRefCount | apply up | apply reReference | apply driftOver | apply when | apply each | apply foldl
    | apply dite

theorem tcxoShow (hk : z.Keeps kp s) : z.Keeps kp (s.tcxoShow) := by
  unfold State.tcxoShow
  repeat' with_reducible first
    | assumption | intro _ | apply up | apply down | apply when | apply each | apply foldl | apply dite

theorem refWindow (hmode : kp .mode = false) (hkeys : kp .keys = false) (hepoch : kp .epoch = false) (hk : z.Keeps kp s) (refin tcxo : Nat) :
    z.Keeps kp (s.refWindow refin tcxo) := by
  unfold State.refWindow
  (try dsimp only)
  repeat' with_reducible first
    | assumption | intro _ | apply setRefCount | apply regulateMovements | apply refinLost | apply tcxoLost | apply refinQualified
    | apply tcxoShow | apply when | apply each | apply foldl | apply dite

theorem offsetWindow (hk : z.Keeps kp s) (off : Nat) : z.Keeps kp (s.offsetWindow off) := by
  unfold State.offsetWindow
  repeat' with_reducible first
    | assumption | intro _ | apply put | apply up | apply when | apply each | apply foldl | apply dite

theorem tbCommand (hk : z.Keeps kp s) (src a w : Nat) (rule : Rule) : z.Keeps kp (s.tbCommand src a w rule).1 := by
  unfold State.tbCommand
  (try dsimp only)
  repeat' with_reducible first
    | assumption | intro _ | apply up | apply write | apply when | apply each | apply foldl | apply dite | dsimp only | split
    | (fail_if_no_progress apply lit) | (exact List.length_take_le ..)
    | (exact (List.length_append ..).trans_le (Nat.succ_le_of_lt (by assumption)))
    | (exact State.formed_filter (State.formed_of_clear (by assumption))) | (exact State.formed_filter (by assumption))
    | (exact Tbl.wf_foldl _ _ _ (fun e => e.2) _ (State.Formed.regs (by assumption)))
    | (have e := congrArg Prod.fst ‹_ = ((_ : State), _)›; dsimp only at e; subst e)

theorem relock (hk : z.Keeps kp s) (src w : Nat) : z.Keeps kp (s.relock src w) := by
  unfold State.relock
  (try dsimp only)
  repeat' with_reducible first
    | assumption | intro _ | apply pairDo | apply tbCommand | apply when | apply each | apply foldl | apply dite | dsimp only | split
    | (fail_if_no_progress apply lit) | (exact List.length_take_le ..)
    | (exact (List.length_append ..).trans_le (Nat.succ_le_of_lt (by assumption)))
    | (exact State.formed_filter (State.formed_of_clear (by assumption))) | (exact State.formed_filter (by assumption))
    | (exact Tbl.wf_foldl _ _ _ (fun e => e.2) _ (State.Formed.regs (by assumption)))
    | (have e := congrArg Prod.fst ‹_ = ((_ : State), _)›; dsimp only at e; subst e)

theorem familyWrite (hk : z.Keeps kp s) (src w : Nat) : z.Keeps kp (s.familyWrite src w) := by
  unfold State.familyWrite
  (try dsimp only)
  repeat' with_reducible first
    | assumption | intro _ | apply putPair | apply pairDo | apply tbCommand | apply when | apply each | apply foldl | apply dite
    | dsimp only | split | (fail_if_no_progress apply lit) | (exact List.length_take_le ..)
    | (exact (List.length_append ..).trans_le (Nat.succ_le_of_lt (by assumption)))
    | (exact State.formed_filter (State.formed_of_clear (by assumption))) | (exact State.formed_filter (by assumption))
    | (exact Tbl.wf_foldl _ _ _ (fun e => e.2) _ (State.Formed.regs (by assumption)))
    | (have e := congrArg Prod.fst ‹_ = ((_ : State), _)›; dsimp only at e; subst e)

theorem setTime (htime : kp .time = false) (hk : z.Keeps kp s) (t : Nat) : z.Keeps kp (s.setTime t) := by
  unfold State.setTime
  repeat' with_reducible first
    | assumption | intro _ | apply setSec | apply setNs

theorem steerBy (hk : z.Keeps kp s) (err : Int) : z.Keeps kp (s.steerBy err) := by
  unfold State.steerBy
  repeat' with_reducible first
    | assumption | intro _ | apply setSteer | apply put

theorem takeTime (htime : kp .time = false) (hk : z.Keeps kp s) (late : Int) : z.Keeps kp (s.takeTime late) := by
  unfold State.takeTime
  repeat' with_reducible first
    | assumption | intro _ | apply setSteer | apply setTimeSet | apply down | apply setTime | apply when | apply each | apply foldl
    | apply dite | dsimp only | split

theorem ppsEdge (htime : kp .time = false) (hk : z.Keeps kp s) (edge gap : Int) : z.Keeps kp (s.ppsEdge edge gap) := by
  unfold State.ppsEdge
  (try dsimp only)
  repeat' with_reducible first
    | assumption | intro _ | apply setPpsGood | apply setPpsStep | apply put | apply up | apply down | apply bump | apply error
    | apply setTime | apply steerBy | apply takeTime | apply when | apply each | apply foldl | apply dite

theorem ppsLost (hk : z.Keeps kp s) (injected : Bool) : z.Keeps kp (s.ppsLost injected) := by
  unfold State.ppsLost
  (try dsimp only)
  repeat' with_reducible first
    | assumption | intro _ | apply setPpsGood | apply setPpsStep | apply setSteer | apply up | apply down | apply error | apply when
    | apply each | apply foldl | apply dite

theorem steerTick (htime : kp .time = false) (hk : z.Keeps kp s) : z.Keeps kp (s.steerTick) := by
  unfold State.steerTick
  (try dsimp only)
  repeat' with_reducible first
    | assumption | intro _ | apply setSteer | apply down | apply setTime | apply when | apply each | apply foldl | apply dite

theorem timeWrite (hk : z.Keeps kp s) (src a w : Nat) : z.Keeps kp (s.timeWrite src a w) := by
  unfold State.timeWrite
  repeat' with_reducible first
    | assumption | intro _ | apply setTimeSet | apply write | apply when | apply each | apply foldl | apply dite | dsimp only | split
    | (fail_if_no_progress apply lit) | (exact List.length_take_le ..)
    | (exact (List.length_append ..).trans_le (Nat.succ_le_of_lt (by assumption)))
    | (exact State.formed_filter (State.formed_of_clear (by assumption))) | (exact State.formed_filter (by assumption))
    | (exact Tbl.wf_foldl _ _ _ (fun e => e.2) _ (State.Formed.regs (by assumption)))
    | (have e := congrArg Prod.fst ‹_ = ((_ : State), _)›; dsimp only at e; subst e)

theorem wholeSecond (htime : kp .time = false) (hk : z.Keeps kp s) : z.Keeps kp (s.wholeSecond) := by
  unfold State.wholeSecond
  repeat' with_reducible first
    | assumption | intro _ | apply takeTime | apply when | apply each | apply foldl | apply dite

theorem regulated (hmode : kp .mode = false) (hkeys : kp .keys = false) (hcal : kp .cal = false) (hepoch : kp .epoch = false) (hk : z.Keeps kp s) (ms : Nat) (dIntake : List Nat × List Nat) (uIntake : Nat × Nat) :
    z.Keeps kp (s.regulated ms dIntake uIntake) := by
  unfold State.regulated
  (try dsimp only)
  repeat' with_reducible first
    | assumption | intro _ | apply setDIntake | apply setUIntake | apply put | apply tablesBuilt | apply enterMode
    | apply surveyDeferred | apply serviceBegin | apply reReference | apply when | apply each | apply foldl | apply dite

theorem regulateTimeout (hmode : kp .mode = false) (hkeys : kp .keys = false) (hepoch : kp .epoch = false) (hk : z.Keeps kp s) :
    z.Keeps kp (s.regulateTimeout) := by
  unfold State.regulateTimeout
  (try dsimp only)
  repeat' with_reducible first
    | assumption | intro _ | apply enterAnchor | apply when | apply each | apply foldl | apply dite

theorem wordTest (hk : z.Keeps kp s) (a detector : Nat) : z.Keeps kp (s.wordTest a detector) := by
  unfold State.wordTest
  (try dsimp only)
  repeat' with_reducible first
    | assumption | intro _ | apply putWord | apply when | apply each | apply foldl | apply dite

theorem wordBad (hk : z.Keeps kp s) (a : Nat) (use : WordUse) : z.Keeps kp (s.wordBad a use) := by
  unfold State.wordBad
  (try dsimp only)
  repeat' with_reducible first
    | assumption | intro _ | apply setDamaged | apply up | apply bump | apply error | apply putInput | apply when | apply each
    | apply foldl | apply dite | dsimp only | split

theorem wordMeets (hk : z.Keeps kp s) (a : Nat) (x : WordSeen) : z.Keeps kp (s.wordMeets a x) := by
  unfold State.wordMeets
  (try dsimp only)
  repeat' with_reducible first
    | assumption | intro _ | apply setInjWords | apply setDamaged | apply putFlips | apply written | apply when

theorem wordRead (hmode : kp .mode = false) (hkeys : kp .keys = false) (hepoch : kp .epoch = false) (hk : z.Keeps kp s) (a : Nat) (use : WordUse) :
    z.Keeps kp (s.wordRead a use) := by
  unfold State.wordRead
  (try dsimp only)
  repeat' with_reducible first
    | assumption | intro _ | apply setSingles | apply up | apply bump | apply error | apply laneFault | apply securityAlarm
    | apply wordTest | apply wordBad | apply when | apply each | apply foldl | apply dite | dsimp only | split

theorem scrub (hmode : kp .mode = false) (hkeys : kp .keys = false) (hepoch : kp .epoch = false) (hk : z.Keeps kp s) (mem bank row col : Nat) (x : WordSeen) :
    z.Keeps kp (s.scrub mem bank row col x) := by
  unfold State.scrub
  (try dsimp only)
  repeat' with_reducible first
    | assumption | intro _ | apply bumpWrap | apply wordMeets | apply wordRead | apply when | apply each | apply foldl | apply dite

theorem scrubLate (hk : z.Keeps kp s) (injected : Bool) : z.Keeps kp (s.scrubLate injected) := by
  unfold State.scrubLate
  repeat' with_reducible first
    | assumption | intro _ | apply up | apply error | apply when | apply each | apply foldl | apply dite

theorem wordLasting (hmode : kp .mode = false) (hkeys : kp .keys = false) (hepoch : kp .epoch = false) (hk : z.Keeps kp s) (a : Nat) (d : Nat) (args : EArgs) (recurs : Bool) :
    z.Keeps kp (s.wordLasting a d args recurs) := by
  unfold State.wordLasting
  (try dsimp only)
  repeat' with_reducible first
    | assumption | intro _ | apply setRowsDue | apply up | apply draw | apply error | apply putWord | apply laneFault
    | apply securityAlarm | apply when | apply each | apply foldl | apply dite | dsimp only | split

theorem wordTested (hmode : kp .mode = false) (hkeys : kp .keys = false) (hepoch : kp .epoch = false) (hk : z.Keeps kp s) (a : Nat) (pass : Bool) :
    z.Keeps kp (s.wordTested a pass) := by
  unfold State.wordTested
  (try dsimp only)
  repeat' with_reducible first
    | assumption | intro _ | apply setInjWords | apply setSingles | apply error | apply putFlips | apply putWord | apply wordLasting
    | apply when | apply each | apply foldl | apply dite

theorem rowReplaced (hrows : kp .rows = false) (hk : z.Keeps kp s) (mem bank row : Nat) : z.Keeps kp (s.rowReplaced mem bank row) := by
  unfold State.rowReplaced
  (try dsimp only)
  repeat' with_reducible first
    | assumption | intro _ | apply setFlips | apply setWords | apply setRowMap | apply setRowsDue | apply setInjWords | apply put
    | apply up | apply putFlips | apply when | apply each | apply foldl | apply dite | dsimp only | split

theorem txRetired (hk : z.Keeps kp s) : z.Keeps kp (s.txRetired) := by
  unfold State.txRetired
  (try dsimp only)
  repeat' with_reducible first
    | assumption | intro _ | apply put | apply txEnd | apply pilotRunShow | apply supDo | apply when | apply each

theorem unitTested (hk : z.Keeps kp s) (ty idx : Nat) (pass : Bool) : z.Keeps kp (s.unitTested ty idx pass) := by
  unfold State.unitTested
  repeat' with_reducible first
    | assumption | intro _ | apply down | apply classify | apply engineShow | apply setOut | apply txRetired | apply when | apply each
    | apply foldl | apply dite | dsimp only | split | (fail_if_no_progress apply lit) | (exact List.length_take_le ..)
    | (exact (List.length_append ..).trans_le (Nat.succ_le_of_lt (by assumption)))
    | (exact State.formed_filter (State.formed_of_clear (by assumption))) | (exact State.formed_filter (by assumption))
    | (exact Tbl.wf_foldl _ _ _ (fun e => e.2) _ (State.Formed.regs (by assumption)))
    | (have e := congrArg Prod.fst ‹_ = ((_ : State), _)›; dsimp only at e; subst e)

theorem protWrite (hk : z.Keeps kp s) (src w : Nat) : z.Keeps kp (s.protWrite src w) := by
  unfold State.protWrite
  (try dsimp only)
  repeat' with_reducible first
    | assumption | intro _ | apply setRetesting | apply put | apply write | apply putLane | apply when | apply each | apply foldl
    | apply dite | dsimp only | split | (fail_if_no_progress apply lit) | (exact List.length_take_le ..)
    | (exact (List.length_append ..).trans_le (Nat.succ_le_of_lt (by assumption)))
    | (exact State.formed_filter (State.formed_of_clear (by assumption))) | (exact State.formed_filter (by assumption))
    | (exact Tbl.wf_foldl _ _ _ (fun e => e.2) _ (State.Formed.regs (by assumption)))
    | (have e := congrArg Prod.fst ‹_ = ((_ : State), _)›; dsimp only at e; subst e)

theorem restore (hk : z.Keeps kp s) (u : UnitType) (i : Nat) : z.Keeps kp (s.restore u i) := by
  unfold State.restore
  (try dsimp only)
  repeat' with_reducible first
    | assumption | intro _ | apply setWords | apply putUnit | apply showRetired | apply craneBack | apply putLane | apply engineShow
    | apply putMov | apply search | apply setOut | apply portShow | apply when | apply each | apply foldl | apply dite | dsimp only
    | split

theorem retested (hk : z.Keeps kp s) (pass : Bool) : z.Keeps kp (s.retested pass) := by
  unfold State.retested
  (try dsimp only)
  repeat' with_reducible first
    | assumption | intro _ | apply setRetesting | apply put | apply error | apply putLane | apply restore | apply when | apply each
    | apply foldl | apply dite | dsimp only | split

theorem disarm (hk : z.Keeps kp s) : z.Keeps kp (s.disarm) := by
  unfold State.disarm
  repeat' with_reducible first
    | assumption | intro _ | apply setInj | apply down

theorem injWrite (hk : z.Keeps kp s) (src w : Nat) : z.Keeps kp (s.injWrite src w) := by
  unfold State.injWrite
  (try dsimp only)
  repeat' with_reducible first
    | assumption | intro _ | apply setInj | apply put | apply up | apply write | apply disarm | apply when | apply each | apply foldl
    | apply dite | dsimp only | split | (fail_if_no_progress apply lit) | (exact List.length_take_le ..)
    | (exact (List.length_append ..).trans_le (Nat.succ_le_of_lt (by assumption)))
    | (exact State.formed_filter (State.formed_of_clear (by assumption))) | (exact State.formed_filter (by assumption))
    | (exact Tbl.wf_foldl _ _ _ (fun e => e.2) _ (State.Formed.regs (by assumption)))
    | (have e := congrArg Prod.fst ‹_ = ((_ : State), _)›; dsimp only at e; subst e)

theorem fifoFault (hk : z.Keeps kp s) (h : Nat) : z.Keeps kp (s.fifoFault h) := by
  unfold State.fifoFault
  (try dsimp only)
  repeat' with_reducible first
    | assumption | intro _ | apply up | apply error | apply when

theorem injEffect (hmode : kp .mode = false) (hkeys : kp .keys = false) (hepoch : kp .epoch = false) (hk : z.Keeps kp s) (j : Inj) :
    z.Keeps kp (s.injEffect j) := by
  unfold State.injEffect
  (try dsimp only)
  repeat' with_reducible first
    | assumption | intro _ | apply setInjWords | apply setInjStall | apply up | apply down | apply attn | apply error | apply putFlips
    | apply startTest | apply urgentStart | apply urgentAccept | apply craneFault | apply laneFault | apply entropyFail
    | apply unwrapFault | apply bondResidue | apply portUnderrun | apply intakeFault | apply feedTrip | apply feedStuckSeen
    | apply securityAlarm | apply domainFault | apply lockLost | apply slip | apply refinGone | apply tcxoLost | apply ppsLost
    | apply scrubLate | apply fifoFault | apply when | apply each | apply foldl | apply dite

theorem injFire (hmode : kp .mode = false) (hkeys : kp .keys = false) (hepoch : kp .epoch = false) (hk : z.Keeps kp s) (j : Inj) :
    z.Keeps kp (s.injFire j) := by
  unfold State.injFire
  (try dsimp only)
  repeat' with_reducible first
    | assumption | intro _ | apply setInj | apply up | apply bump | apply disarm | apply injEffect | apply when

theorem injTick (hmode : kp .mode = false) (hkeys : kp .keys = false) (hepoch : kp .epoch = false) (hk : z.Keeps kp s) :
    z.Keeps kp (s.injTick) := by
  unfold State.injTick
  repeat' with_reducible first
    | assumption | intro _ | apply injFire | apply when | apply each | apply foldl | apply dite | dsimp only | split

theorem foreseen (hk : z.Keeps kp s) (c : Nat) (group : Bool) : z.Keeps kp (s.foreseen c group) := by
  unfold State.foreseen
  (try dsimp only)
  repeat' with_reducible first
    | assumption | intro _ | apply put | apply when | apply each

theorem written (hk : z.Keeps kp s) (r : RDesc) (base new : Nat) : z.Keeps kp (s.written r base new) := by
  unfold State.written
  (try dsimp only)
  repeat' with_reducible first
    | assumption | intro _ | apply put | apply loadStandard | apply foreseen | apply when | apply each | apply foldl | apply dite
    | dsimp only | split

theorem berthRunShow (hk : z.Keeps kp s) (before : State) (n : Nat) : z.Keeps kp (s.berthRunShow before n) := by
  unfold State.berthRunShow
  (try dsimp only)
  repeat' with_reducible first
    | assumption | intro _ | apply put | apply putBerth | apply freeArea | apply freeLoads | apply fadeStop | apply berthBegin
    | apply when | apply each | apply foldl | apply dite

theorem blockShow (hk : z.Keeps kp s) (before : State) (c : Nat) : z.Keeps kp (s.blockShow before c) := by
  unfold State.blockShow
  (try dsimp only)
  repeat' with_reducible first
    | assumption | intro _ | apply down | apply showHeld | apply capStop | apply showLoad | apply pilotRunShow | apply quayRunShow
    | apply landRunShow | apply fadeChange | apply copyFields | apply piJudge | apply eidJudge | apply sidJudge | apply showOutputs
    | apply showIntakes | apply portChanged | apply afShow | apply berthRunShow | apply when | apply each | apply foldl | apply dite

theorem armGroup (hk : z.Keeps kp s) (c : Nat) : z.Keeps kp (s.armGroup c) := by
  unfold State.armGroup
  (try dsimp only)
  repeat' with_reducible first
    | assumption | intro _ | apply put | apply shade | apply abortGroup | apply when | apply each | apply foldl | apply dite

theorem groupState (hk : z.Keeps kp s) (c : Nat) : z.Keeps kp (s.groupState c) := by
  unfold State.groupState
  repeat' with_reducible first
    | assumption | intro _ | apply foreseen

theorem commitWrite (hk : z.Keeps kp s) (src c w : Nat) : z.Keeps kp (s.commitWrite src c w) := by
  unfold State.commitWrite
  (try dsimp only)
  repeat' with_reducible first
    | assumption | intro _ | apply setGroupOf | apply up | apply write | apply abortGroup | apply admitRefused | apply blockShow
    | apply armGroup | apply groupState | apply when | apply each | apply foldl | apply dite | dsimp only | split
    | (fail_if_no_progress apply lit) | (exact List.length_take_le ..)
    | (exact (List.length_append ..).trans_le (Nat.succ_le_of_lt (by assumption)))
    | (exact State.formed_filter (State.formed_of_clear (by assumption))) | (exact State.formed_filter (by assumption))
    | (exact Tbl.wf_foldl _ _ _ (fun e => e.2) _ (State.Formed.regs (by assumption)))
    | (have e := congrArg Prod.fst ‹_ = ((_ : State), _)›; dsimp only at e; subst e)

theorem boundary (hk : z.Keeps kp s) (c u : Nat) : z.Keeps kp (s.boundary c u) := by
  unfold State.boundary
  (try dsimp only)
  repeat' with_reducible first
    | assumption | intro _ | apply applyArmed | apply applyFields | apply laneApply | apply quayBoundary | apply landBoundary
    | apply fadeBlock | apply berthBoundary | apply blockShow | apply when | apply each | apply foldl | apply dite

theorem readEntry (hmode : kp .mode = false) (hkeys : kp .keys = false) (hepoch : kp .epoch = false) (hk : z.Keeps kp s) (use : WordUse) :
    z.Keeps kp (s.readEntry use).2 := by
  unfold State.readEntry
  repeat' with_reducible first
    | assumption | intro _ | apply wordRead | apply when | apply each | apply foldl | apply dite | dsimp only | split

theorem journalSelect (hmode : kp .mode = false) (hkeys : kp .keys = false) (hepoch : kp .epoch = false) (hk : z.Keeps kp s) :
    z.Keeps kp (s.journalSelect) := by
  unfold State.journalSelect
  dsimp only
  have h1 : z.Keeps kp (if (s.jnl.find? (fun e => e.number == s.get F.JNL_SELECT_NUMBER)).isSome then
      s.readEntry (.change (s.get F.JNL_SELECT_NUMBER)) else (false, s)).2 := by
    split
    · exact Keeps.readEntry hmode hkeys hepoch hk _
    · exact hk
  exact Keeps.put (Keeps.each h1 (fun i t ht => ht.put ..)) ..

theorem lostMark (hk : z.Keeps kp s) : z.Keeps kp (s.lostMark) := by
  unfold State.lostMark
  (try dsimp only)
  repeat' with_reducible first
    | assumption | intro _ | apply setJnlLost | apply down | apply journal | apply when | apply each | apply foldl | apply dite

theorem errorSelect (hmode : kp .mode = false) (hkeys : kp .keys = false) (hepoch : kp .epoch = false) (hk : z.Keeps kp s) :
    z.Keeps kp (s.errorSelect) := by
  unfold State.errorSelect
  dsimp only
  have h1 : z.Keeps kp (if (s.err.find? (fun e => e.number == s.get F.ERR_SELECT_NUMBER)).isSome then
      s.readEntry (.error (s.get F.ERR_SELECT_NUMBER)) else (false, s)).2 := by
    split
    · exact Keeps.readEntry hmode hkeys hepoch hk _
    · exact hk
  exact Keeps.put (Keeps.each h1 (fun i t ht => ht.put ..)) ..

theorem statSelect (hk : z.Keeps kp s) : z.Keeps kp (s.statSelect) := by
  unfold State.statSelect
  (try dsimp only)
  repeat' with_reducible first
    | assumption | intro _ | apply put

theorem afterWrite (hmode : kp .mode = false) (hkeys : kp .keys = false) (hepoch : kp .epoch = false) (hk : z.Keeps kp s) (before : State) (base new : Nat) :
    z.Keeps kp (s.afterWrite before base new) := by
  unfold State.afterWrite
  (try dsimp only)
  repeat' with_reducible first
    | assumption | intro _ | apply setSyncMask | apply setKeyWrap | apply setKekData | apply down | apply journal | apply handTicket
    | apply agcShow | apply loadStandard | apply blockShow | apply journalSelect | apply lostMark | apply errorSelect | apply statSelect
    | apply when | apply each | apply foldl | apply dite | dsimp only | split | (fail_if_no_progress apply lit)

theorem plainWrite (hmode : kp .mode = false) (hkeys : kp .keys = false) (hepoch : kp .epoch = false) (hk : z.Keeps kp s) (src a w : Nat) :
    z.Keeps kp (s.plainWrite src a w) := by
  unfold State.plainWrite
  (try dsimp only)
  repeat' with_reducible first
    | assumption | intro _ | apply journal | apply write | apply admitRefused | apply loadStandard | apply written | apply afterWrite
    | apply when | apply each | apply foldl | apply dite | dsimp only | split | (fail_if_no_progress apply lit)
    | (exact List.length_take_le ..) | (exact (List.length_append ..).trans_le (Nat.succ_le_of_lt (by assumption)))
    | (exact State.formed_filter (State.formed_of_clear (by assumption))) | (exact State.formed_filter (by assumption))
    | (exact Tbl.wf_foldl _ _ _ (fun e => e.2) _ (State.Formed.regs (by assumption)))
    | (have e := congrArg Prod.fst ‹_ = ((_ : State), _)›; dsimp only at e; subst e)

theorem regWrite (hmode : kp .mode = false) (hkeys : kp .keys = false) (hepoch : kp .epoch = false) (hk : z.Keeps kp s) (src a w : Nat) :
    z.Keeps kp (s.regWrite src a w) := by
  unfold State.regWrite
  (try dsimp only)
  repeat' with_reducible first
    | assumption | intro _ | apply alertWrite | apply urgEntryWrite | apply bondCmd | apply fadeCommand | apply auStart
    | apply feedWrite | apply domWrite | apply modeCommand | apply surveyAtWrite | apply relock | apply familyWrite | apply timeWrite
    | apply protWrite | apply injWrite | apply commitWrite | apply plainWrite | apply when | apply each | apply foldl | apply dite

theorem refreshed (hk : z.Keeps kp s) (base : Nat) : z.Keeps kp (s.refreshed base) := by
  unfold State.refreshed
  (try dsimp only)
  repeat' with_reducible first
    | assumption | intro _ | apply put | apply supSampled | apply tempSampled | apply when | apply each | apply foldl | apply dite

theorem readWord (hk : z.Keeps kp s) (a : Nat) : z.Keeps kp (s.readWord a) := by
  unfold State.readWord
  (try dsimp only)
  repeat' with_reducible first
    | assumption | intro _ | apply setSnap | apply setTw | apply put | apply touch | apply refreshed | apply when | apply each
    | apply foldl | apply dite | dsimp only | split

theorem twClose (hk : z.Keeps kp s) : z.Keeps kp (s.twClose) := by
  unfold State.twClose
  (try dsimp only)
  repeat' with_reducible first
    | assumption | intro _ | apply setTw

theorem twStart (hk : z.Keeps kp s) (addr : Nat) (read : Bool) : z.Keeps kp (s.twStart addr read) := by
  unfold State.twStart
  (try dsimp only)
  repeat' with_reducible first
    | assumption | intro _ | apply setTw | apply when | apply each | apply foldl | apply dite

theorem twPointer (hk : z.Keeps kp s) (ra : Nat) : z.Keeps kp (s.twPointer ra) := by
  unfold State.twPointer
  (try dsimp only)
  repeat' with_reducible first
    | assumption | intro _ | apply setTw | apply when | apply each | apply foldl | apply dite

theorem twWrite (hmode : kp .mode = false) (hkeys : kp .keys = false) (hepoch : kp .epoch = false) (hk : z.Keeps kp s) (w : Nat) :
    z.Keeps kp (s.twWrite w) := by
  unfold State.twWrite
  (try dsimp only)
  repeat' with_reducible first
    | assumption | intro _ | apply setTw | apply regWrite | apply when | apply each | apply foldl | apply dite

theorem twRead (hk : z.Keeps kp s) (ack : Bool) : z.Keeps kp (s.twRead ack) := by
  unfold State.twRead
  (try dsimp only)
  repeat' with_reducible first
    | assumption | intro _ | apply setTw | apply readWord | apply when | apply each | apply foldl | apply dite

theorem twStop (hk : z.Keeps kp s) : z.Keeps kp (s.twStop) := by
  unfold State.twStop
  (try dsimp only)
  repeat' with_reducible first
    | assumption | intro _ | apply setTw | apply twClose

theorem twDiscard (hk : z.Keeps kp s) (partialWord : Bool) : z.Keeps kp (s.twDiscard partialWord) := by
  unfold State.twDiscard
  repeat' with_reducible first
    | assumption | intro _ | apply up | apply when

theorem twFrame (hk : z.Keeps kp s) (start partialWord : Bool) : z.Keeps kp (s.twFrame start partialWord) := by
  unfold State.twFrame
  (try dsimp only)
  repeat' with_reducible first
    | assumption | intro _ | apply setTw | apply up | apply bump | apply twStop | apply twDiscard | apply when | apply each
    | apply foldl | apply dite

theorem twAbandon (hk : z.Keeps kp s) (partialWord : Bool) : z.Keeps kp (s.twAbandon partialWord) := by
  unfold State.twAbandon
  repeat' with_reducible first
    | assumption | intro _ | apply up | apply twClose | apply twDiscard | apply when | apply each | apply foldl | apply dite

theorem twStale (hk : z.Keeps kp s) : z.Keeps kp (s.twStale) := by
  unfold State.twStale
  (try dsimp only)
  repeat' with_reducible first
    | assumption | intro _ | apply setSnap | apply setTw | apply up | apply bump | apply touch | apply when | apply each | apply foldl
    | apply dite

theorem twSclStuck (hk : z.Keeps kp s) (partialWord : Bool) : z.Keeps kp (s.twSclStuck partialWord) := by
  unfold State.twSclStuck
  repeat' with_reducible first
    | assumption | intro _ | apply up | apply twClose | apply twDiscard | apply when | apply each | apply foldl | apply dite

theorem twSdaStuck (hk : z.Keeps kp s) : z.Keeps kp (s.twSdaStuck) := by
  unfold State.twSdaStuck
  repeat' with_reducible first
    | assumption | intro _ | apply up | apply when | apply each | apply foldl | apply dite

theorem twRisen (hk : z.Keeps kp s) (scl : Bool) : z.Keeps kp (s.twRisen scl) := by
  unfold State.twRisen
  (try dsimp only)
  repeat' with_reducible first
    | assumption | intro _ | apply down | apply attn | apply when | apply each | apply foldl | apply dite

theorem pulseStart (hk : z.Keeps kp s) : z.Keeps kp (s.pulseStart) := by
  unfold State.pulseStart
  (try dsimp only)
  repeat' with_reducible first
    | assumption | intro _ | apply setTw | apply when | apply each | apply foldl | apply dite

theorem pulseEnd (hk : z.Keeps kp s) : z.Keeps kp (s.pulseEnd) := by
  unfold State.pulseEnd
  (try dsimp only)
  repeat' with_reducible first
    | assumption | intro _ | apply setTw | apply down | apply bump | apply when | apply each | apply foldl | apply dite

theorem pulseCollide (hk : z.Keeps kp s) : z.Keeps kp (s.pulseCollide) := by
  unfold State.pulseCollide
  (try dsimp only)
  repeat' with_reducible first
    | assumption | intro _ | apply setTw | apply bump | apply when | apply each | apply foldl | apply dite

theorem attnRepeat (hk : z.Keeps kp s) : z.Keeps kp (s.attnRepeat) := by
  unfold State.attnRepeat
  repeat' with_reducible first
    | assumption | intro _ | apply up | apply when | apply each | apply foldl | apply dite

theorem windClean (hk : z.Keeps kp s) : z.Keeps kp (s.windClean) := by
  unfold State.windClean
  repeat' with_reducible first
    | assumption | intro _ | apply setRegs | apply setPeriodics | apply showOutside | apply when | apply each | apply foldl | apply dite
    | dsimp only | split | (fail_if_no_progress apply lit) | (exact List.length_take_le ..)
    | (exact (List.length_append ..).trans_le (Nat.succ_le_of_lt (by assumption)))
    | (exact State.formed_filter (State.formed_of_clear (by assumption))) | (exact State.formed_filter (by assumption))

theorem imageWord (hmode : kp .mode = false) (hkeys : kp .keys = false) (hepoch : kp .epoch = false) (hk : z.Keeps kp s) (a w : Nat) :
    z.Keeps kp (s.imageWord a w) := by
  unfold State.imageWord
  repeat' with_reducible first
    | assumption | intro _ | apply urgEntryWrite | apply timeWrite | apply plainWrite | apply when | apply each | apply foldl
    | apply dite

theorem imageBank (hk : z.Keeps kp s) (b : Nat) (taps : List Nat) : z.Keeps kp (s.imageBank b taps) := by
  unfold State.imageBank
  (try dsimp only)
  repeat' with_reducible first
    | assumption | intro _ | apply put | apply journal | apply refusalBit | apply when | apply each | apply foldl | apply dite

theorem imageKey (hkeys : kp .keys = false) (hk : z.Keeps kp s) (k : Nat × Nat × List Byte) : z.Keeps kp (s.imageKey k) := by
  unfold State.imageKey
  repeat' with_reducible first
    | assumption | intro _ | apply loadSlot | apply when | apply each | apply foldl | apply dite | dsimp only | split

theorem imageSchedule (hk : z.Keeps kp s) (h : List Byte) (p : List Periodic) : z.Keeps kp (s.imageSchedule h p) := by
  unfold State.imageSchedule
  (try dsimp only)
  repeat' with_reducible first
    | assumption | intro _ | apply setPeriodics | apply put | apply journal

theorem imageUrgent (hk : z.Keeps kp s) (l : List (Nat × Nat × Nat × Nat)) : z.Keeps kp (s.imageUrgent l) := by
  unfold State.imageUrgent
  (try dsimp only)
  repeat' with_reducible first
    | assumption | intro _ | apply put | apply journal | apply when | apply each

theorem applySection (hmode : kp .mode = false) (hkeys : kp .keys = false) (hepoch : kp .epoch = false) (hk : z.Keeps kp s) (img : List Byte) (e : SecEntry) :
    z.Keeps kp (s.applySection img e) := by
  unfold State.applySection
  (try dsimp only)
  repeat' with_reducible first
    | assumption | intro _ | apply journal | apply afPut | apply imageWord | apply imageBank | apply imageKey | apply imageSchedule
    | apply imageUrgent | apply when | apply each | apply foldl | apply dite | dsimp only | split

theorem windMark (hk : z.Keeps kp s) (code copy half : Nat) : z.Keeps kp (s.windMark code copy half) := by
  unfold State.windMark
  repeat' with_reducible first
    | assumption | intro _ | apply journal

theorem applyCopy (hmode : kp .mode = false) (hkeys : kp .keys = false) (hepoch : kp .epoch = false) (hk : z.Keeps kp s) (copy : Nat) (h img : List Byte) :
    z.Keeps kp (s.applyCopy copy h img) := by
  unfold State.applyCopy
  (try dsimp only)
  repeat' with_reducible first
    | assumption | intro _ | apply holdFill | apply showLoad | apply windClean | apply applySection | apply windMark | apply when
    | apply each

theorem windFails (hmode : kp .mode = false) (hkeys : kp .keys = false) (hepoch : kp .epoch = false) (hk : z.Keeps kp s) :
    z.Keeps kp (s.windFails) := by
  unfold State.windFails
  repeat' with_reducible first
    | assumption | intro _ | apply enterAnchor

theorem windStart (hmode : kp .mode = false) (hkeys : kp .keys = false) (hepoch : kp .epoch = false) (hk : z.Keeps kp s) (x : Sfdp) (hdr0 hdr1 : List Byte) :
    z.Keeps kp (s.windStart x hdr0 hdr1) := by
  unfold State.windStart
  (try dsimp only)
  repeat' with_reducible first
    | assumption | intro _ | apply put | apply down | apply windBegin | apply windFails | apply when | apply each | apply foldl
    | apply dite | dsimp only | split

theorem windEnd (hmode : kp .mode = false) (hkeys : kp .keys = false) (hepoch : kp .epoch = false) (hk : z.Keeps kp s) (w : Wind) (copy : Nat) (h img : List Byte) :
    z.Keeps kp (s.windEnd w copy h img) := by
  unfold State.windEnd
  (try dsimp only)
  repeat' with_reducible first
    | assumption | intro _ | apply setWind | apply setRefCount | apply put | apply regulateMovements | apply sweepBegin
    | apply feedsBegin | apply enterMode | apply modeDomains | apply windTime | apply surveyDue | apply tcxoShow | apply applyCopy
    | apply when

theorem windCopy (hmode : kp .mode = false) (hkeys : kp .keys = false) (hepoch : kp .epoch = false) (hk : z.Keeps kp s) (copy : Nat) (img : List Byte) :
    z.Keeps kp (s.windCopy copy img) := by
  unfold State.windCopy
  (try dsimp only)
  repeat' with_reducible first
    | assumption | intro _ | apply setWind | apply put | apply windFails | apply windEnd | apply when | apply each | apply foldl
    | apply dite | dsimp only | split

theorem withFetchWord (hk : z.Keeps kp s) (nbits w : Nat) : z.Keeps kp (s.withFetchWord nbits w) := by
  unfold State.withFetchWord
  repeat' with_reducible first
    | assumption | intro _ | apply setPending | apply when | apply each | apply foldl | apply dite | dsimp only | split

theorem finish {t : State} (hk : z.Keeps kp t) (s : State) : z.Keeps kp (s.finish t) := by
  unfold State.finish State.shown
  exact (((hk.shedFades.recordsTouch.put _ _).put _ _).alertShow).setPending _

theorem shown (hk : z.Keeps kp s) : z.Keeps kp (s.shown) := by
  unfold State.shown
  repeat' with_reducible first
    | assumption | intro _ | apply put | apply alertShow

theorem banOver (hk : z.Keeps kp s) (h cand : Nat) : z.Keeps kp (s.banOver h cand) := by
  unfold State.banOver
  (try dsimp only)
  repeat' with_reducible first
    | assumption | intro _ | apply putFoll

theorem reseed (hk : z.Keeps kp s) : z.Keeps kp (s.reseed) := by
  unfold State.reseed
  repeat' with_reducible first
    | assumption | intro _ | apply seed | apply when | apply each | apply foldl | apply dite

theorem serveRound (hmode : kp .mode = false) (hkeys : kp .keys = false) (hepoch : kp .epoch = false) (hk : z.Keeps kp s) (bytes : Nat) (roundOk : Bool) :
    z.Keeps kp (s.serveRound bytes roundOk) := by
  unfold State.serveRound
  repeat' with_reducible first
    | assumption | intro _ | apply serve | apply securityAlarm | apply when | apply each | apply foldl | apply dite

theorem pilotArrive (hk : z.Keeps kp s) (src srcSeq : Nat) (cont : Bool) (data : List Byte) :
    z.Keeps kp (s.pilotArrive src srcSeq cont data) := by
  unfold State.pilotArrive
  repeat' with_reducible first
    | assumption | intro _ | apply take | apply txAccept | apply bondSettle | apply when | apply each | apply foldl | apply dite

theorem nanosecond (htime : kp .time = false) (hk : z.Keeps kp s) : z.Keeps kp (s.nanosecond) := by
  unfold State.nanosecond
  (try dsimp only)
  repeat' with_reducible first
    | assumption | intro _ | apply setSec | apply setNs | apply setClock | apply setFine | apply when | apply each | apply foldl
    | apply dite

theorem tick (hmode : kp .mode = false) (hkeys : kp .keys = false) (htime : kp .time = false) (hepoch : kp .epoch = false) (hk : z.Keeps kp s) :
    z.Keeps kp (s.tick) := by
  unfold State.tick
  split
  · exact hk
  · exact Keeps.finish (((((((hk.nanosecond htime).quayShares _).craneShares _).steerTick htime).soundStart).audioTick hmode hkeys hepoch).injTick hmode hkeys hepoch) s

end State.Keeps

end Sys2Proof.Machine
end

