-- ==== Sys2Proof/Laws/Frames.lean ====
section
/-! SUPPORT. How the frames of `Safety.lean` are shown: one lemma per update of a register field, and the end of a command. -/

namespace Sys2Proof.Machine

variable {l : List Fld} {s t u : State}

theorem State.fieldsBut.refl (l : List Fld) (s : State) : State.fieldsBut l s s := fun _ _ => rfl

theorem State.fieldsBut.put (h : State.fieldsBut l s t) {f : Fld} (hf : f.key ∈ l.map Fld.key) (v : Nat) : State.fieldsBut l s (t.put f v) :=
  fun g hg => (State.get_put_ne t v (fun e => hg (by rw [e]; exact hf))).trans (h g hg)

theorem State.fieldsBut.up (h : State.fieldsBut l s t) {f : Fld} (hf : f.key ∈ l.map Fld.key) : State.fieldsBut l s (t.up f) := h.put hf 1

theorem State.fieldsBut.down (h : State.fieldsBut l s t) {f : Fld} (hf : f.key ∈ l.map Fld.key) : State.fieldsBut l s (t.down f) := h.put hf 0

theorem State.fieldsBut.bump (h : State.fieldsBut l s t) {f : Fld} (hf : f.key ∈ l.map Fld.key) : State.fieldsBut l s (t.bump f) := h.put hf _

theorem State.fieldsBut.bumpWrap (h : State.fieldsBut l s t) {f : Fld} (hf : f.key ∈ l.map Fld.key) : State.fieldsBut l s (t.bumpWrap f) :=
  h.put hf _

/-- An update of the state that leaves the registers. -/
theorem State.fieldsBut.other (h : State.fieldsBut l s t) (hr : u.regs = t.regs) : State.fieldsBut l s u :=
  fun g hg => by rw [← h g hg]; simp [State.get, hr]

/-! The updates of other parts of the state. -/

theorem State.fieldsBut.setPending (h : State.fieldsBut l s t) (v : List Instr) : State.fieldsBut l s (t.setPending v) := h
theorem State.fieldsBut.setStage (h : State.fieldsBut l s t) (v : Option Stage) : State.fieldsBut l s (t.setStage v) := h
theorem State.fieldsBut.setSnap (h : State.fieldsBut l s t) (v : List (Nat × Nat)) : State.fieldsBut l s (t.setSnap v) := h
theorem State.fieldsBut.setShadow (h : State.fieldsBut l s t) (v : List Shadow) : State.fieldsBut l s (t.setShadow v) := h
theorem State.fieldsBut.setGroupOf (h : State.fieldsBut l s t) (v : List (Nat × Nat)) : State.fieldsBut l s (t.setGroupOf v) := h
theorem State.fieldsBut.setSec (h : State.fieldsBut l s t) (v : Nat) : State.fieldsBut l s (t.setSec v) := h
theorem State.fieldsBut.setNs (h : State.fieldsBut l s t) (v : Nat) : State.fieldsBut l s (t.setNs v) := h
theorem State.fieldsBut.setFreeCtr (h : State.fieldsBut l s t) (v : Nat) : State.fieldsBut l s (t.setFreeCtr v) := h
theorem State.fieldsBut.setMode (h : State.fieldsBut l s t) (v : Mode) : State.fieldsBut l s (t.setMode v) := h
theorem State.fieldsBut.setJnl (h : State.fieldsBut l s t) (v : List JEntry) : State.fieldsBut l s (t.setJnl v) := h
theorem State.fieldsBut.setJnlCount (h : State.fieldsBut l s t) (v : Nat) : State.fieldsBut l s (t.setJnlCount v) := h
theorem State.fieldsBut.setErr (h : State.fieldsBut l s t) (v : List EEntry) : State.fieldsBut l s (t.setErr v) := h
theorem State.fieldsBut.setErrCount (h : State.fieldsBut l s t) (v : Nat) : State.fieldsBut l s (t.setErrCount v) := h
theorem State.fieldsBut.setErrExport (h : State.fieldsBut l s t) (v : List EEntry) : State.fieldsBut l s (t.setErrExport v) := h
theorem State.fieldsBut.setBoot (h : State.fieldsBut l s t) (v : Option Boot) : State.fieldsBut l s (t.setBoot v) := h
theorem State.fieldsBut.setWind (h : State.fieldsBut l s t) (v : Option Wind) : State.fieldsBut l s (t.setWind v) := h
theorem State.fieldsBut.setDead (h : State.fieldsBut l s t) (v : Bool) : State.fieldsBut l s (t.setDead v) := h
theorem State.fieldsBut.setPinLow (h : State.fieldsBut l s t) (v : Bool) : State.fieldsBut l s (t.setPinLow v) := h
theorem State.fieldsBut.setClosing (h : State.fieldsBut l s t) (v : Bool) : State.fieldsBut l s (t.setClosing v) := h
theorem State.fieldsBut.setTrimming (h : State.fieldsBut l s t) (v : List Nat) : State.fieldsBut l s (t.setTrimming v) := h
theorem State.fieldsBut.setMovs (h : State.fieldsBut l s t) (v : Tbl Mov) : State.fieldsBut l s (t.setMovs v) := h
theorem State.fieldsBut.setPairs (h : State.fieldsBut l s t) (v : Tbl Pair) : State.fieldsBut l s (t.setPairs v) := h
theorem State.fieldsBut.setRefCount (h : State.fieldsBut l s t) (v : RefCount) : State.fieldsBut l s (t.setRefCount v) := h
theorem State.fieldsBut.setPpsGood (h : State.fieldsBut l s t) (v : Nat) : State.fieldsBut l s (t.setPpsGood v) := h
theorem State.fieldsBut.setPpsStep (h : State.fieldsBut l s t) (v : Bool) : State.fieldsBut l s (t.setPpsStep v) := h
theorem State.fieldsBut.setSteer (h : State.fieldsBut l s t) (v : Int × Int) : State.fieldsBut l s (t.setSteer v) := h
theorem State.fieldsBut.setTimeSet (h : State.fieldsBut l s t) (v : Option Nat) : State.fieldsBut l s (t.setTimeSet v) := h
theorem State.fieldsBut.setVisiting (h : State.fieldsBut l s t) (v : List Nat) : State.fieldsBut l s (t.setVisiting v) := h
theorem State.fieldsBut.setIntakes (h : State.fieldsBut l s t) (v : Tbl Intake) : State.fieldsBut l s (t.setIntakes v) := h
theorem State.fieldsBut.setRepeats (h : State.fieldsBut l s t) (v : Nat) : State.fieldsBut l s (t.setRepeats v) := h
theorem State.fieldsBut.setCalTable (h : State.fieldsBut l s t) (v : Tbl (Nat × Nat)) : State.fieldsBut l s (t.setCalTable v) := h
theorem State.fieldsBut.setLanes (h : State.fieldsBut l s t) (v : Tbl LaneRole) : State.fieldsBut l s (t.setLanes v) := h
theorem State.fieldsBut.setSounding (h : State.fieldsBut l s t) (v : List Nat) : State.fieldsBut l s (t.setSounding v) := h
theorem State.fieldsBut.setSyncMask (h : State.fieldsBut l s t) (v : Nat) : State.fieldsBut l s (t.setSyncMask v) := h
theorem State.fieldsBut.setPatrolAt (h : State.fieldsBut l s t) (v : Nat) : State.fieldsBut l s (t.setPatrolAt v) := h
theorem State.fieldsBut.setDIntake (h : State.fieldsBut l s t) (v : List Nat × List Nat) : State.fieldsBut l s (t.setDIntake v) := h
theorem State.fieldsBut.setUIntake (h : State.fieldsBut l s t) (v : Nat × Nat) : State.fieldsBut l s (t.setUIntake v) := h
theorem State.fieldsBut.setBerths (h : State.fieldsBut l s t) (v : Tbl Berth) : State.fieldsBut l s (t.setBerths v) := h
theorem State.fieldsBut.setReady (h : State.fieldsBut l s t) (v : Tbl (List Nat)) : State.fieldsBut l s (t.setReady v) := h
theorem State.fieldsBut.setHandover (h : State.fieldsBut l s t) (v : List Nat) : State.fieldsBut l s (t.setHandover v) := h
theorem State.fieldsBut.setOutbox (h : State.fieldsBut l s t) (v : Tbl (List Wait)) : State.fieldsBut l s (t.setOutbox v) := h
theorem State.fieldsBut.setRds (h : State.fieldsBut l s t) (v : Tbl Rds) : State.fieldsBut l s (t.setRds v) := h
theorem State.fieldsBut.setFollow (h : State.fieldsBut l s t) (v : Tbl Follow) : State.fieldsBut l s (t.setFollow v) := h
theorem State.fieldsBut.setSoundingAt (h : State.fieldsBut l s t) (v : Option (Nat × Nat × Nat)) : State.fieldsBut l s (t.setSoundingAt v) := h
theorem State.fieldsBut.setDab (h : State.fieldsBut l s t) (v : Tbl Dab) : State.fieldsBut l s (t.setDab v) := h
theorem State.fieldsBut.setDrm (h : State.fieldsBut l s t) (v : Tbl Drm) : State.fieldsBut l s (t.setDrm v) := h
theorem State.fieldsBut.setDvb (h : State.fieldsBut l s t) (v : Tbl Dvb) : State.fieldsBut l s (t.setDvb v) := h
theorem State.fieldsBut.setWindows (h : State.fieldsBut l s t) (v : Tbl (Option Win)) : State.fieldsBut l s (t.setWindows v) := h
theorem State.fieldsBut.setEnded (h : State.fieldsBut l s t) (v : Tbl (List Win)) : State.fieldsBut l s (t.setEnded v) := h
theorem State.fieldsBut.setDriftAt (h : State.fieldsBut l s t) (v : Nat) : State.fieldsBut l s (t.setDriftAt v) := h
theorem State.fieldsBut.setCustody (h : State.fieldsBut l s t) (v : List Item) : State.fieldsBut l s (t.setCustody v) := h
theorem State.fieldsBut.setProds (h : State.fieldsBut l s t) (v : Tbl Producer) : State.fieldsBut l s (t.setProds v) := h
theorem State.fieldsBut.setStats (h : State.fieldsBut l s t) (v : Tbl Stat) : State.fieldsBut l s (t.setStats v) := h
theorem State.fieldsBut.setQuays (h : State.fieldsBut l s t) (v : Tbl Quay) : State.fieldsBut l s (t.setQuays v) := h
theorem State.fieldsBut.setEpoch (h : State.fieldsBut l s t) (v : Nat) : State.fieldsBut l s (t.setEpoch v) := h
theorem State.fieldsBut.setRebuilding (h : State.fieldsBut l s t) (v : Bool) : State.fieldsBut l s (t.setRebuilding v) := h
theorem State.fieldsBut.setLandRx (h : State.fieldsBut l s t) (v : LandRx) : State.fieldsBut l s (t.setLandRx v) := h
theorem State.fieldsBut.setLandFifo (h : State.fieldsBut l s t) (v : List LFrame) : State.fieldsBut l s (t.setLandFifo v) := h
theorem State.fieldsBut.setLandChans (h : State.fieldsBut l s t) (v : Tbl LandChan) : State.fieldsBut l s (t.setLandChans v) := h
theorem State.fieldsBut.setPorts (h : State.fieldsBut l s t) (v : Tbl Port) : State.fieldsBut l s (t.setPorts v) := h
theorem State.fieldsBut.setSlots (h : State.fieldsBut l s t) (v : Tbl Slot) : State.fieldsBut l s (t.setSlots v) := h
theorem State.fieldsBut.setBondReqs (h : State.fieldsBut l s t) (v : List BReq) : State.fieldsBut l s (t.setBondReqs v) := h
theorem State.fieldsBut.setBondNext (h : State.fieldsBut l s t) (v : Nat) : State.fieldsBut l s (t.setBondNext v) := h
theorem State.fieldsBut.setBondNow (h : State.fieldsBut l s t) (v : Option Nat) : State.fieldsBut l s (t.setBondNow v) := h
theorem State.fieldsBut.setIvTable (h : State.fieldsBut l s t) (v : List IvEntry) : State.fieldsBut l s (t.setIvTable v) := h
theorem State.fieldsBut.setKeyWrap (h : State.fieldsBut l s t) (v : Tbl Nat) : State.fieldsBut l s (t.setKeyWrap v) := h
theorem State.fieldsBut.setKekData (h : State.fieldsBut l s t) (v : Tbl Nat) : State.fieldsBut l s (t.setKekData v) := h
theorem State.fieldsBut.setKek (h : State.fieldsBut l s t) (v : Option (List Byte)) : State.fieldsBut l s (t.setKek v) := h
theorem State.fieldsBut.setKekBurn (h : State.fieldsBut l s t) (v : Option (List Byte)) : State.fieldsBut l s (t.setKekBurn v) := h
theorem State.fieldsBut.setDrbg (h : State.fieldsBut l s t) (v : Option Drbg) : State.fieldsBut l s (t.setDrbg v) := h
theorem State.fieldsBut.setCaps (h : State.fieldsBut l s t) (v : Tbl Cap) : State.fieldsBut l s (t.setCaps v) := h
theorem State.fieldsBut.setSchedule (h : State.fieldsBut l s t) (v : List TxReq) : State.fieldsBut l s (t.setSchedule v) := h
theorem State.fieldsBut.setTxAt (h : State.fieldsBut l s t) (v : Nat × TxStage) : State.fieldsBut l s (t.setTxAt v) := h
theorem State.fieldsBut.setTrsw (h : State.fieldsBut l s t) (v : Bool) : State.fieldsBut l s (t.setTrsw v) := h
theorem State.fieldsBut.setPilotWindow (h : State.fieldsBut l s t) (v : Bool) : State.fieldsBut l s (t.setPilotWindow v) := h
theorem State.fieldsBut.setOnAir (h : State.fieldsBut l s t) (v : Option (Nat × Nat × List Byte)) : State.fieldsBut l s (t.setOnAir v) := h
theorem State.fieldsBut.setDutyBins (h : State.fieldsBut l s t) (v : List (Nat × Nat)) : State.fieldsBut l s (t.setDutyBins v) := h
theorem State.fieldsBut.setPeriodics (h : State.fieldsBut l s t) (v : List Periodic) : State.fieldsBut l s (t.setPeriodics v) := h
theorem State.fieldsBut.setListen (h : State.fieldsBut l s t) (v : Option (Nat × Nat)) : State.fieldsBut l s (t.setListen v) := h
theorem State.fieldsBut.setRelays (h : State.fieldsBut l s t) (v : List Relay) : State.fieldsBut l s (t.setRelays v) := h
theorem State.fieldsBut.setRx (h : State.fieldsBut l s t) (v : Tbl Rx) : State.fieldsBut l s (t.setRx v) := h
theorem State.fieldsBut.setBackoff (h : State.fieldsBut l s t) (v : Nat) : State.fieldsBut l s (t.setBackoff v) := h
theorem State.fieldsBut.setAlerts (h : State.fieldsBut l s t) (v : List Alert) : State.fieldsBut l s (t.setAlerts v) := h
theorem State.fieldsBut.setAlertDue (h : State.fieldsBut l s t) (v : List (Nat × Nat)) : State.fieldsBut l s (t.setAlertDue v) := h
theorem State.fieldsBut.setAlertCmds (h : State.fieldsBut l s t) (v : List Nat) : State.fieldsBut l s (t.setAlertCmds v) := h
theorem State.fieldsBut.setUnits (h : State.fieldsBut l s t) (v : Tbl UnitRec) : State.fieldsBut l s (t.setUnits v) := h
theorem State.fieldsBut.setInj (h : State.fieldsBut l s t) (v : Option Inj) : State.fieldsBut l s (t.setInj v) := h
theorem State.fieldsBut.setClock (h : State.fieldsBut l s t) (v : Nat) : State.fieldsBut l s (t.setClock v) := h
theorem State.fieldsBut.setFlips (h : State.fieldsBut l s t) (v : Tbl Nat) : State.fieldsBut l s (t.setFlips v) := h
theorem State.fieldsBut.setWords (h : State.fieldsBut l s t) (v : Tbl UnitRec) : State.fieldsBut l s (t.setWords v) := h
theorem State.fieldsBut.setRowMap (h : State.fieldsBut l s t) (v : Tbl Nat) : State.fieldsBut l s (t.setRowMap v) := h
theorem State.fieldsBut.setRowsDue (h : State.fieldsBut l s t) (v : List Nat) : State.fieldsBut l s (t.setRowsDue v) := h
theorem State.fieldsBut.setRetesting (h : State.fieldsBut l s t) (v : Option (Nat × Nat)) : State.fieldsBut l s (t.setRetesting v) := h
theorem State.fieldsBut.setTw (h : State.fieldsBut l s t) (v : TwoWire) : State.fieldsBut l s (t.setTw v) := h
theorem State.fieldsBut.setDoms (h : State.fieldsBut l s t) (v : Tbl Dom) : State.fieldsBut l s (t.setDoms v) := h
theorem State.fieldsBut.setJnlLost (h : State.fieldsBut l s t) (v : Nat) : State.fieldsBut l s (t.setJnlLost v) := h
theorem State.fieldsBut.setFine (h : State.fieldsBut l s t) (v : Int) : State.fieldsBut l s (t.setFine v) := h
theorem State.fieldsBut.setBeatOf (h : State.fieldsBut l s t) (v : Tbl Nat) : State.fieldsBut l s (t.setBeatOf v) := h
theorem State.fieldsBut.setChans (h : State.fieldsBut l s t) (v : Tbl Chan) : State.fieldsBut l s (t.setChans v) := h
theorem State.fieldsBut.setChains (h : State.fieldsBut l s t) (v : Tbl Chain) : State.fieldsBut l s (t.setChains v) := h
theorem State.fieldsBut.setDets (h : State.fieldsBut l s t) (v : Tbl Det) : State.fieldsBut l s (t.setDets v) := h
theorem State.fieldsBut.setDetFull (h : State.fieldsBut l s t) (v : Tbl Det) : State.fieldsBut l s (t.setDetFull v) := h
theorem State.fieldsBut.setInputs (h : State.fieldsBut l s t) (v : Tbl (List BSmp)) : State.fieldsBut l s (t.setInputs v) := h
theorem State.fieldsBut.setFeedHeat (h : State.fieldsBut l s t) (v : Tbl Nat) : State.fieldsBut l s (t.setFeedHeat v) := h
theorem State.fieldsBut.setFeedTrips (h : State.fieldsBut l s t) (v : Tbl Nat) : State.fieldsBut l s (t.setFeedTrips v) := h
theorem State.fieldsBut.setQuiet (h : State.fieldsBut l s t) (v : Tbl (List Nat)) : State.fieldsBut l s (t.setQuiet v) := h
theorem State.fieldsBut.setTestBins (h : State.fieldsBut l s t) (v : Tbl Nat) : State.fieldsBut l s (t.setTestBins v) := h
theorem State.fieldsBut.setCaptured (h : State.fieldsBut l s t) (v : Tbl (List (Nat × Nat))) : State.fieldsBut l s (t.setCaptured v) := h
theorem State.fieldsBut.setAud (h : State.fieldsBut l s t) (v : Tbl Aud) : State.fieldsBut l s (t.setAud v) := h
theorem State.fieldsBut.setPcm (h : State.fieldsBut l s t) (v : Tbl (List Pcm)) : State.fieldsBut l s (t.setPcm v) := h
theorem State.fieldsBut.setCraneNs (h : State.fieldsBut l s t) (v : Tbl Nat) : State.fieldsBut l s (t.setCraneNs v) := h
theorem State.fieldsBut.setGChain (h : State.fieldsBut l s t) (v : Tbl Int) : State.fieldsBut l s (t.setGChain v) := h
theorem State.fieldsBut.setSoundDet (h : State.fieldsBut l s t) (v : Det) : State.fieldsBut l s (t.setSoundDet v) := h
theorem State.fieldsBut.setScopeAt (h : State.fieldsBut l s t) (v : Tbl Nat) : State.fieldsBut l s (t.setScopeAt v) := h
theorem State.fieldsBut.setCca (h : State.fieldsBut l s t) (v : Tbl (List Smp)) : State.fieldsBut l s (t.setCca v) := h
theorem State.fieldsBut.setListens (h : State.fieldsBut l s t) (v : List (Nat × Nat × Nat × Option Nat)) : State.fieldsBut l s (t.setListens v) := h
theorem State.fieldsBut.setRxHeard (h : State.fieldsBut l s t) (v : Tbl (List (Int × Int × Nat))) : State.fieldsBut l s (t.setRxHeard v) := h
theorem State.fieldsBut.setInjWords (h : State.fieldsBut l s t) (v : List Nat) : State.fieldsBut l s (t.setInjWords v) := h
theorem State.fieldsBut.setSingles (h : State.fieldsBut l s t) (v : List Nat) : State.fieldsBut l s (t.setSingles v) := h
theorem State.fieldsBut.setDamaged (h : State.fieldsBut l s t) (v : List (WordUse × Nat)) : State.fieldsBut l s (t.setDamaged v) := h
theorem State.fieldsBut.setInjSeen (h : State.fieldsBut l s t) (v : Bool) : State.fieldsBut l s (t.setInjSeen v) := h
theorem State.fieldsBut.setInjBits (h : State.fieldsBut l s t) (v : Nat) : State.fieldsBut l s (t.setInjBits v) := h
theorem State.fieldsBut.setPrecNow (h : State.fieldsBut l s t) (v : Nat) : State.fieldsBut l s (t.setPrecNow v) := h
theorem State.fieldsBut.setTainted (h : State.fieldsBut l s t) (v : Nat) : State.fieldsBut l s (t.setTainted v) := h
theorem State.fieldsBut.setInjStall (h : State.fieldsBut l s t) (v : List Nat) : State.fieldsBut l s (t.setInjStall v) := h
theorem State.fieldsBut.setJtag (h : State.fieldsBut l s t) (v : Tap) : State.fieldsBut l s (t.setJtag v) := h

theorem State.fieldsBut.when (h : State.fieldsBut l s t) {c : Bool} {g : State → State}
    (hg : State.fieldsBut l s t → State.fieldsBut l s (g t)) : State.fieldsBut l s (t.when c g) := by
  unfold State.when; split
  · exact hg h
  · exact h

theorem State.fieldsBut.ite (h : State.fieldsBut l s t) (h' : State.fieldsBut l s u) {c : Prop} [Decidable c] :
    State.fieldsBut l s (if c then t else u) := by split <;> assumption

theorem State.fieldsBut.attn (h : State.fieldsBut l s t) (b : Nat) (h1 : F.TW_ATTN_SRC_SOURCES.key ∈ l.map Fld.key)
    (h2 : F.TW_STATUS_ATTN_PENDING.key ∈ l.map Fld.key) : State.fieldsBut l s (t.attn b) := by
  unfold State.attn
  dsimp only
  split <;> split <;> first | exact h | exact h.put h1 _ | exact h.up h2 | exact (h.put h1 _).up h2

/-- A fade waits for its end or not as the berths and the fades stand. -/
theorem State.Calm.of_eq (h : s.Calm) (hb : t.berths = s.berths) (hf : t.follow = s.follow) : t.Calm := by
  unfold State.Calm; rw [hb, hf]; exact h

/-- The end of a command of an effect that leaves the mode, the IV table, the alert sources, and what asks for the end of a fade. -/
theorem State.changes_finish (hs : s.Shows) (hc : u.Calm) (hr : t = { u with regs := t.regs }) (hm : u.mode = s.mode) (hi : u.ivTable = s.ivTable)
    (ha : u.alerts = s.alerts) (hp : u.pending = s.pending) (hk : ∀ k ∈ shownKeys, k ∉ l.map Fld.key) (hb : State.fieldsBut l s t) :
    State.changes l s u (s.finish t) := by
  have e1 : t.mode = u.mode := by rw [hr]
  have e2 : t.ivTable = u.ivTable := by rw [hr]
  have e3 : t.alerts = u.alerts := by rw [hr]
  have ht : t.Calm := hc.of_eq (by rw [hr]) (by rw [hr])
  obtain ⟨r1, r2⟩ := State.finish_rest s ht
  refine ⟨?_, ?_, fun f hf => ?_⟩
  · have e := congrArg (fun x : State => { x with
        regs := (s.finish t).regs, windows := (s.finish t).windows, injBits := (s.finish t).injBits, precNow := (s.finish t).precNow,
        injSeen := (s.finish t).injSeen, pending := s.pending }) hr
    refine r1.trans (e.trans ?_)
    rw [← hp]
  · have e : t.windows = u.windows := by rw [hr]
    intro n hn
    rw [r2 n hn, State.window, State.window, e]
  · have g : ∀ k : Fld, k.key ∈ shownKeys → t.get k = s.get k := fun k h => hb k (hk _ h)
    obtain ⟨h1, h2, h3, h4, h5, h6⟩ := hs
    have ht' : t.Shows := by
      refine ⟨?_, ?_, ?_, ?_, ?_, ?_⟩
      · rw [g _ (by decide), e1, hm, h1]
      · rw [g _ (by decide), e2, hi, h2]
      · rw [g _ (by decide), e3, ha, h3]
      · rw [g _ (by decide), e3, ha, h4]
      · rw [g _ (by decide), e3, ha, h5]
      · rw [g _ (by decide), e3, ha, h6]
    rw [State.get_finish_of_shows ht ht', hb f hf]

/-- What keeps every part is steady. -/
theorem State.Keeps.steady {kp : Part → Bool} (h : s.Keeps kp t) (hk : ∀ p, kp p = true) : s.steady t :=
  ⟨h.mode (hk _), h.keys (hk _), h.kek (hk _), h.cal (hk _), h.rows (hk _), h.duty (hk _), (h.time (hk _)).1, (h.time (hk _)).2,
   (h.power (hk _)).1, (h.power (hk _)).2, h.epoch (hk _)⟩

end Sys2Proof.Machine
end

