-- ==== Sys2Proof/Laws/Ops.lean ====
section
/-! SUPPORT. What the shared operations on registers, the request for attention and the change journal do to a field. -/

namespace Sys2Proof.Machine

theorem State.get_up (s : State) (f g : Fld) : (s.up f).get g = if g.key = f.key then 1 % 2 ^ f.width else s.get g := State.get_put ..

theorem State.get_down (s : State) (f g : Fld) : (s.down f).get g = if g.key = f.key then 0 else s.get g := by
  rw [State.down, State.get_put, Nat.zero_mod]

theorem satAdd_mod (w x : Nat) : satAdd w x 1 % 2 ^ w = min (2 ^ w - 1) (x + 1) := by
  have : 0 < 2 ^ w := Nat.two_pow_pos w
  unfold satAdd
  split <;> rw [Nat.mod_eq_of_lt (by omega)] <;> omega

/-- A saturating count: one more, up to the largest value of the field. -/
theorem State.get_bump (s : State) (f g : Fld) :
    (s.bump f).get g = if g.key = f.key then min (2 ^ f.width - 1) (s.get f + 1) else s.get g := by
  unfold State.bump; rw [State.get_put, satAdd_mod]

/-- A wrapping count: one more, modulo the width of the field. -/
theorem State.get_bumpWrap (s : State) (f g : Fld) :
    (s.bumpWrap f).get g = if g.key = f.key then (s.get f + 1) % 2 ^ f.width else s.get g := State.get_put ..

/-- A raised source of attention is set. -/
theorem State.attn_source (s : State) {b : Nat} (hb : b < 8) : bit ((s.attn b).get F.TW_ATTN_SRC_SOURCES) b = true := by
  have h1 : ∀ t : State, (t.up F.TW_STATUS_ATTN_PENDING).get F.TW_ATTN_SRC_SOURCES = t.get F.TW_ATTN_SRC_SOURCES := fun t => by
    rw [State.get_up, if_neg (by decide)]
  have h2 : ∀ x : Nat, bit x b = false → bit ((x + 2 ^ b) % 2 ^ 8) b = true := by
    intro x
    interval_cases b <;> simp only [bit, bits, beq_eq_false_iff_ne, beq_iff_eq, ne_eq] <;> omega
  have h3 : ∀ v, (s.put F.TW_ATTN_SRC_SOURCES v).get F.TW_ATTN_SRC_SOURCES = v % 2 ^ 8 := fun v => State.get_put_same ..
  unfold State.attn
  dsimp only
  by_cases h : bit (s.get F.TW_ATTN_SRC_SOURCES) b = true
  · split <;> simp [h, h1]
  · have h' := h2 _ (by simpa using h)
    split <;> simpa [h, h1, h3] using h'

/-- A request for attention changes its two fields only. -/
theorem State.get_attn (s : State) (b : Nat) {f : Fld} (h1 : f.key ≠ F.TW_ATTN_SRC_SOURCES.key) (h2 : f.key ≠ F.TW_STATUS_ATTN_PENDING.key) :
    (s.attn b).get f = s.get f := by
  unfold State.attn
  dsimp only
  split <;> split <;> simp [State.up, State.get_put, h1, h2]

/-- A request for attention changes registers only. -/
theorem State.attn_regs (s : State) (b : Nat) : s.attn b = { s with regs := (s.attn b).regs } := by
  unfold State.attn
  dsimp only
  split <;> split <;> rfl

/-- An entry of the change journal shows in two fields only. -/
theorem State.get_journal (s : State) (a old new src res det : Nat) {f : Fld} (h1 : f.key ≠ F.JNL_NEWEST_NUMBER.key)
    (h2 : f.key ≠ F.JNL_STATUS_UNREAD_LOST.key) : (s.journal a old new src res det).get f = s.get f := by
  unfold State.journal
  dsimp only
  split <;> simp [State.bump, State.get_put, h1, h2]

theorem State.fieldsBut.journal {l : List Fld} {s t : State} (h : State.fieldsBut l s t) (a old new src res det : Nat)
    (h1 : F.JNL_NEWEST_NUMBER.key ∈ l.map Fld.key) (h2 : F.JNL_STATUS_UNREAD_LOST.key ∈ l.map Fld.key) :
    State.fieldsBut l s (t.journal a old new src res det) :=
  fun g hg => (State.get_journal t a old new src res det (fun e => hg (by rw [e]; exact h1)) (fun e => hg (by rw [e]; exact h2))).trans (h g hg)

/-- An entry of the change journal leaves everything but the journal and its fields. -/
theorem State.journal_rest (s : State) (a old new src res det : Nat) :
    s.journal a old new src res det = { s with
      regs := (s.journal a old new src res det).regs, jnl := (s.journal a old new src res det).jnl, jnlCount := s.jnlCount + 1,
      jnlLost := (s.journal a old new src res det).jnlLost } := by
  unfold State.journal
  dsimp only
  split <;> rfl

end Sys2Proof.Machine
end

