-- ==== Sys2Proof/Laws/Exec.lean ====
section
/-! SUPPORT. What each command answers: its effect on the state, and the end of a command. -/

namespace Sys2Proof.Machine

theorem exec_commitOpen (a : Word) (s : State) (hd : s.dead = false) (hp : s.pinLow = false) (ho : (isCommit a.toNat) = true) :
    exec (.commitOpen a) s = .next (s.finish (s.regWrite srcTwoWire (a.toNat) 1)) :=
  show execCommitOpen a s = _ from State.host_on _ _ hd hp ho

theorem exec_commitGo (a : Word) (s : State) (hd : s.dead = false) (hp : s.pinLow = false) (ho : (isCommit a.toNat) = true) :
    exec (.commitGo a) s = .next (s.finish (s.regWrite srcTwoWire (a.toNat) 2)) :=
  show execCommitGo a s = _ from State.host_on _ _ hd hp ho

theorem exec_commitAbort (a : Word) (s : State) (hd : s.dead = false) (hp : s.pinLow = false) (ho : (isCommit a.toNat) = true) :
    exec (.commitAbort a) s = .next (s.finish (s.regWrite srcTwoWire (a.toNat) 4)) :=
  show execCommitAbort a s = _ from State.host_on _ _ hd hp ho

theorem exec_liveChangeApply (a : Word) (u : Nat) (s : State) (hd : s.dead = false) :
    exec (.liveChangeApply a u) s = .next (s.finish (s.boundary a.toNat u)) :=
  show execLiveChangeApply a u s = _ from State.event_on _ hd rfl

theorem exec_jnlSelectWrite (w : Word) (s : State) (hd : s.dead = false) (hp : s.pinLow = false) :
    exec (.jnlSelectWrite w) s = .next (s.finish (s.regWrite srcTwoWire 0x2803 w.toNat)) :=
  show execJnlSelectWrite w s = _ from State.host_on _ _ hd hp rfl

theorem exec_jnlClearLost (w : Word) (s : State) (hd : s.dead = false) (hp : s.pinLow = false) :
    exec (.jnlClearLost w) s = .next (s.finish (s.regWrite srcTwoWire 0x280F w.toNat)) :=
  show execJnlClearLost w s = _ from State.host_on _ _ hd hp rfl

theorem exec_errSelectWrite (w : Word) (s : State) (hd : s.dead = false) (hp : s.pinLow = false) :
    exec (.errSelectWrite w) s = .next (s.finish (s.regWrite srcTwoWire 0x2813 w.toNat)) :=
  show execErrSelectWrite w s = _ from State.host_on _ _ hd hp rfl

theorem exec_errClearLost (w : Word) (s : State) (hd : s.dead = false) (hp : s.pinLow = false) :
    exec (.errClearLost w) s = .next (s.finish (s.regWrite srcTwoWire 0x2824 w.toNat)) :=
  show execErrClearLost w s = _ from State.host_on _ _ hd hp rfl

theorem exec_lstSelWrite (w : Word) (s : State) (hd : s.dead = false) (hp : s.pinLow = false) :
    exec (.lstSelWrite w) s = .next (s.finish (s.regWrite srcTwoWire 0x3800 w.toNat)) :=
  show execLstSelWrite w s = _ from State.host_on _ _ hd hp rfl

theorem exec_readWithEffect (a : Word) (s : State) (hd : s.dead = false) (ho : (!s.pinLow) = true) :
    exec (.readWithEffect a) s = .next (s.finish (s.readWord a.toNat)) :=
  show execReadWithEffect a s = _ from State.event_on _ hd ho

theorem exec_registerWrite (a w : Word) (s : State) (hd : s.dead = false) (hp : s.pinLow = false) :
    exec (.registerWrite a w) s = .next (s.finish (s.regWrite srcTwoWire (a.toNat) w.toNat)) :=
  show execRegisterWrite a w s = _ from State.host_on _ _ hd hp rfl

theorem exec_twStart (addr : BitVec 7) (read : Bool) (s : State) (hd : s.dead = false) :
    exec (.twStart addr read) s = .next (s.finish (s.twStart addr.toNat read)) :=
  show execTwStart addr read s = _ from State.event_on _ hd rfl

theorem exec_twPointerSet (ra : Word) (s : State) (hd : s.dead = false) :
    exec (.twPointerSet ra) s = .next (s.finish (s.twPointer ra.toNat)) :=
  show execTwPointerSet ra s = _ from State.event_on _ hd rfl

theorem exec_twWordWrite (w : Word) (s : State) (hd : s.dead = false) :
    exec (.twWordWrite w) s = .next (s.finish (s.twWrite w.toNat)) :=
  show execTwWordWrite w s = _ from State.event_on _ hd rfl

theorem exec_twWordRead (ack : Bool) (s : State) (hd : s.dead = false) :
    exec (.twWordRead ack) s = .next (s.finish (s.twRead ack)) :=
  show execTwWordRead ack s = _ from State.event_on _ hd rfl

theorem exec_twStop (s : State) (hd : s.dead = false) :
    exec .twStop s = .next (s.finish (s.twStop)) :=
  show execTwStop s = _ from State.event_on _ hd rfl

theorem exec_twFrameError (start : Bool) (partialWord : Bool) (s : State) (hd : s.dead = false) :
    exec (.twFrameError start partialWord) s = .next (s.finish (s.twFrame start partialWord)) :=
  show execTwFrameError start partialWord s = _ from State.event_on _ hd rfl

theorem exec_twSdaReleaseTimeout (partialWord : Bool) (s : State) (hd : s.dead = false) :
    exec (.twSdaReleaseTimeout partialWord) s = .next (s.finish (s.twAbandon partialWord)) :=
  show execTwSdaReleaseTimeout partialWord s = _ from State.event_on _ hd rfl

theorem exec_twStretchTimeout (s : State) (hd : s.dead = false) :
    exec .twStretchTimeout s = .next (s.finish (s.twStale)) :=
  show execTwStretchTimeout s = _ from State.event_on _ hd rfl

theorem exec_twSclTimeout (partialWord : Bool) (s : State) (hd : s.dead = false) :
    exec (.twSclTimeout partialWord) s = .next (s.finish (s.twSclStuck partialWord)) :=
  show execTwSclTimeout partialWord s = _ from State.event_on _ hd rfl

theorem exec_twSdaTimeout (s : State) (hd : s.dead = false) :
    exec .twSdaTimeout s = .next (s.finish (s.twSdaStuck)) :=
  show execTwSdaTimeout s = _ from State.event_on _ hd rfl

theorem exec_attnPulseStart (s : State) (hd : s.dead = false) :
    exec .attnPulseStart s = .next (s.finish (s.pulseStart)) :=
  show execAttnPulseStart s = _ from State.event_on _ hd rfl

theorem exec_attnPulseEnd (s : State) (hd : s.dead = false) :
    exec .attnPulseEnd s = .next (s.finish (s.pulseEnd)) :=
  show execAttnPulseEnd s = _ from State.event_on _ hd rfl

theorem exec_attnCollide (s : State) (hd : s.dead = false) :
    exec .attnCollide s = .next (s.finish (s.pulseCollide)) :=
  show execAttnCollide s = _ from State.event_on _ hd rfl

theorem exec_attnRepeat (s : State) (hd : s.dead = false) :
    exec .attnRepeat s = .next (s.finish (s.attnRepeat)) :=
  show execAttnRepeat s = _ from State.event_on _ hd rfl

theorem exec_twLineRisen (scl : Bool) (s : State) (hd : s.dead = false) :
    exec (.twLineRisen scl) s = .next (s.finish (s.twRisen scl)) :=
  show execTwLineRisen scl s = _ from State.event_on _ hd rfl

theorem exec_vkeepPowerOn (s : State) :
    exec .vkeepPowerOn s = .next (s.finish (s.keepBack)) :=
  show execVkeepPowerOn s = _ from rfl

theorem exec_vkeepFall (s : State) :
    exec .vkeepFall s = .next (s.finish (s.keepLost)) :=
  show execVkeepFall s = _ from rfl

theorem exec_resetPinWarm (s : State) :
    exec .resetPinWarm s = .next (s.finish (s.pinWarm)) :=
  show execResetPinWarm s = _ from rfl

theorem exec_resetPinFull (s : State) :
    exec .resetPinFull s = .next (s.finish (s.pinFull)) :=
  show execResetPinFull s = _ from rfl

theorem exec_resetNRelease (s : State) :
    exec .resetNRelease s = .next (s.finish (s.setPinLow false)) :=
  show execResetNRelease s = _ from rfl

theorem exec_windBegin (sfdp : Sfdp) (hdr0 hdr1 : List Byte) (s : State) (hd : s.dead = false) :
    exec (.windBegin sfdp hdr0 hdr1) s = .next (s.finish (s.windStart sfdp hdr0 hdr1)) :=
  show execWindBegin sfdp hdr0 hdr1 s = _ from State.event_on _ hd rfl

theorem exec_windCopyReadDone (copy : Nat) (img : List Byte) (s : State) (hd : s.dead = false) :
    exec (.windCopyReadDone copy img) s = .next (s.finish (s.windCopy copy img)) :=
  show execWindCopyReadDone copy img s = _ from State.event_on _ hd rfl

theorem exec_regulateEnd (ms : Nat) (dIntake : List Nat × List Nat) (uIntake : Nat × Nat) (s : State) (hd : s.dead = false) :
    exec (.regulateEnd ms dIntake uIntake) s = .next (s.finish (s.regulated ms dIntake uIntake)) :=
  show execRegulateEnd ms dIntake uIntake s = _ from State.event_on _ hd rfl

theorem exec_regulateLockTimeout (s : State) (hd : s.dead = false) :
    exec .regulateLockTimeout s = .next (s.finish (s.regulateTimeout)) :=
  show execRegulateLockTimeout s = _ from State.event_on _ hd rfl

theorem exec_enterSurvey (confirm : Byte) (s : State) (hd : s.dead = false) (hp : s.pinLow = false) :
    exec (.enterSurvey confirm) s = .next (s.finish (s.regWrite srcTwoWire 0x5 (confirm.toNat * 256 + 1))) :=
  show execEnterSurvey confirm s = _ from State.host_on _ _ hd hp rfl

theorem exec_endSurvey (confirm : Byte) (s : State) (hd : s.dead = false) (hp : s.pinLow = false) :
    exec (.endSurvey confirm) s = .next (s.finish (s.regWrite srcTwoWire 0x5 (confirm.toNat * 256 + 2))) :=
  show execEndSurvey confirm s = _ from State.host_on _ _ hd hp rfl

theorem exec_enterAnchor (confirm : Byte) (s : State) (hd : s.dead = false) (hp : s.pinLow = false) :
    exec (.enterAnchor confirm) s = .next (s.finish (s.regWrite srcTwoWire 0x5 (confirm.toNat * 256 + 3))) :=
  show execEnterAnchor confirm s = _ from State.host_on _ _ hd hp rfl

theorem exec_rewind (confirm : Byte) (s : State) (hd : s.dead = false) (hp : s.pinLow = false) :
    exec (.rewind confirm) s = .next (s.finish (s.regWrite srcTwoWire 0x5 (confirm.toNat * 256 + 4))) :=
  show execRewind confirm s = _ from State.host_on _ _ hd hp rfl

theorem exec_fullReset (confirm : Byte) (s : State) (hd : s.dead = false) (hp : s.pinLow = false) :
    exec (.fullReset confirm) s = .next (s.finish (s.regWrite srcTwoWire 0x5 (confirm.toNat * 256 + 5))) :=
  show execFullReset confirm s = _ from State.host_on _ _ hd hp rfl

theorem exec_cancelSurveySchedule (confirm : Byte) (s : State) (hd : s.dead = false) (hp : s.pinLow = false) :
    exec (.cancelSurveySchedule confirm) s = .next (s.finish (s.regWrite srcTwoWire 0x5 (confirm.toNat * 256 + 6))) :=
  show execCancelSurveySchedule confirm s = _ from State.host_on _ _ hd hp rfl

theorem exec_surveyAtWrite (w : Word) (s : State) (hd : s.dead = false) (hp : s.pinLow = false) :
    exec (.surveyAtWrite w) s = .next (s.finish (s.regWrite srcTwoWire 0x12 w.toNat)) :=
  show execSurveyAtWrite w s = _ from State.host_on _ _ hd hp rfl

theorem exec_surveyScheduleDue (s : State) (hd : s.dead = false) :
    exec .surveyScheduleDue s = .next (s.finish (s.surveyDue)) :=
  show execSurveyScheduleDue s = _ from State.event_on _ hd rfl

theorem exec_surveyComplete (found : List Found) (tables : List AfEntry) (s : State) (hd : s.dead = false) :
    exec (.surveyComplete found tables) s = .next (s.finish (s.surveyDone found tables)) :=
  show execSurveyComplete found tables s = _ from State.event_on _ hd rfl

theorem exec_surveyLimitExpire (s : State) (hd : s.dead = false) :
    exec .surveyLimitExpire s = .next (s.finish (s.surveyEnd cSurveyLimit)) :=
  show execSurveyLimitExpire s = _ from State.event_on _ hd rfl

theorem exec_tamperAlarm (s : State) (hd : s.dead = false) :
    exec .tamperAlarm s = .next (s.finish (s.when (s.on F.BOND_CTRL_TAMPER_EN) (·.securityAlarm 0))) :=
  show execTamperAlarm s = _ from State.event_on _ hd rfl

theorem exec_supplyGlitch (s : State) (hd : s.dead = false) :
    exec .supplyGlitch s = .next (s.finish (s.when (!s.glitchMasked) (·.securityAlarm 1))) :=
  show execSupplyGlitch s = _ from State.event_on _ hd rfl

theorem exec_temperatureAlarm (s : State) (hd : s.dead = false) :
    exec .temperatureAlarm s = .next (s.finish (s.securityAlarm 2)) :=
  show execTemperatureAlarm s = _ from State.event_on _ hd rfl

theorem exec_refinLost (edge : Bool) (s : State) (hd : s.dead = false) :
    exec (.refinLost edge) s = .next (s.finish (s.refinGone edge)) :=
  show execRefinLost edge s = _ from State.event_on _ hd rfl

theorem exec_tcxoLost (edge : Bool) (s : State) (hd : s.dead = false) :
    exec (.tcxoLost edge) s = .next (s.finish (s.tcxoLost edge)) :=
  show execTcxoLost edge s = _ from State.event_on _ hd rfl

theorem exec_refCountWindowEnd (refin tcxo : Nat) (s : State) (hd : s.dead = false) :
    exec (.refCountWindowEnd refin tcxo) s = .next (s.finish (s.refWindow refin tcxo)) :=
  show execRefCountWindowEnd refin tcxo s = _ from State.event_on _ hd rfl

theorem exec_bandSearchDone (m : Nat) (counts : List Nat) (s : State) (hd : s.dead = false) (ho : (Nat.blt m 4) = true) :
    exec (.bandSearchDone m counts) s = .next (s.finish (s.bandDone m counts)) :=
  show execBandSearchDone m counts s = _ from State.event_on _ hd ho

theorem exec_lockWindowEnd (m count : Nat) (s : State) (hd : s.dead = false) (ho : (Nat.blt m 4) = true) :
    exec (.lockWindowEnd m count) s = .next (s.finish (s.lockWindow m count)) :=
  show execLockWindowEnd m count s = _ from State.event_on _ hd ho

theorem exec_lockBoundExpire (m : Nat) (s : State) (hd : s.dead = false) (ho : (Nat.blt m 4) = true) :
    exec (.lockBoundExpire m) s = .next (s.finish (s.lockMissed m)) :=
  show execLockBoundExpire m s = _ from State.event_on _ hd ho

theorem exec_pfdSlip (m : Nat) (s : State) (hd : s.dead = false) (ho : (Nat.blt m 4) = true) :
    exec (.pfdSlip m) s = .next (s.finish (s.slip m)) :=
  show execPfdSlip m s = _ from State.event_on _ hd ho

theorem exec_twinGuardCheck (pair : Nat) (c0 c1 : Nat) (s : State) (hd : s.dead = false) (ho : (Nat.blt pair 2) = true) :
    exec (.twinGuardCheck pair c0 c1) s = .next (s.finish (s.twinGuard pair c0 c1)) :=
  show execTwinGuardCheck pair c0 c1 s = _ from State.event_on _ hd ho

theorem exec_twinTrimDone (pair : Nat) (skew : Word) (s : State) (hd : s.dead = false) (ho : (Nat.blt pair 2) = true) :
    exec (.twinTrimDone pair skew) s = .next (s.finish (s.trimDone pair skew.toNat)) :=
  show execTwinTrimDone pair skew s = _ from State.event_on _ hd ho

theorem exec_audioFamilyWrite (w : Word) (s : State) (hd : s.dead = false) (hp : s.pinLow = false) :
    exec (.audioFamilyWrite w) s = .next (s.finish (s.regWrite srcTwoWire 0x106 w.toNat)) :=
  show execAudioFamilyWrite w s = _ from State.host_on _ _ hd hp rfl

theorem exec_relockCmd (w : Word) (s : State) (hd : s.dead = false) (hp : s.pinLow = false) :
    exec (.relockCmd w) s = .next (s.finish (s.regWrite srcTwoWire 0x105 w.toNat)) :=
  show execRelockCmd w s = _ from State.host_on _ _ hd hp rfl

theorem exec_tcxoOffsetWindowEnd (off : BitVec 32) (s : State) (hd : s.dead = false) :
    exec (.tcxoOffsetWindowEnd off) s = .next (s.finish (s.offsetWindow off.toNat)) :=
  show execTcxoOffsetWindowEnd off s = _ from State.event_on _ hd rfl

theorem exec_ppsEdge (err : Int) (gap : Int) (s : State) (hd : s.dead = false) :
    exec (.ppsEdge err gap) s = .next (s.finish (s.stepped (·.ppsEdge err gap))) :=
  show execPpsEdge err gap s = _ from State.event_on _ hd rfl

theorem exec_ppsLost (s : State) (hd : s.dead = false) :
    exec .ppsLost s = .next (s.finish (s.ppsLost)) :=
  show execPpsLost s = _ from State.event_on _ hd rfl

theorem exec_timeSetWrite (w : Word) (s : State) (hd : s.dead = false) (hp : s.pinLow = false) :
    exec (.timeSetWrite w) s = .next (s.finish (s.regWrite srcTwoWire 0x156 w.toNat)) :=
  show execTimeSetWrite w s = _ from State.host_on _ _ hd hp rfl

theorem exec_timeSetWholeSecond (s : State) (hd : s.dead = false) :
    exec .timeSetWholeSecond s = .next (s.finish (s.stepped (·.wholeSecond))) :=
  show execTimeSetWholeSecond s = _ from State.event_on _ hd rfl

theorem exec_regulateCaptureDone (k : Nat) (pass : Bool) (meas : List (Word × Word)) (s : State) (hd : s.dead = false) (ho : (isFeed k) = true) :
    exec (.regulateCaptureDone k pass meas) s =
      .next (s.finish (s.captureDone k pass (meas.map (fun x => (x.1.toNat, x.2.toNat))))) :=
  show execRegulateCaptureDone k pass meas s = _ from State.event_on _ hd ho

theorem exec_adcBlock (k : Nat) (xs : List (BitVec 14)) (fault pops : Nat) (s : State) (hd : s.dead = false) (ho : (isFeed k) = true) :
    exec (.adcBlock k xs fault pops) s = .next (s.finish (s.adcBlock k (xs.map BitVec.toInt) fault pops)) :=
  show execAdcBlock k xs fault pops s = _ from State.event_on _ hd ho

theorem exec_agcWindowEnd (k : Nat) (level : Int) (s : State) (hd : s.dead = false) (ho : (isFeed k) = true) :
    exec (.agcWindowEnd k level) s = .next (s.finish (s.agcWindow k level)) :=
  show execAgcWindowEnd k level s = _ from State.event_on _ hd ho

theorem exec_intakeSelftestDone (k : Nat) (pass : Bool) (s : State) (hd : s.dead = false) (ho : (isFeed k) = true) :
    exec (.intakeSelftestDone k pass) s = .next (s.finish (s.intakeTested k pass)) :=
  show execIntakeSelftestDone k pass s = _ from State.event_on _ hd ho

theorem exec_noSignalTimeout (k : Nat) (s : State) (hd : s.dead = false) (ho : (isFeed k) = true) :
    exec (.noSignalTimeout k) s = .next (s.finish (s.noSignal k)) :=
  show execNoSignalTimeout k s = _ from State.event_on _ hd ho

theorem exec_vrefCheck (tenthMv : Nat) (s : State) (hd : s.dead = false) :
    exec (.vrefCheck tenthMv) s = .next (s.finish (s.vrefCheck tenthMv)) :=
  show execVrefCheck tenthMv s = _ from State.event_on _ hd rfl

theorem exec_calVisitDue (k : Nat) (quiet : List Nat) (s : State) (hd : s.dead = false) (ho : (isFeed k) = true) :
    exec (.calVisitDue k quiet) s = .next (s.finish (s.visitDue k quiet)) :=
  show execCalVisitDue k quiet s = _ from State.event_on _ hd ho

theorem exec_calVisitDone (k : Nat) (gain phase : Int) (s : State) (hd : s.dead = false) (ho : (isFeed k) = true) :
    exec (.calVisitDone k gain phase) s = .next (s.finish (s.visitDone k gain phase)) :=
  show execCalVisitDone k gain phase s = _ from State.event_on _ hd ho

theorem exec_calVisitSkip (k : Nat) (s : State) (hd : s.dead = false) (ho : (isFeed k) = true) :
    exec (.calVisitSkip k) s = .next (s.finish (s.visitSkip k)) :=
  show execCalVisitSkip k s = _ from State.event_on _ hd ho

theorem exec_feedEnableWrite (k : Nat) (w : Word) (s : State) (hd : s.dead = false) (hp : s.pinLow = false) (ho : (isFeed k) = true) :
    exec (.feedEnableWrite k w) s = .next (s.finish (s.regWrite srcTwoWire (0x260 + 0x10 * (k - 1)) w.toNat)) :=
  show execFeedEnableWrite k w s = _ from State.host_on _ _ hd hp ho

theorem exec_feedSoftStartEnd (k : Nat) (s : State) (hd : s.dead = false) (ho : (isFeed k) = true) :
    exec (.feedSoftStartEnd k) s = .next (s.finish (s.down (F.FEED_STATUS_SOFT k))) :=
  show execFeedSoftStartEnd k s = _ from State.event_on _ hd ho

theorem exec_feedShort (k ma : Nat) (s : State) (hd : s.dead = false) (ho : (isFeed k) = true) :
    exec (.feedShort k ma) s = .next (s.finish ((s.feedSense k ma).feedTrip k 0x0208 (F.FEED_STATUS_SHORT_EV k))) :=
  show execFeedShort k ma s = _ from State.event_on _ hd ho

theorem exec_feedI2tTrip (k ma us : Nat) (s : State) (hd : s.dead = false) (ho : (isFeed k) = true) :
    exec (.feedI2tTrip k ma us) s = .next (s.finish (s.feedI2t k ma us)) :=
  show execFeedI2tTrip k ma us s = _ from State.event_on _ hd ho

theorem exec_feedCoolOffEnd (k : Nat) (s : State) (hd : s.dead = false) (ho : (isFeed k) = true) :
    exec (.feedCoolOffEnd k) s = .next (s.finish (s.feedCooled k)) :=
  show execFeedCoolOffEnd k s = _ from State.event_on _ hd ho

theorem exec_feedStuck (k ma : Nat) (s : State) (hd : s.dead = false) (ho : (isFeed k) = true) :
    exec (.feedStuck k ma) s = .next (s.finish (s.feedStuck k ma)) :=
  show execFeedStuck k ma s = _ from State.event_on _ hd ho

theorem exec_feedTripAgeOut (k : Nat) (s : State) (hd : s.dead = false) (ho : (isFeed k) = true) :
    exec (.feedTripAgeOut k) s = .next (s.finish (s.putTrips k (s.trips k - 1))) :=
  show execFeedTripAgeOut k s = _ from State.event_on _ hd ho

theorem exec_laneStart (n : Nat) (s : State) (hd : s.dead = false) (ho : (Nat.blt n 96) = true) :
    exec (.laneStart n) s = .next (s.finish (s.laneStart n)) :=
  show execLaneStart n s = _ from State.event_on _ hd ho

theorem exec_laneStop (n : Nat) (s : State) (hd : s.dead = false) (ho : (Nat.blt n 96) = true) :
    exec (.laneStop n) s = .next (s.finish (s.laneStop n)) :=
  show execLaneStop n s = _ from State.event_on _ hd ho

theorem exec_glbSyncresetWrite (w : Word) (s : State) (hd : s.dead = false) (hp : s.pinLow = false) :
    exec (.glbSyncresetWrite w) s = .next (s.finish (s.regWrite srcTwoWire 0x25 w.toNat)) :=
  show execGlbSyncresetWrite w s = _ from State.host_on _ _ hd hp rfl

theorem exec_laneSyncReset (s : State) (hd : s.dead = false) :
    exec .laneSyncReset s = .next (s.finish (s.syncReset)) :=
  show execLaneSyncReset s = _ from State.event_on _ hd rfl

theorem exec_laneSettled (n : Nat) (s : State) (hd : s.dead = false) (ho : (Nat.blt n 96) = true) :
    exec (.laneSettled n) s = .next (s.finish (s.laneSettled n)) :=
  show execLaneSettled n s = _ from State.event_on _ hd ho

theorem exec_detectorWindowEnd (n : Nat) (s : State) (hd : s.dead = false) (ho : (Nat.blt n 96) = true) :
    exec (.detectorWindowEnd n) s = .next (s.finish (s.detectorEnd n)) :=
  show execDetectorWindowEnd n s = _ from State.event_on _ hd ho

theorem exec_laneResidueFault (l : Nat) (bank branch2 : Bool) (s : State) (hd : s.dead = false) (ho : (Nat.blt l 104) = true) :
    exec (.laneResidueFault l bank branch2) s = .next (s.finish (s.laneFault l (if bank then 0x0302 else 0x0301) {} (b2n branch2))) :=
  show execLaneResidueFault l bank branch2 s = _ from State.event_on _ hd ho

theorem exec_patrolStart (l : Nat) (s : State) (hd : s.dead = false) (ho : (Nat.blt l 104) = true) :
    exec (.patrolStart l) s = .next (s.finish (s.patrolStart l)) :=
  show execPatrolStart l s = _ from State.event_on _ hd ho

theorem exec_patrolCompareEnd (l : Nat) (equal : Bool) (spareOk : Bool) (s : State) (hd : s.dead = false) (ho : (Nat.blt l 104) = true) :
    exec (.patrolCompareEnd l equal spareOk) s = .next (s.finish (s.patrolEnd l equal spareOk)) :=
  show execPatrolCompareEnd l equal spareOk s = _ from State.event_on _ hd ho

theorem exec_takeoverSwitch (n : Nat) (s : State) (hd : s.dead = false) (ho : (Nat.blt n 96) = true) :
    exec (.takeoverSwitch n) s = .next (s.finish (s.takeoverSwitch n)) :=
  show execTakeoverSwitch n s = _ from State.event_on _ hd ho

theorem exec_laneSelftestDone (l : Nat) (pass : Bool) (s : State) (hd : s.dead = false) (ho : (Nat.blt l 104) = true) :
    exec (.laneSelftestDone l pass) s = .next (s.finish (s.laneTested l pass)) :=
  show execLaneSelftestDone l pass s = _ from State.event_on _ hd ho

theorem exec_berthRunWrite (n : Nat) (w : Word) (s : State) (hd : s.dead = false) (hp : s.pinLow = false) (ho : (Nat.blt n 96 && w.getLsbD 15) = true) :
    exec (.berthRunWrite n w) s =
      .next (s.finish (s.regWrite srcTwoWire (0x400 + 0x40 * n) w.toNat)) :=
  show execBerthRunWrite n w s = _ from State.host_on _ _ hd hp ho

theorem exec_standardChange (n : Nat) (w : Word) (s : State) (hd : s.dead = false) (hp : s.pinLow = false) (ho : (Nat.blt n 96) = true) :
    exec (.standardChange n w) s = .next (s.finish (s.regWrite srcTwoWire (0x400 + 0x40 * n) w.toNat)) :=
  show execStandardChange n w s = _ from State.host_on _ _ hd hp ho

theorem exec_berthStopComplete (n : Nat) (s : State) (hd : s.dead = false) (ho : (Nat.blt n 96) = true) :
    exec (.berthStopComplete n) s = .next (s.finish (s.berthStopped n)) :=
  show execBerthStopComplete n s = _ from State.event_on _ hd ho

theorem exec_ticketReady (n cls : Nat) (kinds : List Nat) (s : State) (hd : s.dead = false) (ho : (Nat.blt n 96) = true) :
    exec (.ticketReady n cls kinds) s = .next (s.finish (s.ticketReady n cls kinds)) :=
  show execTicketReady n cls kinds s = _ from State.event_on _ hd ho

theorem exec_beatEnd (c : Nat) (complete : Bool) (noCredit : Bool) (progress : Nat) (s : State) (hd : s.dead = false) (ho : (Nat.blt c 33) = true) :
    exec (.beatEnd c complete noCredit progress) s =
      .next (s.finish ((s.beatDone c complete).beatEnd c complete noCredit progress)) :=
  show execBeatEnd c complete noCredit progress s = _ from State.event_on _ hd ho

theorem exec_ticketUnpark (n : Nat) (s : State) (hd : s.dead = false) (ho : (Nat.blt n 96) = true) :
    exec (.ticketUnpark n) s = .next (s.finish (s.unpark n)) :=
  show execTicketUnpark n s = _ from State.event_on _ hd ho

theorem exec_berthInputOverwrite (n len : Nat) (s : State) (hd : s.dead = false) (ho : (Nat.blt n 96) = true) :
    exec (.berthInputOverwrite n len) s = .next (s.finish (s.berthOverwrite n len)) :=
  show execBerthInputOverwrite n len s = _ from State.event_on _ hd ho

theorem exec_craneFault (c detector : Nat) (s : State) (hd : s.dead = false) (ho : (Nat.blt c 33 && inR 0x0401 0x0402 detector && s.domOn 5) = true) :
    exec (.craneFault c detector) s =
      .next (s.finish (s.craneFault c detector)) :=
  show execCraneFault c detector s = _ from State.event_on _ hd ho

theorem exec_beatWatchdogExpire (c : Nat) (s : State) (hd : s.dead = false) (ho : (Nat.blt c 33 && s.on (F.CRN_STATUS_BUSY c)) = true) :
    exec (.beatWatchdogExpire c) s = .next (s.finish (s.craneFault c 0x0403)) :=
  show execBeatWatchdogExpire c s = _ from State.event_on _ hd ho

theorem exec_craneSelftestDone (c : Nat) (pass : Bool) (s : State) (hd : s.dead = false) (ho : (Nat.blt c 33) = true) :
    exec (.craneSelftestDone c pass) s = .next (s.finish (s.craneTested c pass)) :=
  show execCraneSelftestDone c pass s = _ from State.event_on _ hd ho

theorem exec_craneSelftestCmd (c : Nat) (w : Word) (s : State) (hd : s.dead = false) (hp : s.pinLow = false) (ho : (Nat.blt c 33) = true) :
    exec (.craneSelftestCmd c w) s = .next (s.finish (s.regWrite srcTwoWire (0x1C07 + 0x10 * c) w.toNat)) :=
  show execCraneSelftestCmd c w s = _ from State.host_on _ _ hd hp ho

theorem exec_consignmentArrival (n c : Nat) (seq : BitVec 32) (content : Nat) (settling injected : Bool) (ts : BitVec 64) (payload : List Byte) (s : State) (hd : s.dead = false) (ho : (Nat.blt n 96 && Nat.blt c 33) = true) :
    exec (.consignmentArrival n c seq content settling injected ts payload) s =
      .next (s.finish (s.arrive n c seq.toNat content (s.flags settling false false injected) ts.toNat payload)) :=
  show execConsignmentArrival n c seq content settling injected ts payload s = _ from State.event_on _ hd ho

theorem exec_amDepthUpdate (n : Nat) (s : State) (hd : s.dead = false) (ho : (Nat.blt n 96) = true) :
    exec (.amDepthUpdate n) s = .next (s.finish (s.amDepth n)) :=
  show execAmDepthUpdate n s = _ from State.event_on _ hd ho

theorem exec_stereoPilotTimer (n : Nat) (above : Bool) (s : State) (hd : s.dead = false) (ho : (Nat.blt n 96) = true) :
    exec (.stereoPilotTimer n above) s = .next (s.finish (s.stereo n above)) :=
  show execStereoPilotTimer n above s = _ from State.event_on _ hd ho

theorem exec_rdsBlock (n : Nat) (raw : BitVec 32) (ts : BitVec 64) (s : State) (hd : s.dead = false) (ho : (Nat.blt n 96) = true) :
    exec (.rdsBlock n raw ts) s = .next (s.finish (s.rdsBlock n (raw.toNat % 2 ^ 26) ts.toNat)) :=
  show execRdsBlock n raw ts s = _ from State.event_on _ hd ho

theorem exec_afSoundingDone (ml : Nat) (s : State) (hd : s.dead = false) (ho : (Nat.blt ml 104) = true) :
    exec (.afSoundingDone ml) s = .next (s.finish (s.soundDone ml)) :=
  show execAfSoundingDone ml s = _ from State.event_on _ hd ho

theorem exec_afBanExpire (h cand : Nat) (s : State) (hd : s.dead = false) (ho : (Nat.blt h 96) = true) :
    exec (.afBanExpire h cand) s = .next (s.finish (s.banOver h cand)) :=
  show execAfBanExpire h cand s = _ from State.event_on _ hd ho

theorem exec_afFadeStart (h : Nat) (qHome : Int) (s : State) (hd : s.dead = false) (ho : (Nat.blt h 96 && !s.digital h) = true) :
    exec (.afFadeStart h qHome) s = .next (s.finish (s.followStart h qHome)) :=
  show execAfFadeStart h qHome s = _ from State.event_on _ hd ho

theorem exec_fadePartnerSettled (h : Nat) (s : State) (hd : s.dead = false) (ho : (Nat.blt h 96) = true) :
    exec (.fadePartnerSettled h) s = .next (s.finish (s.fadeSettled h)) :=
  show execFadePartnerSettled h s = _ from State.event_on _ hd ho

theorem exec_fadePiTimeout (h : Nat) (s : State) (hd : s.dead = false) (ho : (Nat.blt h 96 && !s.digital h) = true) :
    exec (.fadePiTimeout h) s = .next (s.finish (s.fadeTimeout h)) :=
  show execFadePiTimeout h s = _ from State.event_on _ hd ho

theorem exec_fadeDwellWindow (h : Nat) (qHome qPartner : Int) (s : State) (hd : s.dead = false) (ho : (Nat.blt h 96 && !s.digital h) = true) :
    exec (.fadeDwellWindow h qHome qPartner) s =
      .next (s.finish (s.fadeWindow h qHome qPartner)) :=
  show execFadeDwellWindow h qHome qPartner s = _ from State.event_on _ hd ho

theorem exec_fadeAlignDone (h : Nat) (s : State) (hd : s.dead = false) (ho : (Nat.blt h 96) = true) :
    exec (.fadeAlignDone h) s = .next (s.finish (s.fadeAligned h)) :=
  show execFadeAlignDone h s = _ from State.event_on _ hd ho

theorem exec_fadeRampDone (h : Nat) (s : State) (hd : s.dead = false) (ho : (Nat.blt h 96) = true) :
    exec (.fadeRampDone h) s = .next (s.finish (s.fadeRamped h)) :=
  show execFadeRampDone h s = _ from State.event_on _ hd ho

theorem exec_fadeSwap (h : Nat) (s : State) (hd : s.dead = false) (ho : (Nat.blt h 96) = true) :
    exec (.fadeSwap h) s = .next (s.finish ((s.fadeSwapped h).recordSwap s h)) :=
  show execFadeSwap h s = _ from State.event_on _ hd ho

theorem exec_fadeGoCmd (h : Nat) (w : Word) (s : State) (hd : s.dead = false) (hp : s.pinLow = false) (ho : (Nat.blt h 96 && inR 1 4 (s.std h)) = true) :
    exec (.fadeGoCmd h w) s =
      .next (s.finish (s.regWrite srcTwoWire (0x40E + 0x40 * h) w.toNat)) :=
  show execFadeGoCmd h w s = _ from State.host_on _ _ hd hp ho

theorem exec_fadeAbortCmd (h : Nat) (w : Word) (s : State) (hd : s.dead = false) (hp : s.pinLow = false) (ho : (Nat.blt h 96 && inR 1 4 (s.std h)) = true) :
    exec (.fadeAbortCmd h w) s =
      .next (s.finish (s.regWrite srcTwoWire (0x40E + 0x40 * h) w.toNat)) :=
  show execFadeAbortCmd h w s = _ from State.host_on _ _ hd hp ho

theorem exec_dabFrame (n : Nat) (f : DabFrame) (s : State) (hd : s.dead = false) (ho : (Nat.blt n 96) = true) :
    exec (.dabFrame n f) s = .next (s.finish (s.dabFrame n f)) :=
  show execDabFrame n f s = _ from State.event_on _ hd ho

theorem exec_dabAlarmTimeout (n : Nat) (s : State) (hd : s.dead = false) (ho : (Nat.blt n 96) = true) :
    exec (.dabAlarmTimeout n) s = .next (s.finish (s.dabAlarmTimeout n)) :=
  show execDabAlarmTimeout n s = _ from State.event_on _ hd ho

theorem exec_dabSyncLoss (n : Nat) (s : State) (hd : s.dead = false) (ho : (Nat.blt n 96) = true) :
    exec (.dabSyncLoss n) s = .next (s.finish (s.dabLost n)) :=
  show execDabSyncLoss n s = _ from State.event_on _ hd ho

theorem exec_dabReconfigApply (n : Nat) (cif : Nat) (s : State) (hd : s.dead = false) (ho : (Nat.blt n 96) = true) :
    exec (.dabReconfigApply n cif) s = .next (s.finish (s.dabReconfig n cif)) :=
  show execDabReconfigApply n cif s = _ from State.event_on _ hd ho

theorem exec_cifDeinterleaved (n : Nat) (cif : Nat) (ts : BitVec 64) (subs : List SubchData) (s : State) (hd : s.dead = false) (ho : (Nat.blt n 96) = true) :
    exec (.cifDeinterleaved n cif ts subs) s =
      .next (s.finish (s.cifOut n cif ts.toNat subs)) :=
  show execCifDeinterleaved n cif ts subs s = _ from State.event_on _ hd ho

theorem exec_drmFrame (n : Nat) (f : DrmFrame) (s : State) (hd : s.dead = false) (ho : (Nat.blt n 96) = true) :
    exec (.drmFrame n f) s = .next (s.finish (s.drmFrame n f)) :=
  show execDrmFrame n f s = _ from State.event_on _ hd ho

theorem exec_drmSuperframe (n : Nat) (f : DrmSuper) (s : State) (hd : s.dead = false) (ho : (Nat.blt n 96) = true) :
    exec (.drmSuperframe n f) s = .next (s.finish (s.drmSuper n f)) :=
  show execDrmSuperframe n f s = _ from State.event_on _ hd ho

theorem exec_drmSyncLoss (n : Nat) (s : State) (hd : s.dead = false) (ho : (Nat.blt n 96) = true) :
    exec (.drmSyncLoss n) s = .next (s.finish (s.drmLost n)) :=
  show execDrmSyncLoss n s = _ from State.event_on _ hd ho

theorem exec_drmReconfigApply (n : Nat) (s : State) (hd : s.dead = false) (ho : (Nat.blt n 96) = true) :
    exec (.drmReconfigApply n) s = .next (s.finish (s.drmReconfig n)) :=
  show execDrmReconfigApply n s = _ from State.event_on _ hd ho

theorem exec_digitalFadeStart (h : Nat) (pHome : Int) (s : State) (hd : s.dead = false) (ho : (Nat.blt h 96 && s.digital h) = true) :
    exec (.digitalFadeStart h pHome) s = .next (s.finish (s.followStart h pHome)) :=
  show execDigitalFadeStart h pHome s = _ from State.event_on _ hd ho

theorem exec_digitalVerifyTimeout (h : Nat) (s : State) (hd : s.dead = false) (ho : (Nat.blt h 96 && s.digital h) = true) :
    exec (.digitalVerifyTimeout h) s = .next (s.finish (s.fadeTimeout h)) :=
  show execDigitalVerifyTimeout h s = _ from State.event_on _ hd ho

theorem exec_digitalDwellWindow (h : Nat) (home partner : Nat × Nat) (s : State) (hd : s.dead = false) (ho : (Nat.blt h 96) = true) :
    exec (.digitalDwellWindow h home partner) s = .next (s.finish (s.digitalWindow h home partner)) :=
  show execDigitalDwellWindow h home partner s = _ from State.event_on _ hd ho

theorem exec_digitalAlignDone (h : Nat) (s : State) (hd : s.dead = false) (ho : (Nat.blt h 96) = true) :
    exec (.digitalAlignDone h) s = .next (s.finish (s.digitalAligned h)) :=
  show execDigitalAlignDone h s = _ from State.event_on _ hd ho

theorem exec_digitalSwap (h : Nat) (s : State) (hd : s.dead = false) (ho : (Nat.blt h 96) = true) :
    exec (.digitalSwap h) s = .next (s.finish ((s.digitalSwap h).recordSwap s h)) :=
  show execDigitalSwap h s = _ from State.event_on _ hd ho

theorem exec_fadePartnerDrained (h : Nat) (s : State) (hd : s.dead = false) (ho : (Nat.blt h 96) = true) :
    exec (.fadePartnerDrained h) s = .next (s.finish (s.partnerDrained h)) :=
  show execFadePartnerDrained h s = _ from State.event_on _ hd ho

theorem exec_t2Frame (n : Nat) (f : T2Frame) (s : State) (hd : s.dead = false) (ho : (Nat.blt n 96) = true) :
    exec (.t2Frame n f) s = .next (s.finish (s.t2Frame n f)) :=
  show execT2Frame n f s = _ from State.event_on _ hd ho

theorem exec_ewsTimeout (n : Nat) (s : State) (hd : s.dead = false) (ho : (Nat.blt n 96) = true) :
    exec (.ewsTimeout n) s = .next (s.finish (s.ewsTimeout n)) :=
  show execEwsTimeout n s = _ from State.event_on _ hd ho

theorem exec_dvbtFrame (n : Nat) (f : DvbtFrame) (s : State) (hd : s.dead = false) (ho : (Nat.blt n 96) = true) :
    exec (.dvbtFrame n f) s = .next (s.finish (s.dvbtFrame n f)) :=
  show execDvbtFrame n f s = _ from State.event_on _ hd ho

theorem exec_dvbSyncLoss (n : Nat) (s : State) (hd : s.dead = false) (ho : (Nat.blt n 96) = true) :
    exec (.dvbSyncLoss n) s = .next (s.finish (s.dvbLost n)) :=
  show execDvbSyncLoss n s = _ from State.event_on _ hd ho

theorem exec_l1ChangeApply (n : Nat) (plps : List Plp) (ts : BitVec 64) (s : State) (hd : s.dead = false) (ho : (Nat.blt n 96) = true) :
    exec (.l1ChangeApply n plps ts) s = .next (s.finish (s.l1Change n plps ts.toNat)) :=
  show execL1ChangeApply n plps ts s = _ from State.event_on _ hd ho

theorem exec_interleavingFrameComplete (n : Nat) (plp frameIdx : Nat) (ts : BitVec 64) (fecs : List FecFrame) (s : State) (hd : s.dead = false) (ho : (Nat.blt n 96) = true) :
    exec (.interleavingFrameComplete n plp frameIdx ts fecs) s =
      .next (s.finish (s.ifComplete n plp frameIdx ts.toNat fecs)) :=
  show execInterleavingFrameComplete n plp frameIdx ts fecs s = _ from State.event_on _ hd ho

theorem exec_dgReassemblyTimeout (n ref : Nat) (s : State) (hd : s.dead = false) (ho : (Nat.blt n 96) = true) :
    exec (.dgReassemblyTimeout n ref) s = .next (s.finish (s.dgTimeout n ref)) :=
  show execDgReassemblyTimeout n ref s = _ from State.event_on _ hd ho

theorem exec_recordWindowEnd (n : Nat) (s : State) (hd : s.dead = false) (ho : (Nat.blt n 96) = true) :
    exec (.recordWindowEnd n) s = .next (s.finish (s.windowEnd n)) :=
  show execRecordWindowEnd n s = _ from State.event_on _ hd ho

theorem exec_recordComplete (n : Nat) (s : State) (hd : s.dead = false) (ho : (Nat.blt n 96) = true) :
    exec (.recordComplete n) s = .next (s.finish (s.recordDone n)) :=
  show execRecordComplete n s = _ from State.event_on _ hd ho

theorem exec_intakeRecordWindowEnd (s : State) (hd : s.dead = false) :
    exec .intakeRecordWindowEnd s = .next (s.finish (s.intakeRecord)) :=
  show execIntakeRecordWindowEnd s = _ from State.event_on _ hd rfl

theorem exec_quayFrameStart (q : Nat) (s : State) (hd : s.dead = false) (ho : (Nat.blt q 4) = true) :
    exec (.quayFrameStart q) s = .next (s.finish (s.quayStart q)) :=
  show execQuayFrameStart q s = _ from State.event_on _ hd ho

theorem exec_quayFrameEnd (q : Nat) (s : State) (hd : s.dead = false) (ho : (Nat.blt q 4) = true) :
    exec (.quayFrameEnd q) s = .next (s.finish ((s.quayEnd q).settle)) :=
  show execQuayFrameEnd q s = _ from State.event_on _ hd ho

theorem exec_quayHoldRise (q : Nat) (s : State) (hd : s.dead = false) (ho : (Nat.blt q 4) = true) :
    exec (.quayHoldRise q) s = .next (s.finish (s.quayHold q true)) :=
  show execQuayHoldRise q s = _ from State.event_on _ hd ho

theorem exec_quayHoldFall (q : Nat) (s : State) (hd : s.dead = false) (ho : (Nat.blt q 4) = true) :
    exec (.quayHoldFall q) s = .next (s.finish (s.quayHold q false)) :=
  show execQuayHoldFall q s = _ from State.event_on _ hd ho

theorem exec_quayHoldLong (q : Nat) (s : State) (hd : s.dead = false) (ho : (Nat.blt q 4) = true) :
    exec (.quayHoldLong q) s = .next (s.finish (s.quayHoldLong q)) :=
  show execQuayHoldLong q s = _ from State.event_on _ hd ho

theorem exec_landingAligned (s : State) (hd : s.dead = false) :
    exec .landingAligned s = .next (s.finish (s.landAligned)) :=
  show execLandingAligned s = _ from State.event_on _ hd rfl

theorem exec_landingAlignLost (s : State) (hd : s.dead = false) :
    exec .landingAlignLost s = .next (s.finish (s.landAlignLost)) :=
  show execLandingAlignLost s = _ from State.event_on _ hd rfl

theorem exec_landingFrameJudged (codeError : Bool) (eofOk : Bool) (s : State) (hd : s.dead = false) :
    exec (.landingFrameJudged codeError eofOk) s = .next (s.finish (s.landJudge codeError eofOk)) :=
  show execLandingFrameJudged codeError eofOk s = _ from State.event_on _ hd rfl

theorem exec_landingFrameHandoff (s : State) (hd : s.dead = false) :
    exec .landingFrameHandoff s = .next (s.finish (s.landHandoff)) :=
  show execLandingFrameHandoff s = _ from State.event_on _ hd rfl

theorem exec_landingColumnReceived (g0 g1 : BitVec 10) (pops : Nat) (s : State) (hd : s.dead = false) :
    exec (.landingColumnReceived g0 g1 pops) s = .next (s.finish (s.landColumn g0 g1 pops)) :=
  show execLandingColumnReceived g0 g1 pops s = _ from State.event_on _ hd rfl

theorem exec_auStartWrite (w : Word) (s : State) (hd : s.dead = false) (hp : s.pinLow = false) :
    exec (.auStartWrite w) s = .next (s.finish (s.regWrite srcTwoWire 0x2340 w.toNat)) :=
  show execAuStartWrite w s = _ from State.host_on _ _ hd hp rfl

theorem exec_audioStartInstant (p : Nat) (s : State) (hd : s.dead = false) (ho : (Nat.blt p 4) = true) :
    exec (.audioStartInstant p) s = .next (s.finish (s.startInstant p)) :=
  show execAudioStartInstant p s = _ from State.event_on _ hd ho

theorem exec_audioSettled (p : Nat) (s : State) (hd : s.dead = false) (ho : (Nat.blt p 4) = true) :
    exec (.audioSettled p) s = .next (s.finish (s.portSettled p)) :=
  show execAudioSettled p s = _ from State.event_on _ hd ho

theorem exec_audioFadeDone (p : Nat) (s : State) (hd : s.dead = false) (ho : (Nat.blt p 4) = true) :
    exec (.audioFadeDone p) s = .next (s.finish (s.portFaded p)) :=
  show execAudioFadeDone p s = _ from State.event_on _ hd ho

theorem exec_audioSlotLate (p slot : Nat) (s : State) (hd : s.dead = false) (ho : (Nat.blt p 4) = true) :
    exec (.audioSlotLate p slot) s = .next (s.finish (s.slotLate p slot)) :=
  show execAudioSlotLate p slot s = _ from State.event_on _ hd ho

theorem exec_audioUnderrun (p : Nat) (s : State) (hd : s.dead = false) (ho : (Nat.blt p 4) = true) :
    exec (.audioUnderrun p) s = .next (s.finish (s.portUnderrun p)) :=
  show execAudioUnderrun p s = _ from State.event_on _ hd ho

theorem exec_audioConverterResume (p : Nat) (s : State) (hd : s.dead = false) (ho : (Nat.blt p 4) = true) :
    exec (.audioConverterResume p) s = .next (s.finish (s.portResume p)) :=
  show execAudioConverterResume p s = _ from State.event_on _ hd ho

theorem exec_audioRateWindow (p : Nat) (rate : BitVec 32) (s : State) (hd : s.dead = false) (ho : (Nat.blt p 4) = true) :
    exec (.audioRateWindow p rate) s = .next (s.finish (s.rateWindow p rate.toNat)) :=
  show execAudioRateWindow p rate s = _ from State.event_on _ hd ho

theorem exec_slaveClockStop (p : Nat) (s : State) (hd : s.dead = false) (ho : (Nat.blt p 4) = true) :
    exec (.slaveClockStop p) s = .next (s.finish (s.clockStop p)) :=
  show execSlaveClockStop p s = _ from State.event_on _ hd ho

theorem exec_slaveFrameGlitch (p : Nat) (s : State) (hd : s.dead = false) (ho : (Nat.blt p 4) = true) :
    exec (.slaveFrameGlitch p) s = .next (s.finish (s.clockGlitch p)) :=
  show execSlaveFrameGlitch p s = _ from State.event_on _ hd ho

theorem exec_slaveRateChange (p : Nat) (s : State) (hd : s.dead = false) (ho : (Nat.blt p 4) = true) :
    exec (.slaveRateChange p) s = .next (s.finish (s.rateChange p)) :=
  show execSlaveRateChange p s = _ from State.event_on _ hd ho

theorem exec_slaveClockQualified (p : Nat) (s : State) (hd : s.dead = false) (ho : (Nat.blt p 4) = true) :
    exec (.slaveClockQualified p) s = .next (s.finish (s.clockGood p)) :=
  show execSlaveClockQualified p s = _ from State.event_on _ hd ho

theorem exec_loadKey (confirm : Byte) (slot : Nat) (s : State) (hd : s.dead = false) (hp : s.pinLow = false) (ho : (Nat.blt slot 32) = true) :
    exec (.loadKey confirm slot) s =
      .next (s.finish (s.regWrite srcTwoWire 0x2401 (confirm.toNat * 256 + slot * 8 + 1))) :=
  show execLoadKey confirm slot s = _ from State.host_on _ _ hd hp ho

theorem exec_eraseSlot (confirm : Byte) (slot : Nat) (s : State) (hd : s.dead = false) (hp : s.pinLow = false) (ho : (Nat.blt slot 32) = true) :
    exec (.eraseSlot confirm slot) s =
      .next (s.finish (s.regWrite srcTwoWire 0x2401 (confirm.toNat * 256 + slot * 8 + 2))) :=
  show execEraseSlot confirm slot s = _ from State.host_on _ _ hd hp ho

theorem exec_eraseAll (confirm : Byte) (s : State) (hd : s.dead = false) (hp : s.pinLow = false) :
    exec (.eraseAll confirm) s = .next (s.finish (s.regWrite srcTwoWire 0x2401 (confirm.toNat * 256 + 3))) :=
  show execEraseAll confirm s = _ from State.host_on _ _ hd hp rfl

theorem exec_programKek (confirm : Byte) (s : State) (hd : s.dead = false) (hp : s.pinLow = false) :
    exec (.programKek confirm) s = .next (s.finish (s.regWrite srcTwoWire 0x2401 (confirm.toNat * 256 + 4))) :=
  show execProgramKek confirm s = _ from State.host_on _ _ hd hp rfl

theorem exec_kekBurnDone (s : State) (hd : s.dead = false) :
    exec .kekBurnDone s = .next (s.finish (s.kekBurned)) :=
  show execKekBurnDone s = _ from State.event_on _ hd rfl

theorem exec_bondRequestAccept (src : Nat) (srcSeq : BitVec 32) (mode : Nat) (ts : BitVec 64) (data : List Byte) (s : State) (hd : s.dead = false) :
    exec (.bondRequestAccept src srcSeq mode ts data) s =
      .next (s.finish (s.reqArrive src srcSeq.toNat mode ts.toNat data)) :=
  show execBondRequestAccept src srcSeq mode ts data s = _ from State.event_on _ hd rfl

theorem exec_bondRequestServe (bytes : Nat) (roundOk : Bool) (s : State) (hd : s.dead = false) :
    exec (.bondRequestServe bytes roundOk) s = .next (s.finish (s.serveRound bytes roundOk)) :=
  show execBondRequestServe bytes roundOk s = _ from State.event_on _ hd rfl

theorem exec_bondResidueFault (s : State) (hd : s.dead = false) :
    exec .bondResidueFault s = .next (s.finish (s.bondResidue false)) :=
  show execBondResidueFault s = _ from State.event_on _ hd rfl

theorem exec_gcmVerdict (s : State) (hd : s.dead = false) :
    exec .gcmVerdict s = .next (s.finish (s.gcmVerdict)) :=
  show execGcmVerdict s = _ from State.event_on _ hd rfl

theorem exec_xtsSectorDone (s : State) (hd : s.dead = false) :
    exec .xtsSectorDone s = .next (s.finish (s.xtsDone)) :=
  show execXtsSectorDone s = _ from State.event_on _ hd rfl

theorem exec_captureFlushTimeout (c : Nat) (s : State) (hd : s.dead = false) (ho : (Nat.blt c 8) = true) :
    exec (.captureFlushTimeout c) s = .next (s.finish (s.capFlush c)) :=
  show execCaptureFlushTimeout c s = _ from State.event_on _ hd ho

theorem exec_ivEntryExpire (slot : Nat) (gen : Word) (iv : List Byte) (s : State) (hd : s.dead = false) :
    exec (.ivEntryExpire slot gen iv) s = .next (s.finish (s.ivExpire slot gen.toNat iv)) :=
  show execIvEntryExpire slot gen iv s = _ from State.event_on _ hd rfl

theorem exec_entropyHealthFail (s : State) (hd : s.dead = false) :
    exec .entropyHealthFail s = .next (s.finish (s.entropyFail)) :=
  show execEntropyHealthFail s = _ from State.event_on _ hd rfl

theorem exec_entropyRetry (pass : Bool) (s : State) (hd : s.dead = false) :
    exec (.entropyRetry pass) s = .next (s.finish (s.entropyRetry pass)) :=
  show execEntropyRetry pass s = _ from State.event_on _ hd rfl

theorem exec_drbgReseed (s : State) (hd : s.dead = false) :
    exec .drbgReseed s = .next (s.finish (s.reseed)) :=
  show execDrbgReseed s = _ from State.event_on _ hd rfl

theorem exec_keyShareRefresh (s : State) (hd : s.dead = false) :
    exec .keyShareRefresh s = .next (s.finish (s.refreshShares)) :=
  show execKeyShareRefresh s = _ from State.event_on _ hd rfl

theorem exec_pilotRequestAccept (src : Nat) (srcSeq : BitVec 32) (cont : Bool) (data : List Byte) (s : State) (hd : s.dead = false) :
    exec (.pilotRequestAccept src srcSeq cont data) s = .next (s.finish (s.pilotArrive src srcSeq.toNat cont data)) :=
  show execPilotRequestAccept src srcSeq cont data s = _ from State.event_on _ hd rfl

theorem exec_periodicDue (e : Nat) (s : State) (hd : s.dead = false) :
    exec (.periodicDue e) s = .next (s.finish (s.periodicDue e)) :=
  show execPeriodicDue e s = _ from State.event_on _ hd rfl

theorem exec_pilotScheduleStep (s : State) (hd : s.dead = false) :
    exec .pilotScheduleStep s = .next (s.finish (s.scheduleStep)) :=
  show execPilotScheduleStep s = _ from State.event_on _ hd rfl

theorem exec_lockWaitExpire (s : State) (hd : s.dead = false) :
    exec .lockWaitExpire s = .next (s.finish (s.lockWaitExpire)) :=
  show execLockWaitExpire s = _ from State.event_on _ hd rfl

theorem exec_budgetWaitExpire (s : State) (hd : s.dead = false) :
    exec .budgetWaitExpire s = .next (s.finish (s.budgetWaitExpire)) :=
  show execBudgetWaitExpire s = _ from State.event_on _ hd rfl

theorem exec_ccaMeasureDone (s : State) (hd : s.dead = false) :
    exec .ccaMeasureDone s = .next (s.finish (s.ccaDone)) :=
  show execCcaMeasureDone s = _ from State.event_on _ hd rfl

theorem exec_ccaBackoffEnd (s : State) (hd : s.dead = false) :
    exec .ccaBackoffEnd s = .next (s.finish (s.backoffEnd)) :=
  show execCcaBackoffEnd s = _ from State.event_on _ hd rfl

theorem exec_pilotWindowOpen (clamped : Bool) (s : State) (hd : s.dead = false) :
    exec (.pilotWindowOpen clamped) s = .next (s.finish (s.windowOpen clamped)) :=
  show execPilotWindowOpen clamped s = _ from State.event_on _ hd rfl

theorem exec_pilotAirEnd (s : State) (hd : s.dead = false) :
    exec .pilotAirEnd s = .next (s.finish (s.airEnd)) :=
  show execPilotAirEnd s = _ from State.event_on _ hd rfl

theorem exec_pilotTurnroundEnd (s : State) (hd : s.dead = false) :
    exec .pilotTurnroundEnd s = .next (s.finish (s.turnroundEnd)) :=
  show execPilotTurnroundEnd s = _ from State.event_on _ hd rfl

theorem exec_listenWindowEnd (s : State) (hd : s.dead = false) :
    exec .listenWindowEnd s = .next (s.finish (s.listenClose)) :=
  show execListenWindowEnd s = _ from State.event_on _ hd rfl

theorem exec_dutyBinExpire (second : Nat) (s : State) (hd : s.dead = false) :
    exec (.dutyBinExpire second) s = .next (s.finish (s.dutyExpire second)) :=
  show execDutyBinExpire second s = _ from State.event_on _ hd rfl

theorem exec_preambleDeclared (n timing : Nat) (freq : Int) (s : State) (hd : s.dead = false) (ho : (Nat.blt n 96) = true) :
    exec (.preambleDeclared n timing freq) s = .next (s.finish (s.preamble n timing freq)) :=
  show execPreambleDeclared n timing freq s = _ from State.event_on _ hd ho

theorem exec_sfdFound (n : Nat) (freq : Int) (s : State) (hd : s.dead = false) (ho : (Nat.blt n 96) = true) :
    exec (.sfdFound n freq) s = .next (s.finish (s.sfd n freq)) :=
  show execSfdFound n freq s = _ from State.event_on _ hd ho

theorem exec_sfdTimeout (n : Nat) (s : State) (hd : s.dead = false) (ho : (Nat.blt n 96) = true) :
    exec (.sfdTimeout n) s = .next (s.finish (s.sfdTimeout n)) :=
  show execSfdTimeout n s = _ from State.event_on _ hd ho

theorem exec_phrReceived (n : Nat) (phr : Word) (snr : Int) (s : State) (hd : s.dead = false) (ho : (Nat.blt n 96) = true) :
    exec (.phrReceived n phr snr) s = .next (s.finish (s.phr n phr.toNat snr)) :=
  show execPhrReceived n phr snr s = _ from State.event_on _ hd ho

theorem exec_pilotFrameReceived (n : Nat) (psdu : List Byte) (freqs : List Int) (s : State) (hd : s.dead = false) (ho : (Nat.blt n 96) = true) :
    exec (.pilotFrameReceived n psdu freqs) s =
      .next (s.finish (s.rxFrame n psdu freqs)) :=
  show execPilotFrameReceived n psdu freqs s = _ from State.event_on _ hd ho

theorem exec_captureOverrun (i : Nat) (s : State) (hd : s.dead = false) :
    exec (.captureOverrun i) s = .next (s.finish (s.captureOverrun i)) :=
  show execCaptureOverrun i s = _ from State.event_on _ hd rfl

theorem exec_alertHoldExpire (kind src : Nat) (s : State) (hd : s.dead = false) :
    exec (.alertHoldExpire kind src) s = .next (s.finish (s.alertExpire kind src)) :=
  show execAlertHoldExpire kind src s = _ from State.event_on _ hd rfl

theorem exec_alertTest (w : Word) (s : State) (hd : s.dead = false) (hp : s.pinLow = false) :
    exec (.alertTest w) s = .next (s.finish (s.regWrite srcTwoWire 0x81 w.toNat)) :=
  show execAlertTest w s = _ from State.host_on _ _ hd hp rfl

theorem exec_alertClear (w : Word) (s : State) (hd : s.dead = false) (hp : s.pinLow = false) :
    exec (.alertClear w) s = .next (s.finish (s.regWrite srcTwoWire 0x81 w.toNat)) :=
  show execAlertClear w s = _ from State.host_on _ _ hd hp rfl

theorem exec_urgEntryWrite (w : Word) (s : State) (hd : s.dead = false) (hp : s.pinLow = false) :
    exec (.urgEntryWrite w) s = .next (s.finish (s.regWrite srcTwoWire 0x8B w.toNat)) :=
  show execUrgEntryWrite w s = _ from State.host_on _ _ hd hp rfl

theorem exec_scrubWordRead (mem bank row col : Nat) (seen : WordSeen) (s : State) (hd : s.dead = false) :
    exec (.scrubWordRead mem bank row col seen) s = .next (s.finish (s.scrub mem bank row col seen)) :=
  show execScrubWordRead mem bank row col seen s = _ from State.event_on _ hd rfl

theorem exec_scrubPassLate (mem : Nat) (s : State) (hd : s.dead = false) (ho : (inR 1 6 mem) = true) :
    exec (.scrubPassLate mem) s = .next (s.finish (s.scrubLate false)) :=
  show execScrubPassLate mem s = _ from State.event_on _ hd ho

theorem exec_memorySelftestDone (mem bank row col : Nat) (pass : Bool) (s : State) (hd : s.dead = false) :
    exec (.memorySelftestDone mem bank row col pass) s = .next (s.finish (s.wordTested (wordAddr mem bank row col) pass)) :=
  show execMemorySelftestDone mem bank row col pass s = _ from State.event_on _ hd rfl

theorem exec_rowReplaceDone (mem bank row : Nat) (s : State) (hd : s.dead = false) :
    exec (.rowReplaceDone mem bank row) s = .next (s.finish (s.rowReplaced mem bank row)) :=
  show execRowReplaceDone mem bank row s = _ from State.event_on _ hd rfl

theorem exec_unitSelftestDone (ty idx : Nat) (pass : Bool) (s : State) (hd : s.dead = false) :
    exec (.unitSelftestDone ty idx pass) s = .next (s.finish (s.unitTested ty idx pass)) :=
  show execUnitSelftestDone ty idx pass s = _ from State.event_on _ hd rfl

theorem exec_retest (w : Word) (s : State) (hd : s.dead = false) (hp : s.pinLow = false) :
    exec (.retest w) s = .next (s.finish (s.regWrite srcTwoWire 0x260C w.toNat)) :=
  show execRetest w s = _ from State.host_on _ _ hd hp rfl

theorem exec_retestDone (pass : Bool) (s : State) (hd : s.dead = false) :
    exec (.retestDone pass) s = .next (s.finish (s.retested pass)) :=
  show execRetestDone pass s = _ from State.event_on _ hd rfl

theorem exec_injectArm (w : Word) (s : State) (hd : s.dead = false) (hp : s.pinLow = false) :
    exec (.injectArm w) s = .next (s.finish (s.regWrite srcTwoWire 0x2705 w.toNat)) :=
  show execInjectArm w s = _ from State.host_on _ _ hd hp rfl

theorem exec_injectCancel (w : Word) (s : State) (hd : s.dead = false) (hp : s.pinLow = false) :
    exec (.injectCancel w) s = .next (s.finish (s.regWrite srcTwoWire 0x2705 w.toNat)) :=
  show execInjectCancel w s = _ from State.host_on _ _ hd hp rfl

theorem exec_domainFault (d cause : Nat) (s : State) (hd : s.dead = false) (ho : (inR 1 7 d) = true) :
    exec (.domainFault d cause) s = .next (s.finish (s.domainFault d cause)) :=
  show execDomainFault d cause s = _ from State.event_on _ hd ho

theorem exec_domainHeartbeatTimeout (d : Nat) (s : State) (hd : s.dead = false) (ho : (inR 1 7 d) = true) :
    exec (.domainHeartbeatTimeout d) s = .next (s.finish (s.domainFault d 4)) :=
  show execDomainHeartbeatTimeout d s = _ from State.event_on _ hd ho

theorem exec_domainRestartStepDone (d : Nat) (s : State) (hd : s.dead = false) (ho : (inR 1 7 d) = true) :
    exec (.domainRestartStepDone d) s = .next (s.finish (s.restartStep d)) :=
  show execDomainRestartStepDone d s = _ from State.event_on _ hd ho

theorem exec_custodyRebuildDone (errs : List (Nat × BitVec 32 × Nat × Byte)) (s : State) (hd : s.dead = false) :
    exec (.custodyRebuildDone errs) s = .next (s.finish (s.rebuildDone (errs.map (fun x => (x.1, x.2.1.toNat, x.2.2))))) :=
  show execCustodyRebuildDone errs s = _ from State.event_on _ hd rfl

theorem exec_domainRestartTimeout (d : Nat) (s : State) (hd : s.dead = false) (ho : (inR 1 7 d) = true) :
    exec (.domainRestartTimeout d) s = .next (s.finish (s.restartTimeout d)) :=
  show execDomainRestartTimeout d s = _ from State.event_on _ hd ho

theorem exec_intakeDomainOff (k : Nat) (s : State) (hd : s.dead = false) (hp : s.pinLow = false) (ho : (isFeed k) = true) :
    exec (.intakeDomainOff k) s = .next (s.finish (s.regWrite srcTwoWire 0x2A00 (s.domWord (1 + k) false))) :=
  show execIntakeDomainOff k s = _ from State.host_on _ _ hd hp ho

theorem exec_intakeDomainOn (k : Nat) (s : State) (hd : s.dead = false) (hp : s.pinLow = false) (ho : (isFeed k) = true) :
    exec (.intakeDomainOn k) s = .next (s.finish (s.regWrite srcTwoWire 0x2A00 (s.domWord (1 + k) true))) :=
  show execIntakeDomainOn k s = _ from State.host_on _ _ hd hp ho

theorem exec_quayDomainRetain (s : State) (hd : s.dead = false) (hp : s.pinLow = false) :
    exec .quayDomainRetain s = .next (s.finish (s.regWrite srcTwoWire 0x2A00 (s.domWord 7 false))) :=
  show execQuayDomainRetain s = _ from State.host_on _ _ hd hp rfl

theorem exec_quayDomainOn (s : State) (hd : s.dead = false) (hp : s.pinLow = false) :
    exec .quayDomainOn s = .next (s.finish (s.regWrite srcTwoWire 0x2A00 (s.domWord 7 true))) :=
  show execQuayDomainOn s = _ from State.host_on _ _ hd hp rfl

theorem exec_domainSwitchDone (d : Nat) (s : State) (hd : s.dead = false) (ho : (inR 1 7 d) = true) :
    exec (.domainSwitchDone d) s = .next (s.finish (s.switchDone d)) :=
  show execDomainSwitchDone d s = _ from State.event_on _ hd ho

theorem exec_supplyRangeExit (sup mv : Nat) (s : State) (hd : s.dead = false) (ho : (Nat.blt sup 6) = true) :
    exec (.supplyRangeExit sup mv) s = .next (s.finish (s.supplyExit sup mv)) :=
  show execSupplyRangeExit sup mv s = _ from State.event_on _ hd ho

theorem exec_tempWarnRise (temp : Word) (s : State) (hd : s.dead = false) :
    exec (.tempWarnRise temp) s = .next (s.finish (s.tempRise temp.toNat)) :=
  show execTempWarnRise temp s = _ from State.event_on _ hd rfl

theorem exec_supplyRangeReturn (sup mv : Nat) (s : State) (hd : s.dead = false) (ho : (Nat.blt sup 6) = true) :
    exec (.supplyRangeReturn sup mv) s = .next (s.finish (s.supplyReturn sup mv)) :=
  show execSupplyRangeReturn sup mv s = _ from State.event_on _ hd ho

theorem exec_tempWarnFall (temp : Word) (s : State) (hd : s.dead = false) :
    exec (.tempWarnFall temp) s = .next (s.finish (s.tempFall temp.toNat)) :=
  show execTempWarnFall temp s = _ from State.event_on _ hd rfl

end Sys2Proof.Machine
end

