-- ==== Sys2Proof/WellFormed.lean ====
section
/-! DEFINITION. Well-formed commands: every unit that a command names exists, and its other operands lie within what the spec gives them.
`exec` leaves the state as it is where a named unit does not exist. -/

namespace Sys2Proof

/-- What a command's operand may number. -/
inductive UnitKind where
  | intake | movement | pair | lane | berth | crane | craneClass | quay | port | audioSlot | keySlot | channel | captureFifo | periodic | domain
  | supply | memory | imageCopy
  deriving DecidableEq, Repr

/-- Whether a unit with a number exists: intakes and feeds 1 and 2, domains 1 to 7, memories 1 to 6, the others from 0, as spec/ numbers them. -/
def UnitKind.has : UnitKind → Nat → Bool
  | .intake, x => x == 1 || x == 2
  | .movement, x => Nat.blt x 4
  | .pair, x => Nat.blt x 2
  | .lane, x => Nat.blt x 104
  | .berth, x => Nat.blt x 96
  | .crane, x => Nat.blt x 33
  | .craneClass, x => Nat.blt x 5
  | .quay, x => Nat.blt x 4
  | .port, x => Nat.blt x 4
  | .audioSlot, x => Nat.blt x 32
  | .keySlot, x => Nat.blt x 32
  | .channel, x => Nat.blt x 8
  | .captureFifo, x => Nat.blt x 4
  | .periodic, x => Nat.blt x 32
  | .domain, x => Nat.ble 1 x && Nat.ble x 7
  | .supply, x => Nat.blt x 6
  | .memory, x => Nat.ble 1 x && Nat.ble x 6
  | .imageCopy, x => Nat.blt x 2

/-- The units that a command names. -/
def Instr.names : Instr → List (UnitKind × Nat)
  | .vkeepPowerOn => []
  | .vkeepFall => []
  | .resetPinWarm => []
  | .resetPinFull => []
  | .resetNRelease => []
  | .windBegin _ _ _ => []
  | .windCopyReadDone copy _ => [(.imageCopy, copy)]
  | .regulateCaptureDone k _ _ => [(.intake, k)]
  | .regulateEnd _ _ _ => []
  | .regulateLockTimeout => []
  | .enterSurvey _ => []
  | .endSurvey _ => []
  | .enterAnchor _ => []
  | .rewind _ => []
  | .fullReset _ => []
  | .cancelSurveySchedule _ => []
  | .surveyAtWrite _ => []
  | .surveyScheduleDue => []
  | .surveyComplete _ _ => []
  | .surveyLimitExpire => []
  | .tamperAlarm => []
  | .supplyGlitch => []
  | .temperatureAlarm => []
  | .refinLost _ => []
  | .tcxoLost _ => []
  | .refCountWindowEnd _ _ => []
  | .bandSearchDone m _ => [(.movement, m)]
  | .lockWindowEnd m _ => [(.movement, m)]
  | .lockBoundExpire m => [(.movement, m)]
  | .pfdSlip m => [(.movement, m)]
  | .twinGuardCheck pair _ _ => [(.pair, pair)]
  | .twinTrimDone pair _ => [(.pair, pair)]
  | .audioFamilyWrite _ => []
  | .relockCmd _ => []
  | .tcxoOffsetWindowEnd _ => []
  | .ppsEdge _ _ => []
  | .ppsLost => []
  | .timeSetWrite _ => []
  | .adcBlock k _ _ _ => [(.intake, k)]
  | .agcWindowEnd k _ => [(.intake, k)]
  | .intakeSelftestDone k _ => [(.intake, k)]
  | .noSignalTimeout k => [(.intake, k)]
  | .vrefCheck _ => []
  | .calVisitDue k _ => [(.intake, k)]
  | .calVisitDone k _ _ => [(.intake, k)]
  | .calVisitSkip k => [(.intake, k)]
  | .feedEnableWrite k _ => [(.intake, k)]
  | .feedSoftStartEnd k => [(.intake, k)]
  | .feedShort k _ => [(.intake, k)]
  | .feedI2tTrip k _ _ => [(.intake, k)]
  | .feedCoolOffEnd k => [(.intake, k)]
  | .feedStuck k _ => [(.intake, k)]
  | .laneStart n => [(.berth, n)]
  | .laneStop n => [(.berth, n)]
  | .glbSyncresetWrite _ => []
  | .laneSyncReset => []
  | .laneSettled n => [(.berth, n)]
  | .detectorWindowEnd n => [(.berth, n)]
  | .laneResidueFault l _ _ => [(.lane, l)]
  | .patrolStart l => [(.lane, l)]
  | .patrolCompareEnd l _ _ => [(.lane, l)]
  | .takeoverSwitch n => [(.berth, n)]
  | .laneSelftestDone l _ => [(.lane, l)]
  | .berthRunWrite n _ => [(.berth, n)]
  | .standardChange n _ => [(.berth, n)]
  | .berthStopComplete n => [(.berth, n)]
  | .ticketReady n cls _ => [(.berth, n), (.craneClass, cls)]
  | .beatEnd c _ _ _ => [(.crane, c)]
  | .ticketUnpark n => [(.berth, n)]
  | .berthInputOverwrite n _ => [(.berth, n)]
  | .craneFault c _ => [(.crane, c)]
  | .beatWatchdogExpire c => [(.crane, c)]
  | .craneSelftestDone c _ => [(.crane, c)]
  | .craneSelftestCmd c _ => [(.crane, c)]
  | .consignmentArrival n c _ _ _ _ _ _ => [(.berth, n), (.crane, c)]
  | .amDepthUpdate n => [(.berth, n)]
  | .stereoPilotTimer n _ => [(.berth, n)]
  | .rdsBlock n _ _ => [(.berth, n)]
  | .afSoundingDone ml => [(.lane, ml)]
  | .afBanExpire h _ => [(.berth, h)]
  | .afFadeStart h _ => [(.berth, h)]
  | .fadePartnerSettled h => [(.berth, h)]
  | .fadePiTimeout h => [(.berth, h)]
  | .fadeDwellWindow h _ _ => [(.berth, h)]
  | .fadeAlignDone h => [(.berth, h)]
  | .fadeRampDone h => [(.berth, h)]
  | .fadeSwap h => [(.berth, h)]
  | .fadeGoCmd h _ => [(.berth, h)]
  | .fadeAbortCmd h _ => [(.berth, h)]
  | .dabFrame n _ => [(.berth, n)]
  | .dabAlarmTimeout n => [(.berth, n)]
  | .dabSyncLoss n => [(.berth, n)]
  | .dabReconfigApply n _ => [(.berth, n)]
  | .cifDeinterleaved n _ _ _ => [(.berth, n)]
  | .drmFrame n _ => [(.berth, n)]
  | .drmSuperframe n _ => [(.berth, n)]
  | .drmSyncLoss n => [(.berth, n)]
  | .drmReconfigApply n => [(.berth, n)]
  | .digitalFadeStart h _ => [(.berth, h)]
  | .digitalVerifyTimeout h => [(.berth, h)]
  | .digitalDwellWindow h _ _ => [(.berth, h)]
  | .digitalAlignDone h => [(.berth, h)]
  | .digitalSwap h => [(.berth, h)]
  | .fadePartnerDrained h => [(.berth, h)]
  | .t2Frame n _ => [(.berth, n)]
  | .ewsTimeout n => [(.berth, n)]
  | .dvbtFrame n _ => [(.berth, n)]
  | .dvbSyncLoss n => [(.berth, n)]
  | .l1ChangeApply n _ _ => [(.berth, n)]
  | .interleavingFrameComplete n _ _ _ _ => [(.berth, n)]
  | .dgReassemblyTimeout n _ => [(.berth, n)]
  | .recordWindowEnd n => [(.berth, n)]
  | .recordComplete n => [(.berth, n)]
  | .intakeRecordWindowEnd => []
  | .quayFrameStart q => [(.quay, q)]
  | .quayFrameEnd q => [(.quay, q)]
  | .quayHoldRise q => [(.quay, q)]
  | .quayHoldFall q => [(.quay, q)]
  | .quayHoldLong q => [(.quay, q)]
  | .landingAligned => []
  | .landingAlignLost => []
  | .landingFrameJudged _ _ => []
  | .landingFrameHandoff => []
  | .auStartWrite _ => []
  | .audioStartInstant p => [(.port, p)]
  | .audioSettled p => [(.port, p)]
  | .audioFadeDone p => [(.port, p)]
  | .audioSlotLate p slot => [(.port, p), (.audioSlot, slot)]
  | .audioUnderrun p => [(.port, p)]
  | .audioConverterResume p => [(.port, p)]
  | .audioRateWindow p _ => [(.port, p)]
  | .slaveClockStop p => [(.port, p)]
  | .slaveFrameGlitch p => [(.port, p)]
  | .slaveRateChange p => [(.port, p)]
  | .slaveClockQualified p => [(.port, p)]
  | .loadKey _ slot => [(.keySlot, slot)]
  | .eraseSlot _ slot => [(.keySlot, slot)]
  | .eraseAll _ => []
  | .programKek _ => []
  | .kekBurnDone => []
  | .bondRequestAccept _ _ _ _ _ => []
  | .bondRequestServe _ _ => []
  | .bondResidueFault => []
  | .gcmVerdict => []
  | .xtsSectorDone => []
  | .captureFlushTimeout c => [(.channel, c)]
  | .ivEntryExpire slot _ _ => [(.keySlot, slot)]
  | .entropyHealthFail => []
  | .entropyRetry _ => []
  | .drbgReseed => []
  | .keyShareRefresh => []
  | .pilotRequestAccept _ _ _ _ => []
  | .periodicDue e => [(.periodic, e)]
  | .pilotScheduleStep => []
  | .lockWaitExpire => []
  | .budgetWaitExpire => []
  | .ccaMeasureDone => []
  | .ccaBackoffEnd => []
  | .pilotWindowOpen _ => []
  | .pilotAirEnd => []
  | .pilotTurnroundEnd => []
  | .listenWindowEnd => []
  | .dutyBinExpire _ => []
  | .preambleDeclared n _ _ => [(.berth, n)]
  | .sfdFound n _ => [(.berth, n)]
  | .sfdTimeout n => [(.berth, n)]
  | .phrReceived n _ _ => [(.berth, n)]
  | .pilotFrameReceived n _ _ => [(.berth, n)]
  | .captureOverrun fifo => [(.captureFifo, fifo)]
  | .alertHoldExpire _ _ => []
  | .alertTest _ => []
  | .alertClear _ => []
  | .urgEntryWrite _ => []
  | .scrubWordRead mem _ _ _ _ => [(.memory, mem)]
  | .scrubPassLate mem => [(.memory, mem)]
  | .memorySelftestDone mem _ _ _ _ => [(.memory, mem)]
  | .rowReplaceDone mem _ _ => [(.memory, mem)]
  | .unitSelftestDone _ _ _ => []
  | .retest _ => []
  | .retestDone _ => []
  | .injectArm _ => []
  | .injectCancel _ => []
  | .domainFault d _ => [(.domain, d)]
  | .domainHeartbeatTimeout d => [(.domain, d)]
  | .domainRestartStepDone d => [(.domain, d)]
  | .custodyRebuildDone _ => []
  | .domainRestartTimeout d => [(.domain, d)]
  | .intakeDomainOff k => [(.intake, k)]
  | .intakeDomainOn k => [(.intake, k)]
  | .quayDomainRetain => []
  | .quayDomainOn => []
  | .domainSwitchDone d => [(.domain, d)]
  | .supplyRangeExit sup _ => [(.supply, sup)]
  | .tempWarnRise _ => []
  | .twStart _ _ => []
  | .twPointerSet _ => []
  | .twWordWrite _ => []
  | .twWordRead _ => []
  | .twStop => []
  | .twFrameError _ _ => []
  | .twSdaReleaseTimeout _ => []
  | .twStretchTimeout => []
  | .twSclTimeout _ => []
  | .twSdaTimeout => []
  | .attnPulseStart => []
  | .attnPulseEnd => []
  | .attnCollide => []
  | .attnRepeat => []
  | .commitOpen _ => []
  | .commitGo _ => []
  | .commitAbort _ => []
  | .liveChangeApply _ _ => []
  | .jnlSelectWrite _ => []
  | .jnlClearLost _ => []
  | .errSelectWrite _ => []
  | .errClearLost _ => []
  | .lstSelWrite _ => []
  | .readWithEffect _ => []
  | .registerWrite _ _ => []
  | .landingColumnReceived _ _ _ => []
  | .timeSetWholeSecond => []
  | .twLineRisen _ => []
  | .supplyRangeReturn sup _ => [(.supply, sup)]
  | .tempWarnFall _ => []
  | .feedTripAgeOut k => [(.intake, k)]

/-- Whether the operands of a command that number no unit lie within what the spec gives them: a count, a code, a mode, a length. -/
def Instr.valuesOk : Instr → Bool
  | .vkeepPowerOn => true
  | .vkeepFall => true
  | .resetPinWarm => true
  | .resetPinFull => true
  | .resetNRelease => true
  | .windBegin _ _ _ => true
  | .windCopyReadDone _ _ => true
  | .regulateCaptureDone _ _ meas => meas.length == 16 || meas.length == 256
  | .regulateEnd _ _ u => Nat.ble u.1 200 && Nat.ble u.2 200
  | .regulateLockTimeout => true
  | .enterSurvey _ => true
  | .endSurvey _ => true
  | .enterAnchor _ => true
  | .rewind _ => true
  | .fullReset _ => true
  | .cancelSurveySchedule _ => true
  | .surveyAtWrite _ => true
  | .surveyScheduleDue => true
  | .surveyComplete _ _ => true
  | .surveyLimitExpire => true
  | .tamperAlarm => true
  | .supplyGlitch => true
  | .temperatureAlarm => true
  | .refinLost _ => true
  | .tcxoLost _ => true
  | .refCountWindowEnd _ _ => true
  | .bandSearchDone _ counts => counts.length == 7
  | .lockWindowEnd _ _ => true
  | .lockBoundExpire _ => true
  | .pfdSlip _ => true
  | .twinGuardCheck _ _ _ => true
  | .twinTrimDone _ _ => true
  | .audioFamilyWrite _ => true
  | .relockCmd _ => true
  | .tcxoOffsetWindowEnd _ => true
  | .ppsEdge _ _ => true
  | .ppsLost => true
  | .timeSetWrite _ => true
  | .adcBlock _ xs fault _ => xs.length == 256 && [0, 1, 4, 5].contains fault
  | .agcWindowEnd _ _ => true
  | .intakeSelftestDone _ _ => true
  | .noSignalTimeout _ => true
  | .vrefCheck _ => true
  | .calVisitDue _ _ => true
  | .calVisitDone _ _ _ => true
  | .calVisitSkip _ => true
  | .feedEnableWrite _ _ => true
  | .feedSoftStartEnd _ => true
  | .feedShort _ _ => true
  | .feedI2tTrip _ _ _ => true
  | .feedCoolOffEnd _ => true
  | .feedStuck _ _ => true
  | .laneStart _ => true
  | .laneStop _ => true
  | .glbSyncresetWrite _ => true
  | .laneSyncReset => true
  | .laneSettled _ => true
  | .detectorWindowEnd _ => true
  | .laneResidueFault _ _ _ => true
  | .patrolStart _ => true
  | .patrolCompareEnd _ _ _ => true
  | .takeoverSwitch _ => true
  | .laneSelftestDone _ _ => true
  | .berthRunWrite _ _ => true
  | .standardChange _ _ => true
  | .berthStopComplete _ => true
  | .ticketReady _ _ kinds => kinds.all [1, 2, 3, 4].contains
  | .beatEnd _ _ _ _ => true
  | .ticketUnpark _ => true
  | .berthInputOverwrite _ _ => true
  | .craneFault _ detector => detector == 0x0401 || detector == 0x0402
  | .beatWatchdogExpire _ => true
  | .craneSelftestDone _ _ => true
  | .craneSelftestCmd _ _ => true
  | .consignmentArrival _ _ _ content _ _ _ payload => Nat.blt 0 content && Nat.blt content 15 && Nat.ble payload.length 8192
  | .amDepthUpdate _ => true
  | .stereoPilotTimer _ _ => true
  | .rdsBlock _ raw _ => Nat.blt raw.toNat (2 ^ 26)
  | .afSoundingDone _ => true
  | .afBanExpire _ _ => true
  | .afFadeStart _ _ => true
  | .fadePartnerSettled _ => true
  | .fadePiTimeout _ => true
  | .fadeDwellWindow _ _ _ => true
  | .fadeAlignDone _ => true
  | .fadeRampDone _ => true
  | .fadeSwap _ => true
  | .fadeGoCmd _ _ => true
  | .fadeAbortCmd _ _ => true
  | .dabFrame _ f => Nat.ble 1 f.mode && Nat.ble f.mode 4
  | .dabAlarmTimeout _ => true
  | .dabSyncLoss _ => true
  | .dabReconfigApply _ _ => true
  | .cifDeinterleaved _ _ _ _ => true
  | .drmFrame _ f => Nat.ble 1 f.mode && Nat.ble f.mode 5
  | .drmSuperframe _ _ => true
  | .drmSyncLoss _ => true
  | .drmReconfigApply _ => true
  | .digitalFadeStart _ _ => true
  | .digitalVerifyTimeout _ => true
  | .digitalDwellWindow _ _ _ => true
  | .digitalAlignDone _ => true
  | .digitalSwap _ => true
  | .fadePartnerDrained _ => true
  | .t2Frame _ f => f.plps.all (fun p => [2, 4, 6, 8].contains p.bits)
  | .ewsTimeout _ => true
  | .dvbtFrame _ f => (f.hp ++ f.lp).all (fun p => p.bytes.length == 188)
  | .dvbSyncLoss _ => true
  | .l1ChangeApply _ plps _ => plps.all (fun p => [2, 4, 6, 8].contains p.bits)
  | .interleavingFrameComplete _ _ _ _ fecs => fecs.all (fun f => f.packets.all (fun p => p.bytes.length == 188))
  | .dgReassemblyTimeout _ _ => true
  | .recordWindowEnd _ => true
  | .recordComplete _ => true
  | .intakeRecordWindowEnd => true
  | .quayFrameStart _ => true
  | .quayFrameEnd _ => true
  | .quayHoldRise _ => true
  | .quayHoldFall _ => true
  | .quayHoldLong _ => true
  | .landingAligned => true
  | .landingAlignLost => true
  | .landingFrameJudged _ _ => true
  | .landingFrameHandoff => true
  | .auStartWrite _ => true
  | .audioStartInstant _ => true
  | .audioSettled _ => true
  | .audioFadeDone _ => true
  | .audioSlotLate _ _ => true
  | .audioUnderrun _ => true
  | .audioConverterResume _ => true
  | .audioRateWindow _ _ => true
  | .slaveClockStop _ => true
  | .slaveFrameGlitch _ => true
  | .slaveRateChange _ => true
  | .slaveClockQualified _ => true
  | .loadKey _ _ => true
  | .eraseSlot _ _ => true
  | .eraseAll _ => true
  | .programKek _ => true
  | .kekBurnDone => true
  | .bondRequestAccept _ _ mode _ _ => Nat.ble 1 mode && Nat.ble mode 3
  | .bondRequestServe _ _ => true
  | .bondResidueFault => true
  | .gcmVerdict => true
  | .xtsSectorDone => true
  | .captureFlushTimeout _ => true
  | .ivEntryExpire _ _ iv => iv.length == 12
  | .entropyHealthFail => true
  | .entropyRetry _ => true
  | .drbgReseed => true
  | .keyShareRefresh => true
  | .pilotRequestAccept _ _ _ _ => true
  | .periodicDue _ => true
  | .pilotScheduleStep => true
  | .lockWaitExpire => true
  | .budgetWaitExpire => true
  | .ccaMeasureDone => true
  | .ccaBackoffEnd => true
  | .pilotWindowOpen _ => true
  | .pilotAirEnd => true
  | .pilotTurnroundEnd => true
  | .listenWindowEnd => true
  | .dutyBinExpire _ => true
  | .preambleDeclared _ timing freq => Nat.blt timing 64 && Nat.ble freq.natAbs 3000
  | .sfdFound _ freq => Nat.ble freq.natAbs 3000
  | .sfdTimeout _ => true
  | .phrReceived _ _ _ => true
  | .pilotFrameReceived _ psdu _ => Nat.ble psdu.length 2047
  | .captureOverrun _ => true
  | .alertHoldExpire kind _ => [1, 2, 3, 4, 0x10, 0x20].contains kind
  | .alertTest _ => true
  | .alertClear _ => true
  | .urgEntryWrite _ => true
  | .scrubWordRead _ _ _ _ seen => seen.upset.all (fun b => Nat.blt b 79)
  | .scrubPassLate _ => true
  | .memorySelftestDone _ _ _ _ _ => true
  | .rowReplaceDone _ _ _ => true
  | .unitSelftestDone ty _ _ => Nat.ble 8 ty && Nat.ble ty 10
  | .retest _ => true
  | .retestDone _ => true
  | .injectArm _ => true
  | .injectCancel _ => true
  | .domainFault _ cause => Nat.blt cause 16
  | .domainHeartbeatTimeout _ => true
  | .domainRestartStepDone _ => true
  | .custodyRebuildDone _ => true
  | .domainRestartTimeout _ => true
  | .intakeDomainOff _ => true
  | .intakeDomainOn _ => true
  | .quayDomainRetain => true
  | .quayDomainOn => true
  | .domainSwitchDone _ => true
  | .supplyRangeExit _ _ => true
  | .tempWarnRise _ => true
  | .twStart _ _ => true
  | .twPointerSet _ => true
  | .twWordWrite _ => true
  | .twWordRead _ => true
  | .twStop => true
  | .twFrameError _ _ => true
  | .twSdaReleaseTimeout _ => true
  | .twStretchTimeout => true
  | .twSclTimeout _ => true
  | .twSdaTimeout => true
  | .attnPulseStart => true
  | .attnPulseEnd => true
  | .attnCollide => true
  | .attnRepeat => true
  | .commitOpen _ => true
  | .commitGo _ => true
  | .commitAbort _ => true
  | .liveChangeApply _ _ => true
  | .jnlSelectWrite _ => true
  | .jnlClearLost _ => true
  | .errSelectWrite _ => true
  | .errClearLost _ => true
  | .lstSelWrite _ => true
  | .readWithEffect _ => true
  | .registerWrite _ _ => true
  | .landingColumnReceived _ _ pops => Nat.ble pops 1
  | .timeSetWholeSecond => true
  | .twLineRisen _ => true
  | .supplyRangeReturn _ _ => true
  | .tempWarnFall _ => true
  | .feedTripAgeOut _ => true

/-- A well-formed command. -/
def Instr.wf (c : Instr) : Bool := c.names.all (fun x => x.1.has x.2) && c.valuesOk

end Sys2Proof
end

