-- ==== Sys2Proof/Laws/PerInstr.lean ====
section
/-! SUPPORT. The family `Named`: every unit that a well-formed command names exists. -/

namespace Sys2Proof.Laws.Named

/-- Every unit that a well-formed command names exists. -/
def Statement (c : Instr) : Prop := c.wf = true → ∀ x ∈ c.names, x.1.has x.2 = true

/-- The statement holds by the first check of `Instr.wf`. -/
theorem of_wf (c : Instr) : Statement c := fun h => List.all_eq_true.mp (Bool.and_eq_true_iff.mp h).1

theorem vkeepPowerOn : Statement (.vkeepPowerOn) := of_wf _
theorem vkeepFall : Statement (.vkeepFall) := of_wf _
theorem resetPinWarm : Statement (.resetPinWarm) := of_wf _
theorem resetPinFull : Statement (.resetPinFull) := of_wf _
theorem resetNRelease : Statement (.resetNRelease) := of_wf _
theorem windBegin (sfdp : Sfdp) (hdr0 : List Byte) (hdr1 : List Byte) : Statement (.windBegin sfdp hdr0 hdr1) := of_wf _
theorem windCopyReadDone (copy : Nat) (img : List Byte) : Statement (.windCopyReadDone copy img) := of_wf _
theorem regulateCaptureDone (k : Nat) (pass : Bool) (meas : List (Word × Word)) : Statement (.regulateCaptureDone k pass meas) := of_wf _
theorem regulateEnd (ms : Nat) (dIntake : List Nat × List Nat) (uIntake : Nat × Nat) : Statement (.regulateEnd ms dIntake uIntake) := of_wf _
theorem regulateLockTimeout : Statement (.regulateLockTimeout) := of_wf _
theorem enterSurvey (confirm : Byte) : Statement (.enterSurvey confirm) := of_wf _
theorem endSurvey (confirm : Byte) : Statement (.endSurvey confirm) := of_wf _
theorem enterAnchor (confirm : Byte) : Statement (.enterAnchor confirm) := of_wf _
theorem rewind (confirm : Byte) : Statement (.rewind confirm) := of_wf _
theorem fullReset (confirm : Byte) : Statement (.fullReset confirm) := of_wf _
theorem cancelSurveySchedule (confirm : Byte) : Statement (.cancelSurveySchedule confirm) := of_wf _
theorem surveyAtWrite (w : Word) : Statement (.surveyAtWrite w) := of_wf _
theorem surveyScheduleDue : Statement (.surveyScheduleDue) := of_wf _
theorem surveyComplete (found : List Found) (tables : List AfEntry) : Statement (.surveyComplete found tables) := of_wf _
theorem surveyLimitExpire : Statement (.surveyLimitExpire) := of_wf _
theorem tamperAlarm : Statement (.tamperAlarm) := of_wf _
theorem supplyGlitch : Statement (.supplyGlitch) := of_wf _
theorem temperatureAlarm : Statement (.temperatureAlarm) := of_wf _
theorem refinLost (edge : Bool) : Statement (.refinLost edge) := of_wf _
theorem tcxoLost (edge : Bool) : Statement (.tcxoLost edge) := of_wf _
theorem refCountWindowEnd (refin : Nat) (tcxo : Nat) : Statement (.refCountWindowEnd refin tcxo) := of_wf _
theorem bandSearchDone (m : Nat) (counts : List Nat) : Statement (.bandSearchDone m counts) := of_wf _
theorem lockWindowEnd (m : Nat) (count : Nat) : Statement (.lockWindowEnd m count) := of_wf _
theorem lockBoundExpire (m : Nat) : Statement (.lockBoundExpire m) := of_wf _
theorem pfdSlip (m : Nat) : Statement (.pfdSlip m) := of_wf _
theorem twinGuardCheck (pair : Nat) (c0 : Nat) (c1 : Nat) : Statement (.twinGuardCheck pair c0 c1) := of_wf _
theorem twinTrimDone (pair : Nat) (skew : Word) : Statement (.twinTrimDone pair skew) := of_wf _
theorem audioFamilyWrite (w : Word) : Statement (.audioFamilyWrite w) := of_wf _
theorem relockCmd (w : Word) : Statement (.relockCmd w) := of_wf _
theorem tcxoOffsetWindowEnd (off : BitVec 32) : Statement (.tcxoOffsetWindowEnd off) := of_wf _
theorem ppsEdge (err : Int) (gap : Int) : Statement (.ppsEdge err gap) := of_wf _
theorem ppsLost : Statement (.ppsLost) := of_wf _
theorem timeSetWrite (w : Word) : Statement (.timeSetWrite w) := of_wf _
theorem adcBlock (k : Nat) (xs : List (BitVec 14)) (fault : Nat) (pops : Nat) : Statement (.adcBlock k xs fault pops) := of_wf _
theorem agcWindowEnd (k : Nat) (level : Int) : Statement (.agcWindowEnd k level) := of_wf _
theorem intakeSelftestDone (k : Nat) (pass : Bool) : Statement (.intakeSelftestDone k pass) := of_wf _
theorem noSignalTimeout (k : Nat) : Statement (.noSignalTimeout k) := of_wf _
theorem vrefCheck (tenthMv : Nat) : Statement (.vrefCheck tenthMv) := of_wf _
theorem calVisitDue (k : Nat) (quiet : List Nat) : Statement (.calVisitDue k quiet) := of_wf _
theorem calVisitDone (k : Nat) (gain : Int) (phase : Int) : Statement (.calVisitDone k gain phase) := of_wf _
theorem calVisitSkip (k : Nat) : Statement (.calVisitSkip k) := of_wf _
theorem feedEnableWrite (k : Nat) (w : Word) : Statement (.feedEnableWrite k w) := of_wf _
theorem feedSoftStartEnd (k : Nat) : Statement (.feedSoftStartEnd k) := of_wf _
theorem feedShort (k : Nat) (ma : Nat) : Statement (.feedShort k ma) := of_wf _
theorem feedI2tTrip (k : Nat) (ma : Nat) (us : Nat) : Statement (.feedI2tTrip k ma us) := of_wf _
theorem feedCoolOffEnd (k : Nat) : Statement (.feedCoolOffEnd k) := of_wf _
theorem feedStuck (k : Nat) (ma : Nat) : Statement (.feedStuck k ma) := of_wf _
theorem laneStart (n : Nat) : Statement (.laneStart n) := of_wf _
theorem laneStop (n : Nat) : Statement (.laneStop n) := of_wf _
theorem glbSyncresetWrite (w : Word) : Statement (.glbSyncresetWrite w) := of_wf _
theorem laneSyncReset : Statement (.laneSyncReset) := of_wf _
theorem laneSettled (n : Nat) : Statement (.laneSettled n) := of_wf _
theorem detectorWindowEnd (n : Nat) : Statement (.detectorWindowEnd n) := of_wf _
theorem laneResidueFault (l : Nat) (bank : Bool) (branch2 : Bool) : Statement (.laneResidueFault l bank branch2) := of_wf _
theorem patrolStart (l : Nat) : Statement (.patrolStart l) := of_wf _
theorem patrolCompareEnd (l : Nat) (equal : Bool) (spareOk : Bool) : Statement (.patrolCompareEnd l equal spareOk) := of_wf _
theorem takeoverSwitch (n : Nat) : Statement (.takeoverSwitch n) := of_wf _
theorem laneSelftestDone (l : Nat) (pass : Bool) : Statement (.laneSelftestDone l pass) := of_wf _
theorem berthRunWrite (n : Nat) (w : Word) : Statement (.berthRunWrite n w) := of_wf _
theorem standardChange (n : Nat) (w : Word) : Statement (.standardChange n w) := of_wf _
theorem berthStopComplete (n : Nat) : Statement (.berthStopComplete n) := of_wf _
theorem ticketReady (n : Nat) (cls : Nat) (kinds : List Nat) : Statement (.ticketReady n cls kinds) := of_wf _
theorem beatEnd (c : Nat) (complete : Bool) (noCredit : Bool) (progress : Nat) : Statement (.beatEnd c complete noCredit progress) := of_wf _
theorem ticketUnpark (n : Nat) : Statement (.ticketUnpark n) := of_wf _
theorem berthInputOverwrite (n : Nat) (len : Nat) : Statement (.berthInputOverwrite n len) := of_wf _
theorem craneFault (c : Nat) (detector : Nat) : Statement (.craneFault c detector) := of_wf _
theorem beatWatchdogExpire (c : Nat) : Statement (.beatWatchdogExpire c) := of_wf _
theorem craneSelftestDone (c : Nat) (pass : Bool) : Statement (.craneSelftestDone c pass) := of_wf _
theorem craneSelftestCmd (c : Nat) (w : Word) : Statement (.craneSelftestCmd c w) := of_wf _
theorem consignmentArrival (n : Nat) (c : Nat) (seq : BitVec 32) (content : Nat) (settling : Bool) (injected : Bool) (ts : BitVec 64) (payload : List Byte) :
    Statement (.consignmentArrival n c seq content settling injected ts payload) := of_wf _
theorem amDepthUpdate (n : Nat) : Statement (.amDepthUpdate n) := of_wf _
theorem stereoPilotTimer (n : Nat) (above : Bool) : Statement (.stereoPilotTimer n above) := of_wf _
theorem rdsBlock (n : Nat) (raw : BitVec 32) (ts : BitVec 64) : Statement (.rdsBlock n raw ts) := of_wf _
theorem afSoundingDone (ml : Nat) : Statement (.afSoundingDone ml) := of_wf _
theorem afBanExpire (h : Nat) (cand : Nat) : Statement (.afBanExpire h cand) := of_wf _
theorem afFadeStart (h : Nat) (qHome : Int) : Statement (.afFadeStart h qHome) := of_wf _
theorem fadePartnerSettled (h : Nat) : Statement (.fadePartnerSettled h) := of_wf _
theorem fadePiTimeout (h : Nat) : Statement (.fadePiTimeout h) := of_wf _
theorem fadeDwellWindow (h : Nat) (qHome : Int) (qPartner : Int) : Statement (.fadeDwellWindow h qHome qPartner) := of_wf _
theorem fadeAlignDone (h : Nat) : Statement (.fadeAlignDone h) := of_wf _
theorem fadeRampDone (h : Nat) : Statement (.fadeRampDone h) := of_wf _
theorem fadeSwap (h : Nat) : Statement (.fadeSwap h) := of_wf _
theorem fadeGoCmd (h : Nat) (w : Word) : Statement (.fadeGoCmd h w) := of_wf _
theorem fadeAbortCmd (h : Nat) (w : Word) : Statement (.fadeAbortCmd h w) := of_wf _
theorem dabFrame (n : Nat) (f : DabFrame) : Statement (.dabFrame n f) := of_wf _
theorem dabAlarmTimeout (n : Nat) : Statement (.dabAlarmTimeout n) := of_wf _
theorem dabSyncLoss (n : Nat) : Statement (.dabSyncLoss n) := of_wf _
theorem dabReconfigApply (n : Nat) (cif : Nat) : Statement (.dabReconfigApply n cif) := of_wf _
theorem cifDeinterleaved (n : Nat) (cif : Nat) (ts : BitVec 64) (subs : List SubchData) : Statement (.cifDeinterleaved n cif ts subs) := of_wf _
theorem drmFrame (n : Nat) (f : DrmFrame) : Statement (.drmFrame n f) := of_wf _
theorem drmSuperframe (n : Nat) (f : DrmSuper) : Statement (.drmSuperframe n f) := of_wf _
theorem drmSyncLoss (n : Nat) : Statement (.drmSyncLoss n) := of_wf _
theorem drmReconfigApply (n : Nat) : Statement (.drmReconfigApply n) := of_wf _
theorem digitalFadeStart (h : Nat) (pHome : Int) : Statement (.digitalFadeStart h pHome) := of_wf _
theorem digitalVerifyTimeout (h : Nat) : Statement (.digitalVerifyTimeout h) := of_wf _
theorem digitalDwellWindow (h : Nat) (home : Nat × Nat) (partner : Nat × Nat) : Statement (.digitalDwellWindow h home partner) := of_wf _
theorem digitalAlignDone (h : Nat) : Statement (.digitalAlignDone h) := of_wf _
theorem digitalSwap (h : Nat) : Statement (.digitalSwap h) := of_wf _
theorem fadePartnerDrained (h : Nat) : Statement (.fadePartnerDrained h) := of_wf _
theorem t2Frame (n : Nat) (f : T2Frame) : Statement (.t2Frame n f) := of_wf _
theorem ewsTimeout (n : Nat) : Statement (.ewsTimeout n) := of_wf _
theorem dvbtFrame (n : Nat) (f : DvbtFrame) : Statement (.dvbtFrame n f) := of_wf _
theorem dvbSyncLoss (n : Nat) : Statement (.dvbSyncLoss n) := of_wf _
theorem l1ChangeApply (n : Nat) (plps : List Plp) (ts : BitVec 64) : Statement (.l1ChangeApply n plps ts) := of_wf _
theorem interleavingFrameComplete (n : Nat) (plp : Nat) (frameIdx : Nat) (ts : BitVec 64) (fecs : List FecFrame) :
    Statement (.interleavingFrameComplete n plp frameIdx ts fecs) := of_wf _
theorem dgReassemblyTimeout (n : Nat) (ref : Nat) : Statement (.dgReassemblyTimeout n ref) := of_wf _
theorem recordWindowEnd (n : Nat) : Statement (.recordWindowEnd n) := of_wf _
theorem recordComplete (n : Nat) : Statement (.recordComplete n) := of_wf _
theorem intakeRecordWindowEnd : Statement (.intakeRecordWindowEnd) := of_wf _
theorem quayFrameStart (q : Nat) : Statement (.quayFrameStart q) := of_wf _
theorem quayFrameEnd (q : Nat) : Statement (.quayFrameEnd q) := of_wf _
theorem quayHoldRise (q : Nat) : Statement (.quayHoldRise q) := of_wf _
theorem quayHoldFall (q : Nat) : Statement (.quayHoldFall q) := of_wf _
theorem quayHoldLong (q : Nat) : Statement (.quayHoldLong q) := of_wf _
theorem landingAligned : Statement (.landingAligned) := of_wf _
theorem landingAlignLost : Statement (.landingAlignLost) := of_wf _
theorem landingFrameJudged (codeError : Bool) (eofOk : Bool) : Statement (.landingFrameJudged codeError eofOk) := of_wf _
theorem landingFrameHandoff : Statement (.landingFrameHandoff) := of_wf _
theorem auStartWrite (w : Word) : Statement (.auStartWrite w) := of_wf _
theorem audioStartInstant (p : Nat) : Statement (.audioStartInstant p) := of_wf _
theorem audioSettled (p : Nat) : Statement (.audioSettled p) := of_wf _
theorem audioFadeDone (p : Nat) : Statement (.audioFadeDone p) := of_wf _
theorem audioSlotLate (p : Nat) (slot : Nat) : Statement (.audioSlotLate p slot) := of_wf _
theorem audioUnderrun (p : Nat) : Statement (.audioUnderrun p) := of_wf _
theorem audioConverterResume (p : Nat) : Statement (.audioConverterResume p) := of_wf _
theorem audioRateWindow (p : Nat) (rate : BitVec 32) : Statement (.audioRateWindow p rate) := of_wf _
theorem slaveClockStop (p : Nat) : Statement (.slaveClockStop p) := of_wf _
theorem slaveFrameGlitch (p : Nat) : Statement (.slaveFrameGlitch p) := of_wf _
theorem slaveRateChange (p : Nat) : Statement (.slaveRateChange p) := of_wf _
theorem slaveClockQualified (p : Nat) : Statement (.slaveClockQualified p) := of_wf _
theorem loadKey (confirm : Byte) (slot : Nat) : Statement (.loadKey confirm slot) := of_wf _
theorem eraseSlot (confirm : Byte) (slot : Nat) : Statement (.eraseSlot confirm slot) := of_wf _
theorem eraseAll (confirm : Byte) : Statement (.eraseAll confirm) := of_wf _
theorem programKek (confirm : Byte) : Statement (.programKek confirm) := of_wf _
theorem kekBurnDone : Statement (.kekBurnDone) := of_wf _
theorem bondRequestAccept (src : Nat) (srcSeq : BitVec 32) (mode : Nat) (ts : BitVec 64) (data : List Byte) :
    Statement (.bondRequestAccept src srcSeq mode ts data) := of_wf _
theorem bondRequestServe (bytes : Nat) (roundOk : Bool) : Statement (.bondRequestServe bytes roundOk) := of_wf _
theorem bondResidueFault : Statement (.bondResidueFault) := of_wf _
theorem gcmVerdict : Statement (.gcmVerdict) := of_wf _
theorem xtsSectorDone : Statement (.xtsSectorDone) := of_wf _
theorem captureFlushTimeout (c : Nat) : Statement (.captureFlushTimeout c) := of_wf _
theorem ivEntryExpire (slot : Nat) (gen : Word) (iv : List Byte) : Statement (.ivEntryExpire slot gen iv) := of_wf _
theorem entropyHealthFail : Statement (.entropyHealthFail) := of_wf _
theorem entropyRetry (pass : Bool) : Statement (.entropyRetry pass) := of_wf _
theorem drbgReseed : Statement (.drbgReseed) := of_wf _
theorem keyShareRefresh : Statement (.keyShareRefresh) := of_wf _
theorem pilotRequestAccept (src : Nat) (srcSeq : BitVec 32) (cont : Bool) (data : List Byte) :
    Statement (.pilotRequestAccept src srcSeq cont data) := of_wf _
theorem periodicDue (e : Nat) : Statement (.periodicDue e) := of_wf _
theorem pilotScheduleStep : Statement (.pilotScheduleStep) := of_wf _
theorem lockWaitExpire : Statement (.lockWaitExpire) := of_wf _
theorem budgetWaitExpire : Statement (.budgetWaitExpire) := of_wf _
theorem ccaMeasureDone : Statement (.ccaMeasureDone) := of_wf _
theorem ccaBackoffEnd : Statement (.ccaBackoffEnd) := of_wf _
theorem pilotWindowOpen (clamped : Bool) : Statement (.pilotWindowOpen clamped) := of_wf _
theorem pilotAirEnd : Statement (.pilotAirEnd) := of_wf _
theorem pilotTurnroundEnd : Statement (.pilotTurnroundEnd) := of_wf _
theorem listenWindowEnd : Statement (.listenWindowEnd) := of_wf _
theorem dutyBinExpire (second : Nat) : Statement (.dutyBinExpire second) := of_wf _
theorem preambleDeclared (n : Nat) (timing : Nat) (freq : Int) : Statement (.preambleDeclared n timing freq) := of_wf _
theorem sfdFound (n : Nat) (freq : Int) : Statement (.sfdFound n freq) := of_wf _
theorem sfdTimeout (n : Nat) : Statement (.sfdTimeout n) := of_wf _
theorem phrReceived (n : Nat) (phr : Word) (snr : Int) : Statement (.phrReceived n phr snr) := of_wf _
theorem pilotFrameReceived (n : Nat) (psdu : List Byte) (freqs : List Int) : Statement (.pilotFrameReceived n psdu freqs) := of_wf _
theorem captureOverrun (fifo : Nat) : Statement (.captureOverrun fifo) := of_wf _
theorem alertHoldExpire (kind : Nat) (src : Nat) : Statement (.alertHoldExpire kind src) := of_wf _
theorem alertTest (w : Word) : Statement (.alertTest w) := of_wf _
theorem alertClear (w : Word) : Statement (.alertClear w) := of_wf _
theorem urgEntryWrite (w : Word) : Statement (.urgEntryWrite w) := of_wf _
theorem scrubWordRead (mem : Nat) (bank : Nat) (row : Nat) (col : Nat) (seen : WordSeen) : Statement (.scrubWordRead mem bank row col seen) := of_wf _
theorem scrubPassLate (mem : Nat) : Statement (.scrubPassLate mem) := of_wf _
theorem memorySelftestDone (mem : Nat) (bank : Nat) (row : Nat) (col : Nat) (pass : Bool) :
    Statement (.memorySelftestDone mem bank row col pass) := of_wf _
theorem rowReplaceDone (mem : Nat) (bank : Nat) (row : Nat) : Statement (.rowReplaceDone mem bank row) := of_wf _
theorem unitSelftestDone (ty : Nat) (idx : Nat) (pass : Bool) : Statement (.unitSelftestDone ty idx pass) := of_wf _
theorem retest (w : Word) : Statement (.retest w) := of_wf _
theorem retestDone (pass : Bool) : Statement (.retestDone pass) := of_wf _
theorem injectArm (w : Word) : Statement (.injectArm w) := of_wf _
theorem injectCancel (w : Word) : Statement (.injectCancel w) := of_wf _
theorem domainFault (d : Nat) (cause : Nat) : Statement (.domainFault d cause) := of_wf _
theorem domainHeartbeatTimeout (d : Nat) : Statement (.domainHeartbeatTimeout d) := of_wf _
theorem domainRestartStepDone (d : Nat) : Statement (.domainRestartStepDone d) := of_wf _
theorem custodyRebuildDone (errs : List (Nat × BitVec 32 × Nat × BitVec 8)) : Statement (.custodyRebuildDone errs) := of_wf _
theorem domainRestartTimeout (d : Nat) : Statement (.domainRestartTimeout d) := of_wf _
theorem intakeDomainOff (k : Nat) : Statement (.intakeDomainOff k) := of_wf _
theorem intakeDomainOn (k : Nat) : Statement (.intakeDomainOn k) := of_wf _
theorem quayDomainRetain : Statement (.quayDomainRetain) := of_wf _
theorem quayDomainOn : Statement (.quayDomainOn) := of_wf _
theorem domainSwitchDone (d : Nat) : Statement (.domainSwitchDone d) := of_wf _
theorem supplyRangeExit (sup : Nat) (mv : Nat) : Statement (.supplyRangeExit sup mv) := of_wf _
theorem tempWarnRise (temp : Word) : Statement (.tempWarnRise temp) := of_wf _
theorem twStart (addr : BitVec 7) (read : Bool) : Statement (.twStart addr read) := of_wf _
theorem twPointerSet (ra : Word) : Statement (.twPointerSet ra) := of_wf _
theorem twWordWrite (w : Word) : Statement (.twWordWrite w) := of_wf _
theorem twWordRead (ack : Bool) : Statement (.twWordRead ack) := of_wf _
theorem twStop : Statement (.twStop) := of_wf _
theorem twFrameError (start : Bool) (partialWord : Bool) : Statement (.twFrameError start partialWord) := of_wf _
theorem twSdaReleaseTimeout (partialWord : Bool) : Statement (.twSdaReleaseTimeout partialWord) := of_wf _
theorem twStretchTimeout : Statement (.twStretchTimeout) := of_wf _
theorem twSclTimeout (partialWord : Bool) : Statement (.twSclTimeout partialWord) := of_wf _
theorem twSdaTimeout : Statement (.twSdaTimeout) := of_wf _
theorem attnPulseStart : Statement (.attnPulseStart) := of_wf _
theorem attnPulseEnd : Statement (.attnPulseEnd) := of_wf _
theorem attnCollide : Statement (.attnCollide) := of_wf _
theorem attnRepeat : Statement (.attnRepeat) := of_wf _
theorem commitOpen (a : Word) : Statement (.commitOpen a) := of_wf _
theorem commitGo (a : Word) : Statement (.commitGo a) := of_wf _
theorem commitAbort (a : Word) : Statement (.commitAbort a) := of_wf _
theorem liveChangeApply (a : Word) (u : Nat) : Statement (.liveChangeApply a u) := of_wf _
theorem jnlSelectWrite (w : Word) : Statement (.jnlSelectWrite w) := of_wf _
theorem jnlClearLost (w : Word) : Statement (.jnlClearLost w) := of_wf _
theorem errSelectWrite (w : Word) : Statement (.errSelectWrite w) := of_wf _
theorem errClearLost (w : Word) : Statement (.errClearLost w) := of_wf _
theorem lstSelWrite (w : Word) : Statement (.lstSelWrite w) := of_wf _
theorem readWithEffect (a : Word) : Statement (.readWithEffect a) := of_wf _
theorem registerWrite (a : Word) (w : Word) : Statement (.registerWrite a w) := of_wf _
theorem landingColumnReceived (g0 g1 : BitVec 10) (pops : Nat) : Statement (.landingColumnReceived g0 g1 pops) := of_wf _
theorem timeSetWholeSecond : Statement (.timeSetWholeSecond) := of_wf _
theorem twLineRisen (scl : Bool) : Statement (.twLineRisen scl) := of_wf _
theorem supplyRangeReturn (sup : Nat) (mv : Nat) : Statement (.supplyRangeReturn sup mv) := of_wf _
theorem tempWarnFall (temp : Word) : Statement (.tempWarnFall temp) := of_wf _
theorem feedTripAgeOut (k : Nat) : Statement (.feedTripAgeOut k) := of_wf _

end Sys2Proof.Laws.Named
end

