-- ==== Sys2Proof/Laws/Writes.lean ====
section
/-! SUPPORT. What the shared register write does: a word of a register of one word, the last word of a wide value, and the judgement of a
value that breaks no rule. -/

namespace Sys2Proof.Machine

/-- A word written to a register of one word is judged as the register's value. -/
theorem State.write_one {s : State} {a base : Nat} {r : RDesc} {rule : Rule} (w : Nat) (hst : s.stage = none)
    (hr : regAt (s.stdAt a) a = some (r, base)) (hg : s.gated srcTwoWire a = false) (h1 : r.words = 1) :
    s.write srcTwoWire a w rule = s.judge srcTwoWire a base r w rule := by
  have ht : s.touch a = s := by unfold State.touch; rw [hst]
  have hn : s.discards a = false := by unfold State.discards; rw [hst]
  have hw : s.writeAt srcTwoWire a w rule = s.judge srcTwoWire a base r w rule := by
    unfold State.writeAt
    simp only [hr, hg, h1, if_true, Bool.false_eq_true, if_false]
  unfold State.write
  simp only [ht, hn, hw, if_true, State.when, Bool.false_eq_true, if_false]

/-- The last word of a wide value, the others staged before it, is judged with them as the register's value (R8). -/
theorem State.write_last {s : State} {a base : Nat} {r : RDesc} {rule : Rule} {l : List (Nat × Nat)} (w : Nat)
    (hst : s.stage = some ⟨base, l⟩) (hr : regAt (s.stdAt a) a = some (r, base)) (ha : a = base + (r.words - 1))
    (hn : s.stageSpan base = r.words) (h2 : 2 ≤ r.words) (hg : s.gated srcTwoWire a = false) :
    s.write srcTwoWire a w rule =
      (s.setStage none).judge srcTwoWire a base r
        (overlay (s.regValue r base) ((r.words - 1, w) :: l.filter (·.1 != r.words - 1)) r.words) rule := by
  have hin : inR base (base + s.stageSpan base - 1) a = true := by simp [hn, inR]; omega
  have ht : s.touch a = s := by
    unfold State.touch; rw [hst]; simp [hin]
  have hd : s.discards a = false := by
    unfold State.discards; rw [hst]; simp [hin]
  have e : a - base = r.words - 1 := by omega
  have h3 : ¬ (r.words - 1 + 1 < r.words) := by omega
  have h4 : r.words ≠ 1 := by omega
  have hw : s.writeAt srcTwoWire a w rule = (s.setStage none).judge srcTwoWire a base r
      (overlay (s.regValue r base) ((r.words - 1, w) :: l.filter (·.1 != r.words - 1)) r.words) rule := by
    unfold State.writeAt
    simp only [hr, hg, h3, h4, Bool.false_eq_true, if_false, hst, e, Stage.add]
    rfl
  unfold State.write
  simp only [ht, hd, hw, if_true, State.when, Bool.false_eq_true, if_false]

/-- A legal value that breaks no rule is accepted (R12). -/
theorem State.judge_ok {s : State} {src a base new : Nat} {r : RDesc} {rule : Rule} (hc : s.classBreak src base r (s.regValue r base) new = none)
    (hl : legal (s.stdAt base) r base new = true) (hr : rule s (s.regValue r base) new = none) :
    s.judge src a base r new rule = (s.acceptWrite src base r (s.regValue r base) new, some (s.regValue r base, new)) := by
  unfold State.judge
  simp only [hc, hl, hr, Bool.not_true, Bool.false_eq_true, if_false]

end Sys2Proof.Machine
end

