-- ==== Sys2Proof/Machine/Bounds.lean ====
section
/-! DEFINITION. The latency bounds of the urgent path, in ps at the slow corner (R152, R310, R333, R383 to R385). Nothing here
changes the state: the commands that end a wait assert that its time has passed. -/

namespace Sys2Proof.Machine

/-- The slow-corner handshake period τ in ps (R5). -/
def tau : Nat := 1800

/-- The ticket switch t_sw: 96 τ (Table 17.4). -/
def tSwitch : Nat := 96 * tau

/-- T_lane: two ADC blocks of 256 samples at 2.4 GHz, and 224 τ (R383). -/
def tLane : Nat := 2 * 256 * 1000 * 10 / 24 + 224 * tau

/-- T_sup: 40 τ (R383). -/
def tSup : Nat := 40 * tau

/-- T_pin (R378). -/
def tPin : Nat := 60000

/-- The acceptance of a payload of `l` bytes by a hold (Table 17.4). -/
def tAccept (l : Nat) : Nat := (48 + ceilDiv l 16) * tau

/-- B_c + t_sw of a class; while an armed length waits for the class's beat ends, with the larger of both (R152, R153). -/
def State.beatSwitch (s : State) (c : Nat) : Nat :=
  let armed := (s.shadow.filter (fun x => x.armed && x.fld == F.ENG_BEAT_LENGTH c)).map (·.val)
  1000000 * armed.foldl max (s.get (F.ENG_BEAT_LENGTH c)) + tSwitch

/-- The other berths that work urgently and have load in a class: the most urgent tickets ahead of one of berth `n` (R383). -/
def State.urgentOthers (s : State) (n c : Nat) : Nat :=
  ((List.range 96).filter (fun m => m != n && s.working m && s.eligible m && (s.loadsOf m).ofClass c != 0)).length

/-- W_u,c: the wait of an urgent ticket with `u` others ahead (R152). -/
def State.waitUrgent (s : State) (c u : Nat) : Nat := (1 + u) * s.beatSwitch c

/-- N_u,c(W): the most urgent tickets that other berths make ready within `w` ps, from each berth's m_j and P_j in ps (R152). -/
def urgentWithin (us : List (Nat × Nat)) (w : Nat) : Nat := (us.map (fun u => u.1 * (ceilDiv w u.2 + 1))).sum

/-- The iteration of R152: the least W with W = `base` + N_u,c(W) × `step`, from W = `base` on; none where the steps do not suffice. -/
def waitFrom (us : List (Nat × Nat)) (base step : Nat) : Nat → Nat → Option Nat
  | 0, _ => none
  | fuel + 1, w =>
    let next := base + urgentWithin us w * step
    if next = w then some w else waitFrom us base step fuel next

/-- W_n,c: the wait of a non-urgent ticket of a class, from m_j and P_j of the berths that work urgently; none where Σ (m_j ÷ P_j) ×
(B_c + t_sw) is 1 or more, or no crane works (R152). -/
def State.waitNormal (s : State) (c : Nat) (us : List (Nat × Nat)) : Option Nat :=
  let k := (s.withRole c roleWorking).length
  let n := ((List.range 96).filter (fun m => s.working m && (s.loadsOf m).ofClass c != 0)).length
  let share := us.foldl (fun a u => (a.1 * u.2 + u.1 * a.2, a.2 * u.2)) (0, 1)
  if k = 0 || Nat.ble share.2 (share.1 * s.beatSwitch c) then none
  else
    let base := ceilDiv n k * s.beatSwitch c
    waitFrom us base (s.beatSwitch c) 65536 base

/-- The least L_au of a port in ps whose berths' largest D_total is `d`, with the narrow wait `w`, at `fs` frames a second (R310). -/
def State.audioLeast (s : State) (d w fs : Nat) : Nat :=
  d + 1000000000 + w + 1000000 * s.get (F.ENG_BEAT_LENGTH 4) + 500000000 + ceilDiv ((96 + 64) * 10 ^ 12) fs

/-- What a berth's own ticket ahead may take: the longest beat of its classes, and S_own (R383). -/
def State.tOwn (s : State) (n : Nat) : Nat :=
  (((List.range 5).filter (fun c => (s.loadsOf n).ofClass c != 0)).map s.beatSwitch).foldl max 0 + 100000 * s.ownService n

/-- Σ T_k over the urgent tickets of a deciding chain: their classes, and their service times in ps (R383, Table 17.3). -/
def State.tChain (s : State) (n : Nat) (chain : List (Nat × Nat)) : Nat :=
  (chain.map (fun k => s.waitUrgent k.1 (s.urgentOthers n k.1) + k.2)).sum

/-- What lies between t₀ and the end of the deciding chain (R383). -/
def State.tDecide (s : State) (n frame : Nat) (chain : List (Nat × Nat)) : Nat :=
  frame + s.get (F.LN_GD_APPLIED_D_TOTAL n) + tLane + s.tOwn n + s.tChain n chain

/-- T_alert of kinds 0x01 to 0x03: from t₀ to `ALERT_N` low (R383). -/
def State.alertBound (s : State) (n frame : Nat) (chain : List (Nat × Nat)) : Nat := s.tDecide n frame chain + tSup + tPin

/-- What crane faults in the chain add to the bounds: a beat and a switch for each, given by its class (R385). -/
def State.faultsAdd (s : State) (classes : List Nat) : Nat := (classes.map s.beatSwitch).sum

/-- T_frame of an urgent datagram of DAB: from the end of the last CIF `c` of a transmission frame to the end of CIF c + 15, from the CIFs of a
frame, its length, its preamble and one CIF in ps (R376). -/
def tFrame (cifs frame preamble cif : Nat) : Nat :=
  15 / cifs * frame + if 15 % cifs = 0 then 0 else preamble + 15 % cifs * cif

/-- T_frame of a kind of Table 17.1: 1 ms of narrow block for an RDS state, the four DAB modes for a datagram of DAB, and otherwise 0 (R376). -/
def tFrameOf (kind : Nat) (dabMode : Option Nat) : Nat :=
  match kind, dabMode with
  | 2, _ => 1000000000
  | 4, some 1 => tFrame 4 96000000000 6281000000 22428000000
  | 4, some 4 => tFrame 2 48000000000 3140000000 22428000000
  | 4, some _ => tFrame 1 24000000000 0 0
  | _, _ => 0

/-- Service time of a trellis ticket of `bits` bits, at 120 Mbit/s (Table 17.3). -/
def sTrellis (bits : Nat) : Nat := ceilDiv (bits * 1000000) 120

/-- Service time of an LDPC ticket of a FEC frame of `bits` bits, at 60 Mbit/s (Table 17.3). -/
def sLdpc (bits : Nat) : Nat := ceilDiv (bits * 1000000) 60

/-- Service time of a block ticket of `bits` bits, at 400 Mbit/s (Table 17.3). -/
def sBlock (bits : Nat) : Nat := bits * 2500

/-- t_GCM of an urgent request with the sizes A + C of the urgent requests ahead (R333): 4,096 bytes of the one in service, 1.2 µs of setup, and
8 bits a byte at 20 Gbit/s. -/
def tGcm (size : Nat) (ahead : List Nat) : Nat :=
  8 * 4096 * 50 + (ahead.map (fun a => 1200000 + 8 * a * 50)).sum + 1200000 + 8 * size * 50

/-- From the deciding chain to the acceptance of the verdict marker: envelope, engine, plaintext consignments and marker (R384). -/
def tVerdict (envelope size : Nat) (ahead parts : List Nat) : Nat :=
  tAccept envelope + tGcm size ahead + (parts.map (fun s => tAccept (16 + s))).sum + tAccept 16

/-- T_alert,DG of an urgent datagram (R384). -/
def State.alertDatagram (s : State) (n frame : Nat) (chain : List (Nat × Nat)) (envelope size : Nat) (ahead parts : List Nat) : Nat :=
  s.tDecide n frame chain + tVerdict envelope size ahead parts + tSup + tPin

/-- T_cca with `b` busy results at a rate: (b + 1) checks of 8 bit periods, and backoffs of at most 0.8 ms (R364, R384). -/
def tCca (fast : Bool) (b : Nat) : Nat := (b + 1) * (if fast then 80000000 else 160000000) + b * 800000000

/-- T_tx,DG: to the first preamble bit of the relayed stream; `busy` and `pair` are T_busy and T_pair (R384). -/
def State.txDatagram (s : State) (n frame : Nat) (chain : List (Nat × Nat)) (envelope size stream : Nat) (ahead parts : List Nat)
    (busy pair : Nat) (fast : Bool) (b : Nat) : Nat :=
  s.tDecide n frame chain + tVerdict envelope size ahead parts + tAccept stream + busy + pair + tCca fast b + 33200000

end Sys2Proof.Machine
end

