-- ==== Sys2Proof/Machine/Jtag.lean ====
section
/-! DEFINITION. The JTAG port (R460). No command of the table clocks `TCK`, and the TAP reaches no register, memory or key: its state stands
beside the rest, and `State.tck` is what an edge does to it. The controller is that of IEEE 1149.1 (log entry 134). -/

namespace Sys2Proof.Machine

/-- The next state of the TAP controller at a rising `TCK` edge with `TMS` (IEEE 1149.1). Log entry 134: PRESUMED. -/
def TapState.next (tms : Bool) : TapState → TapState
  | .reset => if tms then .reset else .idle
  | .idle => if tms then .selectDr else .idle
  | .selectDr => if tms then .selectIr else .captureDr
  | .captureDr => if tms then .exit1Dr else .shiftDr
  | .shiftDr => if tms then .exit1Dr else .shiftDr
  | .exit1Dr => if tms then .updateDr else .pauseDr
  | .pauseDr => if tms then .exit2Dr else .pauseDr
  | .exit2Dr => if tms then .updateDr else .shiftDr
  | .updateDr => if tms then .selectDr else .idle
  | .selectIr => if tms then .reset else .captureIr
  | .captureIr => if tms then .exit1Ir else .shiftIr
  | .shiftIr => if tms then .exit1Ir else .shiftIr
  | .exit1Ir => if tms then .updateIr else .pauseIr
  | .pauseIr => if tms then .exit2Ir else .pauseIr
  | .exit2Ir => if tms then .updateIr else .shiftIr
  | .updateIr => if tms then .selectDr else .idle

/-- What the bits of an instruction register stand for: all ones BYPASS, the others by a code that the spec does not give, unknown ones BYPASS.
Log entry 134: PRESUMED. -/
def tapDecode (ir : List Bool) : TapInstr :=
  if ir.all id then .bypass
  else match Config.tapCode ir with
    | 0 => .idcode
    | 1 => .sample
    | 2 => .extest
    | _ => .bypass

/-- The instruction that the TAP executes: one that drives pins only while `RESET_N` is low, and otherwise as BYPASS (R460). -/
def State.tapInstr (s : State) : TapInstr :=
  match s.jtag.instr with
  | .extest => if s.pinLow then .extest else .bypass
  | i => i

/-- IDCODE: 0xB, the part number, the vendor identity from OTP, and 1 (R460). Log entry 134: PRESUMED. -/
def idcode : Nat := 0xB * 2 ^ 28 + 0x9604 * 2 ^ 12 + Config.vendor.toNat * 2 + 1

/-- Cells of the boundary-scan register: one for each CMOS and LVDS signal of Table 21.3, a pair counted once (R460). Log entry 134:
PRESUMED. -/
def boundaryCells : Nat := 66

/-- What CAPTURE-DR loads, bit 0 first (R460). -/
def State.tapCapture (s : State) : List Bool :=
  match s.tapInstr with
  | .bypass => [false]
  | .idcode => (List.range 32).map (bit idcode)
  | _ => (List.range boundaryCells).map (Config.pinLevel s.clock)

/-- A rising edge of `TCK` with `TRST_N` high, and what `TDO` shows before it in the shift states. Log entry 134: PRESUMED. -/
def State.tck (s : State) (tms tdi : Bool) : State × Bool :=
  let t := s.jtag
  let shifted := t.shift.drop 1 ++ [tdi]
  let u : Tap := match t.state with
    | .captureDr => { t with shift := s.tapCapture }
    | .shiftDr => { t with shift := shifted }
    | .captureIr => { t with shift := true :: false :: (List.range (Config.tapWidth)).map (fun _ => false) }
    | .shiftIr => { t with shift := shifted }
    | _ => t
  let next := t.state.next tms
  let u := { u with state := next }
  let u := match next with
    | .reset => { u with instr := .idcode }
    | .updateIr => { u with instr := tapDecode u.shift }
    | .updateDr => (match s.tapInstr with
      | .sample | .extest => { u with drive := u.shift }
      | _ => u)
    | _ => u
  (s.setJtag u, t.shift.headD false)

/-- `TRST_N` low holds the TAP in reset, where IDCODE is its instruction (R460). -/
def State.trst (s : State) : State := s.setJtag { s.jtag with state := .reset, instr := .idcode }

/-- The level that EXTEST drives on a boundary cell; none where it drives nothing (R460). -/
def State.tapDrives (s : State) (cell : Nat) : Option Bool :=
  match s.tapInstr with
  | .extest => s.jtag.drive[cell]?
  | _ => none

end Sys2Proof.Machine
end

