-- ==== Sys2Proof/Machine/Pins.lean ====
section
/-! DEFINITION. How the device drives the pins of the transmit switches, the alert and the flash (R48, R357, R378). -/

namespace Sys2Proof.Machine

/-- The level of `TRSW0` and `TRSW1` (`i` 0 or 1): 1 for transmit, inverted by the pin's bit in `PLT_PINS` (R357). -/
def State.trswLevel (s : State) (i : Nat) : Bool := s.trsw != s.on (if i = 0 then F.PLT_PINS_TRSW0_POL else F.PLT_PINS_TRSW1_POL)

/-- Whether `ALERT_N` is low (R378). -/
def State.alertLow (s : State) : Bool := s.on F.ALERT_STATUS_PIN

/-- The pins of the flash. -/
inductive FlashPin where
  | cs | sck | io0 | io1 | io2 | io3
  deriving DecidableEq, Repr

/-- The instruction that the flash reader carries out, while WIND runs. -/
def State.flashRead (s : State) : Option FlashRead := s.wind.bind (·.reads.head?)

/-- Whether the device drives a pin of the flash at some time of the present read (R46 to R48): outside WIND none; within it the select, the
clock and the line to the flash; the lines 2 and 3 only in a 1-1-4 read, which needs QUAD_OK. The line 1 carries data from the flash.
Log entry 118: DEDUCED. -/
def State.flashDriven (s : State) (p : FlashPin) : Bool :=
  s.mode == .wind &&
  (match s.flashRead with
   | none => false
   | some r => match p with
     | .cs | .sck | .io0 => true
     | .io1 => false
     | .io2 | .io3 => r.quad)

end Sys2Proof.Machine
end

