-- ==== Sys2Proof/Tests/Slice0.lean ====
section
/-! SUPPORT. Tests: ill-formed commands that `Instr.wf` refuses, worked examples and tables of the spec on small states, and for each
statement with hypotheses a state and operands that meet them. Every expected value is the spec's, or computed from it by hand. -/

namespace Sys2Proof.Tests
open Sys2Proof.Machine

/-! Ill-formed commands. -/

/-- A unit that does not exist, one command for each kind of unit and each end of its range. -/
theorem test_wf_refuses_units :
    ([.agcWindowEnd 0 0, .agcWindowEnd 3 0, .pfdSlip 4, .twinTrimDone 2 0, .patrolStart 104, .laneStart 96, .beatEnd 33 true false 0,
      .ticketReady 0 5 [], .quayFrameStart 4, .audioSettled 4, .audioSlotLate 0 32, .eraseSlot 0x5A 32, .captureFlushTimeout 8,
      .captureOverrun 4, .periodicDue 32, .domainFault 0 0, .domainFault 8 0, .supplyRangeExit 6 0, .scrubPassLate 0, .scrubPassLate 7,
      .windCopyReadDone 2 []] : List Instr).all (fun c => !c.wf) = true := by decide +kernel

/-- A value past what the spec gives, one command for each check. -/
theorem test_wf_refuses_values :
    ([.regulateCaptureDone 1 true [], .regulateEnd 0 ([], []) (201, 0), .bandSearchDone 0 [0], .adcBlock 1 (List.replicate 255 0) 0 0,
      .adcBlock 1 (List.replicate 256 0) 2 0, .ticketReady 0 0 [5],
      .craneFault 0 0x0403, .consignmentArrival 0 0 0 0 false false 0 [], .consignmentArrival 0 0 0 15 false false 0 [],
      .rdsBlock 0 0x4000000 0, .dabFrame 0 ⟨5, true, [], 0, ⟨[], 0, 0, 0, [], [], 0, 0, 0⟩⟩,
      .drmFrame 0 ⟨0, 0, 0, true, [], [], false, 0, ⟨[], 0, 0, 0, [], [], 0, 0, 0⟩⟩,
      .bondRequestAccept 0 0 4 0 [], .ivEntryExpire 0 0 [], .sfdFound 0 3001, .preambleDeclared 0 64 0, .scrubWordRead 1 0 0 0 ⟨false, [79], .single⟩,
      .alertHoldExpire 5 0, .unitSelftestDone 7 0 true,
      .domainFault 1 16, .l1ChangeApply 0 [⟨0, 0, false, false, 3, 0, 0, true⟩] 0,
      .interleavingFrameComplete 0 0 0 0 [⟨true, true, [⟨List.replicate 187 0, none, false, 0, 0, 0⟩], 0⟩], .landingColumnReceived 0 0 2] : List Instr).all (fun c => !c.wf) = true := by decide +kernel

/-- The ends of the ranges. -/
theorem test_wf_accepts :
    ([.agcWindowEnd 2 0, .pfdSlip 3, .patrolStart 103, .laneStart 95, .beatEnd 32 true false 0, .ticketReady 0 4 [1, 4], .eraseSlot 0x5A 31,
      .periodicDue 31, .domainFault 7 15, .l1ChangeApply 0 [⟨0, 0, false, false, 8, 0, 0, true⟩] 0, .landingColumnReceived 0 0 1, .supplyRangeExit 5 0, .scrubPassLate 6, .windCopyReadDone 1 [], .adcBlock 1 (List.replicate 256 0) 5 9,
      .rdsBlock 0 0x3FFFFFF 0, .sfdFound 0 3000, .preambleDeclared 0 63 (-3000), .scrubWordRead 1 0 0 0 ⟨false, [78], .single⟩, .unitSelftestDone 10 0 true, .twStop] : List Instr).all Instr.wf = true := by decide +kernel

/-- The opcode table gives its rows no bits. -/
theorem test_decode_none : decodeTableWord 16 0xFFFF = none := rfl

section
set_option maxRecDepth 20000
set_option Elab.async false

/-- A device in a mode with every domain on, no reset under way, and the listed fields written. -/
def at' (m : Mode) (l : List (Fld × Nat)) : State :=
  l.foldl (fun t e => t.put e.1 e.2) ((List.range 7).foldl (fun t d => t.put (F.DOM_STATE (d + 1)) 1) ((State.reset.setMode m).setBoot none))
/-- Such a device in RUN. -/
def run (l : List (Fld × Nat)) : State := at' .run l
/-- Such a device a millisecond after its supply came. -/
def on1 (l : List (Fld × Nat)) (tw : TwoWire) : State := { run l with clock := 1000000, tw := tw }
/-- The estimates of a crane that demodulated nothing. -/
def noOfdm : Ofdm := ⟨[], 0, 0, 0, [], [], 0, 0, 0⟩
/-- A T2 frame of which only P1 is looked at. -/
def noT2 (found : Bool) (fields : Nat) : T2Frame := ⟨found, fields, 0, false, [], ⟨3, 0, 0, 0, 0, 0⟩, false, [], [], [], 0, noOfdm⟩
/-- The cranes have their roles. -/
def manned (s : State) : State := (List.range 5).foldl (fun t c => t.assignRoles c) s
/-- The fields of a berth of a standard that works on its own lane. -/
def atWork (std n : Nat) : List (Fld × Nat) :=
  [(F.BTH_CTRL_STANDARD n, std), (F.BTH_CTRL_RUN n, 1), (F.BTH_CTRL_STOPPED n, 0), (F.BTH_STATUS_STATE n, bsRunning),
    (F.LN_CTRL_RUN n, 1), (F.LN_CTRL_STOPPED n, 0), (F.LN_STATUS_VALID1 n, 1)]
/-- Bytes of one value. -/
def fill (n v : Nat) : List Byte := List.replicate n (BitVec.ofNat 8 v)
/-- The fade of a home. -/
def aFade (count : Nat) : Fade := { Fade.new true 0 false with count := count }
/-- Berth 95 of a standard in a fade state, its partner 94 of the same standard at work too. -/
def fading (std state count : Nat) (l : List (Fld × Nat)) : State :=
  (run (atWork std 95 ++ atWork std 94 ++ [(if std = 2 then F.FM_SVC2_PARTNER 95 else F.DAB_SVC4_PARTNER 95, 94), (F.FM_SVC7_XF_STATE 95, state)] ++ l)).putFoll 95
    { Follow.reset with fade := some (aFade count) }
/-- Another fade in progress at berth 95. -/
def withFade (f : Fade) (s : State) : State := s.putFoll 95 { s.foll 95 with fade := some f }
/-- A request of the bond engine for slot 30 whose envelope or unit is `data`. -/
def aReq (mode : Nat) (data : List Byte) : BReq :=
  ⟨7, 0x63, 0, mode, 30, 0, 0, false, 0, [data], true, false, data.length, 0, false, false, 7, 0, [], [], Copy.of data⟩
/-- A state that serves it, slots 30 and 31 holding keys. -/
def serving (r : BReq) : State :=
  (({run [(F.BOND_STATUS_ENGINE_OK, 1)] with bondReqs := [r], bondNow := some 7}).putSlot 30 ⟨some (fill 16 1), if r.mode = 1 then 1 else 2, 0, [], none⟩).putSlot 31
    ⟨some (fill 16 2), 3, 0, [], none⟩
/-- A GCM envelope of slot 30 with a given tag. -/
def anEnv (tag : List Byte) : List Byte := [1, 0, 30, 0, 0] ++ fill 12 0 ++ tag
/-- A transmit request. -/
def aTx (urgent malformed : Bool) (payloads : List (List Byte)) (attempts : Nat) : TxReq :=
  ⟨5, 0x63, 0, urgent, malformed, 0, 0, 0, 4, false, 0, 0, payloads, 0, false, attempts, false, none, [], Copy.of []⟩
/-- A device whose schedule holds it at a stage, the pilot link running and the sample pair ready. -/
def sched (r : TxReq) (st : TxStage) (l : List (Fld × Nat)) : State :=
  {run ([(F.PLT_CTRL_RUN, 1), (F.TB_MOV_STATUS_CARRYING 0, 1), (F.TB_MOV_STATUS_LOCKED 0, 1), (F.TB_MOV_STATUS_STATE 0, 3)] ++ l) with schedule := [r], txAt := (5, st)}
/-- A lading frame of host channel 0x83 without payload, with the CRC of its bytes plus `d`. -/
def aFrame (len seq epoch d : Nat) : List Byte :=
  let b : List Byte := [0x83, 0x20, 0, 0] ++ be 2 len ++ [1, 0] ++ be 4 seq ++ be 4 epoch ++ fill 8 0
  b ++ (be 4 ((crc32 b).toNat + d)).reverse
/-- Quay 3 running with a consignment in its hold. -/
def quayRuns (l : List (Fld × Nat)) : State :=
  { run ([(F.QY_CTRL_RUN 3, 1), (F.QY_CTRL_STOPPED 3, 0), (F.DOM_CTRL_QUAY_ON, 1), (F.TB_OUT_CFG_RUNNING 7, 1)] ++ l) with
    custody := [⟨95, 0, 15, 0, 1, 0, fill 4 9, 95, 3, false, false, none, Copy.of (fill 4 9)⟩] }
/-- The landing port with an arriving frame of which these bytes came. -/
def arriving (b : List Byte) : State :=
  {run [(F.LAND_CTRL_STOPPED, 0), (F.LAND_STATUS_ALIGNED, 1)] with landRx := ⟨b, 14, false, false, true, false, false, [false, false]⟩}
/-- RFC 3394, 4.3: 128 bits of key data, wrapped with a key-encryption key of 256 bits. -/
def keyWaits : State :=
  { run [(F.BOND_KEY_CFG_USAGE, 1)] with
    kek := some ((List.range 32).map (BitVec.ofNat 8))
    keyWrap := (List.range 12).zip [0x64E8, 0xC3F9, 0xCE0F, 0x5BA2, 0x63E9, 0x7779, 0x0581, 0x8A2A, 0x93C8, 0x191E, 0x7D6E, 0x8AE7] }
/-- The state after a command. -/
def after (c : Instr) (s : State) : State := match exec c s with | .next t => t | _ => s

/-! Check values and worked examples. -/

/-- The check value of CRC-32 (R279). -/
theorem test_crc32 : crc32 ((List.range 9).map (fun i => BitVec.ofNat 8 (0x31 + i))) = 0xCBF43926#32 := by decide +kernel

/-- FIPS 197, example C.1. -/
theorem test_aes128 :
    aesEnc ((List.range 16).map (BitVec.ofNat 8)) ((List.range 16).map (fun i => BitVec.ofNat 8 (0x11 * i))) =
      be 16 0x69C4E0D86A7B0430D8CDB78070B4C55A := by decide +kernel

/-- SP 800-38D, test case 2: no additional data, a block of zeros under a key and an IV of zeros. -/
theorem test_gcm :
    (gcmText (fill 16 0) (fill 12 0) (fill 16 0), gcmTag (fill 16 0) (fill 12 0) [] (be 16 0x0388DACE60B6A392F328C2B971B2FE78)) =
      (be 16 0x0388DACE60B6A392F328C2B971B2FE78, be 16 0xAB6E47D42CEC13BDF53A67B21257BDDF) := by decide +kernel

/-- Chapter 3's example: generation 0x00000001 follows 0xFFFFFFFE. -/
theorem test_generation_follows : follows 0x00000001 0xFFFFFFFE = true ∧ follows 0xFFFFFFFE 0x00000001 = false := by decide

/-- Chapter 6's example: the delay of a lane in ps, and its residual. -/
theorem test_group_delay : dTotal 7500 2 127 2 512 525 0 = 6577500 ∧ gdResidual 150 2 2 = 152 := by decide +kernel

/-- Chapter 16's example: 209 octets after the PHY header at 50 kbit/s take 35.36 ms, and the sum then reads 3,242. -/
theorem test_air_time : airUnits 0 8 205 * 10 = 35360 ∧ ceilDiv (3238000 + airUnits 0 8 205) 1000 = 3242 := by decide

/-- Chapter 18's example: data bit 17 lies at code position 31, and a word with it wrong is corrected there. -/
theorem test_word_position : codePos 17 = 31 ∧ (check (2 ^ storedBit 31)).apply (2 ^ storedBit 31) = 0 := by decide +kernel

/-- Chapter 20's example: the registers of berth 41's oscillator, and of crane 20's command. -/
theorem test_addresses : F.LN_NCO_FREQ 41 = ⟨0x0E52, 0, 32⟩ ∧ (F.CRN_CMD_SELFTEST 20).addr = 0x1D47 := by decide

/-- Tables 17.6 and 17.7: T_lane, the acceptance of an envelope, and the engine's time for it, in ps. -/
theorem test_urgent_terms : tLane = 616533 ∧ tAccept 233 = 113400 ∧ tGcm 205 [] = 2920400 ∧ tCca false 0 = 160000000 := by decide +kernel

/-- The example of R311: 70 narrow berths on 8 cranes wait 0.452 ms, and port P0 needs 9.791 ms at 48 kHz; frames of R282. -/
theorem test_audio_latency :
    ceilDiv 70 8 * State.reset.beatSwitch 4 = 451555200 ∧ State.reset.audioLeast 4456000000 451555200 48000 = 9790888534 ∧
      frameNs 4 8192 = 20570 ∧ frameNs 2 8192 = 41120 := by decide +kernel

/-- K28.5 and D0.0 at both running disparities, from the tables of IEEE 802.3 Clause 36. -/
theorem test_line_code :
    encodeChar false (kChar 28 5) = (msbFirst 10 0b0011111010, true) ∧ encodeChar true (kChar 28 5) = (msbFirst 10 0b1100000101, false) ∧
      encodeChar false (false, 0) = (msbFirst 10 0b1001110100, false) ∧ encodeChar true (false, 0) = (msbFirst 10 0b0110001011, true) := by
  decide +kernel

/-- A group read at its disparity is its character; K28.5 at the wrong disparity is an error; two K28.5 are an SOF (Table 13.1). -/
theorem test_group_read :
    decodeGroup false 0x0FA#10 = some (kChar 28 5) ∧ decodeGroup true 0x0FA#10 = none ∧
      landed (some (kChar 28 5)) (some (kChar 28 5)) = .sof := by decide +kernel

/-- Five rising edges with `TMS` high reset the TAP from every state (R460). -/
theorem test_tap_reset :
    ([.reset, .idle, .selectDr, .captureDr, .shiftDr, .exit1Dr, .pauseDr, .exit2Dr, .updateDr, .selectIr, .captureIr, .shiftIr, .exit1Ir,
      .pauseIr, .exit2Ir, .updateIr] : List TapState).all (fun t => (List.range 5).foldl (fun x _ => x.next true) t == .reset) = true := by decide

/-- EXTEST drives only while `RESET_N` is low (R460). -/
theorem test_extest :
    let t : Tap := { State.reset.jtag with instr := .extest, drive := [true] }
    State.tapDrives { State.reset with jtag := t, pinLow := true } 0 = some true ∧
      State.tapDrives { State.reset with jtag := t, pinLow := false } 0 = none := by decide +kernel

/-! Commands. -/

/-- SURVEY without its confirmation is refused, and changes no mode (R29, R30). -/
theorem test_survey_unconfirmed :
    ((after (.enterSurvey 0) (run [])).mode, (after (.enterSurvey 0) (run [])).jnl.map (fun e => (e.address, e.result))) = (.run, [(5, resMode)]) := by
  decide +kernel

/-- A tamper alarm brings ANCHOR and leaves no key (R349, R30). -/
theorem test_tamper :
    let t := after .tamperAlarm ((run [(F.BOND_CTRL_TAMPER_EN, 1)]).putSlot 3 ⟨some (fill 16 1), 1, 0, [], none⟩)
    t.mode = .anchor ∧ (t.slot 3).key = none := by decide +kernel

/-- The window that finds 1,024 cycles after three good ones locks the movement (R90). -/
theorem test_lock_window :
    let t := after (.lockWindowEnd 0 1024) ((run [(F.TB_MOV_STATUS_STATE 0, 2)]).putMov 0 { Mov.reset with good := 3 })
    t.get (F.TB_MOV_STATUS_LOCKED 0) = 1 ∧ t.get (F.TB_MOV_STATUS_STATE 0) = 3 := by decide +kernel

/-- The reference voltage is shown, and lies out of its range above 1.2625 V (R111). -/
theorem test_vref :
    let t := after (.vrefCheck 12626) (run [(F.CAL_STATUS_VREF_OK, 1)])
    t.get F.CAL_STATUS_VREF_OK = 0 := by decide +kernel

/-- A short turns the feed off and counts a trip (R119). -/
theorem test_feed_short :
    let t := after (.feedShort 1 200) (run [(F.FEED_STATUS_ON 1, 1)])
    t.get (F.FEED_STATUS_ON 1) = 0 ∧ t.get (F.FEED_STATUS_COOLING 1) = 1 ∧ t.get (F.FEED_STATUS_TRIPS 1) = 1 := by decide +kernel

/-- An erased slot needs its confirmation (R328). -/
theorem test_erase_slot :
    let s := (run []).putSlot 3 ⟨some (fill 16 1), 1, 0, [], none⟩
    ((after (.eraseSlot 0x5A 3) s).slot 3).key = none ∧ ((after (.eraseSlot 0 3) s).slot 3).key = some (fill 16 1) := by decide +kernel

/-- A register that does not exist is refused as undefined (R13). -/
theorem test_write_undefined :
    let t := after (.registerWrite 0xFFFF 1) (run [])
    t.get F.GLB_STATUS_UNDEFINED_REFUSED = 1 ∧ t.jnl.map (fun e => (e.address, e.result)) = [(0xFFFF, resUndefined)] := by decide +kernel

/-- The low word of a wide value waits for the others (R8). -/
theorem test_write_low_word : (after (.registerWrite 0x0022 0x1234) (run [])).stage = some ⟨0x0020, [(2, 0x1234)]⟩ := by decide +kernel

/-- The hold of a quay rises (R288). -/
theorem test_quay_hold : (after (.quayHoldRise 2) (run [])).get (F.QY_STATUS_HOLD_IN 2) = 1 := by decide +kernel

/-- A fault of a domain starts its restart (R402). -/
theorem test_domain_fault :
    let t := after (.domainFault 5 6) (run [])
    t.get (F.DOM_STATE 5) = 3 ∧ t.get (F.DOM_COUNTS_FAULTS 5) = 1 := by decide +kernel

/-- The alert test drives the pin (R383). -/
theorem test_alert_test : (after (.alertTest 0x5A02) (run [])).get F.ALERT_STATUS_PIN = 1 := by decide +kernel

/-- The pointer of an open transaction of the device (R417). -/
theorem test_two_wire_pointer :
    let s : State := { run [] with tw := { State.reset.tw with opened := true, mine := true } }
    (after (.twPointerSet 0x1234) s).tw.pointer = 0x1234 := by decide +kernel

/-- A step takes one command (log entry 1). -/
theorem test_step_takes_one :
    (match step { run [] with pending := [.quayHoldRise 2, .twStop] } with | .next t => t.pending | _ => []) = [.twStop] := by decide +kernel

/-! States and operands that meet the hypotheses of the statements. -/

/-- Meets the hypotheses of `Obligations.QueueStep`, clause by clause. -/
theorem witness_QueueStep :
    (let c := Instr.twStop; let rest := ([] : List Instr); let s : State := ({run [] with pending := [Instr.twStop]}).shown;
      s.pending = c :: rest) ∧
    (let s : State := (run []).shown;
      s.pending = []) := by
  refine ⟨?_, ?_⟩ <;>
    decide +kernel

/-- Meets the hypotheses of `Obligations.DomainsOff`, clause by clause. -/
theorem witness_DomainsOff :
    (let a := 0x2300#16; let s : State := ((run []).put (F.DOM_STATE 7) 0).shown; s.Settled ∧ s.dead = false ∧ s.pinLow = false ∧ s.stage = none ∧
       (regAt (s.stdAt a.toNat) a.toNat).isSome = true ∧ domainOf a.toNat ≠ 0 ∧ s.get (F.DOM_STATE (domainOf a.toNat)) ≠ dsOn) := by
  unfold State.Settled State.Shows State.Calm; decide +kernel

/-- Meets the hypotheses of `Obligations.SequenceNumbers`, clause by clause. -/
theorem witness_SequenceNumbers :
    (let a : Nat := 2 ^ 32 - 1; let b : Nat := 2 ^ 31 - 1;
      a < 2 ^ 32 ∧ b < 2 ^ 32) ∧
    (let s : State := (run []).shown;
      s.dead = false ∧ s.pinLow = false ∧ s.stage = none ∧ s.ranks 2 = true) ∧
    (let n : Nat := 95; let seq : Nat := 0; let h : Nat := 2 ^ 32 - 1; let s : State := ((run []).putProd 95 ⟨0, 0, some (2 ^ 32 - 1), []⟩).shown;
      (s.prod n).highest = some h ∧ seq < 2 ^ 32 ∧ h < 2 ^ 32) := by
  refine ⟨?_, ?_, ?_⟩ <;>
    decide +kernel

/-- Meets the hypotheses of `Obligations.JournalWindows`, clause by clause. -/
theorem witness_JournalWindows :
    (let lo : Nat := 65535; let s : State := ({run [] with stage := some ⟨0x2802, [(0, 65535)]⟩}).shown;
      s.Settled ∧ s.dead = false ∧ s.pinLow = false ∧ lo < 65536 ∧ s.stage = some ⟨0x2802, [(0, lo)]⟩ ∧ s.gated srcTwoWire 0x2803 = false) ∧
    (let lo : Nat := 65535; let s : State := ({run [] with stage := some ⟨0x2812, [(0, 65535)]⟩}).shown;
      s.Settled ∧ s.dead = false ∧ s.pinLow = false ∧ lo < 65536 ∧ s.stage = some ⟨0x2812, [(0, lo)]⟩ ∧ s.gated srcTwoWire 0x2813 = false) ∧
    (let s : State := (run []).shown; let w : Word := 0x4000#16;
      s.Settled ∧ s.dead = false ∧ s.pinLow = false ∧ w.getLsbD 14 = true ∧ s.stage = none ∧ s.gated srcTwoWire 0x280F = false) ∧
    (let s : State := (run []).shown; let w : Word := 0x4000#16;
      s.Settled ∧ s.dead = false ∧ s.pinLow = false ∧ w.getLsbD 14 = true ∧ s.stage = none ∧ s.gated srcTwoWire 0x2824 = false) := by
  refine ⟨?_, ?_, ?_, ?_⟩ <;>
    ((try unfold State.Settled State.Shows State.Calm); decide +kernel)

/-- Meets the hypotheses of `Obligations.ReadsAndStatistics`, clause by clause. -/
theorem witness_ReadsAndStatistics :
    (let s : State := (run []).shown;
      s.Settled ∧ s.dead = false ∧ s.pinLow = false ∧ s.stage = none) ∧
    (let a : Word := 0x2300#16; let s : State := ((run []).put (F.DOM_STATE 7) 0).shown;
      s.Settled ∧ s.dead = false ∧ s.pinLow = false ∧ s.stage = none ∧ (regAt (s.stdAt a.toNat) a.toNat).isSome ∧ s.domOn (domainOf a.toNat) = false) ∧
    (let w : Word := 0x0E5F#16; let s : State := (run []).shown;
      s.Settled ∧ s.dead = false ∧ s.pinLow = false ∧ s.stage = none ∧ s.gated srcTwoWire 0x3800 = false ∧ bits w.toNat 8 5 ≤ 14 ∧
        isProducer (bits w.toNat 0 8) = true) := by
  refine ⟨?_, ?_, ?_⟩ <;>
    ((try unfold State.Settled State.Shows State.Calm); decide +kernel)

/-- Meets the hypotheses of `Obligations.RegisterWrite`, clause by clause. -/
theorem witness_RegisterWrite :
    (let s : State := (run []).shown;
      s.Settled ∧ s.dead = false ∧ s.pinLow = false ∧ s.stage = none ∧ s.gated srcTwoWire 0x2825 = false) ∧
    (let w : Word := 0#16; let s : State := (run []).shown;
      s.Settled ∧ s.dead = false ∧ s.pinLow = false ∧ s.stage = none ∧ s.gated srcTwoWire 0x71 = false ∧ s.wordAt 0x71 ≠ w.toNat) ∧
    (let a : Word := 0xFFFF#16; let s : State := (run []).shown;
      s.Settled ∧ s.dead = false ∧ s.pinLow = false ∧ s.stage = none ∧ regAt (s.stdAt a.toNat) a.toNat = none) := by
  refine ⟨?_, ?_, ?_⟩ <;>
    ((try unfold State.Settled State.Shows State.Calm); decide +kernel)

/-- Meets the hypotheses of `Obligations.Groups`, clause by clause. -/
theorem witness_Groups :
    (let a : Word := 0x45#16; let s : State := (run []).shown;
      s.Settled ∧ s.dead = false ∧ s.pinLow = false ∧ isCommit a.toNat = true ∧ s.stage = none ∧ s.gated srcTwoWire a.toNat = false ∧ ¬(a.toNat = 0x300E ∧
        s.mode = .survey) ∧ s.on (fGroup a.toNat) = false) ∧
    (let a : Word := 0x300E#16; let s : State := (run []).shown;
      s.Settled ∧ s.dead = false ∧ s.pinLow = false ∧ isCommit a.toNat = true ∧ s.stage = none ∧ s.gated srcTwoWire a.toNat = false ∧ ¬(a.toNat = 0x300E ∧
        s.mode = .survey)) ∧
    (let cls : Nat := 4; let v : Nat := 250; let s : State := (({run [] with shadow := [⟨0x45, ⟨0x44, 0, 8⟩, 250, false⟩]}).put (fGroup 0x45) 1).shown;
      s.Settled ∧ s.dead = false ∧ cls < 5 ∧ 10 ≤ v ∧ v ≤ 250 ∧ s.pinLow = false ∧ s.stage = none ∧ s.gated srcTwoWire 0x45 = false ∧ s.on (fGroup 0x45) = true ∧
        s.shadow = [⟨0x45, ⟨0x40 + cls, 0, 8⟩, v, false⟩] ∧ s.blockRuns (0x40 + cls) = false) ∧
    (let cls : Nat := 4; let v : Nat := 10; let s : State := (({run [] with shadow := [⟨0x45, ⟨0x44, 0, 8⟩, 10, true⟩]}).put (fPending 0x45) 1).shown;
      s.Settled ∧ s.dead = false ∧ cls < 5 ∧ 10 ≤ v ∧ v ≤ 250 ∧ s.on (fPending 0x45) = true ∧ s.shadow = [⟨0x45, ⟨0x40 + cls, 0, 8⟩, v, true⟩]) := by
  refine ⟨?_, ?_, ?_, ?_⟩ <;>
    ((try unfold State.Settled State.Shows State.Calm); decide +kernel)

/-- Meets the hypotheses of `Obligations.TwTransaction`, clause by clause. -/
theorem witness_TwTransaction :
    (let s : State := (on1 [] State.reset.tw).shown;
      s.Settled ∧ s.dead = false ∧ s.pinLow = false ∧ 1000000 ≤ s.clock ∧ s.tw.ignore = false) ∧
    (let s : State := (on1 [] ⟨true, true, false, false, 0, false, 0⟩).shown;
      s.Settled ∧ s.dead = false ∧ s.pinLow = false ∧ 1000000 ≤ s.clock ∧ s.tw.mine = true ∧ s.tw.reading = false) ∧
    (let s : State := (on1 [] State.reset.tw).shown;
      s.Settled ∧ s.dead = false ∧ s.pinLow = false ∧ 1000000 ≤ s.clock) := by
  refine ⟨?_, ?_, ?_⟩ <;>
    ((try unfold State.Settled State.Shows State.Calm); decide +kernel)

/-- Meets the hypotheses of `Obligations.TwWords`, clause by clause. -/
theorem witness_TwWords :
    (let s : State := ({run [] with tw := ⟨true, true, false, false, 65535, false, 0⟩}).shown;
      s.dead = false ∧ s.pinLow = false ∧ s.tw.mine = true ∧ s.tw.pointer < 65536 ∧ s.tw.reading = false) ∧
    (let s : State := ({run [] with tw := ⟨true, true, false, true, 65535, false, 0⟩}).shown;
      s.dead = false ∧ s.pinLow = false ∧ s.tw.mine = true ∧ s.tw.pointer < 65536 ∧ s.tw.reading = true) := by
  refine ⟨?_, ?_⟩ <;>
    decide +kernel

/-- Meets the hypotheses of `Obligations.TwTroubles`, clause by clause. -/
theorem witness_TwTroubles :
    (let s : State := (on1 [] State.reset.tw).shown;
      s.Settled ∧ s.dead = false ∧ s.pinLow = false ∧ 1000000 ≤ s.clock ∧ s.tw.ignore = false) ∧
    (let s : State := (on1 [] ⟨true, true, false, true, 65535, false, 0⟩).shown;
      s.Settled ∧ s.dead = false ∧ s.pinLow = false ∧ 1000000 ≤ s.clock ∧ s.tw.mine = true) ∧
    (let s : State := ({on1 [] ⟨true, true, false, true, 65535, false, 0⟩ with rebuilding := true}).shown;
      s.Settled ∧ s.dead = false ∧ s.pinLow = false ∧ 1000000 ≤ s.clock ∧ s.tw.mine = true ∧ s.tw.reading = true ∧ s.mayStale = true ∧ s.stage = none) ∧
    (let s : State := (on1 [] ⟨true, true, false, true, 65535, false, 0⟩).shown;
      s.Settled ∧ s.dead = false ∧ s.pinLow = false ∧ 1000000 ≤ s.clock ∧ s.tw.opened = true) ∧
    (let s : State := (on1 [] State.reset.tw).shown;
      s.Settled ∧ s.dead = false ∧ s.pinLow = false ∧ 1000000 ≤ s.clock ∧ s.tw.pulse = false) := by
  refine ⟨?_, ?_, ?_, ?_, ?_⟩ <;>
    ((try unfold State.Settled State.Shows State.Calm); decide +kernel)

/-- Meets the hypotheses of `Obligations.TwAttention`, clause by clause. -/
theorem witness_TwAttention :
    (let s : State := (on1 [(F.TW_STATUS_ATTN_PENDING, 1), (F.TW_CFG_ATTN, 1)] State.reset.tw).shown;
      s.Settled ∧ s.dead = false ∧ s.pinLow = false ∧ 1000000 ≤ s.clock ∧ s.on F.TW_STATUS_ATTN_PENDING = true ∧ s.on F.TW_CFG_ATTN = true ∧ s.tw.opened = false ∧
        s.on F.TW_STATUS_SCL_LOW = false ∧ s.on F.TW_STATUS_SDA_LOW = false) ∧
    (let s : State := ({run [] with tw := ⟨false, false, false, false, 0, true, 0⟩}).shown;
      s.Settled ∧ s.dead = false ∧ s.tw.pulse = true) ∧
    (let s : State := (run [(F.TW_CFG_REPEAT, 1), (F.TW_CFG_ATTN, 1), (F.TW_ATTN_SRC_SOURCES, 1), (F.TW_ATTN_EN_ENABLE, 1)]).shown;
      s.Settled ∧ s.dead = false ∧ s.get F.TW_CFG_REPEAT ≠ 0 ∧ s.on F.TW_CFG_ATTN = true ∧ (s.get F.TW_ATTN_SRC_SOURCES &&& s.get F.TW_ATTN_EN_ENABLE) ≠ 0) ∧
    (let scl : Bool := true; let s : State := (run [(F.TW_STATUS_SCL_LOW, 1)]).shown;
      s.Settled ∧ s.dead = false ∧ s.on (if scl then F.TW_STATUS_SCL_LOW else F.TW_STATUS_SDA_LOW) = true) := by
  refine ⟨?_, ?_, ?_, ?_⟩ <;>
    ((try unfold State.Settled State.Shows State.Calm); decide +kernel)

/-- Meets the hypotheses of `Obligations.PowerAndPins`, clause by clause. -/
theorem witness_PowerAndPins :
    (let s : State := ({State.reset with dead := true}).shown;
      s.Settled ∧ s.dead = true) ∧
    (let s : State := (run []).shown;
      s.dead = false ∧ s.pinLow = false ∧ s.boot = none ∧ s.closing = false ∧ s.quaysStill = true) ∧
    (let s : State := ({run [] with pinLow := true}).shown;
      s.dead = false ∧ s.pinLow = true ∧ s.ranks 2 = true) ∧
    (let s : State := (run []).shown;
      s.Settled) := by
  refine ⟨?_, ?_, ?_, ?_⟩ <;>
    ((try unfold State.Settled State.Shows State.Calm); decide +kernel)

/-- Meets the hypotheses of `Obligations.ResetCommands`, clause by clause. -/
theorem witness_ResetCommands :
    (let s : State := (run []).shown;
      s.dead = false ∧ s.pinLow = false ∧ s.stage = none ∧ s.serving = true ∧ s.boot = none ∧ s.closing = false ∧ s.quaysStill = true) ∧
    (let s : State := ({run [] with boot := some ⟨3, 0, 6, 2, true, false⟩}).shown;
      s.dead = false ∧ s.pinLow = false ∧ s.stage = none ∧ s.ranks 2 = true) := by
  refine ⟨?_, ?_⟩ <;>
    decide +kernel

/-- Meets the hypotheses of `Obligations.Winding`, clause by clause. -/
theorem witness_Winding :
    (let s : State := (State.reset).shown; let b : Boot := (⟨1, 0, 1, 0, false, true⟩ : Boot);
      s.dead = false ∧ s.boot = some b ∧ b.ended = true ∧ s.pinLow = false) ∧
    (let s : State := ({at' .wind [] with wind := some ⟨0, true, 0, [fill 16 0, fill 16 0], [1], []⟩}).shown; let c : Nat := 1; let img : List Byte := [];
       let w : Wind := (⟨0, true, 0, [fill 16 0, fill 16 0], [1], []⟩ : Wind);
      s.dead = false ∧ s.wind = some w ∧ s.mode = .wind ∧ s.boot = none ∧ w.todo.head? = some c ∧ c < 2 ∧ img.length = imgD (w.headers.getD c []) 0x0C) := by
  refine ⟨?_, ?_⟩ <;>
    decide +kernel

/-- Meets the hypotheses of `Obligations.Regulating`, clause by clause. -/
theorem witness_Regulating :
    (let s : State := ({at' .regulate [(F.TB_MOV_STATUS_STATE 0, 3), (F.TB_MOV_STATUS_LOCKED 0, 1), (F.TB_MOV_STATUS_CARRYING 0, 1), (F.TB_MOV_STATUS_STATE 2, 3), (F.TB_MOV_STATUS_LOCKED 2, 1), (F.TB_MOV_STATUS_CARRYING 2, 1), (F.TB_REF_STATUS_REFIN_OK, 1)] with intakes := [(1, ⟨0, 0, none, 0, 0, 0, 256, false, false⟩), (2, ⟨0, 0, none, 0, 0, 0, 0, false, true⟩)]}).shown;
      s.dead = false ∧ s.mode = .regulate ∧ s.boot = none ∧ s.sweeping = none ∧ s.allLocked = true ∧ s.on F.GLB_MODE_SURVEY_DEFERRED = false ∧
        s.on F.TB_REF_STATUS_REFIN_OK = true ∧ s.allRefin = true) ∧
    (let ms : Nat := 3000;
       let s : State := ({at' .regulate [(F.TB_MOV_STATUS_STATE 0, 3), (F.TB_MOV_STATUS_LOCKED 0, 1), (F.TB_MOV_STATUS_CARRYING 0, 1), (F.TB_MOV_STATUS_STATE 2, 3), (F.TB_MOV_STATUS_LOCKED 2, 1), (F.TB_MOV_STATUS_CARRYING 2, 1), (F.TB_REF_STATUS_TCXO_OK, 1)] with intakes := [(1, ⟨0, 0, none, 0, 0, 0, 256, false, false⟩), (2, ⟨0, 0, none, 0, 0, 0, 0, false, true⟩)]}).shown;
      s.dead = false ∧ s.mode = .regulate ∧ s.boot = none ∧ s.sweeping = none ∧ s.allLocked = true ∧ s.on F.GLB_MODE_SURVEY_DEFERRED = false ∧
        s.on F.TB_REF_STATUS_REFIN_OK = false ∧ s.on F.TB_REF_STATUS_TCXO_OK = true ∧ 3000 ≤ ms) ∧
    (let s : State := (at' .regulate []).shown;
      s.dead = false ∧ s.mode = .regulate ∧ s.boot = none ∧ s.on F.TB_REF_STATUS_REFIN_OK = false ∧ s.on F.TB_REF_STATUS_TCXO_OK = false) ∧
    (let p := 1; let s : State := (at' .regulate [(F.TB_REF_STATUS_REFIN_OK, 1)]).shown;
      s.dead = false ∧ s.mode = .regulate ∧ s.boot = none ∧ p < 2 ∧ (s.on F.TB_REF_STATUS_REFIN_OK || s.on F.TB_REF_STATUS_TCXO_OK) = true ∧
        s.locked (2 * p) = false ∧ s.locked (2 * p + 1) = false) ∧
    (let k : Nat := 1; let c : Nat := 51;
       let s : State := ({at' .regulate [] with intakes := [(1, ⟨0, 0, none, 0, 0, 0, 0, false, true⟩), (2, ⟨0, 0, none, 0, 0, 0, 51, false, false⟩)]}).shown;
      s.dead = false ∧ s.mode = .regulate ∧ s.boot = none ∧ k < 2 ∧ s.sweeping = some (k + 1) ∧ (s.intake (k + 1)).captures = c ∧ c < sweepLength) ∧
    (let k : Nat := 1; let s : State := ({at' .regulate [] with repeats := 15, intakes := [(1, ⟨0, 0, none, 0, 0, 0, 0, false, true⟩)]}).shown;
      s.dead = false ∧ s.mode = .regulate ∧ s.boot = none ∧ k < 2 ∧ s.sweeping = some (k + 1) ∧ (s.intake (k + 1)).again = false ∧ s.repeats < 16 ∧ s.Settled) := by
  refine ⟨?_, ?_, ?_, ?_, ?_, ?_⟩ <;>
    ((try unfold State.Settled State.Shows State.Calm); decide +kernel)

/-- Meets the hypotheses of `Obligations.Surveying`, clause by clause. -/
theorem witness_Surveying :
    (let s : State := (run []).shown;
      s.dead = false ∧ s.boot = none ∧ s.mode = .run ∧ s.pinLow = false ∧ s.stage = none) ∧
    (let s : State := ({run [(F.GLB_SURVEY_AT_SECONDS, 5)] with sec := 5}).shown;
      s.dead = false ∧ s.boot = none ∧ s.mode = .run ∧ s.get F.GLB_SURVEY_AT_SECONDS ≠ 0 ∧ s.get F.GLB_SURVEY_AT_SECONDS ≤ s.sec) ∧
    (let s : State := (at' .survey []).shown;
      s.dead = false ∧ s.boot = none ∧ s.mode = .survey ∧ s.on F.GLB_MODE_SURVEY_DEFERRED = false ∧ s.pinLow = false ∧ s.stage = none) ∧
    (let s : State := (at' .survey []).shown;
      s.dead = false ∧ s.boot = none ∧ s.mode = .survey ∧ s.on F.GLB_MODE_SURVEY_DEFERRED = false) ∧
    (let s : State := ({at' .drift [(F.GLB_SURVEY_AT_SECONDS, 5)] with sec := 5}).shown;
      s.dead = false ∧ s.boot = none ∧ s.Settled ∧ s.mode ≠ .run ∧ s.get F.GLB_SURVEY_AT_SECONDS ≠ 0 ∧ s.get F.GLB_SURVEY_AT_SECONDS ≤ s.sec) ∧
    (let s : State := ({run [] with sec := 5, stage := some ⟨0x10, [(1, 0), (0, 6)]⟩} : State).shown; let v := 6 + 65536 * 0 + 2 ^ 32 * bits (0#16).toNat 0 2;
       s.Settled ∧ s.dead = false ∧ s.boot = none ∧ s.pinLow = false ∧ s.serving = true ∧ s.stage = some ⟨0x10, [(1, (0#16).toNat), (0, (6#16).toNat)]⟩ ∧
       (v = 0 ∨ s.sec < v)) ∧
    (let s : State := (at' .wind []).shown;
      s.dead = false ∧ s.boot = none ∧ s.Settled ∧ s.mode ≠ .anchor ∧ s.pinLow = false ∧ s.stage = none) := by
  refine ⟨?_, ?_, ?_, ?_, ?_, ?_, ?_⟩ <;>
    ((try unfold State.Settled State.Shows State.Calm); decide +kernel)

/-- Meets the hypotheses of `Obligations.Anchoring`, clause by clause. -/
theorem witness_Anchoring :
    (let s : State := (at' .wind []).shown;
      s.dead = false ∧ s.boot = none ∧ s.mode ≠ .anchor ∧ s.pinLow = false ∧ s.stage = none) ∧
    (let s : State := (run [(F.BOND_CTRL_TAMPER_EN, 1)]).shown; s.dead = false ∧ s.on F.BOND_CTRL_TAMPER_EN = true) := by
  refine ⟨?_, ?_⟩ <;>
    decide +kernel

/-- Meets the hypotheses of `Obligations.References`, clause by clause. -/
theorem witness_References :
    (let s : State := (run [(F.TB_REF_STATUS_REFIN_OK, 1), (F.TB_REF_STATUS_TCXO_OK, 1)]).shown;
      s.Settled ∧ s.dead = false ∧ s.mode = .run ∧ s.boot = none ∧ s.on F.TB_REF_STATUS_REFIN_OK = true ∧ s.on F.TB_REF_STATUS_TCXO_OK = true) ∧
    (let s : State := (run [(F.TB_REF_STATUS_REFIN_OK, 1)]).shown;
      s.Settled ∧ s.dead = false ∧ s.mode = .run ∧ s.boot = none ∧ s.on F.TB_REF_STATUS_REFIN_OK = true ∧ s.on F.TB_REF_STATUS_TCXO_OK = false) ∧
    (let s : State := (run [(F.TB_REF_STATUS_TCXO_OK, 1)]).shown;
      s.Settled ∧ s.dead = false ∧ s.mode ≠ .drift ∧ s.on F.TB_REF_STATUS_TCXO_OK = true) ∧
    (let s : State := (run [(F.TB_REF_STATUS_REFIN_OK, 1), (F.TB_REF_STATUS_TCXO_OK, 1), (F.TB_REF_CFG_TCXO_FITTED, 1)]).shown; let r : Nat := 1000010;
       let c : Nat := 3999920;
      s.Settled ∧ s.dead = false ∧ s.on F.TB_REF_CFG_REFIN_FREQ = false ∧ s.on F.TB_REF_STATUS_REFIN_OK = true ∧ s.on F.TB_REF_STATUS_TCXO_OK = true ∧
        s.on F.TB_REF_CFG_TCXO_FITTED = true ∧ 999990 ≤ r ∧ r ≤ 1000010 ∧ 3999920 ≤ c ∧ c ≤ 4000080) ∧
    (let s : State := (run [(F.TB_REF_STATUS_REFIN_OK, 1), (F.TB_REF_STATUS_TCXO_OK, 1)]).shown;
      s.Settled ∧ s.dead = false ∧ s.on F.TB_REF_STATUS_REFIN_OK = true ∧ s.on F.TB_REF_STATUS_TCXO_OK = true) := by
  refine ⟨?_, ?_, ?_, ?_, ?_⟩ <;>
    ((try unfold State.Settled State.Shows State.Calm); decide +kernel)

/-- Meets the hypotheses of `Obligations.LockAndLoss`, clause by clause. -/
theorem witness_LockAndLoss :
    (let m : Nat := 3; let s : State := (run [(F.TB_MOV_STATUS_STATE 3, 1)]).shown; let counts : List Nat := List.replicate 7 0;
      s.Settled ∧ s.dead = false ∧ m < 4 ∧ s.get (F.TB_MOV_STATUS_STATE m) = 1 ∧ counts.length = 7) ∧
    (let m : Nat := 3; let s : State := (run [(F.TB_MOV_STATUS_STATE 3, 2)]).shown; let count : Nat := 1022;
      s.Settled ∧ s.dead = false ∧ m < 4 ∧ s.on (F.TB_MOV_STATUS_HOLDOVER m) = false ∧ s.get (F.TB_MOV_STATUS_STATE m) = 2 ∧ (count < 1023 ∨ 1025 < count)) ∧
    (let m : Nat := 3; let s : State := ((run [(F.TB_MOV_STATUS_STATE 3, 2)]).putMov 3 ⟨2, 0, 0, 0⟩).shown; let count : Nat := 1023;
      s.Settled ∧ s.dead = false ∧ m < 4 ∧ s.on (F.TB_MOV_STATUS_HOLDOVER m) = false ∧ s.get (F.TB_MOV_STATUS_STATE m) = 2 ∧ 1023 ≤ count ∧ count ≤ 1025 ∧
        (s.mov m).good < 3) ∧
    (let m : Nat := 3; let s : State := ((run [(F.TB_MOV_STATUS_STATE 3, 2)]).putMov 3 ⟨3, 0, 0, 0⟩).shown; let count : Nat := 1025;
      s.Settled ∧ s.dead = false ∧ m < 4 ∧ s.on (F.TB_MOV_STATUS_HOLDOVER m) = false ∧ s.get (F.TB_MOV_STATUS_STATE m) = 2 ∧ 1023 ≤ count ∧ count ≤ 1025 ∧
        (s.mov m).good = 3 ∧ (s.unit .movement m).testing = false ∧ (s.pair (pairOf m)).todo = [] ∧ s.mode ≠ .drift) ∧
    (let m : Nat := 3; let s : State := (run [(F.TB_MOV_STATUS_STATE 3, 3)]).shown; let count : Nat := 1026;
      s.Settled ∧ s.dead = false ∧ m < 4 ∧ s.on (F.TB_MOV_STATUS_HOLDOVER m) = false ∧ s.get (F.TB_MOV_STATUS_STATE m) = 3 ∧ (count < 1023 ∨ 1025 < count) ∧
        (s.mov m).bad = 0) ∧
    (let m : Nat := 3;
       let s : State := ((run [(F.TB_MOV_STATUS_STATE 3, 3), (F.TB_MOV_STATUS_LOCKED 3, 1), (F.TB_MOV_STATUS_LOCKED 2, 1)]).putMov 3 ⟨0, 1, 0, 0⟩).shown;
       let count : Nat := 1026;
      s.Settled ∧ s.dead = false ∧ m < 4 ∧ s.get (F.TB_MOV_STATUS_STATE m) = 3 ∧ (count < 1023 ∨ 1025 < count) ∧ (s.mov m).bad = 1 ∧
        s.on (F.TB_MOV_STATUS_HOLDOVER m) = false ∧ s.locked m = true ∧ s.movRetired m = false ∧ s.locked (twinOf m) = true) ∧
    (let m : Nat := 3; let s : State := (run [(F.TB_MOV_STATUS_STATE 3, 1)]).shown;
      s.Settled ∧ s.dead = false ∧ m < 4 ∧ (s.get (F.TB_MOV_STATUS_STATE m) = 1 ∨ s.get (F.TB_MOV_STATUS_STATE m) = 2) ∧ (s.unit .movement m).testing = false) ∧
    (let s : State := (run []).shown; let m : Nat := 3; let p : Nat := 1; let c0 : Nat := 200; let c1 : Nat := 0;
      s.Settled ∧ s.dead = false ∧ m < 4 ∧ p < 2 ∧ c0 ≤ c1 + 200 ∧ c1 ≤ c0 + 200) ∧
    (let s : State := (run ((List.range 4).map (fun m => (F.TB_MOV_STATUS_LOCKED m, 1)))).shown; let p := 1; let c := 201; s.Settled ∧ s.dead = false ∧ p < 2 ∧
       (∀ i < 2, s.locked (2 * p + i) = true ∧ s.movRetired (2 * p + i) = false ∧ s.on (F.TB_MOV_STATUS_HOLDOVER (2 * p + i)) = false ∧
       s.on (F.TB_MOV_STATUS_ON_TCXO (2 * p + i)) = false ∧ (s.mov (2 * p + i)).fam = 0) ∧ 201 ≤ c ∧ s.guardNominal (2 * p) % 10 = 0) := by
  refine ⟨?_, ?_, ?_, ?_, ?_, ?_, ?_, ?_, ?_⟩ <;>
    ((try unfold State.Settled State.Shows State.Calm); decide +kernel)

/-- Meets the hypotheses of `Obligations.PairCommands`, clause by clause. -/
theorem witness_PairCommands :
    (let p : Nat := 1; let m : Nat := 3;
       let s : State := ({(run [(F.TB_MOV_STATUS_LOCKED 3, 1), (F.TB_MOV_STATUS_CARRYING 2, 1)]).putPair 1 ⟨[.move 3], false, 0⟩ with trimming := [1]}).shown;
      s.dead = false ∧ p < 2 ∧ (m = 2 * p ∨ m = 2 * p + 1) ∧ s.trimming = [p] ∧ s.pilotWindow = false ∧ s.pair p = ⟨[.move m], false, 0⟩ ∧ s.locked m = true ∧
        s.carrier p = some (twinOf m) ∧ (s.mov 0).fam = 0 ∧ (s.mov 1).fam = 0 ∧ (s.mov 2).fam = 0 ∧ (s.mov 3).fam = 0) ∧
    (let w : Word := 1#16; let s : State := (run [(F.TB_MOV_STATUS_LOCKED 3, 1), (F.TB_MOV_STATUS_CARRYING 2, 1)]).shown;
      s.dead = false ∧ s.pinLow = false ∧ s.stage = none ∧ s.gated srcTwoWire 0x106 = false ∧ s.alone 1 = false ∧ (s.pair 1).fam < 2 ∧ (s.pair 1).todo = [] ∧
        s.carrier 1 = some 2 ∧ s.locked 3 = true ∧ s.get F.TB_AUDIO_CFG_FAMILY ≠ bits w.toNat 0 1) ∧
    (let m : Nat := 3; let s : State := (run [(F.TB_MOV_STATUS_LOCKED 3, 1), (F.TB_MOV_STATUS_LOCKED 2, 1), (F.TB_MOV_STATUS_CARRYING 2, 1)]).shown;
      s.dead = false ∧ m < 4 ∧ s.pinLow = false ∧ s.stage = none ∧ s.gated srcTwoWire 0x105 = false ∧ s.serving = true ∧ s.locked (twinOf m) = true ∧
        s.alone (pairOf m) = false ∧ (s.pair (pairOf m)).todo = [] ∧ s.trimming = [] ∧ s.locked m = true ∧ s.carrier (pairOf m) = some (twinOf m)) ∧
    (let m : Nat := 3; let s : State := (run [(F.TB_MOV_STATUS_LOCKED 3, 1), (F.TB_MOV_STATUS_LOCKED 2, 1), (F.TB_MOV_STATUS_CARRYING 3, 1)]).shown;
      s.dead = false ∧ m < 4 ∧ s.pinLow = false ∧ s.stage = none ∧ s.gated srcTwoWire 0x105 = false ∧ s.serving = true ∧ s.locked (twinOf m) = true ∧
        s.alone (pairOf m) = false ∧ (s.pair (pairOf m)).todo = [] ∧ s.trimming = [] ∧ s.locked m = true ∧ s.carrier (pairOf m) = some m) := by
  refine ⟨?_, ?_, ?_, ?_⟩ <;>
    decide +kernel

/-- Meets the hypotheses of `Obligations.TimeKeeping`, clause by clause. -/
theorem witness_TimeKeeping :
    (let s : State := (run [(F.TB_PPS_STATUS_QUALIFIED, 1)]).shown; let err : Int := -10000000;
      s.Settled ∧ s.dead = false ∧ s.on F.TB_PPS_STATUS_QUALIFIED = true ∧ s.ppsStep = false ∧ err.natAbs ≤ 10000000 ∧ s.timeSet = none) ∧
    (let s : State := (run [(F.TB_PPS_STATUS_QUALIFIED, 1)]).shown; let err : Int := 10000001;
      s.Settled ∧ s.dead = false ∧ s.on F.TB_PPS_STATUS_QUALIFIED = true ∧ s.ppsStep = false ∧ 10000000 < err.natAbs) ∧
    (let s : State := (run []).shown; let gap : Int := -1001;
      s.Settled ∧ s.dead = false ∧ s.on F.TB_PPS_STATUS_QUALIFIED = false ∧ 1000 < gap.natAbs) ∧
    (let gap : Int := 1000; let s : State := ({run [] with ppsGood := 1}).shown;
      s.Settled ∧ s.dead = false ∧ s.on F.TB_PPS_STATUS_QUALIFIED = false ∧ gap.natAbs ≤ 1000 ∧ s.ppsGood < 2) ∧
    (let gap : Int := -1000; let err : Int := 1000000000; let s : State := ({run [] with ppsGood := 2}).shown;
      s.Settled ∧ s.dead = false ∧ s.on F.TB_PPS_STATUS_QUALIFIED = false ∧ gap.natAbs ≤ 1000 ∧ 2 ≤ s.ppsGood ∧ err.natAbs ≤ 1000000000) ∧
    (let s : State := (run [(F.TB_PPS_STATUS_QUALIFIED, 1)]).shown;
      s.Settled ∧ s.dead = false ∧ s.on F.TB_PPS_STATUS_QUALIFIED = true) ∧
    (let s : State := ({run [] with stage := some ⟨0x154, [(1, 0), (0, 0xFFFF)]⟩} : State).shown; s.Settled ∧ s.dead = false ∧ s.pinLow = false ∧ s.serving = true ∧
       s.stage = some ⟨0x154, [(1, (0#16).toNat), (0, (0xFFFF#16).toNat)]⟩) ∧
    (let v : Nat := 2 ^ 34 - 1; let s : State := ({run [] with timeSet := some (2 ^ 34 - 1)}).shown;
      s.Settled ∧ s.dead = false ∧ s.timeSet = some v ∧ s.on F.TB_PPS_STATUS_QUALIFIED = false) := by
  refine ⟨?_, ?_, ?_, ?_, ?_, ?_, ?_, ?_⟩ <;>
    ((try unfold State.Settled State.Shows State.Calm); decide +kernel)

/-- Meets the hypotheses of `Obligations.IntakeBlocks`, clause by clause. -/
theorem witness_IntakeBlocks :
    (let pops : Nat := 0; let fault : Nat := 0; let k : Nat := 2; let xs : List (BitVec 14) := (List.range 256).map (BitVec.ofNat 14);
       let s : State := (run [(F.INT_STATUS_RUNNING 2, 1), (F.INT_CFG_AGC_MODE 2, 2), (F.INT_CFG_MAN_GAIN 2, 47)]).shown;
      s.Settled ∧ s.dead = false ∧ (k = 1 ∨ k = 2) ∧ s.on (F.INT_STATUS_RUNNING k) = true ∧ s.on F.PLT_CTRL_RUN = false ∧ xs.length = 256 ∧ s.agcMode k = 2 ∧
        s.on (F.INT_STATUS_AGC_HELD k) = false ∧ s.get (F.INT_CFG_MAN_GAIN k) < 48 ∧ s.get (F.INT_CFG_MAN_GAIN k) ≠ s.get (F.INT_GAIN_STATE k) ∧
        blockCheck (xs.map BitVec.toInt) fault = 0 ∧ (xs.map BitVec.toInt).any fullCode = false ∧ s.chanFill k < 16 ∧ s.injStall = [] ∧ pops = 0 ∧
        (s.intake k).missing = 0) ∧
    (let pops : Nat := 0; let fault : Nat := 0; let k : Nat := 2; let xs : List (BitVec 14) := List.replicate 256 0;
       let s : State := (run [(F.INT_STATUS_RUNNING 2, 1)]).shown;
      s.Settled ∧ s.dead = false ∧ (k = 1 ∨ k = 2) ∧ s.on (F.INT_STATUS_RUNNING k) = true ∧ s.on F.PLT_CTRL_RUN = false ∧ xs.length = 256 ∧
        blockCheck (xs.map BitVec.toInt) fault ∈ [1, 2, 3, 4, 5] ∧ s.isRetired .intake k = false ∧ (s.unit .intake k).testing = false ∧ pops = 0 ∧
        s.chanFill k < 16 ∧ s.injStall = []) ∧
    (let pops : Nat := 0; let k : Nat := 2; let xs : List (BitVec 14) := (List.range 256).map (BitVec.ofNat 14);
       let s : State := ((run [(F.INT_STATUS_RUNNING 2,
       1)]).putBank 2 { Chan.reset with fifo := List.replicate 16 ⟨[], 0, 0, false, false, false, false, false, 0, [], 0⟩ }).shown;
      s.Settled ∧ s.dead = false ∧ (k = 1 ∨ k = 2) ∧ s.on (F.INT_STATUS_RUNNING k) = true ∧ s.on F.PLT_CTRL_RUN = false ∧ xs.length = 256 ∧ s.chanFill k = 16 ∧
        pops = 0) ∧
    (let k : Nat := 2; let xs : List (BitVec 14) := (List.range 256).map (BitVec.ofNat 14); let s : State := (run [(F.INT_STATUS_RUNNING 2, 1)]).shown;
      s.Settled ∧ s.dead = false ∧ (k = 1 ∨ k = 2) ∧ s.on (F.INT_STATUS_RUNNING k) = true ∧ s.on F.PLT_CTRL_RUN = false ∧ xs.length = 256) ∧
    (let k : Nat := 2; let s : State := (run [(F.INT_STATUS_RUNNING 2, 1), (F.INT_CFG_AGC_TARGET 2, 0)]).shown; let level : Int := -599;
      s.Settled ∧ s.dead = false ∧ (k = 1 ∨ k = 2) ∧ s.on (F.INT_STATUS_RUNNING k) = true ∧ s.on F.PLT_CTRL_RUN = false ∧ s.on (F.INT_STATUS_AGC_HELD k) = false ∧
        s.agcMode k = 0 ∧ -900 - 100 * (s.get (F.INT_CFG_AGC_TARGET k) : Int) + 300 < level ∧ level ≤ 0 ∧ (s.intake k).next = none) ∧
    (let k : Nat := 2; let s : State := ({run [(F.INT_STATUS_RUNNING 2, 1), (F.INT_STATUS_AGC_HELD 2, 1)] with pilotWindow := true}).shown;
      s.Settled ∧ s.dead = false ∧ (k = 1 ∨ k = 2) ∧ s.on (F.INT_STATUS_RUNNING k) = true ∧ s.on F.PLT_CTRL_RUN = false ∧ s.on (F.INT_STATUS_AGC_HELD k) = true) ∧
    (let k : Nat := 2; let s : State := ({run [(F.INT_STATUS_RUNNING 2, 1)] with intakes := [(2, ⟨0, 0, some 3, 0, 0, 0, 0, false, false⟩)]}).shown;
       let level : Int := 0;
      s.Settled ∧ s.dead = false ∧ (k = 1 ∨ k = 2) ∧ s.on (F.INT_STATUS_RUNNING k) = true ∧ s.on F.PLT_CTRL_RUN = false ∧ s.on (F.INT_STATUS_AGC_HELD k) = false ∧
        s.agcMode k = 0 ∧ level ≤ 0 ∧ (s.intake k).next.isSome = true) ∧
    (let k : Nat := 2; let s : State := (run [(F.INT_STATUS_RUNNING 2, 1), (F.INT_GAIN_STATE 2, 32), (F.INT_LEVEL_ADC_LEVEL 2, 65536 - 6001)]).shown;
      s.Settled ∧ s.dead = false ∧ (k = 1 ∨ k = 2) ∧ s.on (F.INT_STATUS_RUNNING k) = true ∧ s.on F.PLT_CTRL_RUN = false ∧ s.net k = 24 ∧
        sext 16 (s.get (F.INT_LEVEL_ADC_LEVEL k)) < -6000) ∧
    (let k : Nat := 2; let s : State := ((run [(F.INT_STATUS_RUNNING 2, 1)]).putUnit .intake 2 ⟨true, 0x101, false, 0, [], false⟩).shown;
      s.Settled ∧ s.dead = false ∧ (k = 1 ∨ k = 2) ∧ s.on (F.INT_STATUS_RUNNING k) = true ∧ s.on F.PLT_CTRL_RUN = false ∧ (s.unit .intake k).testing = true ∧
        (s.unit .intake k).past = [] ∧ s.inj = none) ∧
    (let k : Nat := 2; let s : State := ((run [(F.INT_STATUS_RUNNING 2, 1)]).putUnit .intake 2 ⟨true, 0x101, false, 0, [], false⟩).shown;
      s.Settled ∧ s.dead = false ∧ (k = 1 ∨ k = 2) ∧ s.on (F.INT_STATUS_RUNNING k) = true ∧ s.on F.PLT_CTRL_RUN = false ∧ (s.unit .intake k).testing = true ∧
        (s.unit .intake k).past = [] ∧ s.inj = none ∧ (s.unit .intake k).runs = 0) ∧
    (let k : Nat := 2; let s : State := ((run [(F.INT_STATUS_RUNNING 2, 1)]).putUnit .intake 2 ⟨true, 0x101, false, 1, [], false⟩).shown;
      s.Settled ∧ s.dead = false ∧ (k = 1 ∨ k = 2) ∧ s.on (F.INT_STATUS_RUNNING k) = true ∧ s.on F.PLT_CTRL_RUN = false ∧ (s.unit .intake k).testing = true ∧
        (s.unit .intake k).past = [] ∧ s.inj = none ∧ (s.unit .intake k).runs = 1) := by
  refine ⟨?_, ?_, ?_, ?_, ?_, ?_, ?_, ?_, ?_, ?_, ?_⟩ <;>
    ((try unfold State.Settled State.Shows State.Calm); decide +kernel)

/-- Meets the hypotheses of `Obligations.Calibration`, clause by clause. -/
theorem witness_Calibration :
    (let s : State := (run []).shown; let v : Nat := 12625;
      s.Settled ∧ s.dead = false ∧ 12375 ≤ v ∧ v ≤ 12625) ∧
    (let s : State := (run []).shown; let v : Nat := 12626;
      s.Settled ∧ s.dead = false ∧ (v < 12375 ∨ 12625 < v)) ∧
    (let k : Nat := 2; let s : State := (run [(F.INT_STATUS_RUNNING 2, 1)]).shown; let quiet : List Nat := [204]; let b : Nat := 204;
      s.Settled ∧ s.dead = false ∧ (k = 1 ∨ k = 2) ∧ s.serving = true ∧ s.on (F.INT_STATUS_RUNNING k) = true ∧ s.pilotWindow = false ∧ (s.intake k).gainAt = 0 ∧
        s.visiting = [] ∧ (∀ l < 104, s.lane l ≠ .testing) ∧ (s.setQuiet (Tbl.set (fun _ => []) s.quiet k quiet)).nextFree k (s.get (calLastBin k)) = some b) ∧
    (let k : Nat := 2; let s : State := ({run [] with visiting := [2]}).shown;
      s.Settled ∧ s.dead = false ∧ (k = 1 ∨ k = 2) ∧ s.serving = true ∧ s.visiting = [k]) ∧
    (let k : Nat := 2; let s : State := (run []).shown;
      s.Settled ∧ s.dead = false ∧ (k = 1 ∨ k = 2) ∧ s.serving = true ∧ s.domOn (1 + k) = true ∧ s.visiting.contains k = false) := by
  refine ⟨?_, ?_, ?_, ?_, ?_⟩ <;>
    ((try unfold State.Settled State.Shows State.Calm); decide +kernel)

/-- Meets the hypotheses of `Obligations.Feeds`, clause by clause. -/
theorem witness_Feeds :
    (let k : Nat := 2; let w : Word := 0x80FA#16; let s : State := (run [(F.FEED_CFG_SENSE_MOHM 2, 250)]).shown;
      s.Settled ∧ s.dead = false ∧ (k = 1 ∨ k = 2) ∧ s.serving = true ∧ s.pinLow = false ∧ s.stage = none ∧ bits w.toNat 15 1 = 1 ∧ 10 ≤ bits w.toNat 0 8 ∧
        bits w.toNat 0 8 ≤ 250 ∧ s.get (F.FEED_CFG_SENSE_MOHM k) = bits w.toNat 0 8 ∧ s.get (F.FEED_CFG_ENABLE k) = 0 ∧ s.on (F.FEED_STATUS_COOLING k) = false) ∧
    (let k : Nat := 2; let s : State := (run []).shown;
      s.Settled ∧ s.dead = false ∧ (k = 1 ∨ k = 2)) ∧
    (let k : Nat := 2; let s : State := (run [(F.FEED_STATUS_ON 2, 1), (F.FEED_CFG_AUTO_RETRY 2, 1)]).shown;
      s.Settled ∧ s.dead = false ∧ (k = 1 ∨ k = 2) ∧ s.on (F.FEED_STATUS_ON k) = true ∧ s.on (F.FEED_CFG_AUTO_RETRY k) = true) ∧
    (let k : Nat := 2; let ma : Nat := 65535; let us : Nat := 10000000; let s : State := (run [(F.FEED_STATUS_ON 2, 1), (F.FEED_CFG_AUTO_RETRY 2, 1)]).shown;
      s.Settled ∧ s.dead = false ∧ (k = 1 ∨ k = 2) ∧ s.on (F.FEED_STATUS_ON k) = true ∧ s.on (F.FEED_CFG_AUTO_RETRY k) = true ∧
        100000000 * s.get (F.FEED_I2T_BUDGET k) < ((s.heat k : Int) + ((ma * ma : Nat) - (s.get (F.FEED_TRIP_I_CONT k) * s.get (F.FEED_TRIP_I_CONT k) : Nat) : Int) * us).toNat) ∧
    (let us : Nat := 0; let ma : Nat := 0; let k : Nat := 2; let s : State := (run []).shown;
      s.Settled ∧ s.dead = false ∧ (k = 1 ∨ k = 2) ∧
        ((s.heat k : Int) + ((ma * ma : Nat) - (s.get (F.FEED_TRIP_I_CONT k) * s.get (F.FEED_TRIP_I_CONT k) : Nat) : Int) * us).toNat ≤ 100000000 * s.get (F.FEED_I2T_BUDGET k)) ∧
    (let k : Nat := 2; let s : State := (run [(F.FEED_STATUS_COOLING 2, 1)]).shown;
      s.Settled ∧ s.dead = false ∧ (k = 1 ∨ k = 2) ∧ s.on (F.FEED_STATUS_COOLING k) = true) ∧
    (let k : Nat := 2; let ma : Nat := 65535; let s : State := (run []).shown;
      s.Settled ∧ s.dead = false ∧ (k = 1 ∨ k = 2) ∧ s.on (F.FEED_STATUS_ON k) = false ∧ max 100 (s.get (F.FEED_TRIP_I_CONT k)) < 10 * ma) ∧
    (let k : Nat := 2; let ma : Nat := 10; let s : State := (run []).shown;
      s.Settled ∧ s.dead = false ∧ (k = 1 ∨ k = 2) ∧ s.on (F.FEED_STATUS_ON k) = false ∧ 10 * ma ≤ max 100 (s.get (F.FEED_TRIP_I_CONT k))) := by
  refine ⟨?_, ?_, ?_, ?_, ?_, ?_, ?_, ?_⟩ <;>
    ((try unfold State.Settled State.Shows State.Calm); decide +kernel)

/-- Meets the hypotheses of `Obligations.LaneWork`, clause by clause. -/
theorem witness_LaneWork :
    (let n : Nat := 95; let s : State := (run [(F.LN_CTRL_RUN 95, 1), (F.LN_RS_L_L 95, 2), (F.LN_RS_M_M 95, 2)]).shown;
      s.Settled ∧ s.dead = false ∧ n < 96 ∧ s.on (F.LN_CTRL_RUN n) = true ∧ s.on (F.LN_CTRL_STOPPED n) = true ∧ s.domOn 4 = true ∧ s.serving = true ∧
        s.ratioOk n = true ∧ s.shadow = []) ∧
    (let n : Nat := 95; let s : State := ({run [] with shadow := [⟨laneCommit 95, F.LN_CTRL_RUN 95, 0, true⟩]}).shown;
      s.Settled ∧ s.dead = false ∧ n < 96 ∧ s.shadow = [⟨laneCommit n, F.LN_CTRL_RUN n, 0, true⟩]) ∧
    (let n : Nat := 95; let a : Word := 0#16; let b : Word := 0#16; let c : Word := 0#16; let d : Word := 0#16; let e : Word := 0#16;
       let s : State := ({run [] with stage := some ⟨0x20, [(4, 0), (3, 0), (2, 0), (1, 0), (0, 0)]⟩}).shown;
      s.Settled ∧ s.dead = false ∧ n < 96 ∧ s.serving = true ∧ s.pinLow = false ∧
        s.stage = some ⟨0x20, [(4, e.toNat), (3, d.toNat), (2, c.toNat), (1, b.toNat), (0, a.toNat)]⟩) ∧
    (let n : Nat := 95; let s : State := (run []).shown;
      s.Settled ∧ s.dead = false ∧ n < 96) ∧
    (let n : Nat := 95; let s : State := (run [(F.LN_CTRL_STOPPED 95, 0), (F.LN_STATUS_VALID1 95, 1)]).shown;
      s.Settled ∧ s.dead = false ∧ n < 96 ∧ s.laneRuns n = true ∧ s.fed n = true ∧ s.pilotWindow = false) ∧
    (let n : Nat := 95; let s : State := ((run [(F.LN_CTRL_STOPPED 95, 0)]).putDetDone 95 { Det.reset with count := 16, ignored := 8, peak := 4, sum := 64 }).shown;
      s.Settled ∧ s.dead = false ∧ n < 96 ∧ s.laneRuns n = true ∧ (s.detDone n).count ≠ 0 ∧ 2 * (s.detDone n).ignored ≤ (s.detDone n).count) ∧
    (let n : Nat := 95; let s : State := ((run [(F.LN_CTRL_STOPPED 95, 0)]).putDetDone 95 { Det.reset with count := 16, ignored := 9 }).shown;
      s.Settled ∧ s.dead = false ∧ n < 96 ∧ s.laneRuns n = true ∧ (s.detDone n).count ≠ 0 ∧ (s.detDone n).count < 2 * (s.detDone n).ignored) := by
  refine ⟨?_, ?_, ?_, ?_, ?_, ?_, ?_⟩ <;>
    ((try unfold State.Settled State.Shows State.Calm); decide +kernel)

/-- Meets the hypotheses of `Obligations.LaneFaults`, clause by clause. -/
theorem witness_LaneFaults :
    (let l : Nat := 95; let n : Nat := 95; let s : State := (run []).shown; let x : Nat := 96;
      s.Settled ∧ s.dead = false ∧ l < 104 ∧ n < 96 ∧ s.lane l = .carries n ∧ s.get (F.LN_PHYS_TAKEOVER n) = 0 ∧ s.takeSpare = some x) ∧
    (let l : Nat := 95; let n : Nat := 95; let s : State := ({run [] with lanes := (List.range 8).map (fun i => (96 + i, LaneRole.retired))}).shown;
      s.Settled ∧ s.dead = false ∧ l < 104 ∧ n < 96 ∧ s.lane l = .carries n ∧ s.get (F.LN_PHYS_TAKEOVER n) = 0 ∧ s.takeSpare = none) ∧
    (let l : Nat := 103; let s : State := (run []).shown;
      s.Settled ∧ s.dead = false ∧ l < 104 ∧ s.lane l = .spare) ∧
    (let n : Nat := 95; let l : Nat := 103; let s : State := (run [(F.LN_CTRL_STOPPED 95, 0)]).shown;
      s.Settled ∧ s.dead = false ∧ l < 104 ∧ s.lane l = .spare ∧ s.domOn 4 = true ∧ s.patrolNext s.patrolAt = some n) ∧
    (let n : Nat := 95; let l : Nat := 103; let s : State := ((run []).putLane 103 (.patrols 95)).shown;
      s.Settled ∧ s.dead = false ∧ l < 104 ∧ n < 96 ∧ s.lane l = .patrols n) ∧
    (let n : Nat := 95; let l : Nat := 103; let s : State := ((run []).putLane 103 (.patrols 95)).shown;
      s.Settled ∧ s.dead = false ∧ l < 104 ∧ n < 96 ∧ s.lane l = .patrols n ∧ s.inj = none ∧ s.get (F.LN_PHYS_TAKEOVER n) = 0) ∧
    (let n : Nat := 95; let l : Nat := 103; let s : State := ((run []).putLane 103 (.takes 95)).shown;
      s.Settled ∧ s.dead = false ∧ l < 104 ∧ n < 96 ∧ (List.range 104).find? (fun x => s.lane x == .takes n && s.takerSettled n x) = some l ∧
        s.get (F.LN_PHYS_LANE n) ≠ l ∧ s.get (F.LN_PHYS_LANE n) < 104) ∧
    (let l : Nat := 103; let s : State := ((run []).putUnit .lane 103 ⟨true, 0x301, false, 0, [], false⟩).shown;
      s.Settled ∧ s.dead = false ∧ l < 104 ∧ (s.unit .lane l).testing = true ∧ (s.unit .lane l).past = [] ∧ s.inj = none ∧ s.words = []) ∧
    (let l : Nat := 103; let s : State := ((run []).putUnit .lane 103 ⟨true, 0x301, false, 1, [], false⟩).shown;
      s.Settled ∧ s.dead = false ∧ l < 104 ∧ (s.unit .lane l).testing = true ∧ (s.unit .lane l).past = [] ∧ s.inj = none ∧ s.words = [] ∧
        (s.unit .lane l).runs = 1) := by
  refine ⟨?_, ?_, ?_, ?_, ?_, ?_, ?_, ?_, ?_⟩ <;>
    ((try unfold State.Settled State.Shows State.Calm); decide +kernel)

/-- Meets the hypotheses of `Obligations.BerthStarts`, clause by clause. -/
theorem witness_BerthStarts :
    (let n : Nat := 95; let w : Word := 0x8200#16;
       let s : State := (manned (run [(F.BTH_CTRL_STANDARD 95, 2), (F.LN_CTRL_GROUP_SIZE 95, 1), (F.LN_FIR_DECIM 95, 1), (F.LN_RS_L_L 95, 256), (F.LN_RS_M_M 95,
       9375)])).shown;
      s.Settled ∧ s.dead = false ∧ n < 96 ∧ s.serving = true ∧ s.pinLow = false ∧ s.stage = none ∧ s.shadow = [] ∧ s.on (fGroup (berthCommit n)) = false ∧
        bits w.toNat 15 1 = 1 ∧ bits w.toNat 8 4 = s.std n ∧ s.get (F.BTH_CTRL_RUN n) = 0 ∧ s.get (F.BTH_CTRL_STOPPED n) = 1 ∧ s.admissible n = true ∧
        s.slotClash s n = false ∧ s.dgReserved n = false ∧ s.std n ≤ 8) ∧
    (let n : Nat := 95; let w : Word := 0x0800#16; let s : State := (run []).shown;
      s.Settled ∧ s.dead = false ∧ n < 96 ∧ s.serving = true ∧ s.pinLow = false ∧ s.stage = none ∧ s.shadow = [] ∧ s.on (fGroup (berthCommit n)) = false ∧
        bits w.toNat 15 1 = 0 ∧ bits w.toNat 8 4 ≠ s.std n ∧ bits w.toNat 8 4 ≤ 8 ∧ s.get (F.BTH_CTRL_RUN n) = 0 ∧ s.get (F.BTH_CTRL_STOPPED n) = 1 ∧
        s.slotsOf n = [] ∧ s.dgReserved n = false ∧ (s.berth n).survey = false) ∧
    (let n : Nat := 95; let s : State := ({run [(F.BTH_CTRL_STOPPED 95, 0)] with shadow := [⟨berthCommit 95, F.BTH_CTRL_RUN 95, 0, true⟩]}).shown;
      s.Settled ∧ s.dead = false ∧ n < 96 ∧ s.get (F.BTH_CTRL_STOPPED n) = 0 ∧ s.shadow = [⟨berthCommit n, F.BTH_CTRL_RUN n, 0, true⟩] ∧
        (s.berth n).shedding = false ∧ (s.berth n).survey = false) ∧
    (let n : Nat := 95; let s : State := ((run []).putBerth 95 { (run []).berth 95 with parked := true }).shown;
      s.Settled ∧ s.dead = false ∧ n < 96 ∧ (s.berth n).parked = true) := by
  refine ⟨?_, ?_, ?_, ?_⟩ <;>
    ((try unfold State.Settled State.Shows State.Calm); decide +kernel)

/-- Meets the hypotheses of `Obligations.Tickets`, clause by clause. -/
theorem witness_Tickets :
    (let n : Nat := 95; let cls : Nat := 4;
       let s : State := (run (atWork 2 95 ++ [(F.FM_SVC0_MODE 95, 1)] ++ (cranesOf 4).map (fun c => (F.CRN_STATUS_BUSY c, 1)))).shown;
      s.Settled ∧ s.dead = false ∧ n < 96 ∧ cls < 5 ∧ s.working n = true ∧ s.domOn 6 = true ∧ s.on (F.BTH_TICKET_IN_FLIGHT n) = false ∧ s.idleCrane cls = none ∧
        (∀ m ∈ s.queue cls, s.inputAt m ≤ s.clock) ∧ s.input n 0 = [] ∧ s.input n 1 = [] ∧ n ∉ s.queue cls ∧ s.reached n cls = true) ∧
    (let n : Nat := 95; let c : Nat := 32; let s : State := (run [(F.CRN_STATUS_BUSY 32, 1), (F.CRN_STATUS_BERTH 32, 95)]).shown;
      s.Settled ∧ s.dead = false ∧ n < 96 ∧ c < 33 ∧ s.on (F.CRN_STATUS_BUSY c) = true ∧ s.get (F.CRN_STATUS_BERTH c) = n ∧ (s.berth n).promoted = false ∧
        s.queue (classOf c) = [] ∧ s.handover = [] ∧ s.waiting n = [] ∧ s.shadow = [] ∧ (classOf c = 4 → s.fadeOf n = none ∧ s.blockInput n = none)) ∧
    (let n : Nat := 95; let c : Nat := 32; let s : State := (run (atWork 2 95 ++ [(F.CRN_STATUS_BUSY 32, 1), (F.CRN_STATUS_BERTH 32, 95)])).shown;
      s.Settled ∧ s.dead = false ∧ n < 96 ∧ c < 33 ∧ classOf c = 4 ∧ s.on (F.CRN_STATUS_BUSY c) = true ∧ s.get (F.CRN_STATUS_BERTH c) = n ∧ s.fadeOf n = none ∧
        s.queue 4 = [] ∧ s.handover = [] ∧ s.waiting n = [] ∧ s.shadow = [] ∧ (s.std n = 1 ∨ s.std n = 2)) ∧
    (let n : Nat := 95; let c : Nat := 32;
       let s : State := ((run (atWork 2 95 ++ [(F.CRN_STATUS_BUSY 32, 1), (F.CRN_STATUS_BERTH 32, 95), (F.BTH_TICKET_IN_FLIGHT 95, 1)])).putWaiting 95 [⟨false, 9,
       0, 0, [], false⟩]).shown;
      s.Settled ∧ s.dead = false ∧ n < 96 ∧ c < 33 ∧ s.on (F.CRN_STATUS_BUSY c) = true ∧ s.get (F.CRN_STATUS_BERTH c) = n ∧ (s.berth n).promoted = false ∧
        s.queue (classOf c) = [] ∧ s.handover = [] ∧ s.waiting n ≠ [] ∧ s.shadow = [] ∧ s.get (F.BTH_TICKET_IN_FLIGHT n) = 1) ∧
    (let n : Nat := 95; let s : State := ((run []).putBerth 95 { (run []).berth 95 with parked := true, finished := true }).shown;
      s.Settled ∧ s.dead = false ∧ n < 96 ∧ (s.berth n).parked = true ∧ s.waiting n = [] ∧ (s.std n = 8 → s.input n 0 = [] ∧ s.input n 1 = []) ∧
        (s.berth n).finished = true) ∧
    (let n : Nat := 95;
       let s : State := ((run ([(F.BTH_TICKET_CLASS 95, 4)] ++ (cranesOf 4).map (fun c => (F.CRN_STATUS_BUSY c,
       1)))).putBerth 95 { (run []).berth 95 with parked := true }).shown;
      s.Settled ∧ s.dead = false ∧ n < 96 ∧ (s.berth n).parked = true ∧ s.waiting n = [] ∧ (s.std n = 8 → s.input n 0 = [] ∧ s.input n 1 = []) ∧
        (s.berth n).finished = false ∧ s.charged n < s.get (F.HLD_CAP_CAP.ofHold n) ∧ s.idleCrane (s.get (F.BTH_TICKET_CLASS n)) = none) ∧
    (let n : Nat := 95; let c : Nat := 32; let content : Nat := 9; let seq : BitVec 32 := 0;
       let s : State := ((run []).putProd 95 ⟨0, 0, some (2 ^ 32 - 1), []⟩).shown; let payload : List Byte := fill 100 1;
      s.Settled ∧ s.dead = false ∧ n < 96 ∧ c < 33 ∧ s.waiting n = [] ∧ s.isOld n seq.toNat = false ∧ seq.toNat = s.expected n ∧ s.credit n payload = true ∧
        s.captureOf n content = none) ∧
    (let n : Nat := 95; let c : Nat := 32; let seq : BitVec 32 := 0; let s : State := ((run []).putProd 95 ⟨1, 0, some 0, []⟩).shown;
      s.Settled ∧ s.dead = false ∧ n < 96 ∧ c < 33 ∧ s.waiting n = [] ∧ s.isOld n seq.toNat = true ∧ (s.prod n).crcs.find? (·.1 == seq.toNat) = none) := by
  refine ⟨?_, ?_, ?_, ?_, ?_, ?_, ?_, ?_⟩ <;>
    ((try unfold State.Settled State.Shows State.Calm); decide +kernel)

/-- Meets the hypotheses of `Obligations.Cranes`, clause by clause. -/
theorem witness_Cranes :
    (let c : Nat := (cranesOf 4).headD 0; let p : Nat := (cranesOf 4).getLastD 0; let n : Nat := 95; let det : Nat := 0x0402;
       let s : State := (((run []).assignRoles 4).put (F.CRN_STATUS_BUSY ((cranesOf 4).headD 0)) 1 |>.put (F.CRN_STATUS_BERTH ((cranesOf 4).headD 0)) 95).shown;
      s.dead = false ∧ c < 33 ∧ s.domOn 5 = true ∧ s.get (F.CRN_STATUS_ROLE c) = roleWorking ∧ s.spareCrane (classOf c) = some p ∧ n < 96 ∧
        s.on (F.CRN_STATUS_BUSY c) = true ∧ s.get (F.CRN_STATUS_BERTH c) = n ∧ (det = 0x0401 ∨ det = 0x0402)) ∧
    (let c : Nat := (cranesOf 4).headD 0; let p : Nat := (cranesOf 4).getLastD 0; let n : Nat := 95;
       let s : State := (((run []).assignRoles 4).put (F.CRN_STATUS_BUSY ((cranesOf 4).headD 0)) 1 |>.put (F.CRN_STATUS_BERTH ((cranesOf 4).headD 0)) 95).shown;
      s.dead = false ∧ c < 33 ∧ s.domOn 5 = true ∧ s.get (F.CRN_STATUS_ROLE c) = roleWorking ∧ s.spareCrane (classOf c) = some p ∧ n < 96 ∧
        s.on (F.CRN_STATUS_BUSY c) = true ∧ s.get (F.CRN_STATUS_BERTH c) = n) ∧
    (let c : Nat := (cranesOf 4).headD 0; let p : Nat := (cranesOf 4).getLastD 0; let s : State := ((run []).assignRoles 4).shown;
      s.dead = false ∧ c < 33 ∧ s.domOn 5 = true ∧ s.get (F.CRN_STATUS_ROLE c) = roleWorking ∧ s.spareCrane (classOf c) = some p ∧ s.serving = true ∧
        s.pinLow = false ∧ s.stage = none ∧ s.on (F.CRN_STATUS_BUSY c) = false ∧ s.queue (classOf c) = [] ∧ s.handover = []) ∧
    (let c : Nat := (cranesOf 4).headD 0; let p : Nat := (cranesOf 4).getLastD 0;
       let s : State := (((run []).assignRoles 4).putUnit .crane ((cranesOf 4).getLastD 0) ⟨true, 0x401, false, 0, [], false⟩).shown;
      s.dead = false ∧ c < 33 ∧ s.domOn 5 = true ∧ s.get (F.CRN_STATUS_ROLE c) = roleWorking ∧ s.spareCrane (classOf c) = some p ∧
        (s.unit .crane p).testing = true ∧ (s.unit .crane p).past = [] ∧ s.inj = none ∧ (s.withRole (classOf c) roleWorking).length = workingCount (classOf c)) ∧
    (let c : Nat := (cranesOf 4).headD 0; let p : Nat := (cranesOf 4).getLastD 0;
       let s : State := (((run []).assignRoles 4).putUnit .crane ((cranesOf 4).getLastD 0) ⟨true, 0x401, false, 1, [], false⟩).shown;
      s.dead = false ∧ c < 33 ∧ s.domOn 5 = true ∧ s.get (F.CRN_STATUS_ROLE c) = roleWorking ∧ s.spareCrane (classOf c) = some p ∧
        (s.unit .crane p).testing = true ∧ (s.unit .crane p).past = [] ∧ s.inj = none ∧ (s.withRole (classOf c) roleWorking).length = workingCount (classOf c) ∧
        (s.unit .crane p).runs = 1) := by
  refine ⟨?_, ?_, ?_, ?_, ?_⟩ <;>
    decide +kernel

/-- Meets the hypotheses of `Obligations.AnalogueReception`, clause by clause. -/
theorem witness_AnalogueReception :
    (let n : Nat := 95; let s : State := (run (atWork 1 95)).shown;
      s.Settled ∧ s.dead = false ∧ n < 96 ∧ s.works n 1 = true) ∧
    (let n : Nat := 95; let above : Bool := true;
       let s : State := ((run (atWork 2 95 ++ [(F.FM_SVC0_MODE 95, 1)])).putAud 95 { (run []).audOf 95 with above := 100 }).shown;
      s.Settled ∧ s.dead = false ∧ n < 96 ∧ s.works n 2 = true ∧ s.get (F.FM_SVC0_MODE n) ≠ 0 ∧ 100 ≤ (if above then (s.audOf n).above else (s.audOf n).below)) ∧
    (let n : Nat := 95; let i := 2; let raw : BitVec 32 := 0x168;
       let s : State := ((run (atWork 2 95 ++ [(F.FM_SVC0_MODE 95, 2), (F.FM_SVC0_RDS_CORR 95, 2)])).putRds 95 { Rds.reset with pos := 2, run := 2 }).shown;
      s.Settled ∧ s.dead = false ∧ n < 96 ∧ s.works n 2 = true ∧ s.get (F.FM_SVC0_MODE n) = 2 ∧ s.get (F.FM_SVC7_RDS_SYNC n) = 0 ∧
        rdsWords.findIdx? (· == rdsOffset (raw.toNat % 2 ^ 26)) = some i ∧ (if i < 3 then i else i - 1) = (s.rdsOf n).pos ∧ (s.rdsOf n).run = 2) ∧
    (let n : Nat := 95; let raw : BitVec 32 := 1;
       let s : State := ((run (atWork 2 95 ++ [(F.FM_SVC0_MODE 95, 2), (F.FM_SVC0_RDS_CORR 95, 2)])).putRds 95 { Rds.reset with pos := 2, run := 2 }).shown;
      s.Settled ∧ s.dead = false ∧ n < 96 ∧ s.works n 2 = true ∧ s.get (F.FM_SVC0_MODE n) = 2 ∧ s.get (F.FM_SVC7_RDS_SYNC n) = 0 ∧
        rdsWords.findIdx? (· == rdsOffset (raw.toNat % 2 ^ 26)) = none ∧ rdsOffset (raw.toNat % 2 ^ 26) ≠ 0) ∧
    (let n : Nat := 95; let raw : BitVec 32 := 0; let s : State := (run (atWork 2 95 ++ [(F.FM_SVC0_MODE 95, 2), (F.FM_SVC0_RBDS 95, 1)])).shown;
      s.Settled ∧ s.dead = false ∧ n < 96 ∧ s.works n 2 = true ∧ s.get (F.FM_SVC0_MODE n) = 2 ∧ s.get (F.FM_SVC7_RDS_SYNC n) = 0 ∧
        rdsOffset (raw.toNat % 2 ^ 26) = 0 ∧ s.on (F.FM_SVC0_RBDS n) = true) := by
  refine ⟨?_, ?_, ?_, ?_, ?_⟩ <;>
    ((try unfold State.Settled State.Shows State.Calm); decide +kernel)

/-- Meets the hypotheses of `Obligations.Following`, clause by clause. -/
theorem witness_Following :
    (let h : Nat := 95; let l : Nat := 103; let cand : Nat := 90000000;
       let s : State := ({(run (atWork 2 95)).putLane 103 (.sounds 95) with soundingAt := some (103, 95, 90000000), soundDet := { Det.reset with count := 2 ^ 15 }}).shown;
      s.Settled ∧ s.dead = false ∧ h < 96 ∧ l < 104 ∧ s.soundingAt = some (l, h, cand) ∧ s.lane l = .sounds h ∧ s.soundDet.count = 2 ^ 15) ∧
    (let h : Nat := 95; let s : State := (run []).shown;
      s.Settled ∧ s.dead = false ∧ h < 96) ∧
    (let h : Nat := 95; let q : Int := 0; let x := ((90000000, 6000) : Nat × Int);
       let s : State := (((run (atWork 2 95 ++ [(F.FM_SVC2_USE_LIST 95, 1), (F.FM_SVC2_AF_MODE 95, 2), (F.FM_SVC2_PARTNER 95,
       94)])).putRds 95 { Rds.reset with afList := [(0, [25])] }).putFoll 95 { Follow.reset with heard := [(90000000, 6000, 0)] }).shown;
      s.Settled ∧ s.dead = false ∧ h < 96 ∧ s.bestCandidate h = some x ∧ s.std h = 2 ∧ s.following h = true ∧ s.bstate h = bsRunning ∧ s.fadeOf h = none ∧
        s.serving = true ∧ q + 100 * (s.get (F.FM_SVC3_MARGIN h) : Int) ≤ x.2 ∧ s.on (F.FM_SVC7_ALARM h) = false ∧ s.partnerFree h = true) := by
  refine ⟨?_, ?_, ?_⟩ <;>
    ((try unfold State.Settled State.Shows State.Calm); decide +kernel)

/-- Meets the hypotheses of `Obligations.AnalogueFades`, clause by clause. -/
theorem witness_AnalogueFades :
    (let h : Nat := 95; let f := aFade 0; let s : State := (fading 2 xfStarting 0 [(F.LN_STATUS_SETTLING 94, 0)]).shown;
      s.dead = false ∧ h < 96 ∧ s.std h = 2 ∧ s.fadeOf h = some f ∧ s.partner h < 96 ∧ s.partner h ≠ h ∧ s.xf h = xfStarting ∧ s.laneRuns (s.partner h) = true ∧
        s.get (F.LN_STATUS_SETTLING (s.partner h)) = 0 ∧ s.Settled) ∧
    (let h : Nat := 95; let f := aFade 0; let s : State := (fading 2 xfVerify 0 []).shown;
      s.dead = false ∧ h < 96 ∧ s.std h = 2 ∧ s.fadeOf h = some f ∧ s.partner h < 96 ∧ s.partner h ≠ h ∧ s.xf h = xfVerify) ∧
    (let h : Nat := 95; let f := aFade 0; let s : State := (fading 2 xfDwell 0 [(F.FM_SVC7_RDS_SYNC 95, 1), (F.FM_SVC4_DWELL 95, 2)]).shown; let a : Int := 0;
       let b : Int := 6000;
      s.dead = false ∧ h < 96 ∧ s.std h = 2 ∧ s.fadeOf h = some f ∧ s.partner h < 96 ∧ s.partner h ≠ h ∧ s.xf h = xfDwell ∧ s.lostLong h = false ∧
        a + 100 * (s.get (F.FM_SVC3_MARGIN h) : Int) ≤ b ∧ f.count + 1 < s.get (F.FM_SVC4_DWELL h) ∧ s.Settled) ∧
    (let h : Nat := 95; let s : State := (fading 2 xfDwell 1 [(F.FM_SVC7_RDS_SYNC 95, 1), (F.FM_SVC4_DWELL 95, 2)]).shown; let f := aFade 1; let a : Int := 0;
       let b : Int := 6000;
      s.dead = false ∧ h < 96 ∧ s.std h = 2 ∧ s.fadeOf h = some f ∧ s.partner h < 96 ∧ s.partner h ≠ h ∧ s.xf h = xfDwell ∧ s.lostLong h = false ∧
        a + 100 * (s.get (F.FM_SVC3_MARGIN h) : Int) ≤ b ∧ s.get (F.FM_SVC4_DWELL h) ≤ f.count + 1) ∧
    (let h : Nat := 95; let f := aFade 0; let s : State := (fading 2 xfDwell 0 [(F.FM_SVC7_RDS_SYNC 95, 1), (F.FM_SVC3_MARGIN 95, 1)]).shown; let a : Int := 0;
       let b : Int := 99;
      s.dead = false ∧ h < 96 ∧ s.std h = 2 ∧ s.fadeOf h = some f ∧ s.partner h < 96 ∧ s.partner h ≠ h ∧ s.xf h = xfDwell ∧ s.lostLong h = false ∧
        b < a + 100 * (s.get (F.FM_SVC3_MARGIN h) : Int)) ∧
    (let h : Nat := 95; let f := aFade 0;
       let s : State := (fading 2 xfAlign 0 [(F.LN_CTRL_INTAKE 95, 1), (F.LN_CTRL_INTAKE 94, 1), (F.LN_DELAY 95, 262143)]).shown; let r := ((0, true) : Int × Bool);
      s.dead = false ∧ h < 96 ∧ s.std h = 2 ∧ s.fadeOf h = some f ∧ s.partner h < 96 ∧ s.partner h ≠ h ∧ s.xf h = xfAlign ∧
        (if s.sameSignal h (s.partner h) then some (s.exactLead h (s.partner h), true) else s.foundLead h (s.partner h)) = some r ∧ r.2 = true ∧
        0 ≤ (s.get (F.LN_DELAY h) : Int) + r.1 ∧ (s.get (F.LN_DELAY h) : Int) + r.1 ≤ 262143) ∧
    (let h : Nat := 95; let f := aFade 0;
       let s : State := (fading 2 xfAlign 0 [(F.LN_CTRL_INTAKE 95, 1), (F.LN_CTRL_INTAKE 94, 1), (F.LN_FIR_DECIM 95, 1), (F.LN_RS_L_L 95, 256), (F.LN_RS_M_M 95,
       9375), (F.LN_GD_APPLIED_D_TOTAL 94, 1000000000)]).shown; let r := (s.exactLead 95 94, true);
      s.dead = false ∧ h < 96 ∧ s.std h = 2 ∧ s.fadeOf h = some f ∧ s.partner h < 96 ∧ s.partner h ≠ h ∧ s.xf h = xfAlign ∧
        (if s.sameSignal h (s.partner h) then some (s.exactLead h (s.partner h), true) else s.foundLead h (s.partner h)) = some r ∧ r.2 = true ∧
        ((s.get (F.LN_DELAY h) : Int) + r.1 < 0 ∨ 262143 < (s.get (F.LN_DELAY h) : Int) + r.1)) ∧
    (let h : Nat := 95; let f := aFade 0; let s : State := (fading 2 xfRamp 0 []).shown;
      s.dead = false ∧ h < 96 ∧ s.std h = 2 ∧ s.fadeOf h = some f ∧ s.partner h < 96 ∧ s.partner h ≠ h ∧ s.xf h = xfRamp ∧ f.back = false ∧ s.Settled) ∧
    (let h : Nat := 95; let f := { aFade 0 with back := true }; let s : State := (withFade { aFade 0 with back := true } (fading 2 xfRamp 0 [])).shown;
      s.dead = false ∧ h < 96 ∧ s.std h = 2 ∧ s.fadeOf h = some f ∧ s.partner h < 96 ∧ s.partner h ≠ h ∧ s.xf h = xfRamp ∧ f.back = true) ∧
    (let h : Nat := 95; let f := aFade 0; let s : State := (fading 2 xfSwap 0 []).shown;
      s.dead = false ∧ h < 96 ∧ s.std h = 2 ∧ s.fadeOf h = some f ∧ s.partner h < 96 ∧ s.partner h ≠ h ∧ s.xf h = xfSwap) ∧
    (let h : Nat := 95; let f := aFade 0; let s : State := (fading 2 xfDwell 0 []).shown;
      s.dead = false ∧ h < 96 ∧ s.std h = 2 ∧ s.fadeOf h = some f ∧ s.partner h < 96 ∧ s.partner h ≠ h ∧ s.serving = true ∧ s.pinLow = false ∧ s.stage = none ∧
        ¬(s.xf h = xfRamp ∧ f.ramp ≠ 0)) ∧
    (let h : Nat := 95; let f := { aFade 0 with ramp := 48 }; let s : State := (withFade { aFade 0 with ramp := 48 } (fading 2 xfRamp 0 [])).shown;
      s.dead = false ∧ h < 96 ∧ s.std h = 2 ∧ s.fadeOf h = some f ∧ s.partner h < 96 ∧ s.partner h ≠ h ∧ s.serving = true ∧ s.pinLow = false ∧ s.stage = none ∧
        s.xf h = xfRamp ∧ f.ramp ≠ 0) ∧
    (let h : Nat := 95;
       let s : State := (manned (run (atWork 2 95 ++ [(F.FM_SVC2_PARTNER 95, 94), (F.BTH_CTRL_STANDARD 94, 2), (F.LN_CTRL_GROUP_SIZE 94, 1), (F.LN_FIR_DECIM 94,
       1), (F.LN_RS_L_L 94, 256), (F.LN_RS_M_M 94, 9375)]))).shown;
      s.dead = false ∧ h < 96 ∧ s.std h = 2 ∧ s.fadeOf h = none ∧ s.partner h < 96 ∧ s.partner h ≠ h ∧ s.std (s.partner h) = 2 ∧ s.homeOf (s.partner h) = none ∧
        s.get (F.BTH_CTRL_STOPPED (s.partner h)) = 1 ∧ s.bstate h = bsRunning ∧ s.serving = true ∧ s.pinLow = false ∧ s.stage = none) := by
  refine ⟨?_, ?_, ?_, ?_, ?_, ?_, ?_, ?_, ?_, ?_, ?_, ?_, ?_⟩ <;>
    ((try unfold State.Settled State.Shows State.Calm); decide +kernel)

/-- Meets the hypotheses of `Obligations.DabReception`, clause by clause. -/
theorem witness_DabReception :
    (let n : Nat := 95; let f : DabFrame := ⟨1, false, [], 0, noOfdm⟩; let s : State := ((run (atWork 4 95)).putDab 95 { Dab.reset with missed := 1 }).shown;
      s.Settled ∧ s.dead = false ∧ n < 96 ∧ s.std n = 4 ∧ s.homeOf n = none ∧ s.works n 4 = true ∧ s.get (F.DAB_SVC0_TMODE n) = 0 ∧ f.found = false ∧
        s.get (F.DAB_SVC5_SYNC n) = syncSearch) ∧
    (let n : Nat := 95; let f : DabFrame := ⟨1, false, [], 0, noOfdm⟩;
       let s : State := ((run (atWork 4 95 ++ [(F.DAB_SVC5_SYNC 95, syncFrame)])).putDab 95 { Dab.reset with mode := 1, missed := 1 }).shown;
      s.Settled ∧ s.dead = false ∧ n < 96 ∧ s.std n = 4 ∧ s.homeOf n = none ∧ s.works n 4 = true ∧ s.get (F.DAB_SVC0_TMODE n) = 0 ∧ f.found = false ∧
        s.get (F.DAB_SVC5_SYNC n) ≠ syncSearch ∧ f.mode = (s.dabOf n).mode ∧ (s.dabOf n).missed < 2) ∧
    (let n : Nat := 95; let m : Nat := 4; let eid : Nat := 0xFFFF;
       let s : State := ((run (atWork 4 95 ++ [(F.DAB_SVC5_SYNC 95, syncFrame), (F.DAB_SVC0_FIC_OUT 95, 0), (F.DAB_SVC2_EXPECT_EID 95,
       0xFFFF)])).putDab 95 { Dab.reset with fibRun := 1, mode := 4 }).shown;
      s.Settled ∧ s.dead = false ∧ n < 96 ∧ s.std n = 4 ∧ s.homeOf n = none ∧ s.works n 4 = true ∧ s.get (F.DAB_SVC0_TMODE n) = 0 ∧ 1 ≤ m ∧ m ≤ 4 ∧
        (s.dabOf n).mode = m ∧ s.get (F.DAB_SVC5_SYNC n) = syncFrame ∧ (s.dabOf n).fibRun = 1 ∧ s.on (F.DAB_SVC0_FIC_OUT n) = false ∧
        s.get (F.DAB_SVC2_EXPECT_EID n) = eid ∧ eid ≠ 0) ∧
    (let n : Nat := 95; let s : State := (run (atWork 4 95 ++ [(F.DAB_SVC5_ALARM 95, 1)])).shown;
      s.Settled ∧ s.dead = false ∧ n < 96 ∧ s.std n = 4 ∧ s.homeOf n = none ∧ s.get (F.DAB_SVC5_ALARM n) = 1) ∧
    (let n : Nat := 95; let s : State := (run (atWork 4 95 ++ [(F.DAB_SVC5_SYNC 95, syncLocked)])).shown;
      s.Settled ∧ s.dead = false ∧ n < 96 ∧ s.std n = 4 ∧ s.homeOf n = none ∧ s.get (F.DAB_SVC5_SYNC n) ≠ syncSearch) ∧
    (let n : Nat := 95; let s : State := ((run (atWork 4 95)).putDab 95 { Dab.reset with occurrence := some 255 }).shown; let o := 255; let cif : Nat := 4095;
      s.Settled ∧ s.dead = false ∧ n < 96 ∧ s.std n = 4 ∧ s.homeOf n = none ∧ (s.dabOf n).occurrence = some o ∧ s.works n 4 = true ∧ cif % 256 = o % 256) ∧
    (let n := 95; let x : SubchData := ⟨63, fill 24 5, false, [], 0, 0, []⟩;
       let s : State := ((run (atWork 4 95 ++ [(F.DAB_SVC5_SYNC 95, syncLocked)])).putDab 95 { Dab.reset with org := [⟨63, 0, 4, 0⟩] }).shown; s.Settled ∧
       s.dead = false ∧ n < 96 ∧ s.std n = 4 ∧ s.homeOf n = none ∧ s.get (F.DAB_SVC5_SYNC n) = syncLocked ∧ s.get (F.BTH_CTRL_STOPPED n) = 0 ∧
       (s.dabOf n).org.any (·.subch == x.subch) = true ∧ (s.dabOf n).packets = [] ∧ (s.dabOf n).audio = [] ∧ (s.dabOf n).was = [] ∧ s.fadeOf n = none ∧
       (s.foll n).since ≤ 0 ∧ s.waiting n = [] ∧ s.isOld n (s.prod n).next = false ∧
       s.credit n (be 1 2 ++ be 1 x.subch ++ be 2 0 ++ be 1 0 ++ be 1 0 ++ (be 2 0 ++ be 2 0 ++ be 2 0) ++ x.bytes) = true) := by
  refine ⟨?_, ?_, ?_, ?_, ?_, ?_, ?_⟩ <;>
    ((try unfold State.Settled State.Shows State.Calm); decide +kernel)

/-- Meets the hypotheses of `Obligations.DrmReception`, clause by clause. -/
theorem witness_DrmReception :
    (let n : Nat := 95; let m : Nat := 4; let s : State := (run (atWork 3 95)).shown;
      s.Settled ∧ s.dead = false ∧ n < 96 ∧ s.std n = 3 ∧ s.homeOf n = none ∧ s.works n 3 = true ∧ s.get (F.DRM_SVC0_RMODE n) = 0 ∧ 1 ≤ m ∧ m ≤ 4) ∧
    (let n : Nat := 95; let m : Nat := 4; let o : Nat := 3;
       let s : State := ((run (atWork 3 95 ++ [(F.DRM_SVC0_FACSDC_OUT 95, 0)])).putDrm 95 { Drm.reset with seen := (4, 3), run := 1 }).shown;
      s.Settled ∧ s.dead = false ∧ n < 96 ∧ s.std n = 3 ∧ s.homeOf n = none ∧ s.works n 3 = true ∧ s.get (F.DRM_SVC0_RMODE n) = 0 ∧ 1 ≤ m ∧ m ≤ 4 ∧
        (s.drmOf n).seen = (m, o) ∧ (s.drmOf n).run = 1 ∧ s.get (F.DRM_SVC0_FACSDC_OUT n) = 0) ∧
    (let n : Nat := 95;
       let s : State := ((run (atWork 3 95 ++ [(F.DRM_SVC5_SYNC 95, syncLocked), (F.DRM_SVC1_EXPECT_SID_LO 95, 1)])).putDrm 95 { Drm.reset with absent := 1 }).shown;
      s.Settled ∧ s.dead = false ∧ n < 96 ∧ s.std n = 3 ∧ s.homeOf n = none ∧ s.get (F.DRM_SVC5_SYNC n) = syncLocked ∧ s.get (F.BTH_CTRL_STOPPED n) = 0 ∧
        (s.drmRef n).any (s.drmOf n).ids.1.contains = false ∧ (s.drmOf n).absent = 1 ∧ (s.refSid n).isSome = true) ∧
    (let n : Nat := 95; let s : State := (run (atWork 3 95 ++ [(F.DRM_SVC5_SYNC 95, syncLocked)])).shown;
      s.Settled ∧ s.dead = false ∧ n < 96 ∧ s.std n = 3 ∧ s.homeOf n = none ∧ s.get (F.DRM_SVC5_SYNC n) = syncLocked ∧ s.get (F.BTH_CTRL_STOPPED n) = 0 ∧
        (s.drmRef n).any (s.drmOf n).ids.1.contains = false) ∧
    (let n : Nat := 95; let s : State := (run (atWork 3 95 ++ [(F.DRM_SVC5_SYNC 95, syncLocked)])).shown;
      s.Settled ∧ s.dead = false ∧ n < 96 ∧ s.std n = 3 ∧ s.homeOf n = none ∧ s.get (F.DRM_SVC5_SYNC n) ≠ syncSearch) ∧
    (let n : Nat := 95; let s : State := (run (atWork 3 95 ++ [(F.DRM_SVC5_RECONFIG_PENDING 95, 1)])).shown;
      s.Settled ∧ s.dead = false ∧ n < 96 ∧ s.std n = 3 ∧ s.homeOf n = none ∧ s.get (F.DRM_SVC5_RECONFIG_PENDING n) = 1) := by
  refine ⟨?_, ?_, ?_, ?_, ?_, ?_⟩ <;>
    ((try unfold State.Settled State.Shows State.Calm); decide +kernel)

/-- Meets the hypotheses of `Obligations.DigitalFades`, clause by clause. -/
theorem witness_DigitalFades :
    (let h : Nat := 95; let p : Int := 0; let x := ((200000000, 6000) : Nat × Int);
       let s : State := ((run (atWork 4 95 ++ [(F.DAB_SVC0_AF_MODE 95, 2), (F.DAB_SVC4_PARTNER 95, 94), (F.DAB_SVC3_AF_TABLE 95, 0), (F.AF_HEAD_KIND.ofAf 0, 2),
       (F.AF_HEAD_COUNT.ofAf 0, 1), (⟨afAddr 0 0x3014, 0, 32⟩, 200000000)])).putFoll 95 { Follow.reset with heard := [(200000000, 6000, 0)] }).shown;
      s.dead = false ∧ h < 96 ∧ s.std h = 4 ∧ s.bestCandidate h = some x ∧ s.following h = true ∧ s.bstate h = bsRunning ∧ s.fadeOf h = none ∧ s.serving = true ∧
        p + 100 * (s.get (F.FM_SVC3_MARGIN h) : Int) ≤ x.2 ∧ s.on (F.DAB_SVC5_ALARM h) = false ∧ s.partnerFree h = true) ∧
    (let h : Nat := 95; let f := aFade 0; let s : State := (fading 4 xfVerify 0 []).shown;
      s.dead = false ∧ h < 96 ∧ s.std h = 4 ∧ s.fadeOf h = some f ∧ s.partner h < 96 ∧ s.partner h ≠ h ∧ s.xf h = xfVerify) ∧
    (let h : Nat := 95; let f := aFade 0; let s : State := (fading 4 xfDwell 0 []).shown;
      s.dead = false ∧ h < 96 ∧ s.std h = 4 ∧ s.fadeOf h = some f ∧ s.partner h < 96 ∧ s.partner h ≠ h ∧ s.xf h = xfDwell ∧
        s.get (F.DAB_SVC5_SYNC (s.partner h)) ≠ syncLocked) ∧
    (let b : Nat × Nat := (0, 0); let a : Nat × Nat := (0, 0); let h : Nat := 95;
       let s : State := (fading 4 xfDwell 1 [(F.DAB_SVC5_SYNC 94, syncLocked), (F.DAB_SVC5_SYNC 95, syncLocked), (F.FM_SVC4_DWELL 95, 2), (F.FM_SVC3_MARGIN 95,
       0)]).shown; let f := aFade 1;
      s.dead = false ∧ h < 96 ∧ s.std h = 4 ∧ s.fadeOf h = some f ∧ s.partner h < 96 ∧ s.partner h ≠ h ∧ s.xf h = xfDwell ∧
        s.get (F.DAB_SVC5_SYNC (s.partner h)) = syncLocked ∧ s.lostLong h = false ∧
        min 40000 (merOf a) + 100 * (s.get (F.FM_SVC3_MARGIN h) : Int) ≤ min 40000 (merOf b) ∧ s.get (F.FM_SVC4_DWELL h) ≤ f.count + 1) ∧
    ((let h := 95; let f := aFade 0;
      let s : State := (((fading 4 xfAlign 0 []).putDab 95 { Dab.reset with eids := [7] }).putDab 94 { Dab.reset with eids := [7] }).shown; let a := s.dabOf h;
      let b := s.dabOf (s.partner h); let c := if cifAtOrAfter a.cif b.cif then b.cif else a.cif; s.Settled ∧ s.dead = false ∧ s.std h = 4 ∧ s.fadeOf h = some f ∧
      s.partner h < 96 ∧ s.partner h ≠ h ∧ s.xf h = xfAlign ∧ f.count ≠ 1 ∧ a.eids.head?.isSome = true ∧ a.eids.head? = b.eids.head? ∧
      ((a.at c).1.all (b.at c).1.contains && (b.at c).1.all (a.at c).1.contains) = true ∧ (cifLead a b).natAbs ≤ 384000000) ∧ (let h := 95; let f := aFade 0;
      let s : State := (((fading 4 xfAlign 0 []).putDab 95 { Dab.reset with eids := [7], start := some 0 }).putDab 94 { Dab.reset with eids := [7], start := some 5000000000 }).shown; let a := s.dabOf h; let b := s.dabOf (s.partner h); let c := if cifAtOrAfter a.cif b.cif then b.cif else a.cif; s.Settled ∧ s.dead = false ∧ s.std h = 4 ∧ s.fadeOf h = some f ∧ s.partner h < 96 ∧ s.partner h ≠ h ∧ s.xf h = xfAlign ∧ f.count ≠ 1 ∧ a.eids.head?.isSome = true ∧ a.eids.head? = b.eids.head? ∧ ((a.at c).1.all (b.at c).1.contains && (b.at c).1.all (a.at c).1.contains) = true ∧ 384000000 < (cifLead a b).natAbs)) ∧
    (let h := 95; let f := aFade 0;
       let s : State := (((fading 4 xfAlign 0 []).putDab 95 { Dab.reset with eids := [7] }).putDab 94 { Dab.reset with eids := [7], org := [⟨63, 0, 4, 0⟩] }).shown; let a := s.dabOf h; let b := s.dabOf (s.partner h); let c := if cifAtOrAfter a.cif b.cif then b.cif else a.cif; s.Settled ∧ s.dead = false ∧ s.std h = 4 ∧ s.fadeOf h = some f ∧ s.partner h < 96 ∧ s.partner h ≠ h ∧ s.xf h = xfAlign ∧ f.count ≠ 1 ∧ a.eids.head?.isSome = true ∧ a.eids.head? = b.eids.head? ∧ ((a.at c).1.all (b.at c).1.contains && (b.at c).1.all (a.at c).1.contains) = false) ∧
    (let h := 95; let f := aFade 0; let s : State := ((fading 4 xfAlign 0 []).putDab 95 { Dab.reset with eids := [7] }).shown; let a := s.dabOf h;
       let b := s.dabOf (s.partner h); let c := if cifAtOrAfter a.cif b.cif then b.cif else a.cif; s.Settled ∧ s.dead = false ∧ s.std h = 4 ∧ s.fadeOf h = some f ∧
       s.partner h < 96 ∧ s.partner h ≠ h ∧ s.xf h = xfAlign ∧ f.count ≠ 1 ∧ a.eids.head? ≠ b.eids.head?) ∧
    (let h : Nat := 95; let s : State := (fading 4 xfAlign 1 []).shown; let f := aFade 1;
      s.dead = false ∧ h < 96 ∧ s.std h = 4 ∧ s.fadeOf h = some f ∧ s.partner h < 96 ∧ s.partner h ≠ h ∧ s.xf h = xfAlign ∧ f.count = 1) ∧
    (let h : Nat := 95; let f := aFade 0; let s : State := (fading 4 xfSwap 0 []).shown;
      s.dead = false ∧ h < 96 ∧ s.std h = 4 ∧ s.fadeOf h = some f ∧ s.partner h < 96 ∧ s.partner h ≠ h ∧ s.xf h = xfSwap ∧ f.units = []) ∧
    (let h : Nat := 95; let f := { aFade 0 with units := [(0, 0, 0, [])] };
       let s : State := (withFade { aFade 0 with units := [(0, 0, 0, [])] } (fading 4 xfSwap 0 [])).shown;
      s.dead = false ∧ h < 96 ∧ s.std h = 4 ∧ s.fadeOf h = some f ∧ s.partner h < 96 ∧ s.partner h ≠ h ∧ s.xf h = xfSwap ∧ f.units ≠ []) := by
  refine ⟨?_, ?_, ?_, ?_, ?_, ?_, ?_, ?_, ?_, ?_⟩ <;>
    ((try unfold State.Settled State.Shows State.Calm); decide +kernel)

/-- Meets the hypotheses of `Obligations.DvbReception`, clause by clause. -/
theorem witness_DvbReception :
    (let n : Nat := 95; let f : T2Frame := noT2 false 0; let s : State := ((run (atWork 6 95)).putDvb 95 { Dvb.reset with missed := 1 }).shown;
      s.Settled ∧ s.dead = false ∧ s.shadow = [] ∧ n < 96 ∧ s.works n 6 = true ∧ f.found = false ∧ (s.dvbOf n).missed < 2 ∧ s.get (F.BTH_COMMIT_PENDING n) = 0) ∧
    (let n : Nat := 95; let f : T2Frame := noT2 true 32; let s : State := (run (atWork 6 95)).shown;
      s.Settled ∧ s.dead = false ∧ s.shadow = [] ∧ n < 96 ∧ s.works n 6 = true ∧ f.found = true ∧ p1Ours (s.on (F.T2_SVC0_PROFILE n)) f.fields = false) ∧
    (let n : Nat := 95; let f : T2Frame := noT2 true 9; let s : State := (run (atWork 6 95)).shown;
      s.Settled ∧ s.dead = false ∧ s.shadow = [] ∧ n < 96 ∧ s.works n 6 = true ∧ f.found = true ∧ p1Ours (s.on (F.T2_SVC0_PROFILE n)) f.fields = true ∧
        s.get (F.T2_SVC7_SYNC n) = syncSearch ∧ (s.dvbOf n).fields ≠ f.fields) ∧
    (let n : Nat := 95; let s : State := (run (atWork 6 95 ++ [(F.T2_SVC7_EWS 95, 1)])).shown;
      s.Settled ∧ s.dead = false ∧ s.shadow = [] ∧ n < 96 ∧ s.std n = 6 ∧ s.get (F.T2_SVC7_EWS n) = 1) ∧
    (let n : Nat := 95; let f : DvbtFrame := ⟨false, false, [], 0, false, 0, 0, 0, [], [], 0, noOfdm⟩; let s : State := (run (atWork 5 95)).shown;
      s.Settled ∧ s.dead = false ∧ s.shadow = [] ∧ n < 96 ∧ s.works n 5 = true ∧ f.found = false ∧ s.get (F.DVBT_SVC7_SYNC n) = syncSearch) ∧
    (let n : Nat := 95; let f : DvbtFrame := ⟨false, false, [], 0, false, 0, 0, 0, [], [], 0, noOfdm⟩;
       let s : State := (run (atWork 5 95 ++ [(F.DVBT_SVC7_SYNC 95, syncLocked)])).shown;
      s.Settled ∧ s.dead = false ∧ s.shadow = [] ∧ n < 96 ∧ s.works n 5 = true ∧ f.found = false ∧ s.get (F.DVBT_SVC7_SYNC n) ≠ syncSearch) ∧
    (let n : Nat := 95; let f : DvbtFrame := ⟨true, true, false :: ((List.range 16).map (fun i => bit 0x35EE (15 - i))), 0, false, 3, 0, 0, [], [], 0, noOfdm⟩;
       let s : State := ((run (atWork 5 95 ++ [(F.DVBT_SVC7_SYNC 95, syncFrame), (F.BTH_DECL_FFT_MAX 95, 3)])).putDvb 95 { Dvb.reset with good := 1 }).shown;
      s.Settled ∧ s.dead = false ∧ s.shadow = [] ∧ n < 96 ∧ s.works n 5 = true ∧ f.found = true ∧ (f.fft = 3 ∨ f.fft = 5) ∧ f.tpsOk = true ∧ tpsWord f.tps = true ∧
        s.get (F.DVBT_SVC7_SYNC n) = syncFrame ∧ (s.dvbOf n).good = 1 ∧ s.get (F.DVBT_SVC0_L1_OUT n) = 0 ∧ f.fft ≤ s.get (F.BTH_DECL_FFT_MAX n) ∧
        f.rate ≤ s.get (F.BTH_DECL_RATE_MAX n) ∧ s.get (F.BTH_STATUS_OVER_DECL n) = 0 ∧ s.get (F.DVBT_SVC0_HP_LP n) = 0 ∧ f.hp = [] ∧
        s.get (F.T2_SVC5_DG_ENABLE n) = 0) ∧
    (let n : Nat := 95; let s : State := (run (atWork 6 95 ++ [(F.T2_SVC7_SYNC 95, syncLocked)])).shown;
      s.Settled ∧ s.dead = false ∧ s.shadow = [] ∧ n < 96 ∧ s.std n = 6 ∧ s.get (F.T2_SVC7_SYNC n) ≠ syncSearch) ∧
    (let n : Nat := 95; let s : State := (run (atWork 6 95 ++ [(F.T2_SVC7_SYNC 95, syncLocked)])).shown;
      s.Settled ∧ s.dead = false ∧ s.shadow = [] ∧ n < 96 ∧ s.works n 6 = true ∧ s.get (F.T2_SVC7_SYNC n) = syncLocked) ∧
    (let n := 95; let p : TsPacket := ⟨0x47 :: fill 187 5, none, false, 0, 0, 0⟩;
       let s : State := ((run (atWork 6 95 ++ [(F.T2_SVC7_SYNC 95, syncLocked)])).putDvb 95 { Dvb.reset with act := [(255, 0)] }).shown; s.Settled ∧
       s.dead = false ∧ s.shadow = [] ∧ n < 96 ∧ s.std n = 6 ∧ s.get (F.T2_SVC7_SYNC n) = syncLocked ∧ s.get (F.BTH_CTRL_STOPPED n) = 0 ∧
       (s.dvbOf n).decodes 255 0 = true ∧ (s.dvbOf n).plps = [] ∧ (s.dvbOf n).gaps = [] ∧ s.get (F.T2_SVC0_NULL_REINSERT n) = 0 ∧
       s.get (F.T2_SVC5_DG_ENABLE n) = 0 ∧ p.crc = none ∧ p.bad = false ∧ s.captureOf n 1 = none ∧ s.waiting n = [] ∧ s.isOld n (s.prod n).next = false ∧
       s.credit n (dvbHeader 0x21 255 0 1 (s.dvbOf n).config 0 p.fixed 0 0 ++ (0x47#8 :: (p.bytes[1]?).getD 0 :: p.bytes.drop 2)) = true) ∧
    (let n : Nat := 95; let ref : Nat := 65535; let o := (⟨65535, 0, 1, [], 0⟩ : Reasm);
       let s : State := ((run (atWork 6 95)).putDvb 95 { Dvb.reset with reasm := [⟨65535, 0, 1, [], 0⟩] }).shown;
      s.Settled ∧ s.dead = false ∧ s.shadow = [] ∧ n < 96 ∧ (s.dvbOf n).reasm.find? (·.ref == ref) = some o ∧ (s.std n = 5 ∨ s.std n = 6)) := by
  refine ⟨?_, ?_, ?_, ?_, ?_, ?_, ?_, ?_, ?_, ?_, ?_⟩ <;>
    ((try unfold State.Settled State.Shows State.Calm); decide +kernel)

/-- Meets the hypotheses of `Obligations.Records`, clause by clause. -/
theorem witness_Records :
    (let n : Nat := 95; let w := { Win.new 0 0 with due := 1 }; let s : State := ((run []).putWindow 95 (some { Win.new 0 0 with due := 1 })).shown;
      s.Settled ∧ s.dead = false ∧ n < 96 ∧ s.window n = some w ∧ tsNs s.ts < w.due) ∧
    (let n : Nat := 95; let w := Win.new 0 0;
       let s : State := ((run [({ F.MSR_PERIOD_PERIOD with addr := msrAddr 95 0x74 }, 1)]).putWindow 95 (some (Win.new 0 0))).shown;
      s.Settled ∧ s.dead = false ∧ n < 96 ∧ s.window n = some w ∧ w.due ≤ tsNs s.ts ∧ s.period n ≠ 0 ∧ s.shadow = []) ∧
    (let n : Nat := 95; let w := Win.new 0 0; let s : State := ((run []).putWindow 95 (some (Win.new 0 0))).shown;
      s.Settled ∧ s.dead = false ∧ n < 96 ∧ s.window n = some w ∧ w.due ≤ tsNs s.ts) ∧
    (let n : Nat := 95; let s : State := (run []).shown;
      s.Settled ∧ s.dead = false ∧ n < 96 ∧ s.closed n = []) ∧
    (let n : Nat := 95; let w := Win.new 0 0; let s : State := ((run []).putClosed 95 [Win.new 0 0]).shown;
      s.Settled ∧ s.dead = false ∧ n < 96 ∧ (s.closed n).head? = some w) ∧
    (let w := Win.new 0 0; let s : State := ((run [(F.MSR_CFG_INTAKE_PERIOD, 1)]).putWindow winIntake (some (Win.new 0 0))).shown;
      s.Settled ∧ s.dead = false ∧ s.get F.MSR_CFG_INTAKE_PERIOD ≠ 0 ∧ s.serving = true ∧ s.window winIntake = some w ∧ w.due ≤ tsNs s.ts) ∧
    (let w := Win.new 0 0; let s : State := ((run [(F.MSR_CFG_INTAKE_PERIOD, 1)]).putWindow winIntake (some (Win.new 0 0))).shown;
      s.Settled ∧ s.dead = false ∧ s.get F.MSR_CFG_INTAKE_PERIOD ≠ 0 ∧ s.serving = true ∧ s.window winIntake = some w ∧ w.due ≤ tsNs s.ts ∧ s.waiting 0x60 = [] ∧
        4 ≤ s.get (F.HLD_CAP_CAP.ofHold 107) ∧ s.charged 107 = 0) ∧
    (let w := { Win.new 0 0 with due := 1 }; let s : State := ((run [(F.MSR_CFG_INTAKE_PERIOD, 1)]).putWindow winIntake (some { Win.new 0 0 with due := 1 })).shown;
      s.Settled ∧ s.dead = false ∧ s.get F.MSR_CFG_INTAKE_PERIOD ≠ 0 ∧ s.serving = true ∧ s.window winIntake = some w ∧ tsNs s.ts < w.due) := by
  refine ⟨?_, ?_, ?_, ?_, ?_, ?_, ?_, ?_⟩ <;>
    ((try unfold State.Settled State.Shows State.Calm); decide +kernel)

/-- Meets the hypotheses of `Obligations.Quays`, clause by clause. -/
theorem witness_Quays :
    (let q : Nat := 3; let i := ⟨95, 0, 15, 0, 1, 0, fill 4 9, 95, 3, false, false, none, Copy.of (fill 4 9)⟩;
       let s : State := ({ quayRuns [] with clock := 640 }).shown;
      s.Settled ∧ s.dead = false ∧ q < 4 ∧ s.quayHead q = some i ∧ (s.quay q).sending = none ∧ s.quayMayRun q = true ∧ s.shadow = [] ∧
        s.get (F.QY_CTRL_STOPPED q) = 0 ∧ s.domOn 7 = true ∧ s.rebuilding = false ∧ s.on (F.TB_OUT_CFG_RUNNING (4 + q)) = true ∧ s.heldOff q = false ∧
        ((s.quay q).fresh = false ∨ 64 ≤ s.idleColumns q)) ∧
    (let q : Nat := 3; let i := ⟨95, 0, 15, 0, 1, 0, fill 4 9, 95, 3, false, false, none, Copy.of (fill 4 9)⟩;
       let s : State := (quayRuns [(F.QY_CTRL_HOLD_EN 3, 1), (F.QY_STATUS_HOLD_IN 3, 1)]).shown;
      s.Settled ∧ s.dead = false ∧ q < 4 ∧ s.quayHead q = some i ∧ (s.quay q).sending = none ∧ s.quayMayRun q = true ∧ s.shadow = [] ∧
        s.get (F.QY_CTRL_STOPPED q) = 0 ∧ s.domOn 7 = true ∧ s.rebuilding = false ∧ s.on (F.TB_OUT_CFG_RUNNING (4 + q)) = true ∧ s.heldOff q = true) ∧
    (let q : Nat := 3; let i := ⟨95, 0, 15, 0, 1, 0, fill 4 9, 95, 3, false, false, none, Copy.of (fill 4 9)⟩;
       let s : State := ({ quayRuns [] with clock := 639 }).shown;
      s.Settled ∧ s.dead = false ∧ q < 4 ∧ s.quayHead q = some i ∧ (s.quay q).sending = none ∧ s.quayMayRun q = true ∧ s.shadow = [] ∧
        s.get (F.QY_CTRL_STOPPED q) = 0 ∧ s.domOn 7 = true ∧ s.rebuilding = false ∧ s.on (F.TB_OUT_CFG_RUNNING (4 + q)) = true ∧ (s.quay q).fresh = true ∧
        s.idleColumns q < 64) ∧
    (let q : Nat := 3; let i := ⟨95, 0, 15, 0, 1, 0, fill 4 9, 95, 3, false, false, none, Copy.of (fill 4 9)⟩;
       let s : State := (({run [(F.QY_CTRL_RUN 3, 1), (F.QY_CTRL_STOPPED 3, 0)] with custody := [⟨95, 0, 15, 0, 1, 0, fill 4 9, 95, 3, false, false, none, Copy.of (fill 4 9)⟩]}).putQuay 3 { Quay.reset with sending := some (95, 0) }).shown;
      s.Settled ∧ s.dead = false ∧ q < 4 ∧ s.quayHead q = some i ∧ (s.quay q).sending = some (i.prod, i.seq) ∧ s.closing = false ∧ 0 < i.content ∧ i.content < 16) ∧
    (let q : Nat := 3; let s : State := (run [(F.QY_CTRL_HOLD_EN 3, 1)]).shown;
      s.Settled ∧ s.dead = false ∧ q < 4) := by
  refine ⟨?_, ?_, ?_, ?_, ?_⟩ <;>
    ((try unfold State.Settled State.Shows State.Calm); decide +kernel)

/-- Meets the hypotheses of `Obligations.QuayHeldLong`, clause by clause. -/
theorem witness_QuayHeldLong :
    (let q : Nat := 3; let s : State := (run [(F.QY_CTRL_HOLD_EN 3, 1), (F.QY_STATUS_HOLD_IN 3, 1), (F.QY_HOLD_LIMIT_LIMIT 3, 1)]).shown;
      s.Settled ∧ s.dead = false ∧ s.domOn 7 = true ∧ q < 4 ∧ s.get (F.QY_CTRL_HOLD_EN q) = 1 ∧ s.get (F.QY_STATUS_HOLD_IN q) = 1 ∧
        s.get (F.QY_HOLD_LIMIT_LIMIT q) ≠ 0) ∧
    (let q : Nat := 3; let s : State := (run [(F.QY_CTRL_HOLD_EN 3, 1), (F.QY_STATUS_HOLD_IN 3, 1), (F.QY_HOLD_LIMIT_LIMIT 3, 0)]).shown;
      s.Settled ∧ s.dead = false ∧ s.domOn 7 = true ∧ q < 4 ∧ (s.get (F.QY_CTRL_HOLD_EN q) = 0 ∨ s.get (F.QY_HOLD_LIMIT_LIMIT q) = 0)) ∧
    (let q : Nat := 3; let s : State := (run [(F.QY_CTRL_HOLD_EN 3, 0)]).shown;
      s.Settled ∧ s.dead = false ∧ s.domOn 7 = true ∧ q < 4 ∧ s.get (F.QY_CTRL_HOLD_EN q) = 0) := by
  refine ⟨?_, ?_, ?_⟩ <;>
    ((try unfold State.Settled State.Shows State.Calm); decide +kernel)

/-- Meets the hypotheses of `Obligations.Landing`, clause by clause. -/
theorem witness_Landing :
    (let s : State := (run [(F.LAND_CTRL_STOPPED, 0)]).shown;
      s.Settled ∧ s.dead = false ∧ s.landRuns = true) ∧
    (let s : State := (run [(F.LAND_CTRL_STOPPED, 0), (F.LAND_STATUS_ALIGNED, 1)]).shown;
      s.Settled ∧ s.dead = false ∧ s.landRuns = true ∧ s.on F.LAND_STATUS_ALIGNED = true) ∧
    (let g0 : BitVec 10 := 0x0FA#10; let g1 : BitVec 10 := 0x0FA#10;
       let s : State := ({run [(F.LAND_CTRL_STOPPED, 0), (F.LAND_STATUS_ALIGNED, 1), (F.LAND_CTRL_RUN, 1), (F.DOM_CTRL_QUAY_ON, 1)] with pinLow := false}).shown;
      s.Settled ∧ s.dead = false ∧ s.landRuns = true ∧ s.on F.LAND_STATUS_ALIGNED = true ∧ s.landBusy = false ∧ s.shadow = [] ∧ s.landMayRun = true ∧
        landed (landGroup false (s.landRx.disparity.getD 0 false) g0) (landGroup false (s.landRx.disparity.getD 1 false) g1) = .sof) ∧
    (let s : State := (State.shown {arriving [] with landRx := { (arriving []).landRx with words := 16383 }}); s.Settled ∧ s.dead = false ∧ s.landRuns = true ∧
       s.on F.LAND_STATUS_ALIGNED = true ∧ s.landBusy = true ∧
       landed (landGroup true (s.landRx.disparity.getD 0 false) 0x2A9#10) (landGroup true (s.landRx.disparity.getD 1 false) 0x3A8#10) = .bytes [0x35#8] ∧
       s.landDepth < landWords) ∧
    (let g0 : BitVec 10 := 0x2A9#10; let g1 : BitVec 10 := 0x2A9#10; let l : List Byte := [0x35#8, 0x35#8];
       let s : State := ({arriving [] with landRx := { (arriving []).landRx with words := 16384 }}).shown;
      s.Settled ∧ s.dead = false ∧ s.landRuns = true ∧ s.on F.LAND_STATUS_ALIGNED = true ∧ s.landBusy = true ∧
        landed (landGroup true (s.landRx.disparity.getD 0 false) g0) (landGroup true (s.landRx.disparity.getD 1 false) g1) = .bytes l ∧ landWords ≤ s.landDepth) ∧
    (let g0 : BitVec 10 := 0x2A9#10; let g1 : BitVec 10 := 0x3A8#10; let l : List Byte := [0x35#8]; let f := ⟨0, aFrame 0 1 1 0, 14, 13, Copy.of []⟩;
       let s : State := ({arriving [] with landRx := { (arriving []).landRx with words := 16383 }, landFifo := [⟨0, aFrame 0 1 1 0, 14, 13, Copy.of []⟩]}).shown;
      s.Settled ∧ s.dead = false ∧ s.landRuns = true ∧ s.on F.LAND_STATUS_ALIGNED = true ∧ s.landBusy = true ∧
        landed (landGroup true (s.landRx.disparity.getD 0 false) g0) (landGroup true (s.landRx.disparity.getD 1 false) g1) = .bytes l ∧ s.landFifo.head? = some f ∧
        f.taken < f.words ∧ s.landCredit f.bytes = true ∧ s.landDepth = landWords) ∧
    (let g0 : BitVec 10 := 0#10; let g1 : BitVec 10 := 0x2A9#10; let s : State := (arriving []).shown;
      s.Settled ∧ s.dead = false ∧ s.landRuns = true ∧ s.on F.LAND_STATUS_ALIGNED = true ∧ s.landBusy = true ∧
        landed (landGroup true (s.landRx.disparity.getD 0 false) g0) (landGroup true (s.landRx.disparity.getD 1 false) g1) = .wrong) ∧
    (let body := (aFrame 0 1 1 0).take 24; let s : State := (arriving (aFrame 0 1 1 1)).shown;
      s.Settled ∧ s.dead = false ∧ s.landRuns = true ∧ s.landBusy = true ∧ s.landRx.refused = false ∧ s.landRx.code = false ∧ 28 ≤ s.landRx.bytes.length ∧
        s.landRx.bytes.take (s.landRx.bytes.length - 4) = body ∧ ofLe (s.landRx.bytes.drop (s.landRx.bytes.length - 4)) ≠ (crc32 body).toNat) ∧
    (let body := (aFrame 1 1 1 0).take 24; let s : State := (arriving (aFrame 1 1 1 0)).shown;
      s.Settled ∧ s.dead = false ∧ s.landRuns = true ∧ s.landBusy = true ∧ s.landRx.refused = false ∧ s.landRx.code = false ∧ 28 ≤ s.landRx.bytes.length ∧
        s.landRx.bytes.take (s.landRx.bytes.length - 4) = body ∧ ofLe (s.landRx.bytes.drop (s.landRx.bytes.length - 4)) = (crc32 body).toNat ∧
        landHeaderOk s.landRx.bytes (!s.landRx.misplaced) = false) ∧
    (let body := (aFrame 0 1 1 0).take 24; let c := ⟨1, 1, none⟩; let s : State := ((arriving (aFrame 0 1 1 0)).putChan 3 ⟨1, 1, none⟩).shown;
      s.Settled ∧ s.dead = false ∧ s.landRuns = true ∧ s.landBusy = true ∧ s.landRx.refused = false ∧ s.landRx.code = false ∧ 28 ≤ s.landRx.bytes.length ∧
        s.landRx.bytes.take (s.landRx.bytes.length - 4) = body ∧ ofLe (s.landRx.bytes.drop (s.landRx.bytes.length - 4)) = (crc32 body).toNat ∧
        s.chan (frameChan s.landRx.bytes) = c ∧ landHeaderOk s.landRx.bytes (!s.landRx.misplaced) = true ∧ ofBe (slice s.landRx.bytes 12 4) = c.epoch ∧
        follows (ofBe (slice s.landRx.bytes 8 4)) c.seq = false) ∧
    (let body := (aFrame 0 0 1 0).take 24; let c := ⟨1, 0xFFFFFFFF, none⟩; let s : State := ((arriving (aFrame 0 0 1 0)).putChan 3 ⟨1, 0xFFFFFFFF, none⟩).shown;
      s.Settled ∧ s.dead = false ∧ s.landRuns = true ∧ s.landBusy = true ∧ s.landRx.refused = false ∧ s.landRx.code = false ∧ 28 ≤ s.landRx.bytes.length ∧
        s.landRx.bytes.take (s.landRx.bytes.length - 4) = body ∧ ofLe (s.landRx.bytes.drop (s.landRx.bytes.length - 4)) = (crc32 body).toNat ∧
        s.chan (frameChan s.landRx.bytes) = c ∧ landHeaderOk s.landRx.bytes (!s.landRx.misplaced) = true ∧
        (ofBe (slice s.landRx.bytes 12 4) ≠ c.epoch ∨ follows (ofBe (slice s.landRx.bytes 8 4)) c.seq = true)) ∧
    (let f := ⟨0, aFrame 0 1 1 0, 14, 0, Copy.of []⟩; let s : State := ({arriving [] with landFifo := [⟨0, aFrame 0 1 1 0, 14, 0, Copy.of []⟩]}).shown;
      s.Settled ∧ s.dead = false ∧ s.landRuns = true ∧ s.landFifo.head? = some f ∧ s.landCredit f.bytes = true) ∧
    (let f := ⟨0, aFrame 0 1 1 0, 14, 0, Copy.of []⟩;
       let s : State := ({arriving [] with landFifo := [⟨0, aFrame 0 1 1 0, 14, 0, Copy.of []⟩], schedule := List.replicate 32 (aTx false false [] 0)}).shown;
      s.Settled ∧ s.dead = false ∧ s.landRuns = true ∧ s.landFifo.head? = some f ∧ s.landCredit f.bytes = false) := by
  refine ⟨?_, ?_, ?_, ?_, ?_, ?_, ?_, ?_, ?_, ?_, ?_, ?_, ?_⟩ <;>
    ((try unfold State.Settled State.Shows State.Calm); decide +kernel)

/-- Meets the hypotheses of `Obligations.AudioOutput`, clause by clause. -/
theorem witness_AudioOutput :
    (let p : Nat := 3; let s : State := (run [(F.DOM_CTRL_QUAY_ON, 1)]).shown;
      s.Settled ∧ s.dead = false ∧ p < 4 ∧ s.portsUp = true ∧ s.pinLow = false ∧ s.stage = none ∧ s.startBad p = false ∧ s.get F.AU_START_AT_SECONDS = 0) ∧
    (let p : Nat := 3;
       let s : State := ((run [(F.DOM_CTRL_QUAY_ON, 1), (F.AU_CTRL_RUN 3, 1), (F.AU_CTRL_MASTER 3, 1), (F.AU_CFG_FS 3,
       1)]).putPort 3 { Port.reset with startAt := some 5 }).shown;
      s.Settled ∧ s.dead = false ∧ p < 4 ∧ s.portsUp = true ∧ s.get (F.AU_CTRL_RUN p) = 1 ∧ (s.port p).startAt ≠ none ∧ s.on (F.AU_STATUS_UNSUPPORTED p) = false ∧
        s.isRetired .converter p = false ∧ s.mode ≠ .survey ∧ s.get (F.AU_CTRL_MASTER p) = 1 ∧ s.get (F.AU_CTRL_STOPPED p) = 1 ∧ s.startBad p = true) ∧
    (let p : Nat := 3;
       let s : State := ((run [(F.DOM_CTRL_QUAY_ON, 1), (F.AU_CTRL_RUN 3, 1), (F.AU_CTRL_MASTER 3, 1)]).putPort 3 { Port.reset with startAt := some 5 }).shown;
      s.Settled ∧ s.dead = false ∧ p < 4 ∧ s.portsUp = true ∧ s.get (F.AU_CTRL_RUN p) = 1 ∧ (s.port p).startAt ≠ none ∧ s.on (F.AU_STATUS_UNSUPPORTED p) = false ∧
        s.isRetired .converter p = false ∧ s.mode ≠ .survey ∧ s.get (F.AU_CTRL_MASTER p) = 1 ∧ s.get (F.AU_CTRL_STOPPED p) = 1 ∧ s.startBad p = false) ∧
    (let p : Nat := 3;
       let s : State := ((run [(F.DOM_CTRL_QUAY_ON, 1), (F.AU_CTRL_RUN 3, 1), (F.AU_CTRL_MASTER 3, 0), (F.AU_STATUS_CLOCK_OK 3,
       1)]).putPort 3 { Port.reset with startAt := some 5 }).shown;
      s.Settled ∧ s.dead = false ∧ p < 4 ∧ s.portsUp = true ∧ s.get (F.AU_CTRL_RUN p) = 1 ∧ (s.port p).startAt ≠ none ∧ s.on (F.AU_STATUS_UNSUPPORTED p) = false ∧
        s.isRetired .converter p = false ∧ s.mode ≠ .survey ∧ s.get (F.AU_CTRL_MASTER p) = 0 ∧ s.on (F.AU_STATUS_CLOCK_OK p) = true ∧
        (s.get (F.AU_CTRL_STOPPED p) = 0 ∨ s.startBad p = false)) ∧
    (let p : Nat := 3;
       let s : State := ((run [(F.DOM_CTRL_QUAY_ON, 1), (F.AU_CTRL_RUN 3, 1), (F.AU_CTRL_MASTER 3, 0)]).putPort 3 { Port.reset with startAt := some 5 }).shown;
      s.Settled ∧ s.dead = false ∧ p < 4 ∧ s.portsUp = true ∧ s.get (F.AU_CTRL_RUN p) = 1 ∧ (s.port p).startAt ≠ none ∧ s.on (F.AU_STATUS_UNSUPPORTED p) = false ∧
        s.isRetired .converter p = false ∧ s.mode ≠ .survey ∧ s.get (F.AU_CTRL_MASTER p) = 0 ∧ s.on (F.AU_STATUS_CLOCK_OK p) = false) ∧
    (let p : Nat := 3; let s : State := (run [(F.AU_CTRL_STOPPED 3, 0), (F.AU_STATUS_OUT_STATE 3, osSettling)]).shown;
      s.Settled ∧ s.dead = false ∧ p < 4 ∧ s.portRuns p = true ∧ s.outState p = osSettling) ∧
    (let p : Nat := 3; let s : State := (run [(F.AU_CTRL_STOPPED 3, 0), (F.AU_STATUS_OUT_STATE 3, osRamping)]).shown;
      s.Settled ∧ s.dead = false ∧ p < 4 ∧ s.portRuns p = true ∧ s.outState p = osRamping) ∧
    (let p : Nat := 3; let s : State := (run [(F.AU_CTRL_STOPPED 3, 0), (F.AU_CTRL_RUN 3, 1), (F.AU_CTRL_MUTE 3, 1), (F.AU_STATUS_OUT_STATE 3, osFading)]).shown;
      s.Settled ∧ s.dead = false ∧ p < 4 ∧ s.portRuns p = true ∧ s.outState p = osFading ∧ (s.port p).stop = false ∧ s.portQuiet p = true ∧
        s.get (F.AU_CTRL_RUN p) = 1) ∧
    (let p : Nat := 3; let s : State := ((run [(F.AU_CTRL_STOPPED 3, 0), (F.AU_STATUS_OUT_STATE 3, osFading)]).putPort 3 { Port.reset with stop := true }).shown;
      s.Settled ∧ s.dead = false ∧ p < 4 ∧ s.portRuns p = true ∧ s.outState p = osFading ∧ (s.port p).stop = true ∧ s.get (F.AU_CTRL_RUN p) = 0) ∧
    (let p : Nat := 3; let s : State := (run [(F.AU_CTRL_STOPPED 3, 0), (F.AU_STATUS_OUT_STATE 3, osPlaying)]).shown;
      s.Settled ∧ s.dead = false ∧ p < 4 ∧ s.portRuns p = true ∧ s.outState p = osPlaying) := by
  refine ⟨?_, ?_, ?_, ?_, ?_, ?_, ?_, ?_, ?_, ?_⟩ <;>
    ((try unfold State.Settled State.Shows State.Calm); decide +kernel)

/-- Meets the hypotheses of `Obligations.AudioGaps`, clause by clause. -/
theorem witness_AudioGaps :
    (let p : Nat := 3; let slot : Nat := 31;
       let s : State := (run (atWork 2 95 ++ [(F.AU_CTRL_STOPPED 3, 0), (F.AU_CFG_SLOTS 3, 31), (F.FM_SVC1_ENABLE 95, 1), (F.FM_SVC1_PORT 95, 3),
       (F.FM_SVC1_SLOT_L 95, 31)])).shown;
      s.Settled ∧ s.dead = false ∧ p < 4 ∧ slot < 32 ∧ s.portRuns p = true ∧ slot ≤ s.get (F.AU_CFG_SLOTS p) ∧ s.slotRouted p slot = true) ∧
    (let p : Nat := 3; let s : State := (run [(F.AU_CTRL_STOPPED 3, 0)]).shown;
      s.Settled ∧ s.dead = false ∧ p < 4 ∧ s.portRuns p = true) ∧
    (let p : Nat := 3; let s : State := ((run []).putPort 3 { Port.reset with dry := true }).shown;
      s.Settled ∧ s.dead = false ∧ p < 4 ∧ (s.port p).dry = true ∧ (s.unit .converter p).testing = false ∧ s.isRetired .converter p = false) := by
  refine ⟨?_, ?_, ?_⟩ <;>
    ((try unfold State.Settled State.Shows State.Calm); decide +kernel)

/-- Meets the hypotheses of `Obligations.SlaveClocks`, clause by clause. -/
theorem witness_SlaveClocks :
    (let p : Nat := 3; let rate : BitVec 32 := 95808000; let s : State := (run [(F.AU_CTRL_MASTER 3, 0)]).shown;
      s.Settled ∧ s.dead = false ∧ p < 4 ∧ s.slaveUp p = true ∧ s.slaveFits p (rateFound rate.toNat) = true) ∧
    (let p : Nat := 3; let rate : BitVec 32 := 95807999; let s : State := (run [(F.AU_CTRL_MASTER 3, 0)]).shown;
      s.Settled ∧ s.dead = false ∧ p < 4 ∧ s.slaveUp p = true ∧ s.slaveFits p (rateFound rate.toNat) = false) ∧
    (let p : Nat := 3; let s : State := (run [(F.AU_CTRL_MASTER 3, 0)]).shown;
      s.Settled ∧ s.dead = false ∧ p < 4 ∧ s.slaveUp p = true) ∧
    (let p : Nat := 3; let s : State := (run [(F.AU_CTRL_MASTER 3, 0), (F.AU_CLOCK_FS_FOUND 3, 2)]).shown;
      s.Settled ∧ s.dead = false ∧ p < 4 ∧ s.slaveUp p = true ∧ s.slaveFits p (s.get (F.AU_CLOCK_FS_FOUND p)) = true) := by
  refine ⟨?_, ?_, ?_, ?_⟩ <;>
    ((try unfold State.Settled State.Shows State.Calm); decide +kernel)

/-- Meets the hypotheses of `Obligations.BondKeys`, clause by clause. -/
theorem witness_BondKeys :
    (let slot : Nat := 31; let k := ((List.range 16).map (fun i => BitVec.ofNat 8 (17 * i)), 1); let s : State := (keyWaits).shown;
      s.Settled ∧ s.dead = false ∧ s.pinLow = false ∧ s.stage = none ∧ s.gated srcTwoWire 0x2401 = false ∧ slot < 32 ∧ (s.loadCheck slot).1 = some k ∧
        s.inUse slot = false) ∧
    (let slot : Nat := 31; let k := ((List.range 16).map (fun i => BitVec.ofNat 8 (17 * i)), 1);
       let s : State := ({keyWaits with bondReqs := [{ aReq 1 [] with slot := 31 }]}).shown;
      s.Settled ∧ s.dead = false ∧ s.pinLow = false ∧ s.stage = none ∧ s.gated srcTwoWire 0x2401 = false ∧ slot < 32 ∧ (s.loadCheck slot).1 = some k ∧
        s.inUse slot = true) ∧
    (let slot : Nat := 31; let s : State := (run []).shown;
      s.Settled ∧ s.dead = false ∧ s.pinLow = false ∧ s.stage = none ∧ s.gated srcTwoWire 0x2401 = false ∧ slot < 32 ∧ (s.loadCheck slot).1 = none) ∧
    (let slot : Nat := 31; let s : State := (run []).shown;
      s.Settled ∧ s.dead = false ∧ s.pinLow = false ∧ s.stage = none ∧ s.gated srcTwoWire 0x2401 = false ∧ slot < 32) ∧
    (let slot : Nat := 31; let s : State := (run []).shown;
      s.Settled ∧ s.dead = false ∧ s.pinLow = false ∧ s.stage = none ∧ s.gated srcTwoWire 0x2401 = false ∧ slot < 32 ∧ s.bondReqs = []) ∧
    (let s : State := (run []).shown;
      s.Settled ∧ s.dead = false ∧ s.pinLow = false ∧ s.stage = none ∧ s.gated srcTwoWire 0x2401 = false) ∧
    (let s : State := (run []).shown;
      s.Settled ∧ s.dead = false ∧ s.pinLow = false ∧ s.stage = none ∧ s.gated srcTwoWire 0x2401 = false ∧ s.kek = none ∧ s.kekBurn = none ∧ s.serving = true) ∧
    (let k := fill 32 7; let s : State := ({run [] with kekBurn := some (fill 32 7)}).shown;
      s.Settled ∧ s.dead = false ∧ s.kekBurn = some k) := by
  refine ⟨?_, ?_, ?_, ?_, ?_, ?_, ?_, ?_⟩ <;>
    ((try unfold State.Settled State.Shows State.Calm); decide +kernel)

/-- Meets the hypotheses of `Obligations.BondService`, clause by clause. -/
theorem witness_BondService :
    (let d : List Byte := []; let mode : Nat := 3; let seq : BitVec 32 := 5; let s : State := ((run []).take 0x63 5).shown;
      s.Settled ∧ s.dead = false ∧ s.domOn 7 = true ∧ (mode = 1 ∨ mode = 3) ∧ s.bondCredit d.length = true ∧ s.isTaken 0x63 seq.toNat = true) ∧
    (let d : List Byte := []; let mode : Nat := 3; let seq : BitVec 32 := 0; let s : State := ((run []).take 0x63 (2 ^ 32 - 1)).shown;
      s.Settled ∧ s.dead = false ∧ s.domOn 7 = true ∧ (mode = 1 ∨ mode = 3) ∧ s.bondCredit d.length = true ∧ s.isTaken 0x63 seq.toNat = false) ∧
    (let r := aReq 2 (fill 16 0); let s : State := ({serving (aReq 2 (fill 16 0)) with bondNow := none}).shown;
      s.Settled ∧ s.dead = false ∧ s.on F.BOND_STATUS_ENGINE_OK = true ∧ s.outputsWait = false ∧ s.bondHead = some r ∧ s.bondServing = none ∧ r.mode ≠ 1 ∧
        s.bondReqs = [r]) ∧
    (let key := fill 16 1; let r := aReq 1 (anEnv (fill 16 0)); let s : State := (serving (aReq 1 (anEnv (fill 16 0)))).shown;
      s.Settled ∧ s.dead = false ∧ s.bondServing = some r ∧ r.mode = 1 ∧ s.bondReqs = [r] ∧ s.outbox = [] ∧ s.caps = [] ∧ s.relays = [] ∧
        (∀ j < 32, (s.slot j).pending = none) ∧ s.charged 105 + 33 * ceilDiv r.total 8176 + 1 ≤ s.get (F.HLD_CAP_CAP.ofHold 105) ∧ r.early = rsnNone ∧
        s.slotCheck r = rsnNone ∧ r.complete = true ∧ r.total ≤ r.progress ∧ r.streams = false ∧ envTag96 r.data = false ∧ bit (byteAt r.data 1) 1 = false ∧
        (s.slot r.slot).key = some key ∧ gcmTag key (envIv r.data) (envAad r.data) (envCt r.data) ≠ envTag r.data) ∧
    (let s : State := ((run []).putWaiting 0x62 [⟨false, 9, 0, 0, [], false⟩]).shown;
      s.Settled ∧ s.dead = false ∧ s.outputsWait = true) ∧
    (let r := aReq 2 (fill 16 0); let s : State := (serving (aReq 2 (fill 16 0))).shown;
      s.Settled ∧ s.dead = false ∧ s.bondServing = some r ∧ r.mode = 2 ∧ s.bondReqs = [r] ∧ s.outbox = [] ∧ s.caps = [] ∧ s.relays = [] ∧
        (∀ j < 32, (s.slot j).pending = none) ∧ s.charged 105 + 33 * ceilDiv r.total 8176 + 1 ≤ s.get (F.HLD_CAP_CAP.ofHold 105) ∧ r.channel < 8 ∧
        s.xtsCheck r = rsnNone ∧ r.total ≤ r.progress) ∧
    (let r := aReq 2 (fill 16 0); let s : State := (serving (aReq 2 (fill 16 0))).shown;
      s.Settled ∧ s.dead = false ∧ s.bondServing = some r) := by
  refine ⟨?_, ?_, ?_, ?_, ?_, ?_, ?_⟩ <;>
    ((try unfold State.Settled State.Shows State.Calm); decide +kernel)

/-- Meets the hypotheses of `Obligations.BondService`, clause by clause. -/
theorem witness_BondService_tag :
    (let r := aReq 1 (anEnv (fill 16 0)); let s : State := ({serving (aReq 1 (anEnv (fill 16 0))) with bondNow := none}).shown;
      s.Settled ∧ s.dead = false ∧ s.on F.BOND_STATUS_ENGINE_OK = true ∧ s.outputsWait = false ∧ s.bondHead = some r ∧ s.bondServing = none ∧ r.mode = 1 ∧
        r.early = rsnNone ∧ r.owns = false ∧ s.ivMatch r = none ∧ s.bondReqs = [r] ∧ s.ivTable.length < 4096 ∧ r.streams = false) := by
  unfold State.Settled State.Shows State.Calm; decide +kernel

/-- Meets the hypotheses of `Obligations.BondService`, clause by clause. -/
theorem witness_BondService_right_tag :
    (let r := aReq 1 [2]; let s : State := (serving (aReq 1 [2])).shown;
      s.Settled ∧ s.dead = false ∧ s.bondServing = some r ∧ r.mode = 1 ∧ s.bondReqs = [r] ∧ s.outbox = [] ∧ s.caps = [] ∧ s.relays = [] ∧
        (∀ j < 32, (s.slot j).pending = none) ∧ s.charged 105 + 33 * ceilDiv r.total 8176 + 1 ≤ s.get (F.HLD_CAP_CAP.ofHold 105) ∧ r.early ≠ rsnNone) := by
  unfold State.Settled State.Shows State.Calm; decide +kernel

/-- Meets the hypotheses of `Obligations.BondService`, clause by clause. -/
theorem witness_BondService_wrong_tag :
    (let key := fill 16 1; let r := aReq 1 (anEnv (gcmTag (fill 16 1) (fill 12 0) [1, 0, 30, 0, 0] []));
       let s : State := (serving (aReq 1 (anEnv (gcmTag (fill 16 1) (fill 12 0) [1, 0, 30, 0, 0] [])))).shown;
      s.Settled ∧ s.dead = false ∧ s.bondServing = some r ∧ r.mode = 1 ∧ s.bondReqs = [r] ∧ s.outbox = [] ∧ s.caps = [] ∧ s.relays = [] ∧
        (∀ j < 32, (s.slot j).pending = none) ∧ s.charged 105 + 33 * ceilDiv r.total 8176 + 1 ≤ s.get (F.HLD_CAP_CAP.ofHold 105) ∧ r.early = rsnNone ∧
        s.slotCheck r = rsnNone ∧ r.complete = true ∧ r.total ≤ r.progress ∧ r.streams = false ∧ envTag96 r.data = false ∧ bit (byteAt r.data 1) 1 = false ∧
        (s.slot r.slot).key = some key ∧ gcmTag key (envIv r.data) (envAad r.data) (envCt r.data) = envTag r.data) := by
  unfold State.Settled State.Shows State.Calm; decide +kernel

/-- Meets the hypotheses of `Obligations.BondUpkeep`, clause by clause. -/
theorem witness_BondUpkeep :
    (let c : Nat := 7; let s : State := ((run [(F.CAP_UNIT_UNIT16 7, 2), (F.CAP_FLUSH_MS 7, 100)]).putCap 7 { Cap.reset with buf := fill 31 0 }).shown;
      s.Settled ∧ s.dead = false ∧ c < 8 ∧ (s.cap c).buf ≠ [] ∧ (s.cap c).buf.length < s.capUnit c ∧ s.bondCredit (s.capUnit c) = true ∧
        s.get (F.CAP_FLUSH_MS c) ≠ 0) ∧
    (let c : Nat := 7; let s : State := (run [(F.CAP_FLUSH_MS 7, 0)]).shown;
      s.Settled ∧ s.dead = false ∧ c < 8 ∧ s.get (F.CAP_FLUSH_MS c) = 0) ∧
    (let s : State := (run []).shown;
      s.Settled ∧ s.dead = false) ∧
    (let s : State := (run [(F.BOND_STATUS_ENTROPY_FAIL, 1)]).shown;
      s.Settled ∧ s.dead = false ∧ s.get F.BOND_STATUS_ENTROPY_FAIL = 1) ∧
    (let s : State := (run [(F.BOND_STATUS_ENGINE_OK, 1)]).shown;
      s.Settled ∧ s.dead = false ∧ s.get F.BOND_STATUS_ENGINE_OK = 1) ∧
    (let s : State := (run [(F.BOND_STATUS_ENGINE_OK, 0)]).shown;
      s.Settled ∧ s.dead = false ∧ s.get F.BOND_STATUS_ENGINE_OK = 0) := by
  refine ⟨?_, ?_, ?_, ?_, ?_, ?_⟩ <;>
    ((try unfold State.Settled State.Shows State.Calm); decide +kernel)

/-- Meets the hypotheses of `Obligations.PilotSchedule`, clause by clause. -/
theorem witness_PilotSchedule :
    (let seq : BitVec 32 := 0; let s : State := ((run []).take 355 (2 ^ 32 - 1)).shown;
      s.Settled ∧ s.dead = false ∧ s.txCredit = true ∧ s.domOn 7 = true ∧ s.isTaken (256 + 0x63) seq.toNat = false) ∧
    (let seq : BitVec 32 := 5; let s : State := ((run []).take 355 5).shown;
      s.Settled ∧ s.dead = false ∧ s.txCredit = true ∧ s.domOn 7 = true ∧ s.isTaken (256 + 0x63) seq.toNat = true) ∧
    (let e := 0; let p := ⟨1, 0, 0, 0, fill 4 0⟩; let s : State := ({run [(F.PLT_PERIODIC_EN_ENABLE, 1)] with periodics := [⟨1, 0, 0, 0, fill 4 0⟩]}).shown;
      s.Settled ∧ s.dead = false ∧ s.periodics[e]? = some p ∧ bit (s.get F.PLT_PERIODIC_EN_ENABLE) e = true ∧ s.serving = true ∧ s.domOn 7 = true ∧
        s.txCredit = true ∧ s.schedule.any (fun r => r.entry == some e) = false) ∧
    (let e := 0; let p := ⟨1, 0, 0, 0, fill 4 0⟩;
       let s : State := ({run [(F.PLT_PERIODIC_EN_ENABLE, 1)] with periodics := [⟨1, 0, 0, 0, fill 4 0⟩], schedule := [{ aTx false false [] 0 with entry := some 0 }]}).shown;
      s.Settled ∧ s.dead = false ∧ s.periodics[e]? = some p ∧ bit (s.get F.PLT_PERIODIC_EN_ENABLE) e = true ∧ s.serving = true ∧ s.domOn 7 = true ∧
        s.schedule.any (fun r => r.entry == some e) = true) ∧
    (let r := aTx false true [] 0; let s : State := ({sched (aTx false true [] 0) .idle [] with txAt := (0, .idle)}).shown;
      s.Settled ∧ s.dead = false ∧ s.txHead = some r ∧ s.txNow = none ∧ s.scheduleServes = true ∧ (s.on F.PLT_CTRL_RUN = false ∨ r.malformed = true)) ∧
    (let r := aTx false false [] 0; let s : State := ({sched (aTx false false [] 0) .idle [(F.TB_MOV_STATUS_LOCKED 0, 0)] with txAt := (0, .idle)}).shown;
      s.Settled ∧ s.dead = false ∧ s.txHead = some r ∧ s.txNow = none ∧ s.scheduleServes = true ∧ s.on F.PLT_CTRL_RUN = true ∧ r.malformed = false ∧
        s.pairReady = false) ∧
    (let r := aTx true false [fill 10 0] 0;
       let s : State := ({sched (aTx true false [fill 10 0] 0) .idle [] with txAt := (0, .idle), dutyBins := [(0, 40000000)]}).shown;
      s.Settled ∧ s.dead = false ∧ s.txHead = some r ∧ s.txNow = none ∧ s.scheduleServes = true ∧ s.on F.PLT_CTRL_RUN = true ∧ r.malformed = false ∧
        s.pairReady = true ∧ (s.unit .txDac 0).testing = false ∧ r.urgent = true ∧ r.charged = false ∧ s.allowance true < s.dutyUsed + r.air) ∧
    (let r := aTx true false [fill 10 0] 0; let s : State := ({sched (aTx true false [fill 10 0] 0) .idle [] with txAt := (0, .idle)}).shown;
      s.Settled ∧ s.dead = false ∧ s.txHead = some r ∧ s.txNow = none ∧ s.scheduleServes = true ∧ s.on F.PLT_CTRL_RUN = true ∧ r.malformed = false ∧
        s.pairReady = true ∧ (s.unit .txDac 0).testing = false ∧ r.urgent = true ∧ s.dutyUsed + r.air ≤ s.allowance true) ∧
    (let r := { aTx true false [fill 10 0] 0 with seq := 6 }; let x := aTx false false [fill 10 0] 3;
       let s : State := ({sched (aTx false false [fill 10 0] 3) .lockWait [(F.TB_MOV_STATUS_LOCKED 0, 0)] with schedule := [aTx false false [fill 10 0] 3, { aTx true false [fill 10 0] 0 with seq := 6 }]}).shown;
      s.Settled ∧ s.dead = false ∧ s.txHead = some r ∧ s.txNow = some x ∧ x.seq ≠ r.seq ∧ s.txAt.2 ∈ [.lockWait, .listenWait, .rxWait, .budgetWait] ∧
        s.scheduleServes = true ∧ s.on F.PLT_CTRL_RUN = true ∧ r.malformed = false ∧ s.pairReady = false) ∧
    (let r := aTx false false [fill 10 0] 0; let s : State := (sched (aTx false false [fill 10 0] 0) .lockWait []).shown;
      s.Settled ∧ s.dead = false ∧ s.txNow = some r ∧ s.txAt.2 = .lockWait) ∧
    (let r := aTx false false [fill 10 0] 0; let s : State := (sched (aTx false false [fill 10 0] 0) .budgetWait []).shown;
      s.Settled ∧ s.dead = false ∧ s.txNow = some r ∧ s.txAt.2 = .budgetWait) ∧
    (let r := aTx false false [fill 10 0] 7; let s : State := (sched (aTx false false [fill 10 0] 7) .cca []).shown;
      s.Settled ∧ s.dead = false ∧ s.txNow = some r ∧ s.txAt.2 = .cca ∧ s.displaced r = none ∧ r.attempts ≤ 7) ∧
    (let r := aTx false false [fill 10 0] 1; let s : State := (sched (aTx false false [fill 10 0] 1) .backoff []).shown;
      s.Settled ∧ s.dead = false ∧ s.txNow = some r ∧ s.txAt.2 = .backoff ∧ s.displaced r = none) := by
  refine ⟨?_, ?_, ?_, ?_, ?_, ?_, ?_, ?_, ?_, ?_, ?_, ?_, ?_⟩ <;>
    ((try unfold State.Settled State.Shows State.Calm); decide +kernel)

/-- Meets the hypotheses of `Obligations.PilotTransmitter`, clause by clause. -/
theorem witness_PilotTransmitter :
    (let r := aTx false false [fill 10 0] 0; let s : State := (sched (aTx false false [fill 10 0] 0) .started []).shown;
      s.Settled ∧ s.dead = false ∧ s.txNow = some r ∧ s.txAt.2 = .started) ∧
    (let r := aTx false false [fill 10 0] 0; let s : State := (sched (aTx false false [fill 10 0] 0) .window []).shown;
      s.Settled ∧ s.dead = false ∧ s.txNow = some r ∧ s.txAt.2 = .window) ∧
    (let r := aTx false false [fill 10 0] 0; let s : State := (sched (aTx false false [fill 10 0] 0) .turnround []).shown;
      s.Settled ∧ s.dead = false ∧ s.txNow = some r ∧ s.txAt.2 = .turnround ∧ r.payloads ≠ []) ∧
    (let r := aTx false false [] 0; let s : State := (sched (aTx false false [] 0) .turnround []).shown;
      s.Settled ∧ s.dead = false ∧ s.txNow = some r ∧ s.txAt.2 = .turnround ∧ r.payloads = []) ∧
    (let s : State := ({run [] with listen := some (0, 0)}).shown;
      s.Settled ∧ s.dead = false ∧ s.listen ≠ none) ∧
    (let s : State := (run []).shown;
      s.Settled ∧ s.dead = false) := by
  refine ⟨?_, ?_, ?_, ?_, ?_, ?_⟩ <;>
    ((try unfold State.Settled State.Shows State.Calm); decide +kernel)

/-- Meets the hypotheses of `Obligations.PilotReception`, clause by clause. -/
theorem witness_PilotReception :
    (let n : Nat := 95; let s : State := (run (atWork 7 95)).shown;
      s.Settled ∧ s.dead = false ∧ n < 96 ∧ s.rxWorks n = true ∧ s.get (F.PRX_SVC1_STATE n) = 0) ∧
    (let n : Nat := 95; let s : State := (run (atWork 7 95 ++ [(F.PRX_SVC1_STATE 95, 1)])).shown;
      s.Settled ∧ s.dead = false ∧ n < 96 ∧ s.rxWorks n = true ∧ s.get (F.PRX_SVC1_STATE n) = 1) ∧
    (let n : Nat := 95; let w : Word := 0x07FF#16; let s : State := ((run (atWork 7 95 ++ [(F.PRX_SVC1_STATE 95, 2)]))).shown;
      s.Settled ∧ s.dead = false ∧ n < 96 ∧ s.rxWorks n = true ∧ s.get (F.PRX_SVC1_STATE n) = 2 ∧ bit w.toNat 15 = false ∧ bit w.toNat 12 = false ∧
        5 ≤ bits w.toNat 0 11) ∧
    (let n : Nat := 95; let w : Word := 4#16; let s : State := ((run (atWork 7 95 ++ [(F.PRX_SVC1_STATE 95, 2)]))).shown;
      s.Settled ∧ s.dead = false ∧ n < 96 ∧ s.rxWorks n = true ∧ s.get (F.PRX_SVC1_STATE n) = 2 ∧
        (bit w.toNat 15 = true ∨ bit w.toNat 12 = true ∨ bits w.toNat 0 11 < 5)) ∧
    (let n : Nat := 95; let d : List Byte := []; let s : State := ((run (atWork 7 95 ++ [(F.PRX_SVC1_STATE 95, 3)])).putRx 95 { Rx.reset with phr := 2052 }).shown;
      s.Settled ∧ s.dead = false ∧ n < 96 ∧ s.rxWorks n = true ∧ s.get (F.PRX_SVC1_STATE n) = 3 ∧ bits (s.rxOf n).phr 0 11 = d.length + 4) ∧
    (let n : Nat := 95; let d : List Byte := []; let x : BitVec 32 := 1; let s : State := ((run (atWork 7 95 ++ [(F.PRX_SVC1_STATE 95, 3)]))).shown;
      s.Settled ∧ s.dead = false ∧ n < 96 ∧ s.rxWorks n = true ∧ s.get (F.PRX_SVC1_STATE n) = 3 ∧ x ≠ crc32 d ∧ bit (s.rxOf n).phr 11 = false) ∧
    (let n : Nat := 95; let i : Nat := 0; let s : State := (run (atWork 7 95)).shown;
      s.Settled ∧ s.dead = false ∧ n < 96 ∧ s.rxWorks n = true ∧ i < 4 ∧ s.rxBerth i = some n) := by
  refine ⟨?_, ?_, ?_, ?_, ?_, ?_, ?_⟩ <;>
    ((try unfold State.Settled State.Shows State.Calm); decide +kernel)

/-- Meets the hypotheses of `Obligations.UrgentCommands`, clause by clause. -/
theorem witness_UrgentCommands :
    (let w : Word := 0x5A02#16; let s : State := (run []).shown;
      s.Settled ∧ s.dead = false ∧ s.serving = true ∧ s.pinLow = false ∧ s.stage = none ∧ bits w.toNat 8 8 = 0x5A ∧ bits w.toNat 0 2 = 2) ∧
    (let w : Word := 0x5A01#16; let s : State := (run []).shown;
      s.Settled ∧ s.dead = false ∧ s.serving = true ∧ s.pinLow = false ∧ s.stage = none ∧ bits w.toNat 8 8 = 0x5A ∧ bits w.toNat 0 2 = 1) ∧
    (let s : State := (at' .drift []).shown;
      s.Settled ∧ s.dead = false ∧ s.serving = true) ∧
    (let s : State := ({run [] with stage := some ⟨0x89, [(1, 3), (0, 0x045F)]⟩} : State).shown; s.Settled ∧ s.dead = false ∧ s.pinLow = false ∧ s.serving = true ∧
       s.stage = some ⟨0x89, [(1, (3#16).toNat), (0, (0x045F#16).toNat)]⟩ ∧ bits (0x045F#16).toNat 8 8 ≤ 4 ∧
       (bits (0x045F#16).toNat 0 8 < 96 ∨ bits (0x045F#16).toNat 0 8 = 0xFF) ∧ (3#16).toNat ≤ 3) ∧
    (let w : Word := 0x5A01#16; let s : State := (at' .survey []).shown;
      s.Settled ∧ s.dead = false ∧ s.mode = .survey ∧ s.pinLow = false ∧ s.stage = none ∧ bits w.toNat 8 8 = 0x5A ∧ bits w.toNat 0 2 ≠ 3) ∧
    (let s : State := (at' .survey []).shown;
      s.Settled ∧ s.dead = false ∧ s.mode = .survey) := by
  refine ⟨?_, ?_, ?_, ?_, ?_, ?_⟩ <;>
    ((try unfold State.Settled State.Shows State.Calm); decide +kernel)

/-- Meets the hypotheses of `Obligations.Memories`, clause by clause. -/
theorem witness_Memories :
    (let bank : Nat := 15; let row : Nat := 131; let col : Nat := 127; let mem : Nat := 2; let s : State := (run []).shown;
       let x : WordSeen := ⟨false, [], .single⟩; let u : State := s.wordMeets (wordAddr 2 15 131 127) ⟨false, [], .single⟩;
      s.Settled ∧ s.dead = false ∧ 1 ≤ mem ∧ mem ≤ 6 ∧ bank < 64 ∧ row < 1024 ∧ col < 4096 ∧ ¬(mem = 1 ∧ bank = 47 ∧ row = 511 ∧ col = 127) ∧ ¬(mem = 2 ∧
        bank = 15 ∧ row = 127 ∧ col = 127) ∧ s.readable (wordAddr mem bank row col) = true ∧ s.wordMeets (wordAddr mem bank row col) x = u ∧ x.written = false ∧
        x.upset = [] ∧ s.stuckBits (wordAddr mem bank row col) = 0) ∧
    (let mem : Nat := 6; let bank : Nat := 51; let row : Nat := 3; let col : Nat := 95; let s : State := ((run []).putFlips (wordAddr 6 51 3 95) 1).shown;
       let x : WordSeen := ⟨true, [], .copied⟩; let u : State := s.wordMeets (wordAddr 6 51 3 95) ⟨true, [], .copied⟩;
      s.Settled ∧ s.dead = false ∧ 1 ≤ mem ∧ mem ≤ 6 ∧ bank < 64 ∧ row < 1024 ∧ col < 4096 ∧ ¬(mem = 1 ∧ bank = 47 ∧ row = 511 ∧ col = 127) ∧ ¬(mem = 2 ∧
        bank = 15 ∧ row = 127 ∧ col = 127) ∧ s.readable (wordAddr mem bank row col) = true ∧ s.wordMeets (wordAddr mem bank row col) x = u ∧
        check (u.flipsAt (wordAddr mem bank row col)) = .clean) ∧
    (let mem : Nat := 1; let bank : Nat := 47; let row : Nat := 519; let col : Nat := 127; let s : State := (run []).shown;
       let x : WordSeen := ⟨true, [0], .single⟩; let u : State := s.wordMeets (wordAddr 1 47 519 127) ⟨true, [0], .single⟩; let l := [14]; let p := false;
      s.Settled ∧ s.dead = false ∧ 1 ≤ mem ∧ mem ≤ 6 ∧ bank < 64 ∧ row < 1024 ∧ col < 4096 ∧ ¬(mem = 1 ∧ bank = 47 ∧ row = 511 ∧ col = 127) ∧ ¬(mem = 2 ∧
        bank = 15 ∧ row = 127 ∧ col = 127) ∧ s.readable (wordAddr mem bank row col) = true ∧ s.wordMeets (wordAddr mem bank row col) x = u ∧
        check (u.flipsAt (wordAddr mem bank row col)) = .fixed l p) ∧
    (let mem : Nat := 4; let bank : Nat := 4; let row : Nat := 131; let col : Nat := 127; let s : State := (run []).shown;
       let x : WordSeen := ⟨true, [0, 1, 2], .single⟩; let u : State := s.wordMeets (wordAddr 4 4 131 127) ⟨true, [0, 1, 2], .single⟩;
      s.Settled ∧ s.dead = false ∧ 1 ≤ mem ∧ mem ≤ 6 ∧ bank < 64 ∧ row < 1024 ∧ col < 4096 ∧ ¬(mem = 1 ∧ bank = 47 ∧ row = 511 ∧ col = 127) ∧ ¬(mem = 2 ∧
        bank = 15 ∧ row = 127 ∧ col = 127) ∧ s.readable (wordAddr mem bank row col) = true ∧ s.wordMeets (wordAddr mem bank row col) x = u ∧ mem ≤ 4 ∧
        check (u.flipsAt (wordAddr mem bank row col)) = .bad) ∧
    (let s : State := (run []).shown;
      s.Settled ∧ s.dead = false ∧ s.flips = [] ∧ s.words = []) ∧
    (let s : State := (run []).shown; let mem : Nat := 6;
      s.Settled ∧ s.dead = false ∧ 1 ≤ mem ∧ mem ≤ 6) ∧
    (let bank : Nat := 15; let col : Nat := 127; let mem : Nat := 2; let row : Nat := 127; let r := ⟨true, 0x503, true, 0, [], false⟩;
       let s : State := (((run []).putFlips (wordAddr 2 15 127 127) 1).putWord (wordAddr 2 15 127 127) ⟨true, 0x503, true, 0, [], false⟩).shown; let l := [14];
       let p := false;
      s.Settled ∧ s.dead = false ∧ 1 ≤ mem ∧ mem ≤ 6 ∧ bank < 64 ∧ row < 1024 ∧ col < 4096 ∧ s.word (wordAddr mem bank row col) = r ∧ r.testing = true ∧
        check (s.flipsAt (wordAddr mem bank row col)) = .fixed l p ∧ s.stuckBits (wordAddr mem bank row col) = 0 ∧ r.past = []) ∧
    (let bank : Nat := 15; let col : Nat := 127; let mem : Nat := 2; let row : Nat := 127; let r := ⟨true, 0x503, true, 0, [], false⟩;
       let s : State := ((run []).putWord (wordAddr 2 15 127 127) ⟨true, 0x503, true, 0, [], false⟩).shown;
      s.Settled ∧ s.dead = false ∧ 1 ≤ mem ∧ mem ≤ 6 ∧ bank < 64 ∧ row < 1024 ∧ col < 4096 ∧ s.word (wordAddr mem bank row col) = r ∧ r.testing = true ∧
        r.runs = 0) ∧
    (let bank : Nat := 15; let col : Nat := 127; let mem : Nat := 2; let row : Nat := 127; let r := ⟨true, 0x503, true, 1, [], false⟩;
       let s : State := ((run []).putWord (wordAddr 2 15 127 127) ⟨true, 0x503, true, 1, [], false⟩).shown;
      s.Settled ∧ s.dead = false ∧ 1 ≤ mem ∧ mem ≤ 6 ∧ bank < 64 ∧ row < 1024 ∧ col < 4096 ∧ s.word (wordAddr mem bank row col) = r ∧ r.testing = true ∧ mem ≤ 4 ∧
        r.runs = 1 ∧ s.rowsDue = [] ∧ s.freeRows (rowOf (wordAddr mem bank row col)) ≠ []) ∧
    (let bank : Nat := 15; let mem : Nat := 2; let row : Nat := 127; let x := 128;
       let s : State := ({run [] with rowsDue := [2 * 2 ^ 16 + 15 * 2 ^ 10 + 127]}).shown;
      s.Settled ∧ s.dead = false ∧ 1 ≤ mem ∧ mem ≤ 4 ∧ bank < 64 ∧ row < 1024 ∧ s.rowsDue = [mem * 2 ^ 16 + bank * 2 ^ 10 + row] ∧
        (s.freeRows (mem * 2 ^ 16 + bank * 2 ^ 10 + row)).head? = some x) := by
  refine ⟨?_, ?_, ?_, ?_, ?_, ?_, ?_, ?_, ?_, ?_⟩ <;>
    ((try unfold State.Settled State.Shows State.Calm); decide +kernel)

/-- Meets the hypotheses of `Obligations.TestsAndInjection`, clause by clause. -/
theorem witness_TestsAndInjection :
    (let u := ⟨true, 0x901, false, 0, [], false⟩; let s : State := ((run []).putUnit .txDac 0 ⟨true, 0x901, false, 0, [], false⟩).shown;
      s.Settled ∧ s.dead = false ∧ s.unit .txDac 0 = u ∧ u.testing = true ∧ u.retired = false ∧ s.onAir = none ∧ u.past = [] ∧ s.inj = none) ∧
    (let u := ⟨true, 0x901, false, 1, [], false⟩; let s : State := ((run []).putUnit .txDac 0 ⟨true, 0x901, false, 1, [], false⟩).shown;
      s.Settled ∧ s.dead = false ∧ s.unit .txDac 0 = u ∧ u.testing = true ∧ u.retired = false ∧ s.onAir = none ∧ u.runs = 1) ∧
    (let s : State := ({run [] with onAir := some (3, 40, [1])}).shown;
      s.Settled ∧ s.dead = false ∧ s.onAir ≠ none) ∧
    (let s : State := ((run [(F.PROT_CMD_UNIT_TYPE, 10)]).putUnit .txDac 0 ⟨false, 0, false, 0, [], true⟩).shown;
      s.Settled ∧ s.dead = false ∧ s.pinLow = false ∧ s.stage = none ∧ s.gated srcTwoWire 0x260C = false ∧ s.retesting = none ∧ s.get F.PROT_CMD_UNIT_TYPE = 10 ∧
        s.get F.PROT_CMD_UNIT_INDEX = 0 ∧ s.isRetired .txDac 0 = true) ∧
    (let s : State := (run [(F.PROT_CMD_UNIT_TYPE, 10)]).shown;
      s.Settled ∧ s.dead = false ∧ s.pinLow = false ∧ s.stage = none ∧ s.gated srcTwoWire 0x260C = false ∧ s.retesting = none ∧ s.get F.PROT_CMD_UNIT_TYPE = 10 ∧
        s.get F.PROT_CMD_UNIT_INDEX = 0 ∧ s.isRetired .txDac 0 = false) ∧
    (let s : State := ({run [] with retesting := some (10, 0)}).shown;
      s.Settled ∧ s.dead = false ∧ s.retesting = some (10, 0) ∧ s.persistFails .txDac 0 = false) ∧
    (let s : State := (run [(F.INJ_DETECTOR_CODE, 0x0401)]).shown;
      s.Settled ∧ s.dead = false ∧ s.pinLow = false ∧ s.stage = none ∧ s.gated srcTwoWire 0x2705 = false ∧ s.injArmable = true) ∧
    (let s : State := ({run [] with inj := some ⟨0x0401, 4, 0, 0, 1, false, 1⟩}).shown;
      s.Settled ∧ s.dead = false ∧ s.pinLow = false ∧ s.stage = none ∧ s.gated srcTwoWire 0x2705 = false ∧ s.injArmable = false) ∧
    (let s : State := (run []).shown;
      s.Settled ∧ s.dead = false ∧ s.pinLow = false ∧ s.stage = none ∧ s.gated srcTwoWire 0x2705 = false) := by
  refine ⟨?_, ?_, ?_, ?_, ?_, ?_, ?_, ?_, ?_⟩ <;>
    ((try unfold State.Settled State.Shows State.Calm); decide +kernel)

/-- Meets the hypotheses of `Obligations.DomainRestarts`, clause by clause. -/
theorem witness_DomainRestarts :
    (let d : Nat := 7; let cause : Nat := 15; let s : State := (run []).shown;
      s.Settled ∧ s.dead = false ∧ 1 ≤ d ∧ d ≤ 7 ∧ cause < 16 ∧ (s.dom d).step = 0 ∧ s.get (F.DOM_STATE d) = dsOn ∧ (s.dom d).faults = []) ∧
    (let d : Nat := 7; let s : State := ((run []).putDom 7 { Dom.reset with step := 1 }).shown;
      s.Settled ∧ s.dead = false ∧ 1 ≤ d ∧ d ≤ 7 ∧ (s.dom d).dependant = false ∧ (s.dom d).step = 1) ∧
    (let d : Nat := 7; let s : State := ((run []).putDom 7 { Dom.reset with step := 2 }).shown;
      s.Settled ∧ s.dead = false ∧ 1 ≤ d ∧ d ≤ 7 ∧ (s.dom d).dependant = false ∧ (s.dom d).step = 2) ∧
    (let d : Nat := 7; let s : State := ((run [(F.SUP_STATUS_IN_RANGE, 0x3F)]).putDom 7 { Dom.reset with step := 3 }).shown;
      s.Settled ∧ s.dead = false ∧ 1 ≤ d ∧ d ≤ 7 ∧ (s.dom d).dependant = false ∧ (s.dom d).step = 3 ∧
        (suppliesOf d).all (bit (s.get F.SUP_STATUS_IN_RANGE)) = true ∧ s.persistFails .domain d = false) ∧
    (let d : Nat := 5; let s : State := ((run [(F.DOM_STATE 5, dsSwitching)]).putDom 5 { Dom.reset with step := 4 }).shown;
      s.Settled ∧ s.dead = false ∧ 1 ≤ d ∧ d ≤ 7 ∧ (s.dom d).dependant = false ∧ (s.dom d).step = 4 ∧ d < 6 ∧ s.get (F.DOM_STATE d) = dsSwitching ∧
        s.modeHas d = true) ∧
    (let d : Nat := 7; let s : State := ((run []).putDom 7 { Dom.reset with step := 4 }).shown;
      s.Settled ∧ s.dead = false ∧ 1 ≤ d ∧ d ≤ 7 ∧ (s.dom d).dependant = false ∧ (s.dom d).step = 4 ∧ 6 ≤ d) ∧
    (let d : Nat := 6; let s : State := (({run [(F.DOM_STATE 6, dsSwitching)] with rebuilding := true}).putDom 6 { Dom.reset with step := 5 }).shown;
      s.Settled ∧ s.dead = false ∧ 1 ≤ d ∧ d ≤ 7 ∧ s.rebuilding = true ∧ d = 6 ∧ (s.dom 6).step = 5 ∧ s.get (F.DOM_STATE 6) = dsSwitching) ∧
    (let d : Nat := 7; let s : State := ((run []).putDom 7 { Dom.reset with step := 1 }).shown;
      s.Settled ∧ s.dead = false ∧ 1 ≤ d ∧ d ≤ 7 ∧ (s.dom d).step ≠ 0 ∧ s.serving = true) := by
  refine ⟨?_, ?_, ?_, ?_, ?_, ?_, ?_, ?_⟩ <;>
    ((try unfold State.Settled State.Shows State.Calm); decide +kernel)

/-- Meets the hypotheses of `Obligations.DomainSwitches`, clause by clause. -/
theorem witness_DomainSwitches :
    (let k : Nat := 2; let s : State := (run [(⟨0x2A00, 1, 1⟩, 1), (⟨0x2A00, 2, 1⟩, 1)]).shown;
      s.Settled ∧ s.dead = false ∧ s.pinLow = false ∧ s.stage = none ∧ s.serving = true ∧ s.closing = false ∧ s.get (F.DOM_STATE 1) = dsOn ∧ (k = 1 ∨ k = 2) ∧
        bit (s.wordAt 0x2A00) (k - 1) = true ∧ s.get (F.DOM_STATE (1 + k)) = dsOn) ∧
    (let k : Nat := 2; let s : State := (run [(⟨0x2A00, 1, 1⟩, 0), (⟨0x2A00, 2, 1⟩, 0), (F.DOM_STATE 3, dsOff)]).shown;
      s.Settled ∧ s.dead = false ∧ s.pinLow = false ∧ s.stage = none ∧ s.serving = true ∧ s.closing = false ∧ s.get (F.DOM_STATE 1) = dsOn ∧ (k = 1 ∨ k = 2) ∧
        bit (s.wordAt 0x2A00) (k - 1) = false ∧ s.get (F.DOM_STATE (1 + k)) = dsOff) ∧
    (let s : State := (run [(⟨0x2A00, 1, 1⟩, 1), (⟨0x2A00, 2, 1⟩, 1)]).shown;
      s.Settled ∧ s.dead = false ∧ s.pinLow = false ∧ s.stage = none ∧ s.serving = true ∧ s.closing = false ∧ s.get (F.DOM_STATE 1) = dsOn ∧
        bit (s.wordAt 0x2A00) 2 = true ∧ s.get (F.DOM_STATE 7) = dsOn) ∧
    (let s : State := (run [(⟨0x2A00, 1, 1⟩, 0), (⟨0x2A00, 2, 1⟩, 0), (F.DOM_STATE 7, dsRetention)]).shown;
      s.Settled ∧ s.dead = false ∧ s.pinLow = false ∧ s.stage = none ∧ s.serving = true ∧ s.closing = false ∧ s.get (F.DOM_STATE 1) = dsOn ∧
        bit (s.wordAt 0x2A00) 2 = false ∧ s.get (F.DOM_STATE 7) = dsRetention) ∧
    (let d : Nat := 7; let g : Nat := 3; let s : State := ((run []).putDom 7 { Dom.reset with goal := some 3 }).shown;
      s.Settled ∧ s.dead = false ∧ 1 ≤ d ∧ d ≤ 7 ∧ (s.dom d).goal = some g ∧ g < 4 ∧ (d ≠ 7 ∨ s.quaysStill = true)) ∧
    (let s : State := (run []).shown; let sup : Nat := 1; let mv : Nat := 65535;
      s.Settled ∧ s.dead = false ∧ sup < 6 ∧ mv < 65536 ∧ inR (supRange sup).1 (supRange sup).2 mv = false ∧ fedBy sup = []) ∧
    (let s : State := (run []).shown; let sup : Nat := 2; let mv : Nat := 65535;
      s.Settled ∧ s.dead = false ∧ sup < 6 ∧ mv < 65536 ∧ inR (supRange sup).1 (supRange sup).2 mv = false ∧ sup = 2 ∧ (s.dom 1).step = 0 ∧
        s.get (F.DOM_STATE 1) = dsOn ∧ (∀ d < 8, (s.dom d).faults = [])) ∧
    (let s : State := (run []).shown; let sup : Nat := 5; let mv : Nat := (supRange 5).2;
      s.Settled ∧ s.dead = false ∧ sup < 6 ∧ mv < 65536 ∧ inR (supRange sup).1 (supRange sup).2 mv = true) ∧
    (let temp : Word := 0x7FFF#16; let s : State := (run [(F.SUP_TEMP_WARN_DEG, 105)]).shown;
      s.Settled ∧ s.dead = false ∧ (100 * s.get F.SUP_TEMP_WARN_DEG : Nat) ≤ sext 16 temp.toNat ∧ s.get F.SUP_STATUS_TEMP_WARN = 0) ∧
    (let temp : Word := 10200#16; let s : State := (run [(F.SUP_TEMP_WARN_DEG, 105), (F.SUP_STATUS_TEMP_WARN, 1)]).shown;
      s.Settled ∧ s.dead = false ∧ sext 16 temp.toNat ≤ (100 * s.get F.SUP_TEMP_WARN_DEG : Nat) - (300 : Int) ∧ s.get F.SUP_STATUS_TEMP_WARN = 1) := by
  refine ⟨?_, ?_, ?_, ?_, ?_, ?_, ?_, ?_, ?_, ?_⟩ <;>
    ((try unfold State.Settled State.Shows State.Calm); decide +kernel)

/-- Meets the hypotheses of `Obligations.FormKept`. -/
theorem witness_FormKept :
    let s : State := { run [] with pending := [.twStop] }
    s.Formed ∧ ∃ t, step s = .next t := by
  refine ⟨by unfold State.Formed; decide +kernel, _, rfl⟩

/-- Meets the hypotheses of `Obligations.StatusKept`. -/
theorem witness_StatusKept :
    let s : State := { (run []).shown with pending := [.twStop] }
    s.Settled ∧ s.dead = false ∧ ∃ t, step s = .next t := by
  refine ⟨by unfold State.Settled State.Shows State.Calm; decide +kernel, by decide +kernel, _, rfl⟩

/-- Meets the hypotheses of `Obligations.WhatLasts`, clause by clause: no command named there; ANCHOR; no VKEEP; `RESET_N` low. -/
theorem witness_WhatLasts :
    (let c := Instr.twStop; (∃ t, exec c (run []) = .next t) ∧ c ≠ .kekBurnDone ∧ c ≠ .vkeepFall ∧ c ≠ .timeSetWholeSecond ∧
      (∀ e g, c ≠ .ppsEdge e g) ∧ (∀ ms d u, c ≠ .regulateEnd ms d u) ∧
      (∀ m b r, c ≠ .rowReplaceDone m b r) ∧ c ≠ .ccaMeasureDone ∧ (∀ x, c ≠ .dutyBinExpire x)) ∧
    (let s := at' .anchor []; (∃ t, exec .twStop s = .next t) ∧ s.mode = .anchor) ∧
    (let c := Instr.twStop; let s := { run [] with dead := true }; (∃ t, exec c s = .next t) ∧ s.dead = true ∧
      c ∉ [Instr.vkeepPowerOn, .vkeepFall, .resetPinWarm, .resetPinFull, .resetNRelease]) ∧
    (let c := Instr.quayDomainOn; let s := { run [] with pinLow := true }; (∃ t, exec c s = .next t) ∧ s.pinLow = true ∧
      c ∈ [Instr.quayDomainRetain, .quayDomainOn]) := by
  refine ⟨⟨⟨_, rfl⟩, ?_⟩, ⟨⟨_, rfl⟩, by decide +kernel⟩, ⟨⟨_, rfl⟩, rfl, by decide⟩, ⟨⟨_, rfl⟩, rfl, by decide⟩⟩
  simp

/-- Silence correlates nowhere. -/
theorem correlate_silence (n : Nat) (hn : 4864 ≤ n) : correlate (List.replicate n 0) (List.replicate n 0) = some (-384, false) := by
  have h0 : ∀ lag : Int, (corrAt (List.replicate n 0) (List.replicate n 0) lag).1 = 0 := by
    intro lag
    simp [corrAt, List.drop_replicate, List.take_replicate, List.zipWith_replicate]
  have hf : ∀ (l : List Nat) (c : Int × Int × Nat × Nat), c.2.1 = 0 →
      l.foldl (fun (b : Option (Int × Int × Nat × Nat)) (i : Nat) =>
        match b with
        | none => some ((i : Int) - 384, corrAt (List.replicate n 0) (List.replicate n 0) ((i : Int) - 384))
        | some (_, d) => if corrAbove (corrAt (List.replicate n 0) (List.replicate n 0) ((i : Int) - 384)) d then
            some ((i : Int) - 384, corrAt (List.replicate n 0) (List.replicate n 0) ((i : Int) - 384)) else b) (some c) = some c := by
    intro l
    induction l with
    | nil => intro c _; rfl
    | cons i l ih =>
      intro c hc
      simp only [List.foldl_cons]
      have : corrAbove (corrAt (List.replicate n 0) (List.replicate n 0) ((i : Int) - 384)) c.2 = false := by
        simp only [corrAbove, h0]; simp
      simp only [this, Bool.false_eq_true, if_false]
      exact ih c hc
  unfold correlate
  simp only [List.length_replicate, Nat.not_lt.mpr hn, decide_false, Bool.or_self, Bool.false_eq_true, if_false]
  rw [show (769 : Nat) = 768 + 1 from rfl, List.range_succ_eq_map, List.foldl_cons]
  simp only [Nat.cast_zero, zero_sub]
  refine (congrArg (Option.map _) (hf _ _ (h0 _))).trans ?_
  simp only [Option.map_some, corrStrong, h0]; simp

/-- Meets the hypotheses of `Obligations.AnalogueFades` where no peak suffices: two members that read different intakes, and silence. -/
theorem witness_AnalogueFades_silence :
    let a : Pcm := ⟨0, 0, 0, List.replicate 4864 0, List.replicate 4864 0, true, []⟩
    let s : State := ((fading 2 xfAlign 0 [(F.LN_CTRL_INTAKE 95, 1)]).putAudio 95 [a]).putAudio 94 [a]
    s.dead = false ∧ s.std 95 = 2 ∧ s.fadeOf 95 = some (aFade 0) ∧ s.partner 95 = 94 ∧ s.xf 95 = xfAlign ∧
      ∃ r, (if s.sameSignal 95 (s.partner 95) then some (s.exactLead 95 (s.partner 95), true) else s.foundLead 95 (s.partner 95)) = some r ∧
        r.2 = false := by
  intro a s
  have hp : s.partner 95 = 94 := by decide +kernel
  have h1 : s.sameSignal 95 94 = false := by decide +kernel
  have hm : a.mono = List.replicate 4864 0 := by decide +kernel
  have h2 : s.paired 95 94 = [(a, a)] := by decide +kernel
  have h3 : ∃ x, s.foundLead 95 94 = some (x, false) := by
    unfold State.foundLead
    simp only [h2, List.length_singleton, Nat.reduceSub, List.drop_zero, List.map_cons, List.map_nil, List.flatten_cons, List.flatten_nil,
      List.append_nil, hm, correlate_silence 4864 (Nat.le_refl _), Option.map_some]
    exact ⟨_, rfl⟩
  obtain ⟨x, hx⟩ := h3
  refine ⟨by decide +kernel, by decide +kernel, by decide +kernel, hp, by decide +kernel, (x, false), ?_, rfl⟩
  rw [hp, h1, hx]
  rfl

/-- Meets the hypotheses of `Obligations.KeysUnread`: two states that differ in the key of slot 0. -/
theorem witness_KeysUnread :
    let s : State := { run [] with slots := [(0, ⟨some (fill 16 1), 1, 0, [], none⟩)] }
    let u : State := { run [] with slots := [(0, ⟨some (fill 16 2), 1, 0, [], none⟩)] }
    u = { s with slots := u.slots, kek := u.kek, keyWrap := u.keyWrap, kekData := u.kekData, kekBurn := u.kekBurn } ∧ u ≠ s ∧
    (∀ i, (u.slot i).key.map List.length = (s.slot i).key.map List.length ∧ (u.slot i).usage = (s.slot i).usage ∧
      (u.slot i).gen = (s.slot i).gen ∧ (u.slot i).pending.isSome = (s.slot i).pending.isSome) := by
  generalize run [] = b
  refine ⟨rfl, fun h => absurd (congrArg State.slots h) (show [(0, Slot.mk (some (fill 16 2)) 1 0 [] none)] ≠ [(0, Slot.mk (some (fill 16 1)) 1 0 [] none)] by decide),
    fun i => ?_⟩
  unfold State.slot
  simp only [Tbl.get]
  split <;> simp [fill]

end

end Sys2Proof.Tests
end

/-! SUPPORT. What the proofs share: the addresses that hold a register, effects on register fields alone, the entry of a write, and refusals
(R9, R13, R63, R417, R434). -/

namespace Sys2Proof.Machine

/-! Addresses that hold a register. -/

/-- A register of the block that covers an address is found there, or the service words of the berth are. -/
theorem regAt_isSome_of_covers (std : Nat) {a : Nat} {r : RDesc} (hr : r ∈ blockOf a) (hc : r.covers a = true) : (regAt std a).isSome := by
  unfold regAt
  dsimp only
  split
  · rfl
  · simpa [List.find?_isSome] using ⟨r, hr, hc⟩

/-- The berths' part of the map (Table 20.1). -/
theorem blockOf_berth {a : Nat} (h1 : 0x400 ≤ a) (h2 : a < 0x1C00) : blockOf a = regsBerth := by
  unfold blockOf
  simp only [show ¬ a < 0x100 by omega, show ¬ a < 0x200 by omega, show ¬ a < 0x300 by omega, show ¬ a < 0x400 by omega, h2, if_true, if_false]

/-- The addresses at which a write is an operation of its own, and not decided by the register's fields and rules alone (Table 3.16, R60, and the
command registers of every chapter). -/
def commandAt (a : Nat) : Bool :=
  [0x5, 0x81, 0x105, 0x106, 0x260, 0x270, 0x2340, 0x2401, 0x260C, 0x2705, 0x2A00].contains a || inR 0x10 0x12 a || inR 0x89 0x8B a ||
  inR 0x154 0x156 a || (Nat.ble 0x400 a && Nat.blt a 0x1C00 && (a - 0x400) % 0x40 == 0xE) || isCommit a

/-- At every other address a write is decided by its register. -/
theorem State.regWrite_of_not_commandAt (s : State) (src w : Nat) {a : Nat} (h : commandAt a = false) :
    s.regWrite src a w = s.plainWrite src a w := by
  simp only [commandAt, Bool.or_eq_false_iff, List.contains_eq_mem, List.mem_cons, List.not_mem_nil, or_false, decide_eq_false_iff_not,
    not_or] at h
  obtain ⟨⟨⟨⟨⟨hs, h1⟩, h2⟩, h3⟩, hf⟩, hc⟩ := h
  have hf' : (Nat.ble 0x400 a && Nat.blt a 0x1C00 && decide ((a - 0x400) % 0x40 = 0xE) && inR 1 4 (s.std (berthOf a))) = false := by
    rw [beq_eq_decide] at hf; rw [hf, Bool.false_and]
  unfold State.regWrite
  simp [hs, h1, h2, h3, hf', hc]

/-- Every COMMIT register stands in the map. -/
theorem regAt_isSome_of_isCommit (std : Nat) {a : Nat} (h : isCommit a = true) : (regAt std a).isSome := by
  simp only [isCommit, Bool.or_eq_true, Bool.and_eq_true, beq_iff_eq, Nat.ble_eq, Nat.blt_eq] at h
  rcases h with (((((((((rfl | rfl) | rfl) | rfl) | rfl) | rfl) | ⟨⟨h1, h2⟩, ho⟩) | ⟨⟨h1, h2⟩, ho⟩) | ⟨⟨h1, h2⟩, ho⟩) | ⟨⟨h1, h2⟩, ho⟩)
  iterate 6 rfl
  · have hb := blockOf_berth h1 h2
    rcases ho with ho | ho
    · exact regAt_isSome_of_covers std (r := regsBerthA[6]) (by rw [hb]; decide) (by simp [RDesc.covers, regsBerthA]; omega)
    · exact regAt_isSome_of_covers std (r := regsBerthB[1]) (by rw [hb]; decide) (by simp [RDesc.covers, regsBerthB]; omega)
  · obtain rfl | rfl | rfl | rfl : a = 0x2107 ∨ a = 0x2117 ∨ a = 0x2127 ∨ a = 0x2137 := by omega
    all_goals rfl
  · obtain rfl | rfl | rfl | rfl : a = 0x230D ∨ a = 0x231D ∨ a = 0x232D ∨ a = 0x233D := by omega
    all_goals rfl
  · obtain rfl | rfl | rfl | rfl | rfl | rfl | rfl | rfl : a = 0x244A ∨ a = 0x245A ∨ a = 0x246A ∨ a = 0x247A ∨ a = 0x248A ∨ a = 0x249A ∨
        a = 0x24AA ∨ a = 0x24BA := by omega
    all_goals rfl

/-- Every address of an operation holds a register, whatever the standard of the berth in whose window it may lie. -/
theorem regAt_isSome_of_commandAt (std : Nat) {a : Nat} (h : commandAt a = true) : (regAt std a).isSome := by
  have range : ∀ lo, inR lo (lo + 2) a = true → a = lo ∨ a = lo + 1 ∨ a = lo + 2 := fun lo hr => by
    simp only [inR, Bool.and_eq_true, Nat.ble_eq] at hr; omega
  simp only [commandAt, Bool.or_eq_true, List.contains_eq_mem, List.mem_cons, List.not_mem_nil, or_false, decide_eq_true_eq] at h
  rcases h with ((((hs | h1) | h2) | h3) | hf) | hc
  · rcases hs with rfl | rfl | rfl | rfl | rfl | rfl | rfl | rfl | rfl | rfl | rfl <;> rfl
  · rcases range _ h1 with rfl | rfl | rfl <;> rfl
  · rcases range _ h2 with rfl | rfl | rfl <;> rfl
  · rcases range _ h3 with rfl | rfl | rfl <;> rfl
  · simp only [Bool.and_eq_true, Nat.ble_eq, Nat.blt_eq, beq_iff_eq] at hf
    obtain ⟨⟨h1, h2⟩, ho⟩ := hf
    simp [regAt, h1, h2, ho]
  · exact regAt_isSome_of_isCommit std hc

/-- A write to an address that no register has is no operation of its own. -/
theorem State.regWrite_undefined (s : State) (src w : Nat) {a : Nat} (h : regAt (s.stdAt a) a = none) :
    s.regWrite src a w = s.plainWrite src a w := by
  refine s.regWrite_of_not_commandAt src w ?_
  by_contra hc
  have := regAt_isSome_of_commandAt (s.stdAt a) (by simpa using hc)
  simp [h] at this

/-- The addresses of the windows that a selector points at an item (R145, R259, R279, R387, R441). -/
def windowAt (a : Nat) : Bool :=
  inR 0x2001 0x2003 a || inR 0x2005 0x200B a || inR 0x74 0x76 a || inR 0x89 0x8B a || inR 0x3011 0x3053 a || inR 0x3001 0x3001 a ||
  inR 0x3100 0x327F a

/-- Outside the windows a register is held at its own address. -/
theorem State.phys_of_not_windowAt (s : State) {a : Nat} (h : windowAt a = false) : s.phys a = a := by
  simp only [windowAt, inR, Bool.or_eq_false_iff] at h
  obtain ⟨⟨⟨⟨⟨⟨h1, h2⟩, h3⟩, h4⟩, h5⟩, h6⟩, h7⟩ := h
  unfold State.phys
  simp only [h1, h2, h3, h4, h5, h6, h7, Bool.or_self, Bool.false_eq_true, if_false]

/-! Effects on register fields alone. -/

/-- From `s` to `t` nothing but register fields has changed. -/
def State.regsOnly (s t : State) : Prop := t = { s with regs := t.regs }

theorem State.regsOnly.refl (s : State) : s.regsOnly s := rfl

theorem State.regsOnly.put {s t : State} (h : s.regsOnly t) (f : Fld) (v : Nat) : s.regsOnly (t.put f v) := State.rest_put h f v

theorem State.regsOnly.up {s t : State} (h : s.regsOnly t) (f : Fld) : s.regsOnly (t.up f) := h.put f 1

theorem State.regsOnly.down {s t : State} (h : s.regsOnly t) (f : Fld) : s.regsOnly (t.down f) := h.put f 0

theorem State.regsOnly.each {α : Type} {s t : State} {l : List α} {g : α → State → State} (h : s.regsOnly t)
    (hg : ∀ a u, s.regsOnly u → s.regsOnly (g a u)) : s.regsOnly (t.each l g) := by
  unfold State.each
  induction l generalizing t with
  | nil => exact h
  | cons a l ih => exact ih (hg a t h)

theorem State.fieldsBut.each {α : Type} {fs : List Fld} {s t : State} {l : List α} {g : α → State → State} (h : State.fieldsBut fs s t)
    (hg : ∀ a ∈ l, ∀ u, State.fieldsBut fs s u → State.fieldsBut fs s (g a u)) : State.fieldsBut fs s (t.each l g) := by
  unfold State.each
  induction l generalizing t with
  | nil => exact h
  | cons a l ih => exact ih (hg a List.mem_cons_self t h) fun b hb => hg b (List.mem_cons_of_mem a hb)

/-- Register fields end no fade. -/
theorem State.regsOnly.calm {s t : State} (h : s.regsOnly t) (hc : s.Calm) : t.Calm := hc.of_eq (by rw [h]) (by rw [h])

/-! Entries of the change journal for a write (R13, R63, R327). -/

/-- A write leaves no entry, or one of its address and result. -/
theorem State.journalWrite_eq (s : State) (src a old new res : Nat) :
    s.journalWrite src a old new res = s ∨ ∃ o n, s.journalWrite src a old new res = s.journal a o n src res 0 := by
  unfold State.journalWrite
  split
  · exact .inl rfl
  · split
    · exact .inr ⟨0, 0, rfl⟩
    · exact .inr ⟨old, new, rfl⟩

/-- It leaves everything but the journal and its fields. -/
theorem State.journalWrite_rest (s : State) (src a old new res : Nat) :
    s.journalWrite src a old new res = { s with
      regs := (s.journalWrite src a old new res).regs, jnl := (s.journalWrite src a old new res).jnl,
      jnlCount := (s.journalWrite src a old new res).jnlCount, jnlLost := (s.journalWrite src a old new res).jnlLost } := by
  rcases s.journalWrite_eq src a old new res with h | ⟨o, n, h⟩
  · rw [h]
  · rw [h, State.journal_rest]

theorem State.fieldsBut.journalWrite {l : List Fld} {s t : State} (h : State.fieldsBut l s t) (src a old new res : Nat)
    (h1 : F.JNL_NEWEST_NUMBER.key ∈ l.map Fld.key) (h2 : F.JNL_STATUS_UNREAD_LOST.key ∈ l.map Fld.key) :
    State.fieldsBut l s (t.journalWrite src a old new res) := by
  rcases t.journalWrite_eq src a old new res with e | ⟨o, n, e⟩
  · rw [e]; exact h
  · rw [e]; exact h.journal a o n src res 0 h1 h2

/-- The entry of a write ends no fade. -/
theorem State.Calm.journalWrite {s : State} (h : s.Calm) (src a old new res : Nat) : (s.journalWrite src a old new res).Calm :=
  h.of_eq (by rw [State.journalWrite_rest]) (by rw [State.journalWrite_rest])

/-- The end of a command that leaves, beside the entry of a write, register fields only. -/
theorem State.changes_journalWrite {l : List Fld} {s t : State} {src a old new res : Nat} (hs : s.Settled)
    (hr : (s.journalWrite src a old new res).regsOnly t) (hk : ∀ k ∈ shownKeys, k ∉ l.map Fld.key) (hb : State.fieldsBut l s t) :
    s.changes l (s.journalWrite src a old new res) (s.finish t) := by
  refine State.changes_finish hs.1 (hs.2.journalWrite _ _ _ _ _) hr ?_ ?_ ?_ ?_ hk hb <;> rw [State.journalWrite_rest]

/-! Words without staged ones before them. -/

theorem State.touch_unstaged {s : State} (hst : s.stage = none) (a : Nat) : s.touch a = s := by unfold State.touch; rw [hst]

theorem State.write_unstaged {s : State} (hst : s.stage = none) (a w : Nat) (rule : Rule) :
    s.write srcTwoWire a w rule = s.writeAt srcTwoWire a w rule := by
  unfold State.write State.discards
  simp only [State.touch_unstaged hst, hst, if_true, State.when, Bool.false_eq_true, if_false]

/-! Refusals (R13, R417, R434). -/

/-- A refusal from the two-wire port whose result has the refusal bit `f`. -/
theorem State.refuse_twoWire (s : State) (a old new : Nat) {res : Nat} {f : Fld} (hf : ∀ t : State, t.refusalBit res = t.up f) :
    s.refuse srcTwoWire a old new res =
      (((s.journalWrite srcTwoWire a old new res).up f).put F.TW_LAST_REFUSED_ADDRESS a).up F.TW_STATUS_REFUSED_EV := by
  unfold State.refuse; rw [hf]; rfl

/-- A refused word of the two-wire port: its refusal bit, its address and REFUSED_EV show it, and nothing else but its entry changes. -/
theorem State.refuse_finish {s : State} (hs : s.Settled) {a : Nat} (old new : Nat) (ha : a < 65536) {res : Nat} {f : Fld}
    (hf : ∀ t : State, t.refusalBit res = t.up f) (hw : f.width = 1)
    (hk : f.key ∉ F.TW_LAST_REFUSED_ADDRESS.key :: F.TW_STATUS_REFUSED_EV.key :: shownKeys) :
    let t := s.finish (s.refuse srcTwoWire a old new res)
    t.get f = 1 ∧ t.get F.TW_LAST_REFUSED_ADDRESS = a ∧ t.get F.TW_STATUS_REFUSED_EV = 1 ∧
      s.changes [f, F.TW_LAST_REFUSED_ADDRESS, F.TW_STATUS_REFUSED_EV, F.JNL_NEWEST_NUMBER, F.JNL_STATUS_UNREAD_LOST]
        (s.journalWrite srcTwoWire a old new res) t := by
  simp only [List.mem_cons, not_or] at hk
  obtain ⟨hk1, hk2, hk3⟩ := hk
  rw [s.refuse_twoWire a old new hf]
  have hr := (((State.regsOnly.refl (s.journalWrite srcTwoWire a old new res)).up f).put F.TW_LAST_REFUSED_ADDRESS a).up F.TW_STATUS_REFUSED_EV
  have hc := hr.calm (hs.2.journalWrite _ _ _ _ _)
  refine ⟨(State.get_finish hc hk3).trans ?_, (State.get_finish hc (by decide)).trans ?_, (State.get_finish hc (by decide)).trans ?_,
    State.changes_journalWrite hs hr ?_ ?_⟩
  · simp [State.up, State.get_put, hk1, hk2, hw]
  · simpa [State.up, State.get_put, F.TW_LAST_REFUSED_ADDRESS, F.TW_STATUS_REFUSED_EV, Fld.key] using ha
  · simp [State.up, F.TW_STATUS_REFUSED_EV]
  · intro k h
    simp only [List.map_cons, List.map_nil, List.mem_cons, List.not_mem_nil, or_false, not_or]
    refine ⟨fun e => hk3 (e ▸ h), ?_⟩
    clear hk1 hk2 hk3
    revert k; decide
  · exact ((((State.fieldsBut.refl _ s).journalWrite _ _ _ _ _ (by simp) (by simp)).up (by simp)).put (by simp) _).up (by simp)

/-- A word at an address that no register has is refused as undefined (R9, R13). -/
theorem State.plainWrite_undefined {s : State} {a : Nat} (w : Nat) (hst : s.stage = none) (hr : regAt (s.stdAt a) a = none) :
    s.plainWrite srcTwoWire a w = s.refuse srcTwoWire a 0 w resUndefined := by
  unfold State.plainWrite
  simp only [hr, State.write_unstaged hst, State.writeAt]

end Sys2Proof.Machine

/-! A word of a register without a row of its own: refused by its class, or accepted and in force at once (R12, R13, R28). -/

namespace Sys2Proof.Machine

/-- A value that breaks a class rule is refused with its result (R12). -/
theorem State.judge_refused {s : State} {src a base new res : Nat} {r : RDesc} {rule : Rule}
    (hc : s.classBreak src base r (s.regValue r base) new = some res) :
    s.judge src a base r new rule =
      (s.refuse src a (bits (s.regValue r base) (16 * (a - base)) 16) (bits new (16 * (a - base)) 16) res, none) := by
  unfold State.judge
  simp only [hc]

theorem State.wordAt_of_regAt {s : State} {a base : Nat} {r : RDesc} (hr : regAt (s.stdAt a) a = some (r, base)) :
    s.wordAt a = bits (s.regValue r base) (16 * (a - base)) 16 := by
  unfold State.wordAt; rw [hr]

/-- A word of a register of one word that stands outside the berths and the cranes and breaks a class rule is refused. -/
theorem State.plainWrite_classBreak {s : State} {a res : Nat} {r : RDesc} (w : Nat) (hst : s.stage = none)
    (hr : regAt (s.stdAt a) a = some (r, a)) (hg : s.gated srcTwoWire a = false) (h1 : r.words = 1) (ha : a < 0x400) (hw : w < 65536)
    (hc : s.classBreak srcTwoWire a r (s.regValue r a) w = some res) :
    s.plainWrite srcTwoWire a w = s.refuse srcTwoWire a (s.wordAt a) w res := by
  have hn : (a == 0x400 + 0x40 * berthOf a) = false := by simp only [beq_eq_false_iff_ne]; omega
  have hwb : bits w 0 16 = w := by simp only [bits]; omega
  unfold State.plainWrite
  simp only [hr, State.write_one _ hst hr hg h1, State.judge_refused hc, hn, Bool.false_and, State.when, Bool.false_eq_true, if_false,
    State.wordAt_of_regAt hr, Nat.sub_self, Nat.mul_zero, hwb]

/-- An accepted word of a register of one word that holds no crane command: its fields, its entry, and what its block does with it (R12, R13). -/
theorem State.plainWrite_accepted {s : State} {a : Nat} {r : RDesc} (w : Nat) (hst : s.stage = none)
    (hr : regAt (s.stdAt a) a = some (r, a)) (hg : s.gated srcTwoWire a = false) (h1 : r.words = 1)
    (hcr : (Nat.ble 0x1C00 a && Nat.blt a 0x1E10 && (a - 0x1C00) % 0x10 == 7) = false)
    (hc : s.classBreak srcTwoWire a r (s.regValue r a) w = none) (hl : legal (s.stdAt a) r a w = true)
    (hv : valueRule srcTwoWire a r s (s.regValue r a) w = none) :
    s.plainWrite srcTwoWire a w = (s.acceptWrite srcTwoWire a r (s.regValue r a) w).afterWrite s a w := by
  have hcr' : (srcTwoWire != srcImage && Nat.ble 0x1C00 a && Nat.blt a 0x1E10 && (a - 0x1C00) % 0x10 == 7) = false := by
    rw [show (srcTwoWire != srcImage) = true from rfl, Bool.true_and]; exact hcr
  unfold State.plainWrite
  simp only [hr, hcr', Bool.false_eq_true, if_false, State.write_one _ hst hr hg h1, State.judge_ok hc hl hv]
  rfl

/-- The fields of a register that the supervisor owns take their bits, at once in force (R28, R60). -/
theorem State.each_writeField_owned {s : State} {a : Nat} {l : List FDesc} (new : Nat) (hc : ∀ t : State, t.commitAt a = none)
    (hwin : windowAt a = false) (hf : ∀ f ∈ l, f.acc = .rw) :
    s.each l (fun f t => t.writeField srcTwoWire a f new) = s.each l (fun f t => t.put ⟨a, f.lo, f.width⟩ (bits new f.lo f.width)) := by
  refine List.foldl_ext _ _ _ fun t f h => ?_
  unfold State.writeField
  simp only [hf f h, hc, t.phys_of_not_windowAt hwin]
  exact ite_self _

/-- A legal word of a register of one word whose fields are LIVE and the supervisor's: its entry, its fields, and what the write does beyond
them (R12, R13, R28). -/
theorem State.plainWrite_owned {s : State} {a w : Nat} {r : RDesc} (hst : s.stage = none) (hr : regAt (s.stdAt a) a = some (r, a))
    (hg : s.gated srcTwoWire a = false) (h1 : r.words = 1)
    (hcr : (Nat.ble 0x1C00 a && Nat.blt a 0x1E10 && (a - 0x1C00) % 0x10 == 7) = false) (hc : ∀ t : State, t.commitAt a = none)
    (hwin : windowAt a = false) (hf : ∀ f ∈ r.fields, f.acc = .rw ∧ f.cls = .live) (hw : w < 65536) (hl : legal (s.stdAt a) r a w = true) :
    s.plainWrite srcTwoWire a w = ((s.journalWrite srcTwoWire a (s.wordAt a) w resAccepted).each r.fields
      (fun f t => t.put ⟨a, f.lo, f.width⟩ (bits w f.lo f.width))).afterWrite s a w := by
  have hwb : bits w 0 16 = w := by simp only [bits]; omega
  have hcl : s.classBreak srcTwoWire a r (s.regValue r a) w = none := by
    unfold State.classBreak
    rw [List.findSome?_eq_none_iff]
    intro f h
    simp [(hf f h).2, classRefusal]
  have hv : valueRule srcTwoWire a r s (s.regValue r a) w = none := by
    simp only [windowAt, Bool.or_eq_false_iff, inR] at hwin
    obtain ⟨⟨⟨⟨⟨⟨h1, h2⟩, h3⟩, h4⟩, h5⟩, h6⟩, h7⟩ := hwin
    have e1 : a ≠ 0x2001 := by rintro rfl; simp at h1
    have e2 : a ≠ 0x3001 := by rintro rfl; simp at h6
    unfold valueRule
    simp [e1, e2, inR, h5, h7, hc]
  have hs : s.shadows srcTwoWire a r = false := by unfold State.shadows; rw [hc]; simp
  rw [State.plainWrite_accepted w hst hr hg h1 hcr hcl hl hv, State.acceptWrite, hs, ← State.each_writeField_owned w hc hwin fun f h => (hf f h).1,
    State.wordAt_of_regAt hr, h1]
  simp [hwb]

/-! `ERR_EXPORT` and `MSR_TCXO_DRIFT`. -/

/-- The register `ERR_EXPORT` (Table 18.12). -/
def regErrExport : RDesc := ⟨0x2825, 0x1, 1, 1, [⟨6, 1, .rw, .live, 1⟩, ⟨5, 1, .rw, .live, 1⟩, ⟨4, 1, .rw, .live, 1⟩, ⟨3, 1, .rw, .live, 1⟩,
  ⟨2, 1, .rw, .live, 1⟩, ⟨1, 1, .rw, .live, 0⟩]⟩

theorem regAt_errExport (std : Nat) : regAt std 0x2825 = some (regErrExport, 0x2825) := rfl

/-- An accepted word of `ERR_EXPORT` puts its six bits, and leaves no entry (R410). -/
theorem State.regWrite_errExport {s : State} {w : Nat} (hst : s.stage = none) (hg : s.gated srcTwoWire 0x2825 = false) (hw : w < 65536) :
    s.regWrite srcTwoWire 0x2825 w = (((((s.put F.ERR_EXPORT_NOTICE (bits w 6 1)).put F.ERR_EXPORT_MODE (bits w 5 1)).put
      F.ERR_EXPORT_STATE (bits w 4 1)).put F.ERR_EXPORT_LASTING (bits w 3 1)).put F.ERR_EXPORT_TRANSIENT (bits w 2 1)).put
      F.ERR_EXPORT_CORRECTED (bits w 1 1) := by
  rw [s.regWrite_of_not_commandAt _ _ (by rfl), State.plainWrite_owned hst (regAt_errExport _) hg rfl rfl (fun _ => rfl) rfl (by decide) hw rfl]
  rfl

/-- The fields of `ERR_EXPORT`. -/
def fldsErrExport : List Fld := [F.ERR_EXPORT_NOTICE, F.ERR_EXPORT_MODE, F.ERR_EXPORT_STATE, F.ERR_EXPORT_LASTING, F.ERR_EXPORT_TRANSIENT,
  F.ERR_EXPORT_CORRECTED]

/-- An accepted word of `ERR_EXPORT` at the end of its command: each field holds its bit of the word. -/
theorem State.finish_regWrite_errExport {s : State} {w : Nat} (hs : s.Settled) (hst : s.stage = none)
    (hg : s.gated srcTwoWire 0x2825 = false) (hw : w < 65536) :
    let t := s.finish (s.regWrite srcTwoWire 0x2825 w)
    (∀ f ∈ fldsErrExport, t.get f = bits w f.lo 1) ∧ s.onlyFields fldsErrExport t := by
  rw [State.regWrite_errExport hst hg hw]
  have hr := ((((((State.regsOnly.refl s).put F.ERR_EXPORT_NOTICE (bits w 6 1)).put F.ERR_EXPORT_MODE (bits w 5 1)).put
    F.ERR_EXPORT_STATE (bits w 4 1)).put F.ERR_EXPORT_LASTING (bits w 3 1)).put F.ERR_EXPORT_TRANSIENT (bits w 2 1)).put
    F.ERR_EXPORT_CORRECTED (bits w 1 1)
  refine ⟨fun f hf => ?_, State.changes_finish hs.1 hs.2 hr rfl rfl rfl rfl (by decide) ?_⟩
  · have hk : ∀ f ∈ fldsErrExport, f.key ∉ shownKeys := by decide
    refine (State.get_finish (hr.calm hs.2) (hk f hf)).trans ?_
    clear hr
    revert f
    simp [fldsErrExport, State.get_put, Fld.key, F.ERR_EXPORT_NOTICE, F.ERR_EXPORT_MODE, F.ERR_EXPORT_STATE, F.ERR_EXPORT_LASTING,
      F.ERR_EXPORT_TRANSIENT, F.ERR_EXPORT_CORRECTED, bits]
  · exact ((((((State.fieldsBut.refl _ s).put (by decide) _).put (by decide) _).put (by decide) _).put (by decide) _).put (by decide) _).put
      (by decide) _

/-- The register `MSR_TCXO_DRIFT` (Table 11.10). -/
def regTcxoDrift : RDesc := ⟨0x0071, 0x1, 1, 1, [⟨0, 16, .rw, .fixed, 0xffff⟩]⟩

/-- A word that would change `MSR_TCXO_DRIFT`, which is FIXED, is refused (R12). -/
theorem State.regWrite_tcxoDrift {s : State} {w : Nat} (hst : s.stage = none) (hg : s.gated srcTwoWire 0x71 = false) (hw : w < 65536)
    (hne : s.wordAt 0x71 ≠ w) : s.regWrite srcTwoWire 0x71 w = s.refuse srcTwoWire 0x71 (s.wordAt 0x71) w resFixed := by
  have hr : regAt (s.stdAt 0x71) 0x71 = some (regTcxoDrift, 0x71) := rfl
  have hwb : bits w 0 16 = w := by simp only [bits]; omega
  have hcl : s.classBreak srcTwoWire 0x71 regTcxoDrift (s.regValue regTcxoDrift 0x71) w = some resFixed := by
    rw [State.wordAt_of_regAt hr, Nat.sub_self, Nat.mul_zero] at hne
    generalize s.regValue regTcxoDrift 0x71 = old at hne ⊢
    simp [State.classBreak, regTcxoDrift, classRefusal, srcTwoWire, srcImage, srcSupervisor, hne, hwb]
  rw [s.regWrite_of_not_commandAt _ _ (by rfl), State.plainWrite_classBreak w hst hr hg rfl (by decide) hw hcl]

/-- Settles O12: `ERR_EXPORT` takes its bits; the FIXED `MSR_TCXO_DRIFT` and an undefined address are refused, with what shows a refusal. -/
theorem registerWrite : Obligations.RegisterWrite := by
  intro s w hs hd hp hst
  refine ⟨fun hg => ⟨_, exec_registerWrite _ _ s hd hp, ?_⟩, fun hg hne => ⟨_, exec_registerWrite _ _ s hd hp, ?_⟩,
    fun a ha => ⟨_, exec_registerWrite _ _ s hd hp, ?_⟩⟩
  · obtain ⟨hget, hrest⟩ := State.finish_regWrite_errExport hs hst hg w.isLt
    exact ⟨hget _ (by decide), hget _ (by decide), hget _ (by decide), hget _ (by decide), hget _ (by decide), hget _ (by decide), hrest⟩
  · rw [show (0x71#16 : Word).toNat = 0x71 from rfl, State.regWrite_tcxoDrift hst hg w.isLt hne]
    obtain ⟨h1, h2, h3, h4⟩ := State.refuse_finish hs (s.wordAt 0x71) w.toNat (a := 0x71) (by decide) (res := resFixed)
      (f := F.GLB_STATUS_FIXED_REFUSED) (fun _ => rfl) rfl (by decide)
    exact ⟨h4.2.2 _ (by decide), h1, h2, h3, h4⟩
  · rw [s.regWrite_undefined _ _ ha, State.plainWrite_undefined _ hst ha]
    exact State.refuse_finish hs 0 w.toNat a.isLt (fun _ => rfl) rfl (by decide)

end Sys2Proof.Machine

/-! Reads, and the statistics window (R7, R10, R32, R45, R443). -/

namespace Sys2Proof.Machine

/-- A read of a register without power gives 0; that of a low word leaves zeros for the upper words too (R7, R32). -/
theorem State.readWord_off {s : State} {a base : Nat} {r : RDesc} (hst : s.stage = none) (hr : regAt (s.stdAt a) a = some (r, base))
    (hd : s.domOn (domainOf a) = false) :
    s.readWord a = (s.setSnap (if a == base && r.words != 1 then (base, 0) :: s.snap.filter (·.1 != base) else s.snap)).setTw
      { s.tw with word := 0 } := by
  unfold State.readWord
  simp only [State.touch_unstaged hst, hr, hd, Bool.not_false, if_true, State.when]
  split <;> rfl

/-- An effect on the port and the snapshots alone, at the end of its command: no field changes, and nothing of what lasts. -/
theorem State.finish_setSnap_setTw {s : State} (hs : s.Settled) (snap : List (Nat × Nat)) (tw : TwoWire) :
    let t := s.finish ((s.setSnap snap).setTw tw)
    t.tw = tw ∧ State.fieldsBut [] s t ∧ s.steady t := by
  obtain ⟨hr, -, hf⟩ := State.changes_finish (l := []) (u := (s.setSnap snap).setTw tw) hs.1 (hs.2.of_eq rfl rfl)
    (State.regsOnly.refl _) rfl rfl rfl rfl (by simp)
    (((State.fieldsBut.refl [] s).setSnap snap).setTw tw)
  refine ⟨by rw [hr]; rfl, hf, ?_⟩
  rw [State.steady, hr]
  exact ⟨rfl, rfl, rfl, rfl, rfl, rfl, rfl, rfl, rfl, rfl, rfl⟩

/-- A read of a register without power at the end of its command. -/
theorem State.finish_readWord_off {s : State} {a base : Nat} {r : RDesc} (hs : s.Settled) (hst : s.stage = none)
    (hr : regAt (s.stdAt a) a = some (r, base)) (hd : s.domOn (domainOf a) = false) :
    let t := s.finish (s.readWord a)
    t.tw.word = 0 ∧ State.fieldsBut [] s t ∧ s.steady t := by
  rw [State.readWord_off hst hr hd]
  obtain ⟨h1, h2, h3⟩ := State.finish_setSnap_setTw hs (if a == base && r.words != 1 then (base, 0) :: s.snap.filter (·.1 != base) else s.snap)
    { s.tw with word := 0 }
  exact ⟨congrArg TwoWire.word h1, h2, h3⟩

/-- The register `GLB_RESET_CAUSE` (Table 2.4). -/
def regResetCause : RDesc := ⟨0x0007, 0x1, 1, 1, [⟨5, 1, .rc, .none, 0⟩, ⟨4, 1, .rc, .none, 0⟩, ⟨3, 1, .rc, .none, 0⟩, ⟨2, 1, .rc, .none, 0⟩,
  ⟨1, 1, .rc, .none, 0⟩, ⟨0, 1, .rc, .none, 1⟩]⟩

/-- The fields of `GLB_RESET_CAUSE`. -/
def fldsResetCause : List Fld := [F.GLB_RESET_CAUSE_WARM_ANCHOR, F.GLB_RESET_CAUSE_WARM_CMD, F.GLB_RESET_CAUSE_WARM_PIN,
  F.GLB_RESET_CAUSE_FULL_CMD, F.GLB_RESET_CAUSE_FULL_PIN, F.GLB_RESET_CAUSE_POWER_ON]

/-- A read of `GLB_RESET_CAUSE` answers its word and clears its fields (R10, R45). -/
theorem State.readWord_resetCause {s : State} (hst : s.stage = none) :
    s.readWord 7 = (s.setTw { s.tw with word := s.wordAt 7 }).each fldsResetCause (fun f t => t.down f) := by
  have hr : regAt (s.stdAt 7) 7 = some (regResetCause, 7) := rfl
  have hp : ∀ t : State, t.phys 7 = 7 := fun t => t.phys_of_not_windowAt rfl
  have hsh : s.shownValue regResetCause 7 = s.regValue regResetCause 7 := rfl
  unfold State.readWord
  simp only [State.touch_unstaged hst, hr, State.wordAt_of_regAt hr, show s.domOn (domainOf 7) = true from rfl, Bool.not_true,
    Bool.false_eq_true, if_false, show s.refreshed 7 = s from rfl, hsh]
  simp only [regResetCause, fldsResetCause, if_true, State.each, List.foldl_cons, List.foldl_nil, beq_self_eq_true, hp, rcCleared]
  rfl

/-- Where its fields read 0, so does the word. -/
theorem State.wordAt_resetCause {s : State} (h : ∀ f ∈ fldsResetCause, s.get f = 0) : s.wordAt 7 = 0 := by
  have hr : regAt (s.stdAt 7) 7 = some (regResetCause, 7) := rfl
  have hp : s.phys 7 = 7 := s.phys_of_not_windowAt rfl
  simp only [fldsResetCause, List.mem_cons, List.not_mem_nil, or_false, forall_eq_or_imp, forall_eq] at h
  obtain ⟨h5, h4, h3, h2, h1, h0⟩ := h
  rw [State.wordAt_of_regAt hr]
  simp only [State.regValue, regResetCause, hp, List.map_cons, List.map_nil]
  simp only [F.GLB_RESET_CAUSE_WARM_ANCHOR, F.GLB_RESET_CAUSE_WARM_CMD, F.GLB_RESET_CAUSE_WARM_PIN, F.GLB_RESET_CAUSE_FULL_CMD,
    F.GLB_RESET_CAUSE_FULL_PIN, F.GLB_RESET_CAUSE_POWER_ON] at h5 h4 h3 h2 h1 h0
  simp [h5, h4, h3, h2, h1, h0, bits]

/-- The register `TB_TIME` (Table 4.8). -/
def regTime : RDesc := ⟨0x0150, 0x4, 1, 4, [⟨0, 64, .ro, .none, 0⟩]⟩

theorem State.shownValue_time (s : State) : s.shownValue regTime 0x150 = s.get F.TB_TIME_TIME := by
  have h : s.regValue regTime 0x150 = s.get F.TB_TIME_TIME := by
    simp [State.regValue, regTime, s.phys_of_not_windowAt (show windowAt 0x150 = false from rfl), F.TB_TIME_TIME]
  exact h

/-- A read of the lowest word of `TB_TIME` answers it, and takes a snapshot of the whole timestamp (R7). -/
theorem State.readWord_time {s : State} (hst : s.stage = none) :
    s.readWord 0x150 = ((s.setSnap ((0x150, s.ts % 2 ^ 64) :: s.snap.filter (·.1 != 0x150))).setTw
      { s.tw with word := s.ts % 65536 }).put F.TB_TIME_TIME s.ts := by
  have hr : regAt (s.stdAt 0x150) 0x150 = some (regTime, 0x150) := rfl
  have hv : (s.put F.TB_TIME_TIME s.ts).shownValue regTime 0x150 = s.ts % 2 ^ 64 :=
    (State.shownValue_time _).trans (s.get_put_same F.TB_TIME_TIME s.ts)
  have hb : bits (s.ts % 2 ^ 64) (16 * (0x150 - 0x150)) 16 = s.ts % 65536 := by simp only [bits]; omega
  unfold State.readWord
  simp only [State.touch_unstaged hst, hr, show s.domOn (domainOf 0x150) = true from rfl, Bool.not_true, Bool.false_eq_true, if_false,
    show s.refreshed 0x150 = s.put F.TB_TIME_TIME s.ts from rfl, hv, hb,
    show (decide (regTime.words = 1) || inR 0x3801 0x380E 0x150) = false from rfl, if_true, State.put_snap, State.setSnap_tw, State.put_tw]
  rfl

/-! The statistics window (R443). -/

/-- The register `LST_SEL` (Table 20.9). -/
def regLstSel : RDesc := ⟨0x3800, 0x1, 1, 1, [⟨8, 5, .rw, .live, 0⟩, ⟨0, 8, .rw, .live, 0⟩]⟩

/-- A legal word of `LST_SEL` leaves its entry, names the pair, and copies its statistics. -/
theorem State.regWrite_lstSel {s : State} {w : Nat} (hst : s.stage = none) (hg : s.gated srcTwoWire 0x3800 = false) (hw : w < 65536)
    (hc : bits w 8 5 ≤ 14) (hp : isProducer (bits w 0 8) = true) :
    s.regWrite srcTwoWire 0x3800 w = (((s.journalWrite srcTwoWire 0x3800 (s.wordAt 0x3800) w resAccepted).put F.LST_SEL_CONTENT (bits w 8 5)).put
      F.LST_SEL_PRODUCER (bits w 0 8)).statSelect := by
  have hl : legal (s.stdAt 0x3800) regLstSel 0x3800 w = true := by
    change (Nat.ble (bits w 8 5) 14 && isProducer (bits w 0 8)) = true
    simp [hp, hc]
  rw [s.regWrite_of_not_commandAt _ _ (by rfl), State.plainWrite_owned (r := regLstSel) hst rfl hg rfl rfl (fun _ => rfl) rfl (by decide) hw hl]
  rfl

/-- The fields of the statistics window. -/
def fldsStat : List Fld := [F.LST_FRAMES_COUNT, F.LST_BYTES_COUNT, F.LST_LAST_SEQ_SEQ, F.LST_LAST_TIME_TIME, F.LST_RESENDS_COUNT,
  F.LST_ROUTE_CAPTURED, F.LST_ROUTE_QUAY]

/-- The window shows the statistics of the named pair. -/
theorem State.statSelect_shows (s : State) :
    let x := s.stat (s.get F.LST_SEL_PRODUCER) (s.get F.LST_SEL_CONTENT)
    let t := s.statSelect
    t.get F.LST_FRAMES_COUNT = x.frames % 2 ^ 32 ∧ t.get F.LST_BYTES_COUNT = x.bytes % 2 ^ 64 ∧
      t.get F.LST_LAST_SEQ_SEQ = x.lastSeq % 2 ^ 32 ∧ t.get F.LST_LAST_TIME_TIME = x.lastTime % 2 ^ 64 ∧
      t.get F.LST_RESENDS_COUNT = x.resends % 65536 := by
  unfold State.statSelect
  refine ⟨?_, ?_, ?_, ?_, ?_⟩ <;>
    simp [State.get_put, Fld.key, F.LST_FRAMES_COUNT, F.LST_BYTES_COUNT, F.LST_LAST_SEQ_SEQ, F.LST_LAST_TIME_TIME, F.LST_RESENDS_COUNT,
      F.LST_ROUTE_CAPTURED, F.LST_ROUTE_QUAY]

theorem State.regsOnly.statSelect {s t : State} (h : s.regsOnly t) : s.regsOnly t.statSelect :=
  ((((((h.put _ _).put _ _).put _ _).put _ _).put _ _).put _ _).put _ _

theorem State.fieldsBut.statSelect {l : List Fld} {s t : State} (h : State.fieldsBut l s t) (hl : fldsStat ⊆ l) :
    State.fieldsBut l s t.statSelect := by
  have m : ∀ f ∈ fldsStat, f.key ∈ l.map Fld.key := fun f hf => List.mem_map_of_mem (hl hf)
  exact ((((((h.put (m _ (by decide)) _).put (m _ (by decide)) _).put (m _ (by decide)) _).put (m _ (by decide)) _).put
    (m _ (by decide)) _).put (m _ (by decide)) _).put (m _ (by decide)) _

/-- A read of `GLB_RESET_CAUSE` at the end of its command. -/
theorem State.finish_readWord_resetCause {s : State} (hs : s.Settled) (hst : s.stage = none) :
    let t := s.finish (s.readWord 7)
    t.tw.word = s.wordAt 7 ∧ t.wordAt 7 = 0 ∧ s.changes fldsResetCause (s.setTw { s.tw with word := s.wordAt 7 }) t := by
  rw [State.readWord_resetCause hst]
  generalize hu : s.setTw { s.tw with word := s.wordAt 7 } = u
  have hc : u.Calm := by subst hu; exact hs.2.of_eq rfl rfl
  have hr : u.regsOnly (u.each fldsResetCause (fun f t => t.down f)) := (State.regsOnly.refl u).each fun f _ h => h.down f
  have hb : State.fieldsBut fldsResetCause s (u.each fldsResetCause (fun f t => t.down f)) := by
    subst hu
    exact ((State.fieldsBut.refl _ s).setTw _).each fun f hf _ h => h.down (List.mem_map_of_mem hf)
  have h : s.changes fldsResetCause u (s.finish (u.each fldsResetCause (fun f t => t.down f))) := by
    refine State.changes_finish hs.1 hc hr ?_ ?_ ?_ ?_ (by decide) hb <;> subst hu <;> rfl
  refine ⟨by rw [h.1, ← hu]; rfl, State.wordAt_resetCause fun f hf => ?_, h⟩
  have hk : ∀ f ∈ fldsResetCause, f.key ∉ shownKeys := by decide
  refine (State.get_finish (hr.calm hc) (hk f hf)).trans ?_
  revert f
  simp [fldsResetCause, State.each, State.get_down, Fld.key, F.GLB_RESET_CAUSE_WARM_ANCHOR, F.GLB_RESET_CAUSE_WARM_CMD,
    F.GLB_RESET_CAUSE_WARM_PIN, F.GLB_RESET_CAUSE_FULL_CMD, F.GLB_RESET_CAUSE_FULL_PIN, F.GLB_RESET_CAUSE_POWER_ON]

/-- A read of the lowest word of `TB_TIME` at the end of its command. -/
theorem State.finish_readWord_time {s : State} (hs : s.Settled) (hst : s.stage = none) :
    let t := s.finish (s.readWord 0x150)
    t.tw.word = s.ts % 65536 ∧ t.snap.find? (fun e => e.1 == 0x150) = some (0x150, s.ts % 2 ^ 64) ∧
      s.changes [F.TB_TIME_TIME] ((s.setSnap t.snap).setTw { s.tw with word := s.ts % 65536 }) t := by
  rw [State.readWord_time hst]
  generalize hn : (0x150, s.ts % 2 ^ 64) :: s.snap.filter (·.1 != 0x150) = snap
  have h : s.changes [F.TB_TIME_TIME] ((s.setSnap snap).setTw { s.tw with word := s.ts % 65536 })
      (s.finish (((s.setSnap snap).setTw { s.tw with word := s.ts % 65536 }).put F.TB_TIME_TIME s.ts)) :=
    State.changes_finish hs.1 (hs.2.of_eq rfl rfl) ((State.regsOnly.refl _).put _ _) rfl rfl rfl rfl (by decide)
      ((((State.fieldsBut.refl _ s).setSnap _).setTw _).put (by simp) _)
  have hsnap : (s.finish (((s.setSnap snap).setTw { s.tw with word := s.ts % 65536 }).put F.TB_TIME_TIME s.ts)).snap = snap := by
    rw [h.1]; rfl
  refine ⟨by rw [h.1]; rfl, by rw [hsnap, ← hn]; rfl, ?_⟩
  rw [hsnap]; exact h

/-- A legal word of `LST_SEL` at the end of its command: the window shows the statistics of the pair that it names. -/
theorem State.finish_regWrite_lstSel {s : State} {w : Nat} (hs : s.Settled) (hst : s.stage = none) (hg : s.gated srcTwoWire 0x3800 = false)
    (hw : w < 65536) (hc : bits w 8 5 ≤ 14) (hp : isProducer (bits w 0 8) = true) :
    let x := s.stat (bits w 0 8) (bits w 8 5)
    let t := s.finish (s.regWrite srcTwoWire 0x3800 w)
    t.get F.LST_SEL_PRODUCER = bits w 0 8 ∧ t.get F.LST_SEL_CONTENT = bits w 8 5 ∧
      t.get F.LST_FRAMES_COUNT = x.frames % 2 ^ 32 ∧ t.get F.LST_BYTES_COUNT = x.bytes % 2 ^ 64 ∧
      t.get F.LST_LAST_SEQ_SEQ = x.lastSeq % 2 ^ 32 ∧ t.get F.LST_LAST_TIME_TIME = x.lastTime % 2 ^ 64 ∧
      t.get F.LST_RESENDS_COUNT = x.resends % 65536 ∧
      s.changes ([F.LST_SEL_CONTENT, F.LST_SEL_PRODUCER] ++ fldsStat ++ [F.JNL_NEWEST_NUMBER, F.JNL_STATUS_UNREAD_LOST])
        (s.journalWrite srcTwoWire 0x3800 (s.wordAt 0x3800) w resAccepted) t := by
  intro x
  rw [State.regWrite_lstSel hst hg hw hc hp]
  generalize hj : s.journalWrite srcTwoWire 0x3800 (s.wordAt 0x3800) w resAccepted = j
  have hjc : j.Calm := hj ▸ hs.2.journalWrite _ _ _ _ _
  generalize hv : (j.put F.LST_SEL_CONTENT (bits w 8 5)).put F.LST_SEL_PRODUCER (bits w 0 8) = v
  have hvr : j.regsOnly v := hv ▸ ((State.regsOnly.refl j).put _ _).put _ _
  have h1 : v.get F.LST_SEL_PRODUCER = bits w 0 8 := by simp [← hv, F.LST_SEL_PRODUCER, bits]
  have h2 : v.get F.LST_SEL_CONTENT = bits w 8 5 := by
    simp [← hv, State.get_put, Fld.key, F.LST_SEL_PRODUCER, F.LST_SEL_CONTENT, bits]
  have hx : v.stat (bits w 0 8) (bits w 8 5) = x := by
    have e : v.stats = s.stats := by rw [hvr, ← hj, State.journalWrite_rest]
    simp only [State.stat, e, x]
  have hb : State.fieldsBut ([F.LST_SEL_CONTENT, F.LST_SEL_PRODUCER] ++ fldsStat ++ [F.JNL_NEWEST_NUMBER, F.JNL_STATUS_UNREAD_LOST]) s v := by
    rw [← hv, ← hj]
    exact (((State.fieldsBut.refl _ s).journalWrite _ _ _ _ _ (by decide) (by decide)).put (by decide) _).put (by decide) _
  have hr : j.regsOnly v.statSelect := hvr.statSelect
  obtain ⟨g1, g2, g3, g4, g5⟩ := v.statSelect_shows
  rw [h1, h2, hx] at g1 g2 g3 g4 g5
  have hf : ∀ f : Fld, f.key ∉ shownKeys → (s.finish v.statSelect).get f = v.statSelect.get f := fun f => State.get_finish (hr.calm hjc)
  have hsel : ∀ f : Fld, f.key ∉ fldsStat.map Fld.key → v.statSelect.get f = v.get f :=
    (State.fieldsBut.refl fldsStat v).statSelect (List.Subset.refl _)
  refine ⟨(hf _ (by decide)).trans ((hsel _ (by decide)).trans h1), (hf _ (by decide)).trans ((hsel _ (by decide)).trans h2),
    (hf _ (by decide)).trans g1, (hf _ (by decide)).trans g2, (hf _ (by decide)).trans g3, (hf _ (by decide)).trans g4,
    (hf _ (by decide)).trans g5, ?_⟩
  rw [← hj] at hr ⊢
  exact State.changes_journalWrite hs hr (by decide) (hb.statSelect (by decide))

/-- Settles O11: each read and the write by what it does to the state, and the end of its command. -/
theorem readsAndStatistics : Obligations.ReadsAndStatistics := by
  intro s hs hd hp hst
  have hq : (!s.pinLow) = true := by rw [hp]; rfl
  refine ⟨⟨_, exec_readWithEffect _ s hd hq, State.finish_readWord_resetCause hs hst⟩,
    ⟨_, exec_readWithEffect _ s hd hq, State.finish_readWord_time hs hst⟩, fun a hsome hoff => ?_,
    fun w hg hc hpr => ⟨_, exec_lstSelWrite w s hd hp, State.finish_regWrite_lstSel hs hst hg w.isLt hc hpr⟩⟩
  obtain ⟨⟨r, base⟩, hr⟩ := Option.isSome_iff_exists.1 hsome
  exact ⟨_, exec_readWithEffect _ s hd hq, State.finish_readWord_off hs hst hr hoff⟩

end Sys2Proof.Machine

/-! The state after the power-on reset (R1, R44). -/

namespace Sys2Proof.Machine

/-- After the power-on reset a field reads its reset value. -/
theorem State.get_reset (f : Fld) : State.reset.get f = regDefault f.key := rfl

@[simp] theorem State.slot_reset (i : Nat) : State.reset.slot i = Slot.reset := rfl

/-- The empty register table is in its canonical form, and no journal holds an entry. -/
theorem State.reset_formed : State.reset.Formed := by simp [State.Formed, State.reset, Tbl.wf]

/-- The status fields show WIND, an empty IV table and no alert source (R341, R378). -/
theorem State.reset_shows : State.reset.Shows := by
  simp only [State.Shows, State.get_reset]
  decide +kernel

/-- Every berth and every lane stands still, and the hold of every berth has 64 blocks (Table 12.1). -/
theorem regDefault_berths (n : Nat) (hn : n < 96) :
    regDefault (F.BTH_CTRL_STOPPED n).key = 1 ∧ regDefault (F.LN_CTRL_STOPPED n).key = 1 ∧ regDefault (F.HLD_CAP_CAP.ofHold n).key = 64 := by
  revert n
  decide +kernel

/-- Every quay stands still, with no order to run (Table 13.7). -/
theorem regDefault_quays (q : Nat) (hq : q < 4) :
    regDefault (F.QY_CTRL_STOPPED q).key = 1 ∧ regDefault (F.QY_CTRL_RUN q).key = 0 := by
  revert q
  decide +kernel

/-- No movement is locked (R90). -/
theorem regDefault_movements (m : Nat) (hm : m < 4) : regDefault (F.TB_MOV_STATUS_LOCKED m).key = 0 := by
  revert m
  decide +kernel

/-- Settles O5: the fields by the reset values of their tables, one lemma per kind of unit, and the rest of the state as `State.reset` lists it. -/
theorem resetState : Obligations.ResetState := by
  unfold Obligations.ResetState
  simp only [State.get_reset, State.slot_reset]
  exact ⟨State.reset_formed, State.reset_shows, rfl, by decide +kernel, by decide +kernel, rfl, rfl, rfl, rfl, fun _ _ => rfl, regDefault_quays,
    by decide +kernel, regDefault_berths, regDefault_movements, rfl, rfl⟩

end Sys2Proof.Machine

/-! Concrete devices for the refutations of O28 and O51. -/

namespace Sys2Proof.Machine

/-- A device in RUN with its seven domains on and no reset under way. -/
def State.inRun : State := (List.range 7).foldl (fun t d => t.put (F.DOM_STATE (d + 1)) dsOn) ((State.reset.setMode .run).setBoot none)

/-- Intake 1 runs in AUTO, and the register file holds 400 as the target of its AGC, beyond the four bits of the field. -/
def State.farTarget : State :=
  let s := (State.inRun.put (F.INT_STATUS_RUNNING 1) 1).shown
  s.setRegs (Tbl.set regDefault s.regs (F.INT_CFG_AGC_TARGET 1).key 400)

/-- An XTS request of producer 0x63 with one output consignment counted for it. -/
def stagedReq : BReq :=
  { id := 7, src := 0x63, srcSeq := 0, mode := 2, slot := 30, gen := 0, gen2 := 0, urgent := false, ts := 0, frames := [List.replicate 16 0],
    complete := true, broken := false, progress := 16, outs := 1, owns := false, ended := false, channel := 7, dun := 0, fed := [], landed := [],
    copy := Copy.of (List.replicate 16 0) }

/-- The plaintext consignment of `stagedReq` (Table 15.5), which waits for credit at the entrance of hold 0x62. -/
def waitingPlain : Wait :=
  { request := false, content := 0x0A, flags := 0, ts := 0,
    payload := [0x51#8, 0, 30] ++ be 1 stagedReq.src ++ be 4 stagedReq.srcSeq ++ be 4 0 ++ be 4 16 ++ List.replicate 16 0, urgent := false }

/-- The engine serves `stagedReq`, whose plaintext waits. -/
def State.plainWaits : State :=
  ({ State.inRun.put F.BOND_STATUS_ENGINE_OK 1 with bondReqs := [stagedReq], bondNow := some 7 }.putWaiting 0x62 [waitingPlain]).shown

theorem State.settled_farTarget : State.farTarget.Settled := by
  unfold State.Settled State.Shows State.Calm
  decide +kernel

theorem State.settled_plainWaits : State.plainWaits.Settled := by
  unfold State.Settled State.Shows State.Calm
  decide +kernel

/-- Refutes O28: with the target at −409 dBFS, a level of −400 dBFS is shown clamped to −327.68 dBFS, where the statement has it modulo 2¹⁶. -/
theorem not_intakeBlocks : ¬ Obligations.IntakeBlocks := by
  intro h
  have clauses := h State.farTarget State.settled_farTarget rfl 1 (.inl rfl) (by decide +kernel) (by decide +kernel)
  obtain ⟨_, window, _⟩ := clauses
  obtain ⟨t, ht, hlevel, _⟩ := window (-40000) (by decide +kernel) (by decide +kernel) (by decide +kernel) (by decide +kernel) (by decide +kernel)
  rw [exec_agcWindowEnd 1 _ _ rfl rfl] at ht
  obtain rfl := Host.Outcome.next.inj ht
  have hcalm : (State.farTarget.agcWindow 1 (-40000)).Calm := .inl (by decide +kernel)
  rw [State.get_finish hcalm (by decide)] at hlevel
  revert hlevel
  decide +kernel

/-- Refutes O51: a residue failure discards the plaintext that waits for credit, and the output count of its request with it (R395). -/
theorem not_bondService : ¬ Obligations.BondService := by
  intro h
  have clauses := h State.plainWaits State.settled_plainWaits rfl
  obtain ⟨_, _, _, _, _, residue⟩ := clauses
  obtain ⟨t, ht, _, _, _, hreqs, _⟩ := residue stagedReq (by decide +kernel)
  rw [exec_bondResidueFault _ rfl] at ht
  obtain rfl := Host.Outcome.next.inj ht
  have hcalm : (State.plainWaits.bondResidue false).Calm := .inl (by decide +kernel)
  rw [(State.finish_rest _ hcalm).1] at hreqs
  revert hreqs
  decide +kernel

end Sys2Proof.Machine

/-! What the work of a power domain leaves of the power switches themselves: the fields that show the domains and the supplies, the domains, the
parts that `State.steady` names, and that no fade waits for its end. -/

namespace Sys2Proof.Machine

/-- The keys of the fields that show the domains' states, a domain's fault, and the supplies in range (Tables 20.6 and 20.7). -/
def powerKey (k : Nat) : Bool := k / 16 == 0x2A02 || k / 16 == 0x2A28 || k == 0x2A01E

/-- The keys of `powerKey`, and those of the audio ports' STOPPED. -/
def portKey (k : Nat) : Bool := powerKey k || k == 0x2300E || k == 0x2310E || k == 0x2320E || k == 0x2330E

/-- What `State.steady` compares. -/
def State.core (s : State) := (s.mode, s.slots, s.kek, s.calTable, s.rowMap, s.dutyBins, s.sec, s.ns, s.dead, s.pinLow, s.epoch)

theorem State.steady_of_core {s t : State} (h : t.core = s.core) : s.steady t := by simpa only [State.steady, State.core, Prod.mk.injEq] using h

/-- From `z` to `s` the fields whose keys `P` names, the domains and the parts of `State.steady` are as they were, and a calm state stays calm. -/
structure State.Spares (P : Nat → Bool) (z s : State) : Prop where
  get : ∀ f : Fld, P f.key = true → s.get f = z.get f
  doms : s.doms = z.doms
  core : s.core = z.core
  calm : z.Calm → s.Calm

theorem Tbl.mem_set {α : Type} [DecidableEq α] {d : Nat → α} {t : Tbl α} {k : Nat} {v : α} {e : Nat × α} (h : e ∈ Tbl.set d t k v) :
    e = (k, v) ∨ e ∈ t := by
  unfold Tbl.set at h
  split at h
  · exact .inr (List.mem_filter.1 h).1
  · exact ((Tbl.mem_insert ..).1 h).imp_right fun h => (List.mem_filter.1 h).1

/-- An unlisted key reads the default, a listed one what its entry holds. -/
theorem Tbl.get_of_forall {α : Type} {p : α → Prop} {d : Nat → α} {t : Tbl α} (k : Nat) (hd : p (d k)) (ht : ∀ e ∈ t, p e.2) : p (Tbl.get d t k) := by
  induction t with
  | nil => exact hd
  | cons e t ih =>
    unfold Tbl.get
    split
    · exact ht e (by simp)
    · exact ih fun x hx => ht x (by simp [hx])

theorem Tbl.get_filter {α : Type} {d : Nat → α} {q : Nat × α → Bool} {k : Nat} (t : Tbl α) (h : ∀ v, (k, v) ∈ t → q (k, v) = true) :
    Tbl.get d (t.filter q) k = Tbl.get d t k := by
  induction t with
  | nil => rfl
  | cons e t ih =>
    obtain ⟨j, v⟩ := e
    have ih := ih fun w hw => h w (by simp [hw])
    by_cases hj : j = k
    · subst hj; simp [h v (by simp), Tbl.get]
    · by_cases hq : q (j, v) <;> simp [hq, Tbl.get, hj, ih]

namespace State.Spares

variable {P Q : Nat → Bool} {z s t u : State}

theorem refl (P : Nat → Bool) (s : State) : s.Spares P s := ⟨fun _ _ => rfl, rfl, rfl, id⟩

theorem trans (h : z.Spares P s) (h' : s.Spares P t) : z.Spares P t :=
  ⟨fun f hf => (h'.get f hf).trans (h.get f hf), h'.doms.trans h.doms, h'.core.trans h.core, h'.calm ∘ h.calm⟩

theorem weaken (h : z.Spares P s) (hQ : ∀ k, Q k = true → P k = true) : z.Spares Q s :=
  ⟨fun f hf => h.get f (hQ _ hf), h.doms, h.core, h.calm⟩

theorem dom (h : z.Spares P s) (d : Nat) : s.dom d = z.dom d := by
  unfold State.dom
  rw [h.doms]

/-- An update of another part of the state. -/
theorem of_eq (h : z.Spares P s) (hr : u.regs = s.regs) (hd : u.doms = s.doms) (hc : u.core = s.core) (hb : u.berths = s.berths) (hf : u.follow = s.follow) :
    z.Spares P u :=
  ⟨fun f hk => by rw [← h.get f hk]; simp only [State.get, hr], hd.trans h.doms, hc.trans h.core, fun hz => (h.calm hz).of_eq hb hf⟩

theorem put (h : z.Spares P s) {f : Fld} {v : Nat} (hf : P f.key = false) : z.Spares P (s.put f v) :=
  ⟨fun g hg => (State.get_put_ne s v fun e => by rw [e, hf] at hg; cases hg).trans (h.get g hg), h.doms, h.core, h.calm⟩

theorem up (h : z.Spares P s) {f : Fld} (hf : P f.key = false) : z.Spares P (s.up f) := h.put hf

theorem down (h : z.Spares P s) {f : Fld} (hf : P f.key = false) : z.Spares P (s.down f) := h.put hf

theorem bump (h : z.Spares P s) {f : Fld} (hf : P f.key = false) : z.Spares P (s.bump f) := h.put hf

theorem ite {c : Prop} [Decidable c] (hs : z.Spares P s) (ht : z.Spares P t) : z.Spares P (if c then s else t) := by split <;> assumption

theorem mask (h : z.Spares P s) {f : Fld} {b : Nat} {v : Bool} (hf : P f.key = false) : z.Spares P (s.mask f b v) := h.ite (h.put hf)

theorem when (h : z.Spares P s) {c : Bool} {g : State → State} (hg : ∀ t, z.Spares P t → z.Spares P (g t)) : z.Spares P (s.when c g) :=
  (hg s h).ite h

theorem each {α : Type} (h : z.Spares P s) {l : List α} {g : α → State → State} (hg : ∀ a ∈ l, ∀ t, z.Spares P t → z.Spares P (g a t)) :
    z.Spares P (s.each l g) := by
  unfold State.each
  induction l generalizing s with
  | nil => exact h
  | cons a l ih => exact ih (hg a (by simp) s h) fun b hb => hg b (by simp [hb])

/-! One rule per update of another part of the state. -/

theorem setBanks (h : z.Spares P s) {v : Tbl Nat} : z.Spares P (s.setBanks v) := of_eq h rfl rfl rfl rfl rfl

theorem setErr (h : z.Spares P s) {v : List EEntry} : z.Spares P (s.setErr v) := of_eq h rfl rfl rfl rfl rfl

theorem setErrCount (h : z.Spares P s) {v : Nat} : z.Spares P (s.setErrCount v) := of_eq h rfl rfl rfl rfl rfl

theorem setErrExport (h : z.Spares P s) {v : List EEntry} : z.Spares P (s.setErrExport v) := of_eq h rfl rfl rfl rfl rfl

theorem setInjSeen (h : z.Spares P s) {v : Bool} : z.Spares P (s.setInjSeen v) := of_eq h rfl rfl rfl rfl rfl

theorem setJnl (h : z.Spares P s) {v : List JEntry} : z.Spares P (s.setJnl v) := of_eq h rfl rfl rfl rfl rfl

theorem setJnlCount (h : z.Spares P s) {v : Nat} : z.Spares P (s.setJnlCount v) := of_eq h rfl rfl rfl rfl rfl

theorem setJnlLost (h : z.Spares P s) {v : Nat} : z.Spares P (s.setJnlLost v) := of_eq h rfl rfl rfl rfl rfl

theorem setVisiting (h : z.Spares P s) {v : List Nat} : z.Spares P (s.setVisiting v) := of_eq h rfl rfl rfl rfl rfl

theorem setBondNow (h : z.Spares P s) {v : Option Nat} : z.Spares P (s.setBondNow v) := of_eq h rfl rfl rfl rfl rfl

theorem setBondReqs (h : z.Spares P s) {v : List BReq} : z.Spares P (s.setBondReqs v) := of_eq h rfl rfl rfl rfl rfl

theorem setLandRx (h : z.Spares P s) {v : LandRx} : z.Spares P (s.setLandRx v) := of_eq h rfl rfl rfl rfl rfl

theorem setDrbg (h : z.Spares P s) {v : Option Drbg} : z.Spares P (s.setDrbg v) := of_eq h rfl rfl rfl rfl rfl

theorem setFreeCtr (h : z.Spares P s) {v : Nat} : z.Spares P (s.setFreeCtr v) := of_eq h rfl rfl rfl rfl rfl

theorem setListen (h : z.Spares P s) {v : Option (Nat × Nat)} : z.Spares P (s.setListen v) := of_eq h rfl rfl rfl rfl rfl

theorem setListens (h : z.Spares P s) {v : List (Nat × Nat × Nat × Option Nat)} : z.Spares P (s.setListens v) := of_eq h rfl rfl rfl rfl rfl

theorem setOnAir (h : z.Spares P s) {v : Option (Nat × Nat × List Byte)} : z.Spares P (s.setOnAir v) := of_eq h rfl rfl rfl rfl rfl

theorem setTrsw (h : z.Spares P s) {v : Bool} : z.Spares P (s.setTrsw v) := of_eq h rfl rfl rfl rfl rfl

theorem setSchedule (h : z.Spares P s) {v : List TxReq} : z.Spares P (s.setSchedule v) := of_eq h rfl rfl rfl rfl rfl

theorem setTxAt (h : z.Spares P s) {v : Nat × TxStage} : z.Spares P (s.setTxAt v) := of_eq h rfl rfl rfl rfl rfl

theorem setPilotWindow (h : z.Spares P s) {v : Bool} : z.Spares P (s.setPilotWindow v) := of_eq h rfl rfl rfl rfl rfl

theorem custody (h : z.Spares P s) {v : List Item} : z.Spares P { s with custody := v } := of_eq h rfl rfl rfl rfl rfl

theorem bondNext (h : z.Spares P s) {v : Nat} : z.Spares P { s with bondNext := v } := of_eq h rfl rfl rfl rfl rfl

theorem caps (h : z.Spares P s) {v : Tbl Cap} : z.Spares P { s with caps := v } := of_eq h rfl rfl rfl rfl rfl

theorem quays (h : z.Spares P s) {v : Tbl Quay} : z.Spares P { s with quays := v } := of_eq h rfl rfl rfl rfl rfl

theorem shadow (h : z.Spares P s) {v : List Shadow} : z.Spares P { s with shadow := v } := of_eq h rfl rfl rfl rfl rfl

theorem putProd (h : z.Spares P s) {p : Nat} {v : Producer} : z.Spares P (s.putProd p v) := of_eq h rfl rfl rfl rfl rfl

theorem putPort (h : z.Spares P s) {p : Nat} {v : Port} : z.Spares P (s.putPort p v) := of_eq h rfl rfl rfl rfl rfl

theorem putIntake (h : z.Spares P s) {k : Nat} {v : Intake} : z.Spares P (s.putIntake k v) := of_eq h rfl rfl rfl rfl rfl

theorem putPair (h : z.Spares P s) {p : Nat} {v : Pair} : z.Spares P (s.putPair p v) := of_eq h rfl rfl rfl rfl rfl

theorem putMov (h : z.Spares P s) {m : Nat} {v : Mov} : z.Spares P (s.putMov m v) := of_eq h rfl rfl rfl rfl rfl

theorem putQueue (h : z.Spares P s) {cls : Nat} {v : List Nat} : z.Spares P (s.putQueue cls v) := of_eq h rfl rfl rfl rfl rfl

theorem putUnit (h : z.Spares P s) {u : UnitType} {i : Nat} {r : UnitRec} : z.Spares P (s.putUnit u i r) := of_eq h rfl rfl rfl rfl rfl

theorem putBerth (h : z.Spares P s) {n : Nat} {b : Berth} (hb : b.shedding = (s.berth n).shedding) : z.Spares P (s.putBerth n b) := by
  refine ⟨h.get, h.doms, h.core, fun hz => (h.calm hz).imp (fun hs e (he : e ∈ Tbl.set (fun _ => Berth.reset) s.berths n b) => ?_) id⟩
  obtain rfl | he := Tbl.mem_set he
  · exact hb.trans (Tbl.get_of_forall (p := fun x : Berth => x.shedding = false) n rfl hs)
  · exact hs e he

/-- A filter of the register table that keeps the entries whose keys `P` names. -/
theorem filterRegs (h : z.Spares P s) {q : Nat × Nat → Bool} (hq : ∀ e, P e.1 = true → q e = true) : z.Spares P (s.setRegs (s.regs.filter q)) :=
  ⟨fun f hf => (Tbl.get_filter s.regs fun _ _ => hq _ hf).trans (h.get f hf), h.doms, h.core, h.calm⟩

end State.Spares

end Sys2Proof.Machine

/-! The holds, the error journal and the shared status fields leave the power switches alone. -/

namespace Sys2Proof.Machine

theorem powerKey_above {k : Nat} (h : 0x2A290 ≤ k) : powerKey k = false := by
  simp only [powerKey, Bool.or_eq_false_iff, beq_eq_false_iff_ne]
  omega

/-- The fields of a hold's window are held above every register of the map. -/
theorem powerKey_ofHold {f : Fld} {h : Nat} : powerKey (f.ofHold h).key = false := by
  apply powerKey_above
  unfold Fld.key Fld.ofHold holdAddr
  dsimp only
  omega

theorem powerKey_valid1 {n : Nat} : powerKey (F.LN_STATUS_VALID1 n).key = false := by
  simp only [powerKey, Fld.key, F.LN_STATUS_VALID1, Bool.or_eq_false_iff, beq_eq_false_iff_ne]
  omega

theorem powerKey_valid2 {n : Nat} : powerKey (F.LN_STATUS_VALID2 n).key = false := by
  simp only [powerKey, Fld.key, F.LN_STATUS_VALID2, Bool.or_eq_false_iff, beq_eq_false_iff_ne]
  omega

theorem powerKey_heldOff {q : Nat} : powerKey (F.QY_STATUS_HELD_OFF q).key = false := by
  simp only [powerKey, Fld.key, F.QY_STATUS_HELD_OFF, Bool.or_eq_false_iff, beq_eq_false_iff_ne]
  omega

namespace State.Spares

variable {P : Nat → Bool} {z s t u : State}

/-! Holds and the error journal (R261 to R270, R396, R409). -/

theorem attn (h : z.Spares powerKey s) {b : Nat} : z.Spares powerKey (s.attn b) := by
  unfold State.attn
  dsimp only
  refine ite (up ?_ rfl) ?_ <;> exact ite h (put h rfl)

theorem holdEvent (h : z.Spares powerKey s) {n : Nat} {f : Fld} {en : Bool} : z.Spares powerKey (s.holdEvent n f en) := by
  unfold State.holdEvent
  exact when (up h powerKey_ofHold) fun _ ht => attn ht

theorem holdJudge (h : z.Spares powerKey s) {n : Nat} : z.Spares powerKey (s.holdJudge n) := by
  unfold State.holdJudge
  exact ite (holdEvent (bump (up h powerKey_ofHold) powerKey_ofHold)) (ite (holdEvent (bump (down h powerKey_ofHold) powerKey_ofHold)) h)

theorem holdFill (h : z.Spares powerKey s) {n fill : Nat} : z.Spares powerKey (s.holdFill n fill) := by
  unfold State.holdFill
  exact holdJudge (put (when (put h powerKey_ofHold) fun _ ht => put ht powerKey_ofHold) powerKey_ofHold)

theorem ringShow (h : z.Spares powerKey s) {n fill : Nat} : z.Spares powerKey (s.ringShow n fill) := by
  unfold State.ringShow State.ringFill
  exact holdFill (setBanks h)

theorem refreshHolds (h : z.Spares powerKey s) {n q : Nat} : z.Spares powerKey (s.refreshHolds n q) := by
  unfold State.refreshHolds
  exact holdFill (holdFill h)

theorem showHeld (h : z.Spares powerKey s) {q : Nat} : z.Spares powerKey (s.showHeld q) := put h powerKey_heldOff

theorem accept (h : z.Spares powerKey s) {p content flags ts : Nat} {payload : List Byte} {reserve : Bool} :
    z.Spares powerKey (s.accept p content flags ts payload reserve) := by
  unfold State.accept State.numbered
  exact showHeld (refreshHolds (putProd (custody h)))

theorem exportOne (h : z.Spares powerKey s) {e : EEntry} (ht : s.exportOne e = some t) : z.Spares powerKey t := by
  unfold State.exportOne at ht
  split at ht
  · exact Option.some.inj ht ▸ accept h
  · split at ht
    · exact Option.some.inj ht ▸ accept h
    · cases ht

theorem exportDrain (h : z.Spares powerKey s) : z.Spares powerKey s.exportDrain := by
  refine each (l := List.range s.errExport.length) h fun _ _ t ht => ?_
  split
  · split
    · next hu => exact setErrExport (ht.exportOne hu)
    · split
      · split
        · next hu => exact setErrExport (ht.exportOne hu)
        · exact ht
      · exact ht
  · exact ht

theorem error (h : z.Spares powerKey s) {detector index : Nat} {u : UnitType} {o : Outc} {a : EArgs} :
    z.Spares powerKey (s.error detector u index o a) := by
  unfold State.error
  dsimp only
  generalize hv : State.when _ (o == .lasting || o == .noSpare || o == .lost) _ = v
  have journaled : z.Spares powerKey v := by
    subst hv
    exact when (when (when (put (setErrCount (setErr h)) rfl) fun _ ht => bump ht rfl)
      fun _ ht => setInjSeen (up ht rfl)) fun _ ht => attn ht
  exact ite (ite (exportDrain (setErrExport journaled)) (bump journaled rfl)) journaled

/-! Status fields that several commands show. -/

theorem engineShow (h : z.Spares powerKey s) : z.Spares powerKey s.engineShow := put h rfl

theorem landShow (h : z.Spares powerKey s) : z.Spares powerKey s.landShow := by
  unfold State.landShow
  exact put (put (ringShow h) rfl) rfl

theorem showValid (h : z.Spares powerKey s) {n : Nat} : z.Spares powerKey (s.showValid n) := by
  unfold State.showValid
  exact put (put h powerKey_valid1) powerKey_valid2

theorem showValidAll (h : z.Spares powerKey s) : z.Spares powerKey s.showValidAll := each h fun _ _ _ ht => ht.showValid

theorem showIntakes (h : z.Spares powerKey s) : z.Spares powerKey s.showIntakes := by
  unfold State.showIntakes
  exact ite h (showValidAll (put (put h rfl) rfl))

theorem showOutputs (h : z.Spares P s) (hP : ∀ o ∈ List.range 18, P (F.TB_OUT_CFG_RUNNING o).key = false) : z.Spares P s.showOutputs :=
  each h fun o ho _ ht => ht.put (hP o ho)

theorem showMovements (h : z.Spares powerKey s) : z.Spares powerKey s.showMovements := by
  unfold State.showMovements
  exact showIntakes (showOutputs (put h rfl) (by decide))

end State.Spares

end Sys2Proof.Machine

/-! A switched domain that loses its power, or has it back, leaves the power switches alone (R404). -/

namespace Sys2Proof.Machine

/-- The registers of `powerKey` lie in KEEP. -/
theorem domainOf_powerKey {k : Nat} (h : powerKey k = true) : domainOf (k / 16) = 0 := by
  simp only [powerKey, Bool.or_eq_true, beq_iff_eq] at h
  obtain (h | h) | h := h
  · rw [h]; rfl
  · rw [h]; rfl
  · rw [h]; rfl

theorem powerKey_crane (c : Nat) : ∀ f ∈ [F.CRN_STATUS_ROLE c, F.CRN_STATUS_CLASS c, F.CRN_STATUS_BUSY c, F.CRN_STATUS_URGENT c,
    F.CRN_STATUS_BERTH c, F.CRN_FAULTS_REPLAYS c], powerKey f.key = false := by
  simp only [List.forall_mem_cons, List.not_mem_nil, false_implies, implies_true, and_true, powerKey, Fld.key, F.CRN_STATUS_ROLE, F.CRN_STATUS_CLASS,
    F.CRN_STATUS_BUSY, F.CRN_STATUS_URGENT, F.CRN_STATUS_BERTH, F.CRN_FAULTS_REPLAYS, Bool.or_eq_false_iff, beq_eq_false_iff_ne]
  omega

theorem powerKey_ticket (n : Nat) : ∀ f ∈ [F.BTH_TICKET_CRANE n, F.BTH_WAIT_MAX_WAIT n, F.BTH_REPLAY_REPLAYS n, F.BTH_EVENTS_REPLAY_EV n],
    powerKey f.key = false := by
  simp only [List.forall_mem_cons, List.not_mem_nil, false_implies, implies_true, and_true, powerKey, Fld.key, F.BTH_TICKET_CRANE,
    F.BTH_WAIT_MAX_WAIT, F.BTH_REPLAY_REPLAYS, F.BTH_EVENTS_REPLAY_EV, Bool.or_eq_false_iff, beq_eq_false_iff_ne]
  omega

theorem powerKey_capture (c : Nat) : ∀ f ∈ [F.CAP_CTRL_FILLING c, F.CAP_CTRL_STOPPED c, F.CAP_DUN_DUN c], powerKey f.key = false := by
  simp only [List.forall_mem_cons, List.not_mem_nil, false_implies, implies_true, and_true, powerKey, Fld.key, F.CAP_CTRL_FILLING, F.CAP_CTRL_STOPPED,
    F.CAP_DUN_DUN, Bool.or_eq_false_iff, beq_eq_false_iff_ne]
  omega

theorem powerKey_quay : ∀ q ∈ List.range 4, ∀ f ∈ [F.QY_STATUS_SENDING q, F.QY_CTRL_STOPPED q, F.QY_STATUS_HOLD_IN q], powerKey f.key = false := by
  decide

theorem powerKey_movement : ∀ m ∈ List.range 4, ∀ f ∈ [F.TB_MOV_STATUS_LOCKED m, F.TB_MOV_STATUS_STATE m, F.TB_MOV_STATUS_ON_TCXO m],
    powerKey f.key = false := by
  decide

theorem portKey_port : ∀ p ∈ List.range 4, ∀ f ∈ [F.AU_CTRL_RUN p, F.AU_STATUS_START_LATE_EV p], portKey f.key = false := by
  decide

theorem portKey_stopped : ∀ p ∈ List.range 4, portKey (F.AU_CTRL_STOPPED p).key = true := by
  decide

theorem portKey_of_powerKey (k : Nat) (h : powerKey k = true) : portKey k = true := by simp [portKey, h]

namespace State.Spares

variable {P : Nat → Bool} {z s t u : State}

/-! Domains without power (R404, R438). -/

theorem loseRegs (h : z.Spares powerKey s) {d : Nat} (h0 : d ≠ 0) (h6 : d ≠ 6) : z.Spares powerKey (s.loseRegs d) := by
  unfold State.loseRegs
  dsimp only
  rw [if_neg h6]
  refine filterRegs h fun e he => ?_
  simp only [Bool.not_eq_true', List.contains_eq_mem, decide_eq_false_iff_not, List.mem_filter, domainOf_powerKey he, Bool.and_eq_true, beq_iff_eq]
  tauto

theorem loseIntake (h : z.Spares powerKey s) {k : Nat} (hk : k = 1 ∨ k = 2) : z.Spares powerKey (s.loseIntake k) := by
  have hret : powerKey (F.INT_STATUS_RETIRED k).key = false := by obtain rfl | rfl := hk <;> rfl
  unfold State.loseIntake
  exact showValidAll (put (loseRegs (putUnit (putIntake (setVisiting h))) (by omega) (by omega)) hret)

theorem loseQuay (h : z.Spares powerKey s) : z.Spares powerKey s.loseQuay := by
  unfold State.loseQuay
  exact engineShow (landShow (putUnit (putUnit (each (loseRegs (setBondNow h) (by decide) (by decide)) fun _ _ _ ht => putUnit ht))))

/-! TIMEBASE and an intake are back (R75, R78, R438). -/

theorem search (h : z.Spares powerKey s) {m : Nat} {tcxo : Bool} (hm : m ∈ List.range 4) : z.Spares powerKey (s.search m tcxo) := by
  have hkey := fun f hf => powerKey_movement m hm f hf
  unfold State.search
  exact showMovements (putMov (put (put (down h (hkey _ (by simp))) (hkey _ (by simp))) (hkey _ (by simp))))

theorem backTimebase (h : z.Spares powerKey s) : z.Spares powerKey s.backTimebase := by
  refine each h fun p hp t ht => ite (showMovements ht) (search (putPair ht) ?_)
  revert p
  decide

theorem agcShow (h : z.Spares P s) {k : Nat} (hP : P (F.INT_STATUS_AGC_HELD k).key = false) : z.Spares P (s.agcShow k) := put h hP

theorem backIntake (h : z.Spares powerKey s) {k : Nat} (hk : k = 1 ∨ k = 2) : z.Spares powerKey (s.backIntake k) := by
  have hagc : powerKey (F.INT_STATUS_AGC_HELD k).key = false := by obtain rfl | rfl := hk <;> rfl
  have hcheck : powerKey (F.INT_HEALTH_LAST_CHECK k).key = false := by obtain rfl | rfl := hk <;> rfl
  unfold State.backIntake
  exact showValidAll (agcShow (when (showIntakes h) fun _ ht => put ht hcheck) hagc)

/-! ENGINE is back (R149, R161). -/

theorem judgeClass (h : z.Spares powerKey s) {cls : Nat} (hc : cls ∈ List.range 5) : z.Spares powerKey (s.judgeClass cls) := by
  have hcap : powerKey (F.ENG_CAP_CAP cls).key = false := by revert cls; decide
  unfold State.judgeClass
  exact mask (put h hcap) rfl

theorem assignRoles (h : z.Spares powerKey s) {cls : Nat} (hc : cls ∈ List.range 5) : z.Spares powerKey (s.assignRoles cls) := by
  have roles : ∀ g : Nat → State → Nat, z.Spares powerKey (s.each (cranesOf cls) fun c t => (t.put (F.CRN_STATUS_ROLE c) (g c t)).put (F.CRN_STATUS_CLASS c) cls) :=
    fun g => each h fun c _ _ ht => put (put ht (powerKey_crane c _ (by simp))) (powerKey_crane c _ (by simp))
  unfold State.assignRoles
  dsimp only
  refine judgeClass ?_ hc
  split
  · split
    · next c _ => exact put (roles _) (powerKey_crane c _ (by simp))
    · exact roles _
  · exact roles _

theorem craneIdle (h : z.Spares powerKey s) {c : Nat} : z.Spares powerKey (s.craneIdle c) := by
  unfold State.craneIdle
  exact put (down (down h (powerKey_crane c _ (by simp))) (powerKey_crane c _ (by simp))) (powerKey_crane c _ (by simp))

theorem craneTake (h : z.Spares powerKey s) {c n : Nat} : z.Spares powerKey (s.craneTake c n) := by
  unfold State.craneTake
  dsimp only
  generalize hw : s.when _ _ = w
  have waited : z.Spares powerKey w := hw ▸ when h fun _ ht => put ht (powerKey_ticket n _ (by simp))
  have hberth : w.berth n = s.berth n := by rw [← hw]; unfold State.when; split <;> rfl
  generalize hv : (((w.put _ 1).put _ n).put _ _).put _ c = v
  have taken : z.Spares powerKey v := by
    subst hv
    exact put (put (put (put waited (powerKey_crane c _ (by simp))) (powerKey_crane c _ (by simp))) (powerKey_crane c _ (by simp))) (powerKey_ticket n _ (by simp))
  refine ite (up (up (bump (bump (putBerth taken ?_) (powerKey_crane c _ (by simp))) (powerKey_ticket n _ (by simp))) (powerKey_ticket n _ (by simp))) rfl) taken
  rw [← hv]
  exact (congrArg Berth.shedding hberth).symm

theorem craneChoose (h : z.Spares powerKey s) {c : Nat} : z.Spares powerKey (s.craneChoose c) := by
  unfold State.craneChoose
  dsimp only
  split
  · exact craneIdle h
  · exact craneTake (putQueue h)

theorem enterQueue (h : z.Spares powerKey s) {n younger : Nat} : z.Spares powerKey (s.enterQueue n younger) := by
  have queued : ∀ {b cls q}, b.shedding = (s.berth n).shedding →
      z.Spares powerKey (((s.putBerth n b).put (F.BTH_TICKET_CRANE n) 0x3F).putQueue cls q) :=
    fun hb => putQueue (put (putBerth h hb) (powerKey_ticket n _ (by simp)))
  unfold State.enterQueue
  dsimp only
  split
  · exact craneChoose (queued (by rfl))
  · exact queued (by rfl)

theorem enqueue (h : z.Spares powerKey s) {n : Nat} : z.Spares powerKey (s.enqueue n) := enterQueue h

theorem backEngine (h : z.Spares powerKey s) : z.Spares powerKey s.backEngine := by
  unfold State.backEngine
  dsimp only
  refine each ?_ fun _ _ _ ht => enqueue ht
  exact each h fun _ hc _ ht => assignRoles ht hc

end State.Spares

end Sys2Proof.Machine

/-! QUAY is back: the quays, the landing port, the capture units and the audio ports start again where their RUN is set, and leave the power
switches alone (R313, R324, R404, R438). -/

namespace Sys2Proof.Machine

namespace State.Spares

variable {P : Nat → Bool} {z s t u : State}

theorem seed (h : z.Spares powerKey s) : z.Spares powerKey s.seed := engineShow (setDrbg (setFreeCtr h))

theorem quayRunShow (h : z.Spares powerKey s) {q : Nat} (hq : q ∈ List.range 4) : z.Spares powerKey (s.quayRunShow q) := by
  have hkey := powerKey_quay q hq
  unfold State.quayRunShow
  exact when h fun _ ht => down (put (quays ht) (hkey _ (by simp))) (hkey _ (by simp))

theorem sampleHold (h : z.Spares powerKey s) {q : Nat} (hq : q ∈ List.range 4) : z.Spares powerKey (s.sampleHold q) :=
  showHeld (put h (powerKey_quay q hq _ (by simp)))

theorem landRunShow (h : z.Spares powerKey s) : z.Spares powerKey s.landRunShow := by
  unfold State.landRunShow
  exact landShow (when h fun _ ht => down (setLandRx ht) rfl)

theorem pilotRunShow (h : z.Spares powerKey s) : z.Spares powerKey s.pilotRunShow := when h fun _ ht => put ht rfl

theorem putReqs (h : z.Spares powerKey s) {l : List BReq} : z.Spares powerKey (s.putReqs l) := holdFill (setBondReqs h)

theorem enterReq (h : z.Spares powerKey s) {r : BReq} : z.Spares powerKey (s.enterReq r) := by
  unfold State.enterReq
  exact ite (putReqs (bondNext h)) (putReqs (bondNext h))

theorem putCap (h : z.Spares powerKey s) {c : Nat} {v : Cap} : z.Spares powerKey (s.putCap c v) :=
  put (caps h) (powerKey_capture c _ (by simp))

theorem capCut (h : z.Spares powerKey s) {c : Nat} : z.Spares powerKey (s.capCut c) := by
  unfold State.capCut
  exact enterReq (put (putCap h) (powerKey_capture c _ (by simp)))

theorem capPump (h : z.Spares powerKey s) {c : Nat} : z.Spares powerKey (s.capPump c) := by
  unfold State.capPump
  have cut := each (l := List.range ((s.cap c).buf.length / 512 + 1)) h
    (g := fun _ t => if t.capNext c != 0 && t.bondCredit (t.capUnit c) then t.capCut c else t) fun _ _ _ ht => ite (capCut ht) ht
  exact when cut fun _ ht => up ht (powerKey_capture c _ (by simp))

theorem journalWrite (h : z.Spares portKey s) {src a old new res : Nat} : z.Spares portKey (s.journalWrite src a old new res) := by
  have entry : ∀ {a old new src res detail}, z.Spares portKey (s.journal a old new src res detail) := by
    intros
    unfold State.journal
    have numbered : ∀ {l n}, z.Spares portKey (((s.setJnl l).setJnlCount n).put F.JNL_NEWEST_NUMBER n) :=
      put (setJnlCount (setJnl h)) rfl
    exact ite numbered (setJnlLost (bump numbered rfl))
  exact ite h (ite entry entry)

theorem portRefuse (h : z.Spares portKey s) {p : Nat} (hp : p ∈ List.range 4) : z.Spares portKey (s.portRefuse p) :=
  putPort (down (up (journalWrite h) (f := F.GLB_STATUS_VALUE_REFUSED) rfl) (portKey_port p hp _ (by simp)))

theorem portStart (h : z.Spares portKey s) {p : Nat} (hp : p ∈ List.range 4) : z.Spares portKey (s.portStart p) := by
  unfold State.portStart
  exact putPort (when h fun _ ht => up ht (portKey_port p hp _ (by simp)))

theorem portRuns_eq (h : z.Spares portKey s) {p : Nat} (hp : p ∈ List.range 4) : s.portRuns p = z.portRuns p := by
  unfold State.portRuns State.on
  rw [h.get _ (portKey_stopped p hp)]

/-- A port that does not run starts, or stays as it is. -/
theorem portShow (h : z.Spares portKey s) {p : Nat} (hp : p ∈ List.range 4) (hz : z.portRuns p = false) : z.Spares portKey (s.portShow p) := by
  have shown := showOutputs h (by decide)
  unfold State.portShow
  dsimp only
  rw [shown.portRuns_eq hp, hz, Bool.not_false, if_pos rfl]
  have waits := when shown (c := s.showOutputs.get (F.AU_CTRL_RUN p) == 0)
    (g := fun t => t.putPort p { s.showOutputs.port p with startAt := none }) fun _ ht => putPort ht
  exact ite (portStart waits hp) waits

theorem portsBegin (h : z.Spares powerKey s) : z.Spares powerKey s.portsBegin := by
  refine h.trans (weaken (P := portKey) (each (refl portKey s) fun p hp t ht => ?_) portKey_of_powerKey)
  obtain ⟨hrange, hstopped⟩ := List.mem_filter.1 hp
  simp only [Bool.and_eq_true, Bool.not_eq_true'] at hstopped
  exact ite (portRefuse ht hrange) (portShow ht hrange hstopped.2)

theorem backQuay (h : z.Spares powerKey s) : z.Spares powerKey s.backQuay := by
  have seeded : z.Spares powerKey (if s.drbg.isNone then s.seed else s.engineShow) := ite (seed h) (engineShow h)
  have quays := each (l := List.range 4) (g := fun q t => (t.quayRunShow q).sampleHold q) seeded fun _ hq _ ht =>
    sampleHold (quayRunShow ht hq) hq
  unfold State.backQuay
  exact portsBegin (each (pilotRunShow (landRunShow quays)) fun c _ _ ht =>
    capPump (when ht fun _ hu => down hu (powerKey_capture c _ (by simp))))

/-- A domain is ready. -/
theorem back (h : z.Spares powerKey s) {d : Nat} : z.Spares powerKey (s.back d) := by
  unfold State.back
  split
  · exact backTimebase h
  split
  · next hd => exact backIntake h (by simp only [Bool.or_eq_true, decide_eq_true_eq] at hd; omega)
  split
  · exact backEngine h
  split
  · exact backQuay h
  · exact showValidAll h

end State.Spares

end Sys2Proof.Machine

/-! The quays leave service: any register field may change, the domains and what `State.steady` names do not (R41, R295, R438). -/

namespace Sys2Proof.Machine

/-- No field at all. -/
def noKey (_ : Nat) : Bool := false

namespace State.Spares

variable {z s t u : State}

/-- An effect that leaves the power switches alone, after one that may have changed any field. -/
theorem forget (h : z.Spares noKey s) (ht : s.Spares powerKey t) : z.Spares noKey t := h.trans (ht.weaken nofun)

/-! The pilot link (R341, R357, R360). -/

theorem releaseNo (h : z.Spares noKey s) {p seq : Nat} : z.Spares noKey (s.releaseNo p seq) := putProd h

theorem putSchedule (h : z.Spares noKey s) {l : List TxReq} : z.Spares noKey (s.putSchedule l) :=
  forget (setSchedule h) (holdFill (refl ..))

theorem txEnd (h : z.Spares noKey s) {r : TxReq} {result : Nat} : z.Spares noKey (s.txEnd r result) := by
  have shown : ∀ {a b c d}, z.Spares noKey ((((s.put F.PLT_LAST_RESULT a).put F.PLT_LAST_FRAGMENTS b).put F.PLT_LAST_SOURCE c).put F.PLT_LAST_SEQ_SEQ d) :=
    put (put (put (put h rfl) rfl) rfl) rfl
  unfold State.txEnd
  refine setTxAt (putSchedule (each (releaseNo (when ?_ fun _ ht => forget ht (error (refl ..)))) fun _ _ _ ht => releaseNo ht))
  exact ite (up shown rfl) (ite (bump (up shown rfl) rfl) (ite (bump (up shown rfl) rfl) (ite (bump (up shown rfl) rfl) (ite shown (bump shown rfl)))))

theorem txLeave (h : z.Spares noKey s) : z.Spares noKey s.txLeave := by
  unfold State.txLeave
  split
  · exact ite (txEnd h) (setTxAt h)
  · exact setTxAt h

theorem windowClose (h : z.Spares noKey s) : z.Spares noKey s.windowClose := by
  unfold State.windowClose
  refine put (each (each (each (down (setPilotWindow h) rfl) fun _ _ _ ht => ?_) fun _ _ _ ht => ?_) fun _ _ _ ht => ?_) rfl
  · exact agcShow (down ht rfl) rfl
  · exact down ht rfl
  · exact ite (put ht rfl) ht

theorem listenClose (h : z.Spares noKey s) : z.Spares noKey s.listenClose := by
  unfold State.listenClose
  split
  · exact h
  · exact each (down (setListens (setListen h)) rfl) fun _ _ _ ht => ite (put ht rfl) ht

theorem pilotStop (h : z.Spares noKey s) : z.Spares noKey s.pilotStop := by
  unfold State.pilotStop
  refine listenClose (windowClose (setOnAir (setTrsw ?_)))
  split
  · exact txEnd h
  · exact txEnd h
  · exact txLeave h

/-! The audio ports, the quays and the landing port (R295, R309, R316). -/

theorem applyArmed (h : z.Spares noKey s) {c : Nat} : z.Spares noKey (s.applyArmed c) := by
  unfold State.applyArmed
  exact down (each (shadow h) fun _ _ _ ht => put ht rfl) rfl

theorem portEmpty (h : z.Spares noKey s) {p : Nat} : z.Spares noKey (s.portEmpty p) := by
  unfold State.portEmpty State.ringFill
  exact forget (setBanks (putPort h)) (holdFill (refl ..))

theorem portStopped (h : z.Spares noKey s) {p : Nat} : z.Spares noKey (s.portStopped p) := by
  unfold State.portStopped
  exact showOutputs (putPort (portEmpty (when (put (put (up (put (applyArmed h) rfl) rfl) rfl) rfl) fun _ ht => down ht rfl))) fun _ _ => rfl

theorem portsMute (h : z.Spares noKey s) : z.Spares noKey s.portsMute := each h fun _ _ _ ht => portStopped ht

theorem quayBoundary (h : z.Spares noKey s) {q : Nat} : z.Spares noKey (s.quayBoundary q) := by
  unfold State.quayBoundary
  exact ite h (put (when (applyArmed h) fun _ ht => up ht rfl) rfl)

theorem landBoundary (h : z.Spares noKey s) : z.Spares noKey s.landBoundary := by
  unfold State.landBoundary
  exact ite h (forget (when (applyArmed h) fun _ ht => up ht rfl) (landShow (refl ..)))

theorem quayLeave (h : z.Spares noKey s) : z.Spares noKey s.quayLeave := by
  unfold State.quayLeave
  exact landBoundary (down (setLandRx (each (portsMute (pilotStop h)) fun _ _ _ ht => quayBoundary ht)) rfl)

end State.Spares

end Sys2Proof.Machine

/-! Commanded switches of a domain (R23, R33, R438, R439). -/

namespace Sys2Proof.Machine

theorem powerKey_domState : ∀ d ∈ List.range' 1 7, powerKey (F.DOM_STATE d).key = true ∧ (F.DOM_STATE d).width = 2 := by decide

theorem powerKey_not_shown : ∀ k ∈ shownKeys, powerKey k = false := by decide

theorem commanded_range : ∀ d ∈ domCommanded, d ∈ List.range' 1 7 := by decide

theorem State.dom_putDom (s : State) (d e : Nat) (v : Dom) : (s.putDom d v).dom e = if e = d then v else s.dom e := Tbl.get_set ..

/-- The end of a command keeps what the effect left of the power switches. -/
theorem State.Spares.finish {P : Nat → Bool} {z s u : State} (h : z.Spares P u) (hz : z.Calm) (hP : ∀ k ∈ shownKeys, P k = false) :
    z.Spares P (s.finish u) := by
  have hu := h.calm hz
  have hrest := (State.finish_rest s hu).1
  refine ⟨fun f hf => ?_, ?_, ?_, fun _ => hu.of_eq (by rw [hrest]) (by rw [hrest])⟩
  · exact (State.get_finish hu fun hk => by rw [hP _ hk] at hf; cases hf).trans (h.get f hf)
  · rw [hrest]; exact h.doms
  · rw [hrest]; exact h.core

/-- From `s` to `t` domain `d` has come to show `v`, with the goal `g` of a commanded switch. -/
structure State.Switched (s : State) (d v : Nat) (g : Option Nat) (t : State) : Prop where
  shown : t.get (F.DOM_STATE d) = v
  goal : (t.dom d).goal = g
  core : t.core = s.core
  calm : s.Calm → t.Calm

namespace State.Switched

variable {d v : Nat} {g : Option Nat} {x : Dom} {s t u w : State}

/-- `DOM_STATE` is written after the effect of the switch, and what follows leaves it. -/
theorem of_put (hd : d ∈ List.range' 1 7) (hv : v < 4) (hx : x.goal = g) (hw : (s.putDom d x).Spares noKey w) (hu : (w.put (F.DOM_STATE d) v).Spares powerKey u) :
    s.Switched d v g u := by
  obtain ⟨hkey, hwidth⟩ := powerKey_domState d hd
  refine ⟨?_, ?_, hu.core.trans hw.core, fun hs => hu.calm (hw.calm hs)⟩
  · rw [hu.get _ hkey, State.get_put_same, hwidth]
    exact Nat.mod_eq_of_lt hv
  · have hdom : (w.put (F.DOM_STATE d) v).dom d = x := by
      rw [show (w.put (F.DOM_STATE d) v).dom d = w.dom d from rfl, hw.dom, State.dom_putDom, if_pos rfl]
    rw [hu.dom, hdom, hx]

theorem before (h : w.Switched d v g u) (hs : s.Spares powerKey w) : s.Switched d v g u :=
  ⟨h.shown, h.goal, h.core.trans hs.core, h.calm ∘ hs.calm⟩

theorem finish (h : s.Switched d v g u) (hs : s.Calm) (hd : d ∈ List.range' 1 7) : s.Switched d v g (t.finish u) := by
  have hf := (State.Spares.refl powerKey u).finish (s := t) (h.calm hs) powerKey_not_shown
  exact ⟨(hf.get _ (powerKey_domState d hd).1).trans h.shown, by rw [hf.dom, h.goal], hf.core.trans h.core, hf.calm ∘ h.calm⟩

end State.Switched

/-! A switch starts. -/

/-- The state that a commanded switch leads to. -/
def switchGoal (d : Nat) (on : Bool) : Nat := if on then dsOn else if d = 7 then dsRetention else dsOff

theorem State.switchStart_switched {s : State} {d : Nat} {on : Bool} (hd : d ∈ domCommanded) (hne : s.get (F.DOM_STATE d) ≠ switchGoal d on) :
    s.Switched d dsSwitching (some (switchGoal d on)) (s.switchStart d on) := by
  have hd' := commanded_range d hd
  unfold switchGoal at hne ⊢
  unfold State.switchStart
  dsimp only
  rw [if_neg hne]
  have stays : ∀ {x : Dom}, (s.putDom d x).Spares noKey (s.putDom d x) := State.Spares.refl _ _
  split
  · exact .of_put hd' (by decide) (by rfl) stays (.refl ..)
  · split
    · exact .of_put hd' (by decide) (by rfl) stays.quayLeave (.landShow (.refl ..))
    · next h7 =>
      have hk : d - 1 = 1 ∨ d - 1 = 2 := by simp [domCommanded] at hd; omega
      have hlose : ∀ u : State, u.lose d false = u.loseIntake (d - 1) := fun u => by
        unfold State.lose
        rw [if_neg (by omega), if_pos (by simp; omega)]
      rw [hlose]
      exact .of_put hd' (by decide) (by rfl) stays (.loseIntake (.refl ..) hk)

/-! A switch completes. -/

theorem State.switchDone_switched {s : State} {d g : Nat} (hd : d ∈ List.range' 1 7) (hg : (s.dom d).goal = some g) (h4 : g < 4)
    (hstill : d ≠ 7 ∨ s.quaysStill = true) :
    s.Switched d g none (s.switchDone d) ∧ (s.switchDone d).get F.DOM_STATUS_SWITCH_EV = 1 := by
  unfold State.switchDone
  rw [hg]
  dsimp only
  rw [if_neg (by rcases hstill with h | h <;> simp [h])]
  have stays := State.Spares.refl noKey (s.putDom d { s.dom d with goal := none })
  refine ⟨.of_put hd h4 (by rfl) stays (.up ?_ rfl), State.get_put_same ..⟩
  split
  · exact .back (.refl ..)
  · split
    · next h7 => subst h7; exact .loseQuay (.refl ..)
    · exact .refl ..

end Sys2Proof.Machine

/-! `DOM_CTRL`: the word of a commanded switch is accepted, and starts the switch of its domain alone (R12, R438, R439). -/

namespace Sys2Proof.Machine

/-- The register `DOM_CTRL` (Table 20.6). -/
def regDomCtrl : RDesc := ⟨0x2A00, 0x1, 1, 1, [⟨2, 1, .rw, .live, 1⟩, ⟨1, 1, .rw, .live, 1⟩, ⟨0, 1, .rw, .live, 1⟩]⟩

theorem regAt_domCtrl (std : Nat) : regAt std 0x2A00 = some (regDomCtrl, 0x2A00) := rfl

/-- What `DOM_CTRL` holds. -/
def State.domCtrl (s : State) : Nat := s.regValue regDomCtrl 0x2A00

theorem State.wordAt_domCtrl (s : State) : s.wordAt 0x2A00 = s.domCtrl % 65536 := by
  rw [State.wordAt_of_regAt (regAt_domCtrl _), Nat.sub_self]
  simp [bits, State.domCtrl]

theorem State.bit_domCtrl (s : State) {d : Nat} (hd : d ∈ domCommanded) : bit s.domCtrl (domBit d) = bit (s.wordAt 0x2A00) (domBit d) := by
  rw [s.wordAt_domCtrl]
  simp only [domCommanded, List.mem_cons, List.not_mem_nil, or_false] at hd
  rcases hd with rfl | rfl | rfl <;> simp [bit, bits, domBit] <;> omega

/-- The word of a commanded switch turns the bit of its domain, and no other. -/
theorem State.bit_domWord (s : State) {d : Nat} (hd : d ∈ domCommanded) {v : Bool} (h : bit (s.wordAt 0x2A00) (domBit d) = !v) :
    ∀ e ∈ domCommanded, bit (s.domWord d v) (domBit e) = if e = d then v else bit s.domCtrl (domBit e) := by
  have hword : s.domWord d v = if v then s.wordAt 0x2A00 + 2 ^ domBit d else s.wordAt 0x2A00 - 2 ^ domBit d := by
    unfold State.domWord
    dsimp only
    rw [h, if_neg (by cases v <;> decide)]
  rw [s.wordAt_domCtrl] at h hword
  rw [hword]
  generalize s.domCtrl = w at h
  simp only [domCommanded, List.mem_cons, List.not_mem_nil, or_false] at hd ⊢
  cases v <;> rcases hd with rfl | rfl | rfl <;> rintro e (rfl | rfl | rfl) <;> simp [bit, bits, domBit] at h ⊢ <;> omega

theorem filter_commanded : ∀ d ∈ domCommanded, ∀ c : Bool, domCommanded.filter (fun e => decide (e = d) && c) = if c then [d] else [] := by decide

/-- The domains that a word switches off, those that it switches on, and those that it switches, where it turns the bit of one domain alone. -/
theorem turned_one {d : Nat} (hd : d ∈ domCommanded) {v : Bool} {old new : Nat} (hold : bit old (domBit d) = !v)
    (hnew : ∀ e ∈ domCommanded, bit new (domBit e) = if e = d then v else bit old (domBit e)) :
    domCommanded.filter (fun e => bit old (domBit e) && !bit new (domBit e)) = (if !v then [d] else []) ∧
    domCommanded.filter (fun e => !bit old (domBit e) && bit new (domBit e)) = (if v then [d] else []) ∧
    domCommanded.filter (fun e => bit old (domBit e) != bit new (domBit e)) = [d] := by
  have point : ∀ e ∈ domCommanded, (bit old (domBit e) && !bit new (domBit e)) = (decide (e = d) && !v) ∧
      (!bit old (domBit e) && bit new (domBit e)) = (decide (e = d) && v) ∧
      (bit old (domBit e) != bit new (domBit e)) = (decide (e = d) && true) := by
    intro e he
    rw [hnew e he]
    by_cases h : e = d
    · subst h; cases v <;> simp [hold]
    · simp [h]
  refine ⟨?_, ?_, ?_⟩
  · rw [List.filter_congr fun e he => (point e he).1, filter_commanded d hd]
  · rw [List.filter_congr fun e he => (point e he).2.1, filter_commanded d hd]
  · rw [List.filter_congr fun e he => (point e he).2.2, filter_commanded d hd]
    rfl

/-- A commanded switch breaks no order rule where neither its domain nor TIMEBASE switches and TIMEBASE is on. -/
theorem domRule_none {s : State} {d old new : Nat} (hm : s.mode ≠ .survey) (h1 : s.get (F.DOM_STATE 1) = dsOn)
    (hs : s.get (F.DOM_STATE d) ≠ dsSwitching) (hc : domCommanded.filter (fun e => bit old (domBit e) != bit new (domBit e)) = [d]) :
    domRule s old new = none := by
  unfold domRule
  simp [hc, h1, hs, hm, show dsOn ≠ dsSwitching by decide]

/-- The word of a commanded switch, accepted: its entry in the journal and its bits leave the power switches alone. -/
theorem State.write_domWord {s : State} {d : Nat} {v : Bool} (hst : s.stage = none) (hserv : s.serving = true) (hd : d ∈ domCommanded)
    (h1 : s.get (F.DOM_STATE 1) = dsOn) (hs : s.get (F.DOM_STATE d) ≠ dsSwitching) (hb : bit (s.wordAt 0x2A00) (domBit d) = !v) :
    ∃ u, s.Spares powerKey u ∧ s.write srcTwoWire 0x2A00 (s.domWord d v) domRule = (u, some (s.domCtrl, s.domWord d v)) := by
  have hmode : s.mode = .run ∨ s.mode = .drift := by simpa [State.serving] using hserv
  have hgate : s.gated srcTwoWire 0x2A00 = false := by
    rcases hmode with h | h <;> simp [State.gated, h, State.domOn, domainOf]
  have hbit := s.bit_domWord hd hb
  have hold : bit s.domCtrl (domBit d) = !v := (s.bit_domCtrl hd).trans hb
  have hrule : domRule s s.domCtrl (s.domWord d v) = none :=
    domRule_none (by rcases hmode with h | h <;> simp [h]) h1 hs (turned_one hd hold hbit).2.2
  have hclass : s.classBreak srcTwoWire 0x2A00 regDomCtrl s.domCtrl (s.domWord d v) = none := by
    simp [State.classBreak, regDomCtrl, classRefusal]
  refine ⟨_, ?_, (State.write_one _ hst (regAt_domCtrl _) hgate rfl).trans (State.judge_ok hclass rfl hrule)⟩
  unfold State.acceptWrite
  rw [State.each_writeField_owned _ (fun _ => rfl) rfl (by decide), show List.range regDomCtrl.words = [0] from rfl, List.foldl_cons,
    List.foldl_nil]
  refine .each (.weaken (.journalWrite (.refl ..)) portKey_of_powerKey) fun f hf t ht => ht.put ?_
  revert f
  decide

theorem switchGoal_not : ∀ d ∈ domCommanded, ∀ v : Bool, switchGoal d (!v) ≠ dsSwitching ∧ switchGoal d (!v) ≠ switchGoal d v := by decide

/-- A commanded switch of `DOM_CTRL` starts. -/
theorem State.regWrite_domWord {s : State} {d : Nat} {v : Bool} (hst : s.stage = none) (hserv : s.serving = true) (hd : d ∈ domCommanded)
    (h1 : s.get (F.DOM_STATE 1) = dsOn) (hs : s.get (F.DOM_STATE d) = switchGoal d (!v)) (hb : bit (s.wordAt 0x2A00) (domBit d) = !v) :
    s.Switched d dsSwitching (some (switchGoal d v)) (s.regWrite srcTwoWire 0x2A00 (s.domWord d v)) := by
  have hne := switchGoal_not d hd v
  have hold : bit s.domCtrl (domBit d) = !v := (s.bit_domCtrl hd).trans hb
  obtain ⟨u, hu, hw⟩ := State.write_domWord hst hserv hd h1 (by rw [hs]; exact hne.1) hb
  obtain ⟨hoff, hon, -⟩ := turned_one hd hold (s.bit_domWord hd hb)
  have hstart : s.regWrite srcTwoWire 0x2A00 (s.domWord d v) = u.switchStart d v := by
    change s.domWrite srcTwoWire (s.domWord d v) = _
    unfold State.domWrite
    rw [hw]
    dsimp only
    rw [hoff, hon]
    cases v <;> rfl
  rw [hstart]
  refine (State.switchStart_switched hd ?_).before hu
  rw [hu.get _ (powerKey_domState d (commanded_range d hd)).1, hs]
  exact hne.2

end Sys2Proof.Machine

/-! Supplies and temperature (R402, R440, R445). -/

namespace Sys2Proof.Machine

theorem State.regsOnly.when {s t : State} (h : s.regsOnly t) {c : Bool} {g : State → State} (hg : ∀ u, s.regsOnly u → s.regsOnly (g u)) :
    s.regsOnly (t.when c g) := by
  unfold State.when
  split
  · exact hg t h
  · exact h

theorem State.regsOnly.mask {s t : State} (h : s.regsOnly t) (f : Fld) (b : Nat) (v : Bool) : s.regsOnly (t.mask f b v) := by
  unfold State.mask
  dsimp only
  split
  · exact h
  · exact h.put _ _

theorem State.fieldsBut.mask {l : List Fld} {s t : State} (h : State.fieldsBut l s t) {f : Fld} (hf : f.key ∈ l.map Fld.key) (b : Nat) (v : Bool) :
    State.fieldsBut l s (t.mask f b v) := .ite h (h.put hf _)

theorem State.get_mask_ne (s : State) {f g : Fld} (b : Nat) (v : Bool) (h : g.key ≠ f.key) : (s.mask f b v).get g = s.get g := by
  unfold State.mask
  dsimp only
  split
  · rfl
  · exact State.get_put_ne _ _ h

theorem State.get_when_put (s : State) {f g : Fld} {c : Bool} (v : Nat) (h : g.key ≠ f.key) : (s.when c (·.put f v)).get g = s.get g := by
  unfold State.when
  split
  · exact State.get_put_ne _ _ h
  · rfl

/-- A bit that is written reads as written. -/
theorem State.bit_mask (s : State) (f : Fld) {b : Nat} (v : Bool) (hw : f.width = 6) (hb : b < 6) : bit ((s.mask f b v).get f) b = v := by
  unfold State.mask
  dsimp only
  split
  · next h => exact eq_of_beq h
  · next h =>
    rw [State.get_put_same, hw]
    generalize s.get f = x at h ⊢
    interval_cases b <;> cases v <;> simp [bit, bits] at h ⊢ <;> omega

/-! Supplies (R440). -/

/-- The fields that a mean of a supply is loaded into. -/
def fldsLevel (sup : Nat) : List Fld := [F.SUP_LEVEL_MV sup, F.SUP_MIN_MV sup, F.SUP_MAX_MV sup]

theorem State.regsOnly.supLevel {s t : State} (h : s.regsOnly t) (sup mv : Nat) : s.regsOnly (t.supLevel sup mv) :=
  ((h.put _ _).when fun _ hu => hu.put _ _).when fun _ hu => hu.put _ _

theorem State.fieldsBut.supLevel {l : List Fld} {s t : State} {sup : Nat} (h : State.fieldsBut l s t) (hl : fldsLevel sup ⊆ l) (mv : Nat) :
    State.fieldsBut l s (t.supLevel sup mv) := by
  have m : ∀ f ∈ fldsLevel sup, f.key ∈ l.map Fld.key := fun f hf => List.mem_map_of_mem (hl hf)
  exact ((h.put (m _ (by simp [fldsLevel])) mv).when fun hu => hu.put (m _ (by simp [fldsLevel])) mv).when fun hu =>
    hu.put (m _ (by simp [fldsLevel])) mv

theorem State.get_supLevel (s : State) {sup mv : Nat} (hmv : mv < 65536) : (s.supLevel sup mv).get (F.SUP_LEVEL_MV sup) = mv := by
  have hmin : (F.SUP_LEVEL_MV sup).key ≠ (F.SUP_MIN_MV sup).key := by simp only [Fld.key, F.SUP_LEVEL_MV, F.SUP_MIN_MV]; omega
  have hmax : (F.SUP_LEVEL_MV sup).key ≠ (F.SUP_MAX_MV sup).key := by simp only [Fld.key, F.SUP_LEVEL_MV, F.SUP_MAX_MV]; omega
  unfold State.supLevel
  dsimp only
  rw [State.get_when_put _ _ hmax, State.get_when_put _ _ hmin, State.get_put_same]
  exact Nat.mod_eq_of_lt hmv

/-- The fields of a supply that its range shows in (Table 20.7). -/
def fldsRange : List Fld := [F.SUP_STATUS_IN_RANGE, F.SUP_STATUS_RANGE_EV]

theorem range_not_shown : ∀ sup < 6, ∀ k ∈ shownKeys, k ∉ (fldsLevel sup ++ fldsRange).map Fld.key := by decide

theorem level_ne_range : ∀ sup < 6, ∀ f ∈ fldsRange, (F.SUP_LEVEL_MV sup).key ≠ f.key := by decide

/-- The state in which a supply has left its range, before the faults of what it feeds. -/
def State.outOfRange (s : State) (sup mv : Nat) : State :=
  ((s.supLevel sup mv).mask F.SUP_STATUS_IN_RANGE sup false).mask F.SUP_STATUS_RANGE_EV sup true

theorem State.supplyExit_of_out {s : State} {sup mv : Nat} (hs : sup < 6) (hmv : mv < 65536) (ho : inR (supRange sup).1 (supRange sup).2 mv = false) :
    s.supplyExit sup mv = (s.outOfRange sup mv).each (fedBy sup) (fun d t => t.domainFault d 1) := by
  have h1 : Nat.blt sup 6 = true := by simpa using hs
  have h2 : Nat.ble 65536 mv = false := by rw [← Bool.not_eq_true, Nat.ble_eq]; omega
  unfold State.supplyExit State.outOfRange
  rw [if_neg (by simp [h1, h2, ho])]

theorem State.regsOnly_outOfRange (s : State) (sup mv : Nat) : s.regsOnly (s.outOfRange sup mv) :=
  (((State.regsOnly.refl s).supLevel sup mv).mask _ _ _).mask _ _ _

theorem State.fieldsBut_outOfRange (s : State) (sup mv : Nat) : State.fieldsBut (fldsLevel sup ++ fldsRange) s (s.outOfRange sup mv) :=
  (((State.fieldsBut.refl _ s).supLevel (List.subset_append_left ..) mv).mask (by simp [fldsRange]) _ _).mask (by simp [fldsRange]) _ _

theorem State.outOfRange_bits (s : State) {sup : Nat} (hs : sup < 6) (mv : Nat) :
    bit ((s.outOfRange sup mv).get F.SUP_STATUS_IN_RANGE) sup = false ∧ bit ((s.outOfRange sup mv).get F.SUP_STATUS_RANGE_EV) sup = true := by
  refine ⟨?_, State.bit_mask _ _ _ rfl hs⟩
  unfold State.outOfRange
  rw [State.get_mask_ne _ _ _ (by decide)]
  exact State.bit_mask _ _ _ rfl hs

theorem State.get_outOfRange (s : State) {sup mv : Nat} (hs : sup < 6) (hmv : mv < 65536) : (s.outOfRange sup mv).get (F.SUP_LEVEL_MV sup) = mv := by
  unfold State.outOfRange
  rw [State.get_mask_ne _ _ _ (level_ne_range sup hs _ (by simp [fldsRange])), State.get_mask_ne _ _ _ (level_ne_range sup hs _ (by simp [fldsRange])),
    State.get_supLevel _ hmv]

/-- A supply that feeds nothing leaves its range: its level and its range show it, and nothing else changes. -/
theorem State.finish_supplyExit_unfed {s : State} (hs : s.Settled) {sup mv : Nat} (hsup : sup < 6) (hmv : mv < 65536)
    (ho : inR (supRange sup).1 (supRange sup).2 mv = false) (hfed : fedBy sup = []) :
    let t := s.finish (s.supplyExit sup mv)
    bit (t.get F.SUP_STATUS_IN_RANGE) sup = false ∧ bit (t.get F.SUP_STATUS_RANGE_EV) sup = true ∧ t.get (F.SUP_LEVEL_MV sup) = mv ∧
      s.onlyFields (fldsLevel sup ++ fldsRange) t := by
  have hr := s.regsOnly_outOfRange sup mv
  have hget : ∀ f ∈ fldsLevel sup ++ fldsRange, (s.finish (s.outOfRange sup mv)).get f = (s.outOfRange sup mv).get f := fun f hf =>
    State.get_finish (hr.calm hs.2) fun hk => range_not_shown sup hsup _ hk (List.mem_map_of_mem hf)
  rw [State.supplyExit_of_out hsup hmv ho, hfed]
  obtain ⟨hin, hev⟩ := s.outOfRange_bits hsup mv
  refine ⟨(congrArg (bit · sup) (hget _ (by simp [fldsRange]))).trans hin, (congrArg (bit · sup) (hget _ (by simp [fldsRange]))).trans hev,
    (hget _ (by simp [fldsLevel])).trans (s.get_outOfRange hsup hmv), ?_⟩
  exact State.changes_finish hs.1 hs.2 hr rfl rfl rfl rfl (range_not_shown sup hsup) (s.fieldsBut_outOfRange sup mv)

theorem return_not_shown : ∀ sup < 6, ∀ k ∈ shownKeys, k ∉ (fldsLevel sup ++ [F.SUP_STATUS_IN_RANGE]).map Fld.key := by decide

/-- A supply returns into its range: its level and its range show it, and nothing else changes. -/
theorem State.finish_supplyReturn {s : State} (hs : s.Settled) {sup mv : Nat} (hsup : sup < 6) (hmv : mv < 65536)
    (hi : inR (supRange sup).1 (supRange sup).2 mv = true) :
    let t := s.finish (s.supplyReturn sup mv)
    bit (t.get F.SUP_STATUS_IN_RANGE) sup = true ∧ t.get (F.SUP_LEVEL_MV sup) = mv ∧ s.onlyFields (fldsLevel sup ++ [F.SUP_STATUS_IN_RANGE]) t := by
  have heq : s.supplyReturn sup mv = (s.supLevel sup mv).mask F.SUP_STATUS_IN_RANGE sup true := by
    unfold State.supplyReturn
    rw [if_pos (by simp [hi, hsup])]
  have hr : s.regsOnly (s.supplyReturn sup mv) := heq ▸ ((State.regsOnly.refl s).supLevel sup mv).mask _ _ _
  have hget : ∀ f ∈ fldsLevel sup ++ [F.SUP_STATUS_IN_RANGE], (s.finish (s.supplyReturn sup mv)).get f = (s.supplyReturn sup mv).get f := fun f hf =>
    State.get_finish (hr.calm hs.2) fun hk => return_not_shown sup hsup _ hk (List.mem_map_of_mem hf)
  refine ⟨?_, ?_, State.changes_finish hs.1 hs.2 hr rfl rfl rfl rfl (return_not_shown sup hsup) ?_⟩
  · rw [hget _ (by simp), heq]
    exact State.bit_mask _ _ _ rfl hsup
  · rw [hget _ (by simp [fldsLevel]), heq, State.get_mask_ne _ _ _ (level_ne_range sup hsup _ (by simp [fldsRange])), State.get_supLevel _ hmv]
  · exact heq ▸ ((State.fieldsBut.refl _ s).supLevel (List.subset_append_left ..) mv).mask (by simp) _ _

end Sys2Proof.Machine

/-! The temperature warning (R349, R440). -/

namespace Sys2Proof.Machine

/-- The fields that a junction temperature is loaded into. -/
def fldsTemp : List Fld := [F.SUP_TEMP_TEMP, F.SUP_TEMP_MIN_TEMP, F.SUP_TEMP_MAX_TEMP]

theorem State.regsOnly.tempLevel {s t : State} (h : s.regsOnly t) (x : Nat) : s.regsOnly (t.tempLevel x) :=
  ((h.put _ _).when fun _ hu => hu.put _ _).when fun _ hu => hu.put _ _

theorem State.fieldsBut.tempLevel {l : List Fld} {s t : State} (h : State.fieldsBut l s t) (hl : fldsTemp ⊆ l) (x : Nat) :
    State.fieldsBut l s (t.tempLevel x) := by
  have m : ∀ f ∈ fldsTemp, f.key ∈ l.map Fld.key := fun f hf => List.mem_map_of_mem (hl hf)
  exact ((h.put (m _ (by simp [fldsTemp])) x).when fun hu => hu.put (m _ (by simp [fldsTemp])) x).when fun hu =>
    hu.put (m _ (by simp [fldsTemp])) x

theorem State.get_tempLevel (s : State) (temp : Word) : (s.tempLevel temp.toNat).get F.SUP_TEMP_TEMP = temp.toNat := by
  unfold State.tempLevel
  dsimp only
  rw [State.get_when_put _ _ (by decide), State.get_when_put _ _ (by decide), State.get_put_same]
  exact Nat.mod_eq_of_lt temp.isLt

theorem State.tempRise_of_le {s : State} {temp : Word} (h : (100 * s.get F.SUP_TEMP_WARN_DEG : Nat) ≤ sext 16 temp.toNat)
    (hw : s.get F.SUP_STATUS_TEMP_WARN = 0) :
    s.tempRise temp.toNat = ((s.tempLevel temp.toNat).up F.SUP_STATUS_TEMP_WARN).up F.SUP_STATUS_TEMP_WARN_EV := by
  unfold State.tempRise State.on
  rw [hw, if_pos (by simpa using h)]

theorem State.tempFall_of_le {s : State} {temp : Word} (h : sext 16 temp.toNat ≤ (100 * s.get F.SUP_TEMP_WARN_DEG : Nat) - (300 : Int))
    (hw : s.get F.SUP_STATUS_TEMP_WARN = 1) : s.tempFall temp.toNat = (s.tempLevel temp.toNat).down F.SUP_STATUS_TEMP_WARN := by
  unfold State.tempFall State.on
  rw [hw, if_pos (by simpa using h)]

/-- The junction reaches the warning threshold. -/
theorem State.finish_tempRise {s : State} (hs : s.Settled) {temp : Word} (h : (100 * s.get F.SUP_TEMP_WARN_DEG : Nat) ≤ sext 16 temp.toNat)
    (hw : s.get F.SUP_STATUS_TEMP_WARN = 0) :
    let t := s.finish (s.tempRise temp.toNat)
    t.get F.SUP_STATUS_TEMP_WARN = 1 ∧ t.get F.SUP_STATUS_TEMP_WARN_EV = 1 ∧ t.get F.SUP_TEMP_TEMP = temp.toNat ∧
      s.onlyFields (fldsTemp ++ [F.SUP_STATUS_TEMP_WARN, F.SUP_STATUS_TEMP_WARN_EV]) t := by
  have hr := (((State.regsOnly.refl s).tempLevel temp.toNat).up F.SUP_STATUS_TEMP_WARN).up F.SUP_STATUS_TEMP_WARN_EV
  have hb := (((State.fieldsBut.refl (fldsTemp ++ [F.SUP_STATUS_TEMP_WARN, F.SUP_STATUS_TEMP_WARN_EV]) s).tempLevel (by simp) temp.toNat).up
    (f := F.SUP_STATUS_TEMP_WARN) (by decide)).up (f := F.SUP_STATUS_TEMP_WARN_EV) (by decide)
  have hc := hr.calm hs.2
  rw [State.tempRise_of_le h hw]
  refine ⟨?_, ?_, ?_, State.changes_finish hs.1 hs.2 hr rfl rfl rfl rfl (by decide) hb⟩
  · rw [State.get_finish hc (by decide), State.get_up, if_neg (by decide), State.get_up, if_pos rfl]
    rfl
  · rw [State.get_finish hc (by decide), State.get_up, if_pos rfl]
    rfl
  · rw [State.get_finish hc (by decide), State.get_up, if_neg (by decide), State.get_up, if_neg (by decide), State.get_tempLevel]

/-- The junction falls 3 °C below the threshold. -/
theorem State.finish_tempFall {s : State} (hs : s.Settled) {temp : Word}
    (h : sext 16 temp.toNat ≤ (100 * s.get F.SUP_TEMP_WARN_DEG : Nat) - (300 : Int)) (hw : s.get F.SUP_STATUS_TEMP_WARN = 1) :
    let t := s.finish (s.tempFall temp.toNat)
    t.get F.SUP_STATUS_TEMP_WARN = 0 ∧ t.get F.SUP_TEMP_TEMP = temp.toNat ∧ s.onlyFields (fldsTemp ++ [F.SUP_STATUS_TEMP_WARN]) t := by
  have hr := ((State.regsOnly.refl s).tempLevel temp.toNat).down F.SUP_STATUS_TEMP_WARN
  have hb := ((State.fieldsBut.refl (fldsTemp ++ [F.SUP_STATUS_TEMP_WARN]) s).tempLevel (by simp) temp.toNat).down
    (f := F.SUP_STATUS_TEMP_WARN) (by decide)
  have hc := hr.calm hs.2
  rw [State.tempFall_of_le h hw]
  refine ⟨?_, ?_, State.changes_finish hs.1 hs.2 hr rfl rfl rfl rfl (by decide) hb⟩
  · rw [State.get_finish hc (by decide), State.get_down, if_pos rfl]
  · rw [State.get_finish hc (by decide), State.get_down, if_neg (by decide), State.get_tempLevel]

end Sys2Proof.Machine

/-! A supply out of range faults the domains that it feeds (R402, R440, R445). -/

namespace Sys2Proof.Machine

/-- The keys of the fields that show the domains' states and the supplies in range. -/
def stateKey (k : Nat) : Bool := k / 16 == 0x2A02 || k / 16 == 0x2A28

theorem powerKey_of_stateKey (k : Nat) (h : stateKey k = true) : powerKey k = true := by
  unfold powerKey
  rw [show (k / 16 == 0x2A02 || k / 16 == 0x2A28) = true from h, Bool.true_or]

theorem domState_key : ∀ d ∈ List.range' 1 7, stateKey (F.DOM_STATE d).key = true ∧ stateKey (F.DOM_COUNTS_FAULTS d).key = false ∧
    F.DOM_STATUS_FAULT_EV.key ≠ (F.DOM_STATE d).key := by decide

/-- The events, the counts and the entry of a domain's fault (R402). -/
def State.faultEntry (s : State) (d cause : Nat) (injected : Bool) : State :=
  ((((s.bump (F.DOM_COUNTS_FAULTS d)).up F.DOM_STATUS_FAULT_EV).put F.DOM_LAST_FAULT_DOMAIN d).put F.DOM_LAST_FAULT_SUBCAUSE cause).error
    (0x0A00 + d) .domain d .detected { injected := injected, d0 := cause }

theorem State.faultEntry_spares (s : State) {d : Nat} (hd : d ∈ List.range' 1 7) (cause : Nat) (injected : Bool) :
    s.Spares stateKey (s.faultEntry d cause injected) := by
  have hcount := (domState_key d hd).2.1
  exact .trans (.put (.put (.up (.bump (.refl ..) hcount) rfl) rfl) rfl) (.weaken (.error (.refl ..)) powerKey_of_stateKey)

theorem State.faultEntry_event (s : State) (d cause : Nat) (injected : Bool) : (s.faultEntry d cause injected).get F.DOM_STATUS_FAULT_EV = 1 := by
  unfold State.faultEntry
  rw [(State.Spares.error (.refl ..)).get _ (by decide), State.get_put_ne _ _ (by decide), State.get_put_ne _ _ (by decide)]
  exact State.get_put_same ..

/-- The first fault within 60 s of a domain that is on begins its restart (R402). -/
theorem State.domainFault_first {s : State} {d cause : Nat} {injected : Bool} (hd : d ∈ List.range' 1 7) (h7 : d ≠ 7) (hstep : (s.dom d).step = 0)
    (hon : s.get (F.DOM_STATE d) = dsOn) (hf : (s.dom d).faults = []) :
    ∃ x : Dom, x.step = 1 ∧ s.domainFault d cause injected =
      ((s.faultEntry d cause injected).putDom d x).put (F.DOM_STATE d) dsSwitching := by
  have hin : inR 1 7 d = true := by revert hd; simp [inR]; omega
  refine ⟨{ s.dom d with step := 1, injected := injected, faults := [(s.faultEntry d cause injected).clock] }, rfl, ?_⟩
  unfold State.domainFault State.faultEntry
  dsimp only
  simp [hin, h7, hstep, hon, hf]

@[simp] theorem State.get_putDom (s : State) (d : Nat) (x : Dom) (f : Fld) : (s.putDom d x).get f = s.get f := rfl

theorem State.dom_put (s : State) (f : Fld) (v d : Nat) : (s.put f v).dom d = s.dom d := rfl

/-- It shows: the domain switches, in the first step of its restart, and the event is set. -/
theorem State.domainFault_first_shows {s : State} {d cause : Nat} {injected : Bool} (hd : d ∈ List.range' 1 7) (h7 : d ≠ 7)
    (hstep : (s.dom d).step = 0) (hon : s.get (F.DOM_STATE d) = dsOn) (hf : (s.dom d).faults = []) :
    let t := s.domainFault d cause injected
    (t.dom d).step = 1 ∧ t.get (F.DOM_STATE d) = dsSwitching ∧ t.get F.DOM_STATUS_FAULT_EV = 1 := by
  obtain ⟨x, hx1, hx⟩ := State.domainFault_first (cause := cause) (injected := injected) hd h7 hstep hon hf
  rw [hx]
  refine ⟨?_, State.get_put_same .., ?_⟩
  · rw [State.dom_put, State.dom_putDom, if_pos rfl, hx1]
  · rw [State.get_put_ne _ _ (domState_key d hd).2.2, State.get_putDom, State.faultEntry_event]

/-- What a failing check of domain `d` leaves: the other domains and what shows them, the supplies, and the event that is set. -/
structure State.FaultOf (d : Nat) (s t : State) : Prop where
  get : ∀ f : Fld, stateKey f.key = true → f.key ≠ (F.DOM_STATE d).key → t.get f = s.get f
  event : s.get F.DOM_STATUS_FAULT_EV = 1 → t.get F.DOM_STATUS_FAULT_EV = 1
  dom : ∀ e, e ≠ d → t.dom e = s.dom e
  core : t.core = s.core
  calm : s.Calm → t.Calm

namespace State.FaultOf

variable {d : Nat} {x : Dom} {s t u : State}

theorem of_spares (h : s.Spares powerKey t) : s.FaultOf d t :=
  ⟨fun f hf _ => h.get f (powerKey_of_stateKey _ hf), fun he => (h.get _ (by decide)).trans he, fun e _ => h.dom e, h.core, h.calm⟩

theorem of_entry (hd : d ∈ List.range' 1 7) (hu : s.Spares stateKey u) (hev : u.get F.DOM_STATUS_FAULT_EV = 1) :
    s.FaultOf d ((u.putDom d x).put (F.DOM_STATE d) dsSwitching) := by
  refine ⟨fun f hf hne => ?_, fun _ => ?_, fun e he => ?_, hu.core, fun hz => (hu.calm hz).of_eq rfl rfl⟩
  · rw [State.get_put_ne _ _ hne, State.get_putDom, hu.get f hf]
  · rw [State.get_put_ne _ _ (domState_key d hd).2.2, State.get_putDom, hev]
  · rw [State.dom_put, State.dom_putDom, if_neg he, hu.dom]

theorem domainFault {cause : Nat} {injected : Bool} (hd : d ∈ List.range' 1 7) (h7 : d ≠ 7) (hf : (s.dom d).faults = []) :
    s.FaultOf d (s.domainFault d cause injected) := by
  have hin : inR 1 7 d = true := by revert hd; simp [inR]; omega
  by_cases hstep : (s.dom d).step = 0
  · by_cases hon : s.get (F.DOM_STATE d) = dsOn
    · obtain ⟨x, -, hx⟩ := State.domainFault_first (cause := cause) (injected := injected) hd h7 hstep hon hf
      rw [hx]
      exact of_entry hd (s.faultEntry_spares hd ..) (s.faultEntry_event ..)
    · have hoff : s.domainFault d cause injected = s := by
        unfold State.domainFault
        simp [hin, hstep, hon]
      rw [hoff]
      exact of_spares (.refl ..)
  · have hagain : s.domainFault d cause injected = s.error (0x0A00 + d) .domain d .detected { injected := injected, d0 := cause } := by
      unfold State.domainFault
      simp [hin, hstep]
    rw [hagain]
    exact of_spares (.error (.refl ..))

end State.FaultOf

/-- The checks of `VANA` fail in TIMEBASE, which is on, and then in the intakes: TIMEBASE begins its restart, whatever the intakes do. -/
theorem State.domainFault_vana {u : State} (hstep : (u.dom 1).step = 0) (hon : u.get (F.DOM_STATE 1) = dsOn) (hf : ∀ d < 8, (u.dom d).faults = []) :
    let t := ((u.domainFault 1 1).domainFault 2 1).domainFault 3 1
    t.get F.SUP_STATUS_IN_RANGE = u.get F.SUP_STATUS_IN_RANGE ∧ (t.dom 1).step = 1 ∧ t.get (F.DOM_STATE 1) = dsSwitching ∧
      t.get F.DOM_STATUS_FAULT_EV = 1 ∧ t.core = u.core ∧ (u.Calm → t.Calm) := by
  obtain ⟨hfirst, hshown, hevent⟩ := State.domainFault_first_shows (d := 1) (cause := 1) (injected := false) (by decide) (by decide) hstep hon
    (hf 1 (by decide))
  have f1 : u.FaultOf 1 (u.domainFault 1 1) := .domainFault (by decide) (by decide) (hf 1 (by decide))
  generalize u.domainFault 1 1 = v at f1 hfirst hshown hevent ⊢
  have f2 : v.FaultOf 2 (v.domainFault 2 1) := .domainFault (by decide) (by decide) (by rw [f1.dom 2 (by decide), hf 2 (by decide)])
  generalize v.domainFault 2 1 = w at f2 ⊢
  have f3 : w.FaultOf 3 (w.domainFault 3 1) := .domainFault (by decide) (by decide)
    (by rw [f2.dom 3 (by decide), f1.dom 3 (by decide), hf 3 (by decide)])
  refine ⟨?_, ?_, ?_, f3.event (f2.event hevent), f3.core.trans (f2.core.trans f1.core), f3.calm ∘ f2.calm ∘ f1.calm⟩
  · rw [f3.get _ (by decide) (by decide), f2.get _ (by decide) (by decide), f1.get _ (by decide) (by decide)]
  · rw [f3.dom 1 (by decide), f2.dom 1 (by decide), hfirst]
  · rw [f3.get _ (by decide) (by decide), f2.get _ (by decide) (by decide), hshown]

/-- `VANA` leaves its range while TIMEBASE is on. -/
theorem State.finish_supplyExit_vana {s : State} (hs : s.Settled) {mv : Nat} (hmv : mv < 65536) (ho : inR (supRange 2).1 (supRange 2).2 mv = false)
    (hstep : (s.dom 1).step = 0) (hon : s.get (F.DOM_STATE 1) = dsOn) (hf : ∀ d < 8, (s.dom d).faults = []) :
    let t := s.finish (s.supplyExit 2 mv)
    bit (t.get F.SUP_STATUS_IN_RANGE) 2 = false ∧ (t.dom 1).step = 1 ∧ t.get (F.DOM_STATE 1) = dsSwitching ∧ t.get F.DOM_STATUS_FAULT_EV = 1 ∧
      s.steady t := by
  have hr := s.regsOnly_outOfRange 2 mv
  have hb := s.fieldsBut_outOfRange 2 mv
  have hin := (s.outOfRange_bits (by decide : 2 < 6) mv).1
  have hexit : s.supplyExit 2 mv = (((s.outOfRange 2 mv).domainFault 1 1).domainFault 2 1).domainFault 3 1 := by
    rw [State.supplyExit_of_out (by decide) hmv ho, show fedBy 2 = [1, 2, 3] from rfl, State.each, List.foldl_cons, List.foldl_cons, List.foldl_cons,
      List.foldl_nil]
  generalize s.outOfRange 2 mv = u at hr hb hin hexit
  have hdom : ∀ d, u.dom d = s.dom d := fun d => by rw [hr]; rfl
  have hcore : u.core = s.core := by rw [hr]; rfl
  obtain ⟨hrange, hfirst, hshown, hevent, hcore', hcalm⟩ := State.domainFault_vana (by rw [hdom, hstep]) ((hb _ (by decide)).trans hon)
    fun d hd => by rw [hdom, hf d hd]
  rw [hexit]
  generalize ((u.domainFault 1 1).domainFault 2 1).domainFault 3 1 = v at hrange hfirst hshown hevent hcore' hcalm
  have hend := (State.Spares.refl powerKey v).finish (s := s) (hcalm (hr.calm hs.2)) powerKey_not_shown
  refine ⟨?_, ?_, ?_, ?_, State.steady_of_core (hend.core.trans (hcore'.trans hcore))⟩
  · rw [hend.get _ (by decide), hrange, hin]
  · rw [hend.dom, hfirst]
  · rw [hend.get _ (by decide), hshown]
  · rw [hend.get _ (by decide), hevent]

end Sys2Proof.Machine

/-! Commanded domain switches, supplies and temperature. -/

namespace Sys2Proof.Machine

/-- Settles O60: the commanded switches by what a switch and the return or loss of a domain leave of the power switches, the supplies by their
fields and, for `VANA`, by the fault of each domain that it feeds. -/
theorem domainSwitches : Obligations.DomainSwitches := by
  intro s hs hd
  have finished : ∀ {d v g u}, d ∈ List.range' 1 7 → s.Switched d v g u →
      (s.finish u).get (F.DOM_STATE d) = v ∧ ((s.finish u).dom d).goal = g ∧ s.steady (s.finish u) := fun hd h =>
    have hf := h.finish (t := s) hs.2 hd
    ⟨hf.shown, hf.goal, State.steady_of_core hf.core⟩
  refine ⟨fun hp hst hserv _ h1 => ?_, fun d g hd1 hd7 hg h4 hstill => ?_, fun sup mv hsup hmv => ?_, fun temp => ?_⟩
  · refine ⟨fun k hk => ?_, fun hb hstate => ?_, fun hb hstate => ?_⟩
    · have hfeed : isFeed k = true := by rcases hk with rfl | rfl <;> rfl
      have hdom : 1 + k ∈ domCommanded := by rcases hk with rfl | rfl <;> decide
      have hbit : domBit (1 + k) = k - 1 := by rcases hk with rfl | rfl <;> rfl
      have h7 : 1 + k ≠ 7 := by omega
      refine ⟨fun hb hstate => ⟨_, exec_intakeDomainOff k s hd hp hfeed, ?_⟩, fun hb hstate => ⟨_, exec_intakeDomainOn k s hd hp hfeed, ?_⟩⟩
      · have := State.regWrite_domWord (v := false) hst hserv hdom h1 hstate (by rw [hbit, hb]; rfl)
        simp only [switchGoal, h7] at this
        exact finished (commanded_range _ hdom) this
      · have := State.regWrite_domWord (v := true) hst hserv hdom h1 (by simpa [switchGoal, h7] using hstate) (by rw [hbit, hb]; rfl)
        exact finished (commanded_range _ hdom) this
    · exact ⟨_, exec_quayDomainRetain s hd hp,
        finished (by decide) (State.regWrite_domWord (v := false) hst hserv (by decide) h1 hstate (by exact hb))⟩
    · exact ⟨_, exec_quayDomainOn s hd hp,
        finished (by decide) (State.regWrite_domWord (v := true) hst hserv (by decide) h1 hstate (by exact hb))⟩
  · have hrange : d ∈ List.range' 1 7 := by simp; omega
    obtain ⟨hsw, hev⟩ := State.switchDone_switched hrange hg h4 hstill
    obtain ⟨hshown, hgoal, hsteady⟩ := finished hrange hsw
    exact ⟨_, exec_domainSwitchDone d s hd (by simp [inR]; omega), hshown, hgoal, (State.get_finish (hsw.calm hs.2) (by decide)).trans hev, hsteady⟩
  · refine ⟨fun ho hfed => ?_, fun ho h2 hstep hon hf => ?_, fun hi => ?_⟩
    · exact ⟨_, exec_supplyRangeExit sup mv s hd (by simpa using hsup), State.finish_supplyExit_unfed hs hsup hmv ho hfed⟩
    · subst h2
      exact ⟨_, exec_supplyRangeExit 2 mv s hd rfl, State.finish_supplyExit_vana hs hmv ho hstep hon hf⟩
    · exact ⟨_, exec_supplyRangeReturn sup mv s hd (by simpa using hsup), State.finish_supplyReturn hs hsup hmv hi⟩
  · exact ⟨fun h hw => ⟨_, exec_tempWarnRise temp s hd, State.finish_tempRise hs h hw⟩,
      fun h hw => ⟨_, exec_tempWarnFall temp s hd, State.finish_tempFall hs h hw⟩⟩

end Sys2Proof.Machine

/-! The status fields under every step (O4). -/

namespace Sys2Proof.Machine

/-- The changes of the supply and of the reset pin, which reach the device in every state (log entry 1). -/
def powerAndPin : List Instr := [.vkeepPowerOn, .vkeepFall, .resetPinWarm, .resetPinFull, .resetNRelease]

/-- Every other command is an event, a word of the host too: it does nothing while VKEEP is low. -/
theorem exec_event {c : Instr} (hc : c ∉ powerAndPin) (s : State) :
    ∃ (off : Bool) (u : State), exec c s = .next (if s.dead || off then s else s.finish u) := by
  cases c with
  | vkeepPowerOn | vkeepFall | resetPinWarm | resetPinFull | resetNRelease => exact absurd (by simp [powerAndPin]) hc
  | _ => exact ⟨_, _, rfl⟩

/-- Every command answers the state as it was, or the end of an effect on it. -/
theorem exec_answers (c : Instr) (s : State) : exec c s = .next s ∨ ∃ u, exec c s = .next (s.finish u) := by
  by_cases hc : c ∈ powerAndPin
  · simp only [powerAndPin, List.mem_cons, List.not_mem_nil, or_false] at hc
    rcases hc with rfl | rfl | rfl | rfl | rfl
    · exact .inr ⟨s.keepBack, rfl⟩
    · exact .inr ⟨s.keepLost, rfl⟩
    · exact .inr ⟨s.pinWarm, rfl⟩
    · exact .inr ⟨s.pinFull, rfl⟩
    · exact .inr ⟨s.setPinLow false, rfl⟩
  · obtain ⟨off, u, e⟩ := exec_event hc s
    rw [e]
    split
    · exact .inl rfl
    · exact .inr ⟨u, rfl⟩

/-- Every command keeps the status fields in line with what they stand for. -/
theorem exec_shows {c : Instr} {s t : State} (h : s.Shows) (e : exec c s = .next t) : t.Shows := by
  rcases exec_answers c s with same | ⟨u, ends⟩
  · have ht : s = t := Host.Outcome.next.inj (same.symm.trans e)
    exact ht ▸ h
  · have ht : s.finish u = t := Host.Outcome.next.inj (ends.symm.trans e)
    exact ht ▸ State.finish_shows s u

/-- So does the tick of an empty queue. -/
theorem State.tick_shows {s : State} (h : s.Shows) : s.tick.Shows := by
  unfold State.tick
  split
  · exact h
  · exact State.finish_shows s _

/-- Settles O4: a command ends with the fields shown or leaves the state as it was, and so does the tick. -/
theorem statusKept : Obligations.StatusKept := by
  unfold Obligations.StatusKept
  intro s t h e
  unfold step at e
  split at e
  next => exact Host.Outcome.next.inj e ▸ State.tick_shows h
  next c rest _ => exact exec_shows (s := s.setPending rest) h e

end Sys2Proof.Machine

/-! Concrete devices for the refutations of O18 and O59. -/

namespace Sys2Proof.Machine

/-- The level of the hold pins lies outside what the end of a command changes. -/
theorem State.finish_holdPins (s : State) {t : State} (h : t.Calm) : (s.finish t).holdPins = t.holdPins := by
  rw [(State.finish_rest s h).1]

/-- The fall of VKEEP leaves no berth that is being shed. -/
theorem State.keepLost_calm (s : State) : s.keepLost.Calm := Or.inl fun e he => absurd he (List.not_mem_nil (a := e))

/-- The fall of VKEEP leaves the pins that hold the quays as they were. -/
theorem State.keepLost_holdPins (s : State) : s.keepLost.holdPins = s.holdPins := rfl

/-- Refutes O18: its first clause lists what the fall of VKEEP keeps without the level of the hold pins, which are inputs and outlast it. With
one hold pin asserted (`holdPins` 1) the state after the fall still shows it, where the statement has the reset value 0. -/
theorem not_powerAndPins : ¬ Obligations.PowerAndPins := by
  unfold Obligations.PowerAndPins
  intro h
  obtain ⟨⟨t, ht, hr⟩, -⟩ := h (State.reset.setHoldPins 1)
  have he : (State.reset.setHoldPins 1).finish (State.reset.setHoldPins 1).keepLost = t := Host.Outcome.next.inj ht
  have h0 : t.holdPins = State.reset.holdPins := by rw [hr]
  have h1 : t.holdPins = 1 := by
    rw [← he, State.finish_holdPins _ (State.keepLost_calm _), State.keepLost_holdPins]
    rfl
  exact absurd (h0.symm.trans h1) (by decide)

/-- A rewrite of slot 30 waits for the end of `stagedReq`, which is bound to the slot's old generation (R347). -/
def rewriteWaits : Slot := { key := some (List.replicate 32 0), usage := 2, gen := 0, mask := [], pending := some (List.replicate 32 1, 2, false) }

/-- STORE restarts and waits for the custody rebuild, with `stagedReq` in custody and a rewrite of its slot deferred. -/
def State.rebuildsCustody : State :=
  ({ State.inRun.put (F.DOM_STATE 6) dsSwitching with
      bondReqs := [stagedReq], slots := [(30, rewriteWaits)], rebuilding := true, doms := [(6, { Dom.reset with step := 5 })] }).shown

theorem State.settled_rebuildsCustody : State.rebuildsCustody.Settled := by
  unfold State.Settled State.Shows State.Calm
  decide +kernel

/-- One byte of the request's rebuilt copy is read wrong. -/
def oneByteWrong : List (Nat × BitVec 32 × Nat × BitVec 8) := [(0x63, 0#32, 0, 1#8)]

/-- Refutes O59: the rebuild finds the copy of `stagedReq` bad, and with the lost request the deferred rewrite of slot 30 takes effect (R278, R347), so
that the key slots are not what they were. -/
theorem not_domainRestarts : ¬ Obligations.DomainRestarts := by
  intro h
  have clauses := h State.rebuildsCustody State.settled_rebuildsCustody rfl 6 (by decide) (by decide)
  obtain ⟨_, _, rebuild, _⟩ := clauses
  obtain ⟨t, ht, _, _, _, _, _, _, _, hslots, _⟩ := rebuild rfl rfl (by decide +kernel) (by decide +kernel) oneByteWrong
  rw [exec_custodyRebuildDone _ _ rfl] at ht
  obtain rfl := Host.Outcome.next.inj ht
  have hcalm : (State.rebuildsCustody.rebuildDone (oneByteWrong.map (fun x => (x.1, x.2.1.toNat, x.2.2)))).Calm := .inl (by decide +kernel)
  rw [(State.finish_rest _ hcalm).1] at hslots
  have hgen := congrArg (fun l => (Tbl.get (fun _ => Slot.reset) l 30).gen) hslots
  revert hgen
  decide +kernel
end Sys2Proof.Machine

/-! A state that no run reaches and no statement excludes: it refutes O20 to O24. -/

namespace Sys2Proof.Machine

/-- An armed change of a quay's COMMIT block that names `GLB_MODE_CAUSE`, a register outside every block. No write leaves one, and the statements
of O20 to O24, which are about every state, do not exclude it. -/
def strayShadow : Shadow := { commit := quayCommit 0, fld := F.GLB_MODE_CAUSE_CAUSE, val := 0, armed := true }

/-- A device in a mode, with no reset under way, that holds `strayShadow`; quay 1 is in a frame, so that no domain goes down. -/
def State.strayIn (m : Mode) : State :=
  ({ State.reset with mode := m, boot := none, shadow := [strayShadow], quays := [(1, { Quay.reset with sending := some (0, 0) })] }).shown

/-- The same device in WIND, which a power-on reset has brought and which has not begun. -/
def State.strayBoot : State := (State.strayIn .wind).setBoot State.reset.boot

/-- The same device in RUN with `REFIN` qualified. -/
def State.strayRefin : State := (State.strayIn .run).put F.TB_REF_STATUS_REFIN_OK 1

/-- The same device in SURVEY, with QUAY switched off by `DOM_CTRL`. -/
def State.straySurvey : State := (State.strayIn .survey).put F.DOM_CTRL_QUAY_ON 0

/-- A flash that answers no SFDP signature. -/
def blankSfdp : Sfdp := { signature := 0, dword1 := 0, dword3 := 0, dword15 := 0, quadEnabled := false }

theorem State.settled_strayRefin : State.strayRefin.Settled := by
  unfold State.Settled State.Shows State.Calm
  decide +kernel

/-- Where the effect of a command has lost the cause of the transition, so has the state after the command. -/
theorem State.cause_finish {s u : State} (hc : u.Calm) (h : u.get F.GLB_MODE_CAUSE_CAUSE = 0) : (s.finish u).get F.GLB_MODE_CAUSE_CAUSE = 0 :=
  (State.get_finish hc (by decide)).trans h

/-- Refutes O20: with no good header the device enters ANCHOR, whose shutdown steps apply `strayShadow` at the boundary of quay 0 (R41, R59); the
cause then reads 0. -/
theorem not_winding : ¬ Obligations.Winding := by
  intro h
  obtain ⟨begins, _⟩ := h State.strayBoot rfl
  obtain ⟨t, ht, _, _, _, _, _, _, noCopy, _⟩ := begins _ rfl rfl rfl blankSfdp [] []
  obtain ⟨_, hcause, _⟩ := noCopy (by decide +kernel) (by decide)
  rw [exec_windBegin _ _ _ _ rfl] at ht
  obtain rfl := Host.Outcome.next.inj ht
  have hcalm : (State.strayBoot.windStart blankSfdp [] []).Calm := .inl (by decide +kernel)
  exact absurd (hcause.symm.trans (State.cause_finish hcalm (by decide +kernel))) (by decide)

/-- Refutes O21: the entry into ANCHOR at the lock timeout applies `strayShadow` (R41, R59), and the cause reads 0. -/
theorem not_regulating : ¬ Obligations.Regulating := by
  intro h
  obtain ⟨_, noReference, _⟩ := h (State.strayIn .regulate) rfl rfl rfl
  obtain ⟨t, ht, _, hcause, _⟩ := noReference (by decide +kernel) (by decide +kernel)
  rw [exec_regulateLockTimeout _ rfl] at ht
  obtain rfl := Host.Outcome.next.inj ht
  have hcalm : (State.strayIn .regulate).regulateTimeout.Calm := .inl (by decide +kernel)
  exact absurd (hcause.symm.trans (State.cause_finish hcalm (by decide +kernel))) (by decide)

/-- Refutes O22: with QUAY switched off by `DOM_CTRL` the quays leave service at the end of SURVEY (R34, R40), the boundary of quay 0 applies
`strayShadow`, and the cause reads 0. -/
theorem not_surveying : ¬ Obligations.Surveying := by
  intro h
  obtain ⟨_, survey, _⟩ := h State.straySurvey rfl rfl
  obtain ⟨_, limit, _⟩ := survey rfl (by decide +kernel)
  obtain ⟨t, ht, _, hcause, _⟩ := limit
  rw [exec_surveyLimitExpire _ rfl] at ht
  obtain rfl := Host.Outcome.next.inj ht
  have hcalm : (State.straySurvey.surveyEnd cSurveyLimit).Calm := .inl (by decide +kernel)
  exact absurd (hcause.symm.trans (State.cause_finish hcalm (by decide +kernel))) (by decide)

/-- Refutes O23: the shutdown steps of ENTER_ANCHOR apply `strayShadow` (R41, R59), and the cause reads 0. -/
theorem not_anchoring : ¬ Obligations.Anchoring := by
  intro h
  obtain ⟨command, _⟩ := h (State.strayIn .run) rfl
  obtain ⟨t, ht, _, hcause, _⟩ := command rfl (by decide) rfl rfl
  rw [exec_enterAnchor _ _ rfl rfl] at ht
  obtain rfl := Host.Outcome.next.inj ht
  have hcalm : ((State.strayIn .run).regWrite srcTwoWire 0x5 ((0x5A#8).toNat * 256 + 3)).Calm := .inl (by decide +kernel)
  exact absurd (hcause.symm.trans (State.cause_finish hcalm (by decide +kernel))) (by decide)

/-- Refutes O24: the loss of `REFIN` without `TCXO_IN` enters ANCHOR, whose shutdown steps apply `strayShadow` (R41, R59), and the cause reads 0. -/
theorem not_references : ¬ Obligations.References := by
  intro h
  obtain ⟨refin, _⟩ := h State.strayRefin State.settled_strayRefin rfl
  obtain ⟨_, noTcxo⟩ := refin true rfl rfl (by decide +kernel)
  obtain ⟨t, ht, _, hcause, _⟩ := noTcxo (by decide +kernel)
  rw [exec_refinLost _ _ rfl] at ht
  obtain rfl := Host.Outcome.next.inj ht
  have hcalm : (State.strayRefin.refinGone true).Calm := .inl (by decide +kernel)
  exact absurd (hcause.symm.trans (State.cause_finish hcalm (by decide +kernel))) (by decide)

end Sys2Proof.Machine

/-! What lasts, and what only few commands change (O6): ANCHOR is left for WIND alone, and each command keeps the parts of the state that no
function behind it touches. -/

namespace Sys2Proof.Machine

/-- The part that a walk through the modes looks at. -/
def modeOnly : Part → Bool
  | .mode => true
  | _ => false

/-- A value that was accepted broke no rule of its register (R12). -/
theorem State.rule_of_judge {s : State} {src a base new : Nat} {r : RDesc} {rule : Rule} {v : Nat × Nat}
    (h : (s.judge src a base r new rule).2 = some v) : rule s (s.regValue r base) new = none := by
  unfold State.judge at h
  dsimp only at h
  split at h
  · cases h
  split at h
  · cases h
  split at h
  · cases h
  · assumption

/-- A mode command that was accepted was allowed in the mode that the device is in (R29). -/
theorem State.allowed_of_write {s : State} {src w : Nat} {v : Nat × Nat} (h : (s.write src 5 w modeRule).2 = some v) :
    ∃ u : State, u.mode = s.mode ∧ u.cmdAllowed (bits w 0 4) = true := by
  have judged (u : State) (hu : (u.writeAt src 5 w modeRule).2 = some v) : u.cmdAllowed (bits w 0 4) = true := by
    unfold State.writeAt at hu
    split at hu
    · cases hu
    next r base hr =>
      obtain ⟨rfl, rfl⟩ := Prod.mk.inj (Option.some.inj ((show regAt 0 5 = some (r, base) from hr).symm.trans (by rfl)))
      dsimp only at hu
      split at hu
      · cases hu
      · rw [if_pos rfl] at hu
        have hrule := State.rule_of_judge hu
        unfold modeRule at hrule
        split at hrule
        next hc => exact (Bool.and_eq_true_iff.1 hc).2
        next => cases hrule
  unfold State.write at h
  split at h
  · exact ⟨s.touch 5, (Keeps.touch (Keeps.refl modeOnly s) 5).mode rfl, judged _ h⟩
  · exact ⟨s, rfl, judged s h⟩

/-- The device is in ANCHOR, or in WIND, which alone leads out of it. -/
def State.Sunk (s : State) : Prop := s.mode = .anchor ∨ s.mode = .wind

namespace State.Sunk

variable {s t : State}

theorem of_mode (h : s.Sunk) (e : t.mode = s.mode) : t.Sunk := by
  unfold State.Sunk
  rwa [e]

theorem setRegs (h : s.Sunk) (v : Tbl Nat) : (s.setRegs v).Sunk := h

theorem kept (hk : s.Keeps modeOnly t) (h : s.Sunk) : t.Sunk := h.of_mode (hk.mode rfl)

theorem ne_run (h : s.Sunk) : s.mode ≠ .run := by obtain h | h := h <;> rw [h] <;> decide

theorem ne_survey (h : s.Sunk) : s.mode ≠ .survey := by obtain h | h := h <;> rw [h] <;> decide

theorem ne_drift (h : s.Sunk) : s.mode ≠ .drift := by obtain h | h := h <;> rw [h] <;> decide

theorem ne_regulate (h : s.Sunk) : s.mode ≠ .regulate := by obtain h | h := h <;> rw [h] <;> decide

theorem ite {c : Prop} [Decidable c] (hs : s.Sunk) (ht : t.Sunk) : (if c then s else t).Sunk := by split <;> assumption

theorem dite {c : Prop} [Decidable c] (hs : c → s.Sunk) (ht : ¬c → t.Sunk) : (if c then s else t).Sunk := by
  split
  · exact hs ‹_›
  · exact ht ‹_›

theorem when (h : s.Sunk) {c : Bool} {g : State → State} (hg : ∀ t, t.Sunk → (g t).Sunk) : (s.when c g).Sunk := ite (hg s h) h

theorem each {α : Type} (h : s.Sunk) {l : List α} {g : α → State → State} (hg : ∀ a t, t.Sunk → (g a t).Sunk) : (s.each l g).Sunk := by
  unfold State.each
  induction l generalizing s with
  | nil => exact h
  | cons a l ih => exact ih (hg a s h)

theorem foldl {α : Type} (h : s.Sunk) {l : List α} {g : State → α → State} (hg : ∀ t a, t.Sunk → (g t a).Sunk) : (l.foldl g s).Sunk := by
  induction l generalizing s with
  | nil => exact h
  | cons a l ih => exact ih (hg s a h)

theorem takeoverSwitch (h : s.Sunk) (n : Nat) : (s.takeoverSwitch n).Sunk := by
  unfold State.takeoverSwitch
  dsimp only
  repeat' with_reducible first
    | assumption | intro _ | apply kept (Keeps.put (Keeps.refl _ _) _ _) | apply kept (Keeps.up (Keeps.refl _ _) _)
    | apply kept (Keeps.down (Keeps.refl _ _) _) | apply kept (Keeps.bump (Keeps.refl _ _) _) | apply kept (Keeps.putUnit (Keeps.refl _ _) _ _ _)
    | apply kept (Keeps.putLane (Keeps.refl _ _) _ _) | apply kept (Keeps.laneTest (Keeps.refl _ _) _ _ _) | apply when | apply each | apply foldl
    | apply dite | dsimp only | split

theorem windowClose (h : s.Sunk) : (s.windowClose).Sunk := by
  unfold State.windowClose
  dsimp only
  repeat' with_reducible first
    | assumption | intro _ | apply kept (Keeps.setPilotWindow (Keeps.refl _ _) _) | apply kept (Keeps.put (Keeps.refl _ _) _ _)
    | apply kept (Keeps.down (Keeps.refl _ _) _) | apply kept (Keeps.agcShow (Keeps.refl _ _) _) | apply kept (Keeps.rxState (Keeps.refl _ _) _ _)
    | apply when | apply each | apply foldl | apply dite

theorem turnroundEnd (h : s.Sunk) : (s.turnroundEnd).Sunk := by
  unfold State.turnroundEnd
  dsimp only
  repeat' with_reducible first
    | assumption | intro _ | apply kept (Keeps.setTxAt (Keeps.refl _ _) _) | apply kept (Keeps.txEnd (Keeps.refl _ _) _ _)
    | apply kept (Keeps.listenOpen (Keeps.refl _ _) _ _) | apply windowClose | apply when | apply each | apply foldl | apply dite | dsimp only
    | split

theorem pilotStop (h : s.Sunk) : (s.pilotStop).Sunk := by
  unfold State.pilotStop
  dsimp only
  repeat' with_reducible first
    | assumption | intro _ | apply kept (Keeps.setTrsw (Keeps.refl _ _) _) | apply kept (Keeps.setOnAir (Keeps.refl _ _) _)
    | apply kept (Keeps.txEnd (Keeps.refl _ _) _ _) | apply kept (Keeps.listenClose (Keeps.refl _ _)) | apply windowClose
    | apply kept (Keeps.txLeave (Keeps.refl _ _)) | apply when | apply each | apply foldl | apply dite | dsimp only | split

theorem pilotHalt (h : s.Sunk) : (s.pilotHalt).Sunk := by
  unfold State.pilotHalt
  dsimp only
  repeat' with_reducible first
    | assumption | intro _ | apply kept (Keeps.setTrsw (Keeps.refl _ _) _) | apply kept (Keeps.setOnAir (Keeps.refl _ _) _)
    | apply kept (Keeps.listenClose (Keeps.refl _ _)) | apply windowClose | apply kept (Keeps.txLeave (Keeps.refl _ _))

theorem dabFic (h : s.Sunk) (n : Nat) (f : DabFrame) : (s.dabFic n f).Sunk := by
  unfold State.dabFic
  dsimp only
  repeat' with_reducible first
    | assumption | intro _ | apply kept (Keeps.put (Keeps.refl _ _) _ _) | apply kept (Keeps.putDab (Keeps.refl _ _) _ _)
    | apply kept (Keeps.unitOut (Keeps.refl _ _) _ _) | apply kept (Keeps.eidFrame (Keeps.refl _ _) _)
    | apply kept (Keeps.fig (Keeps.refl _ _) _ _ _) | apply kept (Keeps.dabVerify (Keeps.refl _ _) _ _ _) | apply when | apply each | apply foldl
    | apply dite

theorem dabFrame (h : s.Sunk) (n : Nat) (f : DabFrame) : (s.dabFrame n f).Sunk := by
  unfold State.dabFrame
  dsimp only
  repeat' with_reducible first
    | assumption | intro _ | apply kept (Keeps.put (Keeps.refl _ _) _ _) | apply kept (Keeps.putDab (Keeps.refl _ _) _ _)
    | apply kept (Keeps.ofdmSeen (Keeps.refl _ _) _ _ _ _) | apply kept (Keeps.dabMissed (Keeps.refl _ _) _ _) | apply dabFic | apply when
    | apply each | apply foldl | apply dite

theorem portFaded (h : s.Sunk) (p : Nat) : (s.portFaded p).Sunk := by
  unfold State.portFaded
  dsimp only
  repeat' with_reducible first
    | assumption | intro _ | apply kept (Keeps.putPort (Keeps.refl _ _) _ _) | apply kept (Keeps.setOut (Keeps.refl _ _) _ _)
    | apply kept (Keeps.portStopped (Keeps.refl _ _) _) | apply kept (Keeps.portShow (Keeps.refl _ _) _) | apply settle | apply when | apply each
    | apply foldl | apply dite

theorem intakeValid (h : s.Sunk) (k : Nat) : (s.intakeValid k).Sunk := by
  unfold State.intakeValid
  dsimp only
  repeat' with_reducible first
    | assumption | intro _ | apply kept (Keeps.down (Keeps.refl _ _) _) | apply kept (Keeps.putIntake (Keeps.refl _ _) _ _)
    | apply kept (Keeps.showValidAll (Keeps.refl _ _)) | apply when | apply each | apply foldl | apply dite

theorem adcBlock (h : s.Sunk) (k : Nat) (xs : List Int) (fault pops : Nat) : (s.adcBlock k xs fault pops).Sunk := by
  unfold State.adcBlock
  dsimp only
  refine ite h (each ?_ fun _ _ ht => ht.kept (Keeps.popBlock (Keeps.refl _ _) _))
  generalize hu : (if inR 1 5 _ = true then State.intakeFault _ _ _ else State.intakeValid _ _) = u
  have checked : u.Sunk := by
    subst hu
    repeat' with_reducible first
      | assumption | intro _ | apply intakeValid | apply kept (Keeps.intakeFault (Keeps.refl _ _) ..) | apply kept (Keeps.attack (Keeps.refl _ _) _)
      | apply kept (Keeps.inWindow (Keeps.refl _ _) ..) | apply kept (Keeps.up (Keeps.refl _ _) _)
      | apply kept (Keeps.bump (Keeps.refl _ _) _) | apply kept (Keeps.gainBlock (Keeps.refl _ _) _) | apply when | apply each | apply ite
  generalize hx : State.pushBlock _ _ _ _ _ = x
  have pushed : x.1.Sunk := hx ▸ checked.kept (Keeps.pushBlock (Keeps.refl _ _) ..)
  obtain ⟨t, v⟩ := x
  cases v with
  | true => exact pushed
  | false => exact pushed.kept (Keeps.chanOverrun (Keeps.setInjStall (Keeps.refl _ _) _) _ _)

theorem quayLeave (h : s.Sunk) : (s.quayLeave).Sunk := by
  unfold State.quayLeave
  dsimp only
  repeat' with_reducible first
    | assumption | intro _ | apply kept (Keeps.setLandRx (Keeps.refl _ _) _) | apply kept (Keeps.down (Keeps.refl _ _) _) | apply pilotStop
    | apply kept (Keeps.quayBoundary (Keeps.refl _ _) _) | apply kept (Keeps.landBoundary (Keeps.refl _ _))
    | apply kept (Keeps.portsMute (Keeps.refl _ _)) | apply when | apply each

theorem failQuay (h : s.Sunk) : (s.failQuay).Sunk := by
  unfold State.failQuay
  dsimp only
  repeat' with_reducible first
    | assumption | intro _ | apply kept (Keeps.setCustody (Keeps.refl _ _) _) | apply kept (Keeps.setLandRx (Keeps.refl _ _) _)
    | apply kept (Keeps.setBondReqs (Keeps.refl _ _) _) | apply kept (Keeps.setKeyWrap (Keeps.refl _ _) _)
    | apply kept (Keeps.setKekData (Keeps.refl _ _) _) | apply kept (Keeps.setDrbg (Keeps.refl _ _) _) | apply kept (Keeps.up (Keeps.refl _ _) _)
    | apply kept (Keeps.error (Keeps.refl _ _) _ _ _ _ _) | apply kept (Keeps.clearWords (Keeps.refl _ _) _) | apply pilotHalt
    | apply kept (Keeps.putQuay (Keeps.refl _ _) _ _) | apply kept (Keeps.portStopped (Keeps.refl _ _) _)
    | apply kept (Keeps.loseQuay (Keeps.refl _ _)) | apply when | apply each

theorem lose (h : s.Sunk) (d : Nat) (keep : Bool) : (s.lose d keep).Sunk := by
  unfold State.lose
  repeat' with_reducible first
    | assumption | intro _ | apply kept (Keeps.loseTimebase (Keeps.refl _ _)) | apply kept (Keeps.loseIntake (Keeps.refl _ _) _)
    | apply kept (Keeps.loseLanes (Keeps.refl _ _)) | apply kept (Keeps.loseEngine (Keeps.refl _ _)) | apply kept (Keeps.loseStore (Keeps.refl _ _))
    | apply kept (Keeps.loseQuay (Keeps.refl _ _)) | apply failQuay | apply when | apply each | apply foldl | apply dite

theorem switchTo (h : s.Sunk) (d state : Nat) : (s.switchTo d state).Sunk := by
  unfold State.switchTo
  dsimp only
  repeat' with_reducible first
    | assumption | intro _ | apply kept (Keeps.put (Keeps.refl _ _) _ _) | apply kept (Keeps.putDom (Keeps.refl _ _) _ _) | apply lose
    | apply kept (Keeps.back (Keeps.refl _ _) _) | apply when | apply each | apply foldl | apply dite

theorem switchStart (h : s.Sunk) (d : Nat) (on : Bool) : (s.switchStart d on).Sunk := by
  unfold State.switchStart
  dsimp only
  repeat' with_reducible first
    | assumption | intro _ | apply kept (Keeps.put (Keeps.refl _ _) _ _) | apply kept (Keeps.landShow (Keeps.refl _ _))
    | apply kept (Keeps.putDom (Keeps.refl _ _) _ _) | apply quayLeave | apply lose | apply when | apply each | apply foldl | apply dite

theorem domWrite (h : s.Sunk) (src w : Nat) : (s.domWrite src w).Sunk := by
  have written : (s.write src 0x2A00 w domRule).1.Sunk := h.kept (Keeps.write (Keeps.refl _ _) ..)
  unfold State.domWrite
  split
  · next e => rw [e] at written; exact written
  · next e =>
    rw [e] at written
    exact each (each written fun _ _ ht => switchStart ht ..) fun _ _ ht => switchStart ht ..

theorem switchDone (h : s.Sunk) (d : Nat) : (s.switchDone d).Sunk := by
  unfold State.switchDone
  dsimp only
  repeat' with_reducible first
    | assumption | intro _ | apply kept (Keeps.put (Keeps.refl _ _) _ _) | apply kept (Keeps.up (Keeps.refl _ _) _)
    | apply kept (Keeps.putDom (Keeps.refl _ _) _ _) | apply lose | apply kept (Keeps.back (Keeps.refl _ _) _) | apply when | apply each
    | apply foldl | apply dite | dsimp only | split

theorem showMode {m : Mode} (hm : m = .anchor ∨ m = .wind) (s : State) (old cause detail : Nat) : (s.showMode m old cause detail).Sunk := hm

theorem enterMode (s : State) (cause detail : Nat) (injected : Bool) : (s.enterMode .anchor cause detail injected).Sunk := by
  have shown := showMode (m := .anchor) (.inl rfl) s s.mode.code cause detail
  have left := when shown (c := s.mode == .survey) (g := State.surveyLeft) fun _ ht => ht.kept (Keeps.surveyLeft (Keeps.refl _ _))
  have told := left.kept (Keeps.announce (Keeps.refl _ _) s.mode.code Mode.anchor.code cause detail injected)
  exact told.kept (Keeps.alertSweep (Keeps.refl _ _))

theorem modeDomains (h : s.Sunk) : (s.modeDomains).Sunk := by
  unfold State.modeDomains
  dsimp only
  repeat' with_reducible first
    | assumption | intro _ | apply quayLeave | apply switchTo | apply switchStart | apply when | apply each | apply foldl | apply dite

theorem powerDown (h : s.Sunk) : (s.powerDown).Sunk := by
  unfold State.powerDown
  repeat' with_reducible first
    | assumption | intro _ | apply switchTo

theorem resetNow (s : State) (b : Boot) : (s.resetNow b).Sunk := by
  unfold State.resetNow
  dsimp only
  generalize (State.clearBlocks _ |>.setRegs _).testsEnd = u
  have shown := showMode (m := .wind) (.inr rfl) u b.old b.cause b.detail
  have after := shown.kept (Keeps.showAfter (Keeps.refl _ _))
  have left := after.when (c := s.mode == .survey && !b.rank == 2) (g := State.surveyLeft) fun _ ht => ht.kept (Keeps.surveyLeft (Keeps.refl _ _))
  exact each left fun _ _ ht => ht

theorem settle (h : s.Sunk) : (s.settle).Sunk := by
  unfold State.settle
  dsimp only
  repeat' with_reducible first
    | assumption | intro _ | apply kept (Keeps.setClosing (Keeps.refl _ _) _) | apply powerDown | apply resetNow | apply when | apply each
    | apply foldl | apply dite | dsimp only | split

theorem shutdown (h : s.Sunk) : (s.shutdown).Sunk := by
  unfold State.shutdown
  dsimp only
  repeat' with_reducible first
    | assumption | intro _ | apply kept (Keeps.setClosing (Keeps.refl _ _) _) | apply kept (Keeps.setVisiting (Keeps.refl _ _) _)
    | apply kept (Keeps.put (Keeps.refl _ _) _ _) | apply kept (Keeps.landShow (Keeps.refl _ _)) | apply kept (Keeps.feedOff (Keeps.refl _ _) _)
    | apply quayLeave | apply kept (Keeps.berthHalt (Keeps.refl _ _) _) | apply settle | apply when | apply each | apply foldl | apply dite

theorem startReset (h : s.Sunk) (cause detail rank : Nat) (cmd : Bool) : (s.startReset cause detail rank cmd).Sunk := by
  unfold State.startReset
  dsimp only
  repeat' with_reducible first
    | assumption | intro _ | apply kept (Keeps.setBoot (Keeps.refl _ _) _) | apply kept (Keeps.up (Keeps.refl _ _) _) | apply resetNow
    | apply settle | apply shutdown | apply kept (Keeps.dropCommand (Keeps.refl _ _)) | apply when | apply each | apply foldl | apply dite

theorem anchorCause (h : s.Sunk) (cause detail rank : Nat) (injected : Bool) : (s.anchorCause cause detail rank injected).Sunk := by
  unfold State.anchorCause
  dsimp only
  exact ite (kept (Keeps.announce (Keeps.refl _ _) _ _ _ _ _) (showMode (.inl rfl) s _ _ _)) h

theorem enterAnchor (h : s.Sunk) (cause detail rank : Nat) (injected : Bool) : (s.enterAnchor cause detail rank injected).Sunk := by
  unfold State.enterAnchor
  dsimp only
  exact ite h (ite (anchorCause h ..) (shutdown (enterMode ..)))

theorem securityAlarm (h : s.Sunk) (detail : Nat) (injected : Bool) : (s.securityAlarm detail injected).Sunk := by
  unfold State.securityAlarm
  repeat' with_reducible first
    | assumption | intro _ | apply kept (Keeps.alarmErase rfl (Keeps.refl _ _) _ _) | apply enterAnchor | apply when | apply each | apply foldl
    | apply dite

theorem surveyDeferred (h : s.Sunk) : (s.surveyDeferred).Sunk := by
  unfold State.surveyDeferred
  rw [if_neg (by simp [h.ne_run])]
  exact h

theorem surveyOver (h : s.Sunk) : (s.surveyOver).Sunk := by
  unfold State.surveyOver
  dsimp only
  repeat' with_reducible first
    | assumption | intro _ | apply kept (Keeps.portsSurveyEnd (Keeps.refl _ _)) | apply kept (Keeps.berthReturn (Keeps.refl _ _) _)
    | apply modeDomains | apply when | apply each

theorem surveyEnd (h : s.Sunk) (cause : Nat) : (s.surveyEnd cause).Sunk := by
  unfold State.surveyEnd
  rw [if_neg (by simp [h.ne_survey])]
  exact h

theorem surveyDue (h : s.Sunk) : s.surveyDue.Sunk := by
  unfold State.surveyDue
  dsimp only
  refine ite h ?_
  rw [if_neg (by simp [h.ne_run])]
  exact h

theorem surveyDone (h : s.Sunk) (found : List Found) (tables : List AfEntry) : (s.surveyDone found tables).Sunk := by
  unfold State.surveyDone
  rw [if_neg (by simp [h.ne_survey])]
  exact h

theorem modeCommand (h : s.Sunk) (src w : Nat) : (s.modeCommand src w).Sunk := by
  have written : (s.write src 5 w modeRule).1.Sunk := h.kept (Keeps.write (Keeps.refl _ _) ..)
  unfold State.modeCommand
  split
  · next he => rw [he] at written; exact written
  · next he =>
    rw [he] at written
    obtain ⟨u, hu, allowed⟩ := State.allowed_of_write (congrArg Prod.snd he)
    have hsurvey : bits w 0 4 ≠ 1 := fun e => by
      simp only [e, State.cmdAllowed, if_true, Bool.and_eq_true, beq_iff_eq, hu] at allowed
      exact h.ne_run allowed.1
    dsimp only
    rw [if_neg hsurvey]
    refine ite (surveyEnd written _) (ite (enterAnchor written ..) (ite (startReset written ..) (ite (startReset written ..) ?_)))
    exact each written fun _ _ ht => ht.kept (Keeps.journal (Keeps.refl _ _) ..)

theorem surveyAtWrite (h : s.Sunk) (src a w : Nat) : (s.surveyAtWrite src a w).Sunk := by
  have written : (s.write src a w).1.Sunk := h.kept (Keeps.write (Keeps.refl _ _) ..)
  unfold State.surveyAtWrite
  generalize s.write src a w = x at written ⊢
  obtain ⟨t, v⟩ := x
  cases v with
  | none => exact written
  | some _ => exact surveyDue written

theorem pinFull (h : s.Sunk) : (s.pinFull).Sunk := by
  unfold State.pinFull
  repeat' with_reducible first
    | assumption | intro _ | apply startReset | apply when | apply each | apply foldl | apply dite

theorem serviceBegin (h : s.Sunk) : (s.serviceBegin).Sunk := by
  unfold State.serviceBegin
  dsimp only
  repeat' with_reducible first
    | assumption | intro _ | apply kept (Keeps.txEnd (Keeps.refl _ _) _ _) | apply kept (Keeps.pilotRunShow (Keeps.refl _ _))
    | apply kept (Keeps.quayRunShow (Keeps.refl _ _) _) | apply kept (Keeps.landRunShow (Keeps.refl _ _))
    | apply kept (Keeps.openWindow (Keeps.refl _ _) _ _) | apply kept (Keeps.portsBegin (Keeps.refl _ _))
    | apply kept (Keeps.lanesBegin (Keeps.refl _ _)) | apply kept (Keeps.berthsBegin (Keeps.refl _ _)) | apply modeDomains
    | apply kept (Keeps.capsBegin (Keeps.refl _ _)) | apply when | apply each

theorem domainFailed (h : s.Sunk) (d : Nat) : (s.domainFailed d).Sunk := by
  unfold State.domainFailed
  repeat' with_reducible first
    | assumption | intro _ | apply enterAnchor | apply when | apply each | apply foldl | apply dite

theorem domainFault (h : s.Sunk) (d cause : Nat) (injected : Bool) : (s.domainFault d cause injected).Sunk := by
  unfold State.domainFault
  dsimp only
  repeat' with_reducible first
    | assumption | intro _ | apply kept (Keeps.put (Keeps.refl _ _) _ _) | apply kept (Keeps.up (Keeps.refl _ _) _)
    | apply kept (Keeps.bump (Keeps.refl _ _) _) | apply kept (Keeps.error (Keeps.refl _ _) _ _ _ _ _)
    | apply kept (Keeps.engineShow (Keeps.refl _ _)) | apply kept (Keeps.landShow (Keeps.refl _ _)) | apply kept (Keeps.putDom (Keeps.refl _ _) _ _)
    | apply domainFailed | apply when | apply each | apply foldl | apply dite

theorem restartOff (h : s.Sunk) (d : Nat) : (s.restartOff d).Sunk := by
  unfold State.restartOff
  dsimp only
  repeat' with_reducible first
    | assumption | intro _ | apply kept (Keeps.put (Keeps.refl _ _) _ _) | apply kept (Keeps.putDom (Keeps.refl _ _) _ _) | apply lose
    | apply kept (Keeps.custodyLost rfl (Keeps.refl _ _) _ _) | apply when | apply each | apply foldl | apply dite

theorem restartOn (h : s.Sunk) (d : Nat) : (s.restartOn d).Sunk := by
  unfold State.restartOn
  dsimp only
  repeat' with_reducible first
    | assumption | intro _ | apply kept (Keeps.bump (Keeps.refl _ _) _) | apply kept (Keeps.putDom (Keeps.refl _ _) _ _) | apply switchTo

theorem restartDone (h : s.Sunk) (d : Nat) : (s.restartDone d).Sunk := by
  unfold State.restartDone
  dsimp only
  repeat' with_reducible first
    | assumption | intro _ | apply kept (Keeps.up (Keeps.refl _ _) _) | apply kept (Keeps.error (Keeps.refl _ _) _ _ _ _ _) | apply restartOn
    | apply when | apply each

theorem restartStep (h : s.Sunk) (d : Nat) : (s.restartStep d).Sunk := by
  unfold State.restartStep
  dsimp only
  repeat' with_reducible first
    | assumption | intro _ | apply kept (Keeps.setRebuilding (Keeps.refl _ _) _) | apply kept (Keeps.up (Keeps.refl _ _) _)
    | apply kept (Keeps.putDom (Keeps.refl _ _) _ _) | apply domainFailed | apply restartOff | apply restartDone | apply when | apply each
    | apply foldl | apply dite

theorem rebuildDone (h : s.Sunk) (errs : List (Nat × Nat × Nat × Byte)) : (s.rebuildDone errs).Sunk := by
  unfold State.rebuildDone
  dsimp only
  repeat' with_reducible first
    | assumption | intro _ | apply kept (Keeps.setRebuilding (Keeps.refl _ _) _) | apply kept (Keeps.up (Keeps.refl _ _) _)
    | apply kept (Keeps.down (Keeps.refl _ _) _) | apply kept (Keeps.error (Keeps.refl _ _) _ _ _ _ _)
    | apply kept (Keeps.custodyLost rfl (Keeps.refl _ _) _ _) | apply restartDone | apply when | apply each | apply foldl | apply dite

theorem restartTimeout (h : s.Sunk) (d : Nat) : (s.restartTimeout d).Sunk := by
  unfold State.restartTimeout
  repeat' with_reducible first
    | assumption | intro _ | apply domainFailed | apply when | apply each | apply foldl | apply dite

theorem supplyExit (h : s.Sunk) (sup mv : Nat) : (s.supplyExit sup mv).Sunk := by
  unfold State.supplyExit
  dsimp only
  repeat' with_reducible first
    | assumption | intro _ | apply kept (Keeps.mask (Keeps.refl _ _) _ _ _) | apply domainFault | apply kept (Keeps.supLevel (Keeps.refl _ _) _ _)
    | apply when | apply each | apply foldl | apply dite

theorem driftOver (h : s.Sunk) : (s.driftOver).Sunk := by
  unfold State.driftOver
  rw [if_neg (by simp [h.ne_drift])]
  exact h

theorem lockDeclared (h : s.Sunk) (m : Nat) : (s.lockDeclared m).Sunk := by
  unfold State.lockDeclared
  dsimp only
  generalize hx : State.classify _ .movement m true = x
  have judged : x.1.Sunk := hx ▸ h.kept (Keeps.classify (Keeps.putMov (Keeps.put (Keeps.up (Keeps.refl _ _) _) _ _) _ _) ..)
  obtain ⟨t, v⟩ := x
  cases v with
  | again => exact judged.kept (Keeps.pairSearch (Keeps.refl _ _) ..)
  | lasting => exact judged.kept (Keeps.movRetire (Keeps.refl _ _) ..)
  | transient | none =>
    refine driftOver (kept (Keeps.pairDo (Keeps.refl _ _) ..) ?_)
    have shown := judged.kept (Keeps.showMovements (Keeps.refl _ _))
    have moved (u : State) (hu : u.Sunk) : (if !u.pairRuns (pairOf m) then u.moveLoads (pairOf m) m else u).Sunk :=
      ite (hu.kept (Keeps.moveLoads (Keeps.refl _ _) ..)) hu
    refine moved _ ?_
    split
    · exact ite (shown.kept (Keeps.putPair (Keeps.refl _ _) ..)) shown
    · exact shown

theorem lockLost (h : s.Sunk) (m detector : Nat) (injected : Bool) : (s.lockLost m detector injected).Sunk := by
  unfold State.lockLost
  dsimp only
  repeat' with_reducible first
    | assumption | intro _ | apply kept (Keeps.setTrimming (Keeps.refl _ _) _) | apply kept (Keeps.up (Keeps.refl _ _) _)
    | apply kept (Keeps.down (Keeps.refl _ _) _) | apply kept (Keeps.bump (Keeps.refl _ _) _) | apply kept (Keeps.error (Keeps.refl _ _) _ _ _ _ _)
    | apply kept (Keeps.startTest (Keeps.refl _ _) _ _ _ _) | apply domainFault | apply kept (Keeps.moveLoads (Keeps.refl _ _) _ _)
    | apply kept (Keeps.pairSearch (Keeps.refl _ _) _ _) | apply kept (Keeps.advance (Keeps.refl _ _) _ _) | apply when | apply each | apply foldl
    | apply dite

theorem lockWindow (h : s.Sunk) (m count : Nat) : (s.lockWindow m count).Sunk := by
  unfold State.lockWindow
  dsimp only
  repeat' with_reducible first
    | assumption | intro _ | apply kept (Keeps.putMov (Keeps.refl _ _) _ _) | apply lockDeclared | apply lockLost | apply when | apply each
    | apply foldl | apply dite

theorem slip (h : s.Sunk) (m : Nat) (injected : Bool) : (s.slip m injected).Sunk := by
  unfold State.slip
  repeat' with_reducible first
    | assumption | intro _ | apply lockLost | apply when | apply each | apply foldl | apply dite

theorem twinGuard (h : s.Sunk) (p c0 c1 : Nat) : (s.twinGuard p c0 c1).Sunk := by
  unfold State.twinGuard
  dsimp only
  repeat' with_reducible first
    | assumption | intro _ | apply lockLost | apply when | apply each | apply foldl | apply dite

theorem refinLost (h : s.Sunk) (injected : Bool) : (s.refinLost injected).Sunk := by
  unfold State.refinLost
  dsimp only
  generalize hv : State.error _ 0x0104 .supervisor 0 .detected { injected := injected } = v
  have hs : v.Sunk := by
    rw [← hv]
    exact h.kept (Keeps.error (Keeps.setRefCount (Keeps.up (Keeps.down (Keeps.refl _ _) _) _) _) ..)
  rw [if_pos (by obtain e | e := hs <;> simp [e])]
  exact hs

theorem refinGone (h : s.Sunk) (edge : Bool) (injected : Bool) : (s.refinGone edge injected).Sunk := by
  unfold State.refinGone
  dsimp only
  repeat' with_reducible first
    | assumption | intro _ | apply kept (Keeps.setRefCount (Keeps.refl _ _) _) | apply kept (Keeps.regulateMovements (Keeps.refl _ _))
    | apply refinLost | apply when | apply each | apply foldl | apply dite

theorem tcxoLost (h : s.Sunk) (edge : Bool) (injected : Bool) : (s.tcxoLost edge injected).Sunk := by
  unfold State.tcxoLost
  dsimp only
  repeat' with_reducible first
    | assumption | intro _ | apply kept (Keeps.setRefCount (Keeps.refl _ _) _) | apply kept (Keeps.up (Keeps.refl _ _) _)
    | apply kept (Keeps.down (Keeps.refl _ _) _) | apply kept (Keeps.error (Keeps.refl _ _) _ _ _ _ _) | apply enterAnchor | apply when | apply each
    | apply foldl | apply dite

theorem refinQualified (h : s.Sunk) : (s.refinQualified).Sunk := by
  unfold State.refinQualified
  dsimp only
  repeat' with_reducible first
    | assumption | intro _ | apply kept (Keeps.setRefCount (Keeps.refl _ _) _) | apply kept (Keeps.up (Keeps.refl _ _) _)
    | apply kept (Keeps.reReference (Keeps.refl _ _) _ _) | apply driftOver | apply when | apply each | apply foldl | apply dite

theorem refWindow (h : s.Sunk) (refin tcxo : Nat) : (s.refWindow refin tcxo).Sunk := by
  unfold State.refWindow
  dsimp only
  repeat' with_reducible first
    | assumption | intro _ | apply kept (Keeps.setRefCount (Keeps.refl _ _) _) | apply kept (Keeps.regulateMovements (Keeps.refl _ _))
    | apply refinLost | apply tcxoLost | apply refinQualified | apply kept (Keeps.tcxoShow (Keeps.refl _ _)) | apply when | apply each | apply foldl
    | apply dite

theorem regulated (h : s.Sunk) (ms : Nat) (d : List Nat × List Nat) (u : Nat × Nat) : (s.regulated ms d u).Sunk := by
  unfold State.regulated
  rw [if_pos (by simp [h.ne_regulate])]
  exact h

theorem regulateTimeout (h : s.Sunk) : (s.regulateTimeout).Sunk := by
  unfold State.regulateTimeout
  dsimp only
  repeat' with_reducible first
    | assumption | intro _ | apply enterAnchor | apply when | apply each | apply foldl | apply dite

theorem wordRead (h : s.Sunk) (a : Nat) (use : WordUse) : (s.wordRead a use).Sunk := by
  unfold State.wordRead
  dsimp only
  repeat' with_reducible first
    | assumption | intro _ | apply kept (Keeps.setSingles (Keeps.refl _ _) _) | apply kept (Keeps.up (Keeps.refl _ _) _)
    | apply kept (Keeps.bump (Keeps.refl _ _) _) | apply kept (Keeps.error (Keeps.refl _ _) _ _ _ _ _)
    | apply kept (Keeps.laneFault (Keeps.refl _ _) _ _ _ _) | apply securityAlarm | apply kept (Keeps.wordTest (Keeps.refl _ _) _ _)
    | apply kept (Keeps.wordBad (Keeps.refl _ _) _ _) | apply when | apply each | apply foldl | apply dite | dsimp only | split

theorem scrub (h : s.Sunk) (mem bank row col : Nat) (x : WordSeen) : (s.scrub mem bank row col x).Sunk := by
  unfold State.scrub
  dsimp only
  repeat' with_reducible first
    | assumption | intro _ | apply kept (Keeps.bumpWrap (Keeps.refl _ _) _) | apply kept (Keeps.wordMeets (Keeps.refl _ _) _ _) | apply wordRead
    | apply when | apply each | apply foldl | apply dite

theorem wordLasting (h : s.Sunk) (a : Nat) (d : Nat) (args : EArgs) (recurs : Bool) : (s.wordLasting a d args recurs).Sunk := by
  unfold State.wordLasting
  dsimp only
  repeat' with_reducible first
    | assumption | intro _ | apply kept (Keeps.setRowsDue (Keeps.refl _ _) _) | apply kept (Keeps.up (Keeps.refl _ _) _)
    | apply kept (Keeps.draw (Keeps.refl _ _)) | apply kept (Keeps.error (Keeps.refl _ _) _ _ _ _ _)
    | apply kept (Keeps.putWord (Keeps.refl _ _) _ _) | apply kept (Keeps.laneFault (Keeps.refl _ _) _ _ _ _) | apply securityAlarm | apply when
    | apply each | apply foldl | apply dite | dsimp only | split

theorem wordTested (h : s.Sunk) (a : Nat) (pass : Bool) : (s.wordTested a pass).Sunk := by
  unfold State.wordTested
  dsimp only
  repeat' with_reducible first
    | assumption | intro _ | apply kept (Keeps.setInjWords (Keeps.refl _ _) _) | apply kept (Keeps.setSingles (Keeps.refl _ _) _)
    | apply kept (Keeps.error (Keeps.refl _ _) _ _ _ _ _) | apply kept (Keeps.putFlips (Keeps.refl _ _) _ _)
    | apply kept (Keeps.putWord (Keeps.refl _ _) _ _) | apply wordLasting | apply when | apply each | apply foldl | apply dite

theorem readEntry (h : s.Sunk) (use : WordUse) : (s.readEntry use).2.Sunk := by
  unfold State.readEntry
  repeat' with_reducible first
    | assumption | intro _ | apply wordRead | apply when | apply each | apply foldl | apply dite | dsimp only | split

theorem journalSelect (h : s.Sunk) : s.journalSelect.Sunk := by
  unfold State.journalSelect
  dsimp only
  refine kept (Keeps.put (Keeps.each (Keeps.refl _ _) fun _ _ ht => Keeps.put ht _ _) _ _) ?_
  split
  · exact readEntry h _
  · exact h

theorem errorSelect (h : s.Sunk) : s.errorSelect.Sunk := by
  unfold State.errorSelect
  dsimp only
  refine kept (Keeps.put (Keeps.each (Keeps.refl _ _) fun _ _ ht => Keeps.put ht _ _) _ _) ?_
  split
  · exact readEntry h _
  · exact h

theorem afterWrite (h : s.Sunk) (before : State) (base new : Nat) : (s.afterWrite before base new).Sunk := by
  have shown (t : State) (ht : t.Sunk) (c : Nat) : (t.blockShow before c).Sunk := ht.kept (Keeps.blockShow (Keeps.refl _ _) ..)
  unfold State.afterWrite
  dsimp only
  refine ite (shown _ (each (h.kept (Keeps.loadStandard (Keeps.refl _ _) _)) fun _ _ ht => ht.kept (Keeps.journal (Keeps.refl _ _) ..)) _) ?_
  split
  · exact shown s h _
  · repeat' with_reducible first
      | assumption | intro _ | apply journalSelect | apply errorSelect | apply kept (Keeps.setSyncMask (Keeps.refl _ _) _)
      | apply kept (Keeps.setKeyWrap (Keeps.refl _ _) _) | apply kept (Keeps.setKekData (Keeps.refl _ _) _)
      | apply kept (Keeps.down (Keeps.refl _ _) _) | apply kept (Keeps.handTicket (Keeps.refl _ _) _)
      | apply kept (Keeps.agcShow (Keeps.refl _ _) _) | apply kept (Keeps.lostMark (Keeps.refl _ _)) | apply kept (Keeps.statSelect (Keeps.refl _ _))
      | apply when | apply ite
    exact h

theorem plainWrite (h : s.Sunk) (src a w : Nat) : (s.plainWrite src a w).Sunk := by
  unfold State.plainWrite
  split
  · exact h.kept (Keeps.write (Keeps.refl _ _) ..)
  · dsimp only
    generalize hx : State.write _ _ _ _ _ = x
    have written : x.1.Sunk := hx ▸ h.kept (Keeps.write (Keeps.refl _ _) ..)
    obtain ⟨t, v⟩ := x
    cases v with
    | none => exact written.when fun _ ht => ht.kept (Keeps.admitRefused (Keeps.refl _ _) _)
    | some _ =>
      refine ite (written.when fun _ ht => each ?_ fun _ _ hu => ?_) (afterWrite written ..)
      · exact ht.kept (Keeps.loadStandard (Keeps.refl _ _) _)
      · exact hu.kept (Keeps.journal (Keeps.refl _ _) ..)

theorem regWrite (h : s.Sunk) (src a w : Nat) : (s.regWrite src a w).Sunk := by
  unfold State.regWrite
  dsimp only
  repeat' with_reducible first
    | assumption | intro _ | apply kept (Keeps.alertWrite (Keeps.refl _ _) _ _) | apply kept (Keeps.urgEntryWrite (Keeps.refl _ _) _ _ _)
    | apply kept (Keeps.bondCmd rfl (Keeps.refl _ _) _ _) | apply kept (Keeps.fadeCommand (Keeps.refl _ _) _ _ _)
    | apply kept (Keeps.auStart (Keeps.refl _ _) _ _) | apply kept (Keeps.feedWrite (Keeps.refl _ _) _ _ _) | apply domWrite | apply modeCommand
    | apply surveyAtWrite | apply kept (Keeps.relock (Keeps.refl _ _) _ _) | apply kept (Keeps.familyWrite (Keeps.refl _ _) _ _)
    | apply kept (Keeps.timeWrite (Keeps.refl _ _) _ _ _) | apply kept (Keeps.protWrite (Keeps.refl _ _) _ _)
    | apply kept (Keeps.injWrite (Keeps.refl _ _) _ _) | apply kept (Keeps.commitWrite (Keeps.refl _ _) _ _ _) | apply plainWrite | apply when
    | apply each | apply foldl | apply dite

theorem twWrite (h : s.Sunk) (w : Nat) : (s.twWrite w).Sunk := by
  unfold State.twWrite
  dsimp only
  repeat' with_reducible first
    | assumption | intro _ | apply kept (Keeps.setTw (Keeps.refl _ _) _) | apply regWrite | apply when | apply each | apply foldl | apply dite

theorem windFails (h : s.Sunk) : (s.windFails).Sunk := by
  unfold State.windFails
  repeat' with_reducible first
    | assumption | intro _ | apply enterAnchor

theorem windStart (h : s.Sunk) (x : Sfdp) (hdr0 hdr1 : List Byte) : (s.windStart x hdr0 hdr1).Sunk := by
  unfold State.windStart
  dsimp only
  repeat' with_reducible first
    | assumption | intro _ | apply kept (Keeps.put (Keeps.refl _ _) _ _) | apply kept (Keeps.down (Keeps.refl _ _) _)
    | apply kept (Keeps.windBegin (Keeps.refl _ _) _ _ _ _ _) | apply windFails | apply when | apply each | apply foldl | apply dite | dsimp only
    | split

theorem serveRound (h : s.Sunk) (bytes : Nat) (roundOk : Bool) : (s.serveRound bytes roundOk).Sunk := by
  unfold State.serveRound
  repeat' with_reducible first
    | assumption | intro _ | apply kept (Keeps.serve rfl (Keeps.refl _ _) _) | apply securityAlarm | apply when | apply each | apply foldl
    | apply dite


theorem pinWarm (h : s.Sunk) : s.pinWarm.Sunk := by
  unfold State.pinWarm
  exact ite h (ite (startReset (s := (s.setPinLow true).setTw _) h ..) h)

theorem keepBack (h : s.Sunk) : s.keepBack.Sunk := by
  unfold State.keepBack
  exact ite h (of_mode h rfl)

/-- Outside WIND no copy is read. -/
theorem windCopy_anchor (h : s.mode = .anchor) (copy : Nat) (img : List Byte) : (s.windCopy copy img).mode = .anchor := by
  unfold State.windCopy
  split
  · exact h
  · rw [if_pos (by simp [h])]
    exact h

theorem finish (h : t.Sunk) : (s.finish t).Sunk := h.kept (Keeps.finish (Keeps.refl _ _) _)

theorem raw {g : State → State} (h : s.raw g = .next t) (hg : (g s).Sunk) : t.Sunk := Host.Outcome.next.inj h ▸ finish hg

theorem event (hs : s.Sunk) {ok : Bool} {g : State → State} (h : s.event ok g = .next t) (hg : (g s).Sunk) : t.Sunk :=
  Host.Outcome.next.inj h ▸ ite hs (finish hg)

theorem host (hs : s.Sunk) {ok : Bool} {a w : Nat} (h : s.host ok a w = .next t) : t.Sunk := event hs h (regWrite hs ..)

end State.Sunk

/-! What each command keeps. -/

/-- The parts of the state that a command keeps, as far as the laws of `State.Keeps` tell. The mode is listed where no function behind the command
names one. -/
def keptBy (c : Instr) : Part → Bool
  | .mode => match c with
    | .fadeGoCmd .. | .fadeAbortCmd .. | .auStartWrite .. | .audioFadeDone .. | .berthRunWrite .. | .standardChange ..
    | .craneSelftestCmd .. | .loadKey .. | .eraseSlot .. | .eraseAll .. | .programKek .. | .bondRequestServe .. | .dabFrame ..
    | .adcBlock .. | .feedEnableWrite .. | .glbSyncresetWrite .. | .takeoverSwitch .. | .vkeepPowerOn | .vkeepFall | .resetPinWarm
    | .resetPinFull | .resetNRelease | .windBegin .. | .windCopyReadDone .. | .regulateEnd .. | .regulateLockTimeout | .enterSurvey ..
    | .endSurvey .. | .enterAnchor .. | .rewind .. | .fullReset .. | .cancelSurveySchedule .. | .surveyAtWrite .. | .surveyScheduleDue
    | .surveyComplete .. | .surveyLimitExpire | .tamperAlarm | .supplyGlitch | .temperatureAlarm | .pilotTurnroundEnd | .scrubWordRead ..
    | .memorySelftestDone .. | .retest .. | .injectArm .. | .injectCancel .. | .domainFault .. | .domainHeartbeatTimeout ..
    | .domainRestartStepDone .. | .custodyRebuildDone .. | .domainRestartTimeout .. | .intakeDomainOff .. | .intakeDomainOn ..
    | .quayDomainRetain | .quayDomainOn | .domainSwitchDone .. | .supplyRangeExit .. | .quayFrameEnd .. | .commitOpen .. | .commitGo ..
    | .commitAbort .. | .jnlSelectWrite .. | .jnlClearLost .. | .errSelectWrite .. | .errClearLost .. | .lstSelWrite .. | .registerWrite ..
    | .refinLost .. | .tcxoLost .. | .refCountWindowEnd .. | .lockWindowEnd .. | .pfdSlip .. | .twinGuardCheck .. | .audioFamilyWrite ..
    | .relockCmd .. | .timeSetWrite .. | .twWordWrite .. | .alertTest .. | .alertClear .. | .urgEntryWrite .. => false
    | _ => true
  | .kek => match c with
    | .kekBurnDone => false
    | _ => true
  | .cal => match c with
    | .regulateEnd .. | .vkeepFall => false
    | _ => true
  | .rows => match c with
    | .rowReplaceDone .. | .vkeepFall => false
    | _ => true
  | .duty => match c with
    | .ccaMeasureDone | .dutyBinExpire .. | .vkeepFall => false
    | _ => true
  | .time => match c with
    | .ppsEdge .. | .timeSetWholeSecond | .vkeepFall => false
    | _ => true
  | .keys | .power | .epoch => false

namespace State.Keeps

variable {kp : Part → Bool} {s t z : State}

theorem raw {g : State → State} (h : s.raw g = .next t) (hg : s.Keeps kp (g s)) : s.Keeps kp t := Host.Outcome.next.inj h ▸ hg.finish s

theorem event {ok : Bool} {g : State → State} (h : s.event ok g = .next t) (hg : s.Keeps kp (g s)) : s.Keeps kp t :=
  Host.Outcome.next.inj h ▸ ite (refl ..) (hg.finish s)

theorem host (hmode : kp .mode = false) (hkeys : kp .keys = false) (hepoch : kp .epoch = false)
    {ok : Bool} {a w : Nat} (h : s.host ok a w = .next t) :
    s.Keeps kp t := event h (regWrite hmode hkeys hepoch (refl ..) ..)

theorem stepped {g : State → State} (hg : s.Keeps kp (g s)) : s.Keeps kp (s.stepped g) := by
  unfold State.stepped
  exact ite hg (hg.recordStep s)

theorem keepBack (hpower : kp .power = false) (hepoch : kp .epoch = false) (hk : z.Keeps kp s) : z.Keeps kp s.keepBack := by
  unfold State.keepBack
  exact ite hk (put (setEpoch hepoch (setDead hpower (drawEpoch hk) false) _) ..)

/-- Of what `Part` names, the fall of VKEEP keeps the key-encryption key alone. -/
theorem keepLost (hk : ∀ p, kp p = true → p = .kek) (s : State) : s.Keeps kp s.keepLost :=
  have not {p : Part} {q : Prop} (hp : p ≠ .kek) (e : kp p = true) : q := absurd (hk p e) hp
  ⟨not nofun, not nofun, fun _ => rfl, not nofun, not nofun, not nofun, not nofun, not nofun, not nofun, fun _ => State.reset_formed⟩

theorem pinWarm (hmode : kp .mode = false) (hkeys : kp .keys = false) (hpower : kp .power = false) (hepoch : kp .epoch = false) (hk : z.Keeps kp s) :
    z.Keeps kp s.pinWarm := by
  have low := setPinLow hpower hk true
  unfold State.pinWarm
  exact ite low (ite (startReset hmode hkeys hepoch (setTw low _) ..) (setTw low _))

end State.Keeps

theorem keptBy_vkeepFall (p : Part) (h : keptBy .vkeepFall p = true) : p = .kek := by
  cases p with
  | kek => rfl
  | _ => exact absurd h Bool.false_ne_true

/-- Every command keeps the parts that `keptBy` lists. -/
theorem exec_keeps {c : Instr} {s t : State} (he : exec c s = .next t) : s.Keeps (keptBy c) t := by
  cases c with
  | amDepthUpdate n => exact .event (show execAmDepthUpdate n s = _ from he) (.amDepth (.refl ..) ..)
  | stereoPilotTimer n above => exact .event (show execStereoPilotTimer n above s = _ from he) (.stereo (.refl ..) ..)
  | rdsBlock n raw ts => exact .event (show execRdsBlock n raw ts s = _ from he) (.rdsBlock (.refl ..) ..)
  | afSoundingDone ml => exact .event (show execAfSoundingDone ml s = _ from he) (.soundDone (.refl ..) ..)
  | afBanExpire h cand => exact .event (show execAfBanExpire h cand s = _ from he) (.banOver (.refl ..) ..)
  | afFadeStart h qHome => exact .event (show execAfFadeStart h qHome s = _ from he) (.followStart (.refl ..) ..)
  | fadePartnerSettled h => exact .event (show execFadePartnerSettled h s = _ from he) (.fadeSettled (.refl ..) ..)
  | fadePiTimeout h => exact .event (show execFadePiTimeout h s = _ from he) (.fadeTimeout (.refl ..) ..)
  | fadeDwellWindow h qHome qPartner => exact .event (show execFadeDwellWindow h qHome qPartner s = _ from he) (.fadeWindow (.refl ..) ..)
  | fadeAlignDone h => exact .event (show execFadeAlignDone h s = _ from he) (.fadeAligned (.refl ..) ..)
  | fadeRampDone h => exact .event (show execFadeRampDone h s = _ from he) (.fadeRamped (.refl ..) ..)
  | fadeSwap h => exact .event (show execFadeSwap h s = _ from he) (.recordSwap (.fadeSwapped (.refl ..) ..) ..)
  | fadeGoCmd h w => exact .host rfl rfl rfl he
  | fadeAbortCmd h w => exact .host rfl rfl rfl he
  | auStartWrite w => exact .host rfl rfl rfl he
  | audioStartInstant p => exact .event (show execAudioStartInstant p s = _ from he) (.startInstant (.refl ..) ..)
  | audioSettled p => exact .event (show execAudioSettled p s = _ from he) (.portSettled (.refl ..) ..)
  | audioFadeDone p => exact .event (show execAudioFadeDone p s = _ from he) (.portFaded rfl rfl rfl (.refl ..) ..)
  | audioSlotLate p slot => exact .event (show execAudioSlotLate p slot s = _ from he) (.slotLate (.refl ..) ..)
  | audioUnderrun p => exact .event (show execAudioUnderrun p s = _ from he) (.portUnderrun (.refl ..) ..)
  | audioConverterResume p => exact .event (show execAudioConverterResume p s = _ from he) (.portResume (.refl ..) ..)
  | audioRateWindow p rate => exact .event (show execAudioRateWindow p rate s = _ from he) (.rateWindow (.refl ..) ..)
  | slaveClockStop p => exact .event (show execSlaveClockStop p s = _ from he) (.clockStop (.refl ..) ..)
  | slaveFrameGlitch p => exact .event (show execSlaveFrameGlitch p s = _ from he) (.clockGlitch (.refl ..) ..)
  | slaveRateChange p => exact .event (show execSlaveRateChange p s = _ from he) (.rateChange (.refl ..) ..)
  | slaveClockQualified p => exact .event (show execSlaveClockQualified p s = _ from he) (.clockGood (.refl ..) ..)
  | berthRunWrite n w => exact .host rfl rfl rfl he
  | standardChange n w => exact .host rfl rfl rfl he
  | berthStopComplete n => exact .event (show execBerthStopComplete n s = _ from he) (.berthStopped (.refl ..) ..)
  | ticketReady n cls kinds => exact .event (show execTicketReady n cls kinds s = _ from he) (.ticketReady (.refl ..) ..)
  | beatEnd c complete noCredit progress =>
    exact .event (show execBeatEnd c complete noCredit progress s = _ from he) (.beatEnd (.beatDone (.refl ..) ..) ..)
  | ticketUnpark n => exact .event (show execTicketUnpark n s = _ from he) (.unpark (.refl ..) ..)
  | berthInputOverwrite n len => exact .event (show execBerthInputOverwrite n len s = _ from he) (.berthOverwrite (.refl ..) ..)
  | craneFault c detector => exact .event (show execCraneFault c detector s = _ from he) (.craneFault (.refl ..) ..)
  | beatWatchdogExpire c => exact .event (show execBeatWatchdogExpire c s = _ from he) (.craneFault (.refl ..) ..)
  | craneSelftestDone c pass => exact .event (show execCraneSelftestDone c pass s = _ from he) (.craneTested (.refl ..) ..)
  | craneSelftestCmd c w => exact .host rfl rfl rfl he
  | consignmentArrival n c seq content settling injected ts payload =>
    exact .event (show execConsignmentArrival n c seq content settling injected ts payload s = _ from he) (.arrive (.refl ..) ..)
  | loadKey confirm slot => exact .host rfl rfl rfl he
  | eraseSlot confirm slot => exact .host rfl rfl rfl he
  | eraseAll confirm => exact .host rfl rfl rfl he
  | programKek confirm => exact .host rfl rfl rfl he
  | kekBurnDone => exact .event (show execKekBurnDone s = _ from he) (.kekBurned rfl (.refl ..) ..)
  | bondRequestAccept src srcSeq mode ts data =>
    exact .event (show execBondRequestAccept src srcSeq mode ts data s = _ from he) (.reqArrive (.refl ..) ..)
  | bondRequestServe bytes roundOk => exact .event (show execBondRequestServe bytes roundOk s = _ from he) (.serveRound rfl rfl rfl (.refl ..) ..)
  | bondResidueFault => exact .event (show execBondResidueFault s = _ from he) (.bondResidue (.refl ..) ..)
  | gcmVerdict => exact .event (show execGcmVerdict s = _ from he) (.gcmVerdict rfl (.refl ..) ..)
  | xtsSectorDone => exact .event (show execXtsSectorDone s = _ from he) (.xtsDone rfl (.refl ..) ..)
  | captureFlushTimeout c => exact .event (show execCaptureFlushTimeout c s = _ from he) (.capFlush (.refl ..) ..)
  | ivEntryExpire slot gen iv => exact .event (show execIvEntryExpire slot gen iv s = _ from he) (.ivExpire (.refl ..) ..)
  | entropyHealthFail => exact .event (show execEntropyHealthFail s = _ from he) (.entropyFail (.refl ..) ..)
  | entropyRetry pass => exact .event (show execEntropyRetry pass s = _ from he) (.entropyRetry (.refl ..) ..)
  | drbgReseed => exact .event (show execDrbgReseed s = _ from he) (.reseed (.refl ..) ..)
  | keyShareRefresh => exact .event (show execKeyShareRefresh s = _ from he) (.refreshShares rfl (.refl ..) ..)
  | dabFrame n f => exact .event (show execDabFrame n f s = _ from he) (.dabFrame rfl (.refl ..) ..)
  | dabAlarmTimeout n => exact .event (show execDabAlarmTimeout n s = _ from he) (.dabAlarmTimeout (.refl ..) ..)
  | dabSyncLoss n => exact .event (show execDabSyncLoss n s = _ from he) (.dabLost (.refl ..) ..)
  | dabReconfigApply n cif => exact .event (show execDabReconfigApply n cif s = _ from he) (.dabReconfig (.refl ..) ..)
  | cifDeinterleaved n cif ts subs => exact .event (show execCifDeinterleaved n cif ts subs s = _ from he) (.cifOut (.refl ..) ..)
  | drmFrame n f => exact .event (show execDrmFrame n f s = _ from he) (.drmFrame (.refl ..) ..)
  | drmSuperframe n f => exact .event (show execDrmSuperframe n f s = _ from he) (.drmSuper (.refl ..) ..)
  | drmSyncLoss n => exact .event (show execDrmSyncLoss n s = _ from he) (.drmLost (.refl ..) ..)
  | drmReconfigApply n => exact .event (show execDrmReconfigApply n s = _ from he) (.drmReconfig (.refl ..) ..)
  | digitalFadeStart h pHome => exact .event (show execDigitalFadeStart h pHome s = _ from he) (.followStart (.refl ..) ..)
  | digitalVerifyTimeout h => exact .event (show execDigitalVerifyTimeout h s = _ from he) (.fadeTimeout (.refl ..) ..)
  | digitalDwellWindow h home partner => exact .event (show execDigitalDwellWindow h home partner s = _ from he) (.digitalWindow (.refl ..) ..)
  | digitalAlignDone h => exact .event (show execDigitalAlignDone h s = _ from he) (.digitalAligned (.refl ..) ..)
  | digitalSwap h => exact .event (show execDigitalSwap h s = _ from he) (.recordSwap (.digitalSwap (.refl ..) ..) ..)
  | fadePartnerDrained h => exact .event (show execFadePartnerDrained h s = _ from he) (.partnerDrained (.refl ..) ..)
  | t2Frame n f => exact .event (show execT2Frame n f s = _ from he) (.t2Frame (.refl ..) ..)
  | ewsTimeout n => exact .event (show execEwsTimeout n s = _ from he) (.ewsTimeout (.refl ..) ..)
  | dvbtFrame n f => exact .event (show execDvbtFrame n f s = _ from he) (.dvbtFrame (.refl ..) ..)
  | dvbSyncLoss n => exact .event (show execDvbSyncLoss n s = _ from he) (.dvbLost (.refl ..) ..)
  | l1ChangeApply n plps ts => exact .event (show execL1ChangeApply n plps ts s = _ from he) (.l1Change (.refl ..) ..)
  | interleavingFrameComplete n plp frameIdx ts fecs =>
    exact .event (show execInterleavingFrameComplete n plp frameIdx ts fecs s = _ from he) (.ifComplete (.refl ..) ..)
  | dgReassemblyTimeout n ref => exact .event (show execDgReassemblyTimeout n ref s = _ from he) (.dgTimeout (.refl ..) ..)
  | regulateCaptureDone k pass meas => exact .event (show execRegulateCaptureDone k pass meas s = _ from he) (.captureDone (.refl ..) ..)
  | adcBlock k xs fault pops => exact .event (show execAdcBlock k xs fault pops s = _ from he) (.adcBlock rfl rfl rfl (.refl ..) ..)
  | agcWindowEnd k level => exact .event (show execAgcWindowEnd k level s = _ from he) (.agcWindow (.refl ..) ..)
  | intakeSelftestDone k pass => exact .event (show execIntakeSelftestDone k pass s = _ from he) (.intakeTested (.refl ..) ..)
  | noSignalTimeout k => exact .event (show execNoSignalTimeout k s = _ from he) (.noSignal (.refl ..) ..)
  | vrefCheck tenthMv => exact .event (show execVrefCheck tenthMv s = _ from he) (.vrefCheck (.refl ..) ..)
  | calVisitDue k quiet => exact .event (show execCalVisitDue k quiet s = _ from he) (.visitDue (.refl ..) ..)
  | calVisitDone k gain phase => exact .event (show execCalVisitDone k gain phase s = _ from he) (.visitDone (.refl ..) ..)
  | calVisitSkip k => exact .event (show execCalVisitSkip k s = _ from he) (.visitSkip (.refl ..) ..)
  | feedEnableWrite k w => exact .host rfl rfl rfl he
  | feedSoftStartEnd k => exact .event (show execFeedSoftStartEnd k s = _ from he) (.down (.refl ..) ..)
  | feedShort k ma => exact .event (show execFeedShort k ma s = _ from he) (.feedTrip (.feedSense (.refl ..) ..) ..)
  | feedI2tTrip k ma us => exact .event (show execFeedI2tTrip k ma us s = _ from he) (.feedI2t (.refl ..) ..)
  | feedCoolOffEnd k => exact .event (show execFeedCoolOffEnd k s = _ from he) (.feedCooled (.refl ..) ..)
  | feedStuck k ma => exact .event (show execFeedStuck k ma s = _ from he) (.feedStuck (.refl ..) ..)
  | feedTripAgeOut k => exact .event (show execFeedTripAgeOut k s = _ from he) (.putTrips (.refl ..) ..)
  | laneStart n => exact .event (show execLaneStart n s = _ from he) (.laneStart (.refl ..) ..)
  | laneStop n => exact .event (show execLaneStop n s = _ from he) (.laneStop (.refl ..) ..)
  | glbSyncresetWrite w => exact .host rfl rfl rfl he
  | laneSyncReset => exact .event (show execLaneSyncReset s = _ from he) (.syncReset (.refl ..) ..)
  | laneSettled n => exact .event (show execLaneSettled n s = _ from he) (.laneSettled (.refl ..) ..)
  | detectorWindowEnd n => exact .event (show execDetectorWindowEnd n s = _ from he) (.detectorEnd (.refl ..) ..)
  | laneResidueFault l bank branch2 => exact .event (show execLaneResidueFault l bank branch2 s = _ from he) (.laneFault (.refl ..) ..)
  | patrolStart l => exact .event (show execPatrolStart l s = _ from he) (.patrolStart (.refl ..) ..)
  | patrolCompareEnd l equal spareOk => exact .event (show execPatrolCompareEnd l equal spareOk s = _ from he) (.patrolEnd (.refl ..) ..)
  | takeoverSwitch n => exact .event (show execTakeoverSwitch n s = _ from he) (.takeoverSwitch rfl rfl rfl (.refl ..) ..)
  | laneSelftestDone l pass => exact .event (show execLaneSelftestDone l pass s = _ from he) (.laneTested (.refl ..) ..)
  | vkeepPowerOn => exact .raw (g := (·.keepBack)) he (.keepBack rfl rfl (.refl ..))
  | vkeepFall => exact .raw (g := (·.keepLost)) he (.keepLost keptBy_vkeepFall s)
  | resetPinWarm => exact .raw (g := (·.pinWarm)) he (.pinWarm rfl rfl rfl rfl (.refl ..))
  | resetPinFull => exact .raw (g := (·.pinFull)) he (.pinFull rfl rfl rfl (.refl ..))
  | resetNRelease => exact .raw (g := (·.setPinLow false)) he (.setPinLow rfl (.refl ..) _)
  | windBegin sfdp hdr0 hdr1 => exact .event (show execWindBegin sfdp hdr0 hdr1 s = _ from he) (.windStart rfl rfl rfl (.refl ..) ..)
  | windCopyReadDone copy img => exact .event (show execWindCopyReadDone copy img s = _ from he) (.windCopy rfl rfl rfl (.refl ..) ..)
  | regulateEnd ms dIntake uIntake => exact .event (show execRegulateEnd ms dIntake uIntake s = _ from he) (.regulated rfl rfl rfl rfl (.refl ..) ..)
  | regulateLockTimeout => exact .event (show execRegulateLockTimeout s = _ from he) (.regulateTimeout rfl rfl rfl (.refl ..) ..)
  | enterSurvey confirm => exact .host rfl rfl rfl he
  | endSurvey confirm => exact .host rfl rfl rfl he
  | enterAnchor confirm => exact .host rfl rfl rfl he
  | rewind confirm => exact .host rfl rfl rfl he
  | fullReset confirm => exact .host rfl rfl rfl he
  | cancelSurveySchedule confirm => exact .host rfl rfl rfl he
  | surveyAtWrite w => exact .host rfl rfl rfl he
  | surveyScheduleDue => exact .event (show execSurveyScheduleDue s = _ from he) (.surveyDue rfl rfl rfl (.refl ..) ..)
  | surveyComplete found tables => exact .event (show execSurveyComplete found tables s = _ from he) (.surveyDone rfl rfl rfl (.refl ..) ..)
  | surveyLimitExpire => exact .event (show execSurveyLimitExpire s = _ from he) (.surveyEnd rfl rfl rfl (.refl ..) ..)
  | tamperAlarm => exact .event (show execTamperAlarm s = _ from he) (.when (.refl ..) fun _ ht => .securityAlarm rfl rfl rfl ht ..)
  | supplyGlitch => exact .event (show execSupplyGlitch s = _ from he) (.when (.refl ..) fun _ ht => .securityAlarm rfl rfl rfl ht ..)
  | temperatureAlarm => exact .event (show execTemperatureAlarm s = _ from he) (.securityAlarm rfl rfl rfl (.refl ..) ..)
  | pilotRequestAccept src srcSeq cont data =>
    exact .event (show execPilotRequestAccept src srcSeq cont data s = _ from he) (.pilotArrive (.refl ..) ..)
  | periodicDue e => exact .event (show execPeriodicDue e s = _ from he) (.periodicDue (.refl ..) ..)
  | pilotScheduleStep => exact .event (show execPilotScheduleStep s = _ from he) (.scheduleStep (.refl ..) ..)
  | lockWaitExpire => exact .event (show execLockWaitExpire s = _ from he) (.lockWaitExpire (.refl ..) ..)
  | budgetWaitExpire => exact .event (show execBudgetWaitExpire s = _ from he) (.budgetWaitExpire (.refl ..) ..)
  | ccaMeasureDone => exact .event (show execCcaMeasureDone s = _ from he) (.ccaDone rfl (.refl ..) ..)
  | ccaBackoffEnd => exact .event (show execCcaBackoffEnd s = _ from he) (.backoffEnd (.refl ..) ..)
  | pilotWindowOpen clamped => exact .event (show execPilotWindowOpen clamped s = _ from he) (.windowOpen (.refl ..) ..)
  | pilotAirEnd => exact .event (show execPilotAirEnd s = _ from he) (.airEnd (.refl ..) ..)
  | pilotTurnroundEnd => exact .event (show execPilotTurnroundEnd s = _ from he) (.turnroundEnd rfl rfl rfl (.refl ..) ..)
  | listenWindowEnd => exact .event (show execListenWindowEnd s = _ from he) (.listenClose (.refl ..) ..)
  | dutyBinExpire second => exact .event (show execDutyBinExpire second s = _ from he) (.dutyExpire rfl (.refl ..) ..)
  | preambleDeclared n timing freq => exact .event (show execPreambleDeclared n timing freq s = _ from he) (.preamble (.refl ..) ..)
  | sfdFound n freq => exact .event (show execSfdFound n freq s = _ from he) (.sfd (.refl ..) ..)
  | sfdTimeout n => exact .event (show execSfdTimeout n s = _ from he) (.sfdTimeout (.refl ..) ..)
  | phrReceived n phr snr => exact .event (show execPhrReceived n phr snr s = _ from he) (.phr (.refl ..) ..)
  | pilotFrameReceived n psdu freqs => exact .event (show execPilotFrameReceived n psdu freqs s = _ from he) (.rxFrame (.refl ..) ..)
  | captureOverrun fifo => exact .event (show execCaptureOverrun fifo s = _ from he) (.captureOverrun (.refl ..) ..)
  | scrubWordRead mem bank row col seen =>
    exact .event (show execScrubWordRead mem bank row col seen s = _ from he) (.scrub rfl rfl rfl (.refl ..) ..)
  | scrubPassLate mem => exact .event (show execScrubPassLate mem s = _ from he) (.scrubLate (.refl ..) ..)
  | memorySelftestDone mem bank row col pass =>
    exact .event (show execMemorySelftestDone mem bank row col pass s = _ from he) (.wordTested rfl rfl rfl (.refl ..) ..)
  | rowReplaceDone mem bank row => exact .event (show execRowReplaceDone mem bank row s = _ from he) (.rowReplaced rfl (.refl ..) ..)
  | unitSelftestDone ty idx pass => exact .event (show execUnitSelftestDone ty idx pass s = _ from he) (.unitTested (.refl ..) ..)
  | retest w => exact .host rfl rfl rfl he
  | retestDone pass => exact .event (show execRetestDone pass s = _ from he) (.retested (.refl ..) ..)
  | injectArm w => exact .host rfl rfl rfl he
  | injectCancel w => exact .host rfl rfl rfl he
  | domainFault d cause => exact .event (show execDomainFault d cause s = _ from he) (.domainFault rfl rfl rfl (.refl ..) ..)
  | domainHeartbeatTimeout d => exact .event (show execDomainHeartbeatTimeout d s = _ from he) (.domainFault rfl rfl rfl (.refl ..) ..)
  | domainRestartStepDone d => exact .event (show execDomainRestartStepDone d s = _ from he) (.restartStep rfl rfl rfl (.refl ..) ..)
  | custodyRebuildDone errs => exact .event (show execCustodyRebuildDone errs s = _ from he) (.rebuildDone rfl rfl rfl (.refl ..) ..)
  | domainRestartTimeout d => exact .event (show execDomainRestartTimeout d s = _ from he) (.restartTimeout rfl rfl rfl (.refl ..) ..)
  | intakeDomainOff k => exact .host rfl rfl rfl he
  | intakeDomainOn k => exact .host rfl rfl rfl he
  | quayDomainRetain => exact .host rfl rfl rfl he
  | quayDomainOn => exact .host rfl rfl rfl he
  | domainSwitchDone d => exact .event (show execDomainSwitchDone d s = _ from he) (.switchDone rfl rfl rfl (.refl ..) ..)
  | supplyRangeExit sup mv => exact .event (show execSupplyRangeExit sup mv s = _ from he) (.supplyExit rfl rfl rfl (.refl ..) ..)
  | tempWarnRise temp => exact .event (show execTempWarnRise temp s = _ from he) (.tempRise (.refl ..) ..)
  | supplyRangeReturn sup mv => exact .event (show execSupplyRangeReturn sup mv s = _ from he) (.supplyReturn (.refl ..) ..)
  | tempWarnFall temp => exact .event (show execTempWarnFall temp s = _ from he) (.tempFall (.refl ..) ..)
  | quayFrameStart q => exact .event (show execQuayFrameStart q s = _ from he) (.quayStart (.refl ..) ..)
  | quayFrameEnd q => exact .event (show execQuayFrameEnd q s = _ from he) (.settle rfl rfl rfl (.quayEnd (.refl ..) ..))
  | quayHoldRise q => exact .event (show execQuayHoldRise q s = _ from he) (.quayHold (.refl ..) ..)
  | quayHoldFall q => exact .event (show execQuayHoldFall q s = _ from he) (.quayHold (.refl ..) ..)
  | quayHoldLong q => exact .event (show execQuayHoldLong q s = _ from he) (.quayHoldLong (.refl ..) ..)
  | landingAligned => exact .event (show execLandingAligned s = _ from he) (.landAligned (.refl ..) ..)
  | landingAlignLost => exact .event (show execLandingAlignLost s = _ from he) (.landAlignLost (.refl ..) ..)
  | landingFrameJudged codeError eofOk => exact .event (show execLandingFrameJudged codeError eofOk s = _ from he) (.landJudge (.refl ..) ..)
  | landingFrameHandoff => exact .event (show execLandingFrameHandoff s = _ from he) (.landHandoff (.refl ..) ..)
  | landingColumnReceived g0 g1 pops => exact .event (show execLandingColumnReceived g0 g1 pops s = _ from he) (.landColumn (.refl ..) ..)
  | recordWindowEnd n => exact .event (show execRecordWindowEnd n s = _ from he) (.windowEnd (.refl ..) ..)
  | recordComplete n => exact .event (show execRecordComplete n s = _ from he) (.recordDone (.refl ..) ..)
  | intakeRecordWindowEnd => exact .event (show execIntakeRecordWindowEnd s = _ from he) (.intakeRecord (.refl ..) ..)
  | commitOpen a => exact .host rfl rfl rfl he
  | commitGo a => exact .host rfl rfl rfl he
  | commitAbort a => exact .host rfl rfl rfl he
  | liveChangeApply a u => exact .event (show execLiveChangeApply a u s = _ from he) (.boundary (.refl ..) ..)
  | jnlSelectWrite w => exact .host rfl rfl rfl he
  | jnlClearLost w => exact .host rfl rfl rfl he
  | errSelectWrite w => exact .host rfl rfl rfl he
  | errClearLost w => exact .host rfl rfl rfl he
  | lstSelWrite w => exact .host rfl rfl rfl he
  | readWithEffect a => exact .event (show execReadWithEffect a s = _ from he) (.readWord (.refl ..) ..)
  | registerWrite a w => exact .host rfl rfl rfl he
  | refinLost edge => exact .event (show execRefinLost edge s = _ from he) (.refinGone rfl rfl rfl (.refl ..) ..)
  | tcxoLost edge => exact .event (show execTcxoLost edge s = _ from he) (.tcxoLost rfl rfl rfl (.refl ..) ..)
  | refCountWindowEnd refin tcxo => exact .event (show execRefCountWindowEnd refin tcxo s = _ from he) (.refWindow rfl rfl rfl (.refl ..) ..)
  | bandSearchDone m counts => exact .event (show execBandSearchDone m counts s = _ from he) (.bandDone (.refl ..) ..)
  | lockWindowEnd m count => exact .event (show execLockWindowEnd m count s = _ from he) (.lockWindow rfl rfl rfl (.refl ..) ..)
  | lockBoundExpire m => exact .event (show execLockBoundExpire m s = _ from he) (.lockMissed (.refl ..) ..)
  | pfdSlip m => exact .event (show execPfdSlip m s = _ from he) (.slip rfl rfl rfl (.refl ..) ..)
  | twinGuardCheck pair c0 c1 => exact .event (show execTwinGuardCheck pair c0 c1 s = _ from he) (.twinGuard rfl rfl rfl (.refl ..) ..)
  | twinTrimDone pair skew => exact .event (show execTwinTrimDone pair skew s = _ from he) (.trimDone (.refl ..) ..)
  | audioFamilyWrite w => exact .host rfl rfl rfl he
  | relockCmd w => exact .host rfl rfl rfl he
  | tcxoOffsetWindowEnd off => exact .event (show execTcxoOffsetWindowEnd off s = _ from he) (.offsetWindow (.refl ..) ..)
  | ppsEdge err gap => exact .event (show execPpsEdge err gap s = _ from he) (.stepped (.ppsEdge rfl (.refl ..) ..))
  | ppsLost => exact .event (show execPpsLost s = _ from he) (.ppsLost (.refl ..) ..)
  | timeSetWrite w => exact .host rfl rfl rfl he
  | timeSetWholeSecond => exact .event (show execTimeSetWholeSecond s = _ from he) (.stepped (.wholeSecond rfl (.refl ..)))
  | twStart addr read => exact .event (show execTwStart addr read s = _ from he) (.twStart (.refl ..) ..)
  | twPointerSet ra => exact .event (show execTwPointerSet ra s = _ from he) (.twPointer (.refl ..) ..)
  | twWordWrite w => exact .event (show execTwWordWrite w s = _ from he) (.twWrite rfl rfl rfl (.refl ..) ..)
  | twWordRead ack => exact .event (show execTwWordRead ack s = _ from he) (.twRead (.refl ..) ..)
  | twStop => exact .event (show execTwStop s = _ from he) (.twStop (.refl ..) ..)
  | twFrameError start partialWord => exact .event (show execTwFrameError start partialWord s = _ from he) (.twFrame (.refl ..) ..)
  | twSdaReleaseTimeout partialWord => exact .event (show execTwSdaReleaseTimeout partialWord s = _ from he) (.twAbandon (.refl ..) ..)
  | twStretchTimeout => exact .event (show execTwStretchTimeout s = _ from he) (.twStale (.refl ..) ..)
  | twSclTimeout partialWord => exact .event (show execTwSclTimeout partialWord s = _ from he) (.twSclStuck (.refl ..) ..)
  | twSdaTimeout => exact .event (show execTwSdaTimeout s = _ from he) (.twSdaStuck (.refl ..) ..)
  | attnPulseStart => exact .event (show execAttnPulseStart s = _ from he) (.pulseStart (.refl ..) ..)
  | attnPulseEnd => exact .event (show execAttnPulseEnd s = _ from he) (.pulseEnd (.refl ..) ..)
  | attnCollide => exact .event (show execAttnCollide s = _ from he) (.pulseCollide (.refl ..) ..)
  | attnRepeat => exact .event (show execAttnRepeat s = _ from he) (.attnRepeat (.refl ..) ..)
  | twLineRisen scl => exact .event (show execTwLineRisen scl s = _ from he) (.twRisen (.refl ..) ..)
  | alertHoldExpire kind src => exact .event (show execAlertHoldExpire kind src s = _ from he) (.alertExpire (.refl ..) ..)
  | alertTest w => exact .host rfl rfl rfl he
  | alertClear w => exact .host rfl rfl rfl he
  | urgEntryWrite w => exact .host rfl rfl rfl he

namespace State.Sunk

/-- No command leads out of ANCHOR but into WIND (R42). -/
theorem of_exec {c : Instr} {s t : State} (ha : s.mode = .anchor) (he : exec c s = .next t) : t.Sunk := by
  have hs : s.Sunk := .inl ha
  cases c with
  | fadeGoCmd h w => exact host hs he
  | fadeAbortCmd h w => exact host hs he
  | auStartWrite w => exact host hs he
  | audioFadeDone p => exact event hs (show execAudioFadeDone p s = _ from he) (portFaded hs ..)
  | berthRunWrite n w => exact host hs he
  | standardChange n w => exact host hs he
  | craneSelftestCmd c w => exact host hs he
  | loadKey confirm slot => exact host hs he
  | eraseSlot confirm slot => exact host hs he
  | eraseAll confirm => exact host hs he
  | programKek confirm => exact host hs he
  | bondRequestServe bytes roundOk => exact event hs (show execBondRequestServe bytes roundOk s = _ from he) (serveRound hs ..)
  | dabFrame n f => exact event hs (show execDabFrame n f s = _ from he) (dabFrame hs ..)
  | adcBlock k xs fault pops => exact event hs (show execAdcBlock k xs fault pops s = _ from he) (adcBlock hs ..)
  | feedEnableWrite k w => exact host hs he
  | glbSyncresetWrite w => exact host hs he
  | takeoverSwitch n => exact event hs (show execTakeoverSwitch n s = _ from he) (takeoverSwitch hs ..)
  | vkeepPowerOn => exact raw (g := (·.keepBack)) he (keepBack hs)
  | vkeepFall => exact raw (g := (·.keepLost)) he (.inr rfl)
  | resetPinWarm => exact raw (g := (·.pinWarm)) he (pinWarm hs)
  | resetPinFull => exact raw (g := (·.pinFull)) he (pinFull hs)
  | resetNRelease => exact raw (g := (·.setPinLow false)) he (hs)
  | windBegin sfdp hdr0 hdr1 => exact event hs (show execWindBegin sfdp hdr0 hdr1 s = _ from he) (windStart hs ..)
  | windCopyReadDone copy img => exact event hs (show execWindCopyReadDone copy img s = _ from he) (.inl (windCopy_anchor ha ..))
  | regulateEnd ms dIntake uIntake => exact event hs (show execRegulateEnd ms dIntake uIntake s = _ from he) (regulated hs ..)
  | regulateLockTimeout => exact event hs (show execRegulateLockTimeout s = _ from he) (regulateTimeout hs)
  | enterSurvey confirm => exact host hs he
  | endSurvey confirm => exact host hs he
  | enterAnchor confirm => exact host hs he
  | rewind confirm => exact host hs he
  | fullReset confirm => exact host hs he
  | cancelSurveySchedule confirm => exact host hs he
  | surveyAtWrite w => exact host hs he
  | surveyScheduleDue => exact event hs (show execSurveyScheduleDue s = _ from he) (surveyDue hs)
  | surveyComplete found tables => exact event hs (show execSurveyComplete found tables s = _ from he) (surveyDone hs ..)
  | surveyLimitExpire => exact event hs (show execSurveyLimitExpire s = _ from he) (surveyEnd hs ..)
  | tamperAlarm => exact event hs (show execTamperAlarm s = _ from he) (when hs fun _ ht => securityAlarm ht ..)
  | supplyGlitch => exact event hs (show execSupplyGlitch s = _ from he) (when hs fun _ ht => securityAlarm ht ..)
  | temperatureAlarm => exact event hs (show execTemperatureAlarm s = _ from he) (securityAlarm hs ..)
  | pilotTurnroundEnd => exact event hs (show execPilotTurnroundEnd s = _ from he) (turnroundEnd hs)
  | scrubWordRead mem bank row col seen => exact event hs (show execScrubWordRead mem bank row col seen s = _ from he) (scrub hs ..)
  | memorySelftestDone mem bank row col pass => exact event hs (show execMemorySelftestDone mem bank row col pass s = _ from he) (wordTested hs ..)
  | retest w => exact host hs he
  | injectArm w => exact host hs he
  | injectCancel w => exact host hs he
  | domainFault d cause => exact event hs (show execDomainFault d cause s = _ from he) (domainFault hs ..)
  | domainHeartbeatTimeout d => exact event hs (show execDomainHeartbeatTimeout d s = _ from he) (domainFault hs ..)
  | domainRestartStepDone d => exact event hs (show execDomainRestartStepDone d s = _ from he) (restartStep hs ..)
  | custodyRebuildDone errs => exact event hs (show execCustodyRebuildDone errs s = _ from he) (rebuildDone hs ..)
  | domainRestartTimeout d => exact event hs (show execDomainRestartTimeout d s = _ from he) (restartTimeout hs ..)
  | intakeDomainOff k => exact host hs he
  | intakeDomainOn k => exact host hs he
  | quayDomainRetain => exact host hs he
  | quayDomainOn => exact host hs he
  | domainSwitchDone d => exact event hs (show execDomainSwitchDone d s = _ from he) (switchDone hs ..)
  | supplyRangeExit sup mv => exact event hs (show execSupplyRangeExit sup mv s = _ from he) (supplyExit hs ..)
  | quayFrameEnd q => exact event hs (show execQuayFrameEnd q s = _ from he) (settle (kept (Keeps.quayEnd (Keeps.refl _ _) _) hs))
  | commitOpen a => exact host hs he
  | commitGo a => exact host hs he
  | commitAbort a => exact host hs he
  | jnlSelectWrite w => exact host hs he
  | jnlClearLost w => exact host hs he
  | errSelectWrite w => exact host hs he
  | errClearLost w => exact host hs he
  | lstSelWrite w => exact host hs he
  | registerWrite a w => exact host hs he
  | refinLost edge => exact event hs (show execRefinLost edge s = _ from he) (refinGone hs ..)
  | tcxoLost edge => exact event hs (show execTcxoLost edge s = _ from he) (tcxoLost hs ..)
  | refCountWindowEnd refin tcxo => exact event hs (show execRefCountWindowEnd refin tcxo s = _ from he) (refWindow hs ..)
  | lockWindowEnd m count => exact event hs (show execLockWindowEnd m count s = _ from he) (lockWindow hs ..)
  | pfdSlip m => exact event hs (show execPfdSlip m s = _ from he) (slip hs ..)
  | twinGuardCheck pair c0 c1 => exact event hs (show execTwinGuardCheck pair c0 c1 s = _ from he) (twinGuard hs ..)
  | audioFamilyWrite w => exact host hs he
  | relockCmd w => exact host hs he
  | timeSetWrite w => exact host hs he
  | twWordWrite w => exact event hs (show execTwWordWrite w s = _ from he) (twWrite hs ..)
  | alertTest w => exact host hs he
  | alertClear w => exact host hs he
  | urgEntryWrite w => exact host hs he
  | _ => exact of_mode hs ((exec_keeps he).mode rfl)

end State.Sunk

/-! The commands that a part of the state outlasts (R42, R328, R415, R445), read off `keptBy`. -/

theorem keptBy_kek {c : Instr} (h : c ≠ .kekBurnDone) : keptBy c .kek = true := by
  cases c with
  | kekBurnDone => exact absurd rfl h
  | _ => rfl

theorem keptBy_time {c : Instr} (hfall : c ≠ .vkeepFall) (hpps : ∀ e g, c ≠ .ppsEdge e g) (hset : c ≠ .timeSetWholeSecond) :
    keptBy c .time = true := by
  cases c with
  | vkeepFall => exact absurd rfl hfall
  | ppsEdge e g => exact absurd rfl (hpps e g)
  | timeSetWholeSecond => exact absurd rfl hset
  | _ => rfl

theorem keptBy_cal {c : Instr} (hfall : c ≠ .vkeepFall) (hend : ∀ ms d u, c ≠ .regulateEnd ms d u) : keptBy c .cal = true := by
  cases c with
  | vkeepFall => exact absurd rfl hfall
  | regulateEnd ms d u => exact absurd rfl (hend ms d u)
  | _ => rfl

theorem keptBy_rows {c : Instr} (hfall : c ≠ .vkeepFall) (hrow : ∀ m b r, c ≠ .rowReplaceDone m b r) : keptBy c .rows = true := by
  cases c with
  | vkeepFall => exact absurd rfl hfall
  | rowReplaceDone m b r => exact absurd rfl (hrow m b r)
  | _ => rfl

theorem keptBy_duty {c : Instr} (hfall : c ≠ .vkeepFall) (hcca : c ≠ .ccaMeasureDone) (hbin : ∀ x, c ≠ .dutyBinExpire x) :
    keptBy c .duty = true := by
  cases c with
  | vkeepFall => exact absurd rfl hfall
  | ccaMeasureDone => exact absurd rfl hcca
  | dutyBinExpire x => exact absurd rfl (hbin x)
  | _ => rfl

/-- The words of the host that the statement names do nothing while `RESET_N` is low (log entry 47). -/
theorem exec_pinLow {c : Instr} {s : State} (hp : s.pinLow = true) (a w : Word) (b : Byte)
    (hc : c ∈ [Instr.registerWrite a w, .readWithEffect a, .commitOpen a, .commitGo a, .commitAbort a, .enterSurvey b, .endSurvey b, .enterAnchor b,
      .rewind b, .fullReset b, .eraseAll b, .programKek b, .glbSyncresetWrite w, .auStartWrite w, .alertTest w, .alertClear w, .retest w,
      .injectArm w, .relockCmd w, .quayDomainRetain, .quayDomainOn]) : exec c s = .next s := by
  have read (a : Word) : exec (.readWithEffect a) s = .next s := by
    show execReadWithEffect a s = _
    exact State.event_off _ (.inr (by simp [hp]))
  simp only [List.mem_cons, List.not_mem_nil, or_false] at hc
  rcases hc with rfl | rfl | rfl | rfl | rfl | rfl | rfl | rfl | rfl | rfl | rfl | rfl | rfl | rfl | rfl | rfl | rfl | rfl | rfl | rfl | rfl
  case inr.inl => exact read a
  all_goals exact State.host_off _ _ (.inr hp)

/-- Settles O6: what a command keeps is `exec_keeps`, ANCHOR is left for WIND alone by `State.Sunk.of_exec`, and the commands that reach a device
without VKEEP or under `RESET_N` low are those of `powerAndPin` and none of the host's. -/
theorem whatLasts : Obligations.WhatLasts := by
  unfold Obligations.WhatLasts
  intro c s t he
  have kept := exec_keeps he
  refine ⟨fun hc => kept.kek (keptBy_kek hc), fun ha => State.Sunk.of_exec ha he, fun hfall => ?_, fun hdead hc => ?_, fun a w b hp hc => ?_⟩
  · exact ⟨fun hpps hset => kept.time (keptBy_time hfall hpps hset), fun hend => kept.cal (keptBy_cal hfall hend),
      fun hrow => kept.rows (keptBy_rows hfall hrow), fun hcca hbin => kept.duty (keptBy_duty hfall hcca hbin)⟩
  · obtain ⟨off, u, e⟩ := exec_event hc s
    rw [hdead, Bool.true_or, if_pos rfl] at e
    exact (Host.Outcome.next.inj (e.symm.trans he)).symm
  · exact (Host.Outcome.next.inj ((exec_pinLow hp a w b hc).symm.trans he)).symm

end Sys2Proof.Machine

/-! What a reset that waits outlasts (for O19): each function of the shutdown steps, of the power-down and of the reset itself leaves the reset,
the shutdown and the quays as they are, and those that run once the reset has taken place leave the accepted work too. -/

namespace Sys2Proof.Machine

/-- What nothing changes between the moment at which a reset has taken place and the end of its command: the accepted work, the producers, the
statistics, the berths, and the cause that shows. -/
def State.work (s : State) := (s.custody, s.prods, s.stats, s.berths, s.get F.GLB_MODE_CAUSE_CAUSE)

/-- From `z` to `s` the reset that waits, the shutdown and the quays are as they were; where `wk` holds, so is `State.work`. -/
structure State.Awaits (wk : Bool) (z s : State) : Prop where
  boot : s.boot = z.boot
  closing : s.closing = z.closing
  quays : s.quays = z.quays
  work : wk = true → s.work = z.work

theorem State.work_put {f : Fld} (hf : F.GLB_MODE_CAUSE_CAUSE.key ≠ f.key) (s : State) (v : Nat) : (s.put f v).work = s.work := by
  unfold State.work
  rw [State.get_put_ne s v hf]
  rfl

/-- The cause shows below address 7. -/
theorem cause_ne_of_above {f : Fld} (hf : 7 ≤ f.addr) : F.GLB_MODE_CAUSE_CAUSE.key ≠ f.key := by
  simp only [Fld.key, F.GLB_MODE_CAUSE_CAUSE]
  omega

/-- Rewriting the words from `b` on leaves what lies below them. -/
theorem Tbl.get_rewrite {d : Nat → Nat} {k b n : Nat} (hk : k < 16 * b) (regs : Tbl Nat) (words : List (Nat × Nat)) :
    Tbl.get d (words.foldl (fun t e => Tbl.set d t (16 * b + e.1) e.2) (regs.filter fun e => !inR b n (e.1 / 16))) k = Tbl.get d regs k := by
  have written (t : Tbl Nat) : Tbl.get d (words.foldl (fun t e => Tbl.set d t (16 * b + e.1) e.2) t) k = Tbl.get d t k := by
    induction words generalizing t with
    | nil => rfl
    | cons e l ih => exact (ih _).trans (by rw [Tbl.get_set, if_neg (by omega)])
  refine (written _).trans (Tbl.get_filter regs fun _ _ => ?_)
  have hb : Nat.ble b (k / 16) = false := by
    rw [Bool.eq_false_iff, ne_eq, Nat.ble_eq]
    omega
  simp only [inR, hb, Bool.false_and, Bool.not_false]

theorem above_ofHold (f : Fld) (h : Nat) : 7 ≤ (f.ofHold h).addr :=
  Nat.le_add_right_of_le (Nat.le_add_right_of_le (by decide))

namespace State.Awaits

variable {wk : Bool} {z s t : State}

theorem refl (wk : Bool) (s : State) : s.Awaits wk s := ⟨rfl, rfl, rfl, fun _ => rfl⟩

theorem ite {c : Prop} [Decidable c] (hs : z.Awaits wk s) (ht : z.Awaits wk t) : z.Awaits wk (if c then s else t) := by split <;> assumption

theorem dite {c : Prop} [Decidable c] (hs : c → z.Awaits wk s) (ht : ¬c → z.Awaits wk t) : z.Awaits wk (if c then s else t) := by
  split
  · exact hs ‹_›
  · exact ht ‹_›

theorem when (h : z.Awaits wk s) {c : Bool} {g : State → State} (hg : ∀ t, z.Awaits wk t → z.Awaits wk (g t)) :
    z.Awaits wk (s.when c g) := ite (hg s h) h

theorem each {α : Type} (h : z.Awaits wk s) {l : List α} {g : α → State → State} (hg : ∀ a t, z.Awaits wk t → z.Awaits wk (g a t)) :
    z.Awaits wk (s.each l g) := by
  unfold State.each
  induction l generalizing s with
  | nil => exact h
  | cons a l ih => exact ih (hg a s h)

theorem foldl {α : Type} (h : z.Awaits wk s) {l : List α} {g : State → α → State} (hg : ∀ t a, z.Awaits wk t → z.Awaits wk (g t a)) :
    z.Awaits wk (l.foldl g s) := by
  induction l generalizing s with
  | nil => exact h
  | cons a l ih => exact ih (hg s a h)

theorem setRegs (hk : z.Awaits false s) (v : Tbl Nat) : z.Awaits false (s.setRegs v) := ⟨hk.boot, hk.closing, hk.quays, nofun⟩

theorem custody (hk : z.Awaits false s) (v : List Item) : z.Awaits false { s with custody := v } := ⟨hk.boot, hk.closing, hk.quays, nofun⟩

theorem shadow (hk : z.Awaits false s) (v : List Shadow) : z.Awaits false { s with shadow := v } := ⟨hk.boot, hk.closing, hk.quays, nofun⟩

theorem setJnl (hk : z.Awaits wk s) (v : List JEntry) : z.Awaits wk (s.setJnl v) := ⟨hk.boot, hk.closing, hk.quays, hk.work⟩

theorem setJnlCount (hk : z.Awaits wk s) (v : Nat) : z.Awaits wk (s.setJnlCount v) := ⟨hk.boot, hk.closing, hk.quays, hk.work⟩

theorem setErr (hk : z.Awaits wk s) (v : List EEntry) : z.Awaits wk (s.setErr v) := ⟨hk.boot, hk.closing, hk.quays, hk.work⟩

theorem setErrCount (hk : z.Awaits wk s) (v : Nat) : z.Awaits wk (s.setErrCount v) := ⟨hk.boot, hk.closing, hk.quays, hk.work⟩

theorem setErrExport (hk : z.Awaits wk s) (v : List EEntry) : z.Awaits wk (s.setErrExport v) := ⟨hk.boot, hk.closing, hk.quays, hk.work⟩

theorem setWind (hk : z.Awaits wk s) (v : Option Wind) : z.Awaits wk (s.setWind v) := ⟨hk.boot, hk.closing, hk.quays, hk.work⟩

theorem setTrimming (hk : z.Awaits wk s) (v : List Nat) : z.Awaits wk (s.setTrimming v) := ⟨hk.boot, hk.closing, hk.quays, hk.work⟩

theorem setVisiting (hk : z.Awaits wk s) (v : List Nat) : z.Awaits wk (s.setVisiting v) := ⟨hk.boot, hk.closing, hk.quays, hk.work⟩

theorem setLanes (hk : z.Awaits wk s) (v : Tbl LaneRole) : z.Awaits wk (s.setLanes v) := ⟨hk.boot, hk.closing, hk.quays, hk.work⟩

theorem setSounding (hk : z.Awaits wk s) (v : List Nat) : z.Awaits wk (s.setSounding v) := ⟨hk.boot, hk.closing, hk.quays, hk.work⟩

theorem setSyncMask (hk : z.Awaits wk s) (v : Nat) : z.Awaits wk (s.setSyncMask v) := ⟨hk.boot, hk.closing, hk.quays, hk.work⟩

theorem setReady (hk : z.Awaits wk s) (v : Tbl (List Nat)) : z.Awaits wk (s.setReady v) := ⟨hk.boot, hk.closing, hk.quays, hk.work⟩

theorem setHandover (hk : z.Awaits wk s) (v : List Nat) : z.Awaits wk (s.setHandover v) := ⟨hk.boot, hk.closing, hk.quays, hk.work⟩

theorem setRds (hk : z.Awaits wk s) (v : Tbl Rds) : z.Awaits wk (s.setRds v) := ⟨hk.boot, hk.closing, hk.quays, hk.work⟩

theorem setDab (hk : z.Awaits wk s) (v : Tbl Dab) : z.Awaits wk (s.setDab v) := ⟨hk.boot, hk.closing, hk.quays, hk.work⟩

theorem setDrm (hk : z.Awaits wk s) (v : Tbl Drm) : z.Awaits wk (s.setDrm v) := ⟨hk.boot, hk.closing, hk.quays, hk.work⟩

theorem setDvb (hk : z.Awaits wk s) (v : Tbl Dvb) : z.Awaits wk (s.setDvb v) := ⟨hk.boot, hk.closing, hk.quays, hk.work⟩

theorem setEpoch (hk : z.Awaits wk s) (v : Nat) : z.Awaits wk (s.setEpoch v) := ⟨hk.boot, hk.closing, hk.quays, hk.work⟩

theorem setTaken (hk : z.Awaits wk s) (v : Tbl Nat) : z.Awaits wk (s.setTaken v) := ⟨hk.boot, hk.closing, hk.quays, hk.work⟩

theorem setLandRx (hk : z.Awaits wk s) (v : LandRx) : z.Awaits wk (s.setLandRx v) := ⟨hk.boot, hk.closing, hk.quays, hk.work⟩

theorem setBanks (hk : z.Awaits wk s) (v : Tbl Nat) : z.Awaits wk (s.setBanks v) := ⟨hk.boot, hk.closing, hk.quays, hk.work⟩

theorem setBondNow (hk : z.Awaits wk s) (v : Option Nat) : z.Awaits wk (s.setBondNow v) := ⟨hk.boot, hk.closing, hk.quays, hk.work⟩

theorem setSchedule (hk : z.Awaits wk s) (v : List TxReq) : z.Awaits wk (s.setSchedule v) := ⟨hk.boot, hk.closing, hk.quays, hk.work⟩

theorem setTxAt (hk : z.Awaits wk s) (v : Nat × TxStage) : z.Awaits wk (s.setTxAt v) := ⟨hk.boot, hk.closing, hk.quays, hk.work⟩

theorem setTrsw (hk : z.Awaits wk s) (v : Bool) : z.Awaits wk (s.setTrsw v) := ⟨hk.boot, hk.closing, hk.quays, hk.work⟩

theorem setPilotWindow (hk : z.Awaits wk s) (v : Bool) : z.Awaits wk (s.setPilotWindow v) := ⟨hk.boot, hk.closing, hk.quays, hk.work⟩

theorem setOnAir (hk : z.Awaits wk s) (v : Option (Nat × Nat × List Byte)) : z.Awaits wk (s.setOnAir v) := ⟨hk.boot, hk.closing, hk.quays, hk.work⟩

theorem setListen (hk : z.Awaits wk s) (v : Option (Nat × Nat)) : z.Awaits wk (s.setListen v) := ⟨hk.boot, hk.closing, hk.quays, hk.work⟩

theorem setRx (hk : z.Awaits wk s) (v : Tbl Rx) : z.Awaits wk (s.setRx v) := ⟨hk.boot, hk.closing, hk.quays, hk.work⟩

theorem setAlerts (hk : z.Awaits wk s) (v : List Alert) : z.Awaits wk (s.setAlerts v) := ⟨hk.boot, hk.closing, hk.quays, hk.work⟩

theorem setAlertCmds (hk : z.Awaits wk s) (v : List Nat) : z.Awaits wk (s.setAlertCmds v) := ⟨hk.boot, hk.closing, hk.quays, hk.work⟩

theorem setUnits (hk : z.Awaits wk s) (v : Tbl UnitRec) : z.Awaits wk (s.setUnits v) := ⟨hk.boot, hk.closing, hk.quays, hk.work⟩

theorem setFlips (hk : z.Awaits wk s) (v : Tbl Nat) : z.Awaits wk (s.setFlips v) := ⟨hk.boot, hk.closing, hk.quays, hk.work⟩

theorem setWords (hk : z.Awaits wk s) (v : Tbl UnitRec) : z.Awaits wk (s.setWords v) := ⟨hk.boot, hk.closing, hk.quays, hk.work⟩

theorem setJnlLost (hk : z.Awaits wk s) (v : Nat) : z.Awaits wk (s.setJnlLost v) := ⟨hk.boot, hk.closing, hk.quays, hk.work⟩

theorem setChans (hk : z.Awaits wk s) (v : Tbl Chan) : z.Awaits wk (s.setChans v) := ⟨hk.boot, hk.closing, hk.quays, hk.work⟩

theorem setChains (hk : z.Awaits wk s) (v : Tbl Chain) : z.Awaits wk (s.setChains v) := ⟨hk.boot, hk.closing, hk.quays, hk.work⟩

theorem setDets (hk : z.Awaits wk s) (v : Tbl Det) : z.Awaits wk (s.setDets v) := ⟨hk.boot, hk.closing, hk.quays, hk.work⟩

theorem setDetFull (hk : z.Awaits wk s) (v : Tbl Det) : z.Awaits wk (s.setDetFull v) := ⟨hk.boot, hk.closing, hk.quays, hk.work⟩

theorem setInputs (hk : z.Awaits wk s) (v : Tbl (List BSmp)) : z.Awaits wk (s.setInputs v) := ⟨hk.boot, hk.closing, hk.quays, hk.work⟩

theorem setAud (hk : z.Awaits wk s) (v : Tbl Aud) : z.Awaits wk (s.setAud v) := ⟨hk.boot, hk.closing, hk.quays, hk.work⟩

theorem setPcm (hk : z.Awaits wk s) (v : Tbl (List Pcm)) : z.Awaits wk (s.setPcm v) := ⟨hk.boot, hk.closing, hk.quays, hk.work⟩

theorem setScopeAt (hk : z.Awaits wk s) (v : Tbl Nat) : z.Awaits wk (s.setScopeAt v) := ⟨hk.boot, hk.closing, hk.quays, hk.work⟩

theorem setListens (hk : z.Awaits wk s) (v : List (Nat × Nat × Nat × Option Nat)) : z.Awaits wk (s.setListens v) :=
  ⟨hk.boot, hk.closing, hk.quays, hk.work⟩

theorem setInjWords (hk : z.Awaits wk s) (v : List Nat) : z.Awaits wk (s.setInjWords v) := ⟨hk.boot, hk.closing, hk.quays, hk.work⟩

theorem setSingles (hk : z.Awaits wk s) (v : List Nat) : z.Awaits wk (s.setSingles v) := ⟨hk.boot, hk.closing, hk.quays, hk.work⟩

theorem setInjSeen (hk : z.Awaits wk s) (v : Bool) : z.Awaits wk (s.setInjSeen v) := ⟨hk.boot, hk.closing, hk.quays, hk.work⟩

theorem put (hk : z.Awaits wk s) (f : Fld) (v : Nat) (hf : wk = true → 7 ≤ f.addr) : z.Awaits wk (s.put f v) :=
  ⟨hk.boot, hk.closing, hk.quays, fun hw => (work_put (cause_ne_of_above (hf hw)) s v).trans (hk.work hw)⟩

theorem up (hk : z.Awaits wk s) (f : Fld) (hf : wk = true → 7 ≤ f.addr) : z.Awaits wk (s.up f) := put hk f _ hf

theorem down (hk : z.Awaits wk s) (f : Fld) (hf : wk = true → 7 ≤ f.addr) : z.Awaits wk (s.down f) := put hk f _ hf

theorem bump (hk : z.Awaits wk s) (f : Fld) (hf : wk = true → 7 ≤ f.addr) : z.Awaits wk (s.bump f) := put hk f _ hf

theorem draw (hk : z.Awaits wk s) : z.Awaits wk s.draw.2 := ⟨hk.boot, hk.closing, hk.quays, hk.work⟩

theorem journal (hk : z.Awaits false s) (address old new source result detail : Nat) :
    z.Awaits false (s.journal address old new source result detail) := by
  unfold State.journal
  dsimp only
  repeat' with_reducible first
    | assumption | intro _ | apply setJnl | apply setJnlCount | apply setJnlLost | apply put | apply bump | apply take | apply when
    | apply each | apply foldl | apply dite | dsimp only | split
  all_goals contradiction

theorem attn (hk : z.Awaits wk s) (b : Nat) : z.Awaits wk (s.attn b) := by
  unfold State.attn
  dsimp only
  repeat' with_reducible first
    | assumption | intro _ | apply put | apply up | apply when | apply each | apply foldl | apply dite
  all_goals decide

theorem holdEvent (hk : z.Awaits wk s) (h : Nat) (f : Fld) (enabled : Bool) : z.Awaits wk (s.holdEvent h f enabled) := by
  have shown : z.Awaits wk (s.up (f.ofHold h)) := hk.up _ fun _ => above_ofHold f h
  unfold State.holdEvent
  dsimp only
  exact shown.when fun _ ht => ht.attn _

theorem holdJudge (hk : z.Awaits wk s) (h : Nat) : z.Awaits wk (s.holdJudge h) := by
  unfold State.holdJudge
  dsimp only
  repeat' with_reducible first
    | assumption | intro _ | apply up | apply down | apply bump | apply holdEvent | apply when | apply each | apply foldl | apply dite
    | exact above_ofHold ..

theorem holdFill (hk : z.Awaits wk s) (h fill : Nat) : z.Awaits wk (s.holdFill h fill) := by
  unfold State.holdFill
  dsimp only
  repeat' with_reducible first
    | assumption | intro _ | apply put | apply holdJudge | apply when | exact above_ofHold ..

theorem ringFill (hk : z.Awaits wk s) (h popped fill : Nat) : z.Awaits wk (s.ringFill h popped fill) := by
  unfold State.ringFill
  dsimp only
  repeat' with_reducible first
    | assumption | intro _ | apply setBanks | apply holdFill

theorem ringShow (hk : z.Awaits wk s) (h fill : Nat) : z.Awaits wk (s.ringShow h fill) := by
  unfold State.ringShow
  repeat' with_reducible first
    | assumption | intro _ | apply ringFill

theorem putProd (hk : z.Awaits false s) (p : Nat) (v : Producer) : z.Awaits false (s.putProd p v) := ⟨hk.boot, hk.closing, hk.quays, nofun⟩

theorem refreshHolds (hk : z.Awaits false s) (h q : Nat) : z.Awaits false (s.refreshHolds h q) := by
  unfold State.refreshHolds
  dsimp only
  repeat' with_reducible first
    | assumption | intro _ | apply holdFill

theorem showHeld (hk : z.Awaits false s) (q : Nat) : z.Awaits false (s.showHeld q) := by
  unfold State.showHeld
  repeat' with_reducible first
    | assumption | intro _ | apply put
  all_goals contradiction

theorem numbered (hk : z.Awaits false s) (p : Nat) (data : List Byte) : z.Awaits false (s.numbered p data) := by
  unfold State.numbered
  dsimp only
  repeat' with_reducible first
    | assumption | intro _ | apply putProd

theorem accept (hk : z.Awaits false s) (p content flags ts : Nat) (payload : List Byte) (reserve : Bool) :
    z.Awaits false (s.accept p content flags ts payload reserve) := by
  unfold State.accept
  exact showHeld (refreshHolds (numbered (custody hk _) ..) ..) ..

theorem releaseNo (hk : z.Awaits false s) (p seq : Nat) : z.Awaits false (s.releaseNo p seq) := by
  unfold State.releaseNo
  dsimp only
  repeat' with_reducible first
    | assumption | intro _ | apply putProd

theorem exportOne {e : EEntry} (hk : z.Awaits false s) (he : s.exportOne e = some t) : z.Awaits false t := by
  unfold State.exportOne at he
  dsimp only at he
  split at he
  · exact Option.some.inj he ▸ hk.accept ..
  · split at he
    · exact Option.some.inj he ▸ hk.accept ..
    · cases he

theorem exportDrain (hk : z.Awaits false s) : z.Awaits false s.exportDrain := by
  unfold State.exportDrain
  refine hk.foldl fun t _ ht => ?_
  split
  · split
    next he => exact (ht.exportOne he).setErrExport _
    next =>
      split
      · split
        next he => exact (ht.exportOne he).setErrExport _
        next => exact ht
      · exact ht
  · exact ht

theorem error (hk : z.Awaits false s) (detector : Nat) (u : UnitType) (index : Nat) (o : Outc) (a : EArgs) :
    z.Awaits false (s.error detector u index o a) := by
  unfold State.error
  dsimp only
  repeat' with_reducible first
    | assumption | intro _ | apply setErr | apply setErrCount | apply setErrExport | apply setInjSeen | apply put | apply up | apply bump
    | apply attn | apply exportDrain | apply take | apply when | apply each | apply foldl | apply dite | dsimp only | split
  all_goals contradiction

theorem shade (hk : z.Awaits false s) (c : Nat) (f : Fld) (v : Nat) (armed : Bool) : z.Awaits false (s.shade c f v armed) := by
  unfold State.shade
  exact when (shadow hk _) fun _ ht => ht.up _ nofun

theorem applyArmed (hk : z.Awaits false s) (c : Nat) : z.Awaits false (s.applyArmed c) := by
  unfold State.applyArmed
  exact down (each (shadow hk _) fun _ _ ht => ht.put _ _ nofun) _ nofun

theorem putUnit (hk : z.Awaits wk s) (u : UnitType) (i : Nat) (r : UnitRec) : z.Awaits wk (s.putUnit u i r) :=
  ⟨hk.boot, hk.closing, hk.quays, hk.work⟩

theorem putFlips (hk : z.Awaits false s) (a e : Nat) : z.Awaits false (s.putFlips a e) := by
  unfold State.putFlips
  repeat' with_reducible first
    | assumption | intro _ | apply setFlips

theorem clearWords (hk : z.Awaits false s) (mems : List Nat) : z.Awaits false (s.clearWords mems) := by
  unfold State.clearWords
  dsimp only
  repeat' with_reducible first
    | assumption | intro _ | apply setFlips | apply setWords | apply setInjWords | apply setSingles | apply putFlips | apply when | apply each

theorem mask (hk : z.Awaits wk s) (f : Fld) (b : Nat) (v : Bool) (hf : wk = true → 7 ≤ f.addr) : z.Awaits wk (s.mask f b v) := by
  unfold State.mask
  exact ite hk (hk.put _ _ hf)

theorem alertShow (hk : z.Awaits wk s) : z.Awaits wk (s.alertShow) := by
  unfold State.alertShow
  dsimp only
  repeat' with_reducible first
    | assumption | intro _ | apply put
  all_goals decide

theorem alertStart (hk : z.Awaits wk s) (kind src hold : Nat) (stateOn : Bool) : z.Awaits wk (s.alertStart kind src hold stateOn) := by
  unfold State.alertStart
  dsimp only
  repeat' with_reducible first
    | assumption | intro _ | apply setAlerts | apply put | apply up | apply bump | apply alertShow | apply when
  all_goals decide

theorem alertSweep (hk : z.Awaits false s) : z.Awaits false (s.alertSweep) := by
  unfold State.alertSweep
  repeat' with_reducible first
    | assumption | intro _ | apply setAlerts | apply alertShow | apply when | apply each | apply foldl | apply dite

theorem alertStateOff (hk : z.Awaits false s) (kind src : Nat) : z.Awaits false (s.alertStateOff kind src) := by
  unfold State.alertStateOff
  repeat' with_reducible first
    | assumption | intro _ | apply setAlerts | apply alertSweep

theorem alertClear (hk : z.Awaits wk s) : z.Awaits wk (s.alertClear) := by
  unfold State.alertClear
  repeat' with_reducible first
    | assumption | intro _ | apply setAlerts | apply alertShow

theorem alertCommand (hk : z.Awaits wk s) (w : Nat) : z.Awaits wk (s.alertCommand w) := by
  unfold State.alertCommand
  dsimp only
  repeat' with_reducible first
    | assumption | intro _ | apply setAlertCmds | apply up | apply alertStart | apply alertClear | apply when | apply each | apply foldl
    | apply dite
  all_goals decide

theorem alertThaw (hk : z.Awaits wk s) : z.Awaits wk s.alertThaw := by
  have lists : z.Awaits wk { s with alertDue := [], alertCmds := [] } := ⟨hk.boot, hk.closing, hk.quays, hk.work⟩
  unfold State.alertThaw
  refine each (each (down (down lists _ ?_) _ ?_) fun _ _ ht => ht.alertStart ..) fun _ _ ht => ht.alertCommand _
  all_goals exact fun _ => by decide

theorem alertReset (hk : z.Awaits wk s) : z.Awaits wk s.alertReset := by
  have lists : z.Awaits wk { s with alerts := [], alertDue := [], alertCmds := [] } := ⟨hk.boot, hk.closing, hk.quays, hk.work⟩
  unfold State.alertReset
  refine alertShow (down (down lists _ ?_) _ ?_)
  all_goals exact fun _ => by decide

theorem urgentEnd (hk : z.Awaits false s) (kind n : Nat) (injected : Bool) : z.Awaits false (s.urgentEnd kind n injected) := by
  unfold State.urgentEnd
  dsimp only
  repeat' with_reducible first
    | assumption | intro _ | apply error | apply alertStateOff

theorem take (hk : z.Awaits false s) (key seq : Nat) : z.Awaits false (s.take key seq) := by
  unfold State.take
  repeat' with_reducible first
    | assumption | intro _ | apply setTaken

theorem putWindow (hk : z.Awaits wk s) (n : Nat) (w : Option Win) : z.Awaits wk (s.putWindow n w) := ⟨hk.boot, hk.closing, hk.quays, hk.work⟩

theorem putClosed (hk : z.Awaits wk s) (n : Nat) (l : List Win) : z.Awaits wk (s.putClosed n l) := ⟨hk.boot, hk.closing, hk.quays, hk.work⟩

theorem inWindow (hk : z.Awaits false s) (n : Nat) (ps : Int) (g : Win → Win) : z.Awaits false (s.inWindow n ps g) := by
  unfold State.inWindow
  repeat' with_reducible first
    | assumption | intro _ | apply putWindow | apply putClosed | apply when | apply each | apply foldl | apply dite | dsimp only | split

theorem tally (hk : z.Awaits false s) (n q i k ts : Nat) : z.Awaits false (s.tally n q i k ts) := by
  unfold State.tally
  repeat' with_reducible first
    | assumption | intro _ | apply inWindow

theorem putBerth (hk : z.Awaits false s) (n : Nat) (b : Berth) : z.Awaits false (s.putBerth n b) := ⟨hk.boot, hk.closing, hk.quays, nofun⟩

theorem putInput (hk : z.Awaits false s) (n b : Nat) (l : List BSmp) : z.Awaits false (s.putInput n b l) := by
  unfold State.putInput
  repeat' with_reducible first
    | assumption | intro _ | apply setInputs

theorem putWaiting (hk : z.Awaits wk s) (p : Nat) (l : List Wait) : z.Awaits wk (s.putWaiting p l) := ⟨hk.boot, hk.closing, hk.quays, hk.work⟩

theorem loadCtx (hk : z.Awaits false s) (n : Nat) (c : Ctx) : z.Awaits false (s.loadCtx n c) := by
  unfold State.loadCtx
  dsimp only
  repeat' with_reducible first
    | assumption | intro _ | apply setRds | apply setDab | apply setDrm | apply setDvb | apply setRx | apply setAud | apply put
    | apply putWaiting | apply when | apply each
  all_goals contradiction

theorem putDvb (hk : z.Awaits wk s) (n : Nat) (v : Dvb) : z.Awaits wk (s.putDvb n v) := ⟨hk.boot, hk.closing, hk.quays, hk.work⟩

theorem showLoads (hk : z.Awaits wk s) : z.Awaits wk (s.showLoads) := by
  unfold State.showLoads
  repeat' with_reducible first
    | assumption | intro _ | apply put | apply when | apply each
  all_goals exact Nat.le_add_right_of_le (by decide)

theorem showOwn (hk : z.Awaits wk s) (n : Nat) (l : Load) : z.Awaits wk (s.showOwn n l) := by
  unfold State.showOwn
  dsimp only
  repeat' with_reducible first
    | assumption | intro _ | apply put
  all_goals exact Nat.le_add_right_of_le (by decide)

theorem showLoad (hk : z.Awaits wk s) (n : Nat) : z.Awaits wk (s.showLoad n) := by
  unfold State.showLoad
  repeat' with_reducible first
    | assumption | intro _ | apply showOwn

theorem putQueue (hk : z.Awaits wk s) (cls : Nat) (q : List Nat) : z.Awaits wk (s.putQueue cls q) := ⟨hk.boot, hk.closing, hk.quays, hk.work⟩

theorem craneIdle (hk : z.Awaits false s) (c : Nat) : z.Awaits false (s.craneIdle c) := by
  unfold State.craneIdle
  repeat' with_reducible first
    | assumption | intro _ | apply put | apply down
  all_goals contradiction

theorem craneTake (hk : z.Awaits false s) (c n : Nat) : z.Awaits false (s.craneTake c n) := by
  unfold State.craneTake
  dsimp only
  repeat' with_reducible first
    | assumption | intro _ | apply put | apply up | apply bump | apply putBerth | apply when | apply each | apply foldl | apply dite
  all_goals contradiction

theorem craneChoose (hk : z.Awaits false s) (c : Nat) : z.Awaits false (s.craneChoose c) := by
  unfold State.craneChoose
  dsimp only
  repeat' with_reducible first
    | assumption | intro _ | apply putQueue | apply craneIdle | apply craneTake | apply when | apply each | apply foldl | apply dite
    | dsimp only | split

theorem ticketDone (hk : z.Awaits false s) (n : Nat) : z.Awaits false (s.ticketDone n) := by
  unfold State.ticketDone
  dsimp only
  repeat' with_reducible first
    | assumption | intro _ | apply put | apply down | apply putBerth
  all_goals contradiction

theorem judgeClass (hk : z.Awaits wk s) (cls : Nat) : z.Awaits wk (s.judgeClass cls) := by
  unfold State.judgeClass
  dsimp only
  repeat' with_reducible first
    | assumption | intro _ | apply put | apply mask
  all_goals first | decide | exact Nat.le_add_right_of_le (by decide)

theorem assignRoles (hk : z.Awaits wk s) (cls : Nat) : z.Awaits wk (s.assignRoles cls) := by
  unfold State.assignRoles
  dsimp only
  repeat' with_reducible first
    | assumption | intro _ | apply put | apply judgeClass | apply when | apply each | apply foldl | apply dite | dsimp only | split
  all_goals exact Nat.le_add_right_of_le (by decide)

theorem toMark (hk : z.Awaits false s) (n : Nat) : z.Awaits false (s.toMark n) := by
  unfold State.toMark
  dsimp only
  repeat' with_reducible first
    | assumption | intro _ | apply putProd | apply putBerth | apply loadCtx

theorem laneGone (hk : z.Awaits false s) (n : Nat) : z.Awaits false (s.laneGone n) := by
  unfold State.laneGone
  repeat' with_reducible first
    | assumption | intro _ | apply put | apply putWindow | apply when
  all_goals contradiction

theorem showSpares (hk : z.Awaits wk s) : z.Awaits wk (s.showSpares) := by
  unfold State.showSpares
  dsimp only
  repeat' with_reducible first
    | assumption | intro _ | apply put
  all_goals decide

theorem putLane (hk : z.Awaits wk s) (l : Nat) (r : LaneRole) : z.Awaits wk (s.putLane l r) := by
  unfold State.putLane
  repeat' with_reducible first
    | assumption | intro _ | apply setLanes | apply showSpares

theorem putIntake (hk : z.Awaits wk s) (k : Nat) (v : Intake) : z.Awaits wk (s.putIntake k v) := ⟨hk.boot, hk.closing, hk.quays, hk.work⟩

theorem showValid (hk : z.Awaits wk s) (n : Nat) : z.Awaits wk (s.showValid n) := by
  unfold State.showValid
  dsimp only
  repeat' with_reducible first
    | assumption | intro _ | apply put
  all_goals exact Nat.le_add_right_of_le (by decide)

theorem showValidAll (hk : z.Awaits wk s) : z.Awaits wk (s.showValidAll) := by
  unfold State.showValidAll
  repeat' with_reducible first
    | assumption | intro _ | apply showValid | apply when | apply each

theorem copyBank (hk : z.Awaits wk s) (src dst : Nat) : z.Awaits wk (s.copyBank src dst) := by
  have below : F.GLB_MODE_CAUSE_CAUSE.key < 16 * bankAddr dst 0x3001 := by
    simp only [Fld.key, F.GLB_MODE_CAUSE_CAUSE, bankAddr]
    omega
  unfold State.copyBank
  refine ite hk ⟨hk.boot, hk.closing, hk.quays, fun hw => .trans ?_ (hk.work hw)⟩
  exact congrArg (fun c => (s.custody, s.prods, s.stats, s.berths, c)) (Tbl.get_rewrite below ..)

theorem copyBanks (hk : z.Awaits wk s) (src dst : Nat) : z.Awaits wk (s.copyBanks src dst) := by
  unfold State.copyBanks
  repeat' with_reducible first
    | assumption | intro _ | apply copyBank

theorem agcShow (hk : z.Awaits false s) (k : Nat) : z.Awaits false (s.agcShow k) := by
  unfold State.agcShow
  repeat' with_reducible first
    | assumption | intro _ | apply put
  all_goals contradiction

theorem putSchedule (hk : z.Awaits false s) (l : List TxReq) : z.Awaits false (s.putSchedule l) := by
  unfold State.putSchedule
  repeat' with_reducible first
    | assumption | intro _ | apply setSchedule | apply holdFill

theorem txUpdate (hk : z.Awaits wk s) (seq : Nat) (g : TxReq → TxReq) : z.Awaits wk (s.txUpdate seq g) := by
  unfold State.txUpdate
  repeat' with_reducible first
    | assumption | intro _ | apply setSchedule

theorem txEnd (hk : z.Awaits false s) (r : TxReq) (result : Nat) : z.Awaits false (s.txEnd r result) := by
  unfold State.txEnd
  dsimp only
  repeat' with_reducible first
    | assumption | intro _ | apply setTxAt | apply put | apply up | apply bump | apply releaseNo | apply error | apply putSchedule | apply when
    | apply each | apply foldl | apply dite
  all_goals contradiction

theorem putRx (hk : z.Awaits wk s) (n : Nat) (r : Rx) : z.Awaits wk (s.putRx n r) := ⟨hk.boot, hk.closing, hk.quays, hk.work⟩

theorem rxState (hk : z.Awaits false s) (n st : Nat) : z.Awaits false (s.rxState n st) := by
  unfold State.rxState
  repeat' with_reducible first
    | assumption | intro _ | apply put
  all_goals contradiction

theorem showListen (hk : z.Awaits false s) (channel v : Nat) : z.Awaits false (s.showListen channel v) := by
  unfold State.showListen
  repeat' with_reducible first
    | assumption | intro _ | apply put | apply when | apply each | apply foldl | apply dite
  all_goals contradiction

theorem listenClose (hk : z.Awaits false s) : z.Awaits false (s.listenClose) := by
  unfold State.listenClose
  dsimp only
  repeat' with_reducible first
    | assumption | intro _ | apply setListen | apply setListens | apply down | apply showListen | apply when | apply each | apply foldl
    | apply dite | dsimp only | split
  all_goals contradiction

theorem windowClose (hk : z.Awaits false s) : z.Awaits false (s.windowClose) := by
  unfold State.windowClose
  dsimp only
  repeat' with_reducible first
    | assumption | intro _ | apply setPilotWindow | apply put | apply down | apply agcShow | apply rxState | apply when | apply each
    | apply foldl | apply dite
  all_goals contradiction

theorem txLeave (hk : z.Awaits false s) : z.Awaits false (s.txLeave) := by
  unfold State.txLeave
  repeat' with_reducible first
    | assumption | intro _ | apply setTxAt | apply txEnd | apply when | apply each | apply foldl | apply dite | dsimp only | split

theorem pilotStop (hk : z.Awaits false s) : z.Awaits false (s.pilotStop) := by
  unfold State.pilotStop
  dsimp only
  repeat' with_reducible first
    | assumption | intro _ | apply setTrsw | apply setOnAir | apply txEnd | apply listenClose | apply windowClose | apply txLeave | apply when
    | apply each | apply foldl | apply dite | dsimp only | split

theorem pilotDisturb (hk : z.Awaits wk s) : z.Awaits wk (s.pilotDisturb) := by
  unfold State.pilotDisturb
  repeat' with_reducible first
    | assumption | intro _ | apply txUpdate | apply when | apply each | apply foldl | apply dite | dsimp only | split

theorem engineShow (hk : z.Awaits wk s) : z.Awaits wk (s.engineShow) := by
  unfold State.engineShow
  dsimp only
  repeat' with_reducible first
    | assumption | intro _ | apply put
  all_goals decide

theorem quayBoundary (hk : z.Awaits false s) (q : Nat) : z.Awaits false (s.quayBoundary q) := by
  unfold State.quayBoundary
  dsimp only
  repeat' with_reducible first
    | assumption | intro _ | apply up | apply showHeld | apply applyArmed | apply when | apply each | apply foldl | apply dite
  all_goals contradiction

theorem landShow (hk : z.Awaits wk s) : z.Awaits wk (s.landShow) := by
  unfold State.landShow
  dsimp only
  repeat' with_reducible first
    | assumption | intro _ | apply put | apply ringShow | exact above_ofHold ..
  all_goals decide

theorem landBoundary (hk : z.Awaits false s) : z.Awaits false (s.landBoundary) := by
  unfold State.landBoundary
  dsimp only
  repeat' with_reducible first
    | assumption | intro _ | apply up | apply applyArmed | apply landShow | apply when | apply each | apply foldl | apply dite
  all_goals contradiction

theorem putChan (hk : z.Awaits wk s) (c : Nat) (v : LandChan) : z.Awaits wk (s.putChan c v) := ⟨hk.boot, hk.closing, hk.quays, hk.work⟩

theorem supArm (hk : z.Awaits false s) (c a : Nat) (f : Fld) (v : Nat) : z.Awaits false (s.supArm c a f v) := by
  unfold State.supArm
  dsimp only
  repeat' with_reducible first
    | assumption | intro _ | apply journal | apply shade

theorem putFoll (hk : z.Awaits wk s) (h : Nat) (v : Follow) : z.Awaits wk (s.putFoll h v) := ⟨hk.boot, hk.closing, hk.quays, hk.work⟩

theorem fadeUpdate (hk : z.Awaits false s) (h : Nat) (g : Fade → Fade) : z.Awaits false (s.fadeUpdate h g) := by
  unfold State.fadeUpdate
  dsimp only
  repeat' with_reducible first
    | assumption | intro _ | apply putFoll

theorem setXf (hk : z.Awaits false s) (h st : Nat) : z.Awaits false (s.setXf h st) := by
  unfold State.setXf
  repeat' with_reducible first
    | assumption | intro _ | apply put
  all_goals contradiction

theorem partnerStop (hk : z.Awaits false s) (p : Nat) : z.Awaits false (s.partnerStop p) := by
  unfold State.partnerStop
  dsimp only
  repeat' with_reducible first
    | assumption | intro _ | apply put | apply supArm | apply when
  all_goals contradiction

theorem fadeEnd (hk : z.Awaits false s) (h result : Nat) : z.Awaits false (s.fadeEnd h result) := by
  unfold State.fadeEnd
  dsimp only
  repeat' with_reducible first
    | assumption | intro _ | apply put | apply up | apply putFoll | apply setXf | apply partnerStop | apply when | apply each | apply foldl
    | apply dite | dsimp only | split
  all_goals contradiction

theorem fadeAbort (hk : z.Awaits false s) (n result : Nat) : z.Awaits false (s.fadeAbort n result) := by
  unfold State.fadeAbort
  dsimp only
  repeat' with_reducible first
    | assumption | intro _ | apply fadeUpdate | apply partnerStop | apply fadeEnd | apply when | apply each | apply foldl | apply dite
    | dsimp only | split

theorem fadeStop (hk : z.Awaits false s) (n : Nat) : z.Awaits false (s.fadeStop n) := by
  unfold State.fadeStop
  repeat' with_reducible first
    | assumption | intro _ | apply fadeEnd | apply fadeAbort | apply when | apply each | apply foldl | apply dite

theorem putRds (hk : z.Awaits wk s) (n : Nat) (v : Rds) : z.Awaits wk (s.putRds n v) := ⟨hk.boot, hk.closing, hk.quays, hk.work⟩

theorem putDab (hk : z.Awaits wk s) (n : Nat) (v : Dab) : z.Awaits wk (s.putDab n v) := ⟨hk.boot, hk.closing, hk.quays, hk.work⟩

theorem decoderReset (hk : z.Awaits wk s) (n : Nat) : z.Awaits wk (s.decoderReset n) := ⟨hk.boot, hk.closing, hk.quays, hk.work⟩

theorem fmAlarmEnd (hk : z.Awaits false s) (h : Nat) : z.Awaits false (s.fmAlarmEnd h) := by
  unfold State.fmAlarmEnd
  repeat' with_reducible first
    | assumption | intro _ | apply down | apply urgentEnd | apply when
  all_goals contradiction

theorem testState (hk : z.Awaits false s) (n : Nat) (on : Bool) : z.Awaits false (s.testState n on) := by
  unfold State.testState
  dsimp only
  repeat' with_reducible first
    | assumption | intro _ | apply up | apply error | apply putRds | apply when | apply each | apply foldl | apply dite
  all_goals contradiction

theorem rdsSync (hk : z.Awaits false s) (n : Nat) (v : Bool) : z.Awaits false (s.rdsSync n v) := by
  unfold State.rdsSync
  dsimp only
  repeat' with_reducible first
    | assumption | intro _ | apply put | apply putFoll | apply when
  all_goals contradiction

theorem unitVoid (hk : z.Awaits false s) (n : Nat) (u : UnitOut) : z.Awaits false (s.unitVoid n u) := by
  unfold State.unitVoid
  repeat' with_reducible first
    | assumption | intro _ | apply tally | apply when | apply each | apply foldl | apply dite | dsimp only | split

theorem dabAlarmEnd (hk : z.Awaits false s) (h : Nat) : z.Awaits false (s.dabAlarmEnd h) := by
  unfold State.dabAlarmEnd
  repeat' with_reducible first
    | assumption | intro _ | apply down | apply urgentEnd | apply when
  all_goals contradiction

theorem dabVoid (hk : z.Awaits false s) (n : Nat) : z.Awaits false (s.dabVoid n) := by
  unfold State.dabVoid
  dsimp only
  repeat' with_reducible first
    | assumption | intro _ | apply putDab | apply unitVoid | apply when | apply each

theorem ewsEnd (hk : z.Awaits false s) (n : Nat) : z.Awaits false (s.ewsEnd n) := by
  unfold State.ewsEnd
  repeat' with_reducible first
    | assumption | intro _ | apply down | apply urgentEnd | apply when
  all_goals contradiction

theorem closeAt (hk : z.Awaits false s) (n stop extra : Nat) : z.Awaits false (s.closeAt n stop extra) := by
  unfold State.closeAt
  repeat' with_reducible first
    | assumption | intro _ | apply putWindow | apply putClosed | apply when | apply each | apply foldl | apply dite | dsimp only | split

theorem closeWindow (hk : z.Awaits false s) (n extra : Nat) : z.Awaits false (s.closeWindow n extra) := by
  unfold State.closeWindow
  repeat' with_reducible first
    | assumption | intro _ | apply closeAt

theorem recordStop (hk : z.Awaits false s) (n : Nat) : z.Awaits false (s.recordStop n) := by
  unfold State.recordStop
  repeat' with_reducible first
    | assumption | intro _ | apply closeWindow

theorem putMov (hk : z.Awaits wk s) (m : Nat) (v : Mov) : z.Awaits wk (s.putMov m v) := ⟨hk.boot, hk.closing, hk.quays, hk.work⟩

theorem putPair (hk : z.Awaits wk s) (p : Nat) (v : Pair) : z.Awaits wk (s.putPair p v) := ⟨hk.boot, hk.closing, hk.quays, hk.work⟩

theorem showOutputs (hk : z.Awaits wk s) : z.Awaits wk (s.showOutputs) := by
  unfold State.showOutputs
  repeat' with_reducible first
    | assumption | intro _ | apply put | apply when | apply each
  all_goals exact Nat.le_add_right_of_le (by decide)

theorem showIntakes (hk : z.Awaits wk s) : z.Awaits wk (s.showIntakes) := by
  unfold State.showIntakes
  dsimp only
  repeat' with_reducible first
    | assumption | intro _ | apply put | apply showValidAll | apply when | apply each | apply foldl | apply dite
  all_goals exact Nat.le_add_right_of_le (by decide)

theorem showMovements (hk : z.Awaits wk s) : z.Awaits wk (s.showMovements) := by
  unfold State.showMovements
  repeat' with_reducible first
    | assumption | intro _ | apply put | apply showOutputs | apply showIntakes
  all_goals decide

theorem carry (hk : z.Awaits wk s) (p m : Nat) : z.Awaits wk (s.carry p m) := by
  unfold State.carry
  dsimp only
  repeat' with_reducible first
    | assumption | intro _ | apply up | apply down | apply bump | apply pilotDisturb | apply showMovements | apply when | apply each
    | apply foldl | apply dite | dsimp only | split
  all_goals exact Nat.le_add_right_of_le (by decide)

theorem movIdle (hk : z.Awaits wk s) (m : Nat) : z.Awaits wk (s.movIdle m) := by
  unfold State.movIdle
  dsimp only
  repeat' with_reducible first
    | assumption | intro _ | apply put | apply down | apply putMov | apply showMovements
  all_goals exact Nat.le_add_right_of_le (by decide)

theorem timebaseOff (hk : z.Awaits wk s) : z.Awaits wk (s.timebaseOff) := by
  unfold State.timebaseOff
  dsimp only
  repeat' with_reducible first
    | assumption | intro _ | apply setTrimming | apply putPair | apply showMovements | apply carry | apply movIdle | apply when | apply each
    | apply foldl | apply dite

theorem putPort (hk : z.Awaits wk s) (p : Nat) (v : Port) : z.Awaits wk (s.putPort p v) := ⟨hk.boot, hk.closing, hk.quays, hk.work⟩

theorem setOut (hk : z.Awaits false s) (p v : Nat) : z.Awaits false (s.setOut p v) := by
  unfold State.setOut
  repeat' with_reducible first
    | assumption | intro _ | apply put
  all_goals contradiction

theorem portEmpty (hk : z.Awaits false s) (p : Nat) : z.Awaits false (s.portEmpty p) := by
  unfold State.portEmpty
  dsimp only
  repeat' with_reducible first
    | assumption | intro _ | apply ringFill | apply putPort

theorem portStopped (hk : z.Awaits false s) (p : Nat) : z.Awaits false (s.portStopped p) := by
  unfold State.portStopped
  dsimp only
  repeat' with_reducible first
    | assumption | intro _ | apply put | apply up | apply down | apply applyArmed | apply showOutputs | apply putPort | apply setOut
    | apply portEmpty | apply when
  all_goals contradiction

theorem portsMute (hk : z.Awaits false s) : z.Awaits false (s.portsMute) := by
  unfold State.portsMute
  repeat' with_reducible first
    | assumption | intro _ | apply portStopped | apply when | apply each

theorem showCapture (hk : z.Awaits false s) (n : Nat) : z.Awaits false (s.showCapture n) := by
  unfold State.showCapture
  repeat' with_reducible first
    | assumption | intro _ | apply ringShow | apply when | apply each | apply foldl | apply dite | dsimp only | split

theorem showChan (hk : z.Awaits false s) (k : Nat) : z.Awaits false (s.showChan k) := by
  unfold State.showChan
  repeat' with_reducible first
    | assumption | intro _ | apply ringShow

theorem chainsLose (hk : z.Awaits false s) : z.Awaits false (s.chainsLose) := by
  unfold State.chainsLose
  dsimp only
  repeat' with_reducible first
    | assumption | intro _ | apply setChans | apply setChains | apply setDets | apply setDetFull | apply putInput | apply showCapture
    | apply showChan | apply when | apply each

theorem feedOff (hk : z.Awaits wk s) (k : Nat) : z.Awaits wk (s.feedOff k) := by
  unfold State.feedOff
  repeat' with_reducible first
    | assumption | intro _ | apply down
  all_goals exact Nat.le_add_right_of_le (by decide)

theorem berthDrop (hk : z.Awaits false s) (n : Nat) : z.Awaits false (s.berthDrop n) := by
  unfold State.berthDrop
  dsimp only
  repeat' with_reducible first
    | assumption | intro _ | apply setAud | apply setPcm | apply setScopeAt | apply put | apply down | apply putDvb | apply putRx
    | apply rxState | apply putFoll | apply decoderReset | apply fmAlarmEnd | apply testState | apply rdsSync | apply dabAlarmEnd
    | apply dabVoid | apply ewsEnd | apply when | apply each | apply foldl | apply dite
  all_goals contradiction

theorem dropTicket (hk : z.Awaits false s) (n : Nat) : z.Awaits false (s.dropTicket n) := by
  unfold State.dropTicket
  dsimp only
  repeat' with_reducible first
    | assumption | intro _ | apply putQueue | apply craneChoose | apply ticketDone | apply when | apply each | apply foldl | apply dite

theorem putDom (hk : z.Awaits wk s) (d : Nat) (v : Dom) : z.Awaits wk (s.putDom d v) := ⟨hk.boot, hk.closing, hk.quays, hk.work⟩

theorem loseReg (hk : z.Awaits false s) (r : RDesc) (base : Nat) : z.Awaits false (s.loseReg r base) := by
  unfold State.loseReg
  repeat' with_reducible first
    | assumption | intro _ | apply put | apply when | apply each
  all_goals contradiction

theorem loseRegs (hk : z.Awaits false s) (d : Nat) : z.Awaits false (s.loseRegs d) := by
  unfold State.loseRegs
  dsimp only
  repeat' with_reducible first
    | assumption | intro _ | apply setRegs | apply loseReg | apply when | apply each | apply foldl | apply dite | dsimp only | split

theorem assignLanes (hk : z.Awaits wk s) : z.Awaits wk (s.assignLanes) := by
  unfold State.assignLanes
  dsimp only
  repeat' with_reducible first
    | assumption | intro _ | apply setLanes | apply setSounding | apply setSyncMask | apply put | apply down | apply putUnit | apply showSpares
    | apply putLane | apply copyBanks | apply when | apply each | apply foldl | apply dite | dsimp only | split
  all_goals exact Nat.le_add_right_of_le (by decide)

theorem loseTimebase (hk : z.Awaits false s) : z.Awaits false (s.loseTimebase) := by
  unfold State.loseTimebase
  repeat' with_reducible first
    | assumption | intro _ | apply showMovements | apply timebaseOff | apply loseRegs

theorem loseIntake (hk : z.Awaits false s) (k : Nat) : z.Awaits false (s.loseIntake k) := by
  unfold State.loseIntake
  dsimp only
  repeat' with_reducible first
    | assumption | intro _ | apply setVisiting | apply put | apply putUnit | apply putIntake | apply showValidAll | apply loseRegs
  all_goals contradiction

theorem loseLanes (hk : z.Awaits false s) : z.Awaits false (s.loseLanes) := by
  unfold State.loseLanes
  dsimp only
  repeat' with_reducible first
    | assumption | intro _ | apply applyArmed | apply clearWords | apply laneGone | apply fadeAbort | apply chainsLose | apply loseRegs
    | apply assignLanes | apply when | apply each | apply foldl | apply dite

theorem loseEngine (hk : z.Awaits false s) : z.Awaits false (s.loseEngine) := by
  unfold State.loseEngine
  dsimp only
  repeat' with_reducible first
    | assumption | intro _ | apply setReady | apply setHandover | apply put | apply putUnit | apply putBerth | apply toMark | apply loseRegs
    | apply when | apply each
  all_goals contradiction

theorem quayLeave (hk : z.Awaits false s) : z.Awaits false (s.quayLeave) := by
  unfold State.quayLeave
  dsimp only
  repeat' with_reducible first
    | assumption | intro _ | apply setLandRx | apply down | apply pilotStop | apply quayBoundary | apply landBoundary | apply portsMute
    | apply when | apply each
  all_goals contradiction

theorem loseQuay (hk : z.Awaits false s) : z.Awaits false (s.loseQuay) := by
  unfold State.loseQuay
  dsimp only
  repeat' with_reducible first
    | assumption | intro _ | apply setBondNow | apply putUnit | apply engineShow | apply landShow | apply loseRegs | apply when | apply each

theorem afShow (hk : z.Awaits wk s) : z.Awaits wk (s.afShow) := by
  unfold State.afShow
  repeat' with_reducible first
    | assumption | intro _ | apply put
  all_goals decide

theorem surveyLeft (hk : z.Awaits wk s) : z.Awaits wk (s.surveyLeft) := by
  unfold State.surveyLeft
  repeat' with_reducible first
    | assumption | intro _ | apply alertThaw | apply putWindow

theorem berthHalt (hk : z.Awaits false s) (n : Nat) : z.Awaits false (s.berthHalt n) := by
  unfold State.berthHalt
  dsimp only
  repeat' with_reducible first
    | assumption | intro _ | apply put | apply up | apply putBerth | apply fadeStop | apply recordStop | apply berthDrop | apply dropTicket
    | apply when | apply each | apply foldl | apply dite
  all_goals contradiction

theorem drawEpoch (hk : z.Awaits wk s) : z.Awaits wk (s.drawEpoch).2 := by
  unfold State.drawEpoch
  dsimp only
  repeat' with_reducible first
    | assumption | intro _ | apply draw

theorem nextEpoch (hk : z.Awaits wk s) : z.Awaits wk (s.nextEpoch) := by
  unfold State.nextEpoch
  dsimp only
  repeat' with_reducible first
    | assumption | intro _ | apply setEpoch | apply drawEpoch | apply when | apply each | apply foldl | apply dite

theorem windTime (hk : z.Awaits wk s) (since : Nat) : z.Awaits wk (s.windTime since) := by
  unfold State.windTime
  repeat' with_reducible first
    | assumption | intro _ | apply put
  all_goals decide

theorem windStop (hk : z.Awaits wk s) : z.Awaits wk (s.windStop) := by
  unfold State.windStop
  repeat' with_reducible first
    | assumption | intro _ | apply setWind | apply windTime | apply when | apply each | apply foldl | apply dite | dsimp only | split

theorem testsEnd (hk : z.Awaits wk s) : z.Awaits wk (s.testsEnd) := by
  unfold State.testsEnd
  dsimp only
  repeat' with_reducible first
    | assumption | intro _ | apply setUnits | apply setWords | apply when | apply each

theorem showOutside (hk : z.Awaits wk s) : z.Awaits wk (s.showOutside) := by
  unfold State.showOutside
  dsimp only
  repeat' with_reducible first
    | assumption | intro _ | apply put | apply holdFill | apply ringShow | apply showLoads | apply showLoad | apply assignRoles
    | apply engineShow | apply landShow | apply showMovements | apply assignLanes | apply afShow | apply when | apply each | apply foldl
    | apply dite
  all_goals exact Nat.le_add_right_of_le (by decide)

theorem showAfter (hk : z.Awaits wk s) : z.Awaits wk (s.showAfter) := by
  unfold State.showAfter
  dsimp only
  repeat' with_reducible first
    | assumption | intro _ | apply down | apply timebaseOff | apply feedOff | apply showOutside | apply when | apply each
  all_goals exact Nat.le_add_right_of_le (by decide)

end State.Awaits

end Sys2Proof.Machine

/-! The reset commands (O19). -/

namespace Sys2Proof.Machine

/-! The shutdown steps and the power-down, under which the reset waits and `State.core` lasts. -/

/-- Every part of `Part` is kept. -/
def wholly : Part → Bool := fun _ => true

theorem State.Keeps.core {s t : State} (h : s.Keeps wholly t) : t.core = s.core := by
  simp only [State.core, h.mode rfl, h.keys rfl, h.kek rfl, h.cal rfl, h.rows rfl, h.duty rfl, (h.time rfl).1, (h.time rfl).2, (h.power rfl).1,
    (h.power rfl).2, h.epoch rfl]

namespace State.Awaits

variable {wk : Bool} {z s t : State} {d state : Nat} {keep : Bool}

/-- A domain other than STORE that goes off, or any that goes into retention. -/
theorem lose (hk : z.Awaits false s) (h : d < 6 ∨ keep = true) : z.Awaits false (s.lose d keep) := by
  unfold State.lose
  refine ite hk.loseTimebase (ite (hk.loseIntake _) (ite hk.loseLanes (ite hk.loseEngine ?_)))
  refine dite (fun h6 => ?_) fun _ => dite (fun h7 => ?_) fun _ => hk
  · exact if_pos (h.resolve_left (by omega)) ▸ hk
  · exact if_pos (h.resolve_left (by omega)) ▸ hk.loseQuay

theorem switchTo (hk : z.Awaits false s) (hon : state ≠ dsOn) (h : d < 6 ∨ state = dsRetention) : z.Awaits false (s.switchTo d state) := by
  have away := (hk.putDom d { s.dom d with step := 0, goal := none, dependant := false, injected := false }).put (F.DOM_STATE d) state nofun
  unfold State.switchTo
  dsimp only
  rw [if_neg hon]
  exact ite (hk.putDom ..) (ite away (lose away (h.imp_right fun e => by simp [e])))

theorem powerDown (hk : z.Awaits false s) : z.Awaits false s.powerDown := by
  unfold State.powerDown
  repeat refine switchTo ?_ (by decide) (by decide)
  exact hk

end State.Awaits

namespace State.Keeps

variable {kp : Part → Bool} {z s : State} {d state : Nat} {keep : Bool}

theorem lose_low (hk : z.Keeps kp s) (h : d < 6 ∨ keep = true) : z.Keeps kp (s.lose d keep) := by
  unfold State.lose
  refine ite hk.loseTimebase (ite (hk.loseIntake _) (ite hk.loseLanes (ite hk.loseEngine ?_)))
  refine dite (fun h6 => ?_) fun _ => dite (fun h7 => ?_) fun _ => hk
  · exact if_pos (h.resolve_left (by omega)) ▸ hk
  · exact if_pos (h.resolve_left (by omega)) ▸ hk.loseQuay

theorem switchTo_low (hk : z.Keeps kp s) (hon : state ≠ dsOn) (h : d < 6 ∨ state = dsRetention) : z.Keeps kp (s.switchTo d state) := by
  have away := (hk.putDom d { s.dom d with step := 0, goal := none, dependant := false, injected := false }).put (F.DOM_STATE d) state
  unfold State.switchTo
  dsimp only
  rw [if_neg hon]
  exact ite (hk.putDom ..) (ite away (lose_low away (h.imp_right fun e => by simp [e])))

theorem powerDown_low (hk : z.Keeps kp s) : z.Keeps kp s.powerDown := by
  unfold State.powerDown
  repeat refine switchTo_low ?_ (by decide) (by decide)
  exact hk

end State.Keeps

namespace State

variable {s : State} {b : Boot}

theorem work_inj {s t : State} : s.work = t.work ↔ s.custody = t.custody ∧ s.prods = t.prods ∧ s.stats = t.stats ∧ s.berths = t.berths ∧
    s.get F.GLB_MODE_CAUSE_CAUSE = t.get F.GLB_MODE_CAUSE_CAUSE := by simp only [State.work, Prod.mk.injEq]

/-- The shutdown steps up to the point where they wait for the quays. -/
def stopped (s : State) : State :=
  let s := (s.setClosing true).setVisiting []
  let s := s.each (List.range 96) (fun n t => t.berthHalt n)
  let s := (s.feedOff 1).feedOff 2
  ((s.quayLeave).when (s.domOn 7) (·.put (F.DOM_STATE 7) dsSwitching)).landShow

theorem shutdown_of_open (h : s.closing = false) : s.shutdown = s.stopped.settle := by
  unfold State.shutdown
  rw [if_neg (by simp [h])]
  rfl

theorem stopped_awaits (s : State) : (s.setClosing true).Awaits false s.stopped := by
  have halted : (s.setClosing true).Awaits false (((s.setClosing true).setVisiting []).each (List.range 96) (fun n t => t.berthHalt n)) :=
    ((Awaits.refl ..).setVisiting _).each fun _ _ ht => ht.berthHalt _
  unfold State.stopped
  exact (Awaits.when (((halted.feedOff 1).feedOff 2).quayLeave) fun _ ht => ht.put _ _ nofun).landShow

theorem stopped_core (s : State) : s.stopped.core = s.core := by
  have halted : s.Keeps wholly (((s.setClosing true).setVisiting []).each (List.range 96) (fun n t => t.berthHalt n)) :=
    (((Keeps.refl ..).setClosing _).setVisiting _).each fun _ _ ht => ht.berthHalt _
  have fed := (halted.feedOff 1).feedOff 2
  unfold State.stopped
  dsimp only
  generalize (State.each _ _ _ |>.feedOff 1).feedOff 2 = u at fed
  have left : u.Spares noKey u.quayLeave := (Spares.refl ..).quayLeave
  have ends := (Keeps.refl wholly u.quayLeave).when (c := u.domOn 7) (g := (·.put (F.DOM_STATE 7) dsSwitching)) fun _ ht => ht.put _ _
  exact ends.landShow.core.trans (left.core.trans fed.core)

/-- Once the quays are still, the reset that waits takes place. -/
theorem settle_of_still (hc : s.closing = true) (hq : s.quaysStill = true) (hb : s.boot = some b) (he : b.ended = false) :
    s.settle = (s.powerDown.setClosing false).resetNow b := by
  have hboot : s.powerDown.boot = some b := (Awaits.refl false s).powerDown.boot.trans hb
  unfold State.settle
  rw [if_neg (by simp [hc, hq])]
  generalize s.powerDown = u at hboot
  have hboot : (u.setClosing false).boot = some b := hboot
  simp only [hboot, he, Bool.false_eq_true, if_false]

theorem settle_of_open (h : s.closing = false) : s.settle = s := by
  unfold State.settle
  rw [if_pos (by simp [h])]

/-! A reset that takes place. -/

/-- What a reset does to the accepted work, before it clears the blocks: a full one drops it, a warm one sends it again. -/
def workReset (s : State) (full : Bool) : State :=
  (s.when full (·.fullClear)).when (!full) fun s => s.setCustody (s.custody.map fun i => { i with replay := true })

theorem workReset_full (s : State) : s.workReset true = s.fullClear := by
  simp only [State.workReset, State.when, if_true, Bool.not_true, Bool.false_eq_true, if_false]

/-- The blocks and the registers are cleared. -/
def blocksReset (s : State) : State := (s.windStop.clearBlocks.setRegs (s.windStop.regs.filter fun e => s.windStop.outlives e.1)).testsEnd

/-- `t` is what the reset `b` makes of a state whose accepted work has become that of `u`. -/
structure ResetTo (b : Boot) (u t : State) : Prop where
  boot : t.boot = some { b with ended := true }
  closing : t.closing = false
  work : t.work = (u.custody, u.prods, u.stats, [], b.cause % 256)
  bit : t.get ⟨7, resetBit b.cause b.detail, 1⟩ = 1
  mode : t.mode = .wind
  slots : t.slots = u.slots
  epoch : t.epoch = u.epoch

theorem blocksReset_clear (u : State) :
    u.blocksReset.custody = u.custody ∧ u.blocksReset.prods = u.prods ∧ u.blocksReset.stats = u.stats ∧ u.blocksReset.berths = [] ∧
      u.blocksReset.closing = false := by
  have stopped := (Awaits.refl true u).windStop.work rfl
  have tested := (Awaits.refl true (u.windStop.clearBlocks.setRegs (u.windStop.regs.filter fun e => u.windStop.outlives e.1))).testsEnd
  have ended := tested.work rfl
  obtain ⟨custody, prods, stats, _⟩ := work_inj.1 stopped
  obtain ⟨custody', prods', stats', berths', _⟩ := work_inj.1 ended
  exact ⟨custody'.trans custody, prods'.trans prods, stats'.trans stats, berths', tested.closing⟩

theorem blocksReset_core (u : State) : u.blocksReset.core = u.core := by
  have stopped := ((Keeps.refl wholly u).windStop).core
  have ended := ((Keeps.refl wholly (u.windStop.clearBlocks.setRegs (u.windStop.regs.filter fun e => u.windStop.outlives e.1))).testsEnd).core
  exact ended.trans stopped

/-- Then the mode reads WIND, what outlives the reset is shown, and the scan of SURVEY ends. -/
def resetShown (s : State) (b : Boot) (scan : Bool) : State := ((s.showMode .wind b.old b.cause b.detail).showAfter).when scan (·.surveyLeft)

theorem resetShown_awaits (s : State) (b : Boot) (scan : Bool) : (s.showMode .wind b.old b.cause b.detail).Awaits true (s.resetShown b scan) := by
  unfold State.resetShown
  exact (Awaits.refl ..).showAfter.when fun _ ht => ht.surveyLeft

theorem resetShown_core (s : State) (b : Boot) (scan : Bool) : (s.resetShown b scan).core = (s.showMode .wind b.old b.cause b.detail).core := by
  unfold State.resetShown
  exact ((Keeps.refl wholly _).showAfter.when fun _ ht => ht.surveyLeft).core

theorem showMode_work (s : State) (m : Mode) (old cause detail : Nat) :
    (s.showMode m old cause detail).work = (s.custody, s.prods, s.stats, s.berths, cause % 256) := by
  have shows : (s.showMode m old cause detail).get F.GLB_MODE_CAUSE_CAUSE = cause % 256 := by
    simp [State.showMode, State.down, State.get_put, Fld.key, F.GLB_MODE_CAUSE_CAUSE, F.GLB_MODE_CAUSE_DETAIL, F.GLB_MODE_CMD_PENDING]
  exact shows ▸ rfl

/-- `GLB_RESET_CAUSE` shows one bit alone, and neither a deferred SURVEY nor a rebuild waits any more. -/
def causeShown (s : State) (k : Nat) : State :=
  ((s.each (List.range 6) fun i t => t.put ⟨0x0007, i, 1⟩ (b2n (i == k))).down F.GLB_MODE_SURVEY_DEFERRED).down F.HLD_CUSTODY_REBUILDING

theorem causeShown_get {k : Nat} (s : State) (hk : k < 6) : (s.causeShown k).get ⟨7, k, 1⟩ = 1 := by
  unfold State.causeShown State.each
  interval_cases k <;>
    simp [List.range, List.range.loop, State.get_put, State.down, Fld.key, b2n, F.GLB_MODE_SURVEY_DEFERRED, F.HLD_CUSTODY_REBUILDING]

theorem causeShown_work (s : State) (k : Nat) : (s.causeShown k).work = s.work := by
  have bits : s.Awaits true (s.each (List.range 6) fun i t => t.put ⟨0x0007, i, 1⟩ (b2n (i == k))) :=
    (Awaits.refl ..).each fun _ _ ht => ht.put _ _ fun _ => Nat.le_refl 7
  exact (work_put (by decide) _ _).trans ((work_put (by decide) _ _).trans (bits.work rfl))

theorem causeShown_core (s : State) (k : Nat) : (s.causeShown k).core = s.core := by
  unfold State.causeShown
  exact ((((Keeps.refl wholly s).each fun _ _ ht => ht.put _ _).down _).down _).core

theorem causeShown_closing (s : State) (k : Nat) : (s.causeShown k).closing = s.closing :=
  ((Awaits.refl true s).each (l := List.range 6) fun i _ ht => ht.put ⟨0x0007, i, 1⟩ (b2n (i == k)) fun _ => Nat.le_refl 7).closing

theorem resetBit_lt (cause detail : Nat) : resetBit cause detail < 6 := by
  unfold resetBit
  repeat' split
  all_goals decide

theorem resetNow_eq (s : State) (b : Boot) : s.resetNow b =
    (((s.workReset (b.rank == 2)).blocksReset.resetShown b (s.mode == .survey && !(b.rank == 2))).causeShown (resetBit b.cause b.detail)).setBoot
      (some { b with ended := true }) := rfl

theorem resetNow_to (s : State) (b : Boot) : ResetTo b (s.workReset (b.rank == 2)) (s.resetNow b) := by
  rw [resetNow_eq]
  obtain ⟨custody, prods, stats, berths, closing⟩ := blocksReset_clear (s.workReset (b.rank == 2))
  have kept := blocksReset_core (s.workReset (b.rank == 2))
  generalize (s.workReset (b.rank == 2)).blocksReset = v at *
  have shown := resetShown_awaits v b (s.mode == .survey && !(b.rank == 2))
  have winds := resetShown_core v b (s.mode == .survey && !(b.rank == 2))
  generalize v.resetShown b (s.mode == .survey && !(b.rank == 2)) = x at *
  have work := (causeShown_work x (resetBit b.cause b.detail)).trans ((shown.work rfl).trans (showMode_work ..))
  have core := (causeShown_core x (resetBit b.cause b.detail)).trans winds
  have shut := (causeShown_closing x (resetBit b.cause b.detail)).trans (shown.closing.trans closing)
  have bit := causeShown_get x (resetBit_lt b.cause b.detail)
  generalize x.causeShown (resetBit b.cause b.detail) = r at *
  rw [custody, prods, stats, berths] at work
  obtain ⟨mode, slots, _, _, _, _, _, _, _, _, epoch⟩ := steady_of_core core
  obtain ⟨_, slots', _, _, _, _, _, _, _, _, epoch'⟩ := steady_of_core kept
  exact ⟨rfl, shut, work, bit, mode, slots.trans slots', epoch.trans epoch'⟩

/-! The full reset's own clearing: the key slots, the accepted work, and the next epoch. -/

theorem eraseOne_slot (s : State) (i j source : Nat) : ((s.eraseOne i source).slot j).key = if j = i then none else (s.slot j).key := by
  have written (u : State) (v : Slot) : ((u.putSlot i v).slot j).key = if j = i then v.key else (u.slot j).key := by
    simp only [State.slot, State.putSlot, State.setSlots, Tbl.get_set]
    split <;> rfl
  by_cases h : (s.slot i).key.isSome = true
  · have e : s.eraseOne i source = (s.putSlot i ⟨none, 0, ((s.slot i).gen + 1) % 65536, [], none⟩).slotWritten i source 0x2401 := if_pos h
    rw [e, ← written s ⟨none, 0, ((s.slot i).gen + 1) % 65536, [], none⟩]
    exact congrArg (fun l => (Tbl.get (fun _ => Slot.reset) l j).key) ((Keeps.slotWritten (Keeps.refl wholly _) ..).keys rfl)
  · have e : s.eraseOne i source = s.putSlot i { s.slot i with pending := none } := if_neg h
    rw [e, written, Option.not_isSome_iff_eq_none.1 h]

theorem each_eraseOne_slot (l : List Nat) (s : State) (source j : Nat) (h : j ∈ l ∨ (s.slot j).key = none) :
    ((s.each l fun i t => t.eraseOne i source).slot j).key = none := by
  unfold State.each
  induction l generalizing s with
  | nil => exact h.resolve_left (by simp)
  | cons i l ih =>
    refine ih _ ?_
    rw [eraseOne_slot]
    split
    next => exact .inr rfl
    next hne => exact h.imp_left fun hm => (List.mem_cons.1 hm).resolve_left hne

/-- The key slots are empty. -/
def keysErased (s : State) : State := s.each (List.range 32) fun i t => t.eraseOne i srcSupervisor

/-- Accepted work is dropped. -/
def workDropped (s : State) : State :=
  { s with
    custody := [], prods := [], stats := [], bondReqs := [], relays := [], caps := [], outbox := [], schedule := [], landFifo := [], taken := [],
    refCount := ⟨false, false, 0, 0, false, 0⟩, rowsDue := [], flips := s.flips.filter fun e => !(memCleared (e.1 / 2 ^ 28)) }

/-- The channels to LAND hold nothing, no alert is active, and no reference is qualified. -/
def linksDropped (s : State) : State :=
  (((s.each (Tbl.keys s.landChans) fun c t => t.putChan c { t.chan c with item := none }).alertReset).down F.TB_REF_STATUS_REFIN_OK).down
    F.TB_REF_STATUS_TCXO_OK

theorem fullClear_eq (s : State) : s.fullClear = s.keysErased.workDropped.linksDropped.nextEpoch := rfl

theorem linksDropped_awaits (s : State) : s.Awaits true s.linksDropped := by
  unfold State.linksDropped
  exact ((((Awaits.refl ..).each fun _ _ ht => ht.putChan ..).alertReset).down _ fun _ => by decide).down _ fun _ => by decide

theorem linksDropped_core (s : State) : s.linksDropped.core = s.core := by
  unfold State.linksDropped
  exact (((((Keeps.refl wholly s).each fun _ _ ht => ht.putChan ..).alertReset).down _).down _).core

/-- The parts that the key slots' erasure and the next epoch keep. -/
def butKeys : Part → Bool
  | .keys => false
  | _ => true

def butEpoch : Part → Bool
  | .epoch => false
  | _ => true

theorem nextEpoch_epoch {s : State} (h : s.epoch % 65536 ≠ 0xFFFF) : s.nextEpoch.epoch = s.epoch + 1 := by
  unfold State.nextEpoch
  dsimp only
  rw [if_neg h]
  rfl

theorem fullClear_clears (s : State) :
    s.fullClear.custody = [] ∧ s.fullClear.prods = [] ∧ s.fullClear.stats = [] ∧ (∀ i < 32, (s.fullClear.slot i).key = none) ∧
      (s.epoch % 65536 ≠ 0xFFFF → s.fullClear.epoch = s.epoch + 1) := by
  have erased (i : Nat) (hi : i < 32) : (s.keysErased.slot i).key = none := each_eraseOne_slot _ s _ i (.inl (List.mem_range.2 hi))
  have epoch : s.keysErased.epoch = s.epoch :=
    Keeps.epoch (k := butKeys) (Keeps.each (Keeps.refl ..) fun _ _ ht => ht.eraseOne rfl _ _) rfl
  rw [fullClear_eq]
  generalize s.keysErased = e at *
  have work := (linksDropped_awaits e.workDropped).work rfl
  obtain ⟨_, slots, _, _, _, _, _, _, _, _, epoch'⟩ := steady_of_core (linksDropped_core e.workDropped)
  generalize e.workDropped.linksDropped = d at *
  have work' := (Awaits.refl true d).nextEpoch.work rfl
  have slots' := (Keeps.nextEpoch (kp := butEpoch) rfl (Keeps.refl _ d)).keys rfl
  have epochs (h : d.epoch % 65536 ≠ 0xFFFF) := nextEpoch_epoch h
  generalize d.nextEpoch = t at *
  obtain ⟨custody, prods, stats, _⟩ := work_inj.1 (work'.trans work)
  refine ⟨custody, prods, stats, fun i hi => ?_, fun h => ?_⟩
  · exact (congrArg (fun l => (Tbl.get (fun _ => Slot.reset) l i).key) (slots'.trans slots)).trans (erased i hi)
  · have old : d.epoch = s.epoch := epoch'.trans epoch
    exact old ▸ epochs (old ▸ h)

/-! The command words (R29). -/

/-- The register `GLB_MODE_CMD` (Table 2.3). -/
def regModeCmd : RDesc := ⟨0x0005, 0x1, 1, 1, [⟨8, 8, .wo, .live, 0⟩, ⟨0, 4, .wo, .live, 0⟩]⟩

/-- A confirmed command that the mode allows is accepted, and leaves nothing but its entry in the change journal. -/
theorem write_modeCmd {s : State} {c : Nat} (hst : s.stage = none) (hc : c < 16) (ha : s.cmdAllowed c = true) :
    ∃ old, s.write srcTwoWire 5 (0x5A00 + c) modeRule =
      (s.journal 5 (bits old 0 16) (bits (0x5A00 + c) 0 16) srcTwoWire resAccepted 0, some (old, 0x5A00 + c)) := by
  have passes : s.gated srcTwoWire 5 = false := by simp [State.gated, State.domOn, domainOf]
  have unbroken : s.classBreak srcTwoWire 5 regModeCmd (s.regValue regModeCmd 5) (0x5A00 + c) = none := rfl
  have confirmed : bits (0x5A00 + c) 8 8 = 0x5A := by simp only [bits]; omega
  have named : bits (0x5A00 + c) 0 4 = c := by simp only [bits]; omega
  have rule : modeRule s (s.regValue regModeCmd 5) (0x5A00 + c) = none := by
    unfold modeRule
    rw [confirmed, named, ha]
    rfl
  refine ⟨s.regValue regModeCmd 5, ?_⟩
  rw [State.write_one _ hst (show regAt (s.stdAt 5) 5 = some (regModeCmd, 5) from rfl) passes rfl, State.judge_ok unbroken rfl rule]
  have plain : s.shadows srcTwoWire 5 regModeCmd = false := by simp [State.shadows, regModeCmd]
  unfold State.acceptWrite
  rw [plain]
  rfl

theorem modeCommand_reset {s : State} {c : Nat} (hst : s.stage = none) (hc : c = 4 ∨ c = 5) (ha : s.cmdAllowed c = true) :
    ∃ u, s.Awaits false u ∧ u.core = s.core ∧ s.regWrite srcTwoWire 5 (0x5A00 + c) =
      if c = 4 then u.startReset cWarmCmd (b2n (u.mode == .anchor)) 6 true else u.startReset cFullCmd 0 2 true := by
  obtain ⟨old, written⟩ := write_modeCmd hst (by omega) ha
  refine ⟨s.journal 5 (bits old 0 16) (bits (0x5A00 + c) 0 16) srcTwoWire resAccepted 0, (Awaits.refl ..).journal .., ?_, ?_⟩
  · exact ((Keeps.refl wholly s).journal ..).core
  · show s.modeCommand srcTwoWire (0x5A00 + c) = _
    have named : bits (0x5A00 + c) 0 4 = c := by
      simp only [bits]
      omega
    unfold State.modeCommand
    rw [written]
    generalize s.journal 5 (bits old 0 16) (bits (0x5A00 + c) 0 16) srcTwoWire resAccepted 0 = u
    dsimp only
    rw [named, if_neg (by omega), if_neg (by omega), if_neg (by omega)]
    exact ite_congr rfl (fun _ => rfl) fun h => if_pos (hc.resolve_left h)

theorem quaysStill_of_quays {s t : State} (h : t.quays = s.quays) : t.quaysStill = s.quaysStill := by
  unfold State.quaysStill State.quay
  rw [h]

/-- The reset by command begins (R31): the command is pending, and the reset waits. -/
theorem startReset_warm {s : State} (hb : s.boot = none) (hc : s.closing = false) (hq : s.quaysStill = true) :
    ∃ v : State, v.core = s.core ∧ ResetTo ⟨cWarmCmd, 0, 6, s.mode.code, true, false⟩ (v.workReset false) (s.startReset cWarmCmd 0 6 true) := by
  have left : s.modeLeft = s.mode.code := by unfold State.modeLeft; rw [hb]
  have kept : s.dropCommand = s := by unfold State.dropCommand; rw [hb]
  have begins : s.startReset cWarmCmd 0 6 true =
      ((s.setBoot (some ⟨cWarmCmd, 0, 6, s.mode.code, true, false⟩)).up F.GLB_MODE_CMD_PENDING).shutdown.settle := by
    unfold State.startReset
    rw [kept, left]
    dsimp only
    rw [if_neg (by decide)]
    rfl
  generalize hB : (⟨cWarmCmd, 0, 6, s.mode.code, true, false⟩ : Boot) = b at *
  have pending : ((s.setBoot (some b)).up F.GLB_MODE_CMD_PENDING).core = s.core := rfl
  have waits : ((s.setBoot (some b)).up F.GLB_MODE_CMD_PENDING).boot = some b := rfl
  have unshut : ((s.setBoot (some b)).up F.GLB_MODE_CMD_PENDING).closing = false := hc
  have still : ((s.setBoot (some b)).up F.GLB_MODE_CMD_PENDING).quaysStill = true := hq
  generalize (s.setBoot (some b)).up F.GLB_MODE_CMD_PENDING = x at *
  have awaits := stopped_awaits x
  have stopped := stopped_core x
  have settled := settle_of_still awaits.closing ((quaysStill_of_quays awaits.quays).trans still) (awaits.boot.trans waits) (hB ▸ rfl)
  have down := ((Keeps.refl wholly x.stopped).powerDown_low.setClosing false).core
  have reset := resetNow_to (x.stopped.powerDown.setClosing false) b
  refine ⟨_, down.trans (stopped.trans pending), ?_⟩
  rw [begins, shutdown_of_open unshut, settled, settle_of_open reset.closing]
  subst hB
  exact reset

theorem startReset_full (s : State) :
    ∃ v : State, v.core = s.core ∧ ResetTo ⟨cFullCmd, 0, 2, s.modeLeft, true, false⟩ (v.workReset true) (s.startReset cFullCmd 0 2 true) :=
  ⟨((s.dropCommand).setBoot (some ⟨cFullCmd, 0, 2, s.modeLeft, true, false⟩)).up F.GLB_MODE_CMD_PENDING,
    ((((Keeps.refl wholly s).dropCommand).setBoot _).up _).core, resetNow_to ..⟩

/-- The end of the command leaves a reset that took place as it is. -/
theorem ResetTo.finish {b : Boot} {u r : State} (h : ResetTo b u r) (s : State) :
    (s.finish r).boot = some { b with ended := true } ∧ (s.finish r).mode = .wind ∧ (s.finish r).slots = u.slots ∧ (s.finish r).epoch = u.epoch ∧
      (s.finish r).custody = u.custody ∧ (s.finish r).prods = u.prods ∧ (s.finish r).stats = u.stats ∧
      (s.finish r).get F.GLB_MODE_CAUSE_CAUSE = b.cause % 256 ∧ (s.finish r).get ⟨7, resetBit b.cause b.detail, 1⟩ = 1 := by
  have work := h.work
  simp only [State.work, Prod.mk.injEq] at work
  obtain ⟨custody, prods, stats, berths, cause⟩ := work
  have calm : r.Calm := .inl fun e he => absurd (berths ▸ he) List.not_mem_nil
  obtain ⟨e, _⟩ := State.finish_rest s calm
  have bit : (⟨7, resetBit b.cause b.detail, 1⟩ : Fld).key ∉ shownKeys := by
    have lt := resetBit_lt b.cause b.detail
    generalize resetBit b.cause b.detail = k at lt ⊢
    interval_cases k <;> decide
  exact ⟨(congrArg State.boot e).trans h.boot, (congrArg State.mode e).trans h.mode, (congrArg State.slots e).trans h.slots,
    (congrArg State.epoch e).trans h.epoch, (congrArg State.custody e).trans custody, (congrArg State.prods e).trans prods,
    (congrArg State.stats e).trans stats, (State.get_finish calm (by decide)).trans cause, (State.get_finish calm bit).trans h.bit⟩

end State

/-- What both reset commands leave as it is (R45). -/
theorem exec_lasting {c : Instr} {s t : State} (he : exec c s = .next t) (hc : c = .rewind 0x5A#8 ∨ c = .fullReset 0x5A#8) :
    t.kek = s.kek ∧ t.calTable = s.calTable ∧ t.rowMap = s.rowMap ∧ t.sec = s.sec ∧ t.ns = s.ns := by
  have kept := exec_keeps he
  rcases hc with rfl | rfl <;> exact ⟨kept.kek rfl, kept.cal rfl, kept.rows rfl, kept.time rfl⟩

/-- Settles O19: the word is accepted, the reset begins by it and takes place within the command, and its end adds nothing (R44, R45). -/
theorem resetCommands : Obligations.ResetCommands := by
  intro s hd hp hst
  refine ⟨fun hserv hb hc hq => ?_, fun hr => ?_⟩
  · have he : exec (.rewind 0x5A#8) s = .next (s.finish (s.regWrite srcTwoWire 5 (0x5A00 + 4))) := exec_rewind 0x5A#8 s hd hp
    obtain ⟨kek, cal, rows, sec, ns⟩ := exec_lasting he (.inl rfl)
    have allowed : s.cmdAllowed 4 = true := by simp [State.cmdAllowed, State.ranks, hb, hserv, hc]
    obtain ⟨u, awaits, core, written⟩ := State.modeCommand_reset hst (.inl rfl) allowed
    obtain ⟨mode, slots, _, _, _, _, _, _, _, _, epoch⟩ := State.steady_of_core core
    have served : b2n (u.mode == .anchor) = 0 := by
      rw [mode]
      revert hserv
      simp only [State.serving]
      cases s.mode <;> decide
    have still := (State.quaysStill_of_quays awaits.quays).trans hq
    obtain ⟨v, core', reset⟩ := State.startReset_warm (awaits.boot.trans hb) (awaits.closing.trans hc) still
    obtain ⟨_, slots', _, _, _, _, _, _, _, _, epoch'⟩ := State.steady_of_core core'
    rw [if_pos rfl, served] at written
    rw [← written] at reset
    obtain ⟨boot, wind, slots'', epoch'', custody, _, _, cause, bit⟩ := reset.finish s
    refine ⟨_, he, wind, mode ▸ boot, cause, bit, ?_, ?_, kek, cal, rows, sec, ns, fun i hi => ?_⟩
    · exact epoch''.trans (epoch'.trans epoch)
    · exact slots''.trans (slots'.trans slots)
    · obtain ⟨j, _, rfl⟩ := List.mem_map.1 ((show i ∈ v.custody.map _ from custody ▸ hi))
      rfl
  · have he : exec (.fullReset 0x5A#8) s = .next (s.finish (s.regWrite srcTwoWire 5 (0x5A00 + 5))) := exec_fullReset 0x5A#8 s hd hp
    obtain ⟨kek, cal, rows, sec, ns⟩ := exec_lasting he (.inr rfl)
    have allowed : s.cmdAllowed 5 = true := by simp [State.cmdAllowed, hr]
    obtain ⟨u, awaits, core, written⟩ := State.modeCommand_reset hst (.inr rfl) allowed
    obtain ⟨mode, _, _, _, _, _, _, _, _, _, epoch⟩ := State.steady_of_core core
    obtain ⟨v, core', reset⟩ := State.startReset_full u
    obtain ⟨_, _, _, _, _, _, _, _, _, _, epoch'⟩ := State.steady_of_core core'
    rw [if_neg (by decide)] at written
    rw [← written, State.workReset_full] at reset
    obtain ⟨boot, wind, slots, epoch'', custody, prods, stats, cause, bit⟩ := reset.finish s
    obtain ⟨dropped, prods', stats', erased, next⟩ := State.fullClear_clears v
    refine ⟨_, he, wind, ?_, fun hb => ?_, cause, bit, fun h => ?_, custody.trans dropped, prods.trans prods', stats.trans stats',
      fun i hi => ?_, kek, cal, rows, sec, ns⟩
    · exact boot.trans (by rw [boot]; rfl)
    · have left : u.modeLeft = s.mode.code := by
        unfold State.modeLeft
        rw [awaits.boot.trans hb, mode]
      rw [boot]
      exact congrArg some left
    · have same : v.epoch = s.epoch := epoch'.trans epoch
      exact epoch''.trans ((next (same ▸ h)).trans (same ▸ rfl))
    · exact (congrArg (fun l => (Tbl.get (fun _ => Slot.reset) l i).key) slots).trans (erased i hi)

end Sys2Proof.Machine

/-! The canonical form under every step (O3). -/

namespace Sys2Proof.Machine

/-- Settles O3: what a command keeps is `exec_keeps`, and what a tick keeps `State.Keeps.tick`; the form is part of both. -/
theorem formKept : Obligations.FormKept := by
  unfold Obligations.FormKept
  intro s t h e
  unfold step at e
  split at e
  next =>
    have kept : s.Keeps (fun _ => false) s.tick := .tick rfl rfl rfl rfl (.refl _ s)
    exact Host.Outcome.next.inj e ▸ kept.formed h
  next c rest _ =>
    have waits : (s.setPending rest).Formed := h
    exact (exec_keeps e).formed waits

end Sys2Proof.Machine

/-! A device in which the selection of a journal entry leads to the boundary of a quay: it refutes O10. -/

namespace Sys2Proof.Machine

/-- An armed change of a quay's COMMIT block that names `JNL_SELECT`, a register outside every block. No write leaves one, and the statement of O10,
which is about every settled state, does not exclude it. -/
def straySelect : Shadow := { commit := quayCommit 0, fld := F.JNL_SELECT_NUMBER, val := 0, armed := true }

/-- The first word of the key store. -/
def keyWord : Nat := wordAddr 5 0 0 0

/-- The change journal's entry number 1. -/
def firstEntry : JEntry := { ts := 0, address := 0, old := 0, new := 0, source := srcTwoWire, result := resAccepted, detail := 0, number := 1, epoch := 1 }

/-- `strayIn .run` with QUAY on and `straySelect` armed. Its change journal holds `firstEntry`, a read has damaged the word of that entry, which is
said to be `keyWord` with three wrong bits, and the low word of `JNL_SELECT` is staged with the entry's number. -/
def State.straySelected : State :=
  ({ (State.strayIn .run).put (F.DOM_STATE 7) dsOn with
      shadow := [straySelect], jnl := [firstEntry], jnlCount := 1, damaged := [(.change 1, keyWord)], flips := [(keyWord, 7)],
      stage := some ⟨0x2802, [(0, 1)]⟩ }).shown

theorem State.settled_straySelected : State.straySelected.Settled := by
  unfold State.Settled State.Shows State.Calm
  decide +kernel

/-- Refutes O10: the read of the damaged word is uncorrectable and raises the security alarm of the key store (R349, R394); the shutdown steps of the
entry into ANCHOR apply `straySelect` at the boundary of quay 0 (R41, R59), and `JNL_SELECT` no longer holds the number written. -/
theorem not_journalWindows : ¬ Obligations.JournalWindows := by
  intro h
  obtain ⟨select, _⟩ := h State.straySelected State.settled_straySelected rfl rfl
  obtain ⟨t, ht, hnumber, _⟩ := select 0#16 1 (by decide) rfl (by decide +kernel)
  rw [exec_jnlSelectWrite _ _ rfl rfl] at ht
  obtain rfl := Host.Outcome.next.inj ht
  have hcalm : (State.straySelected.regWrite srcTwoWire 0x2803 (0#16).toNat).Calm := .inl (by decide +kernel)
  rw [State.get_finish hcalm (by decide)] at hnumber
  revert hnumber
  decide +kernel

end Sys2Proof.Machine

/-! The COMMIT registers: their form, where they stand, and what an accepted word of one leaves (R60, Table 3.16). -/

namespace Sys2Proof.Machine

/-- The fields of every COMMIT register: PENDING, GROUP_OPEN, ABORT, GO and OPEN. -/
def commitFields : List FDesc :=
  [⟨15, 1, .ro, .none, 0⟩, ⟨14, 1, .ro, .none, 0⟩, ⟨2, 1, .wo, .live, 0⟩, ⟨1, 1, .wo, .live, 0⟩, ⟨0, 1, .wo, .live, 0⟩]

/-- The first address of each set of COMMIT registers. -/
def commitBases : List Nat := [0x45, 0x104, 0x407, 0x428, 0x2004, 0x2107, 0x2201, 0x230D, 0x244A, 0x2501, 0x300E]

/-- Every register of a berth's window stands 0x40 apart within the window; the COMMIT registers are at 0x07 and 0x28. -/
theorem regsBerth_form : ∀ r ∈ regsBerth, r.stride = 0x40 ∧ 0x400 ≤ r.base ∧ r.base + r.words ≤ 0x440 ∧
    (r.base ≤ 0x407 → 0x407 < r.base + r.words → r = ⟨0x407, 0x40, 96, 1, commitFields⟩) ∧
    (r.base ≤ 0x428 → 0x428 < r.base + r.words → r = ⟨0x428, 0x40, 96, 1, commitFields⟩) := by
  decide

/-- No COMMIT register is a service word. -/
theorem isCommit_not_service {a : Nat} (h : isCommit a = true) :
    (Nat.ble 0x400 a && Nat.blt a 0x1C00 && Nat.ble 8 ((a - 0x400) % 0x40) && Nat.blt ((a - 0x400) % 0x40) 0x10) = false := by
  simp only [isCommit, Bool.or_eq_true, Bool.and_eq_true, beq_iff_eq, Nat.ble_eq, Nat.blt_eq] at h
  rw [Bool.eq_false_iff]
  simp only [ne_eq, Bool.and_eq_true, Nat.ble_eq, Nat.blt_eq]
  omega

/-- A COMMIT register of a berth or of its lane. -/
theorem regAt_berthCommit (std : Nat) {a b : Nat} (hb : b = 0x407 ∨ b = 0x428) (h1 : 0x400 ≤ a) (h2 : a < 0x1C00)
    (ho : (a - 0x400) % 0x40 = b - 0x400) (hc : isCommit a = true) : regAt std a = some (⟨b, 0x40, 96, 1, commitFields⟩, a) := by
  have found := regAt_isSome_of_isCommit std hc
  unfold regAt at found ⊢
  simp only [isCommit_not_service hc, Bool.false_eq_true, if_false, blockOf_berth h1 h2, Option.isSome_map] at found ⊢
  obtain ⟨r, hr⟩ := Option.isSome_iff_exists.1 found
  obtain ⟨stride, low, high, lane, berth⟩ := regsBerth_form r (List.mem_of_find?_eq_some hr)
  have covers : r.covers a = true := List.find?_some (p := fun x : RDesc => x.covers a) hr
  simp only [RDesc.covers, stride, Bool.and_eq_true, Nat.ble_eq, Nat.blt_eq] at covers
  obtain ⟨⟨above, -⟩, within⟩ := covers
  have same : r = ⟨b, 0x40, 96, 1, commitFields⟩ := by
    rcases hb with rfl | rfl
    · exact lane (by omega) (by omega)
    · exact berth (by omega) (by omega)
  subst same
  rw [hr]
  simp only [Option.map_some, Option.some.injEq, Prod.mk.injEq, true_and]
  simp only at above within ⊢
  omega

/-- Every COMMIT register is one word of the form of Table 3.16. -/
theorem regAt_commit (std : Nat) {a : Nat} (h : isCommit a = true) :
    ∃ b ∈ commitBases, ∃ stride count, regAt std a = some (⟨b, stride, count, 1, commitFields⟩, a) := by
  have hc := h
  simp only [isCommit, Bool.or_eq_true, Bool.and_eq_true, beq_iff_eq, Nat.ble_eq, Nat.blt_eq] at h
  rcases h with (((((((((rfl | rfl) | rfl) | rfl) | rfl) | rfl) | ⟨⟨h1, h2⟩, ho⟩) | ⟨⟨h1, h2⟩, ho⟩) | ⟨⟨h1, h2⟩, ho⟩) | ⟨⟨h1, h2⟩, ho⟩)
  iterate 6 exact ⟨_, by decide, _, _, rfl⟩
  · rcases ho with ho | ho
    · exact ⟨0x407, by decide, _, _, regAt_berthCommit std (.inl rfl) h1 h2 ho hc⟩
    · exact ⟨0x428, by decide, _, _, regAt_berthCommit std (.inr rfl) h1 h2 ho hc⟩
  · obtain rfl | rfl | rfl | rfl : a = 0x2107 ∨ a = 0x2117 ∨ a = 0x2127 ∨ a = 0x2137 := by omega
    all_goals exact ⟨0x2107, by decide, _, _, rfl⟩
  · obtain rfl | rfl | rfl | rfl : a = 0x230D ∨ a = 0x231D ∨ a = 0x232D ∨ a = 0x233D := by omega
    all_goals exact ⟨0x230D, by decide, _, _, rfl⟩
  · obtain rfl | rfl | rfl | rfl | rfl | rfl | rfl | rfl : a = 0x244A ∨ a = 0x245A ∨ a = 0x246A ∨ a = 0x247A ∨ a = 0x248A ∨ a = 0x249A ∨
        a = 0x24AA ∨ a = 0x24BA := by omega
    all_goals exact ⟨0x244A, by decide, _, _, rfl⟩

/-- No COMMIT register is a journal's register or a key-entry word, and none is a register whose write is an operation of another kind. -/
theorem isCommit_apart {a : Nat} (h : isCommit a = true) :
    a ≠ 5 ∧ inR 0x10 0x12 a = false ∧ a ≠ 0x81 ∧ inR 0x89 0x8B a = false ∧ a ≠ 0x105 ∧ a ≠ 0x106 ∧ inR 0x154 0x156 a = false ∧
      a ≠ 0x260 ∧ a ≠ 0x270 ∧ (0x400 ≤ a → a < 0x1C00 → (a - 0x400) % 0x40 ≠ 0xE) ∧ (a < 0x2404 ∨ 0x2430 ≤ a) ∧ (a < 0x2800 ∨ 0x2900 ≤ a) := by
  simp only [isCommit, Bool.or_eq_true, Bool.and_eq_true, beq_iff_eq, Nat.ble_eq, Nat.blt_eq] at h
  simp only [inR, Bool.eq_false_iff, ne_eq, Bool.and_eq_true, Nat.ble_eq]
  omega

/-- A write of a COMMIT register is an operation on the block's group. -/
theorem State.regWrite_commit (s : State) (src w : Nat) {a : Nat} (h : isCommit a = true) : s.regWrite src a w = s.commitWrite src a w := by
  obtain ⟨h5, h10, h81, h89, h105, h106, h154, h260, h270, hfade, -, -⟩ := isCommit_apart h
  have hf : (Nat.ble 0x400 a && Nat.blt a 0x1C00 && decide ((a - 0x400) % 0x40 = 0xE) && inR 1 4 (s.std (berthOf a))) = false := by
    rw [Bool.eq_false_iff]
    simp only [ne_eq, Bool.and_eq_true, Nat.ble_eq, Nat.blt_eq, decide_eq_true_eq]
    exact fun ⟨⟨⟨h1, h2⟩, ho⟩, _⟩ => hfade h1 h2 ho
  unfold State.regWrite
  simp [h5, h10, h81, h89, h105, h106, h154, h260, h270, hf, h]

/-- An access to a COMMIT register is journaled with its value (R63, R64, R327). -/
theorem State.journalWrite_commit (s : State) (src old new res : Nat) {a : Nat} (h : isCommit a = true) :
    s.journalWrite src a old new res = s.journal a old new src res 0 := by
  obtain ⟨-, -, -, -, -, -, -, -, -, -, hkey, hjnl⟩ := isCommit_apart h
  have h1 : unjournaled a = false := by
    rw [Bool.eq_false_iff]
    simp only [unjournaled, ne_eq, Bool.and_eq_true, Nat.ble_eq, Nat.blt_eq]
    omega
  have h2 : keyEntry a = false := by
    rw [Bool.eq_false_iff]
    simp only [keyEntry, inR, ne_eq, Bool.or_eq_true, Bool.and_eq_true, Nat.ble_eq]
    omega
  unfold State.journalWrite
  simp only [h1, h2, Bool.false_eq_true, if_false]

/-- A word leaves the fields of a COMMIT register as they are. -/
theorem State.each_writeField_commit (s : State) (src a w : Nat) : s.each commitFields (fun f t => t.writeField src a f w) = s := rfl

/-- A word of a COMMIT register breaks no class rule, and none of its values is reserved. -/
theorem State.judge_commit {s : State} {a w : Nat} {rule : Rule} (h : isCommit a = true) (hw : w < 65536) {b stride count : Nat}
    (hb : b ∈ commitBases) (hreg : regAt (s.stdAt a) a = some (⟨b, stride, count, 1, commitFields⟩, a)) (hr : ∀ old, rule s old w = none) :
    ∃ old, s.judge srcTwoWire a a ⟨b, stride, count, 1, commitFields⟩ w rule =
      (s.journal a (s.wordAt a) w srcTwoWire resAccepted 0, some (old, w)) := by
  have hcl (old : Nat) : s.classBreak srcTwoWire a ⟨b, stride, count, 1, commitFields⟩ old w = none := rfl
  have hl : legal (s.stdAt a) ⟨b, stride, count, 1, commitFields⟩ a w = true := by
    unfold legal
    rw [if_neg (by simp only [isCommit_not_service h, Bool.false_eq_true, not_false_eq_true])]
    simp only [commitBases, List.mem_cons, List.not_mem_nil, or_false] at hb
    rcases hb with rfl | rfl | rfl | rfl | rfl | rfl | rfl | rfl | rfl | rfl | rfl <;> rfl
  have unshaded : s.shadows srcTwoWire a ⟨b, stride, count, 1, commitFields⟩ = false := Bool.and_false _
  have whole : bits w 0 16 = w := by simp only [bits]; omega
  refine ⟨_, (State.judge_ok (hcl _) hl (hr _)).trans (congrArg (·, _) ?_)⟩
  unfold State.acceptWrite
  rw [unshaded]
  simp only [Bool.false_eq_true, if_false, List.range_one, List.foldl_cons, List.foldl_nil, Nat.add_zero, Nat.mul_zero, whole,
    State.journalWrite_commit _ _ _ _ _ h, State.each_writeField_commit, State.wordAt_of_regAt hreg, Nat.sub_self]

/-- A word of a COMMIT register that no rule of its block refuses leaves its entry. -/
theorem State.write_commit {s : State} {a w : Nat} (hst : s.stage = none) (h : isCommit a = true) (hg : s.gated srcTwoWire a = false)
    (hw : w < 65536) (hr : ∀ old, commitRule a s old w = none) :
    ∃ old, s.write srcTwoWire a w (commitRule a) = (s.journal a (s.wordAt a) w srcTwoWire resAccepted 0, some (old, w)) := by
  obtain ⟨b, hb, stride, count, hreg⟩ := regAt_commit (s.stdAt a) h
  rw [State.write_one w hst hreg hg rfl]
  exact State.judge_commit h hw hb hreg hr

/-- A word that asks for one operation is refused only where a rule of its block refuses the GO of an open group, and AF_COMMIT in SURVEY (R60,
R442). -/
theorem commitRule_none {s : State} {a w : Nat} (hsurvey : ¬(a = 0x300E ∧ s.mode = .survey))
    (hone : (bit w 0 && bit w 1 || bit w 0 && bit w 2 || bit w 1 && bit w 2) = false) (hgo : bit w 1 = false ∨ s.groupFails a = false) (old : Nat) :
    commitRule a s old w = none := by
  have away : (decide (a = 0x300E) && s.mode == .survey) = false := by
    rw [Bool.eq_false_iff]
    simpa only [ne_eq, Bool.and_eq_true, decide_eq_true_eq, beq_iff_eq] using hsurvey
  have passes : (bit w 1 && s.on (fGroup a) && s.groupFails a) = false := by
    rcases hgo with h | h <;> simp only [h, Bool.false_and, Bool.and_false]
  unfold commitRule
  simp only [away, hone, passes, Bool.false_eq_true, if_false]

/-- The state with the entry of an accepted word of a COMMIT register. -/
def State.commitEntry (s : State) (a w : Nat) : State := s.journal a (s.wordAt a) w srcTwoWire resAccepted 0

/-- An accepted word of a COMMIT register leaves its entry and does what its bits ask (R60). -/
theorem State.commitWrite_accepted {s : State} {a w : Nat} (hst : s.stage = none) (h : isCommit a = true) (hg : s.gated srcTwoWire a = false)
    (hw : w < 65536) (hr : ∀ old, commitRule a s old w = none) :
    s.commitWrite srcTwoWire a w =
      if bit w 0 then
        if (s.commitEntry a w).on (fGroup a) then s.commitEntry a w
        else ((s.commitEntry a w).up (fGroup a)).setGroupOf ((s.commitEntry a w).groupOf ++ (s.commitEntry a w).groupItem a)
      else if bit w 1 then
        if (s.commitEntry a w).on (fGroup a) then ((s.commitEntry a w).armGroup a).blockShow s a else s.commitEntry a w
      else if bit w 2 then (s.commitEntry a w).abortGroup a
      else s.commitEntry a w := by
  obtain ⟨old, written⟩ := State.write_commit hst h hg hw hr
  unfold State.commitWrite
  rw [written]
  rfl

/-! What the entry leaves, and the end of an operation on a group. -/

theorem State.commitEntry_rest (s : State) (a w : Nat) : s.commitEntry a w = { s with
    regs := (s.commitEntry a w).regs, jnl := (s.commitEntry a w).jnl, jnlCount := (s.commitEntry a w).jnlCount,
    jnlLost := (s.commitEntry a w).jnlLost } := by
  unfold State.commitEntry
  rw [State.journal_rest]

/-- The entry shows in fields of the journal's own registers only. -/
theorem State.get_commitEntry (s : State) (a w : Nat) {f : Fld} (hf : f.key ∉ [F.JNL_NEWEST_NUMBER.key, F.JNL_STATUS_UNREAD_LOST.key]) :
    (s.commitEntry a w).get f = s.get f := by
  simp only [List.mem_cons, List.not_mem_nil, or_false, not_or] at hf
  exact State.get_journal _ _ _ _ _ _ _ hf.1 hf.2

/-- GROUP_OPEN is neither a field of the journal's registers nor one that every command's end shows. -/
theorem fGroup_apart (a : Nat) : (fGroup a).key ∉ [F.JNL_NEWEST_NUMBER.key, F.JNL_STATUS_UNREAD_LOST.key] ++ shownKeys := by
  have low : ∀ k ∈ [F.JNL_NEWEST_NUMBER.key, F.JNL_STATUS_UNREAD_LOST.key] ++ shownKeys, k % 16 ≠ 14 := by decide
  exact fun h => low _ h (by simp only [Fld.key, fGroup]; omega)

theorem State.commitEntry_group (s : State) (a w : Nat) : (s.commitEntry a w).on (fGroup a) = s.on (fGroup a) := by
  unfold State.on
  rw [State.get_commitEntry s a w fun h => fGroup_apart a (List.mem_append_left _ h)]

theorem State.commitEntry_groupOf (s : State) (a w : Nat) : (s.commitEntry a w).groupOf = s.groupOf := by rw [State.commitEntry_rest]

theorem State.commitEntry_shadow (s : State) (a w : Nat) : (s.commitEntry a w).shadow = s.shadow := by rw [State.commitEntry_rest]

theorem State.commitEntry_groupItem (s : State) (a w c : Nat) : (s.commitEntry a w).groupItem c = s.groupItem c := by
  unfold State.groupItem
  rw [State.get_commitEntry s a w (by decide), State.get_commitEntry s a w (by decide)]

/-- The end of a command that leaves, beside the entry, shadows, group items and register fields only. -/
theorem State.changes_commit {s t : State} {l : List Fld} {a w : Nat} (hs : s.Settled) (sh : List Shadow) (gr : List (Nat × Nat))
    (hr : (((s.commitEntry a w).setShadow sh).setGroupOf gr).regsOnly t) (hk : ∀ k ∈ shownKeys, k ∉ l.map Fld.key) (hb : State.fieldsBut l s t) :
    s.changes l (((s.commitEntry a w).setShadow sh).setGroupOf gr) (s.finish t) ∧ ∀ f : Fld, f.key ∉ shownKeys → (s.finish t).get f = t.get f := by
  have calm : (((s.commitEntry a w).setShadow sh).setGroupOf gr).Calm := by
    rw [State.commitEntry_rest]
    exact hs.2
  refine ⟨State.changes_finish hs.1 calm hr ?_ ?_ ?_ ?_ hk hb, fun f hf => State.get_finish (hr.calm calm) hf⟩
  all_goals
    rw [State.commitEntry_rest]
    rfl

theorem State.fieldsBut.commitEntry {l : List Fld} (s : State) (a w : Nat) (h1 : F.JNL_NEWEST_NUMBER.key ∈ l.map Fld.key)
    (h2 : F.JNL_STATUS_UNREAD_LOST.key ∈ l.map Fld.key) : State.fieldsBut l s (s.commitEntry a w) :=
  (State.fieldsBut.refl l s).journal _ _ _ _ _ _ h1 h2

/-- The fields that an operation on a group changes are not shown at the end of every command. -/
theorem shownKeys_group (a : Nat) {l : List Fld} (hl : ∀ k ∈ shownKeys, k ∉ l.map Fld.key) :
    ∀ k ∈ shownKeys, k ∉ (l ++ [fGroup a, F.JNL_NEWEST_NUMBER, F.JNL_STATUS_UNREAD_LOST]).map Fld.key := by
  intro k hk
  have journal : ∀ k ∈ shownKeys, k ≠ F.JNL_NEWEST_NUMBER.key ∧ k ≠ F.JNL_STATUS_UNREAD_LOST.key := by decide
  simp only [List.map_append, List.map_cons, List.map_nil, List.mem_append, List.mem_cons, List.not_mem_nil, or_false, not_or]
  exact ⟨hl k hk, fun e => fGroup_apart a (List.mem_append_right _ (e ▸ hk)), journal k hk⟩

/-- OPEN at the end of its command: the group is open, for the item that the selector names (R60, R279, R441). -/
theorem State.finish_open {s : State} {a : Nat} (hs : s.Settled) (hst : s.stage = none) (h : isCommit a = true)
    (hg : s.gated srcTwoWire a = false) (hsurvey : ¬(a = 0x300E ∧ s.mode = .survey)) (hclosed : s.on (fGroup a) = false) :
    let t := s.finish (s.regWrite srcTwoWire a 1)
    t.get (fGroup a) = 1 ∧ s.changes [fGroup a, F.JNL_NEWEST_NUMBER, F.JNL_STATUS_UNREAD_LOST]
      ((s.commitEntry a 1).setGroupOf (s.groupOf ++ s.groupItem a)) t := by
  rw [State.regWrite_commit s _ _ h, State.commitWrite_accepted hst h hg (by decide) (commitRule_none hsurvey rfl (.inl rfl)),
    if_pos (show bit 1 0 = true from rfl), State.commitEntry_group, hclosed, if_neg Bool.false_ne_true, State.commitEntry_groupOf,
    State.commitEntry_groupItem]
  have fields : State.fieldsBut [fGroup a, F.JNL_NEWEST_NUMBER, F.JNL_STATUS_UNREAD_LOST] s
      (((s.commitEntry a 1).up (fGroup a)).setGroupOf (s.groupOf ++ s.groupItem a)) :=
    ((State.fieldsBut.commitEntry s a 1 (by simp) (by simp)).up (by simp)).setGroupOf _
  obtain ⟨frame, reads⟩ := State.changes_commit hs (s.commitEntry a 1).shadow (s.groupOf ++ s.groupItem a)
    ((State.regsOnly.refl _).up (fGroup a)) (shownKeys_group a (l := []) (by simp)) fields
  refine ⟨(reads _ fun hk => fGroup_apart a (List.mem_append_right _ hk)).trans ?_, frame⟩
  rw [State.get_up, if_pos rfl]
  rfl

/-- ABORT at the end of its command: the group is closed, and what it collected is gone (R60). -/
theorem State.finish_abort {s : State} {a : Nat} (hs : s.Settled) (hst : s.stage = none) (h : isCommit a = true)
    (hg : s.gated srcTwoWire a = false) (hsurvey : ¬(a = 0x300E ∧ s.mode = .survey)) :
    let t := s.finish (s.regWrite srcTwoWire a 4)
    t.get (fGroup a) = 0 ∧ s.changes [fGroup a, F.JNL_NEWEST_NUMBER, F.JNL_STATUS_UNREAD_LOST]
      (((s.commitEntry a 4).setShadow (s.shadow.filter (fun x => !(x.commit == a && !x.armed)))).setGroupOf (s.groupOf.filter (·.1 != a))) t := by
  rw [State.regWrite_commit s _ _ h, State.commitWrite_accepted hst h hg (by decide) (commitRule_none hsurvey rfl (.inl rfl)),
    if_neg (show ¬ bit 4 0 = true by decide), if_neg (show ¬ bit 4 1 = true by decide), if_pos (show bit 4 2 = true from rfl), State.abortGroup,
    State.commitEntry_shadow, State.commitEntry_groupOf]
  have fields : State.fieldsBut [fGroup a, F.JNL_NEWEST_NUMBER, F.JNL_STATUS_UNREAD_LOST] s
      (((s.commitEntry a 4).setShadow (s.shadow.filter (fun x => !(x.commit == a && !x.armed)))).setGroupOf
        (s.groupOf.filter (·.1 != a)) |>.down (fGroup a)) :=
    (((State.fieldsBut.commitEntry s a 4 (by simp) (by simp)).setShadow _).setGroupOf _).down (by simp)
  obtain ⟨frame, reads⟩ := State.changes_commit hs _ _ ((State.regsOnly.refl _).down (fGroup a)) (shownKeys_group a (l := []) (by simp)) fields
  refine ⟨(reads _ fun hk => fGroup_apart a (List.mem_append_right _ hk)).trans ?_, frame⟩
  rw [State.get_down, if_pos rfl]

/-! The beats of the crane classes (R153). -/

/-- The length of a class's beat. -/
def fBeat (cls : Nat) : Fld := ⟨0x40 + cls, 0, 8⟩

theorem fBeat_apart {cls : Nat} (hc : cls < 5) : (fBeat cls).key ∉ shownKeys := by
  revert cls
  decide

/-- A class is at work while a crane of it serves a ticket. -/
theorem State.blockRuns_beat (s : State) {cls : Nat} (hc : cls < 5) : s.blockRuns (0x40 + cls) =
    (List.range (classSize cls)).any (fun i => s.on (F.CRN_STATUS_BUSY (classFirst cls + i))) := by
  interval_cases cls <;> rfl

/-- Fields of which none is BUSY of a crane leave the classes at work or not. -/
theorem State.blockRuns_of_fieldsBut {s t : State} {l : List Fld} (hb : State.fieldsBut l s t) (hl : ∀ f ∈ l, f.key % 16 ≠ 10) {cls : Nat}
    (hc : cls < 5) : t.blockRuns (0x40 + cls) = s.blockRuns (0x40 + cls) := by
  have busy (n : Nat) : t.on (F.CRN_STATUS_BUSY n) = s.on (F.CRN_STATUS_BUSY n) := by
    unfold State.on
    rw [hb]
    intro hm
    obtain ⟨f, hf, hk⟩ := List.mem_map.1 hm
    exact hl f hf (by rw [hk]; simp only [Fld.key, F.CRN_STATUS_BUSY]; omega)
  rw [State.blockRuns_beat t hc, State.blockRuns_beat s hc]
  simp only [busy]

/-- Whether the block of a beat runs is whether its class is at work. -/
theorem State.fldRuns_beat (s : State) {cls : Nat} (hc : cls < 5) : s.fldRuns (fBeat cls) = s.blockRuns (0x40 + cls) := by
  interval_cases cls <;> rfl

/-- No value rule judges the beats at GO. -/
theorem State.groupFails_beats (s : State) : s.groupFails 0x45 = false := rfl

/-- Nothing but the beats themselves shows what is in force of them. -/
theorem State.blockShow_beats (s before : State) : s.blockShow before 0x45 = s := rfl

/-- GO with one collected change, of a class that is not at work: the change is in force and the group is closed (R59, R60). -/
theorem State.armGroup_beat {s : State} {cls v : Nat} (hc : cls < 5) (hsh : s.shadow = [⟨0x45, fBeat cls, v, false⟩])
    (hidle : s.blockRuns (0x40 + cls) = false) :
    s.armGroup 0x45 = (((s.setShadow []).setGroupOf (s.groupOf.filter (·.1 != 0x45))).down (fGroup 0x45)).put (fBeat cls) v := by
  have still : (((s.setShadow []).setGroupOf (s.groupOf.filter (·.1 != 0x45))).down (fGroup 0x45)).fldRuns (fBeat cls) = false := by
    rw [State.fldRuns_beat _ hc, State.blockRuns_of_fieldsBut (l := [fGroup 0x45])
      ((((State.fieldsBut.refl _ s).setShadow _).setGroupOf _).down (by simp)) (by decide) hc, hidle]
  unfold State.armGroup State.abortGroup
  rw [hsh]
  exact if_neg (by rw [Bool.not_eq_true]; exact still)

/-- GO at the end of its command (R59, R60). -/
theorem State.finish_go_beat {s : State} {cls v : Nat} (hs : s.Settled) (hst : s.stage = none) (hg : s.gated srcTwoWire 0x45 = false)
    (hc : cls < 5) (hv : v < 256) (hopen : s.on (fGroup 0x45) = true) (hsh : s.shadow = [⟨0x45, fBeat cls, v, false⟩])
    (hidle : s.blockRuns (0x40 + cls) = false) :
    let t := s.finish (s.regWrite srcTwoWire 0x45 2)
    t.get (fBeat cls) = v ∧ t.get (fGroup 0x45) = 0 ∧
      s.changes [fBeat cls, fGroup 0x45, F.JNL_NEWEST_NUMBER, F.JNL_STATUS_UNREAD_LOST]
        (((s.commitEntry 0x45 2).setShadow []).setGroupOf (s.groupOf.filter (·.1 != 0x45))) t := by
  have entry : State.fieldsBut [F.JNL_NEWEST_NUMBER, F.JNL_STATUS_UNREAD_LOST] s (s.commitEntry 0x45 2) :=
    State.fieldsBut.commitEntry s _ _ (by simp) (by simp)
  rw [State.regWrite_commit s _ _ rfl,
    State.commitWrite_accepted hst rfl hg (by decide) (commitRule_none (by simp) rfl (.inr (State.groupFails_beats s))),
    if_neg (show ¬ bit 2 0 = true by decide), if_pos (show bit 2 1 = true from rfl), State.commitEntry_group, if_pos hopen, State.blockShow_beats,
    State.armGroup_beat hc ((State.commitEntry_shadow s _ _).trans hsh)
      ((State.blockRuns_of_fieldsBut entry (by decide) hc).trans hidle), State.commitEntry_groupOf]
  have fields : State.fieldsBut [fBeat cls, fGroup 0x45, F.JNL_NEWEST_NUMBER, F.JNL_STATUS_UNREAD_LOST] s
      (((((s.commitEntry 0x45 2).setShadow []).setGroupOf (s.groupOf.filter (·.1 != 0x45))).down (fGroup 0x45)).put (fBeat cls) v) :=
    ((((State.fieldsBut.commitEntry s _ _ (by simp) (by simp)).setShadow _).setGroupOf _).down (by simp)).put (by simp) _
  have beat : ∀ k ∈ shownKeys, k ∉ [fBeat cls].map Fld.key := by
    intro k hk hm
    exact fBeat_apart hc (List.mem_singleton.1 hm ▸ hk)
  obtain ⟨frame, reads⟩ := State.changes_commit hs _ _ (((State.regsOnly.refl _).down (fGroup 0x45)).put (fBeat cls) v)
    (shownKeys_group 0x45 beat) fields
  have other : (fGroup 0x45).key ≠ (fBeat cls).key := by simp only [Fld.key, fGroup, fBeat]; omega
  refine ⟨(reads _ (fBeat_apart hc)).trans ?_, (reads _ (by decide)).trans ?_, frame⟩
  · rw [State.get_put_same]
    exact Nat.mod_eq_of_lt hv
  · rw [State.get_put_ne _ _ other, State.get_down, if_pos rfl]

/-- The one armed change of a block takes effect where its field is named, and none waits any more (R59). -/
theorem State.applyFields_named {s : State} {c v : Nat} {f : Fld} {p : Fld → Bool} (hsh : s.shadow = [⟨c, f, v, true⟩]) (hp : p f = true) :
    s.applyFields c p = ((s.setShadow []).put f v).down (fPending c) := by
  unfold State.applyFields
  simp only [hsh, List.filter_cons, hp, beq_self_eq_true, Bool.and_self, Bool.not_true, Bool.false_eq_true, if_true, if_false, List.filter_nil]
  rfl

/-- Where its field is not named, it waits on (R88, R153). -/
theorem State.applyFields_unnamed {s : State} {c v : Nat} {f : Fld} {p : Fld → Bool} (hsh : s.shadow = [⟨c, f, v, true⟩]) (hp : p f = false) :
    s.applyFields c p = s := by
  have same : s.setShadow [⟨c, f, v, true⟩] = s := by rw [← hsh]; rfl
  unfold State.applyFields
  simp only [hsh, List.filter_cons, hp, beq_self_eq_true, Bool.and_self, Bool.and_false, Bool.not_false, Bool.false_eq_true, if_true, if_false,
    List.filter_nil]
  refine Eq.trans ?_ same
  simp only [State.each, List.foldl_nil, State.when, List.any_cons, beq_self_eq_true, Bool.and_self, Bool.true_or, Bool.not_true,
    Bool.false_eq_true, if_false]
  rfl

/-- A boundary of a class while a change of the beats is armed. -/
theorem State.boundary_beat {s : State} {f : Fld} {v : Nat} (u : Nat) (hsh : s.shadow = [⟨0x45, f, v, true⟩]) :
    s.boundary 0x45 u = s.applyFields 0x45 (fun f => f.addr == 0x40 + u) := by
  have waits : ¬ (!isCommit 0x45 || !s.shadow.any (fun x => x.commit == 0x45 && x.armed)) = true := by
    rw [hsh]
    exact Bool.false_ne_true
  exact if_neg waits

/-- At its own boundary the change takes effect, and none waits any more (R59, R153). -/
theorem State.finish_boundary_beat {s : State} {cls v : Nat} (hs : s.Settled) (hc : cls < 5) (hv : v < 256)
    (hsh : s.shadow = [⟨0x45, fBeat cls, v, true⟩]) :
    let t := s.finish (s.boundary 0x45 cls)
    t.get (fBeat cls) = v ∧ t.get (fPending 0x45) = 0 ∧ s.changes [fBeat cls, fPending 0x45] (s.setShadow []) t := by
  have applied : s.boundary 0x45 cls = ((s.setShadow []).put (fBeat cls) v).down (fPending 0x45) := by
    rw [State.boundary_beat cls hsh, State.applyFields_named hsh (by simp [fBeat])]
  rw [applied]
  have calm : (s.setShadow []).Calm := hs.2
  have regs : (s.setShadow []).regsOnly (((s.setShadow []).put (fBeat cls) v).down (fPending 0x45)) :=
    ((State.regsOnly.refl _).put (fBeat cls) v).down (fPending 0x45)
  have fields : State.fieldsBut [fBeat cls, fPending 0x45] s (((s.setShadow []).put (fBeat cls) v).down (fPending 0x45)) :=
    (((State.fieldsBut.refl _ s).setShadow _).put (by simp) _).down (by simp)
  have apart : ∀ k ∈ shownKeys, k ∉ [fBeat cls, fPending 0x45].map Fld.key := by
    clear hsh applied regs fields
    revert cls
    decide
  have other : (fBeat cls).key ≠ (fPending 0x45).key := by simp only [Fld.key, fPending, fBeat]; omega
  refine ⟨(State.get_finish (regs.calm calm) (fBeat_apart hc)).trans ?_, (State.get_finish (regs.calm calm) (by decide)).trans ?_,
    State.changes_finish hs.1 calm regs rfl rfl rfl rfl apart fields⟩
  · rw [State.down, State.get_put_ne _ _ other, State.get_put_same]
    exact Nat.mod_eq_of_lt hv
  · rw [State.get_down, if_pos rfl]

/-- At the boundary of another class nothing changes (R153). -/
theorem State.finish_boundary_other {s : State} {cls u v : Nat} (hs : s.Settled) (hu : u ≠ cls) (hsh : s.shadow = [⟨0x45, fBeat cls, v, true⟩]) :
    s.onlyFields [] (s.finish (s.boundary 0x45 u)) := by
  have kept : s.boundary 0x45 u = s := by
    rw [State.boundary_beat u hsh, State.applyFields_unnamed hsh (by simpa [fBeat] using Ne.symm hu)]
  rw [kept]
  exact State.changes_finish hs.1 hs.2 (State.regsOnly.refl s) rfl rfl rfl rfl (by simp) (State.fieldsBut.refl _ s)

/-- Settles O13: each operation by what it does to the group, and each boundary by the changes that it applies (R59, R60). -/
theorem groups : Obligations.Groups := by
  intro s hs hd
  refine ⟨fun a hp h hst hg hsurvey => ⟨fun hclosed => ?_, ?_⟩, fun cls v hc _ hv hp hst hg hopen hsh hidle => ?_,
    fun cls v hc _ hv _ hsh => ?_⟩
  · exact ⟨_, exec_commitOpen a s hd hp h, State.finish_open hs hst h hg hsurvey hclosed⟩
  · exact ⟨_, exec_commitAbort a s hd hp h, State.finish_abort hs hst h hg hsurvey⟩
  · exact ⟨_, exec_commitGo _ s hd hp rfl, State.finish_go_beat hs hst hg hc (by omega) hopen hsh hidle⟩
  · obtain ⟨value, pending, frame⟩ := State.finish_boundary_beat hs hc (by omega) hsh
    exact ⟨_, exec_liveChangeApply _ _ s hd, value, pending, frame,
      fun u _ hu => ⟨_, exec_liveChangeApply _ _ s hd, State.finish_boundary_other hs hu hsh⟩⟩

end Sys2Proof.Machine

/-! Concrete devices for the refutations of O1 and O25 to O27. -/

namespace Sys2Proof.Machine

/-- Port 0 plays as a master while its converter tests itself, and its FIFO and guard line have run empty; notices of the error journal leave as
consignments (R409). The test of a converter that plays is what an injection of 0x0801 starts. -/
def State.starvedPort : State :=
  let s := (State.inRun.put F.ERR_EXPORT_NOTICE 1).put (F.AU_CTRL_STOPPED 0) 0
  let s := ((s.put (F.AU_CTRL_MASTER 0) 1).setOut 0 osPlaying).setClock 1000000
  (s.startTest .converter 0 0x0801 true).shown

/-- Both sample movements are locked, and neither carries the loads. -/
def State.noCarrier : State := ((State.inRun.put (F.TB_MOV_STATUS_LOCKED 0) 1).put (F.TB_MOV_STATUS_LOCKED 1) 1).shown

/-- Both sample movements have LOCKED at 1 and A carries, but the STATE of B reads that it searches. -/
def State.lockedSearching : State :=
  let s := (State.inRun.put (F.TB_MOV_STATUS_LOCKED 0) 1).put (F.TB_MOV_STATUS_CARRYING 0) 1
  ((s.put (F.TB_MOV_STATUS_LOCKED 1) 1).put (F.TB_MOV_STATUS_STATE 1) 1).shown

/-- `PPS_IN` is qualified, with a delay of 0.25 ns in `TB_PPS_COMP`. -/
def State.delayedPps : State := ((State.inRun.put F.TB_PPS_STATUS_QUALIFIED 1).put F.TB_PPS_COMP_DELAY 1).shown

theorem State.settled_noCarrier : State.noCarrier.Settled := by
  unfold State.Settled State.Shows State.Calm
  decide +kernel

theorem State.settled_delayedPps : State.delayedPps.Settled := by
  unfold State.Settled State.Shows State.Calm
  decide +kernel

/-- The sync edge that falls in the tick finds an underrun, whose notice goes into custody (R316, R409). -/
theorem State.custody_tick_starvedPort : State.starvedPort.tick.custody.length = 1 := by decide +kernel

/-- Refutes O1: in the tick of a frame's sync edge the underrun of port 0 is journaled and its notice accepted into custody (R316, R396, R409),
where the statement has custody unchanged. -/
theorem not_queueStep : ¬ Obligations.QueueStep := by
  intro h
  obtain ⟨_, idle⟩ := h State.starvedPort
  obtain ⟨t, ht, _, _, ticks⟩ := idle rfl
  obtain ⟨_, _, _, _, _, hcustody⟩ := ticks rfl (.inl (by decide +kernel)) rfl rfl (by decide +kernel)
  obtain rfl : State.starvedPort.tick = t := Host.Outcome.next.inj ht
  have hlen : State.starvedPort.tick.custody.length = 0 := by rw [hcustody]; rfl
  exact absurd (State.custody_tick_starvedPort.symm.trans hlen) (by decide)

/-- Refutes O25: the clause of the guard does not say that a member of the pair carries. With no carrier the loss of A moves no load, and B does
not carry afterwards. -/
theorem not_lockAndLoss : ¬ Obligations.LockAndLoss := by
  intro h
  obtain ⟨_, _, _, _, _, guard⟩ := h State.noCarrier State.settled_noCarrier rfl 0 (by decide)
  obtain ⟨t, ht, _, _, hcarrier, _⟩ := guard 0 201 (by decide) (by decide +kernel) (by decide) (by decide +kernel)
  rw [exec_twinGuardCheck 0 _ _ _ rfl rfl] at ht
  obtain rfl := Host.Outcome.next.inj ht
  revert hcarrier
  decide +kernel

/-- Refutes O26: the statement does not exclude a movement with LOCKED at 1 whose STATE reads 1. `TB_PAIR_CMD` for B finds the search that the pair
wants under way and leaves it (R78), so that LOCKED still reads 1. -/
theorem not_pairCommands : ¬ Obligations.PairCommands := by
  intro h
  obtain ⟨_, _, relock⟩ := h State.lockedSearching rfl
  obtain ⟨twinCarries, _⟩ := relock 1 (by decide) rfl rfl (by decide +kernel) (by decide +kernel) (by decide +kernel) (by decide +kernel)
    (by decide +kernel) rfl (by decide +kernel)
  obtain ⟨t, ht, hlocked, _⟩ := twinCarries (by decide +kernel)
  rw [exec_relockCmd _ _ rfl rfl] at ht
  obtain rfl := Host.Outcome.next.inj ht
  revert hlocked
  decide +kernel

/-- Refutes O27: an edge marks its second less `TB_PPS_COMP` (R85). With a delay of 0.25 ns there, an edge on its predicted second marks it 250 ps
early, and 250 ps are steered, where the statement has none. -/
theorem not_timeKeeping : ¬ Obligations.TimeKeeping := by
  intro h
  obtain ⟨edge, _⟩ := h State.delayedPps State.settled_delayedPps rfl
  obtain ⟨close, _⟩ := edge 0 0 (by decide +kernel) rfl
  obtain ⟨t, ht, _, hsteer, _⟩ := close (by decide) rfl
  rw [exec_ppsEdge 0 0 _ rfl] at ht
  obtain rfl := Host.Outcome.next.inj ht
  revert hsteer
  decide +kernel

end Sys2Proof.Machine

/-! A device whose error journal is routed to a quay that does not exist: it refutes O29 and O30. -/

namespace Sys2Proof.Machine

/-- A device in RUN with feed 1 on. The register file holds 32 as the quay of the error journal's notices, beyond the two bits of the field and the
four quays. No write leaves that, and the statements of O29 and O30, which are about every settled state, do not exclude it. HELD_OFF of a quay 32
would stand in FS of audio port 0, whose reset value is 2 (48 kHz). -/
def State.farRoute : State :=
  let s := (State.inRun.put (F.FEED_STATUS_ON 1) 1).shown
  s.setRegs (Tbl.set regDefault s.regs (F.QY_ROUTE_DATA 0x61).key 32)

theorem State.settled_farRoute : State.farRoute.Settled := by
  unfold State.Settled State.Shows State.Calm
  decide +kernel

/-- FS of audio port 0 is no field of an entry of the error journal, nor one of the listed: a command that changes no other field leaves it at 2. -/
theorem State.fs_of_changesErr_farRoute {l : List Fld} {u t : State} (h : State.farRoute.changesErr l u t)
    (hl : (F.AU_CFG_FS 0).key ∉ l.map Fld.key) : t.get (F.AU_CFG_FS 0) = 2 := by
  obtain ⟨_, _, fields⟩ := h
  exact (fields _ hl (by decide)).trans (by decide +kernel)

/-- Refutes O29: the failed reference check is journaled, and the notice's acceptance shows HELD_OFF of the quay that its route names (R288, R290,
R409): FS of audio port 0 then reads 0, where the statement has it unchanged. -/
theorem not_calibration : ¬ Obligations.Calibration := by
  intro h
  obtain ⟨_, outOfRange, _⟩ := h State.farRoute State.settled_farRoute rfl
  obtain ⟨t, ht, _, _, _, _, frame⟩ := outOfRange 0 (.inl (by decide))
  have hfs := State.fs_of_changesErr_farRoute frame (by decide)
  rw [exec_vrefCheck _ _ rfl] at ht
  obtain rfl := Host.Outcome.next.inj ht
  have hcalm : (State.farRoute.vrefCheck 0).Calm := .inl (by decide +kernel)
  rw [State.get_finish hcalm (by decide)] at hfs
  revert hfs
  decide +kernel

/-- Refutes O30: the short of feed 1 is journaled, and the notice's acceptance shows HELD_OFF of the quay that its route names (R105, R288, R290,
R409): FS of audio port 0 then reads 0, where the statement has it unchanged. -/
theorem not_feeds : ¬ Obligations.Feeds := by
  intro h
  obtain ⟨_, _, trips, _⟩ := h State.farRoute State.settled_farRoute rfl 1 (.inl rfl)
  obtain ⟨short, _⟩ := trips (by decide +kernel) (by decide +kernel)
  obtain ⟨t, ht, _, _, _, _, _, _, _, _, _, frame⟩ := short 0
  have hfs := State.fs_of_changesErr_farRoute frame (by decide)
  rw [exec_feedShort _ _ _ rfl rfl] at ht
  obtain rfl := Host.Outcome.next.inj ht
  have hcalm : ((State.farRoute.feedSense 1 0).feedTrip 1 0x0208 (F.FEED_STATUS_SHORT_EV 1)).Calm := .inl (by decide +kernel)
  rw [State.get_finish hcalm (by decide)] at hfs
  revert hfs
  decide +kernel

end Sys2Proof.Machine

/-! A home in its fade, which refutes O31, and the end of a coefficient bank, which refutes O32. -/

namespace Sys2Proof.Machine

/-- The FM home 0 fades to its partner, berth 1, whose lane runs and has settled; the synchronising reset that the host asked for names berth 0
alone. -/
def State.fadingHome : State :=
  let s := (State.inRun.put (F.BTH_CTRL_STANDARD 0) 2).put (F.BTH_CTRL_STANDARD 1) 2
  let s := ((s.put (F.FM_SVC2_PARTNER 0) 1).setXf 0 xfRamp).putFoll 0 { Follow.reset with fade := some (Fade.new true 98000000 false) }
  let s := s.each [0, 1] fun n t =>
    ((t.down (F.BTH_CTRL_STOPPED n)).put (F.BTH_STATUS_STATE n) bsRunning).down (F.LN_CTRL_STOPPED n)
  (s.setSyncMask 1).shown

theorem State.settled_fadingHome : State.fadingHome.Settled := by
  unfold State.Settled State.Shows State.Calm
  decide +kernel

/-- Refutes O31: a synchronising reset that names a member of a fade resets the other member too (R191, Table 8.5), so that the partner's samples
settle again, where the statement has SETTLING unchanged in every berth that the mask does not name. -/
theorem not_laneWork : ¬ Obligations.LaneWork := by
  intro h
  obtain ⟨_, _, _, reset, _⟩ := h State.fadingHome State.settled_fadingHome rfl 1 (by decide)
  obtain ⟨t, ht, _, _, unnamed, _⟩ := reset
  have hsettled := unnamed (by decide +kernel)
  rw [exec_laneSyncReset _ rfl] at ht
  obtain rfl := Host.Outcome.next.inj ht
  have hcalm : State.fadingHome.syncReset.Calm := .inl (by decide +kernel)
  rw [State.get_finish hcalm (by decide)] at hsettled
  revert hsettled
  decide +kernel

/-- A bank has 384 coefficients (R124). What stands at number 448 is the tap count of the bank after it. -/
theorem State.tap_past_bank (s : State) (b : Nat) : s.tap b 448 = sext 16 (s.taps (b + 1)) := by
  have haddr : bankAddr b (0x3100 + 448) = bankAddr (b + 1) 0x3001 := by
    unfold bankAddr
    rw [if_neg (by decide), if_pos rfl]
    omega
  unfold State.tap
  rw [haddr]; rfl

/-- Berth 0 runs on lane 0, and lane 1 has a filter of 3 taps in its bank 0; lanes 96 to 103 are spares. -/
def State.filteredLane : State :=
  ((State.inRun.down (F.LN_CTRL_STOPPED 0)).put { F.LN_BANK_LEN_TAPS with addr := bankAddr 2 0x3001 } 3).shown

theorem State.settled_filteredLane : State.filteredLane.Settled := by
  unfold State.Settled State.Shows State.Calm
  decide +kernel

/-- Refutes O32: the statement has the spare's coefficients equal the patrolled lane's up to number 511, past the 384 of a bank (R124). Spare 96
copies the banks of lane 0, but number 448 of their second banks is the tap count of lane 97, which is 1, and of lane 1, which is 3. -/
theorem not_laneFaults : ¬ Obligations.LaneFaults := by
  intro h
  obtain ⟨_, _, patrol, _⟩ := h State.filteredLane State.settled_filteredLane rfl 96 (by decide)
  obtain ⟨t, ht, _, _, _, copied, _⟩ := patrol 0 (by decide +kernel) (by decide +kernel) (by decide +kernel)
  have htap := copied (by decide +kernel) (by decide +kernel) 1 (by decide) 448 (by decide)
  rw [exec_patrolStart 96 _ rfl rfl] at ht
  obtain rfl := Host.Outcome.next.inj ht
  have hcalm : (State.filteredLane.patrolStart 96).Calm := .inl (by decide +kernel)
  rw [State.tap_past_bank, State.tap_past_bank, State.taps, State.get_finish hcalm (by decide)] at htap
  revert htap
  decide +kernel

end Sys2Proof.Machine

/-! Concrete devices for the refutations of O33 to O35. -/

namespace Sys2Proof.Machine

/-- A device in RUN whose domain 6 is off, in which the control and service words of the berths lie (Table 20.1). -/
def State.berthsDark : State := (State.inRun.put (F.DOM_STATE 6) dsOff).shown

/-- The narrow cranes all serve; berth 1 waits for one, its ticket ready since 5 ns, which is now; the FM berth 0 runs without input, and has had
no ticket since the reset. -/
def State.narrowBusy : State :=
  let s := (cranesOf 4).foldl (fun t c => t.put (F.CRN_STATUS_BUSY c) 1) (State.inRun.assignRoles 4)
  let s := (s.put (F.BTH_CTRL_STANDARD 0) 2).put (F.BTH_STATUS_STATE 0) bsRunning
  let s := (s.put (F.BTH_TICKET_IN_FLIGHT 1) 1).put (F.BTH_TICKET_CLASS 1) 4
  (((s.putBerth 1 { Berth.reset with readyAt := 5 }).putQueue 4 [1]).setClock 5).shown

/-- Crane 24 serves berth 0, and crane 32 is the spare of its class. Berth 1, which stands stopped, holds one unit more than the class's capacity
of 8,000. No admission leaves that, and the statement of O35, which is about every state, does not exclude it. -/
def State.overloaded : State :=
  let s := ((State.inRun.assignRoles 4).put (F.CRN_STATUS_BUSY 24) 1).put (F.CRN_STATUS_BERTH 24) 0
  (s.putBerth 1 { Berth.reset with held := some { Load.zero with narrow := 8001 }, survey := true }).shown

theorem State.settled_berthsDark : State.berthsDark.Settled := by
  unfold State.Settled State.Shows State.Calm
  decide +kernel

theorem State.settled_narrowBusy : State.narrowBusy.Settled := by
  unfold State.Settled State.Shows State.Calm
  decide +kernel

/-- Refutes O33: the statement does not exclude that the domain of the berths is off, in which a write of `BTH_CTRL` is refused (R421), so that
STANDARD keeps its value. -/
theorem not_berthStarts : ¬ Obligations.BerthStarts := by
  intro h
  obtain ⟨_, change, _⟩ := h State.berthsDark State.settled_berthsDark rfl 0 (by decide)
  obtain ⟨t, ht, hstd, _⟩ := change 0x0200#16 rfl rfl rfl rfl (by decide +kernel) (by decide) (by decide +kernel) (by decide)
    (by decide +kernel) (by decide +kernel) (by decide +kernel) (by decide +kernel) rfl
  rw [exec_standardChange 0 _ _ rfl rfl rfl] at ht
  obtain rfl := Host.Outcome.next.inj ht
  have hcalm : (State.berthsDark.regWrite srcTwoWire 0x400 0x0200).Calm := .inl (by decide +kernel)
  have hwritten : (State.berthsDark.regWrite srcTwoWire 0x400 0x0200).std 0 = 2 := (State.get_finish hcalm (by decide)).symm.trans hstd
  revert hwritten
  decide +kernel

/-- Refutes O34: a ticket without input goes by the time at which the berth's ticket before it became ready (log 122), so that berth 0, whose time
is 0, stands before the ticket of berth 1, which was ready at 5 ns, where the statement has it at the tail. -/
theorem not_tickets : ¬ Obligations.Tickets := by
  intro h
  obtain ⟨ready, _⟩ := h State.narrowBusy State.settled_narrowBusy rfl 0 (by decide)
  obtain ⟨t, ht, hqueue, _⟩ := ready 4 [] (by decide) (by decide +kernel) (by decide +kernel) (by decide +kernel) (by decide +kernel)
    (by decide +kernel) (by decide +kernel) (by decide +kernel) (by decide +kernel) (by decide +kernel)
  rw [exec_ticketReady 0 4 [] _ rfl rfl] at ht
  obtain rfl := Host.Outcome.next.inj ht
  have hcalm : (State.narrowBusy.ticketReady 0 4 []).Calm := .inl (by decide +kernel)
  rw [(State.finish_rest _ hcalm).1] at hqueue
  revert hqueue
  decide +kernel

/-- Refutes O35: after the fault of crane 24 its class is judged (R161, R163), and berth 1, which stands stopped, is shed where it stands. The event
is a second entry of the error journal, where the statement has one. -/
theorem not_cranes : ¬ Obligations.Cranes := by
  intro h
  obtain ⟨faults, _⟩ := h State.overloaded rfl 24 32 (by decide) (by decide +kernel) (by decide +kernel) (by decide +kernel)
  obtain ⟨fault, _⟩ := faults 0 (by decide) (by decide +kernel) (by decide +kernel)
  obtain ⟨t, ht, _, _, _, _, _, _, _, _, _, _, hcount, _⟩ := fault 0x0401 (.inl rfl)
  rw [exec_craneFault 24 _ _ rfl (by decide +kernel)] at ht
  obtain rfl := Host.Outcome.next.inj ht
  have hcalm : (State.overloaded.craneFault 24 0x0401).Calm := .inl (by decide +kernel)
  rw [(State.finish_rest _ hcalm).1] at hcount
  revert hcount
  decide +kernel

end Sys2Proof.Machine

/-! The end of a command leaves a field that no end of a fade writes, whether or not a fade of a berth that is being shed ends there (R163, R184,
R189, R191). -/

namespace Sys2Proof.Machine

/-- A field that no end of a fade writes: neither what shows the fade, nor what the partner's stop writes. -/
structure Fld.Unfaded (g : Fld) : Prop where
  state : ∀ h, g.key ≠ (F.FM_SVC7_XF_STATE h).key
  result : ∀ h, g.key ≠ (F.FM_SVC7_XF_RESULT h).key
  done : ∀ h, g.key ≠ (F.FM_SVC7_XF_DONE_EV h).key
  stopping : ∀ p, g.key ≠ (F.BTH_STATUS_STATE p).key
  berth : ∀ p, g.key ≠ (fPending (berthCommit p)).key
  lane : ∀ p, g.key ≠ (fPending (laneCommit p)).key
  newest : g.key ≠ F.JNL_NEWEST_NUMBER.key
  lost : g.key ≠ F.JNL_STATUS_UNREAD_LOST.key

/-- The block synchronisation of an FM berth is such a field. -/
theorem unfaded_rdsSync {n : Nat} (hn : n < 96) : (F.FM_SVC7_RDS_SYNC n).Unfaded := by
  constructor <;>
    simp only [Fld.key, F.FM_SVC7_RDS_SYNC, F.FM_SVC7_XF_STATE, F.FM_SVC7_XF_RESULT, F.FM_SVC7_XF_DONE_EV, F.BTH_STATUS_STATE, fPending,
      berthCommit, laneCommit, F.JNL_NEWEST_NUMBER, F.JNL_STATUS_UNREAD_LOST] <;>
    omega

theorem State.get_supArm (s : State) {c a v : Nat} {f g : Fld} (hg : g.Unfaded) (hc : g.key ≠ (fPending c).key) :
    (s.supArm c a f v).get g = s.get g :=
  (State.get_put_ne _ 1 hc).trans (State.get_journal s _ _ _ _ _ _ hg.newest hg.lost)

/-- What a step under a condition leaves as it was is as it was. -/
theorem State.get_when {s : State} {c : Bool} {f : State → State} {g : Fld} (h : (f s).get g = s.get g) : (s.when c f).get g = s.get g := by
  unfold State.when
  split
  · exact h
  · rfl

theorem State.get_partnerStop (s : State) (p : Nat) {g : Fld} (hg : g.Unfaded) : (s.partnerStop p).get g = s.get g :=
  (State.get_when (State.get_supArm _ hg (hg.lane p))).trans
    (State.get_when ((State.get_put_ne _ _ (hg.stopping p)).trans (State.get_supArm s hg (hg.berth p))))

theorem State.get_fadeEnd (s : State) (h result : Nat) {g : Fld} (hg : g.Unfaded) : (s.fadeEnd h result).get g = s.get g := by
  unfold State.fadeEnd
  split
  · rfl
  · exact (State.get_partnerStop _ _ hg).trans ((State.get_put_ne _ _ (hg.done h)).trans ((State.get_put_ne _ _ (hg.result h)).trans
      (State.get_put_ne _ _ (hg.state h))))

theorem State.get_fadeAbort (s : State) (n result : Nat) {g : Fld} (hg : g.Unfaded) : (s.fadeAbort n result).get g = s.get g := by
  have one (u : State) (h : Nat) : (match u.fadeOf h with
      | none => u
      | some _ =>
        if u.digital h && u.xf h == xfSwap then (u.fadeUpdate h (fun f => { f with drained := true })).partnerStop (u.partner h)
        else u.fadeEnd h result).get g = u.get g := by
    split
    · rfl
    split
    · exact State.get_partnerStop _ _ hg
    · exact State.get_fadeEnd _ _ _ hg
  unfold State.fadeAbort
  dsimp only
  split
  · exact (one _ _).trans (one _ _)
  · exact one _ _

theorem State.get_shedFades (s : State) {g : Fld} (hg : g.Unfaded) : s.shedFades.get g = s.get g := by
  unfold State.shedFades State.each
  generalize (s.berths.filter fun e => e.2.shedding).map (·.1) = l
  induction l generalizing s with
  | nil => rfl
  | cons n l ih =>
    exact (ih _).trans (State.get_when (State.get_fadeAbort s n _ hg))

/-- At the end of any command such a field reads as the effect left it. -/
theorem State.get_finish_unfaded (s t : State) {g : Fld} (hg : g.Unfaded) (hk : g.key ∉ shownKeys) : (s.finish t).get g = t.get g := by
  simp only [shownKeys, List.mem_cons, List.not_mem_nil, or_false, not_or] at hk
  obtain ⟨h1, h2, h3, h4, h5, h6⟩ := hk
  have shown : ∀ u : State, (u.shown.setPending s.pending).get g = u.get g := fun u => by
    simp [State.shown, State.alertShow, State.get_put_ne, h1, h2, h3, h4, h5, h6]
  unfold State.finish
  rw [shown, (State.recordsTouch_rest _).1]
  exact State.get_shedFades t hg

end Sys2Proof.Machine

/-! AM and FM reception (R169, R170, R175). -/

namespace Sys2Proof.Machine

/-- What every command's end shows lies outside the berths' part of the map (Table 20.1). -/
theorem shownKeys_outside_berths : ∀ k ∈ shownKeys, k < 0x4000 ∨ 0x1C000 ≤ k := by decide

theorem not_shown_of_berth {k : Nat} (h1 : 0x4000 ≤ k) (h2 : k < 0x1C000) : k ∉ shownKeys := fun h => by
  have := shownKeys_outside_berths k h
  omega

/-! The depths of an AM berth (R169). -/

/-- A result of a window changes the windows alone. -/
theorem State.inWindow_rest (s : State) (n : Nat) (ps : Int) (g : Win → Win) :
    s.inWindow n ps g = { s with windows := (s.inWindow n ps g).windows, ended := (s.inWindow n ps g).ended } := by
  unfold State.inWindow
  split
  · split <;> rfl
  · rfl

/-- The fields of the peak depths. -/
def fldsDepth (n : Nat) : List Fld := [F.AM_SVC3_DEPTH_POS n, F.AM_SVC4_DEPTH_NEG n]

theorem fldsDepth_not_shown {n : Nat} (hn : n < 96) : ∀ k ∈ (fldsDepth n).map Fld.key, k ∉ shownKeys := by
  simp only [fldsDepth, List.map_cons, List.map_nil, List.forall_mem_cons, List.not_mem_nil, false_implies, implies_true, and_true]
  constructor <;> refine not_shown_of_berth ?_ ?_ <;> simp only [Fld.key, F.AM_SVC3_DEPTH_POS, F.AM_SVC4_DEPTH_NEG] <;> omega

/-- The depths of a berth that works: its sums begin anew, the window takes the results, and the fields load. -/
theorem State.amDepth_of_works {s : State} {n : Nat} (hw : s.works n 1 = true) :
    let d := (s.audOf n).depth
    ∃ ps g, s.amDepth n =
      (((s.putAud n { s.audOf n with depth := (0, 0, 0, 0) }).inWindow n ps g).put (F.AM_SVC3_DEPTH_POS n)
        (min 65535 (depthOf (d.2.2.1 * d.2.1 - d.1) d.1))).put (F.AM_SVC4_DEPTH_NEG n) (min 1000 (depthOf (d.1 - d.2.2.2 * d.2.1) d.1)) := by
  unfold State.amDepth
  rw [hw]
  exact ⟨_, _, rfl⟩

/-- At the end of the command the fields show the depths, and nothing else but the sums and the windows has changed. -/
theorem State.finish_amDepth {s : State} (hs : s.Settled) {n : Nat} (hn : n < 96) (hw : s.works n 1 = true) :
    let d := (s.audOf n).depth
    let t := s.finish (s.amDepth n)
    t.get (F.AM_SVC3_DEPTH_POS n) = min 65535 (depthOf (d.2.2.1 * d.2.1 - d.1) d.1) ∧
      t.get (F.AM_SVC4_DEPTH_NEG n) = min 1000 (depthOf (d.1 - d.2.2.2 * d.2.1) d.1) ∧ (t.audOf n).depth = (0, 0, 0, 0) ∧
      State.fieldsBut (fldsDepth n) s t ∧ s.steady t := by
  intro d t
  obtain ⟨ps, g, e⟩ := State.amDepth_of_works hw
  generalize hu : (s.putAud n { s.audOf n with depth := (0, 0, 0, 0) }).inWindow n ps g = u at e
  have rest := State.inWindow_rest (s.putAud n { s.audOf n with depth := (0, 0, 0, 0) }) n ps g
  rw [hu] at rest
  have hcalm : u.Calm := hs.2.of_eq (by rw [rest]; rfl) (by rw [rest]; rfl)
  have hregs : u.regsOnly (s.amDepth n) := e ▸ ((State.regsOnly.refl u).put _ _).put _ _
  have hfields : State.fieldsBut (fldsDepth n) s (s.amDepth n) :=
    e ▸ (((State.fieldsBut.refl _ s).other (by rw [rest]; rfl)).put (by simp [fldsDepth]) _).put (by simp [fldsDepth]) _
  have h : s.changes (fldsDepth n) u t :=
    State.changes_finish hs.1 hcalm hregs (by rw [rest]; rfl) (by rw [rest]; rfl) (by rw [rest]; rfl) (by rw [rest]; rfl)
      (fun k hk hm => fldsDepth_not_shown hn k hm hk) hfields
  have get : ∀ f ∈ fldsDepth n, t.get f = (s.amDepth n).get f := fun f hf =>
    State.get_finish (hregs.calm hcalm) (fldsDepth_not_shown hn _ (List.mem_map_of_mem hf))
  have apart : (F.AM_SVC3_DEPTH_POS n).key ≠ (F.AM_SVC4_DEPTH_NEG n).key := by
    simp only [Fld.key, F.AM_SVC3_DEPTH_POS, F.AM_SVC4_DEPTH_NEG]; omega
  refine ⟨?_, ?_, ?_, h.2.2, ((State.Keeps.amDepth (kp := fun _ => true) (.refl _ s) n).finish s).steady fun _ => rfl⟩
  · rw [get _ (by simp [fldsDepth]), e, State.get_put_ne _ _ apart, State.get_put_same]
    exact Nat.mod_eq_of_lt (Nat.lt_succ_of_le (Nat.min_le_left ..))
  · rw [get _ (by simp [fldsDepth]), e, State.get_put_same]
    exact Nat.mod_eq_of_lt (Nat.lt_of_le_of_lt (Nat.min_le_left ..) (show 1000 < 2 ^ 16 by decide))
  · have haud : t.audOf n = u.audOf n := by rw [h.1]; rfl
    rw [haud, rest]
    exact congrArg Aud.depth (Tbl.get_set_eq ..)

/-! Stereo of an FM berth (R170). -/

/-- The pilot has stood long enough: stereo is what it says, and nothing else changes. -/
theorem State.finish_stereo {s : State} (hs : s.Settled) {n : Nat} (hn : n < 96) {above : Bool} (hw : s.works n 2 = true)
    (hm : s.get (F.FM_SVC0_MODE n) ≠ 0) (ha : 100 ≤ (if above then (s.audOf n).above else (s.audOf n).below)) :
    let t := s.finish (s.stereo n above)
    t.get (F.FM_SVC7_STEREO n) = b2n above ∧ s.onlyFields [F.FM_SVC7_STEREO n] t := by
  have due : (if above then Nat.ble 100 (s.audOf n).above else Nat.ble 100 (s.audOf n).below) = true := by
    cases above <;> simpa using ha
  have e : s.stereo n above = s.put (F.FM_SVC7_STEREO n) (b2n above) := by
    unfold State.stereo State.when
    simp [hw, hm, due]
  have hk : (F.FM_SVC7_STEREO n).key ∉ shownKeys := by
    refine not_shown_of_berth ?_ ?_ <;> simp only [Fld.key, F.FM_SVC7_STEREO] <;> omega
  have hr : s.regsOnly (s.stereo n above) := e ▸ (State.regsOnly.refl s).put _ _
  refine ⟨?_, State.changes_finish hs.1 hs.2 hr rfl rfl rfl rfl ?_ (e ▸ (State.fieldsBut.refl _ s).put (by simp) _)⟩
  · rw [State.get_finish (hr.calm hs.2) hk, e, State.get_put_same]
    cases above <;> rfl
  · intro k h hm
    rw [List.map_singleton, List.mem_singleton] at hm
    exact hk (hm ▸ h)

/-! The synchronisation of an RDS decoder (R175). -/

/-- An offset word of `rdsWords` is not offset word E. -/
theorem rdsOffset_ne_zero {w i : Nat} (h : rdsWords.findIdx? (· == rdsOffset w) = some i) : rdsOffset w ≠ 0 := fun e => by
  rw [e] at h
  cases h

section
variable {s : State} {n w ts : Nat} (hw : s.works n 2 = true) (hm : s.get (F.FM_SVC0_MODE n) = 2)
include hw hm

/-- In RBDS a block with offset word E is ignored. -/
theorem State.rdsBlock_e (h : rdsOffset w = 0) (hr : s.on (F.FM_SVC0_RBDS n) = true) : s.rdsBlock n w ts = s := by
  unfold State.rdsBlock
  simp [hw, hm, h, hr]

variable (hsync : s.get (F.FM_SVC7_RDS_SYNC n) = 0)
include hsync

/-- Without synchronisation a block that has no offset word starts the count again. -/
theorem State.rdsBlock_no_offset (h : rdsWords.findIdx? (· == rdsOffset w) = none) (h0 : rdsOffset w ≠ 0) :
    s.rdsBlock n w ts = s.putRds n { s.rdsOf n with run := 0, blocks := [], ok := false, gap := true } := by
  unfold State.rdsBlock
  simp [hw, hm, h, h0, State.on, hsync]

/-- The third block in order declares synchronisation, after what it does in its group. -/
theorem State.rdsBlock_third {i : Nat} (h : rdsWords.findIdx? (· == rdsOffset w) = some i) (hpos : (if i < 3 then i else i - 1) = (s.rdsOf n).pos)
    (hrun : (s.rdsOf n).run = 2) : ∃ u : State, s.rdsBlock n w ts = u.put (F.FM_SVC7_RDS_SYNC n) 1 := by
  unfold State.rdsBlock
  simp only [hw, hm, BEq.rfl, Bool.and_self, Bool.not_true, on, Bool.false_or, Bool.and_eq_true, beq_iff_eq, rdsOffset_ne_zero h, false_and,
    ↓reduceIte, hsync, Nat.reduceBEq, Bool.false_eq_true, h, when, hpos, hrun, Nat.reduceAdd, Nat.ble_eq, Std.le_refl, rdsSync, Bool.false_and,
    b2n]
  exact ⟨_, rfl⟩

end

theorem State.rdsOf_putRds (s : State) (n : Nat) (r : Rds) : (s.putRds n r).rdsOf n = r := Tbl.get_set_eq ..

/-- Without synchronisation, at the end of a block that has no offset word only the decoder has changed, and its count is 0. -/
theorem State.finish_rdsBlock_no_offset {s : State} (hs : s.Settled) {n w ts : Nat} (hw : s.works n 2 = true)
    (hm : s.get (F.FM_SVC0_MODE n) = 2) (hsync : s.get (F.FM_SVC7_RDS_SYNC n) = 0)
    (h : rdsWords.findIdx? (· == rdsOffset w) = none) (h0 : rdsOffset w ≠ 0) :
    let t := s.finish (s.rdsBlock n w ts)
    (t.rdsOf n).run = 0 ∧ s.changes [] { s with rds := t.rds } t := by
  rw [State.rdsBlock_no_offset hw hm hsync h h0]
  generalize hu : s.putRds n { s.rdsOf n with run := 0, blocks := [], ok := false, gap := true } = u
  have hcalm : u.Calm := hu ▸ hs.2.of_eq rfl rfl
  have hrds : (s.finish u).rds = u.rds := by rw [(State.finish_rest s hcalm).1]
  have same : ({ s with rds := u.rds } : State) = u := by subst hu; rfl
  refine ⟨?_, ?_⟩
  · rw [show (s.finish u).rdsOf n = u.rdsOf n from congrArg (Tbl.get _ · n) hrds, ← hu, State.rdsOf_putRds]
  · rw [hrds, same]
    subst hu
    exact State.changes_finish hs.1 hcalm rfl rfl rfl rfl rfl (by simp) (.other (.refl _ s) rfl)

/-- At the end of the third block in order the berth shows synchronisation, whatever its group has led to: no end of a fade writes it. -/
theorem State.finish_rdsBlock_third {s : State} {n w ts i : Nat} (hn : n < 96) (hw : s.works n 2 = true) (hm : s.get (F.FM_SVC0_MODE n) = 2)
    (hsync : s.get (F.FM_SVC7_RDS_SYNC n) = 0) (h : rdsWords.findIdx? (· == rdsOffset w) = some i)
    (hpos : (if i < 3 then i else i - 1) = (s.rdsOf n).pos) (hrun : (s.rdsOf n).run = 2) :
    (s.finish (s.rdsBlock n w ts)).get (F.FM_SVC7_RDS_SYNC n) = 1 ∧ s.steady (s.finish (s.rdsBlock n w ts)) := by
  have hk : (F.FM_SVC7_RDS_SYNC n).key ∉ shownKeys := by
    refine not_shown_of_berth ?_ ?_ <;> simp only [Fld.key, F.FM_SVC7_RDS_SYNC] <;> omega
  obtain ⟨u, e⟩ := State.rdsBlock_third (ts := ts) hw hm hsync h hpos hrun
  refine ⟨?_, ((State.Keeps.rdsBlock (kp := fun _ => true) (.refl _ s) n _ _).finish s).steady fun _ => rfl⟩
  rw [State.get_finish_unfaded _ _ (unfaded_rdsSync hn) hk, e, State.get_put_same]
  rfl

/-- Settles O36: each command by what it does to the state, and the end of its command. -/
theorem analogueReception : Obligations.AnalogueReception := by
  intro s hs hd n hn
  have hok : Nat.blt n 96 = true := by simpa using hn
  refine ⟨fun hw => ⟨_, exec_amDepthUpdate n s hd hok, State.finish_amDepth hs hn hw⟩,
    fun above hw hm ha => ⟨_, exec_stereoPilotTimer n above s hd hok, State.finish_stereo hs hn hw hm ha⟩,
    fun raw ts hw hm hsync => ⟨fun i hi hpos hrun => ?_, fun hnone h0 => ?_, fun h0 hr => ?_⟩⟩
  · exact ⟨_, exec_rdsBlock n raw ts s hd hok, State.finish_rdsBlock_third hn hw hm hsync hi hpos hrun⟩
  · exact ⟨_, exec_rdsBlock n raw ts s hd hok, State.finish_rdsBlock_no_offset hs hw hm hsync hnone h0⟩
  · refine ⟨_, exec_rdsBlock n raw ts s hd hok, ?_⟩
    rw [State.rdsBlock_e hw hm h0 hr]
    exact State.changes_finish hs.1 hs.2 rfl rfl rfl rfl rfl (by simp) (.refl _ s)

end Sys2Proof.Machine

/-! Concrete devices for the refutations of O37 and O38. -/

namespace Sys2Proof.Machine

/-- The FM home 0 follows and runs, berth 1 is free as its partner, and 90.0 MHz was sounded at 6 dBm now. Home 0 has the mark of a berth that is
being shed. The decision to shed sets that mark together with STOPPING (R163), but the statement of O37, which is about every settled state, does not
exclude it on a berth that shows RUNNING. -/
def State.shedHome : State :=
  let s := (State.inRun.put (F.BTH_CTRL_STANDARD 0) 2).put (F.BTH_STATUS_STATE 0) bsRunning
  let s := ((s.put (F.FM_SVC2_AF_MODE 0) 2).put (F.FM_SVC2_USE_LIST 0) 1).put (F.FM_SVC2_PARTNER 0) 1
  let s := (s.putRds 0 { Rds.reset with afList := [(0, [25])] }).putFoll 0 { Follow.reset with heard := [(90000000, 6000, 0)] }
  (s.putBerth 0 { Berth.reset with shedding := true }).shown

/-- `fadingHome`, in RAMP, after a fault of domain 6, in which the control and service words of the berths lie (Table 20.1): the domain is about to
restart (R402), and the fade goes on. -/
def State.fadingDark : State := State.fadingHome.domainFault 6 0

theorem State.settled_shedHome : State.shedHome.Settled := by
  unfold State.Settled State.Shows State.Calm
  decide +kernel

/-- The fade that starts has been ended at the end of the command, for its home is being shed (R163, R191). -/
theorem State.xf_shedHome : (State.shedHome.finish (State.shedHome.followStart 0 0)).xf 0 = xfIdle := by decide +kernel

/-- The write of ABORT is refused, and the home stays in RAMP. -/
theorem State.xf_fadingDark : (State.fadingDark.finish (State.fadingDark.regWrite srcTwoWire 0x40E 0x5A02)).xf 0 = xfRamp := by decide +kernel

/-- Refutes O37: the statement does not exclude a home that is being shed while it shows RUNNING, and has no fade yet. The fade to 90.0 MHz
starts, and the end of the same command ends it (R191), so that XF_STATE reads IDLE, where the statement has STARTING. -/
theorem not_following : ¬ Obligations.Following := by
  intro h
  obtain ⟨_, _, start⟩ := h State.shedHome State.settled_shedHome rfl 0 (by decide)
  obtain ⟨t, ht, hxf, _⟩ := start 0 (90000000, 6000) (by decide +kernel) (by decide +kernel) (by decide +kernel) (by decide +kernel) rfl rfl
    (by decide +kernel) (by decide +kernel) (by decide +kernel)
  rw [exec_afFadeStart 0 _ _ rfl (by decide +kernel)] at ht
  obtain rfl := Host.Outcome.next.inj ht
  exact absurd (State.xf_shedHome.symm.trans hxf) (by decide)

/-- Refutes O38: the statement does not exclude that the domain of the berths is under restart, in which a write of `BTH_SVC6` is refused (R421), so
that ABORT leaves the home in RAMP, where the statement has IDLE. -/
theorem not_analogueFades : ¬ Obligations.AnalogueFades := by
  intro h
  obtain ⟨fade, _⟩ := h State.fadingDark (by decide +kernel) 0 (by decide) (by decide +kernel)
  obtain ⟨_, _, _, _, _, _, commands⟩ := fade (Fade.new true 98000000 false) (by decide +kernel) (by decide +kernel) (by decide +kernel)
  obtain ⟨abort, _⟩ := commands (by decide +kernel) (by decide +kernel) (by decide +kernel)
  obtain ⟨t, ht, hxf, _⟩ := abort (by decide +kernel)
  rw [exec_fadeAbortCmd 0 _ _ (by decide +kernel) (by decide +kernel) (by decide +kernel)] at ht
  obtain rfl := Host.Outcome.next.inj ht
  exact absurd (State.xf_fadingDark.symm.trans hxf) (by decide)

end Sys2Proof.Machine

/-! Concrete devices for the refutations of O39 to O41. -/

namespace Sys2Proof.Machine

/-- The DAB berth 0 runs, LOCKED, with subchannel 5 in its organisation and nothing in its hold. -/
def State.lockedDab : State :=
  let s := ((State.inRun.put (F.BTH_CTRL_STANDARD 0) 4).put (F.DAB_SVC5_SYNC 0) syncLocked).down (F.BTH_CTRL_STOPPED 0)
  (s.putDab 0 { Dab.reset with org := [⟨5, 0, 4, 0⟩] }).shown

/-- The DRM berth 0 runs, LOCKED, and emits FAC and SDC units; its reference identifier has been absent for one super frame. Trellis crane 7 replays
its ticket from the mark, which was taken before that super frame: number 0 is accepted already, with another CRC-32 than its replay will have. -/
def State.replayingDrm : State :=
  let s := (((State.inRun.assignRoles 1).put (F.BTH_CTRL_STANDARD 0) 3).put (F.DRM_SVC5_SYNC 0) syncLocked).down (F.BTH_CTRL_STOPPED 0)
  let s := (s.put (F.DRM_SVC0_FACSDC_OUT 0) 1).put (F.DRM_SVC1_EXPECT_SID_LO 0) 1
  let s := ((s.put (F.BTH_STATUS_STATE 0) bsRunning).put (F.BTH_TICKET_IN_FLIGHT 0) 1).put (F.BTH_TICKET_CLASS 0) 1
  let s := ((s.put (F.BTH_TICKET_CRANE 0) 7).put (F.CRN_STATUS_BUSY 7) 1).put (F.CRN_STATUS_BERTH 7) 0
  ((s.putDrm 0 { Drm.reset with absent := 1 }).putProd 0 { Producer.reset with highest := some 0, crcs := [(0, 0)] }).shown

/-- The DAB home 0 follows and runs, berth 1 is free as its partner, and 200 MHz, the entry of its AF table, was sounded at 6 dBm now. Home 0 has the
mark of a berth that is being shed. The decision to shed sets that mark together with STOPPING (R163), but the statement of O41 does not exclude it on
a berth that shows RUNNING. -/
def State.shedDabHome : State :=
  let s := (State.inRun.put (F.BTH_CTRL_STANDARD 0) 4).put (F.BTH_STATUS_STATE 0) bsRunning
  let s := ((s.put (F.DAB_SVC0_AF_MODE 0) 2).put (F.DAB_SVC4_PARTNER 0) 1).put (F.DAB_SVC3_AF_TABLE 0) 0
  let s := ((s.put (F.AF_HEAD_KIND.ofAf 0) 2).put (F.AF_HEAD_COUNT.ofAf 0) 1).put ⟨afAddr 0 0x3014, 0, 32⟩ 200000000
  let s := s.putFoll 0 { Follow.reset with heard := [(200000000, 6000, 0)] }
  (s.putBerth 0 { Berth.reset with shedding := true }).shown

theorem State.settled_lockedDab : State.lockedDab.Settled := by
  unfold State.Settled State.Shows State.Calm
  decide +kernel

theorem State.settled_replayingDrm : State.replayingDrm.Settled := by
  unfold State.Settled State.Shows State.Calm
  decide +kernel

/-! The frame of an accepted unit (R202, R262). -/

/-- A field that no register has, at address 0 with the bit 0x100050. A read goes by the key alone, and the key is that of `HLD_FILL` of hold 0. -/
def fldFillAlias : Fld := ⟨0, 0x100050, 16⟩

theorem State.get_fldFillAlias (s : State) : s.get fldFillAlias = s.get (F.HLD_FILL_FILL.ofHold 0) := rfl

/-- The exemption of what an acceptance books goes by the address, and does not name it. -/
theorem booked_fldFillAlias : fldFillAlias.booked = false := by decide

/-- A frame of `State.changesErr` that does not list the fill of hold 0 has it unchanged, under its other name. -/
theorem State.fill_of_changesErr {s u t : State} (h : s.changesErr [] u t) :
    t.get (F.HLD_FILL_FILL.ofHold 0) = s.get (F.HLD_FILL_FILL.ofHold 0) := by
  obtain ⟨_, _, fields⟩ := h
  exact fields fldFillAlias (by simp) booked_fldFillAlias

/-- A logical frame of subchannel 5 without data. -/
def emptyFrame : SubchData := ⟨5, [], false, [], 0, 0, []⟩

/-- Refutes O39: the unit of a data subchannel enters the berth's hold, whose fill rises by a block (R262). The frame of the statement exempts what an
acceptance books by the address of a field, but speaks of every `Fld`, of which one at another address has the key of that fill. -/
theorem not_dabReception : ¬ Obligations.DabReception := by
  intro h
  obtain ⟨_, _, _, _, _, deinterleaved⟩ := h State.lockedDab State.settled_lockedDab rfl 0 (by decide) (by decide +kernel) (by decide +kernel)
  obtain ⟨t, ht, _, _, frame⟩ := deinterleaved 0 0 emptyFrame (by decide +kernel) (by decide +kernel) (by decide +kernel) (by decide +kernel)
    (by decide +kernel) (by decide +kernel) (by decide +kernel) (by decide +kernel) (by decide +kernel) (by decide +kernel) (by decide +kernel)
  have hfill := State.fill_of_changesErr frame
  rw [exec_cifDeinterleaved 0 0 0 [emptyFrame] _ rfl rfl] at ht
  obtain rfl := Host.Outcome.next.inj ht
  have hcalm : (State.lockedDab.cifOut 0 0 0 [emptyFrame]).Calm := .inl (by decide +kernel)
  rw [show (0 : BitVec 64).toNat = 0 from rfl, State.get_finish hcalm (by decide)] at hfill
  revert hfill
  decide +kernel

/-- A super frame whose SDC holds and brings nothing. -/
def plainSuper : DrmSuper := ⟨0, true, [], false, [], [], []⟩

/-- Refutes O40: the statement does not exclude that the SDC unit of the super frame is a replay whose CRC-32 differs. Its crane goes to its self-test
(R162), and the berth restarts from its mark (R161), whose context has the identifier present: the absence is counted as the first, where the
statement has the second. -/
theorem not_drmReception : ¬ Obligations.DrmReception := by
  intro h
  obtain ⟨_, superframe, _⟩ := h State.replayingDrm State.settled_replayingDrm rfl 0 (by decide) (by decide +kernel) (by decide +kernel)
  obtain ⟨second, _⟩ := superframe 0 (by decide +kernel) (by decide +kernel) (by decide +kernel)
  obtain ⟨t, ht, habsent, _⟩ := second (by decide +kernel) (by decide +kernel)
  obtain rfl := Host.Outcome.next.inj ((exec_drmSuperframe 0 plainSuper _ rfl rfl).symm.trans ht)
  have hcalm : (State.replayingDrm.drmSuper 0 plainSuper).Calm := .inl (by decide +kernel)
  rw [(State.finish_rest _ hcalm).1] at habsent
  revert habsent
  decide +kernel

/-- The fade that starts has been ended at the end of the command, for its home is being shed (R163, R220). -/
theorem State.xf_shedDabHome : (State.shedDabHome.finish (State.shedDabHome.followStart 0 0)).xf 0 = xfIdle := by decide +kernel

/-- Refutes O41: the statement does not exclude a home that is being shed while it shows RUNNING, and has no fade yet. The fade to 200 MHz starts, and
the end of the same command ends it (R220), so that XF_STATE reads IDLE, where the statement has STARTING. -/
theorem not_digitalFades : ¬ Obligations.DigitalFades := by
  intro h
  obtain ⟨start, _⟩ := h State.shedDabHome rfl 0 (by decide) (by decide +kernel)
  obtain ⟨t, ht, hxf, _⟩ := start 0 (200000000, 6000) (by decide +kernel) (by decide +kernel) (by decide +kernel) rfl rfl (by decide +kernel)
    (by decide +kernel) (by decide +kernel)
  rw [exec_digitalFadeStart 0 _ _ rfl (by decide +kernel)] at ht
  obtain rfl := Host.Outcome.next.inj ht
  exact absurd (State.xf_shedDabHome.symm.trans hxf) (by decide)

end Sys2Proof.Machine

/-! A concrete device for the refutation of O42. -/

namespace Sys2Proof.Machine

/-- The DVB-T2 berth 0 runs, LOCKED, and decodes PLP 0; its hold is empty. -/
def State.lockedT2 : State :=
  let s := ((State.inRun.put (F.BTH_CTRL_STANDARD 0) 6).put (F.T2_SVC7_SYNC 0) syncLocked).down (F.BTH_CTRL_STOPPED 0)
  (s.putDvb 0 { Dvb.reset with act := [(0, 0)] }).shown

theorem State.settled_lockedT2 : State.lockedT2.Settled := by
  unfold State.Settled State.Shows State.Calm
  decide +kernel

/-- A TS packet of PID 0 without a UP CRC-8 and without corrections, as its FEC frame brings it. -/
def plainPacket : TsPacket := ⟨0x47#8 :: List.replicate 187 0#8, none, false, 0, 0, 0⟩

/-- The packet's consignment is charged to the hold of berth 0, whose fill reads one block at the end of the command (R262). -/
theorem State.fill_lockedT2 :
    (State.lockedT2.finish (State.lockedT2.ifComplete 0 0 0 0 [⟨true, true, [plainPacket], 0⟩])).get (F.HLD_FILL_FILL.ofHold 0) = 1 := by
  have hcalm : (State.lockedT2.ifComplete 0 0 0 0 [⟨true, true, [plainPacket], 0⟩]).Calm := .inl (by decide +kernel)
  rw [State.get_finish hcalm (by decide)]
  decide +kernel

/-- Refutes O42: the packet of an interleaving frame enters the berth's hold, whose fill rises by a block (R232, R262). As in O39, the frame of the
statement exempts what an acceptance books by the address of a field, but speaks of every `Fld`, of which one at another address has the key of that
fill. -/
theorem not_dvbReception : ¬ Obligations.DvbReception := by
  intro h
  obtain ⟨_, _, _, _, _, _, _, _, consigned, _⟩ := h State.lockedT2 State.settled_lockedT2 rfl rfl 0 (by decide)
  obtain ⟨t, ht, _, _, frame⟩ := consigned 0 0 0 0 plainPacket (by decide +kernel) (by decide +kernel) (by decide +kernel) (by decide +kernel)
    (by decide +kernel) (by decide +kernel) (by decide +kernel) (by decide +kernel) rfl rfl (by decide +kernel) (by decide +kernel) (by decide +kernel)
    (by decide +kernel)
  rw [exec_interleavingFrameComplete 0 0 0 0 _ _ rfl rfl] at ht
  obtain rfl := Host.Outcome.next.inj ht
  have empty : State.lockedT2.get (F.HLD_FILL_FILL.ofHold 0) = 0 := by decide +kernel
  exact absurd (State.fill_lockedT2.symm.trans ((State.fill_of_changesErr frame).trans empty)) (by decide)

end Sys2Proof.Machine

/-! What the proofs of this part share: effects on register fields beside an update of other parts, at the end of their command. -/

namespace Sys2Proof.Machine

/-- `u` differs from `s` in nothing that the end of a command reads or that a register field shows. -/
structure State.Beside (s u : State) : Prop where
  regs : u.regs = s.regs
  mode : u.mode = s.mode
  ivTable : u.ivTable = s.ivTable
  alerts : u.alerts = s.alerts
  pending : u.pending = s.pending
  berths : u.berths = s.berths
  follow : u.follow = s.follow

theorem State.Beside.refl (s : State) : s.Beside s := ⟨rfl, rfl, rfl, rfl, rfl, rfl, rfl⟩

/-- From `u` to `t` register fields alone have changed, and of these only those listed. -/
structure State.Writes (l : List Fld) (u t : State) : Prop where
  regs : u.regsOnly t
  fields : State.fieldsBut l u t

namespace State.Writes

variable {l : List Fld} {u t : State}

theorem refl (l : List Fld) (u : State) : State.Writes l u u := ⟨State.regsOnly.refl u, State.fieldsBut.refl l u⟩

theorem put (h : State.Writes l u t) {f : Fld} (hf : f.key ∈ l.map Fld.key) (v : Nat) : State.Writes l u (t.put f v) :=
  ⟨h.regs.put f v, h.fields.put hf v⟩

theorem up (h : State.Writes l u t) {f : Fld} (hf : f.key ∈ l.map Fld.key) : State.Writes l u (t.up f) := h.put hf 1

theorem down (h : State.Writes l u t) {f : Fld} (hf : f.key ∈ l.map Fld.key) : State.Writes l u (t.down f) := h.put hf 0

theorem bump (h : State.Writes l u t) {f : Fld} (hf : f.key ∈ l.map Fld.key) : State.Writes l u (t.bump f) := h.put hf _

theorem bumpWrap (h : State.Writes l u t) {f : Fld} (hf : f.key ∈ l.map Fld.key) : State.Writes l u (t.bumpWrap f) := h.put hf _

theorem when (h : State.Writes l u t) {c : Bool} {g : State → State} (hg : ∀ x, State.Writes l u x → State.Writes l u (g x)) :
    State.Writes l u (t.when c g) := by
  unfold State.when
  split
  · exact hg t h
  · exact h

theorem attn (h : State.Writes l u t) (b : Nat) (h1 : F.TW_ATTN_SRC_SOURCES.key ∈ l.map Fld.key)
    (h2 : F.TW_STATUS_ATTN_PENDING.key ∈ l.map Fld.key) : State.Writes l u (t.attn b) := by
  refine ⟨?_, h.fields.attn b h1 h2⟩
  rw [State.regsOnly, State.attn_regs]
  exact congrArg (fun x : State => { x with regs := (t.attn b).regs }) h.regs

/-- At the end of its command, an effect on register fields beside an update that no end of a command reads. -/
theorem finish {s : State} (hs : s.Settled) (hu : s.Beside u) (h : State.Writes l u t) (hk : ∀ k ∈ shownKeys, k ∉ l.map Fld.key) :
    s.changes l u (s.finish t) ∧ ∀ f : Fld, f.key ∉ shownKeys → (s.finish t).get f = t.get f := by
  have hc : u.Calm := hs.2.of_eq hu.berths hu.follow
  refine ⟨State.changes_finish hs.1 hc h.regs hu.mode hu.ivTable hu.alerts hu.pending hk fun f hf => ?_, fun f hf => State.get_finish (h.regs.calm hc) hf⟩
  rw [h.fields f hf, State.get, State.get, hu.regs]

end State.Writes

/-- The whole state changes in the update alone. -/
theorem State.changes_beside {s u : State} (hs : s.Settled) (hu : s.Beside u) : s.changes [] u (s.finish u) :=
  ((State.Writes.refl [] u).finish hs hu (by simp)).1

theorem State.onlyFields_self {s : State} (hs : s.Settled) : s.onlyFields [] (s.finish s) := State.changes_beside hs (State.Beside.refl s)

end Sys2Proof.Machine

section

open Sys2Proof Sys2Proof.Machine

/-- Settles O2: a command answers the state as it was or the end of an effect on it, and both have its queue. -/
theorem commandsAnswer : Obligations.CommandsAnswer := by
  intro c s
  rcases exec_answers c s with h | ⟨u, h⟩
  · exact ⟨s, h, rfl⟩
  · exact ⟨s.finish u, h, rfl⟩

namespace Sys2Proof.Machine

/-! Transactions of the two-wire port (R413 to R427). -/

theorem State.twAnswers_of {s : State} (hd : s.dead = false) (hp : s.pinLow = false) (hc : 1000000 ≤ s.clock) : s.twAnswers = true := by
  simp [State.twAnswers, hd, hp, hc, Nat.ble_eq]

theorem State.Beside.setTw (s : State) (v : TwoWire) : s.Beside (s.setTw v) := ⟨rfl, rfl, rfl, rfl, rfl, rfl, rfl⟩

end Sys2Proof.Machine

/-- Settles O14: each event changes the port alone, and the end of its command nothing more. -/
theorem twTransaction : Obligations.TwTransaction := by
  intro s hs hd hp hc
  have ha := State.twAnswers_of hd hp hc
  refine ⟨fun addr read hi => ⟨_, exec_twStart addr read s hd, ?_⟩, fun ra hm hr => ⟨_, exec_twPointerSet ra s hd, ?_⟩,
    ⟨_, exec_twStop s hd, State.changes_beside hs (State.Beside.setTw s _)⟩⟩
  · rw [show s.twStart addr.toNat read = _ from if_neg (by simp [ha, hi])]
    exact State.changes_beside hs (State.Beside.setTw s _)
  · rw [show s.twPointer ra.toNat = _ from if_pos (by simp [hm, hr])]
    exact State.changes_beside hs (State.Beside.setTw s _)

namespace Sys2Proof.Machine

/-! What neither the end of a command nor a read of a register sees: the port itself (R417, R420) and the bytes of the keys (R322, R326). -/

/-- A change of the port and of where key bytes stand. -/
structure Aside where
  tw : TwoWire → TwoWire := id
  slots : Tbl Slot → Tbl Slot := id
  kek : Option (List Byte) → Option (List Byte) := id
  keyWrap : Tbl Nat → Tbl Nat := id
  kekData : Tbl Nat → Tbl Nat := id
  kekBurn : Option (List Byte) → Option (List Byte) := id

/-- Makes such a change. -/
def State.putAside (s : State) (v : Aside) : State :=
  { s with tw := v.tw s.tw, slots := v.slots s.slots, kek := v.kek s.kek, keyWrap := v.keyWrap s.keyWrap, kekData := v.kekData s.kekData,
           kekBurn := v.kekBurn s.kekBurn }

/-- An operation that neither reads nor changes them. -/
def State.SkipsAside (g : State → State) : Prop := ∀ (s : State) (v : Aside), g (s.putAside v) = (g s).putAside v

/-- What `fadeAbort` does at one berth: the fade of a home ends, or in the SWAP of a digital one its partner drains. -/
def State.dropFade (result h : Nat) (s : State) : State :=
  match s.fadeOf h with
  | none => s
  | some _ =>
    if s.digital h && s.xf h == xfSwap then (s.fadeUpdate h (fun f => { f with drained := true })).partnerStop (s.partner h)
    else s.fadeEnd h result

theorem State.fadeAbort_eq (s : State) (n result : Nat) :
    s.fadeAbort n result = match (State.dropFade result n s).homeOf n with
      | some h => State.dropFade result h (State.dropFade result n s)
      | none => State.dropFade result n s := rfl

namespace State.SkipsAside

variable {g h : State → State}

theorem id : State.SkipsAside fun s => s := fun _ _ => rfl

theorem comp (hg : State.SkipsAside g) (hh : State.SkipsAside h) : State.SkipsAside fun s => h (g s) := fun s v =>
  (congrArg h (hg s v)).trans (hh (g s) v)

theorem ite {c : State → Bool} (hc : ∀ s v, c (s.putAside v) = c s) (hg : State.SkipsAside g) (hh : State.SkipsAside h) :
    State.SkipsAside fun s => if c s then g s else h s := by
  intro s v
  dsimp only
  rw [hc]
  split
  · exact hg s v
  · exact hh s v

theorem when {c : State → Bool} (hc : ∀ s v, c (s.putAside v) = c s) (hg : State.SkipsAside g) : State.SkipsAside fun s => s.when (c s) g := hg.ite hc id

theorem each {α : Type} {f : α → State → State} (hf : ∀ a, State.SkipsAside (f a)) (l : List α) : State.SkipsAside fun s => s.each l f := by
  intro s v
  induction l generalizing s with
  | nil => rfl
  | cons a l ih => exact (congrArg (State.each · l f) (hf a s v)).trans (ih (f a s))

theorem shade (c : Nat) (f : Fld) (x : Nat) (armed : Bool) : State.SkipsAside (·.shade c f x armed) := fun s v => by
  cases armed <;> rfl

theorem journal (a : Nat) (old new : State → Nat) (src res det : Nat) (ho : ∀ s v, old (s.putAside v) = old s) (hn : ∀ s v, new (s.putAside v) = new s) :
    State.SkipsAside fun s => s.journal a (old s) (new s) src res det := by
  intro s v
  dsimp only
  rw [ho, hn]
  unfold State.journal
  dsimp only
  by_cases h : s.jnl.length < 1024
  · rw [if_pos h, if_pos (show (s.putAside v).jnl.length < 1024 from h)]; rfl
  · rw [if_neg h, if_neg (show ¬ (s.putAside v).jnl.length < 1024 from h)]; rfl

theorem put (f : Fld) (x : Nat) : State.SkipsAside (·.put f x) := fun _ _ => rfl

theorem supArm (c a : Nat) (f : Fld) (x : Nat) : State.SkipsAside (·.supArm c a f x) :=
  (journal a (·.wordAt a) (fun s => s.wordAt a - s.get f * 2 ^ f.lo + x * 2 ^ f.lo) srcSupervisor resLive 0 (fun _ _ => rfl) (fun _ _ => rfl)).comp
    (shade c f x true)

theorem partnerStop (p : Nat) : State.SkipsAside (·.partnerStop p) := by
  have stop := (supArm (berthCommit p) (0x400 + 0x40 * p) (F.BTH_CTRL_RUN p) 0).comp (put (F.BTH_STATUS_STATE p) bsStopping)
  have lane := supArm (laneCommit p) (0x410 + 0x40 * p) (F.LN_CTRL_RUN p) 0
  exact (stop.when (c := fun s => !s.on (F.BTH_CTRL_STOPPED p)) fun _ _ => rfl).comp (lane.when (c := fun s => s.laneRuns p) fun _ _ => rfl)

/-- The marks of the end of a fade. -/
theorem fadeMarks (h result : Nat) (x : Follow) :
    State.SkipsAside fun s => (((s.putFoll h x).setXf h xfIdle).put (F.FM_SVC7_XF_RESULT h) result).up (F.FM_SVC7_XF_DONE_EV h) := fun _ _ => rfl

theorem fadeEnd (h result : Nat) : State.SkipsAside (·.fadeEnd h result) := by
  intro s v
  have foll : (s.putAside v).foll h = s.foll h := rfl
  have partner : (s.putAside v).partner h = s.partner h := rfl
  dsimp only
  unfold State.fadeEnd
  rw [show (s.putAside v).fadeOf h = s.fadeOf h from rfl]
  cases s.fadeOf h with
  | none => rfl
  | some f =>
    dsimp only
    rw [foll, partner]
    exact (fadeMarks h result _).comp (partnerStop (s.partner h)) s v

theorem dropFade (result h : Nat) : State.SkipsAside (State.dropFade result h) := by
  intro s v
  unfold State.dropFade
  rw [show (s.putAside v).fadeOf h = s.fadeOf h from rfl]
  cases s.fadeOf h with
  | none => rfl
  | some f =>
    have drain : State.SkipsAside fun s => s.fadeUpdate h (fun f => { f with drained := true }) := fun _ _ => rfl
    exact ite (c := fun s => s.digital h && s.xf h == xfSwap) (fun _ _ => rfl) (drain.comp (partnerStop (s.partner h))) (fadeEnd h result) s v

theorem fadeAbort (n result : Nat) : State.SkipsAside (·.fadeAbort n result) := by
  intro s v
  have first := dropFade result n s v
  dsimp only
  rw [State.fadeAbort_eq, State.fadeAbort_eq, first, show ((State.dropFade result n s).putAside v).homeOf n = (State.dropFade result n s).homeOf n from rfl]
  cases (State.dropFade result n s).homeOf n with
  | none => rfl
  | some h => exact dropFade result h _ v

theorem shedFades : State.SkipsAside State.shedFades := by
  intro s v
  have one : ∀ n, State.SkipsAside fun t => t.when ((t.fadeOf n).isSome || (t.homeOf n).isSome) (·.fadeAbort n xrAbortEvent) := fun n =>
    (fadeAbort n xrAbortEvent).when (c := fun t => (t.fadeOf n).isSome || (t.homeOf n).isSome) fun _ _ => rfl
  exact each one _ s v

theorem markWindow (n : Nat) : State.SkipsAside fun s => s.markWindow n (s.touchOf n) := by
  intro s v
  dsimp only
  unfold State.markWindow
  rw [show (s.putAside v).window n = s.window n from rfl]
  cases s.window n with
  | none => rfl
  | some w => rfl

theorem touchRecords : State.SkipsAside State.touchRecords := by
  intro s v
  exact congrArg (·.setInjSeen false) (each markWindow (Tbl.keys s.injShow.windows) s.injShow v)

theorem recordsTouch : State.SkipsAside State.recordsTouch := by
  have opens : State.SkipsAside fun s => s.openWindow winIntake (2 ^ pbPartial) := fun _ _ => rfl
  have shuts : State.SkipsAside fun s => s.putWindow winIntake none := fun _ _ => rfl
  exact touchRecords.comp
    (opens.ite (c := fun s => (s.get F.MSR_CFG_INTAKE_PERIOD != 0 && (s.serving || s.mode == .survey)) && (s.window winIntake).isNone) (fun _ _ => rfl)
      (shuts.ite (c := fun s => !(s.get F.MSR_CFG_INTAKE_PERIOD != 0 && (s.serving || s.mode == .survey)) && (s.window winIntake).isSome) (fun _ _ => rfl) id))

/-- The end of a command neither reads nor changes them. -/
theorem finish (s : State) : State.SkipsAside s.finish := by
  have show' : State.SkipsAside fun t => t.shown.setPending s.pending := fun _ _ => rfl
  exact (shedFades.comp recordsTouch).comp show'

end State.SkipsAside

theorem State.setTw_eq (s : State) (v : TwoWire) : s.setTw v = s.putAside { tw := fun _ => v } := rfl

theorem State.finish_setTw (s t : State) (v : TwoWire) : s.finish (t.setTw v) = (s.finish t).setTw v := by
  rw [State.setTw_eq, State.setTw_eq]
  exact State.SkipsAside.finish s t _

theorem State.finish_tw (s t : State) : (s.finish t).tw = t.tw := by
  have same := congrArg (fun u : State => u.tw) (State.finish_setTw s t t.tw)
  exact same

end Sys2Proof.Machine

/-- Settles O15: a word written is the register write with the pointer advanced; a word read is the register read, whose end leaves the port. -/
theorem twWords : Obligations.TwWords := by
  intro s hd hp hm hptr
  have ha : (BitVec.ofNat 16 s.tw.pointer).toNat = s.tw.pointer := Nat.mod_eq_of_lt hptr
  refine ⟨fun w hr => ⟨_, exec_twWordWrite w s hd, ?_⟩, fun ack hr => ⟨_, _, exec_twWordRead ack s hd, exec_readWithEffect _ s hd (by simp [hp]), ?_⟩⟩
  · rw [exec_registerWrite _ w (s.setTw { s.tw with pointer := (s.tw.pointer + 1) % 65536 }) hd hp, ha,
      show s.twWrite w.toNat = _ from if_pos (by simp [hm, hr])]
    rfl
  · rw [ha, show s.twRead ack = _ from if_pos (by simp [hm, hr]), State.finish_tw]
    exact State.finish_setTw s _ _

namespace Sys2Proof.Machine

/-! Broken transactions (R422 to R427). -/

theorem State.Writes.twDiscard {l : List Fld} {u t : State} (h : State.Writes l u t) (part : Bool) (hf : F.TW_STATUS_PARTIAL_EV.key ∈ l.map Fld.key) :
    State.Writes l u (t.twDiscard part) := h.when fun _ hx => hx.up hf

/-- A discarded word shows, and no other field. -/
theorem State.get_twDiscard (s : State) (part : Bool) (f : Fld) :
    (s.twDiscard part).get f = if part = true ∧ f.key = F.TW_STATUS_PARTIAL_EV.key then 1 else s.get f := by
  cases part
  · simp [State.twDiscard, State.when]
  · simp [State.twDiscard, State.when, State.get_up, F.TW_STATUS_PARTIAL_EV]

end Sys2Proof.Machine

namespace Sys2Proof.Machine

/-- A START or STOP out of place at the end of its command (R423). -/
theorem State.finish_twFrame {s : State} (hs : s.Settled) (ha : s.twAnswers = true) (hi : s.tw.ignore = false) (start part : Bool) :
    let t := s.finish (s.twFrame start part)
    t.get F.TW_STATUS_PARTIAL_EV = (if part then 1 else s.get F.TW_STATUS_PARTIAL_EV) ∧ t.get F.TW_STATUS_FRAME_EV = 1 ∧
      t.get F.TW_COUNTS_FRAME = min 255 (s.get F.TW_COUNTS_FRAME + 1) ∧
      s.changes [F.TW_STATUS_PARTIAL_EV, F.TW_STATUS_FRAME_EV, F.TW_COUNTS_FRAME]
        (s.setTw { s.tw with opened := start, mine := false, reading := false, ignore := false }) t := by
  generalize hu : s.setTw { s.tw with opened := start, mine := false, reading := false, ignore := false } = u
  have e : s.twFrame start part = ((u.twDiscard part).up F.TW_STATUS_FRAME_EV).bump F.TW_COUNTS_FRAME := by
    unfold State.twFrame
    subst hu
    simp only [ha, hi, Bool.not_true, Bool.false_eq_true, if_false]
    cases start <;> cases part <;> rfl
  have w : State.Writes [F.TW_STATUS_PARTIAL_EV, F.TW_STATUS_FRAME_EV, F.TW_COUNTS_FRAME] u (s.twFrame start part) := by
    rw [e]
    exact (((State.Writes.refl _ u).twDiscard part (by simp)).up (by simp)).bump (by simp)
  obtain ⟨changes, shows⟩ := w.finish hs (by subst hu; exact State.Beside.setTw s _) (by decide)
  have reads : ∀ f, u.get f = s.get f := fun f => by subst hu; rfl
  refine ⟨(shows _ (by decide)).trans ?_, (shows _ (by decide)).trans ?_, (shows _ (by decide)).trans ?_, changes⟩
  · cases part <;> simp [e, State.get_bump, State.get_up, State.get_twDiscard, reads, Fld.key, F.TW_STATUS_PARTIAL_EV, F.TW_STATUS_FRAME_EV, F.TW_COUNTS_FRAME]
  · simp [e, State.get_bump, State.get_up, Fld.key, F.TW_STATUS_FRAME_EV, F.TW_COUNTS_FRAME]
  · simp [e, State.get_bump, State.get_up, State.get_twDiscard, reads, Fld.key, F.TW_STATUS_PARTIAL_EV, F.TW_STATUS_FRAME_EV, F.TW_COUNTS_FRAME]

end Sys2Proof.Machine

namespace Sys2Proof.Machine

/-- A release of `TW_SDA` at the end of its command (R425). -/
theorem State.finish_twAbandon {s : State} (hs : s.Settled) (hm : s.tw.mine = true) (part : Bool) :
    let t := s.finish (s.twAbandon part)
    t.get F.TW_STATUS_PARTIAL_EV = (if part then 1 else s.get F.TW_STATUS_PARTIAL_EV) ∧ t.get F.TW_STATUS_ABANDON_EV = 1 ∧
      s.changes [F.TW_STATUS_PARTIAL_EV, F.TW_STATUS_ABANDON_EV] (s.setTw { s.tw with opened := false, mine := false, reading := false }) t := by
  generalize hu : s.setTw { s.tw with opened := false, mine := false, reading := false } = u
  have e : s.twAbandon part = (u.twDiscard part).up F.TW_STATUS_ABANDON_EV := by
    subst hu
    exact (if_pos hm).trans (by cases part <;> rfl)
  have w : State.Writes [F.TW_STATUS_PARTIAL_EV, F.TW_STATUS_ABANDON_EV] u (s.twAbandon part) := by
    rw [e]
    exact ((State.Writes.refl _ u).twDiscard part (by simp)).up (by simp)
  obtain ⟨changes, shows⟩ := w.finish hs (by subst hu; exact State.Beside.setTw s _) (by decide)
  have reads : ∀ f, u.get f = s.get f := fun f => by subst hu; rfl
  refine ⟨(shows _ (by decide)).trans ?_, (shows _ (by decide)).trans ?_, changes⟩
  · cases part <;> simp [e, State.get_up, State.get_twDiscard, reads, Fld.key, F.TW_STATUS_PARTIAL_EV, F.TW_STATUS_ABANDON_EV]
  · simp [e, State.get_up, F.TW_STATUS_ABANDON_EV]

/-- A value that is late at the end of its command (R7, R422). -/
theorem State.finish_twStale {s : State} (hs : s.Settled) (hm : s.tw.mine = true) (hr : s.tw.reading = true) (hl : s.mayStale = true)
    (hst : s.stage = none) :
    let t := s.finish s.twStale
    t.get F.TW_STATUS_STALE_READ_EV = 1 ∧ t.get F.TW_COUNTS_STALE = min 255 (s.get F.TW_COUNTS_STALE + 1) ∧
      s.changes [F.TW_STATUS_STALE_READ_EV, F.TW_COUNTS_STALE]
        ((s.setSnap (s.snap.filter (·.1 != s.tw.pointer))).setTw { s.tw with word := 0, pointer := (s.tw.pointer + 1) % 65536 }) t := by
  generalize hu : (s.setSnap (s.snap.filter (·.1 != s.tw.pointer))).setTw { s.tw with word := 0, pointer := (s.tw.pointer + 1) % 65536 } = u
  have e : s.twStale = (u.up F.TW_STATUS_STALE_READ_EV).bump F.TW_COUNTS_STALE := by
    unfold State.twStale
    rw [if_pos (by simp [hm, hr, hl]), State.touch_unstaged hst]
    subst hu
    rfl
  have w : State.Writes [F.TW_STATUS_STALE_READ_EV, F.TW_COUNTS_STALE] u s.twStale := by
    rw [e]
    exact ((State.Writes.refl _ u).up (by simp)).bump (by simp)
  obtain ⟨changes, shows⟩ := w.finish hs (by subst hu; exact ⟨rfl, rfl, rfl, rfl, rfl, rfl, rfl⟩) (by decide)
  have reads : ∀ f, u.get f = s.get f := fun f => by subst hu; rfl
  refine ⟨(shows _ (by decide)).trans ?_, (shows _ (by decide)).trans ?_, changes⟩
  · simp [e, State.get_bump, State.get_up, Fld.key, F.TW_STATUS_STALE_READ_EV, F.TW_COUNTS_STALE]
  · simp [e, State.get_bump, State.get_up, reads, Fld.key, F.TW_STATUS_STALE_READ_EV, F.TW_COUNTS_STALE]

/-- A stuck clock line at the end of its command (R427). -/
theorem State.finish_twSclStuck {s : State} (hs : s.Settled) (ho : s.tw.opened = true) (part : Bool) :
    let t := s.finish (s.twSclStuck part)
    t.get F.TW_STATUS_PARTIAL_EV = (if part then 1 else s.get F.TW_STATUS_PARTIAL_EV) ∧ t.get F.TW_STATUS_SCL_STUCK = 1 ∧
      t.get F.TW_STATUS_SCL_LOW = 1 ∧
      s.changes [F.TW_STATUS_PARTIAL_EV, F.TW_STATUS_SCL_STUCK, F.TW_STATUS_SCL_LOW]
        (s.setTw { s.tw with opened := false, mine := false, reading := false }) t := by
  generalize hu : s.setTw { s.tw with opened := false, mine := false, reading := false } = u
  have e : s.twSclStuck part = ((u.twDiscard part).up F.TW_STATUS_SCL_STUCK).up F.TW_STATUS_SCL_LOW := by
    subst hu
    exact (if_pos ho).trans (by cases part <;> rfl)
  have w : State.Writes [F.TW_STATUS_PARTIAL_EV, F.TW_STATUS_SCL_STUCK, F.TW_STATUS_SCL_LOW] u (s.twSclStuck part) := by
    rw [e]
    exact (((State.Writes.refl _ u).twDiscard part (by simp)).up (by simp)).up (by simp)
  obtain ⟨changes, shows⟩ := w.finish hs (by subst hu; exact State.Beside.setTw s _) (by decide)
  have reads : ∀ f, u.get f = s.get f := fun f => by subst hu; rfl
  refine ⟨(shows _ (by decide)).trans ?_, (shows _ (by decide)).trans ?_, (shows _ (by decide)).trans ?_, changes⟩
  · cases part <;> simp [e, State.get_up, State.get_twDiscard, reads, Fld.key, F.TW_STATUS_PARTIAL_EV, F.TW_STATUS_SCL_STUCK, F.TW_STATUS_SCL_LOW]
  · simp [e, State.get_up, Fld.key, F.TW_STATUS_SCL_STUCK, F.TW_STATUS_SCL_LOW]
  · simp [e, State.get_up, F.TW_STATUS_SCL_LOW]

/-- A stuck data line at the end of its command (R427). -/
theorem State.finish_twSdaStuck {s : State} (hs : s.Settled) (ha : s.twAnswers = true) (hp : s.tw.pulse = false) :
    let t := s.finish s.twSdaStuck
    t.get F.TW_STATUS_SDA_STUCK = 1 ∧ t.get F.TW_STATUS_SDA_LOW = 1 ∧ s.onlyFields [F.TW_STATUS_SDA_STUCK, F.TW_STATUS_SDA_LOW] t := by
  have e : s.twSdaStuck = (s.up F.TW_STATUS_SDA_STUCK).up F.TW_STATUS_SDA_LOW := if_pos (by simp [ha, hp])
  rw [e]
  have w : State.Writes [F.TW_STATUS_SDA_STUCK, F.TW_STATUS_SDA_LOW] s ((s.up F.TW_STATUS_SDA_STUCK).up F.TW_STATUS_SDA_LOW) :=
    ((State.Writes.refl _ s).up (by simp)).up (by simp)
  obtain ⟨changes, shows⟩ := w.finish hs (State.Beside.refl s) (by decide)
  refine ⟨(shows _ (by decide)).trans ?_, (shows _ (by decide)).trans ?_, changes⟩
  · simp [State.get_up, Fld.key, F.TW_STATUS_SDA_STUCK, F.TW_STATUS_SDA_LOW]
  · simp [State.get_up, F.TW_STATUS_SDA_LOW]

end Sys2Proof.Machine

/-- Settles O16: each trouble by its marks and what it leaves of the transaction, at the end of its command. -/
theorem twTroubles : Obligations.TwTroubles := by
  intro s hs hd hp hc
  have ha := State.twAnswers_of hd hp hc
  refine ⟨fun start part hi => ?_, fun part hm => ?_, fun hm hr hl hst => ?_, fun part ho => ?_, fun hpulse => ?_⟩
  · obtain ⟨partialEv, frame, count, changes⟩ := State.finish_twFrame hs ha hi start part
    exact ⟨_, exec_twFrameError start part s hd, fun h => by rw [partialEv, if_pos h], fun h => by rw [partialEv, h]; rfl, frame, count, changes⟩
  · obtain ⟨partialEv, abandon, changes⟩ := State.finish_twAbandon hs hm part
    exact ⟨_, exec_twSdaReleaseTimeout part s hd, fun h => by rw [partialEv, if_pos h], fun h => by rw [partialEv, h]; rfl, abandon, changes⟩
  · obtain ⟨stale, count, changes⟩ := State.finish_twStale hs hm hr hl hst
    exact ⟨_, exec_twStretchTimeout s hd, by rw [changes.1]; rfl, stale, count, changes⟩
  · obtain ⟨partialEv, stuck, low, changes⟩ := State.finish_twSclStuck hs ho part
    exact ⟨_, exec_twSclTimeout part s hd, fun h => by rw [partialEv, if_pos h], fun h => by rw [partialEv, h]; rfl, stuck, low, changes⟩
  · exact ⟨_, exec_twSdaTimeout s hd, State.finish_twSdaStuck hs ha hpulse⟩

namespace Sys2Proof.Machine

/-! The request for attention (R428, R429). -/

/-- The end of a pulse at the end of its command. -/
theorem State.finish_pulseEnd {s : State} (hs : s.Settled) (hp : s.tw.pulse = true) :
    let t := s.finish s.pulseEnd
    t.get F.TW_STATUS_ATTN_PENDING = 0 ∧ t.get F.TW_COUNTS_ATTN_SENT = min 255 (s.get F.TW_COUNTS_ATTN_SENT + 1) ∧
      s.changes [F.TW_STATUS_ATTN_PENDING, F.TW_COUNTS_ATTN_SENT] (s.setTw { s.tw with pulse := false }) t := by
  rw [show s.pulseEnd = _ from if_pos hp]
  obtain ⟨changes, shows⟩ := (((State.Writes.refl [F.TW_STATUS_ATTN_PENDING, F.TW_COUNTS_ATTN_SENT] (s.setTw { s.tw with pulse := false })).down
    (f := F.TW_STATUS_ATTN_PENDING) (by simp)).bump (f := F.TW_COUNTS_ATTN_SENT) (by simp)).finish hs (State.Beside.setTw s _) (by decide)
  refine ⟨(shows _ (by decide)).trans ?_, (shows _ (by decide)).trans ?_, changes⟩
  · simp [State.get_bump, State.get_down, Fld.key, F.TW_STATUS_ATTN_PENDING, F.TW_COUNTS_ATTN_SENT]
  · simp [State.get_bump, State.get_down, Fld.key, F.TW_STATUS_ATTN_PENDING, F.TW_COUNTS_ATTN_SENT]

/-- A collision at the end of its command. -/
theorem State.finish_pulseCollide {s : State} (hs : s.Settled) (hp : s.tw.pulse = true) :
    let t := s.finish s.pulseCollide
    t.get F.TW_COUNTS_ATTN_COLLIDE = min 255 (s.get F.TW_COUNTS_ATTN_COLLIDE + 1) ∧
      s.changes [F.TW_COUNTS_ATTN_COLLIDE] (s.setTw { s.tw with pulse := false }) t := by
  rw [show s.pulseCollide = _ from if_pos hp]
  obtain ⟨changes, shows⟩ := ((State.Writes.refl [F.TW_COUNTS_ATTN_COLLIDE] (s.setTw { s.tw with pulse := false })).bump
    (f := F.TW_COUNTS_ATTN_COLLIDE) (by simp)).finish hs (State.Beside.setTw s _) (by decide)
  refine ⟨(shows _ (by decide)).trans ?_, changes⟩
  simp [State.get_bump, F.TW_COUNTS_ATTN_COLLIDE]

/-- A line that rises at the end of its command. -/
theorem State.finish_twRisen {s : State} (hs : s.Settled) {scl : Bool} (hl : s.on (if scl then F.TW_STATUS_SCL_LOW else F.TW_STATUS_SDA_LOW) = true) :
    let t := s.finish (s.twRisen scl)
    t.get (if scl then F.TW_STATUS_SCL_LOW else F.TW_STATUS_SDA_LOW) = 0 ∧ bit (t.get F.TW_ATTN_SRC_SOURCES) 7 = true ∧
      s.onlyFields [F.TW_STATUS_SCL_LOW, F.TW_STATUS_SDA_LOW, F.TW_ATTN_SRC_SOURCES, F.TW_STATUS_ATTN_PENDING] t := by
  rw [show s.twRisen scl = _ from if_pos hl]
  have w : State.Writes [F.TW_STATUS_SCL_LOW, F.TW_STATUS_SDA_LOW, F.TW_ATTN_SRC_SOURCES, F.TW_STATUS_ATTN_PENDING] s
      ((s.down (if scl then F.TW_STATUS_SCL_LOW else F.TW_STATUS_SDA_LOW)).attn 7) :=
    ((State.Writes.refl _ s).down (by cases scl <;> simp)).attn 7 (by simp) (by simp)
  obtain ⟨changes, shows⟩ := w.finish hs (State.Beside.refl s) (by decide)
  refine ⟨(shows _ (by cases scl <;> decide)).trans ?_, ?_, changes⟩
  · rw [State.get_attn _ _ (by cases scl <;> decide) (by cases scl <;> decide), State.get_down, if_pos rfl]
  · rw [shows _ (by decide)]
    exact State.attn_source _ (by decide)

end Sys2Proof.Machine

/-- Settles O17: each event of the pulse and the lines by its marks, at the end of its command. -/
theorem twAttention : Obligations.TwAttention := by
  intro s hs hd
  refine ⟨fun hp hc hpend hen ho hscl hsda => ⟨_, exec_attnPulseStart s hd, ?_⟩,
    fun hpulse => ⟨⟨_, exec_attnPulseEnd s hd, State.finish_pulseEnd hs hpulse⟩, ⟨_, exec_attnCollide s hd, State.finish_pulseCollide hs hpulse⟩⟩,
    fun hrep hen hsrc => ⟨_, exec_attnRepeat s hd, ?_⟩, fun scl hl => ⟨_, exec_twLineRisen scl s hd, State.finish_twRisen hs hl⟩⟩
  · rw [show s.pulseStart = s.setTw { s.tw with pulse := true } from
      if_pos (by simp [State.twAnswers_of hd hp hc, hpend, hen, ho, hscl, hsda])]
    exact State.changes_beside hs (State.Beside.setTw s _)
  · rw [show s.attnRepeat = s.up F.TW_STATUS_ATTN_PENDING from if_pos (by simp [hrep, hen, hsrc])]
    obtain ⟨changes, shows⟩ := ((State.Writes.refl [F.TW_STATUS_ATTN_PENDING] s).up (f := F.TW_STATUS_ATTN_PENDING) (by simp)).finish hs
      (State.Beside.refl s) (by decide)
    exact ⟨(shows _ (by decide)).trans (by simp [State.get_up, F.TW_STATUS_ATTN_PENDING]), changes⟩

end

section

open Sys2Proof Sys2Proof.Machine

namespace Sys2Proof.Machine

/-! Holds and numbers (R261 to R272): a new fill shows in register fields alone. -/

theorem State.regsOnly.attn {s t : State} (h : s.regsOnly t) (b : Nat) : s.regsOnly (t.attn b) := by
  rw [State.regsOnly, State.attn_regs]
  exact congrArg (fun x : State => { x with regs := (t.attn b).regs }) h

theorem State.regsOnly.holdEvent {s t : State} (h : s.regsOnly t) (n : Nat) (f : Fld) (enabled : Bool) : s.regsOnly (t.holdEvent n f enabled) :=
  (h.up _).when fun _ hu => hu.attn 1

theorem State.regsOnly.holdJudge {s t : State} (h : s.regsOnly t) (n : Nat) : s.regsOnly (t.holdJudge n) := by
  unfold State.holdJudge
  dsimp only
  split
  · exact ((h.up _).put _ _).holdEvent _ _ _
  · split
    · exact ((h.down _).put _ _).holdEvent _ _ _
    · exact h

theorem State.regsOnly.holdFill {s t : State} (h : s.regsOnly t) (n fill : Nat) : s.regsOnly (t.holdFill n fill) :=
  (((h.put _ _).when fun _ hu => hu.put _ _).put _ _).holdJudge _

theorem State.regsOnly.refreshHolds {s t : State} (h : s.regsOnly t) (n q : Nat) : s.regsOnly (t.refreshHolds n q) := by
  unfold State.refreshHolds
  exact (h.holdFill n _).holdFill (96 + q) _

theorem State.prod_numbered (s : State) (p : Nat) (d : List Byte) :
    (s.numbered p d).prod p =
      ⟨((s.prod p).next + 1) % 2 ^ 32, (s.prod p).released, some (s.prod p).next, (((s.prod p).next, (crc32 d).toNat) :: (s.prod p).crcs).take 8⟩ :=
  Tbl.get_set_eq ..

/-- The item that an acceptance at the hold entrance makes (R271, R275). -/
def State.newItem (s : State) (p content flags ts : Nat) (d : List Byte) (reserve : Bool) : Item :=
  ⟨p, (s.prod p).next, content, s.flagsNow flags, s.epoch, ts, d, holdOfProducer p, s.route p content, reserve, false, s.captureOf p content, Copy.of d⟩

/-- An acceptance: the item is the newest of custody, its producer gives the next number, and the rest shows in register fields (R271, R275). -/
theorem State.accept_rest (s : State) (p content flags ts : Nat) (d : List Byte) (reserve : Bool) :
    State.regsOnly ((s.setCustody (s.custody ++ [s.newItem p content flags ts d reserve])).numbered p d) (s.accept p content flags ts d reserve) := by
  unfold State.accept
  exact ((State.regsOnly.refl _).refreshHolds (holdOfProducer p) (s.route p content)).put _ _

theorem State.accept_custody (s : State) (p content flags ts : Nat) (d : List Byte) (reserve : Bool) :
    (s.accept p content flags ts d reserve).custody = s.custody ++ [s.newItem p content flags ts d reserve] := by
  rw [s.accept_rest p content flags ts d reserve]; rfl

theorem State.accept_prod (s : State) (p content flags ts : Nat) (d : List Byte) (reserve : Bool) :
    (s.accept p content flags ts d reserve).prod p = (s.numbered p d).prod p := by
  have kept := congrArg State.prods (s.accept_rest p content flags ts d reserve)
  exact congrArg (Tbl.get (fun _ => Producer.reset) · p) kept

/-- One number follows another where their difference modulo 2³² lies from 1 to 0x7FFFFFFF (R272). -/
theorem follows_iff {a b : Nat} (hb : b < 2 ^ 32) :
    follows a b = true ↔ 1 ≤ (a + 2 ^ 32 - b) % 2 ^ 32 ∧ (a + 2 ^ 32 - b) % 2 ^ 32 ≤ 0x7FFFFFFF := by
  unfold follows
  rw [Nat.mod_eq_of_lt hb]
  simp only [Bool.and_eq_true, Nat.ble_eq]

end Sys2Proof.Machine

/-- Settles O9: the arithmetic of `follows`, the numbers of a producer at the two resets, and those that an acceptance gives. -/
theorem sequenceNumbers : Obligations.SequenceNumbers := by
  refine ⟨fun a b _ hb => follows_iff hb, fun p => rfl, fun s hd hp hst hr => ?_, fun s p content flags ts d res => ⟨?_, ?_⟩,
    fun s n seq h hh _ hlt => ⟨?_, ?_⟩⟩
  · obtain ⟨t, he, _, _, _, _, _, epoch, _, prods, _⟩ := (resetCommands s hd hp hst).2 hr
    exact ⟨t, he, epoch, fun p => by rw [State.prod, prods]; rfl⟩
  · rw [s.accept_custody, List.getLast?_concat]; rfl
  · rw [s.accept_prod, s.prod_numbered]
  · unfold State.isOld
    rw [hh]
    simp only [Bool.not_eq_true', ← follows_iff hlt, Bool.not_eq_true]
  · unfold State.expected
    rw [hh]

end

section

open Sys2Proof Sys2Proof.Machine

/-! A concrete device for the refutation of O8. -/

namespace Sys2Proof.Machine

/-- A device in RUN whose domain VANA has no power. -/
def State.vanaOff : State := (State.inRun.put (F.DOM_STATE 1) dsOff).shown

theorem State.settled_vanaOff : State.vanaOff.Settled := by
  unfold State.Settled State.Shows State.Calm
  decide +kernel

/-- Refutes O8: a word of `TB_PAIR_CMD`, whose mode rule is its own (R80), is refused in a domain without power and shows in
`TB_REF_STATUS.CMD_REFUSED` too, which the statement's frame leaves out. -/
theorem not_domainsOff : ¬ Obligations.DomainsOff := by
  intro h
  obtain ⟨_, t, ht, _, _, _, _, _, _, frame, _⟩ := h State.vanaOff 0x105#16 0#16 _ 0x105 State.settled_vanaOff rfl rfl rfl rfl (by decide) (by decide +kernel)
  rw [exec_registerWrite 0x105#16 0#16 _ rfl rfl] at ht
  obtain rfl := Host.Outcome.next.inj ht
  have same := frame F.TB_REF_STATUS_CMD_REFUSED (by decide)
  have calm : (State.vanaOff.regWrite srcTwoWire (0x105#16).toNat (0#16).toNat).Calm := .inl (by decide +kernel)
  rw [State.get_finish calm (by decide)] at same
  revert same
  decide +kernel

end Sys2Proof.Machine

end

section

open Sys2Proof Sys2Proof.Machine

namespace Sys2Proof.Machine

/-! Reads of registers and the bytes of keys (R322, R326). -/

/-- A change of where key bytes stand, to those of `u`. -/
def State.keysOf (u : State) : Aside :=
  { slots := fun _ => u.slots, kek := fun _ => u.kek, keyWrap := fun _ => u.keyWrap, kekData := fun _ => u.kekData, kekBurn := fun _ => u.kekBurn }

/-- The slots of `s` and `u` differ in key bytes only: what a register may show of a slot is the same. -/
def State.slotsLike (s u : State) : Prop :=
  ∀ i, (u.slot i).key.map List.length = (s.slot i).key.map List.length ∧ (u.slot i).usage = (s.slot i).usage ∧
    (u.slot i).gen = (s.slot i).gen ∧ (u.slot i).pending.isSome = (s.slot i).pending.isSome

theorem State.slotInfo_keys {s u : State} (h : s.slotsLike u) : (s.putAside u.keysOf).slotInfo = s.slotInfo := by
  obtain ⟨key, usage, -, pending⟩ := h (s.get F.BOND_SLOT_SEL_SLOT)
  have size : ((u.slot (s.get F.BOND_SLOT_SEL_SLOT)).key.getD []).length = ((s.slot (s.get F.BOND_SLOT_SEL_SLOT)).key.getD []).length := by
    have e := congrArg (·.getD 0) key
    cases h1 : (u.slot (s.get F.BOND_SLOT_SEL_SLOT)).key <;> cases h2 : (s.slot (s.get F.BOND_SLOT_SEL_SLOT)).key <;> simp_all
  have some : (u.slot (s.get F.BOND_SLOT_SEL_SLOT)).key.isSome = (s.slot (s.get F.BOND_SLOT_SEL_SLOT)).key.isSome := by
    have e := congrArg Option.isSome key
    simpa using e
  show (if (u.slot (s.get F.BOND_SLOT_SEL_SLOT)).pending.isSome then 2 else if (u.slot (s.get F.BOND_SLOT_SEL_SLOT)).key.isSome then 1 else 0) * 2 ^ 14 +
      b2n (((u.slot (s.get F.BOND_SLOT_SEL_SLOT)).key.getD []).length == 32) * 2 ^ 13 +
      (if (u.slot (s.get F.BOND_SLOT_SEL_SLOT)).key.isSome then (u.slot (s.get F.BOND_SLOT_SEL_SLOT)).usage else 0) * 2 ^ 11 +
      (s.bondReqs.filter (fun r => r.names (s.get F.BOND_SLOT_SEL_SLOT))).length = s.slotInfo
  rw [pending, some, size, usage]
  rfl

/-- A choice that does not look at what is put aside. -/
theorem State.putAside_ite {c : Prop} [Decidable c] {a a' b b' : State} {v : Aside} (ha : a' = a.putAside v) (hb : b' = b.putAside v) :
    (if c then a' else b') = (if c then a else b).putAside v := by
  split
  · exact ha
  · exact hb

theorem State.SkipsAside.when_put {c : State → Bool} (hc : ∀ s v, c (s.putAside v) = c s) (f : Fld) (x : Nat) :
    State.SkipsAside fun s => s.when (c s) (·.put f x) := (State.SkipsAside.put f x).when hc

theorem State.SkipsAside.supLevel (sup mv : Nat) : State.SkipsAside (·.supLevel sup mv) := by
  have low := when_put (c := fun s => Nat.blt mv (s.get (F.SUP_MIN_MV sup))) (fun _ _ => rfl) (F.SUP_MIN_MV sup) mv
  have high := when_put (c := fun s => Nat.blt (s.get (F.SUP_MAX_MV sup)) mv) (fun _ _ => rfl) (F.SUP_MAX_MV sup) mv
  exact ((put (F.SUP_LEVEL_MV sup) mv).comp low).comp high

theorem State.SkipsAside.tempLevel (x : Nat) : State.SkipsAside (·.tempLevel x) := by
  have low := when_put (c := fun s => decide (sext 16 x < sext 16 (s.get F.SUP_TEMP_MIN_TEMP))) (fun _ _ => rfl) F.SUP_TEMP_MIN_TEMP x
  have high := when_put (c := fun s => decide (sext 16 (s.get F.SUP_TEMP_MAX_TEMP) < sext 16 x)) (fun _ _ => rfl) F.SUP_TEMP_MAX_TEMP x
  exact ((put F.SUP_TEMP_TEMP x).comp low).comp high

theorem State.SkipsAside.supSampled (sup : Nat) : State.SkipsAside (·.supSampled sup) := by
  intro s v
  exact State.putAside_ite rfl (supLevel sup _ s.draw.2 v)

theorem State.SkipsAside.tempSampled : State.SkipsAside State.tempSampled := by
  intro s v
  exact State.putAside_ite rfl (tempLevel _ s.draw.2 v)

/-- What a read of `BOND_SLOT_INFO` shows of a slot. -/
def State.showSlotInfo (s : State) (v : Nat) : State :=
  ((s.put F.BOND_SLOT_INFO_STATE (bits v 14 2)).put F.BOND_SLOT_INFO_SIZE (bits v 13 1)).put F.BOND_SLOT_INFO_USAGE (bits v 11 2)

/-- What a read of it, or of `BOND_SLOT_GEN`, shows of a slot. -/
def State.showSlot (s : State) (v gen : Nat) : State :=
  ((s.showSlotInfo v).put F.BOND_SLOT_INFO_IN_FLIGHT (min 64 (bits v 0 11))).put F.BOND_SLOT_GEN_GENERATION gen

theorem State.refreshed_slot {s : State} {base : Nat} (h : base = 0x2419 ∨ base = 0x241A) :
    s.refreshed base = s.showSlot s.slotInfo (s.slot ((s.showSlotInfo s.slotInfo).get F.BOND_SLOT_SEL_SLOT)).gen := by
  rcases h with rfl | rfl <;> rfl

theorem State.precision_putAside (s : State) (v : Aside) : (s.putAside v).precision = s.precision := by
  have on (f : Fld) : (s.putAside v).on f = s.on f := rfl
  have mode : (s.putAside v).mode = s.mode := rfl
  unfold State.precision
  simp only [on, mode]

theorem State.SkipsAside.put_precision : State.SkipsAside fun s => s.put F.MSR_PRECISION_BITS s.precision := by
  intro s v
  dsimp only
  rw [s.precision_putAside v]
  exact put F.MSR_PRECISION_BITS s.precision s v

theorem State.refreshed_keys {s u : State} (h : s.slotsLike u) (base : Nat) : (s.putAside u.keysOf).refreshed base = (s.refreshed base).putAside u.keysOf := by
  by_cases hb : base = 0x2419 ∨ base = 0x241A
  · rw [State.refreshed_slot hb, State.refreshed_slot hb, State.slotInfo_keys h]
    obtain ⟨-, -, gen, -⟩ := h ((s.showSlotInfo s.slotInfo).get F.BOND_SLOT_SEL_SLOT)
    exact congrArg (fun g => (s.putAside u.keysOf).showSlot s.slotInfo g) gen
  · unfold State.refreshed
    refine State.putAside_ite (State.SkipsAside.put _ _ s _) ?_
    refine State.putAside_ite (State.SkipsAside.put_precision s u.keysOf) ?_
    refine State.putAside_ite (State.SkipsAside.supSampled _ s _) ?_
    refine State.putAside_ite (State.SkipsAside.tempSampled s _) ?_
    refine State.putAside_ite (State.SkipsAside.put _ _ s _) ?_
    refine State.putAside_ite ((State.SkipsAside.put _ _).comp (State.SkipsAside.put _ _) s _) ?_
    iterate 7 refine State.putAside_ite (State.SkipsAside.put _ _ s _) ?_
    refine State.putAside_ite ((State.SkipsAside.put _ _).comp (State.SkipsAside.put _ _) s _) ?_
    have off : ¬ (decide (base = 0x2419) || decide (base = 0x241A)) = true := by simpa using hb
    rw [if_neg off, if_neg off]
    iterate 5 refine State.putAside_ite (State.SkipsAside.put _ _ s _) ?_
    exact State.putAside_ite (State.putAside_ite (State.SkipsAside.put _ _ s _) (State.putAside_ite (State.SkipsAside.put _ _ s _) rfl)) rfl

/-- An access outside a partly written wide value does not look at key bytes (R8, R419). -/
theorem State.SkipsAside.journalWrite (src a : Nat) (old : State → Nat) (new res : Nat) (ho : ∀ s v, old (s.putAside v) = old s) :
    State.SkipsAside fun s => s.journalWrite src a (old s) new res := by
  intro s v
  exact State.putAside_ite rfl (State.putAside_ite (journal a (fun _ => 0) (fun _ => 0) src res 0 (fun _ _ => rfl) (fun _ _ => rfl) s v)
    (journal a old (fun _ => new) src res 0 ho (fun _ _ => rfl) s v))

theorem State.SkipsAside.refusalBit (res : Nat) : State.SkipsAside (·.refusalBit res) := by
  intro s v
  iterate 7 refine State.putAside_ite rfl ?_
  rfl

theorem State.SkipsAside.touch (a : Nat) : State.SkipsAside (·.touch a) := by
  intro s v
  dsimp only
  unfold State.touch
  rw [show (s.putAside v).stage = s.stage from rfl]
  cases s.stage with
  | none => rfl
  | some st =>
    refine State.putAside_ite rfl ?_
    have drop : State.SkipsAside fun t => t.setStage none := fun _ _ => rfl
    have mark : State.SkipsAside fun t => (t.put F.TW_LAST_REFUSED_ADDRESS (st.base + (st.words.map (·.1)).foldl max 0)).up F.TW_STATUS_REFUSED_EV := fun _ _ => rfl
    exact ((drop.comp ((journalWrite srcTwoWire _ (fun _ => s.wordAt (st.base + (st.words.map (·.1)).foldl max 0)) _ resWide fun _ _ => rfl).comp
      (refusalBit resWide))).comp mark) s v

theorem State.touch_slots (s : State) (a : Nat) : (s.touch a).slots = s.slots := by
  have same := congrArg (fun t : State => t.slots) (State.SkipsAside.touch a s { slots := fun _ => s.slots })
  exact same

/-- A read of a register gives the same word and leaves the same state but for key bytes (R322, R326). -/
theorem State.readWord_keys {s u : State} (h : s.slotsLike u) (a : Nat) : (s.putAside u.keysOf).readWord a = (s.readWord a).putAside u.keysOf := by
  have like : (s.touch a).slotsLike u := by
    simpa only [State.slotsLike, State.slot, State.touch_slots] using h
  unfold State.readWord
  rw [show (s.putAside u.keysOf).touch a = (s.touch a).putAside u.keysOf from State.SkipsAside.touch a s u.keysOf]
  generalize s.touch a = t at like ⊢
  dsimp only
  rw [show (t.putAside u.keysOf).stdAt a = t.stdAt a from rfl]
  cases regAt (t.stdAt a) a with
  | none => rfl
  | some x =>
    obtain ⟨r, base⟩ := x
    dsimp only
    rw [State.refreshed_keys like]
    generalize t.refreshed base = p
    rw [show (p.putAside u.keysOf).shownValue r base = p.shownValue r base from rfl]
    refine State.putAside_ite ?_ (State.putAside_ite ?_ (State.putAside_ite ?_ ?_))
    · cases a == base && r.words != 1 <;> rfl
    · have clear : ∀ f : FDesc, State.SkipsAside fun t =>
          if f.acc == Acc.rc then t.put ⟨t.phys base, f.lo, f.width⟩ (rcCleared base f) else t := fun f =>
        State.SkipsAside.ite (c := fun _ => f.acc == Acc.rc) (fun _ _ => rfl) (fun _ _ => rfl) State.SkipsAside.id
      exact State.SkipsAside.each clear r.fields (p.setTw { p.tw with word := bits (p.shownValue r base) (16 * (a - base)) 16 }) u.keysOf
    · rfl
    · rfl

end Sys2Proof.Machine

/-- Settles O7: what a read looks at of a slot is what the two states have in common, and the rest of it does not see where key bytes stand. -/
theorem keysUnread : Obligations.KeysUnread := by
  intro s u a hu hs
  have e : u = s.putAside u.keysOf := hu
  have word := State.readWord_keys hs a.toNat
  have port (t : State) : (t.putAside u.keysOf).tw = t.tw := rfl
  have shows (t : State) : (t.putAside u.keysOf).regs = t.regs := rfl
  generalize u.keysOf = v at e word port shows
  subst e
  have answer (x : State) : exec (.readWithEffect a) x = x.event (!x.pinLow) (·.readWord a.toNat) := rfl
  rw [answer, answer, show (s.putAside v).pinLow = s.pinLow from rfl]
  have dead : (s.putAside v).dead = s.dead := rfl
  by_cases off : s.dead = true ∨ (!s.pinLow) = false
  · exact ⟨s, s.putAside v, State.event_off _ off, State.event_off _ (dead ▸ off), port s, shows s⟩
  · simp only [not_or, Bool.not_eq_true, Bool.not_eq_false] at off
    obtain ⟨hd, hp⟩ := off
    have same : (s.putAside v).finish ((s.putAside v).readWord a.toNat) = (s.finish (s.readWord a.toNat)).putAside v := by
      rw [word]
      exact State.SkipsAside.finish s (s.readWord a.toNat) v
    refine ⟨_, _, State.event_on _ hd hp, (State.event_on _ (dead ▸ hd) hp).trans (congrArg _ same), port _, shows _⟩

end

/-! A quay held off beyond its limit while the error journal is routed to a quay that does not exist: it refutes O45. -/

namespace Sys2Proof.Machine

/-- Quay 0 obeys its hold pin, which is high, with a limit of 1 ms. As in `State.farRoute` the register file holds 32 as the quay of the error
journal's notices, beyond the two bits of the field and the four quays; HELD_OFF of a quay 32 would stand in FS of audio port 0, whose reset value
is 2 (48 kHz). -/
def State.farHold : State :=
  let s := (((State.inRun.put (F.QY_CTRL_HOLD_EN 0) 1).put (F.QY_STATUS_HOLD_IN 0) 1).put (F.QY_HOLD_LIMIT_LIMIT 0) 1).shown
  s.setRegs (Tbl.set regDefault s.regs (F.QY_ROUTE_DATA 0x61).key 32)

theorem State.settled_farHold : State.farHold.Settled := by
  unfold State.Settled State.Shows State.Calm
  decide +kernel

/-- The notice's acceptance shows HELD_OFF of the quay that its route names (R288, R290, R409), in FS of audio port 0. -/
theorem State.fs_farHold : (State.farHold.finish (State.farHold.quayHoldLong 0)).get (F.AU_CFG_FS 0) = 0 := by
  have hcalm : (State.farHold.quayHoldLong 0).Calm := .inl (by decide +kernel)
  rw [State.get_finish hcalm (by decide)]
  decide +kernel

/-- Refutes O45: the notice of the long hold changes FS of audio port 0, which is no field of an entry of the error journal, nor the one listed. -/
theorem not_quayHeldLong : ¬ Obligations.QuayHeldLong := by
  intro h
  obtain ⟨long, _⟩ := h State.farHold State.settled_farHold rfl (by decide +kernel) 0 (by decide)
  obtain ⟨t, ht, _, _, _, _, _, _, fields⟩ := long (by decide +kernel) (by decide +kernel) (by decide +kernel)
  rw [exec_quayHoldLong 0 _ rfl rfl] at ht
  obtain rfl := Host.Outcome.next.inj ht
  have unchanged := (fields (F.AU_CFG_FS 0) (by decide) (by decide)).symm.trans State.fs_farHold
  exact absurd unchanged (by decide +kernel)

end Sys2Proof.Machine

/-! A quay at whose boundary an armed change names its frame counter: it refutes O44. -/

namespace Sys2Proof.Machine

/-- A consignment of berth 0 without payload, for quay 0. -/
def sentItem : Item := ⟨0, 0, 1, 0, 0, 0, [], 0, 0, false, false, none, Copy.of []⟩

/-- Quay 0 runs and sends `sentItem`. An armed change of its COMMIT block names `QY_FRAMES`, which is read-only: no write leaves one, and the clause
of O44 on the end of a frame, unlike those on its start, does not exclude it. -/
def State.strayCount : State :=
  let s := (State.inRun.put (F.QY_CTRL_RUN 0) 1).down (F.QY_CTRL_STOPPED 0)
  ({ s with custody := [sentItem], shadow := [{ commit := quayCommit 0, fld := F.QY_FRAMES_COUNT 0, val := 5, armed := true }] }.putQuay 0
    { Quay.reset with sending := some (0, 0) }).shown

theorem State.settled_strayCount : State.strayCount.Settled := by
  unfold State.Settled State.Shows State.Calm
  decide +kernel

/-- The end of the frame counts it, and the boundary behind it applies the armed change (R59, R289). -/
theorem State.frames_strayCount : (State.strayCount.finish (State.strayCount.quayEnd 0).settle).get (F.QY_FRAMES_COUNT 0) = 5 := by
  have calm : ((State.strayCount.quayEnd 0).settle).Calm := .inl (by decide +kernel)
  rw [State.get_finish calm (by decide)]
  decide +kernel

/-- Refutes O44: after the end of the first frame `QY_FRAMES` reads what the armed change holds, where the statement has 1. -/
theorem not_quays : ¬ Obligations.Quays := by
  intro h
  obtain ⟨_, frameEnd, _⟩ := h State.strayCount State.settled_strayCount rfl 0 (by decide)
  obtain ⟨t, ht, _, _, counts, _⟩ := frameEnd sentItem (by decide +kernel) (by decide +kernel) rfl (by decide) (by decide)
  rw [exec_quayFrameEnd 0 _ rfl rfl] at ht
  obtain rfl := Host.Outcome.next.inj ht
  have counted := State.frames_strayCount.symm.trans counts
  exact absurd counted (by decide +kernel)

end Sys2Proof.Machine

/-! The frame clocks of slave audio ports (R307, R317). -/

namespace Sys2Proof.Machine

namespace State.Writes

variable {l : List Fld} {u t : State}

/-- An update that neither reads nor changes the register file goes into what `u` is. -/
theorem beside (h : State.Writes l u t) {g : State → State} (hg : ∀ (x : State) (r : Tbl Nat), g { x with regs := r } = { g x with regs := r }) :
    State.Writes l (g u) (g t) := by
  have regs (x : State) : (g x).regs = x.regs := by
    have e : g x = { g x with regs := x.regs } := hg x x.regs
    rw [e]
  refine ⟨?_, fun f hf => ?_⟩
  · have e : g t = g { u with regs := t.regs } := congrArg g h.regs
    rw [State.regsOnly, regs t]
    exact e.trans (hg u t.regs)
  · have same := h.fields f hf
    simp only [State.get, regs] at same ⊢
    exact same

theorem putPort (h : State.Writes l u t) (p : Nat) (v : Port) : State.Writes l (u.putPort p v) (t.putPort p v) :=
  h.beside (g := fun x => x.putPort p v) fun _ _ => rfl

theorem setOut (h : State.Writes l u t) {p : Nat} (hf : (F.AU_STATUS_OUT_STATE p).key ∈ l.map Fld.key) (v : Nat) :
    State.Writes l u (t.setOut p v) := h.put hf v

theorem slaveMute (h : State.Writes l u t) {p : Nat} (hc : (F.AU_STATUS_CLOCK_OK p).key ∈ l.map Fld.key)
    (ho : (F.AU_STATUS_OUT_STATE p).key ∈ l.map Fld.key) : State.Writes l u (t.slaveMute p) :=
  (h.down hc).when fun _ hx => hx.setOut ho _

end State.Writes

theorem State.Beside.ports (s : State) (x : Tbl Port) : s.Beside { s with ports := x } := ⟨rfl, rfl, rfl, rfl, rfl, rfl, rfl⟩

/-- The output state of a port is no field that the end of a command shows. -/
theorem outState_not_shown {p : Nat} (hp : p < 4) : (F.AU_STATUS_OUT_STATE p).key ∉ shownKeys := by
  revert p
  decide

theorem State.portRuns_of {s t : State} {p : Nat} (h : t.get (F.AU_CTRL_STOPPED p) = s.get (F.AU_CTRL_STOPPED p)) : t.portRuns p = s.portRuns p := by
  simp only [State.portRuns, State.on, h]

/-- A slave port whose clock has failed (Table 14.4): the clock is not qualified, and the port is muted where it runs. -/
theorem State.get_slaveMute (s : State) (p : Nat) (f : Fld) :
    (s.slaveMute p).get f = if s.portRuns p = true ∧ f.key = (F.AU_STATUS_OUT_STATE p).key then osMuted
      else if f.key = (F.AU_STATUS_CLOCK_OK p).key then 0 else s.get f := by
  unfold State.slaveMute State.when
  cases s.portRuns p
  · simp [State.get_down]
  · simp [State.setOut, State.get_put, State.get_down, F.AU_STATUS_OUT_STATE, osMuted]

theorem rateFound_lt (rate : Nat) : rateFound rate < 8 := by
  unfold rateFound
  cases h : (List.range 5).find? (fun fs => Nat.ble (fsHz fs * 998) rate && Nat.ble rate (fsHz fs * 1002)) with
  | none => decide
  | some fs =>
    have := List.mem_range.1 (List.mem_of_find?_eq_some h)
    simp only [Option.getD_some]
    omega

/-- The register fields that a window of a slave port shows (R307). -/
def State.rateShow (s : State) (p rate : Nat) : State :=
  ((s.put (F.AU_RATE_RATE p) rate).put (F.AU_CLOCK_FS_FOUND p) (rateFound rate)).put (F.AU_STATUS_UNSUPPORTED p) (b2n (!s.slaveFits p (rateFound rate)))

theorem State.get_rateShow (s : State) (p rate : Nat) (f : Fld) :
    (s.rateShow p rate).get f = if f.key = (F.AU_STATUS_UNSUPPORTED p).key then b2n (!s.slaveFits p (rateFound rate))
      else if f.key = (F.AU_CLOCK_FS_FOUND p).key then rateFound rate
      else if f.key = (F.AU_RATE_RATE p).key then rate % 2 ^ 32 else s.get f := by
  have hb : ∀ b : Bool, b2n b % 2 ^ 1 = b2n b := by decide
  have hr : rateFound rate % 2 ^ 3 = rateFound rate := Nat.mod_eq_of_lt (rateFound_lt rate)
  unfold State.rateShow
  rw [State.get_put, State.get_put, State.get_put, show (F.AU_STATUS_UNSUPPORTED p).width = 1 from rfl, show (F.AU_CLOCK_FS_FOUND p).width = 3 from rfl,
    hb, hr, show (F.AU_RATE_RATE p).width = 32 from rfl]

/-- A window of a slave port (R307): it shows the rate, and mutes a running port that does not support it. -/
theorem State.rateWindow_eq {s : State} {p : Nat} (hu : s.slaveUp p = true) (rate : Nat) :
    s.rateWindow p rate = (s.rateShow p rate).when (!s.slaveFits p (rateFound rate) && s.portRuns p) (·.setOut p osMuted) := by
  have runs : (s.rateShow p rate).portRuns p = s.portRuns p := by
    unfold State.portRuns State.on
    rw [State.get_rateShow, if_neg, if_neg, if_neg] <;> simp only [Fld.key, F.AU_CTRL_STOPPED, F.AU_STATUS_UNSUPPORTED, F.AU_CLOCK_FS_FOUND, F.AU_RATE_RATE] <;> omega
  simp only [State.slaveUp, Bool.and_eq_true, Bool.not_eq_true'] at hu
  obtain ⟨slave, up⟩ := hu
  rw [← runs]
  exact if_neg (by simp [slave, up])

theorem State.Writes.rateShow {l : List Fld} {u t : State} (h : State.Writes l u t) {p : Nat} (hr : (F.AU_RATE_RATE p).key ∈ l.map Fld.key)
    (hf : (F.AU_CLOCK_FS_FOUND p).key ∈ l.map Fld.key) (hu : (F.AU_STATUS_UNSUPPORTED p).key ∈ l.map Fld.key) (rate : Nat) :
    State.Writes l u (t.rateShow p rate) := ((h.put hr _).put hf _).put hu _

/-- What a window of a slave port shows, after a command that shows the same of its fields. -/
theorem State.rateShow_shows {s t : State} {p : Nat} (rate : Nat) (h : ∀ f : Fld, f.key ∉ shownKeys → f.key ≠ (F.AU_STATUS_OUT_STATE p).key →
    t.get f = (s.rateShow p rate).get f) (hp : p < 4) :
    t.get (F.AU_RATE_RATE p) = rate % 2 ^ 32 ∧ t.get (F.AU_CLOCK_FS_FOUND p) = rateFound rate ∧
      t.get (F.AU_STATUS_UNSUPPORTED p) = b2n (!s.slaveFits p (rateFound rate)) := by
  have keys : (F.AU_RATE_RATE p).key ∉ shownKeys ∧ (F.AU_CLOCK_FS_FOUND p).key ∉ shownKeys ∧ (F.AU_STATUS_UNSUPPORTED p).key ∉ shownKeys := by
    clear * - hp
    revert p
    decide
  obtain ⟨rateKey, foundKey, unsupportedKey⟩ := keys
  have apart : (F.AU_RATE_RATE p).key ≠ (F.AU_STATUS_OUT_STATE p).key ∧ (F.AU_RATE_RATE p).key ≠ (F.AU_STATUS_UNSUPPORTED p).key ∧
      (F.AU_RATE_RATE p).key ≠ (F.AU_CLOCK_FS_FOUND p).key ∧ (F.AU_CLOCK_FS_FOUND p).key ≠ (F.AU_STATUS_OUT_STATE p).key ∧
      (F.AU_CLOCK_FS_FOUND p).key ≠ (F.AU_STATUS_UNSUPPORTED p).key ∧ (F.AU_STATUS_UNSUPPORTED p).key ≠ (F.AU_STATUS_OUT_STATE p).key := by
    simp only [Fld.key, F.AU_RATE_RATE, F.AU_CLOCK_FS_FOUND, F.AU_STATUS_UNSUPPORTED, F.AU_STATUS_OUT_STATE]
    omega
  obtain ⟨rateOut, rateUnsupported, rateFs, fsOut, fsUnsupported, unsupportedOut⟩ := apart
  rw [h _ rateKey rateOut, h _ foundKey fsOut, h _ unsupportedKey unsupportedOut]
  simp only [State.get_rateShow, if_neg rateUnsupported, if_neg rateFs, if_neg fsUnsupported, if_true, and_self]

/-- A window at the end of its command, at a rate that the port supports. -/
theorem State.finish_rateWindow_fits {s : State} (hs : s.Settled) {p : Nat} (hp : p < 4) (hu : s.slaveUp p = true) {rate : Nat}
    (hf : s.slaveFits p (rateFound rate) = true) :
    let t := s.finish (s.rateWindow p rate)
    t.get (F.AU_RATE_RATE p) = rate % 2 ^ 32 ∧ t.get (F.AU_CLOCK_FS_FOUND p) = rateFound rate ∧ t.get (F.AU_STATUS_UNSUPPORTED p) = 0 ∧
      s.onlyFields [F.AU_RATE_RATE p, F.AU_CLOCK_FS_FOUND p, F.AU_STATUS_UNSUPPORTED p] t := by
  rw [State.rateWindow_eq hu, hf]
  have w := (State.Writes.refl [F.AU_RATE_RATE p, F.AU_CLOCK_FS_FOUND p, F.AU_STATUS_UNSUPPORTED p] s).rateShow (p := p) (by simp) (by simp) (by simp) rate
  obtain ⟨changes, shows⟩ := w.finish hs (State.Beside.refl s) (by clear * - hp; revert p; decide)
  obtain ⟨shownRate, found, unsupported⟩ := State.rateShow_shows rate (fun f hk _ => shows f hk) hp
  exact ⟨shownRate, found, unsupported.trans (by rw [hf]; rfl), changes⟩

/-- A window at the end of its command, at a rate that the port does not support: it is muted. -/
theorem State.finish_rateWindow_unfit {s : State} (hs : s.Settled) {p : Nat} (hp : p < 4) (hu : s.slaveUp p = true) {rate : Nat}
    (hf : s.slaveFits p (rateFound rate) = false) :
    let t := s.finish (s.rateWindow p rate)
    t.get (F.AU_CLOCK_FS_FOUND p) = rateFound rate ∧ t.get (F.AU_STATUS_UNSUPPORTED p) = 1 ∧ (s.portRuns p = true → t.outState p = osMuted) ∧
      s.onlyFields [F.AU_RATE_RATE p, F.AU_CLOCK_FS_FOUND p, F.AU_STATUS_UNSUPPORTED p, F.AU_STATUS_OUT_STATE p] t := by
  rw [State.rateWindow_eq hu, hf, Bool.not_false, Bool.true_and]
  have w := ((State.Writes.refl [F.AU_RATE_RATE p, F.AU_CLOCK_FS_FOUND p, F.AU_STATUS_UNSUPPORTED p, F.AU_STATUS_OUT_STATE p] s).rateShow (p := p)
    (by simp) (by simp) (by simp) rate).when (c := s.portRuns p) (g := (·.setOut p osMuted)) fun _ hx => hx.setOut (by simp) _
  obtain ⟨changes, shows⟩ := w.finish hs (State.Beside.refl s) (by clear * - hp; revert p; decide)
  have same : ∀ f : Fld, f.key ≠ (F.AU_STATUS_OUT_STATE p).key →
      ((s.rateShow p rate).when (s.portRuns p) (·.setOut p osMuted)).get f = (s.rateShow p rate).get f := fun f hk => by
    unfold State.when
    split
    · exact State.get_put_ne _ _ hk
    · rfl
  obtain ⟨_, found, unsupported⟩ := State.rateShow_shows rate (fun f hk ho => (shows f hk).trans (same f ho)) hp
  refine ⟨found, unsupported.trans (by rw [hf]; rfl), fun hr => ?_, changes⟩
  rw [State.outState, shows _ (outState_not_shown hp), hr]
  exact State.get_put_same ..

/-- The clock of a slave port fails at the end of a command (R317): what its event `g` shows of the other fields stays. -/
theorem State.finish_slaveMute {s t : State} (hs : s.Settled) {p : Nat} (hp : p < 4) {l : List Fld} (w : State.Writes l s t)
    (hl : ∀ k ∈ shownKeys, k ∉ l.map Fld.key) (hc : (F.AU_STATUS_CLOCK_OK p).key ∈ l.map Fld.key) (ho : (F.AU_STATUS_OUT_STATE p).key ∈ l.map Fld.key)
    (hr : t.portRuns p = s.portRuns p) (out : t.outState p = s.outState p) :
    let x := s.finish (t.slaveMute p)
    x.get (F.AU_STATUS_CLOCK_OK p) = 0 ∧ x.outState p = (if s.portRuns p then osMuted else s.outState p) ∧
      (∀ f : Fld, f.key ∉ shownKeys → f.key ≠ (F.AU_STATUS_CLOCK_OK p).key → f.key ≠ (F.AU_STATUS_OUT_STATE p).key → x.get f = t.get f) ∧
      s.onlyFields l x := by
  obtain ⟨changes, shows⟩ := (w.slaveMute hc ho).finish hs (State.Beside.refl s) hl
  have apart : (F.AU_STATUS_CLOCK_OK p).key ≠ (F.AU_STATUS_OUT_STATE p).key := by
    simp only [Fld.key, F.AU_STATUS_CLOCK_OK, F.AU_STATUS_OUT_STATE]
    omega
  have okKey : (F.AU_STATUS_CLOCK_OK p).key ∉ shownKeys := fun h => hl _ h hc
  refine ⟨?_, ?_, fun f hk h1 h2 => ?_, changes⟩
  · rw [shows _ okKey, State.get_slaveMute, if_neg (fun h => apart h.2), if_pos rfl]
  · rw [State.outState, shows _ (outState_not_shown hp), State.get_slaveMute, hr, ← out]
    cases s.portRuns p
    · simp [apart.symm, State.outState]
    · simp
  · rw [shows f hk, State.get_slaveMute, if_neg (fun h => h2 h.2), if_neg h1]

/-- The stopped clock of a slave port at the end of its command (R317). -/
theorem State.finish_clockStop {s : State} (hs : s.Settled) {p : Nat} (hp : p < 4) (hu : s.slaveUp p = true) :
    let t := s.finish (s.clockStop p)
    t.get (F.AU_STATUS_CLK_STOP_EV p) = 1 ∧ t.get (F.AU_STATUS_CLOCK_OK p) = 0 ∧ t.outState p = (if s.portRuns p then osMuted else s.outState p) ∧
      s.onlyFields [F.AU_STATUS_CLK_STOP_EV p, F.AU_STATUS_CLOCK_OK p, F.AU_STATUS_OUT_STATE p] t := by
  rw [show s.clockStop p = _ from if_pos hu]
  have keys : (F.AU_CTRL_STOPPED p).key ≠ (F.AU_STATUS_CLK_STOP_EV p).key ∧ (F.AU_STATUS_OUT_STATE p).key ≠ (F.AU_STATUS_CLK_STOP_EV p).key ∧
      (F.AU_STATUS_CLK_STOP_EV p).key ≠ (F.AU_STATUS_CLOCK_OK p).key ∧ (F.AU_STATUS_CLK_STOP_EV p).key ∉ shownKeys := by
    clear * - hp
    revert p
    decide
  obtain ⟨stoppedKey, outKey, okKey, hidden⟩ := keys
  obtain ⟨ok, out, others, changes⟩ := State.finish_slaveMute hs hp
    ((State.Writes.refl [F.AU_STATUS_CLK_STOP_EV p, F.AU_STATUS_CLOCK_OK p, F.AU_STATUS_OUT_STATE p] s).up (f := F.AU_STATUS_CLK_STOP_EV p) (by simp))
    (by clear * - hp; revert p; decide) (by simp) (by simp) (State.portRuns_of (State.get_put_ne _ _ stoppedKey)) (State.get_put_ne _ _ outKey)
  exact ⟨(others _ hidden okKey outKey.symm).trans (State.get_put_same ..), ok, out, changes⟩

/-- A wrong frame at a slave port at the end of its command (R317). -/
theorem State.finish_clockGlitch {s : State} (hs : s.Settled) {p : Nat} (hp : p < 4) (hu : s.slaveUp p = true) :
    let t := s.finish (s.clockGlitch p)
    t.get (F.AU_STATUS_GLITCH_EV p) = 1 ∧ t.get (F.AU_STATUS_CLOCK_OK p) = 0 ∧
      t.get (F.AU_COUNTS_GLITCHES p) = min 255 (s.get (F.AU_COUNTS_GLITCHES p) + 1) ∧
      t.outState p = (if s.portRuns p then osMuted else s.outState p) ∧
      s.onlyFields [F.AU_STATUS_GLITCH_EV p, F.AU_COUNTS_GLITCHES p, F.AU_STATUS_CLOCK_OK p, F.AU_STATUS_OUT_STATE p] t := by
  rw [show s.clockGlitch p = _ from if_pos hu]
  have keys : ∀ f ∈ [F.AU_STATUS_GLITCH_EV p, F.AU_COUNTS_GLITCHES p], (F.AU_CTRL_STOPPED p).key ≠ f.key ∧ (F.AU_STATUS_OUT_STATE p).key ≠ f.key ∧
      f.key ≠ (F.AU_STATUS_CLOCK_OK p).key ∧ f.key ∉ shownKeys := by
    clear * - hp
    revert p
    decide
  have apart : (F.AU_STATUS_GLITCH_EV p).key ≠ (F.AU_COUNTS_GLITCHES p).key := by
    simp only [Fld.key, F.AU_STATUS_GLITCH_EV, F.AU_COUNTS_GLITCHES]
    omega
  obtain ⟨stopped1, out1, ok1, hidden1⟩ := keys _ (List.mem_cons_self ..)
  obtain ⟨stopped2, out2, ok2, hidden2⟩ := keys (F.AU_COUNTS_GLITCHES p) (by simp)
  obtain ⟨ok, out, others, changes⟩ := State.finish_slaveMute hs hp
    (((State.Writes.refl [F.AU_STATUS_GLITCH_EV p, F.AU_COUNTS_GLITCHES p, F.AU_STATUS_CLOCK_OK p, F.AU_STATUS_OUT_STATE p] s).up
      (f := F.AU_STATUS_GLITCH_EV p) (by simp)).bump (f := F.AU_COUNTS_GLITCHES p) (by simp))
    (by clear * - hp; revert p; decide) (by simp) (by simp)
    (State.portRuns_of ((State.get_put_ne _ _ stopped2).trans (State.get_put_ne _ _ stopped1)))
    ((State.get_put_ne _ _ out2).trans (State.get_put_ne _ _ out1))
  refine ⟨(others _ hidden1 ok1 out1.symm).trans ?_, ok, (others _ hidden2 ok2 out2.symm).trans ?_, out, changes⟩
  · rw [State.get_bump, if_neg apart, State.get_up, if_pos rfl]
    rfl
  · rw [State.get_bump, if_pos rfl, State.get_up, if_neg apart.symm]
    rfl

/-- A changed rate at a slave port at the end of its command (R317). -/
theorem State.finish_rateChange {s : State} (hs : s.Settled) {p : Nat} (hp : p < 4) (hu : s.slaveUp p = true) :
    let t := s.finish (s.rateChange p)
    t.get (F.AU_STATUS_RATE_EV p) = 1 ∧ t.get (F.AU_STATUS_CLOCK_OK p) = 0 ∧ t.outState p = (if s.portRuns p then osMuted else s.outState p) ∧
      bit (t.get F.TW_ATTN_SRC_SOURCES) 6 = true ∧
      s.onlyFields [F.AU_STATUS_RATE_EV p, F.AU_STATUS_CLOCK_OK p, F.AU_STATUS_OUT_STATE p, F.TW_ATTN_SRC_SOURCES, F.TW_STATUS_ATTN_PENDING] t := by
  rw [show s.rateChange p = _ from if_pos hu]
  have keys : ∀ f ∈ [F.AU_CTRL_STOPPED p, F.AU_STATUS_OUT_STATE p], f.key ≠ (F.AU_STATUS_RATE_EV p).key ∧ f.key ≠ F.TW_ATTN_SRC_SOURCES.key ∧
      f.key ≠ F.TW_STATUS_ATTN_PENDING.key := by
    clear * - hp
    revert p
    decide
  have event : (F.AU_STATUS_RATE_EV p).key ≠ F.TW_ATTN_SRC_SOURCES.key ∧ (F.AU_STATUS_RATE_EV p).key ≠ F.TW_STATUS_ATTN_PENDING.key ∧
      (F.AU_STATUS_RATE_EV p).key ≠ (F.AU_STATUS_CLOCK_OK p).key ∧ (F.AU_STATUS_RATE_EV p).key ∉ shownKeys ∧
      F.TW_ATTN_SRC_SOURCES.key ≠ (F.AU_STATUS_CLOCK_OK p).key ∧ F.TW_ATTN_SRC_SOURCES.key ≠ (F.AU_STATUS_OUT_STATE p).key ∧
      F.TW_ATTN_SRC_SOURCES.key ∉ shownKeys := by
    clear * - hp
    revert p
    decide
  obtain ⟨event1, event2, eventOk, eventHidden, sourceOk, sourceOut, sourceHidden⟩ := event
  have same : ∀ f ∈ [F.AU_CTRL_STOPPED p, F.AU_STATUS_OUT_STATE p], ((s.up (F.AU_STATUS_RATE_EV p)).attn 6).get f = s.get f := fun f hf => by
    obtain ⟨k1, k2, k3⟩ := keys f hf
    exact (State.get_attn _ _ k2 k3).trans (State.get_put_ne _ _ k1)
  obtain ⟨eventOut, _, _⟩ := keys (F.AU_STATUS_OUT_STATE p) (by simp)
  obtain ⟨ok, out, others, changes⟩ := State.finish_slaveMute hs hp
    (((State.Writes.refl [F.AU_STATUS_RATE_EV p, F.AU_STATUS_CLOCK_OK p, F.AU_STATUS_OUT_STATE p, F.TW_ATTN_SRC_SOURCES, F.TW_STATUS_ATTN_PENDING] s).up
      (f := F.AU_STATUS_RATE_EV p) (by simp)).attn 6 (by simp) (by simp))
    (by clear * - hp; revert p; decide) (by simp) (by simp) (State.portRuns_of (same _ (by simp))) (same _ (by simp))
  refine ⟨(others _ eventHidden eventOk eventOut.symm).trans ?_, ok, out, ?_, changes⟩
  · rw [State.get_attn _ _ event1 event2]
    exact State.get_put_same ..
  · rw [others _ sourceHidden sourceOk sourceOut]
    exact State.attn_source _ (by decide)

/-! The clock qualifies. -/


/-- The clock of a slave port is qualified; at a new rate a running port goes on at it, with the event (R317). -/
def State.clockOk (s : State) (p fs : Nat) : State :=
  (s.up (F.AU_STATUS_CLOCK_OK p)).when (s.portRuns p && fs != (s.port p).fs) fun s =>
    ((s.up (F.AU_STATUS_RATE_EV p)).attn 6).putPort p { s.port p with fs := fs }

/-- A muted port goes on: silent where something keeps it silent, else with a ramp (R312, R317). -/
def State.unmute (s : State) (p : Nat) : State := if s.portQuiet p then s.setOut p osSilent else s.portRamp p

theorem State.clockGood_eq {s : State} {p : Nat} (hu : s.slaveUp p = true) (hf : s.slaveFits p (s.get (F.AU_CLOCK_FS_FOUND p)) = true) :
    s.clockGood p = (s.clockOk p (s.get (F.AU_CLOCK_FS_FOUND p))).when
      ((s.clockOk p (s.get (F.AU_CLOCK_FS_FOUND p))).portRuns p && (s.clockOk p (s.get (F.AU_CLOCK_FS_FOUND p))).outState p == osMuted &&
        !(s.clockOk p (s.get (F.AU_CLOCK_FS_FOUND p))).isRetired .converter p) (·.unmute p) := if_neg (by simp [hu, hf])

/-- From `s` to `t` ports, and register fields of those listed, have changed. -/
def State.PortWork (l : List Fld) (s t : State) : Prop := ∃ x, State.Writes l { s with ports := x } t

theorem State.PortWork.refl (l : List Fld) (s : State) : State.PortWork l s s := ⟨s.ports, State.Writes.refl l s⟩

theorem State.PortWork.of {l : List Fld} {s t v : State} (h : State.PortWork l s t) (g : ∀ u, State.Writes l u t → State.Writes l u v) :
    State.PortWork l s v := h.imp fun _ hx => g _ hx

theorem State.PortWork.putPort {l : List Fld} {s t : State} (h : State.PortWork l s t) (p : Nat) (v : Port) : State.PortWork l s (t.putPort p v) := by
  obtain ⟨x, hx⟩ := h
  exact ⟨_, hx.putPort p v⟩

/-- At the end of its command, work on ports and register fields. -/
theorem State.PortWork.finish {l : List Fld} {s t : State} (h : State.PortWork l s t) (hs : s.Settled) (hk : ∀ k ∈ shownKeys, k ∉ l.map Fld.key) :
    s.changes l { s with ports := (s.finish t).ports } (s.finish t) ∧ (s.finish t).ports = t.ports ∧
      ∀ f : Fld, f.key ∉ shownKeys → (s.finish t).get f = t.get f := by
  obtain ⟨x, hx⟩ := h
  obtain ⟨changes, shows⟩ := hx.finish hs (State.Beside.ports s x) hk
  have ports : (s.finish t).ports = x := by rw [changes.1]
  exact ⟨ports ▸ changes, ports.trans (by rw [hx.regs]), shows⟩

@[simp] theorem State.port_putPort (s : State) (p : Nat) (v : Port) : (s.putPort p v).port p = v := Tbl.get_set_eq ..

theorem State.get_clockOk (s : State) (p fs : Nat) {f : Fld} (h : f.key ∉ [F.AU_STATUS_RATE_EV p, F.TW_ATTN_SRC_SOURCES, F.TW_STATUS_ATTN_PENDING].map Fld.key) :
    (s.clockOk p fs).get f = (s.up (F.AU_STATUS_CLOCK_OK p)).get f := by
  simp only [List.map_cons, List.map_nil, List.mem_cons, List.not_mem_nil, or_false, not_or] at h
  obtain ⟨rate, sources, pending⟩ := h
  unfold State.clockOk State.when
  split
  · exact (State.get_attn _ _ sources pending).trans (State.get_put_ne _ _ rate)
  · rfl

theorem State.port_clockOk (s : State) (p fs : Nat) :
    (s.clockOk p fs).port p = if s.portRuns p = true ∧ fs ≠ (s.port p).fs then { s.port p with fs := fs } else s.port p := by
  unfold State.clockOk State.when
  simp only [Bool.and_eq_true, bne_iff_ne, ne_eq]
  split
  · exact State.port_putPort ..
  · rfl

theorem State.clockOk_work (s : State) (p fs : Nat) {l : List Fld} (hc : (F.AU_STATUS_CLOCK_OK p).key ∈ l.map Fld.key)
    (hr : (F.AU_STATUS_RATE_EV p).key ∈ l.map Fld.key) (h1 : F.TW_ATTN_SRC_SOURCES.key ∈ l.map Fld.key)
    (h2 : F.TW_STATUS_ATTN_PENDING.key ∈ l.map Fld.key) : State.PortWork l s (s.clockOk p fs) := by
  have ok := (State.PortWork.refl l s).of fun _ hx => hx.up hc
  unfold State.clockOk State.when
  split
  · exact (ok.of fun _ hx => (hx.up hr).attn 6 h1 h2).putPort p _
  · exact ok

theorem State.unmute_work {l : List Fld} {s t : State} (h : State.PortWork l s t) {p : Nat} (ho : (F.AU_STATUS_OUT_STATE p).key ∈ l.map Fld.key) :
    State.PortWork l s (t.unmute p) := by
  unfold State.unmute
  split
  · exact h.of fun _ hx => hx.setOut ho _
  · exact (h.putPort p _).of fun _ hx => hx.setOut ho _

theorem State.get_unmute (s : State) (p : Nat) {f : Fld} (h : f.key ≠ (F.AU_STATUS_OUT_STATE p).key) : (s.unmute p).get f = s.get f := by
  unfold State.unmute
  split <;> exact State.get_put_ne _ _ h

theorem State.outState_unmute (s : State) (p : Nat) : (s.unmute p).outState p = if s.portQuiet p then osSilent else osRamping := by
  unfold State.unmute
  split <;> exact State.get_put_same ..

theorem State.fs_unmute (s : State) (p : Nat) : ((s.unmute p).port p).fs = (s.port p).fs := by
  unfold State.unmute
  split
  · rfl
  · have ramp : (s.portRamp p).port p = { s.port p with moveFrom := 0, moveAt := max (s.position p) (s.port p).fresh } := State.port_putPort ..
    rw [ramp]

/-- The qualified clock of a slave port at the end of its command (R317). -/
theorem State.finish_clockGood {s : State} (hs : s.Settled) {p : Nat} (hp : p < 4) (hu : s.slaveUp p = true)
    (hf : s.slaveFits p (s.get (F.AU_CLOCK_FS_FOUND p)) = true) :
    let t := s.finish (s.clockGood p)
    t.get (F.AU_STATUS_CLOCK_OK p) = 1 ∧ (s.portRuns p = true → (t.port p).fs = s.get (F.AU_CLOCK_FS_FOUND p)) ∧
      (s.portRuns p = true → s.outState p = osMuted → s.isRetired .converter p = false → t.outState p = (if s.portQuiet p then osSilent else osRamping)) ∧
      s.changes [F.AU_STATUS_CLOCK_OK p, F.AU_STATUS_RATE_EV p, F.AU_STATUS_OUT_STATE p, F.TW_ATTN_SRC_SOURCES, F.TW_STATUS_ATTN_PENDING]
        ({ s with ports := t.ports }) t := by
  rw [State.clockGood_eq hu hf]
  have ok := State.clockOk_work s p (s.get (F.AU_CLOCK_FS_FOUND p)) (l := [F.AU_STATUS_CLOCK_OK p, F.AU_STATUS_RATE_EV p, F.AU_STATUS_OUT_STATE p,
    F.TW_ATTN_SRC_SOURCES, F.TW_STATUS_ATTN_PENDING]) (by simp) (by simp) (by simp) (by simp)
  have reads : ∀ f : Fld, f.key ∉ [F.AU_STATUS_RATE_EV p, F.TW_ATTN_SRC_SOURCES, F.TW_STATUS_ATTN_PENDING].map Fld.key →
      (s.clockOk p (s.get (F.AU_CLOCK_FS_FOUND p))).get f = (s.up (F.AU_STATUS_CLOCK_OK p)).get f := fun f h => State.get_clockOk s p _ h
  have port := State.port_clockOk s p (s.get (F.AU_CLOCK_FS_FOUND p))
  generalize s.clockOk p (s.get (F.AU_CLOCK_FS_FOUND p)) = v at *
  have keys : (F.AU_CTRL_STOPPED p).key ≠ (F.AU_STATUS_CLOCK_OK p).key ∧ (F.AU_STATUS_OUT_STATE p).key ≠ (F.AU_STATUS_CLOCK_OK p).key ∧
      (F.AU_CTRL_MUTE p).key ≠ (F.AU_STATUS_CLOCK_OK p).key ∧ (F.AU_STATUS_CLOCK_OK p).key ∉ shownKeys := by
    clear * - hp
    revert p
    decide
  obtain ⟨stoppedKey, outKey, muteKey, okKey⟩ := keys
  have kept : ∀ f ∈ [F.AU_CTRL_STOPPED p, F.AU_STATUS_OUT_STATE p, F.AU_CTRL_MUTE p, F.AU_STATUS_CLOCK_OK p],
      f.key ∉ [F.AU_STATUS_RATE_EV p, F.TW_ATTN_SRC_SOURCES, F.TW_STATUS_ATTN_PENDING].map Fld.key := by
    clear * - hp
    revert p
    decide
  have runs : v.portRuns p = s.portRuns p := by
    unfold State.portRuns State.on
    rw [reads _ (kept _ (by simp)), State.get_up, if_neg stoppedKey]
  have out : v.outState p = s.outState p := by
    unfold State.outState
    rw [reads _ (kept _ (by simp)), State.get_up, if_neg outKey]
  have quiet : v.portQuiet p = s.portQuiet p := by
    unfold State.portQuiet State.on
    rw [reads _ (kept _ (by simp)), State.get_up, if_neg muteKey, port]
    split <;> rfl
  have retired : v.isRetired .converter p = s.isRetired .converter p := by
    obtain ⟨x, hx⟩ := ok
    rw [State.isRetired, State.unit, hx.regs]
    rfl
  have shown : v.get (F.AU_STATUS_CLOCK_OK p) = 1 := by
    rw [reads _ (kept _ (by simp)), State.get_up, if_pos rfl]
    rfl
  have fs (hr : s.portRuns p = true) : (v.port p).fs = s.get (F.AU_CLOCK_FS_FOUND p) := by
    rw [port]
    split
    · rfl
    · next h => simpa [hr, eq_comm] using h
  rw [runs, out, retired]
  by_cases hm : (s.portRuns p && s.outState p == osMuted && !s.isRetired .converter p) = true
  · rw [hm, show v.when true (·.unmute p) = v.unmute p from rfl]
    obtain ⟨changes, ports, shows⟩ := (State.unmute_work ok (p := p) (by simp)).finish hs (by clear * - hp; revert p; decide)
    refine ⟨(shows _ okKey).trans ((State.get_unmute _ _ outKey.symm).trans shown), fun hr => ?_, fun _ _ _ => ?_, changes⟩
    · rw [State.port, ports]
      exact (State.fs_unmute v p).trans (fs hr)
    · rw [State.outState, shows _ (outState_not_shown hp)]
      exact (State.outState_unmute v p).trans (by rw [quiet])
  · obtain ⟨changes, ports, shows⟩ := ok.finish hs (by clear * - hp; revert p; decide)
    rw [Bool.not_eq_true] at hm
    rw [hm, show v.when false (·.unmute p) = v from rfl]
    refine ⟨(shows _ okKey).trans shown, fun hr => ?_, fun hr ho ht => ?_, changes⟩
    · rw [State.port, ports]
      exact fs hr
    · simp [hr, ho, ht] at hm

/-- Settles O49: each event of a slave's clock by its marks, at the end of its command. -/
theorem slaveClocks : Obligations.SlaveClocks := by
  intro s hs hd p hp hu
  have port : Nat.blt p 4 = true := by rw [Nat.blt_eq]; exact hp
  refine ⟨fun rate => ⟨fun hf => ⟨_, exec_audioRateWindow p rate s hd port, ?_⟩, fun hf => ⟨_, exec_audioRateWindow p rate s hd port, State.finish_rateWindow_unfit hs hp hu hf⟩⟩,
    ⟨_, exec_slaveClockStop p s hd port, State.finish_clockStop hs hp hu⟩, ⟨_, exec_slaveFrameGlitch p s hd port, State.finish_clockGlitch hs hp hu⟩,
    ⟨_, exec_slaveRateChange p s hd port, State.finish_rateChange hs hp hu⟩, fun hf => ⟨_, exec_slaveClockQualified p s hd port, State.finish_clockGood hs hp hu hf⟩⟩
  obtain ⟨shown, rest⟩ := State.finish_rateWindow_fits hs hp hu hf
  exact ⟨shown.trans (Nat.mod_eq_of_lt rate.isLt), rest⟩

end Sys2Proof.Machine

/-! Concrete devices for the refutations of O52 and O53. -/

namespace Sys2Proof.Machine

/-- A device in RUN whose bond engine has been retired (R399). -/
def State.bondRetired : State := (State.inRun.putUnit .bond 0 { UnitRec.reset with retired := true }).shown

/-- A device in RUN with one periodic entry, enabled, of channel 0, due in every second second; the present one, 0, is not one of them. -/
def State.periodicLater : State :=
  ({ State.inRun with periodics := [{ channel := 0, period := 2, offset := 1, listenMs := 0, payload := [1#8] }] }.put F.PLT_PERIODIC_EN_ENABLE 1).shown

theorem State.settled_bondRetired : State.bondRetired.Settled := by
  unfold State.Settled State.Shows State.Calm
  decide +kernel

theorem State.settled_periodicLater : State.periodicLater.Settled := by
  unfold State.Settled State.Shows State.Calm
  decide +kernel

/-- Refutes O52: a retired engine has no self-test, so that the failed health test starts none (R396, R398). -/
theorem not_bondUpkeep : ¬ Obligations.BondUpkeep := by
  intro h
  obtain ⟨_, _, _, health, _⟩ := h State.bondRetired State.settled_bondRetired rfl
  obtain ⟨t, ht, _, _, testing, _⟩ := health
  rw [exec_entropyHealthFail _ rfl] at ht
  obtain rfl := Host.Outcome.next.inj ht
  have calm : State.bondRetired.entropyFail.Calm := .inl (by decide +kernel)
  rw [State.unit, (State.finish_rest _ calm).1] at testing
  revert testing
  decide +kernel

/-- Refutes O53: a periodic entry falls due in the seconds of its grid alone (R362), and the statement does not say that the present second is one. -/
theorem not_pilotSchedule : ¬ Obligations.PilotSchedule := by
  intro h
  obtain ⟨_, periodic, _⟩ := h State.periodicLater State.settled_periodicLater rfl
  obtain ⟨due, _⟩ := periodic 0 _ rfl (by decide +kernel) (by decide +kernel) (by decide +kernel)
  obtain ⟨t, ht, length, _⟩ := due (by decide +kernel) (by decide +kernel)
  rw [exec_periodicDue 0 _ rfl] at ht
  obtain rfl := Host.Outcome.next.inj ht
  have calm : (State.periodicLater.periodicDue 0).Calm := .inl (by decide +kernel)
  rw [(State.finish_rest _ calm).1] at length
  revert length
  decide +kernel

/-! Concrete devices for the refutations of O43, O46, O50, O54 and O58. -/

/-- Berth 1 has one ended window, empty and of length 0. The register file holds 416 as the quay of its records, beyond the two bits of the field
and the four quays. No write leaves that, and the statement of O43 does not exclude it. `HLD_PEAK` of the hold of a quay 416 would stand where
`MSR_WINDOW` of berth 1 is held. -/
def State.farRecord : State :=
  let s := (State.inRun.putClosed 1 [Win.new 0 0]).shown
  s.setRegs (Tbl.set regDefault s.regs (F.QY_ROUTE_RECORDS 1).key 416)

/-- The landing port has a frame of 28 zeros in progress, whose CRC is wrong. An armed change of its COMMIT block names `LAND_STATUS.CRC_EV`, an event
bit that no write puts into a shadow; the clauses of O46 on a judged frame do not exclude it. -/
def State.strayCrc : State :=
  let s := (State.inRun.put F.LAND_CTRL_RUN 1).down F.LAND_CTRL_STOPPED
  { s with landRx := { LandRx.reset with opened := true, bytes := List.replicate 28 0#8 },
           shadow := [{ commit := 0x2201, fld := F.LAND_STATUS_CRC_EV, val := 0, armed := true }] }.shown

/-- The empty key slot 0 has the generation 65,536, beyond 16 bits. No operation leaves that, and the statement of O50 does not exclude it. -/
def State.farGeneration : State := ({ State.inRun with slots := [(0, ⟨none, 0, 65536, [], none⟩)] }).shown

/-- A pilot frame is on the air. An armed change of `PLT_COMMIT` names `PLT_SENT`, which is read-only: no write leaves one, and the clause of O54 on
the end of a frame does not exclude it. -/
def State.straySent : State :=
  { State.inRun with schedule := [State.inRun.defaultRequest 0x64 0 0 0 false [[]] none], txAt := (0, .window)
                     shadow := [{ commit := pltCommit, fld := F.PLT_SENT_COUNT, val := 5, armed := true }] }.shown

/-- The transmitter has failed the first run of its self-test. The register file holds 2 as RUN of the link, beyond the one bit of the field. No
write leaves that, and the statement of O58 does not exclude it. -/
def State.farLink : State :=
  let s := (State.inRun.putUnit .txDac 0 { UnitRec.reset with testing := true, runs := 1 }).shown
  s.setRegs (Tbl.set regDefault s.regs F.PLT_CTRL_RUN.key 2)

theorem State.settled_farRecord : State.farRecord.Settled := by
  unfold State.Settled State.Shows State.Calm
  decide +kernel

theorem State.settled_strayCrc : State.strayCrc.Settled := by
  unfold State.Settled State.Shows State.Calm
  decide +kernel

theorem State.settled_farGeneration : State.farGeneration.Settled := by
  unfold State.Settled State.Shows State.Calm
  decide +kernel

theorem State.settled_straySent : State.straySent.Settled := by
  unfold State.Settled State.Shows State.Calm
  decide +kernel

theorem State.settled_farLink : State.farLink.Settled := by
  unfold State.Settled State.Shows State.Calm
  decide +kernel

/-- Refutes O43: the record's acceptance shows the peak of the hold of its quay (R262, R288), and `MSR_WINDOW` of berth 1 then reads 1, where the
statement has the length 0 of the window. -/
theorem not_records : ¬ Obligations.Records := by
  intro h
  obtain ⟨_, records, _⟩ := h State.farRecord State.settled_farRecord rfl
  obtain ⟨_, complete⟩ := records 1 (by decide)
  obtain ⟨t, ht, _, last, _⟩ := complete (Win.new 0 0) (by decide +kernel)
  rw [exec_recordComplete 1 _ rfl rfl] at ht
  obtain rfl := Host.Outcome.next.inj ht
  have calm : (State.farRecord.recordDone 1).Calm := .inl (by decide +kernel)
  rw [State.get_finish calm (by decide)] at last
  revert last
  decide +kernel

/-- Refutes O46: the frame is discarded for its CRC, and the boundary behind it applies the armed change (R59, R297), so that CRC_EV reads 0, where
the statement has 1. -/
theorem not_landing : ¬ Obligations.Landing := by
  intro h
  obtain ⟨_, _, judged, _⟩ := h State.strayCrc State.settled_strayCrc rfl (by decide +kernel)
  obtain ⟨wrong, _⟩ := judged (by decide +kernel) (by decide +kernel) (by decide +kernel) (by decide +kernel) _ rfl
  obtain ⟨t, ht, _, event, _⟩ := wrong (by decide +kernel)
  rw [exec_landingFrameJudged false true _ rfl] at ht
  obtain rfl := Host.Outcome.next.inj ht
  have calm : (State.strayCrc.landJudge false true).Calm := .inl (by decide +kernel)
  rw [State.get_finish calm (by decide)] at event
  revert event
  decide +kernel

/-- Refutes O50: the erasure of an empty slot leaves its generation, where the statement reduces it to 16 bits. -/
theorem not_bondKeys : ¬ Obligations.BondKeys := by
  intro h
  obtain ⟨commands, _⟩ := h State.farGeneration State.settled_farGeneration rfl
  obtain ⟨_, _, erase, _⟩ := commands (by decide +kernel) (by decide +kernel) (by decide +kernel)
  obtain ⟨_, single⟩ := erase 0 (by decide)
  obtain ⟨t, ht, _, generation, _⟩ := single (by decide +kernel)
  rw [exec_eraseSlot _ 0 _ rfl rfl rfl] at ht
  obtain rfl := Host.Outcome.next.inj ht
  have calm : (State.farGeneration.regWrite srcTwoWire 0x2401 ((0x5A : Byte).toNat * 256 + 0 * 8 + 2)).Calm := .inl (by decide +kernel)
  rw [State.slot, (State.finish_rest _ calm).1] at generation
  revert generation
  decide +kernel

/-- Refutes O54: the end of the frame counts it, and the boundary behind it applies the armed change (R59, R357): `PLT_SENT` reads 5, where the
statement has 1. -/
theorem not_pilotTransmitter : ¬ Obligations.PilotTransmitter := by
  intro h
  obtain ⟨serving, _⟩ := h State.straySent State.settled_straySent rfl
  obtain ⟨_, airEnd, _⟩ := serving _ (show State.straySent.txNow = some _ from rfl)
  obtain ⟨t, ht, _, _, _, count, _⟩ := airEnd (by decide +kernel)
  rw [exec_pilotAirEnd _ rfl] at ht
  obtain rfl := Host.Outcome.next.inj ht
  have calm : State.straySent.airEnd.Calm := .inl (by decide +kernel)
  rw [State.get_finish calm (by decide)] at count
  revert count
  decide +kernel

/-- Refutes O58: RUN of the link, which does not read 1, is not written (R368, R399) and still reads 2, where the statement has 0. -/
theorem not_testsAndInjection : ¬ Obligations.TestsAndInjection := by
  intro h
  obtain ⟨transmitter, _⟩ := h State.farLink State.settled_farLink rfl
  obtain ⟨_, failed⟩ := transmitter _ rfl (by decide +kernel) (by decide +kernel) (by decide +kernel)
  obtain ⟨t, ht, _, _, run, _⟩ := failed (by decide +kernel)
  rw [exec_unitSelftestDone 10 0 false _ rfl] at ht
  obtain rfl := Host.Outcome.next.inj ht
  have calm : (State.farLink.unitTested 10 0 false).Calm := .inl (by decide +kernel)
  rw [State.get_finish calm (by decide)] at run
  revert run
  decide +kernel

end Sys2Proof.Machine

/-! The commands of the urgent path (R377 to R380, R387). -/

namespace Sys2Proof.Machine

/-- The end of a command of an effect whose status fields show what they stand for already. -/
theorem State.changes_finish_shows {l : List Fld} {s u t : State} (hc : u.Calm) (hr : u.regsOnly t) (hp : u.pending = s.pending) (ht : t.Shows)
    (hb : State.fieldsBut l s t) : s.changes l u (s.finish t) ∧ ∀ f : Fld, (s.finish t).get f = t.get f := by
  have calm : t.Calm := hr.calm hc
  obtain ⟨rest, windows⟩ := State.finish_rest s calm
  have reads (f : Fld) : (s.finish t).get f = t.get f := State.get_finish_of_shows calm ht f
  refine ⟨⟨?_, fun n hn => ?_, fun f hf => (reads f).trans (hb f hf)⟩, reads⟩
  · have e := congrArg (fun x : State => { x with
        regs := (s.finish t).regs, windows := (s.finish t).windows, injBits := (s.finish t).injBits, precNow := (s.finish t).precNow,
        injSeen := (s.finish t).injSeen, pending := s.pending }) hr
    refine rest.trans (e.trans ?_)
    rw [← hp]
  · have same : t.windows = u.windows := by rw [hr]
    rw [windows n hn, State.window, State.window, same]

/-! What `ALERT_STATUS` shows (R378). -/

/-- Brought up to date, `ALERT_STATUS` shows the sources. -/
theorem State.alertShow_shows {s : State} (hm : s.get F.GLB_MODE_MODE = s.mode.code) (hi : s.get F.BOND_IV_FILL_ENTRIES = s.ivTable.length % 8192) :
    s.alertShow.Shows := by
  have kinds : ∀ a b c d : Bool, (b2n a + 2 * b2n b + 4 * b2n c + 8 * b2n d) % 16 = b2n a + 2 * b2n b + 4 * b2n c + 8 * b2n d := by decide
  have one : ∀ a : Bool, b2n a % 2 = b2n a := by decide
  refine ⟨?_, ?_, ?_, ?_, ?_, ?_⟩
  · simpa [State.alertShow, State.get_put, Fld.key, F.GLB_MODE_MODE, F.ALERT_STATUS_PIN, F.ALERT_STATUS_TEST, F.ALERT_STATUS_MODE,
      F.ALERT_STATUS_KIND] using hm
  · simpa [State.alertShow, State.get_put, Fld.key, F.BOND_IV_FILL_ENTRIES, F.ALERT_STATUS_PIN, F.ALERT_STATUS_TEST, F.ALERT_STATUS_MODE,
      F.ALERT_STATUS_KIND] using hi
  all_goals
    simp [State.alertShow, State.get_put, Fld.key, F.ALERT_STATUS_PIN, F.ALERT_STATUS_TEST, F.ALERT_STATUS_MODE, F.ALERT_STATUS_KIND, kinds, one]

theorem State.regsOnly.alertShow {s t : State} (h : s.regsOnly t) : s.regsOnly t.alertShow := (((h.put _ _).put _ _).put _ _).put _ _

/-- The four fields of `ALERT_STATUS` that show the sources. -/
def alertFields : List Fld := [F.ALERT_STATUS_PIN, F.ALERT_STATUS_TEST, F.ALERT_STATUS_MODE, F.ALERT_STATUS_KIND]

theorem State.get_alertShow_ne (s : State) {f : Fld} (h : f.key ∉ alertFields.map Fld.key) : s.alertShow.get f = s.get f := by
  simp only [alertFields, List.map_cons, List.map_nil, List.mem_cons, List.not_mem_nil, or_false, not_or] at h
  obtain ⟨pin, test, mode, kind⟩ := h
  simp [State.alertShow, State.get_put_ne, pin, test, mode, kind]

/-- The end of a command that changes the alert sources and, of the register fields, those listed and the four of `ALERT_STATUS`. -/
theorem State.finish_alertShow {l : List Fld} {s u x : State} (hs : s.Settled) (hm : u.mode = s.mode) (hi : u.ivTable = s.ivTable)
    (hp : u.pending = s.pending) (hb : u.berths = s.berths) (hf : u.follow = s.follow) (hr : u.regsOnly x) (hl : State.fieldsBut l s x)
    (hk : ∀ k ∈ shownKeys, k ∉ l.map Fld.key) :
    x.alertShow.Shows ∧ s.changes (alertFields ++ l) u (s.finish x.alertShow) ∧ ∀ f : Fld, (s.finish x.alertShow).get f = x.alertShow.get f := by
  obtain ⟨⟨mode, fill, _⟩, calm⟩ := hs
  have xmode : x.mode = s.mode := by rw [hr]; exact hm
  have xfill : x.ivTable = s.ivTable := by rw [hr]; exact hi
  have shows : x.alertShow.Shows := State.alertShow_shows (by rw [hl _ (hk _ (by decide)), xmode, mode]) (by rw [hl _ (hk _ (by decide)), xfill, fill])
  obtain ⟨changes, reads⟩ := State.changes_finish_shows (l := alertFields ++ l) (s := s) (calm.of_eq hb hf)
    hr.alertShow hp shows fun f hf => by
      rw [List.map_append, List.mem_append, not_or] at hf
      exact (State.get_alertShow_ne x hf.1).trans (hl f hf.2)
  exact ⟨shows, changes, reads⟩

/-! A word of `ALERT_CMD` (R378, R379). -/

/-- The register `ALERT_CMD` (Table 17.7). -/
def regAlertCmd : RDesc := ⟨0x0081, 0x1, 1, 1, [⟨8, 8, .wo, .live, 0⟩, ⟨1, 1, .wo, .live, 0⟩, ⟨0, 1, .wo, .live, 0⟩]⟩

/-- The state with the entry of an accepted word of `ALERT_CMD`. -/
def State.alertEntry (s : State) (w : Nat) : State := s.journal 0x81 (s.wordAt 0x81) w srcTwoWire resAccepted 0

theorem State.regsOnly.setAlerts {s t : State} (h : s.regsOnly t) (v : List Alert) : State.regsOnly (s.setAlerts v) (t.setAlerts v) := by
  unfold State.regsOnly at h ⊢
  exact congrArg (fun x : State => { x with alerts := v }) h

/-- The mode gates no word of the supervisor's domain in RUN, DRIFT and SURVEY. -/
theorem State.ungated {s : State} (hm : s.mode = .run ∨ s.mode = .drift ∨ s.mode = .survey) {a : Nat} (ha : domainOf a = 0) :
    s.gated srcTwoWire a = false := by
  rcases hm with h | h | h <;> simp [State.gated, State.domOn, ha, h]

/-- A confirmed word that asks for one thing is accepted, leaves its entry and does what it asks. -/
theorem State.regWrite_alertCmd {s : State} {w : Nat} (hm : s.mode = .run ∨ s.mode = .drift ∨ s.mode = .survey) (hst : s.stage = none)
    (hc : bits w 8 8 = 0x5A) (hone : bits w 0 2 ≠ 3) (hw : w < 65536) :
    s.regWrite srcTwoWire 0x81 w = (s.alertEntry w).alertCommand w := by
  have reg : regAt (s.stdAt 0x81) 0x81 = some (regAlertCmd, 0x81) := rfl
  have single : (bit w 0 && bit w 1) = false := by
    rw [Bool.eq_false_iff]
    simp only [bit, bits, ne_eq, Bool.and_eq_true, beq_iff_eq] at hone ⊢
    omega
  have rule : alertRule s (s.regValue regAlertCmd 0x81) w = none := by
    unfold alertRule
    simp [hc, single]
  have whole : bits w 0 16 = w := by simp only [bits]; omega
  have unshaded : s.shadows srcTwoWire 0x81 regAlertCmd = false := by simp [State.shadows, regAlertCmd]
  have accepted : s.acceptWrite srcTwoWire 0x81 regAlertCmd (s.regValue regAlertCmd 0x81) w = s.alertEntry w := by
    unfold State.acceptWrite
    rw [unshaded, State.alertEntry, State.wordAt_of_regAt reg]
    show s.journal 0x81 _ (bits w 0 16) srcTwoWire resAccepted 0 = _
    rw [whole]
  show s.alertWrite srcTwoWire w = _
  unfold State.alertWrite
  rw [State.write_one _ hst reg (State.ungated hm rfl) rfl, State.judge_ok rfl rfl rule, accepted]

theorem State.changes.of_same {l l' : List Fld} {s u t : State} (h : s.changes l u t)
    (same : ∀ f ∈ l, f.key ∉ l'.map Fld.key → t.get f = s.get f) : s.changes l' u t := by
  obtain ⟨rest, windows, fields⟩ := h
  refine ⟨rest, windows, fun f hf => ?_⟩
  by_cases listed : f.key ∈ l.map Fld.key
  · obtain ⟨g, hg, e⟩ := List.mem_map.1 listed
    have reads (x : State) : x.get f = x.get g := by simp only [State.get, e]
    rw [reads, reads]
    exact same g hg (e ▸ hf)
  · exact fields f listed

/-- TEST, its source fresh (R378): what it changes beside the sources. -/
def State.testShow (s : State) : State :=
  ((s.when s.alerts.isEmpty fun t => ((t.put F.ALERT_FIRST_KIND 0x20).put F.ALERT_FIRST_DETAIL 0).put F.ALERT_TIME_TIME t.ts).bump
    F.ALERT_COUNT_COUNT).up F.ALERT_STATUS_START_EV

/-- The sources after TEST: the test source, fresh, after the others. -/
def State.testAlerts (s : State) : List Alert := s.alerts.filter (fun a => !(a.kind == 0x20 && a.src == 0)) ++ [⟨0x20, 0, false, 0, false⟩]

theorem State.alertStart_test (s : State) : s.alertStart 0x20 0 0 false = (s.testShow.setAlerts s.testAlerts).alertShow := rfl

/-- The fields that TEST writes beside those of the sources. -/
def testFields : List Fld := [F.ALERT_STATUS_START_EV, F.ALERT_COUNT_COUNT, F.ALERT_FIRST_KIND, F.ALERT_FIRST_DETAIL, F.ALERT_TIME_TIME,
  F.JNL_NEWEST_NUMBER, F.JNL_STATUS_UNREAD_LOST]

theorem State.testAlerts_any (s : State) {k : Nat} (h : k ≠ 0x20) : s.testAlerts.any (·.kind == k) = s.alerts.any (·.kind == k) := by
  have last : ((0x20 : Nat) == k) = false := by simpa using Ne.symm h
  rw [State.testAlerts, List.any_append, List.any_filter]
  simp only [List.any_cons, List.any_nil, last, Bool.or_false]
  refine congrArg (List.any s.alerts) (funext fun a => ?_)
  by_cases e : a.kind = k
  · have : (a.kind == 0x20) = false := by simpa [e] using h
    simp [this]
  · simp [e]

theorem State.testAlerts_eq {s t : State} (h : t.alerts = s.alerts) : t.testAlerts = s.testAlerts := by rw [State.testAlerts, h, State.testAlerts]

theorem State.Writes.testShow {l : List Fld} {u t : State} (h : State.Writes l u t) (hl : ∀ f ∈ testFields, f.key ∈ l.map Fld.key) :
    State.Writes l u t.testShow :=
  ((h.when fun _ hx => ((hx.put (hl _ (by simp [testFields])) _).put (hl _ (by simp [testFields])) _).put (hl _ (by simp [testFields])) _).bump
    (hl _ (by simp [testFields]))).up (hl _ (by simp [testFields]))

/-- What TEST shows of itself. -/
theorem State.get_testShow (s : State) :
    s.testShow.get F.ALERT_STATUS_START_EV = 1 ∧ s.testShow.get F.ALERT_COUNT_COUNT = min 65535 (s.get F.ALERT_COUNT_COUNT + 1) ∧
      (s.alerts = [] → s.testShow.get F.ALERT_FIRST_KIND = 0x20 ∧ s.testShow.get F.ALERT_FIRST_DETAIL = 0 ∧
        s.testShow.get F.ALERT_TIME_TIME = s.ts % 2 ^ 64) ∧
      (s.alerts ≠ [] → s.testShow.get F.ALERT_FIRST_KIND = s.get F.ALERT_FIRST_KIND ∧ s.testShow.get F.ALERT_TIME_TIME = s.get F.ALERT_TIME_TIME) := by
  unfold State.testShow State.when
  refine ⟨?_, ?_, fun h => ?_, fun h => ?_⟩
  · simp [State.get_up, F.ALERT_STATUS_START_EV]
  · split <;> simp [State.get_up, State.get_bump, State.get_put, Fld.key, F.ALERT_STATUS_START_EV, F.ALERT_COUNT_COUNT, F.ALERT_FIRST_KIND,
      F.ALERT_FIRST_DETAIL, F.ALERT_TIME_TIME]
  · simp [h, State.get_up, State.get_bump, State.get_put, Fld.key, F.ALERT_STATUS_START_EV, F.ALERT_COUNT_COUNT, F.ALERT_FIRST_KIND,
      F.ALERT_FIRST_DETAIL, F.ALERT_TIME_TIME]
  · simp [h, State.get_up, State.get_bump, Fld.key, F.ALERT_STATUS_START_EV, F.ALERT_COUNT_COUNT, F.ALERT_FIRST_KIND, F.ALERT_TIME_TIME]

/-- An entry of `ALERT_CMD` leaves everything but the journal and its two fields. -/
theorem State.alertEntry_rest (s : State) (w : Nat) :
    s.alertEntry w = { s with regs := (s.alertEntry w).regs, jnl := (s.alertEntry w).jnl, jnlCount := s.jnlCount + 1, jnlLost := (s.alertEntry w).jnlLost } :=
  State.journal_rest ..

theorem State.get_alertEntry (s : State) (w : Nat) {f : Fld} (h : f.key ∉ [F.JNL_NEWEST_NUMBER.key, F.JNL_STATUS_UNREAD_LOST.key]) :
    (s.alertEntry w).get f = s.get f := by
  simp only [List.mem_cons, List.not_mem_nil, or_false, not_or] at h
  exact State.get_journal _ _ _ _ _ _ _ h.1 h.2

theorem State.alertCommand_serving {s : State} (h : s.serving = true) (w : Nat) :
    s.alertCommand w = (s.when (bit w 0) (·.alertClear)).when (bit w 1) (·.alertStart 0x20 0 0 false) := by
  refine if_neg fun e => ?_
  rw [beq_iff_eq] at e
  simp [State.serving, e] at h

/-- The end of a command that shows new alert sources, after an effect on register fields `l`, once a word of `ALERT_CMD` has been accepted. -/
theorem State.finish_alerts {l : List Fld} {s x : State} (hs : s.Settled) {w : Nat} {v : List Alert} (hx : State.Writes l (s.alertEntry w) x)
    (hj : ∀ f ∈ [F.JNL_NEWEST_NUMBER, F.JNL_STATUS_UNREAD_LOST], f.key ∈ l.map Fld.key) (hk : ∀ k ∈ shownKeys, k ∉ l.map Fld.key) :
    let t := s.finish (x.setAlerts v).alertShow
    t.alerts = v ∧ t.Shows ∧ s.changes (alertFields ++ l) ((s.alertEntry w).setAlerts v) t ∧
      ∀ f : Fld, f.key ∉ alertFields.map Fld.key → t.get f = x.get f := by
  have rest := s.alertEntry_rest w
  obtain ⟨_, changes, reads⟩ := State.finish_alertShow (l := l) (u := (s.alertEntry w).setAlerts v) (x := x.setAlerts v) hs (by rw [rest]; rfl) (by rw [rest]; rfl)
    (by rw [rest]; rfl) (by rw [rest]; rfl) (by rw [rest]; rfl) (hx.regs.setAlerts v)
    (fun f hf => (hx.fields f hf).trans (s.get_alertEntry w fun e => by
      simp only [List.mem_cons, List.not_mem_nil, or_false] at e
      rcases e with e | e
      · exact hf (e ▸ hj _ (by simp))
      · exact hf (e ▸ hj _ (by simp)))) hk
  refine ⟨?_, State.finish_shows _ _, changes, fun f hf => (reads f).trans (State.get_alertShow_ne _ hf)⟩
  rw [changes.1]
  rfl

/-- A confirmed TEST (R378). -/
theorem State.exec_test {s : State} (hs : s.Settled) (hd : s.dead = false) (hm : s.serving = true) {w : Word} (hp : s.pinLow = false)
    (hst : s.stage = none) (hc : bits w.toNat 8 8 = 0x5A) (h2 : bits w.toNat 0 2 = 2) :
    ∃ t, exec (.alertTest w) s = .next t ∧
      t.alerts = s.alerts.filter (fun a => !(a.kind == 0x20 && a.src == 0)) ++ [⟨0x20, 0, false, 0, false⟩] ∧
      t.get F.ALERT_STATUS_PIN = 1 ∧ t.get F.ALERT_STATUS_TEST = 1 ∧ t.get F.ALERT_STATUS_START_EV = 1 ∧
      t.get F.ALERT_COUNT_COUNT = min 65535 (s.get F.ALERT_COUNT_COUNT + 1) ∧
      (s.alerts = [] → t.get F.ALERT_FIRST_KIND = 0x20 ∧ t.get F.ALERT_FIRST_DETAIL = 0 ∧ t.get F.ALERT_TIME_TIME = s.ts % 2 ^ 64) ∧
      (s.alerts ≠ [] → t.get F.ALERT_FIRST_KIND = s.get F.ALERT_FIRST_KIND ∧ t.get F.ALERT_TIME_TIME = s.get F.ALERT_TIME_TIME) ∧
      s.changes [F.ALERT_STATUS_PIN, F.ALERT_STATUS_TEST, F.ALERT_STATUS_START_EV, F.ALERT_COUNT_COUNT, F.ALERT_FIRST_KIND,
        F.ALERT_FIRST_DETAIL, F.ALERT_TIME_TIME, F.JNL_NEWEST_NUMBER, F.JNL_STATUS_UNREAD_LOST]
        ((s.alertEntry w.toNat).setAlerts t.alerts) t := by
  have modes : s.mode = .run ∨ s.mode = .drift := by simpa [State.serving] using hm
  have clear : bit w.toNat 0 = false := by simp only [bit, bits, beq_eq_false_iff_ne] at h2 ⊢; omega
  have test : bit w.toNat 1 = true := by simp only [bit, bits, beq_iff_eq] at h2 ⊢; omega
  have rest := s.alertEntry_rest w.toNat
  have sources : (s.alertEntry w.toNat).alerts = s.alerts := by rw [rest]
  have serving : (s.alertEntry w.toNat).serving = true := by rw [← hm, State.serving, State.serving, rest]
  have effect : s.regWrite srcTwoWire 0x81 w.toNat = ((s.alertEntry w.toNat).testShow.setAlerts s.testAlerts).alertShow := by
    rw [State.regWrite_alertCmd (by tauto) hst hc (by omega) w.isLt, State.alertCommand_serving serving, clear, test]
    show (s.alertEntry w.toNat).alertStart 0x20 0 0 false = _
    rw [State.alertStart_test, State.testAlerts_eq sources]
  obtain ⟨alerts, shows, changes, reads⟩ := State.finish_alerts (v := s.testAlerts) hs
    ((State.Writes.refl testFields (s.alertEntry w.toNat)).testShow fun f hf => List.mem_map_of_mem hf) (by decide) (by decide)
  rw [← effect] at alerts shows changes reads
  obtain ⟨start, count, first, later⟩ := (s.alertEntry w.toNat).get_testShow
  rw [sources] at first later
  have time : (s.alertEntry w.toNat).ts = s.ts := by rw [rest]; rfl
  rw [time] at first
  rw [s.get_alertEntry w.toNat (by decide)] at count
  rw [s.get_alertEntry w.toNat (by decide), s.get_alertEntry w.toNat (by decide)] at later
  obtain ⟨_, _, pin, shown, mode, kind⟩ := shows
  refine ⟨_, exec_alertTest w s hd hp, alerts, ?_, ?_, (reads _ (by decide)).trans start, (reads _ (by decide)).trans count, fun h => ?_, fun h => ?_, ?_⟩
  · rw [pin, alerts]; simp [State.testAlerts, b2n]
  · rw [shown, alerts]; simp [State.testAlerts, b2n]
  · rw [reads _ (by decide), reads _ (by decide), reads _ (by decide)]
    exact first h
  · rw [reads _ (by decide), reads _ (by decide)]
    exact later h
  · rw [alerts]
    obtain ⟨⟨_, _, _, _, modeBefore, kindBefore⟩, _⟩ := hs
    refine changes.of_same fun f hf out => ?_
    simp only [alertFields, testFields, List.cons_append, List.nil_append, List.mem_cons, List.not_mem_nil, or_false] at hf
    have other (h : f = F.ALERT_STATUS_MODE ∨ f = F.ALERT_STATUS_KIND) : (s.finish (s.regWrite srcTwoWire 0x81 w.toNat)).get f = s.get f := by
      rcases h with rfl | rfl
      · rw [mode, modeBefore, alerts, s.testAlerts_any (by decide)]
      · rw [kind, kindBefore, alerts, s.testAlerts_any (by decide), s.testAlerts_any (by decide), s.testAlerts_any (by decide),
          s.testAlerts_any (by decide)]
    rcases hf with rfl | rfl | rfl | rfl | rfl | rfl | rfl | rfl | rfl | rfl | rfl
    case inr.inr.inl => exact other (.inl rfl)
    case inr.inr.inr.inl => exact other (.inr rfl)
    all_goals exact absurd (by decide) out

/-- A confirmed CLEAR (R379). -/
theorem State.exec_clear {s : State} (hs : s.Settled) (hd : s.dead = false) (hm : s.serving = true) {w : Word} (hp : s.pinLow = false)
    (hst : s.stage = none) (hc : bits w.toNat 8 8 = 0x5A) (h1 : bits w.toNat 0 2 = 1) :
    ∃ t, exec (.alertClear w) s = .next t ∧ t.alerts = s.alerts.filter (fun a => a.hold != 0 || a.stateOn) ∧
      t.get F.ALERT_STATUS_PIN = b2n (!t.alerts.isEmpty) ∧
      s.changes [F.ALERT_STATUS_PIN, F.ALERT_STATUS_TEST, F.ALERT_STATUS_MODE, F.ALERT_STATUS_KIND, F.JNL_NEWEST_NUMBER, F.JNL_STATUS_UNREAD_LOST]
        ((s.alertEntry w.toNat).setAlerts t.alerts) t := by
  have modes : s.mode = .run ∨ s.mode = .drift := by simpa [State.serving] using hm
  have clear : bit w.toNat 0 = true := by simp only [bit, bits, beq_iff_eq] at h1 ⊢; omega
  have test : bit w.toNat 1 = false := by simp only [bit, bits, beq_eq_false_iff_ne] at h1 ⊢; omega
  have rest := s.alertEntry_rest w.toNat
  have sources : (s.alertEntry w.toNat).alerts = s.alerts := by rw [rest]
  have serving : (s.alertEntry w.toNat).serving = true := by rw [← hm, State.serving, State.serving, rest]
  have effect : s.regWrite srcTwoWire 0x81 w.toNat =
      ((s.alertEntry w.toNat).setAlerts (s.alerts.filter (fun a => a.hold != 0 || a.stateOn))).alertShow := by
    rw [State.regWrite_alertCmd (by tauto) hst hc (by omega) w.isLt, State.alertCommand_serving serving, clear, test, ← sources]
    rfl
  obtain ⟨alerts, ⟨_, _, pin, _⟩, changes, _⟩ := State.finish_alerts (v := s.alerts.filter (fun a => a.hold != 0 || a.stateOn)) hs
    (State.Writes.refl [F.JNL_NEWEST_NUMBER, F.JNL_STATUS_UNREAD_LOST] (s.alertEntry w.toNat)) (by decide) (by decide)
  rw [← effect] at alerts pin changes
  exact ⟨_, exec_alertClear w s hd hp, alerts, pin, by rw [alerts]; exact changes⟩

/-- The end of the hold of a source (R379). -/
theorem State.exec_holdEnd {s : State} (hs : s.Settled) (hd : s.dead = false) (hm : s.serving = true) (kind src : Nat) :
    ∃ t, exec (.alertHoldExpire kind src) s = .next t ∧
      t.alerts = (s.alerts.map (fun a => if a.kind == kind && a.src == src && a.hold != 0 then { a with running := false } else a)).filter
        (fun a => a.hold == 0 || a.running || a.stateOn) ∧
      t.get F.ALERT_STATUS_PIN = b2n (!t.alerts.isEmpty) ∧
      s.changes [F.ALERT_STATUS_PIN, F.ALERT_STATUS_TEST, F.ALERT_STATUS_MODE, F.ALERT_STATUS_KIND] (s.setAlerts t.alerts) t := by
  generalize hv : (s.alerts.map (fun a => if a.kind == kind && a.src == src && a.hold != 0 then { a with running := false } else a)).filter
    (fun a => a.hold == 0 || a.running || a.stateOn) = v
  have effect : s.alertExpire kind src = (s.setAlerts v).alertShow := by
    have frozen : ¬(s.mode == .survey) = true := fun e => by
      rw [beq_iff_eq] at e
      simp [State.serving, e] at hm
    subst hv
    refine (if_neg frozen).trans (if_neg ?_)
    show ¬(!s.serving) = true
    rw [hm]
    decide
  obtain ⟨_, changes, _⟩ := State.finish_alertShow (l := []) (u := s.setAlerts v) (x := s.setAlerts v) hs rfl rfl rfl rfl rfl (State.regsOnly.refl _)
    (fun _ _ => rfl) (by simp)
  obtain ⟨_, _, pin, _⟩ := State.finish_shows s (s.setAlerts v).alertShow
  rw [← effect] at changes pin
  have alerts : (s.finish (s.alertExpire kind src)).alerts = v := by rw [changes.1]; rfl
  exact ⟨_, exec_alertHoldExpire kind src s hd, alerts, pin, by rw [alerts]; exact changes⟩

/-! SURVEY freezes the path (R380). -/

theorem State.Beside.alertEntry (s : State) (w : Nat) (v : List Nat) : (s.alertEntry w).Beside ((s.alertEntry w).setAlertCmds v) :=
  ⟨rfl, rfl, rfl, rfl, rfl, rfl, rfl⟩

/-- An accepted word of `ALERT_CMD` in SURVEY. -/
theorem State.exec_surveyAlert {s : State} (hs : s.Settled) (hd : s.dead = false) (hm : s.mode = .survey) {w : Word} (hp : s.pinLow = false)
    (hst : s.stage = none) (hc : bits w.toNat 8 8 = 0x5A) (h3 : bits w.toNat 0 2 ≠ 3) :
    ∃ t, exec (.alertClear w) s = .next t ∧ exec (.alertTest w) s = .next t ∧ t.alertCmds = s.alertCmds ++ [w.toNat] ∧ t.alerts = s.alerts ∧
      (bit w.toNat 0 = true → t.get F.ALERT_STATUS_CLEAR_PENDING = 1) ∧
      s.changes [F.ALERT_STATUS_CLEAR_PENDING, F.JNL_NEWEST_NUMBER, F.JNL_STATUS_UNREAD_LOST]
        ((s.alertEntry w.toNat).setAlertCmds t.alertCmds) t := by
  have rest := s.alertEntry_rest w.toNat
  have survey : (s.alertEntry w.toNat).mode = .survey := by rw [rest]; exact hm
  have before : (s.alertEntry w.toNat).alertCmds = s.alertCmds := by rw [rest]
  have effect : s.regWrite srcTwoWire 0x81 w.toNat =
      ((s.alertEntry w.toNat).setAlertCmds (s.alertCmds ++ [w.toNat])).when (bit w.toNat 0) (·.up F.ALERT_STATUS_CLEAR_PENDING) := by
    rw [State.regWrite_alertCmd (by tauto) hst hc h3 w.isLt, ← before]
    exact if_pos (by rw [survey]; rfl)
  have writes : State.Writes [F.ALERT_STATUS_CLEAR_PENDING, F.JNL_NEWEST_NUMBER, F.JNL_STATUS_UNREAD_LOST]
      ((s.alertEntry w.toNat).setAlertCmds (s.alertCmds ++ [w.toNat])) (s.regWrite srcTwoWire 0x81 w.toNat) := by
    rw [effect]
    exact (State.Writes.refl _ _).when fun _ hx => hx.up (by simp)
  have calm : ((s.alertEntry w.toNat).setAlertCmds (s.alertCmds ++ [w.toNat])).Calm := hs.2.of_eq (by rw [rest]; rfl) (by rw [rest]; rfl)
  have changes := State.changes_finish (l := [F.ALERT_STATUS_CLEAR_PENDING, F.JNL_NEWEST_NUMBER, F.JNL_STATUS_UNREAD_LOST]) hs.1 calm writes.regs
    (by rw [rest]; rfl) (by rw [rest]; rfl) (by rw [rest]; rfl) (by rw [rest]; rfl) (by decide)
    fun f hf => (writes.fields f hf).trans (s.get_alertEntry _ fun e => hf (by
      simp only [List.mem_cons, List.not_mem_nil, or_false] at e
      simp [e]))
  have cmds : (s.finish (s.regWrite srcTwoWire 0x81 w.toNat)).alertCmds = s.alertCmds ++ [w.toNat] := by rw [changes.1]; rfl
  have alerts : (s.finish (s.regWrite srcTwoWire 0x81 w.toNat)).alerts = s.alerts := by
    rw [changes.1, rest]
    rfl
  refine ⟨_, exec_alertClear w s hd hp, exec_alertTest w s hd hp, cmds, alerts, fun h => ?_, by rw [cmds]; exact changes⟩
  rw [State.get_finish (writes.regs.calm calm) (by decide), effect, h]
  exact State.get_put_same ..

/-! The urgent class list (R387). -/

/-- What a complete entry writes: the fields of entry `i`. -/
def State.urgEntry (s : State) (i a b c : Nat) : State :=
  (((s.put (F.URG_ENTRY_A_KIND.ofUrg i) (bits a 8 8)).put (F.URG_ENTRY_A_BERTH.ofUrg i) (bits a 0 8)).put (F.URG_ENTRY_B_ACTION.ofUrg i) b).put
    (F.URG_ENTRY_C_HOLD.ofUrg i) c

/-- The entries of the change journal that a complete entry leaves, its words staged no longer. -/
def State.urgJournal (s : State) (a b c : Nat) : State :=
  let u := s.setStage none
  ((u.journalWrite srcTwoWire 0x89 (u.wordAt 0x89) a resAccepted).journalWrite srcTwoWire 0x8A (u.wordAt 0x8A) b resAccepted).journalWrite
    srcTwoWire 0x8B (u.wordAt 0x8B) c resAccepted

theorem State.urgJournal_rest (s : State) (a b c : Nat) :
    s.urgJournal a b c = { s.setStage none with
      regs := (s.urgJournal a b c).regs, jnl := (s.urgJournal a b c).jnl, jnlCount := (s.urgJournal a b c).jnlCount,
      jnlLost := (s.urgJournal a b c).jnlLost } := by
  unfold State.urgJournal
  dsimp only
  rw [State.journalWrite_rest _ _ 0x8B, State.journalWrite_rest _ _ 0x8A, State.journalWrite_rest _ _ 0x89]

theorem State.fieldsBut_urgJournal (s : State) (a b c : Nat) :
    State.fieldsBut [F.JNL_NEWEST_NUMBER, F.JNL_STATUS_UNREAD_LOST] s (s.urgJournal a b c) := by
  have unstaged : State.fieldsBut [F.JNL_NEWEST_NUMBER, F.JNL_STATUS_UNREAD_LOST] s (s.setStage none) := fun _ _ => rfl
  unfold State.urgJournal
  dsimp only
  exact ((unstaged.journalWrite _ _ _ _ _ (by simp) (by simp)).journalWrite _ _ _ _ _ (by simp) (by simp)).journalWrite _ _ _ _ _ (by simp) (by simp)

theorem State.regWrite_urgEntry {s : State} {a b c : Nat} (hm : s.serving = true) (hst : s.stage = some ⟨0x89, [(1, b), (0, a)]⟩)
    (hk : bits a 8 8 ≤ 4) (hb : bits a 0 8 < 96 ∨ bits a 0 8 = 0xFF) (hact : b ≤ 3) :
    s.regWrite srcTwoWire 0x8B c = (s.urgJournal a b c).urgEntry (s.get F.URG_SEL_ENTRY) a b c := by
  rw [← s.fieldsBut_urgJournal a b c F.URG_SEL_ENTRY (by decide)]
  have modes : s.mode = .run ∨ s.mode = .drift := by simpa [State.serving] using hm
  have untouched : s.touch 0x8B = s := by unfold State.touch; rw [hst]; rfl
  have legal : legalReg 0x89 0 a = true := by
    show (Nat.ble (bits a 8 8) 4 && (Nat.blt (bits a 0 8) 96 || bits a 0 8 == 0xFF)) = true
    simp only [Nat.ble_eq, Nat.blt_eq, Bool.and_eq_true, Bool.or_eq_true, beq_iff_eq]
    exact ⟨hk, hb⟩
  have small : Nat.blt 3 b = false := by
    rw [Bool.eq_false_iff, ne_eq, Nat.blt_eq]
    omega
  have staged : Stage.add s.stage 0x89 2 c = ⟨0x89, [(2, c), (1, b), (0, a)]⟩ := by rw [hst]; rfl
  show s.urgEntryWrite srcTwoWire 0x8B c = _
  unfold State.urgEntryWrite
  simp only [if_true, untouched, State.ungated (s := s) (a := 0x8B) (by tauto) rfl, Bool.false_eq_true, if_false, staged]
  refine (if_neg (by decide)).trans (if_neg ?_)
  show ¬(!legalReg 0x89 0 a || Nat.blt 3 b) = true
  rw [legal, small]
  decide

theorem Fld.ofUrg_key (f : Fld) (i : Nat) : (f.ofUrg i).key = urgAddr i f.addr * 16 + f.lo := by simp only [Fld.key, Fld.ofUrg]

theorem urgAddr_eq (i a : Nat) : ∃ n, n = 77824 ∧ urgAddr i a = n + 4 * i + (a - 137) := ⟨_, rfl, rfl⟩

/-- The fields of an entry of the urgent-class table are no others. -/
theorem urg_keys (i : Nat) (f : Fld) : (f.ofUrg i).key ∉ shownKeys := by
  have bound : 1245184 ≤ (f.ofUrg i).key := by
    obtain ⟨n, base, addr⟩ := urgAddr_eq i f.addr
    rw [Fld.ofUrg_key, addr]
    omega
  intro h
  have small : ∀ k ∈ shownKeys, k < 1245184 := by
    simp [shownKeys, Fld.key, F.GLB_MODE_MODE, F.BOND_IV_FILL_ENTRIES, F.ALERT_STATUS_PIN, F.ALERT_STATUS_TEST, F.ALERT_STATUS_MODE, F.ALERT_STATUS_KIND]
  exact absurd (small _ h) (by omega)

/-- A complete entry puts its three words in force together. -/
theorem State.get_urgEntry (s : State) (i a b c : Nat) :
    let t := s.urgEntry i a b c
    t.get (F.URG_ENTRY_A_KIND.ofUrg i) = bits a 8 8 ∧ t.get (F.URG_ENTRY_A_BERTH.ofUrg i) = bits a 0 8 ∧
      t.get (F.URG_ENTRY_B_ACTION.ofUrg i) = b % 4 ∧ t.get (F.URG_ENTRY_C_HOLD.ofUrg i) = c % 65536 := by
  have byte (x l : Nat) : bits x l 8 % 256 = bits x l 8 := by simp only [bits]; omega
  obtain ⟨n, _, addrA⟩ := urgAddr_eq i 137
  obtain ⟨m, _, addrB⟩ := urgAddr_eq i 138
  obtain ⟨l, _, addrC⟩ := urgAddr_eq i 139
  have kindKey : (F.URG_ENTRY_A_KIND.ofUrg i).key = urgAddr i 137 * 16 + 8 := Fld.ofUrg_key ..
  have berthKey : (F.URG_ENTRY_A_BERTH.ofUrg i).key = urgAddr i 137 * 16 := Fld.ofUrg_key ..
  have actionKey : (F.URG_ENTRY_B_ACTION.ofUrg i).key = urgAddr i 137 * 16 + 16 := (Fld.ofUrg_key ..).trans (by
    show urgAddr i 138 * 16 + 0 = _
    omega)
  have holdKey : (F.URG_ENTRY_C_HOLD.ofUrg i).key = urgAddr i 137 * 16 + 32 := (Fld.ofUrg_key ..).trans (by
    show urgAddr i 139 * 16 + 0 = _
    omega)
  have kindWidth : (F.URG_ENTRY_A_KIND.ofUrg i).width = 8 := rfl
  have berthWidth : (F.URG_ENTRY_A_BERTH.ofUrg i).width = 8 := rfl
  have actionWidth : (F.URG_ENTRY_B_ACTION.ofUrg i).width = 2 := rfl
  have holdWidth : (F.URG_ENTRY_C_HOLD.ofUrg i).width = 16 := rfl
  simp [State.urgEntry, State.get_put, kindKey, berthKey, actionKey, holdKey, kindWidth, berthWidth, actionWidth, holdWidth, byte]

/-- The last word of an entry (R387). -/
theorem State.exec_urgEntry {s : State} (hs : s.Settled) (hd : s.dead = false) (hm : s.serving = true) {a b c : Word} (hp : s.pinLow = false)
    (hst : s.stage = some ⟨0x89, [(1, b.toNat), (0, a.toNat)]⟩) (hk : bits a.toNat 8 8 ≤ 4)
    (hb : bits a.toNat 0 8 < 96 ∨ bits a.toNat 0 8 = 0xFF) (hact : b.toNat ≤ 3) :
    let i := s.get F.URG_SEL_ENTRY
    ∃ t, exec (.urgEntryWrite c) s = .next t ∧ t.stage = none ∧
      t.get (F.URG_ENTRY_A_KIND.ofUrg i) = bits a.toNat 8 8 ∧ t.get (F.URG_ENTRY_A_BERTH.ofUrg i) = bits a.toNat 0 8 ∧
      t.get (F.URG_ENTRY_B_ACTION.ofUrg i) = b.toNat ∧ t.get (F.URG_ENTRY_C_HOLD.ofUrg i) = c.toNat ∧ t.alerts = s.alerts ∧
      State.fieldsBut [F.URG_ENTRY_A_KIND.ofUrg i, F.URG_ENTRY_A_BERTH.ofUrg i, F.URG_ENTRY_B_ACTION.ofUrg i, F.URG_ENTRY_C_HOLD.ofUrg i,
        F.JNL_NEWEST_NUMBER, F.JNL_STATUS_UNREAD_LOST] s t := by
  generalize hi : s.get F.URG_SEL_ENTRY = i
  intro
  have rest := s.urgJournal_rest a.toNat b.toNat c.toNat
  have effect := State.regWrite_urgEntry (c := c.toNat) hm hst hk hb hact
  have calm : (s.urgJournal a.toNat b.toNat c.toNat).Calm := hs.2.of_eq (by rw [rest]; rfl) (by rw [rest]; rfl)
  have writes : State.Writes [F.URG_ENTRY_A_KIND.ofUrg i, F.URG_ENTRY_A_BERTH.ofUrg i, F.URG_ENTRY_B_ACTION.ofUrg i, F.URG_ENTRY_C_HOLD.ofUrg i,
        F.JNL_NEWEST_NUMBER, F.JNL_STATUS_UNREAD_LOST] (s.urgJournal a.toNat b.toNat c.toNat) (s.regWrite srcTwoWire 0x8B c.toNat) := by
    rw [effect, hi]
    exact ((((State.Writes.refl _ _).put (by simp) _).put (by simp) _).put (by simp) _).put (by simp) _
  have changes := State.changes_finish (l := [F.URG_ENTRY_A_KIND.ofUrg i, F.URG_ENTRY_A_BERTH.ofUrg i, F.URG_ENTRY_B_ACTION.ofUrg i,
      F.URG_ENTRY_C_HOLD.ofUrg i, F.JNL_NEWEST_NUMBER, F.JNL_STATUS_UNREAD_LOST]) hs.1 calm writes.regs
    (by rw [rest]; rfl) (by rw [rest]; rfl) (by rw [rest]; rfl) (by rw [rest]; rfl)
    (fun k hk e => by
      simp only [List.map_cons, List.map_nil, List.mem_cons, List.not_mem_nil, or_false] at e
      rcases e with e | e | e | e | e | e
      · exact urg_keys i _ (e ▸ hk)
      · exact urg_keys i _ (e ▸ hk)
      · exact urg_keys i _ (e ▸ hk)
      · exact urg_keys i _ (e ▸ hk)
      · exact absurd (e ▸ hk) (by decide)
      · exact absurd (e ▸ hk) (by decide))
    fun f hf => (writes.fields f hf).trans (s.fieldsBut_urgJournal _ _ _ f fun e => hf (by
      simp only [List.map_cons, List.map_nil, List.mem_cons, List.not_mem_nil, or_false] at e
      simp [e]))
  have reads (f : Fld) := (State.get_finish (s := s) (writes.regs.calm calm) (urg_keys i f)).trans ((congrArg (·.get (f.ofUrg i)) (effect.trans (by rw [hi]))))
  obtain ⟨kind, berth, action, hold⟩ := (s.urgJournal a.toNat b.toNat c.toNat).get_urgEntry i a.toNat b.toNat c.toNat
  refine ⟨_, exec_urgEntryWrite c s hd hp, ?_, (reads _).trans kind, (reads _).trans berth,
    (reads _).trans (action.trans (Nat.mod_eq_of_lt (by omega))), (reads _).trans (hold.trans (Nat.mod_eq_of_lt c.isLt)), ?_, changes.2.2⟩
  · rw [changes.1, rest]; rfl
  · rw [changes.1, rest]; rfl

/-- Settles O56: in RUN and DRIFT an accepted word of `ALERT_CMD` and the end of a hold change the sources and what shows them; in SURVEY the
first waits and the second does nothing. -/
theorem urgentCommands : Obligations.UrgentCommands := by
  intro s hs hd
  refine ⟨fun hm => ⟨fun w hp hst hc h2 => State.exec_test hs hd hm hp hst hc h2, fun w hp hst hc h1 => State.exec_clear hs hd hm hp hst hc h1,
    fun kind src => State.exec_holdEnd hs hd hm kind src, fun a b c hp hst hk hb hact => State.exec_urgEntry hs hd hm hp hst hk hb hact⟩,
    fun hm => ⟨fun w hp hst hc h3 => State.exec_surveyAlert hs hd hm hp hst hc h3, fun kind src => ⟨_, exec_alertHoldExpire kind src s hd, ?_⟩⟩⟩
  rw [show s.alertExpire kind src = s from if_pos (by rw [hm]; rfl)]
  exact State.onlyFields_self hs

end Sys2Proof.Machine

/-! What the audio ports' own work leaves: their control and status fields, and everything beside the registers, the ports, the holds and the
journals (R261 to R270, R303 to R316, R396, R409). -/

namespace Sys2Proof.Machine

/-- A state without what the work of an audio port, with its hold and its entries in the journals, may change. -/
def State.islandFrame (s : State) : State :=
  { s with regs := [], ports := [], banks := [], shadow := [], jnl := [], jnlCount := 0, jnlLost := 0, err := [], errExport := [], custody := [],
           prods := [], injSeen := false, errCount := 0 }

/-- Where, in the 16 registers of its set, a converter, a start or a stop of a port marks something (LATE_EV, START_LATE_EV, CLOCK_OK, `AU_POSITION`,
`AU_LATE`), or a quay shows HELD_OFF. -/
def marks : List Nat := [0x1D, 0x21, 0x25, 0x2F, 0x60, 0x90]

/-- The keys of the other port fields from 0x2300, and of UNDERRUN_EV of the holds. -/
def pinKey (k : Nat) : Bool := (Nat.ble 0x23000 k && Nat.blt k 0x23400 && !marks.contains (k % 256)) || (Nat.ble 0x100000 k && k % 256 == 0x73)

theorem pinKey_eq_false_of_mod {k : Nat} (h : k % 256 ∈ marks) : pinKey k = false := by
  have other : ∀ m ∈ marks, m ≠ 0x73 := by decide
  simp [pinKey, h, other _ h]

theorem pinKey_mark {f : Fld} {a l : Nat} (p : Nat) (hf : f.key = (a + 0x10 * p) * 16 + l) (h : (a * 16 + l) % 256 ∈ marks) : pinKey f.key = false := by
  refine pinKey_eq_false_of_mod ?_
  rwa [hf, show ((a + 0x10 * p) * 16 + l) % 256 = (a * 16 + l) % 256 by omega]

theorem pinKey_eq_false_of_lt {k : Nat} (h : k < 0x23000) : pinKey k = false := by
  rw [Bool.eq_false_iff]
  simp only [pinKey, ne_eq, Bool.or_eq_true, Bool.and_eq_true, Nat.ble_eq]
  omega

theorem holdKey_eq (f : Fld) (h : Nat) : (f.ofHold h).key = 0x100000 + 256 * h + ((f.addr - 0x2000) * 16 + f.lo) := by
  unfold Fld.key Fld.ofHold holdAddr
  dsimp only
  omega

theorem pinKey_ofHold {f : Fld} (h : Nat) (hf : ((f.addr - 0x2000) * 16 + f.lo) % 256 ≠ 0x73) : pinKey (f.ofHold h).key = false := by
  have key := holdKey_eq f h
  rw [Bool.eq_false_iff]
  simp only [pinKey, ne_eq, Bool.or_eq_true, Bool.and_eq_true, beq_iff_eq, Nat.ble_eq, Nat.blt_eq]
  omega

/-- From `z` to `s` the fields of `pinKey` and all that `State.islandFrame` leaves are as they were. -/
structure State.Island (z s : State) : Prop where
  frame : s.islandFrame = z.islandFrame
  get : ∀ f : Fld, pinKey f.key = true → s.get f = z.get f

namespace State.Island

variable {z s t : State}

theorem refl (s : State) : s.Island s := ⟨rfl, fun _ _ => rfl⟩

theorem trans (h : z.Island s) (h' : s.Island t) : z.Island t := ⟨h'.frame.trans h.frame, fun f hf => (h'.get f hf).trans (h.get f hf)⟩

/-! One rule per update of a part that the frame leaves out. -/

theorem setBanks (h : z.Island s) (v : Tbl Nat) : z.Island (s.setBanks v) := ⟨h.frame, h.get⟩
theorem putPort (h : z.Island s) (p : Nat) (v : Port) : z.Island (s.putPort p v) := ⟨h.frame, h.get⟩
theorem custody (h : z.Island s) {v : List Item} : z.Island { s with custody := v } := ⟨h.frame, h.get⟩
theorem putProd (h : z.Island s) (p : Nat) (v : Producer) : z.Island (s.putProd p v) := ⟨h.frame, h.get⟩
theorem setErr (h : z.Island s) (v : List EEntry) : z.Island (s.setErr v) := ⟨h.frame, h.get⟩
theorem setErrCount (h : z.Island s) (v : Nat) : z.Island (s.setErrCount v) := ⟨h.frame, h.get⟩
theorem setErrExport (h : z.Island s) (v : List EEntry) : z.Island (s.setErrExport v) := ⟨h.frame, h.get⟩
theorem setInjSeen (h : z.Island s) (v : Bool) : z.Island (s.setInjSeen v) := ⟨h.frame, h.get⟩
theorem setJnl (h : z.Island s) (v : List JEntry) : z.Island (s.setJnl v) := ⟨h.frame, h.get⟩
theorem setJnlCount (h : z.Island s) (v : Nat) : z.Island (s.setJnlCount v) := ⟨h.frame, h.get⟩
theorem setJnlLost (h : z.Island s) (v : Nat) : z.Island (s.setJnlLost v) := ⟨h.frame, h.get⟩

/-! Register fields. -/

theorem put (h : z.Island s) {f : Fld} {v : Nat} (hf : pinKey f.key = false) : z.Island (s.put f v) :=
  ⟨h.frame, fun g hg => (State.get_put_ne s v fun e => by rw [e, hf] at hg; cases hg).trans (h.get g hg)⟩

theorem up (h : z.Island s) {f : Fld} (hf : pinKey f.key = false) : z.Island (s.up f) := h.put hf

theorem down (h : z.Island s) {f : Fld} (hf : pinKey f.key = false) : z.Island (s.down f) := h.put hf

theorem bump (h : z.Island s) {f : Fld} (hf : pinKey f.key = false) : z.Island (s.bump f) := h.put hf

theorem ite {c : Prop} [Decidable c] (hs : z.Island s) (ht : z.Island t) : z.Island (if c then s else t) := by split <;> assumption

theorem when (h : z.Island s) {c : Bool} {g : State → State} (hg : ∀ t, z.Island t → z.Island (g t)) : z.Island (s.when c g) := (hg s h).ite h

theorem each {α : Type} (h : z.Island s) {l : List α} {g : α → State → State} (hg : ∀ a ∈ l, ∀ t, z.Island t → z.Island (g a t)) :
    z.Island (s.each l g) := by
  unfold State.each
  induction l generalizing s with
  | nil => exact h
  | cons a l ih => exact ih (hg a (by simp) s h) fun b hb => hg b (by simp [hb])

theorem attn (h : z.Island s) (b : Nat) : z.Island (s.attn b) := by
  unfold State.attn
  dsimp only
  refine ite (up ?_ rfl) ?_ <;> exact ite h (put h rfl)

/-! Holds (R261 to R270). -/

theorem holdEvent (h : z.Island s) {n : Nat} {f : Fld} {en : Bool} (hf : ((f.addr - 0x2000) * 16 + f.lo) % 256 ≠ 0x73) :
    z.Island (s.holdEvent n f en) := by
  unfold State.holdEvent
  exact when (up h (pinKey_ofHold n hf)) fun _ ht => attn ht 1

theorem holdJudge (h : z.Island s) (n : Nat) : z.Island (s.holdJudge n) := by
  unfold State.holdJudge
  exact ite (holdEvent (bump (up h (pinKey_ofHold n (by decide))) (pinKey_ofHold n (by decide))) (by decide))
    (ite (holdEvent (bump (down h (pinKey_ofHold n (by decide))) (pinKey_ofHold n (by decide))) (by decide)) h)

theorem holdFill (h : z.Island s) (n fill : Nat) : z.Island (s.holdFill n fill) := by
  unfold State.holdFill
  exact holdJudge (put (when (put h (pinKey_ofHold n (by decide))) fun _ ht => put ht (pinKey_ofHold n (by decide))) (pinKey_ofHold n (by decide))) n

theorem ringFill (h : z.Island s) (n popped fill : Nat) : z.Island (s.ringFill n popped fill) := by
  unfold State.ringFill
  exact holdFill (setBanks h _) n fill

theorem ringShow (h : z.Island s) (n fill : Nat) : z.Island (s.ringShow n fill) := h.ringFill ..

/-! The error journal (R396, R409). -/

theorem accept (h : z.Island s) (p content flags ts : Nat) (payload : List Byte) (reserve : Bool) : z.Island (s.accept p content flags ts payload reserve) := by
  unfold State.accept State.numbered State.refreshHolds State.showHeld
  refine put (holdFill (holdFill (putProd (custody h) _ _) _ _) _ _) (pinKey_mark (a := 0x2101) (l := 13) (s.route p content) rfl (by decide))

theorem exportOne (h : z.Island s) {e : EEntry} {x : State} (hx : s.exportOne e = some x) : z.Island x := by
  unfold State.exportOne at hx
  dsimp only at hx
  split at hx
  · exact Option.some.inj hx ▸ h.accept ..
  · split at hx
    · exact Option.some.inj hx ▸ h.accept ..
    · cases hx

theorem exportDrain (h : z.Island s) : z.Island s.exportDrain := by
  unfold State.exportDrain
  refine List.foldlRecOn _ _ h fun t ht _ _ => ?_
  split
  · split
    · next hx => exact (ht.exportOne hx).setErrExport _
    · split
      · split
        · next hx => exact (ht.exportOne hx).setErrExport _
        · exact ht
      · exact ht
  · exact ht

theorem error (h : z.Island s) (detector : Nat) (u : UnitType) (index : Nat) (o : Outc) (a : EArgs) : z.Island (s.error detector u index o a) := by
  unfold State.error
  dsimp only
  have listed (e : EEntry) := ((h.setErr ((e :: s.err).take 4096)).setErrCount (s.errCount + 1)).put (f := F.ERR_NEWEST_NUMBER) (v := s.errCount + 1) rfl
  have counted (e : EEntry) := (listed e).when (c := Nat.ble 4096 s.err.length) fun _ ht => ht.bump (f := F.ERR_STATUS_UNREAD_LOST) rfl
  have marked (e : EEntry) := (counted e).when (c := a.injected) fun _ ht => (ht.up (f := F.PROT_STATUS_INJECTED_EV) rfl).setInjSeen true
  have asked (e : EEntry) := (marked e).when (c := o == .lasting || o == .noSpare || o == .lost) fun _ ht => ht.attn 5
  exact ite (ite (exportDrain (setErrExport (asked _) _)) (bump (asked _) rfl)) (asked _)

/-! The change journal and the supervisor (R28, R62). -/

theorem journal (h : z.Island s) (a old new src res det : Nat) : z.Island (s.journal a old new src res det) := by
  unfold State.journal
  have shown (e : JEntry) := ((h.setJnl ((e :: s.jnl).take 1024)).setJnlCount (s.jnlCount + 1)).put (f := F.JNL_NEWEST_NUMBER) (v := s.jnlCount + 1) rfl
  exact ite (shown _) ((bump (shown _) rfl).setJnlLost _)

theorem journalWrite (h : z.Island s) (src a old new res : Nat) : z.Island (s.journalWrite src a old new res) := by
  rcases s.journalWrite_eq src a old new res with e | ⟨o, n, e⟩
  · rw [e]; exact h
  · rw [e]; exact h.journal ..

theorem showOutputs (h : z.Island s) : z.Island s.showOutputs := each h fun o ho _ ht => ht.put (by
  have := List.mem_range.1 ho
  clear * - this
  revert o
  decide)

/-! The converter and the output stage (R309, R311). -/

theorem convertOne (h : z.Island s) (p : Nat) (missing : List Nat) : z.Island (s.convertOne p missing) := by
  have lateEv : pinKey (F.AU_STATUS_LATE_EV p).key = false := pinKey_mark (a := 0x2302) (l := 5) p rfl (by decide)
  have late : pinKey (F.AU_LATE_SLOTS p).key = false := pinKey_mark (a := 0x2309) (l := 0) p rfl (by decide)
  have marked := h.when (c := !missing.isEmpty) fun _ ht => ht.up lateEv
  unfold State.convertOne
  dsimp only
  exact putPort (put marked late) p _

theorem convertAhead (h : z.Island s) (p n : Nat) : z.Island (s.convertAhead p n) := by
  induction n generalizing s with
  | zero => exact h
  | succ n ih =>
    unfold State.convertAhead
    exact ite h (ite (ih (h.convertOne p _)) h)

theorem guardFill (h : z.Island s) (p : Nat) : z.Island (s.guardFill p).1 := h.putPort p _

theorem portPump (h : z.Island s) (p : Nat) : z.Island (s.portPump p) := by
  unfold State.portPump
  exact ringFill (ite (((h.guardFill p).convertAhead p _).guardFill p) ((((h.guardFill p).convertAhead p _).guardFill p).convertAhead p _)) _ _ _

theorem portEmpty (h : z.Island s) (p : Nat) : z.Island (s.portEmpty p) := by
  unfold State.portEmpty
  exact (h.putPort p _).ringFill ..

/-! What follows from it. -/

theorem units (h : z.Island s) : s.units = z.units := show s.islandFrame.units = z.islandFrame.units by rw [h.frame]

theorem core (h : z.Island s) : s.core = z.core := show s.islandFrame.core = z.islandFrame.core by rw [h.frame]

theorem berths (h : z.Island s) : s.berths = z.berths := show s.islandFrame.berths = z.islandFrame.berths by rw [h.frame]

theorem follow (h : z.Island s) : s.follow = z.follow := show s.islandFrame.follow = z.islandFrame.follow by rw [h.frame]

theorem unit (h : z.Island s) (u : UnitType) (i : Nat) : s.unit u i = z.unit u i := by simp only [State.unit, h.units]

theorem isRetired (h : z.Island s) (u : UnitType) (i : Nat) : s.isRetired u i = z.isRetired u i := by simp only [State.isRetired, h.unit]

theorem mode (h : z.Island s) : s.mode = z.mode := show s.islandFrame.mode = z.islandFrame.mode by rw [h.frame]

end State.Island

end Sys2Proof.Machine

/-! The start and the output states of audio ports (R306, R309, R311 to R315). -/

namespace Sys2Proof.Machine

theorem pinKey_port {p : Nat} (hp : p < 4) : ∀ f ∈ [F.AU_CTRL_RUN p, F.AU_CTRL_STOPPED p, F.AU_CTRL_MASTER p, F.AU_CTRL_MUTE p, F.AU_STATUS_OUT_STATE p,
    F.AU_STATUS_UNSUPPORTED p, F.AU_STATUS_UNDERRUN p, F.AU_COUNTS_UNDERRUNS p, F.AU_DIV_DIV p, F.AU_CLOCK_FS_FOUND p],
    pinKey f.key = true ∧ f.key ∉ shownKeys := by
  revert p
  decide

theorem hold_not_shown (f : Fld) (h : Nat) : (f.ofHold h).key ∉ shownKeys := fun hk => by
  have small : ∀ k ∈ shownKeys, k < 0x100000 := by
    simp [shownKeys, Fld.key, F.GLB_MODE_MODE, F.BOND_IV_FILL_ENTRIES, F.ALERT_STATUS_PIN, F.ALERT_STATUS_TEST, F.ALERT_STATUS_MODE, F.ALERT_STATUS_KIND]
  have := small _ hk
  rw [holdKey_eq] at this
  omega

namespace State.Island

variable {z s : State}

theorem outState (h : z.Island s) {p : Nat} (hp : p < 4) : s.outState p = z.outState p := h.get _ (pinKey_port hp _ (by simp)).1

theorem portRuns (h : z.Island s) {p : Nat} (hp : p < 4) : s.portRuns p = z.portRuns p := State.portRuns_of (h.get _ (pinKey_port hp _ (by simp)).1)

end State.Island

/-- The end of a command that leaves what `State.islandFrame` keeps. -/
theorem State.finish_framed {s t : State} (hs : s.Settled) (hf : t.islandFrame = s.islandFrame) :
    s.steady (s.finish t) ∧ (s.finish t).ports = t.ports ∧ (s.finish t).errCount = t.errCount ∧
      ∀ f : Fld, f.key ∉ shownKeys → (s.finish t).get f = t.get f := by
  have berths : t.berths = s.berths := show t.islandFrame.berths = s.islandFrame.berths by rw [hf]
  have follow : t.follow = s.follow := show t.islandFrame.follow = s.islandFrame.follow by rw [hf]
  have calm : t.Calm := hs.2.of_eq berths follow
  have rest := (State.finish_rest s calm).1
  refine ⟨State.steady_of_core ?_, by rw [rest], by rw [rest], fun f hk => State.get_finish calm hk⟩
  rw [rest]
  show t.islandFrame.core = s.islandFrame.core
  rw [hf]

/-! The fill of a port's hold (R268). -/

theorem holdKey_ne {f g : Fld} (h : Nat) (hn : (f.addr - 0x2000) * 16 + f.lo ≠ (g.addr - 0x2000) * 16 + g.lo) : (f.ofHold h).key ≠ (g.ofHold h).key := by
  rw [holdKey_eq, holdKey_eq]
  omega

theorem holdKey_not_attn (f : Fld) (h : Nat) : (f.ofHold h).key ≠ F.TW_ATTN_SRC_SOURCES.key ∧ (f.ofHold h).key ≠ F.TW_STATUS_ATTN_PENDING.key := by
  have small : F.TW_ATTN_SRC_SOURCES.key < 0x100000 ∧ F.TW_STATUS_ATTN_PENDING.key < 0x100000 := by
    simp [Fld.key, F.TW_ATTN_SRC_SOURCES, F.TW_STATUS_ATTN_PENDING]
  rw [holdKey_eq]
  omega

/-- A fill shows as it is given, whatever its marks then show. -/
theorem State.get_holdFill_fill (s : State) (h n : Nat) : (s.holdFill h n).get (F.HLD_FILL_FILL.ofHold h) = n % 2 ^ (F.HLD_FILL_FILL.ofHold h).width := by
  obtain ⟨sources, pending⟩ := holdKey_not_attn F.HLD_FILL_FILL h
  have event (t : State) (f : Fld) (e : Bool) (hf : (F.HLD_FILL_FILL.addr - 0x2000) * 16 + F.HLD_FILL_FILL.lo ≠ (f.addr - 0x2000) * 16 + f.lo) :
      (t.holdEvent h f e).get (F.HLD_FILL_FILL.ofHold h) = t.get (F.HLD_FILL_FILL.ofHold h) := by
    unfold State.holdEvent State.when
    dsimp only
    split
    · exact (State.get_attn _ _ sources pending).trans (State.get_put_ne _ _ (holdKey_ne h hf))
    · exact State.get_put_ne _ _ (holdKey_ne h hf)
  have judge (t : State) : (t.holdJudge h).get (F.HLD_FILL_FILL.ofHold h) = t.get (F.HLD_FILL_FILL.ofHold h) := by
    unfold State.holdJudge
    dsimp only
    split
    · exact (event _ _ _ (by decide)).trans ((State.get_put_ne _ _ (holdKey_ne h (by decide))).trans (State.get_put_ne _ _ (holdKey_ne h (by decide))))
    · split
      · exact (event _ _ _ (by decide)).trans ((State.get_put_ne _ _ (holdKey_ne h (by decide))).trans (State.get_put_ne _ _ (holdKey_ne h (by decide))))
      · rfl
  unfold State.holdFill
  dsimp only
  rw [judge, State.get_put_ne _ _ (holdKey_ne h (by decide))]
  unfold State.when
  split
  · exact (State.get_put_ne _ _ (holdKey_ne h (by decide))).trans (State.get_put_same ..)
  · exact State.get_put_same ..

theorem State.get_ringFill_fill (s : State) (h popped n : Nat) :
    (s.ringFill h popped n).get (F.HLD_FILL_FILL.ofHold h) = n % 2 ^ (F.HLD_FILL_FILL.ofHold h).width := by
  unfold State.ringFill
  exact State.get_holdFill_fill ..

theorem State.port_ringFill (s : State) (h popped fill p : Nat) : (s.ringFill h popped fill).port p = s.port p := by
  unfold State.ringFill State.port
  rw [(State.regsOnly.refl _).holdFill h fill]
  rfl

/-- What the pump does before it shows the depth. -/
def State.pumped (s : State) (p : Nat) : State :=
  let cap := s.get (F.HLD_CAP_CAP.ofHold (100 + p))
  let x := ((s.guardFill p).1.convertAhead p cap).guardFill p
  if x.2 = 0 then x.1 else x.1.convertAhead p cap

theorem State.portPump_eq (s : State) (p : Nat) : ∃ n, s.portPump p = (s.pumped p).ringFill (100 + p) n ((s.pumped p).port p).fifo.length :=
  ⟨(s.guardFill p).2 + (((s.guardFill p).1.convertAhead p (s.get (F.HLD_CAP_CAP.ofHold (100 + p)))).guardFill p).2, by
    unfold State.portPump State.pumped
    rfl⟩

/-- The pump shows the depth of the drain FIFO. -/
theorem State.get_portPump_fill (s : State) (p : Nat) :
    (s.portPump p).get (F.HLD_FILL_FILL.ofHold (100 + p)) = ((s.portPump p).port p).fifo.length % 2 ^ (F.HLD_FILL_FILL.ofHold (100 + p)).width := by
  obtain ⟨n, e⟩ := s.portPump_eq p
  rw [e, State.port_ringFill, State.get_ringFill_fill]

/-! Starts (R306, R313, R314). -/

/-- The register `AU_START` (Table 14.2). -/
def regAuStart : RDesc := ⟨0x2340, 0x1, 1, 1, [⟨0, 4, .wo, .live, 0⟩]⟩

/-- A word of `AU_START` that no rule refuses leaves its entry. -/
theorem State.write_auStart {s : State} {w : Nat} (hu : s.portsUp = true) (hst : s.stage = none) (hr : ∀ old, auStartRule s old w = none) :
    ∃ old new, s.write srcTwoWire 0x2340 w auStartRule = (s.journal 0x2340 old new srcTwoWire resAccepted 0, some (s.regValue regAuStart 0x2340, w)) := by
  have reg : regAt (s.stdAt 0x2340) 0x2340 = some (regAuStart, 0x2340) := rfl
  simp only [State.portsUp, State.quayUp, Bool.and_eq_true, Bool.or_eq_true] at hu
  obtain ⟨⟨_, modes⟩, dom⟩ := hu
  have awake : (s.mode == .wind || s.mode == .regulate || s.mode == .anchor) = false := by
    rcases modes with ⟨h, _⟩ | h
    · simp only [State.serving, Bool.or_eq_true, beq_iff_eq] at h
      rcases h with h | h <;> rw [h] <;> rfl
    · rw [beq_iff_eq] at h
      rw [h]
      rfl
  have passes : s.gated srcTwoWire 0x2340 = false := by
    unfold State.gated
    rw [awake, show domainOf 0x2340 = 7 from rfl, dom]
    rfl
  have unshaded : s.shadows srcTwoWire 0x2340 regAuStart = false := by simp [State.shadows, regAuStart]
  refine ⟨bits (s.regValue regAuStart 0x2340) 0 16, bits w 0 16, ?_⟩
  rw [State.write_one _ hst reg passes rfl, State.judge_ok rfl rfl (hr _)]
  unfold State.acceptWrite
  rw [unshaded]
  rfl

theorem State.Island.portStart {z s : State} (h : z.Island s) (p : Nat) : z.Island (s.portStart p) := by
  have late := h.when (c := s.get F.AU_START_AT_SECONDS * 1000000000 != 0 && !(s.get F.AU_START_AT_SECONDS * 1000000000 != 0 &&
    Nat.ble (s.nowNs + 2000000) (s.get F.AU_START_AT_SECONDS * 1000000000))) fun _ ht => ht.up
      (f := F.AU_STATUS_START_LATE_EV p) (pinKey_mark (a := 0x2302) (l := 1) p rfl (by decide))
  unfold State.portStart
  exact late.putPort p _

/-- A port told to start without an instant of its own takes the next 10 ms boundary at least 2 ms ahead (R313). -/
theorem State.port_portStart {s : State} (h : s.get F.AU_START_AT_SECONDS = 0) (p : Nat) :
    ((s.portStart p).port p).startAt = some (ceilDiv (s.nowNs + 2000000) 10000000 * 10000000) := by
  unfold State.portStart
  rw [h]
  simp

/-- `AU_START` for one port. -/
theorem State.exec_auStart {s : State} (hs : s.Settled) (hd : s.dead = false) {p : Nat} (hp : p < 4) (hu : s.portsUp = true) (hl : s.pinLow = false)
    (hst : s.stage = none) (hb : s.startBad p = false) (hz : s.get F.AU_START_AT_SECONDS = 0) :
    ∃ t, exec (.auStartWrite (BitVec.ofNat 16 (2 ^ p))) s = .next t ∧ t.get (F.AU_CTRL_RUN p) = 1 ∧
      (t.port p).startAt = some (ceilDiv (s.nowNs + 2000000) 10000000 * 10000000) ∧ s.steady t := by
  have word : (BitVec.ofNat 16 (2 ^ p)).toNat = 2 ^ p ∧ (List.range 4).filter (bit (2 ^ p)) = [p] := by
    clear * - hp
    revert p
    decide
  obtain ⟨word, named⟩ := word
  have rule (old : Nat) : auStartRule s old (2 ^ p) = none := by
    refine if_neg fun any => ?_
    obtain ⟨q, hq, bad⟩ := List.any_eq_true.1 any
    simp only [Bool.and_eq_true] at bad
    obtain ⟨⟨name, _⟩, bad⟩ := bad
    have one : q ∈ [p] := named ▸ List.mem_filter.2 ⟨hq, name⟩
    rw [List.mem_singleton.1 one, hb] at bad
    cases bad
  obtain ⟨old, new, written⟩ := State.write_auStart hu hst rule
  have rest := s.journal_rest 0x2340 old new srcTwoWire resAccepted 0
  have reads {f : Fld} := s.get_journal 0x2340 old new srcTwoWire resAccepted 0 (f := f)
  have entry := (State.Island.refl s).journal 0x2340 old new srcTwoWire resAccepted 0
  generalize s.journal 0x2340 old new srcTwoWire resAccepted 0 = j at *
  have up : j.portsUp = true := by
    rw [← hu]
    unfold State.portsUp State.quayUp State.serving State.on State.domOn
    rw [reads (by decide) (by decide), reads (by decide) (by decide), rest]
  have effect : s.regWrite srcTwoWire 0x2340 (BitVec.ofNat 16 (2 ^ p)).toNat =
      ((j.up (F.AU_CTRL_RUN p)).putPort p { (j.up (F.AU_CTRL_RUN p)).port p with stop := false }).portStart p := by
    rw [word]
    show s.auStart srcTwoWire (2 ^ p) = _
    unfold State.auStart
    rw [written]
    dsimp only
    rw [if_pos up, named]
    rfl
  have marked : (j.up (F.AU_CTRL_RUN p)).Island (s.regWrite srcTwoWire 0x2340 (BitVec.ofNat 16 (2 ^ p)).toNat) := by
    rw [effect]
    exact ((State.Island.refl _).putPort p _).portStart p
  obtain ⟨steady, ports, _, shows⟩ := State.finish_framed hs (marked.frame.trans entry.frame)
  obtain ⟨runPin, runKey⟩ := pinKey_port hp (F.AU_CTRL_RUN p) (by simp)
  refine ⟨_, exec_auStartWrite _ s hd hl, ?_, ?_, steady⟩
  · rw [shows _ runKey, marked.get _ runPin]
    exact State.get_put_same ..
  · have zero : ((j.up (F.AU_CTRL_RUN p)).putPort p { (j.up (F.AU_CTRL_RUN p)).port p with stop := false }).get F.AU_START_AT_SECONDS = 0 := by
      show (j.put (F.AU_CTRL_RUN p) 1).get F.AU_START_AT_SECONDS = 0
      rw [State.get_put_ne _ _ (by clear * - hp; revert p; decide), reads (by decide) (by decide), hz]
    have now : ((j.up (F.AU_CTRL_RUN p)).putPort p { (j.up (F.AU_CTRL_RUN p)).port p with stop := false }).nowNs = s.nowNs := by
      show j.nowNs = s.nowNs
      rw [rest]
      rfl
    rw [State.port, ports, effect, ← now]
    exact State.port_portStart zero p

/-! The start instant (R306, R313, R314). -/

theorem State.showOutputs_ports (s : State) : s.showOutputs.ports = s.ports := by
  have h : s.regsOnly s.showOutputs := (State.regsOnly.refl s).each fun _ _ ht => ht.put _ _
  rw [h]

theorem State.frame_put (s : State) (f : Fld) (v : Nat) : (s.put f v).islandFrame = s.islandFrame := rfl

theorem State.Island.refuse {z s : State} (h : z.Island s) (a old new : Nat) : z.Island (s.refuse srcImage a old new resValue) :=
  (h.journalWrite srcImage a old new resValue).up (f := F.GLB_STATUS_VALUE_REFUSED) rfl

theorem State.Island.supDo {z s : State} {addrs : List Nat} {g : State → State} (hg : z.Island (g s)) : z.Island (s.supDo addrs g) := by
  unfold State.supDo
  exact hg.each fun a _ _ ht => ht.journal a _ _ srcSupervisor resAccepted 0

/-- A refused start: RUN reads 0 (R306). -/
theorem State.portRefuse_leaves (s : State) {p : Nat} (hp : p < 4) :
    (s.portRefuse p).islandFrame = s.islandFrame ∧ (s.portRefuse p).get (F.AU_CTRL_RUN p) = 0 ∧
      (s.portRefuse p).get (F.AU_CTRL_STOPPED p) = s.get (F.AU_CTRL_STOPPED p) ∧ ((s.portRefuse p).port p).startAt = none := by
  have refused := (State.Island.refl s).refuse (0x2300 + 0x10 * p) (s.wordAt (0x2300 + 0x10 * p) - 0x8000) (s.wordAt (0x2300 + 0x10 * p))
  have effect : s.portRefuse p = ((s.refuse srcImage (0x2300 + 0x10 * p) (s.wordAt (0x2300 + 0x10 * p) - 0x8000) (s.wordAt (0x2300 + 0x10 * p))
      resValue).down (F.AU_CTRL_RUN p)).putPort p { s.port p with startAt := none } := rfl
  rw [effect]
  generalize s.refuse srcImage _ _ _ _ = u at *
  refine ⟨refused.frame, State.get_put_same .., ?_, ?_⟩
  · rw [← refused.get _ (pinKey_port hp _ (by simp)).1]
    exact State.get_put_ne _ _ (by clear * - hp; revert p; decide)
  · rw [State.port_putPort]

/-- The dividers of a start instant: a master computes its own where it has stopped, a slave has none (R306, R314). -/
def State.startDivs (s : State) (p : Nat) : State :=
  let master := s.on (F.AU_CTRL_MASTER p)
  let div := (s.auDiv p).1 / (s.auDiv p).2
  let s := s.when (master && !s.portRuns p) (fun s =>
    (s.supDo [0x121 + 2 * (14 + p)] (fun s => s.put (F.TB_OUT_DIV_DIV (14 + p)) div)).put (F.AU_DIV_DIV p) div)
  s.when (!master) (·.put (F.AU_DIV_DIV p) 0)

/-- The port, emptied, with its dividers; a master's format is supported where it may start. -/
def State.startClear (s : State) (p : Nat) : State :=
  ((s.startDivs p).when (s.on (F.AU_CTRL_MASTER p) && !(s.startDivs p).startBad p) (·.down (F.AU_STATUS_UNSUPPORTED p))).portEmpty p

/-- The port runs, from frame 0 on. -/
def State.startRun (s : State) (p : Nat) (v : Port) (master : Bool) : State :=
  let s := (((s.putPort p v).down (F.AU_CTRL_STOPPED p)).put (F.AU_POSITION_FRAME p) 0).put (F.AU_LATE_SLOTS p) 0
  let s := s.when master (·.up (F.AU_STATUS_CLOCK_OK p))
  (s.setOut p (if s.on (F.AU_STATUS_UNSUPPORTED p) || s.isRetired .converter p then osMuted else osSettling)).showOutputs

/-- What the port holds from then on. -/
def State.startPort (s : State) (p : Nat) : Port :=
  let c := s.startDivs p
  let master := s.on (F.AU_CTRL_MASTER p)
  let e := s.startClear p
  { Port.reset with
    began := e.clock, fs := if master then c.get (F.AU_CFG_FS p) else c.get (F.AU_CLOCK_FS_FOUND p), survey := e.mode == .survey,
    dry := (e.unit .converter p).testing, zero := if master then (s.port p).startAt.getD c.nowNs else c.nowNs, edge := e.nowNs }

/-- A start instant that is allowed. -/
theorem State.startInstant_eq {s : State} {p : Nat} (hat : (s.port p).startAt ≠ none) (hr : s.get (F.AU_CTRL_RUN p) = 1) (hu : s.portsUp = true)
    (hc : s.on (F.AU_CTRL_MASTER p) = true ∨ s.on (F.AU_STATUS_CLOCK_OK p) = true) (hb : s.portRuns p = true ∨ s.startBad p = false) :
    s.startInstant p = (s.startClear p).startRun p (s.startPort p) (s.on (F.AU_CTRL_MASTER p)) := by
  refine (if_neg ?_).trans ((if_neg ?_).trans ?_)
  · have some : (s.port p).startAt.isNone = false := by
      cases h : (s.port p).startAt with
      | none => exact absurd h hat
      | some _ => rfl
    have run : s.on (F.AU_CTRL_RUN p) = true := by simp [State.on, hr]
    rcases hc with h | h <;> simp [some, run, hu, h]
  · rcases hb with h | h <;> simp [h]
  · unfold State.startRun State.startPort State.startClear State.startDivs
    rfl

/-- What the dividers leave. -/
theorem State.startDivs_leaves (s : State) {p : Nat} (hp : p < 4) :
    (s.startDivs p).islandFrame = s.islandFrame ∧ (s.startDivs p).get (F.AU_STATUS_UNSUPPORTED p) = s.get (F.AU_STATUS_UNSUPPORTED p) ∧
      (s.startDivs p).get (F.AU_CLOCK_FS_FOUND p) = s.get (F.AU_CLOCK_FS_FOUND p) ∧
      (s.on (F.AU_CTRL_MASTER p) = false → (s.startDivs p).get (F.AU_DIV_DIV p) = 0) ∧
      (s.on (F.AU_CTRL_MASTER p) = true → s.portRuns p = false →
        (s.startDivs p).get (F.AU_DIV_DIV p) = ((s.auDiv p).1 / (s.auDiv p).2) % 2 ^ (F.AU_DIV_DIV p).width) := by
  have keys : (F.AU_STATUS_UNSUPPORTED p).key ≠ (F.AU_DIV_DIV p).key ∧ (F.AU_CLOCK_FS_FOUND p).key ≠ (F.AU_DIV_DIV p).key ∧
      pinKey (F.TB_OUT_DIV_DIV (14 + p)).key = false := by
    clear * - hp
    revert p
    decide
  obtain ⟨unsDiv, foundDiv, outKey⟩ := keys
  have set {t : State} (h : s.Island t) (v : Nat) : (t.put (F.AU_DIV_DIV p) v).islandFrame = s.islandFrame ∧
      (t.put (F.AU_DIV_DIV p) v).get (F.AU_STATUS_UNSUPPORTED p) = s.get (F.AU_STATUS_UNSUPPORTED p) ∧
      (t.put (F.AU_DIV_DIV p) v).get (F.AU_CLOCK_FS_FOUND p) = s.get (F.AU_CLOCK_FS_FOUND p) :=
    ⟨h.frame, (State.get_put_ne _ _ unsDiv).trans (h.get _ (pinKey_port hp _ (by simp)).1),
      (State.get_put_ne _ _ foundDiv).trans (h.get _ (pinKey_port hp _ (by simp)).1)⟩
  generalize hdiv : (s.auDiv p).1 / (s.auDiv p).2 = div
  unfold State.startDivs
  rw [hdiv]
  cases hm : s.on (F.AU_CTRL_MASTER p) with
  | false =>
    obtain ⟨frame, uns, found⟩ := set (State.Island.refl s) 0
    exact ⟨frame, uns, found, fun _ => State.get_put_same .., fun h => absurd h (by decide)⟩
  | true =>
    cases hr : s.portRuns p with
    | true => exact ⟨rfl, rfl, rfl, fun h => absurd h (by decide), fun _ h => absurd h (by decide)⟩
    | false =>
      have island : s.Island (s.supDo [0x121 + 2 * (14 + p)] fun t => t.put (F.TB_OUT_DIV_DIV (14 + p)) div) :=
        State.Island.supDo ((State.Island.refl s).put outKey)
      obtain ⟨frame, uns, found⟩ := set island div
      exact ⟨frame, uns, found, fun h => absurd h (by decide), fun _ _ => State.get_put_same ..⟩

/-- What a start leaves before the port runs: its dividers, and a format that is still supported. -/
theorem State.startClear_leaves (s : State) {p : Nat} (hp : p < 4) (hn : s.on (F.AU_STATUS_UNSUPPORTED p) = false) :
    (s.startClear p).islandFrame = s.islandFrame ∧ (s.startClear p).on (F.AU_STATUS_UNSUPPORTED p) = false ∧
      (s.startClear p).get (F.AU_DIV_DIV p) = (s.startDivs p).get (F.AU_DIV_DIV p) := by
  obtain ⟨frame, uns, _⟩ := s.startDivs_leaves hp
  unfold State.startClear
  generalize s.startDivs p = t at *
  have empty {x : State} (hf : x.islandFrame = s.islandFrame) (hu : x.on (F.AU_STATUS_UNSUPPORTED p) = false) (hd : x.get (F.AU_DIV_DIV p) = t.get (F.AU_DIV_DIV p)) :
      (x.portEmpty p).islandFrame = s.islandFrame ∧ (x.portEmpty p).on (F.AU_STATUS_UNSUPPORTED p) = false ∧
        (x.portEmpty p).get (F.AU_DIV_DIV p) = t.get (F.AU_DIV_DIV p) := by
    have h := (State.Island.refl x).portEmpty p
    refine ⟨h.frame.trans hf, ?_, (h.get _ (pinKey_port hp _ (by simp)).1).trans hd⟩
    rw [State.on, h.get _ (pinKey_port hp _ (by simp)).1]
    exact hu
  cases (s.on (F.AU_CTRL_MASTER p) && !t.startBad p) with
  | false =>
    refine empty frame ?_ rfl
    show t.on (F.AU_STATUS_UNSUPPORTED p) = false
    rw [State.on, uns]
    exact hn
  | true =>
    refine empty frame ?_ (State.get_put_ne _ _ (by clear * - hp; revert p; decide))
    show (t.down (F.AU_STATUS_UNSUPPORTED p)).on _ = false
    rw [State.on, State.get_down, if_pos rfl]
    rfl

/-- The port runs and settles (R312, R313). -/
theorem State.startRun_leaves {s : State} {p : Nat} (hp : p < 4) (v : Port) (master : Bool) (hn : s.on (F.AU_STATUS_UNSUPPORTED p) = false)
    (hr : s.isRetired .converter p = false) :
    (s.startRun p v master).islandFrame = s.islandFrame ∧ (s.startRun p v master).get (F.AU_CTRL_STOPPED p) = 0 ∧
      (s.startRun p v master).outState p = osSettling ∧ (s.startRun p v master).get (F.AU_DIV_DIV p) = s.get (F.AU_DIV_DIV p) ∧
      (s.startRun p v master).port p = v := by
  have keys : (F.AU_STATUS_UNSUPPORTED p).key ≠ (F.AU_CTRL_STOPPED p).key ∧ (F.AU_DIV_DIV p).key ≠ (F.AU_CTRL_STOPPED p).key ∧
      (F.AU_CTRL_STOPPED p).key ≠ (F.AU_STATUS_OUT_STATE p).key ∧ (F.AU_DIV_DIV p).key ≠ (F.AU_STATUS_OUT_STATE p).key ∧
      pinKey (F.AU_POSITION_FRAME p).key = false ∧ pinKey (F.AU_LATE_SLOTS p).key = false ∧ pinKey (F.AU_STATUS_CLOCK_OK p).key = false := by
    clear * - hp
    revert p
    decide
  obtain ⟨unsStop, divStop, stopOut, divOut, posKey, lateKey, okKey⟩ := keys
  have begun : ((s.putPort p v).down (F.AU_CTRL_STOPPED p)).Island (((((s.putPort p v).down (F.AU_CTRL_STOPPED p)).put (F.AU_POSITION_FRAME p) 0).put
      (F.AU_LATE_SLOTS p) 0).when master (·.up (F.AU_STATUS_CLOCK_OK p))) :=
    (((State.Island.refl _).put posKey).put lateKey).when fun _ ht => ht.up okKey
  have ports : (((((s.putPort p v).down (F.AU_CTRL_STOPPED p)).put (F.AU_POSITION_FRAME p) 0).put
      (F.AU_LATE_SLOTS p) 0).when master (·.up (F.AU_STATUS_CLOCK_OK p))).ports = (s.putPort p v).ports := by cases master <;> rfl
  unfold State.startRun
  dsimp only
  generalize State.when _ master _ = t at *
  have supported : t.on (F.AU_STATUS_UNSUPPORTED p) = false := by
    rw [State.on, begun.get _ (pinKey_port hp _ (by simp)).1, State.get_down, if_neg unsStop]
    exact hn
  have retired : t.isRetired .converter p = false := (begun.isRetired .converter p).trans hr
  rw [supported, retired, show (if (false || false) = true then osMuted else osSettling) = osSettling from rfl]
  have shown := (State.Island.refl (t.setOut p osSettling)).showOutputs
  refine ⟨shown.frame.trans begun.frame, ?_, ?_, ?_, ?_⟩
  · rw [shown.get _ (pinKey_port hp _ (by simp)).1]
    refine (State.get_put_ne _ _ stopOut).trans ((begun.get _ (pinKey_port hp _ (by simp)).1).trans ?_)
    rw [State.get_down, if_pos rfl]
  · exact (shown.outState hp).trans (State.get_put_same ..)
  · rw [shown.get _ (pinKey_port hp _ (by simp)).1]
    refine (State.get_put_ne _ _ divOut).trans ((begun.get _ (pinKey_port hp _ (by simp)).1).trans ?_)
    rw [State.get_down, if_neg divStop]
    rfl
  · rw [State.port, State.showOutputs_ports]
    show Tbl.get _ t.ports p = v
    rw [ports]
    exact State.port_putPort s p v

/-- A start instant at the end of its command. -/
theorem State.finish_startInstant {s : State} (hs : s.Settled) {p : Nat} (hp : p < 4) (hat : (s.port p).startAt ≠ none) (hr : s.get (F.AU_CTRL_RUN p) = 1)
    (hu : s.portsUp = true) (hn : s.on (F.AU_STATUS_UNSUPPORTED p) = false) (ht : s.isRetired .converter p = false)
    (hc : s.on (F.AU_CTRL_MASTER p) = true ∨ s.on (F.AU_STATUS_CLOCK_OK p) = true) (hb : s.portRuns p = true ∨ s.startBad p = false) :
    let t := s.finish (s.startInstant p)
    t.get (F.AU_CTRL_STOPPED p) = 0 ∧ t.outState p = osSettling ∧ t.get (F.AU_DIV_DIV p) = (s.startDivs p).get (F.AU_DIV_DIV p) ∧
      t.port p = s.startPort p ∧ s.steady t := by
  obtain ⟨cleared, supported, div⟩ := s.startClear_leaves hp hn
  have retired : (s.startClear p).isRetired .converter p = false := by
    rw [← ht]
    show (s.startClear p).islandFrame.isRetired .converter p = s.islandFrame.isRetired .converter p
    rw [cleared]
  obtain ⟨frame, stopped, out, div', port⟩ := State.startRun_leaves hp (s.startPort p) (s.on (F.AU_CTRL_MASTER p)) supported retired
  rw [← State.startInstant_eq hat hr hu hc hb] at frame stopped out div' port
  obtain ⟨steady, ports, _, shows⟩ := State.finish_framed hs (frame.trans cleared)
  refine ⟨(shows _ (pinKey_port hp _ (by simp)).2).trans stopped, (shows _ (pinKey_port hp _ (by simp)).2).trans out,
    (shows _ (pinKey_port hp _ (by simp)).2).trans (div'.trans div), ?_, steady⟩
  rw [State.port, ports]
  exact port

/-! Fades and ramps (R311, R312, R315). -/

theorem State.frame_applyArmed (s : State) (c : Nat) : (s.applyArmed c).islandFrame = s.islandFrame := by
  have put {t : State} (h : t.islandFrame = s.islandFrame) (l : List Shadow) : (t.each l fun x t => t.put x.fld x.val).islandFrame = s.islandFrame := by
    unfold State.each
    induction l generalizing t with
    | nil => exact h
    | cons x l ih => exact ih (t := t.put x.fld x.val) h
  unfold State.applyArmed
  exact put (t := { s with shadow := s.shadow.filter (fun x => !(x.commit == c && x.armed)) }) rfl _

/-- A port that has stopped (R315). -/
theorem State.portStopped_leaves (s : State) {p : Nat} (hp : p < 4) :
    (s.portStopped p).islandFrame = s.islandFrame ∧ (s.portStopped p).get (F.AU_CTRL_STOPPED p) = 1 ∧ (s.portStopped p).outState p = osStopped ∧
      ((s.portStopped p).port p).dry = false := by
  have keys : (F.AU_CTRL_STOPPED p).key ≠ (F.AU_STATUS_OUT_STATE p).key ∧ pinKey (F.AU_LATE_SLOTS p).key = false ∧ pinKey (F.AU_STATUS_CLOCK_OK p).key = false := by
    clear * - hp
    revert p
    decide
  obtain ⟨stopOut, lateKey, okKey⟩ := keys
  have begun := s.frame_applyArmed (portCommit p)
  unfold State.portStopped
  dsimp only
  generalize s.applyArmed (portCommit p) = a at *
  have stopped : (((a.put (F.AU_POSITION_FRAME p) (s.position p)).up (F.AU_CTRL_STOPPED p)).setOut p osStopped).get (F.AU_CTRL_STOPPED p) = 1 := by
    refine (State.get_put_ne _ _ stopOut).trans ?_
    rw [State.get_up, if_pos rfl]
    rfl
  have out : (((a.put (F.AU_POSITION_FRAME p) (s.position p)).up (F.AU_CTRL_STOPPED p)).setOut p osStopped).outState p = osStopped := State.get_put_same ..
  have frame : (((a.put (F.AU_POSITION_FRAME p) (s.position p)).up (F.AU_CTRL_STOPPED p)).setOut p osStopped).islandFrame = s.islandFrame := begun
  generalize ((a.put (F.AU_POSITION_FRAME p) (s.position p)).up (F.AU_CTRL_STOPPED p)).setOut p osStopped = b at *
  have cleared := ((State.Island.refl b).put (v := 0) lateKey).when (c := (b.put (F.AU_LATE_SLOTS p) 0).on (F.AU_CTRL_MASTER p)) fun _ ht => ht.down okKey
  generalize State.when _ _ _ = c at *
  have shown := ((cleared.portEmpty p).putPort p { Port.reset with fs := ((c.portEmpty p).port p).fs }).showOutputs
  refine ⟨shown.frame.trans frame, (shown.get _ (pinKey_port hp _ (by simp)).1).trans stopped, (shown.outState hp).trans out, ?_⟩
  rw [State.port, State.showOutputs_ports]
  show (State.port (State.putPort _ p _) p).dry = false
  rw [State.port_putPort]
  rfl

/-- A port that has stopped takes a new start at most. -/
theorem State.portShow_stopped {s : State} {p : Nat} (hp : p < 4) (h : s.portRuns p = false) : s.Island (s.portShow p) := by
  have shown := (State.Island.refl s).showOutputs
  have still : s.showOutputs.portRuns p = false := (shown.portRuns hp).trans h
  unfold State.portShow
  dsimp only
  rw [still, if_pos (show (!false) = true from rfl)]
  have idle := shown.when (c := s.showOutputs.get (F.AU_CTRL_RUN p) == 0) (g := (·.putPort p { s.showOutputs.port p with startAt := none }))
    fun _ ht => ht.putPort p _
  exact State.Island.ite (idle.portStart p) idle

/-- A silent port that something keeps silent stays so. -/
theorem State.portShow_silent {s : State} {p : Nat} (hp : p < 4) (h : s.portRuns p = true) (hr : s.get (F.AU_CTRL_RUN p) = 1) (ho : s.outState p = osSilent)
    (hq : s.portQuiet p = true) : s.portShow p = s.showOutputs := by
  have shown := (State.Island.refl s).showOutputs
  have quiet : s.showOutputs.portQuiet p = true := by
    rw [← hq]
    unfold State.portQuiet State.port State.on
    rw [s.showOutputs_ports, shown.get _ (pinKey_port hp _ (by simp)).1]
  have run : s.showOutputs.on (F.AU_CTRL_RUN p) = true := by rw [State.on, shown.get _ (pinKey_port hp _ (by simp)).1, hr]; rfl
  unfold State.portShow
  dsimp only
  rw [(shown.portRuns hp).trans h, run, quiet, (shown.outState hp).trans ho]
  rfl

/-- A port whose converter is filled is silent, or ramps (R312). -/
theorem State.finish_portSettled {s : State} (hs : s.Settled) {p : Nat} (hp : p < 4) (hr : s.portRuns p = true) (ho : s.outState p = osSettling) :
    let t := s.finish (s.portSettled p)
    t.outState p = (if s.portQuiet p then osSilent else osRamping) ∧
      t.get (F.HLD_FILL_FILL.ofHold (100 + p)) = (t.port p).fifo.length % 2 ^ (F.HLD_FILL_FILL.ofHold (100 + p)).width ∧ s.steady t := by
  obtain ⟨x, begun, frame, out⟩ : ∃ x : State, s.portSettled p = x.portPump p ∧ x.islandFrame = s.islandFrame ∧
      x.outState p = (if s.portQuiet p then osSilent else osRamping) := by
    have effect : s.portSettled p = (if s.portQuiet p then s.setOut p osSilent else s.portRamp p).portPump p :=
      if_pos (by rw [hr, ho]; rfl)
    refine ⟨_, effect, ?_, ?_⟩
    · split <;> rfl
    · split
      · exact State.get_put_same ..
      · exact State.get_put_same ..
  have pumped := (State.Island.refl x).portPump p
  rw [begun]
  obtain ⟨steady, ports, _, shows⟩ := State.finish_framed hs (pumped.frame.trans frame)
  refine ⟨(shows _ (pinKey_port hp _ (by simp)).2).trans ((pumped.outState hp).trans out), ?_, steady⟩
  rw [shows _ (hold_not_shown _ _), State.get_portPump_fill, State.port, State.port, ports]

/-- The ends of fades and ramps (R311, R312, R315). -/
theorem State.exec_fadeDone {s : State} (hs : s.Settled) (hd : s.dead = false) {p : Nat} (hp : p < 4) (hr : s.portRuns p = true) :
    (s.outState p = osRamping → ∃ t, exec (.audioFadeDone p) s = .next t ∧ t.outState p = osPlaying ∧ s.onlyFields [F.AU_STATUS_OUT_STATE p] t) ∧
    (s.outState p = osFading → (s.port p).stop = false → s.portQuiet p = true →
      s.get (F.AU_CTRL_RUN p) = 1 → ∃ t, exec (.audioFadeDone p) s = .next t ∧ t.outState p = osSilent ∧ s.steady t) ∧
    (s.outState p = osFading → (s.port p).stop = true → s.get (F.AU_CTRL_RUN p) = 0 →
      ∃ t, exec (.audioFadeDone p) s = .next t ∧ t.outState p = osStopped ∧ t.get (F.AU_CTRL_STOPPED p) = 1 ∧ s.steady t) ∧
    (s.outState p = osPlaying → ∃ t, exec (.audioFadeDone p) s = .next t ∧
      t.port p = (s.port p).settle (fun slot => (s.slotSource p slot).isSome) ∧ s.changes [] ({ s with ports := t.ports }) t) := by
  have port : Nat.blt p 4 = true := by rw [Nat.blt_eq]; exact hp
  have run := exec_audioFadeDone p s hd port
  have runs : ¬(!s.portRuns p) = true := by rw [hr]; decide
  have outPin := pinKey_port hp (F.AU_STATUS_OUT_STATE p) (by simp)
  refine ⟨fun ho => ⟨_, run, ?_⟩, fun ho hst hq hru => ⟨_, run, ?_⟩, fun ho hst _ => ⟨_, run, ?_⟩, fun ho => ⟨_, run, ?_⟩⟩
  · rw [show s.portFaded p = s.setOut p osPlaying by
      unfold State.portFaded
      simp only [runs, ho]
      rfl]
    obtain ⟨changes, shows⟩ := ((State.Writes.refl [F.AU_STATUS_OUT_STATE p] s).setOut (p := p) (by simp) osPlaying).finish hs (State.Beside.refl s)
      (by clear * - hp; revert p; decide)
    exact ⟨(shows _ outPin.2).trans (State.get_put_same ..), changes⟩
  · have silent : (s.setOut p osSilent).outState p = osSilent := State.get_put_same ..
    have runs' : (s.setOut p osSilent).portRuns p = true :=
      (State.portRuns_of (State.get_put_ne _ _ (by clear * - hp; revert p; decide))).trans hr
    have run' : (s.setOut p osSilent).get (F.AU_CTRL_RUN p) = 1 := (State.get_put_ne _ _ (by clear * - hp; revert p; decide)).trans hru
    have quiet' : (s.setOut p osSilent).portQuiet p = true := by
      rw [← hq]
      unfold State.portQuiet State.on
      rw [show (s.setOut p osSilent).get (F.AU_CTRL_MUTE p) = s.get (F.AU_CTRL_MUTE p) from State.get_put_ne _ _ (by clear * - hp; revert p; decide)]
      rfl
    have effect : s.portFaded p = (s.setOut p osSilent).showOutputs := by
      rw [← State.portShow_silent hp runs' run' silent quiet']
      unfold State.portFaded
      simp only [runs, ho, hst, if_true, if_false, Bool.false_eq_true]
    have shown := (State.Island.refl (s.setOut p osSilent)).showOutputs
    rw [effect]
    obtain ⟨steady, _, _, shows⟩ := State.finish_framed hs (t := (s.setOut p osSilent).showOutputs) shown.frame
    exact ⟨(shows _ outPin.2).trans ((shown.outState hp).trans silent), steady⟩
  · have effect : s.portFaded p = (s.portStopped p).portShow p := by
      unfold State.portFaded
      simp only [runs, ho, hst, if_true, if_false, Bool.false_eq_true]
    obtain ⟨frame, stopped, out, _⟩ := s.portStopped_leaves hp
    rw [effect]
    generalize s.portStopped p = x at *
    have shown := State.portShow_stopped hp (s := x) (by rw [State.portRuns, State.on, stopped]; rfl)
    obtain ⟨steady, _, _, shows⟩ := State.finish_framed hs (shown.frame.trans frame)
    have stopPin := pinKey_port hp (F.AU_CTRL_STOPPED p) (by simp)
    exact ⟨(shows _ outPin.2).trans ((shown.outState hp).trans out), (shows _ stopPin.2).trans ((shown.get _ stopPin.1).trans stopped), steady⟩
  · have effect : s.portFaded p = s.putPort p ((s.port p).settle (fun slot => (s.slotSource p slot).isSome)) := by
      unfold State.portFaded
      simp only [runs, ho]
      rfl
    rw [effect]
    obtain ⟨_, ports, _, _⟩ := State.finish_framed hs (t := s.putPort p ((s.port p).settle (fun slot => (s.slotSource p slot).isSome))) rfl
    refine ⟨?_, ?_⟩
    · rw [State.port, ports]
      exact State.port_putPort ..
    · rw [ports]
      exact State.changes_beside hs (State.Beside.ports s _)

/-- Settles O47: each event of an output at the end of its command, by what the effect leaves of the port and of its fields. -/
theorem audioOutput : Obligations.AudioOutput := by
  intro s hs hd p hp
  have port : Nat.blt p 4 = true := by rw [Nat.blt_eq]; exact hp
  have is {f : Fld} {v : Nat} (h : s.get f = v) : s.on f = (v == 1) := by rw [State.on, h]
  refine ⟨fun hu hl hst hb hz => State.exec_auStart hs hd hp hu hl hst hb hz, fun hu hr hat hn ht _ => ?_,
    fun hr ho => ⟨_, exec_audioSettled p s hd port, State.finish_portSettled hs hp hr ho⟩, State.exec_fadeDone hs hd hp⟩
  obtain ⟨_, _, found, slave, masterDiv⟩ := s.startDivs_leaves hp
  have start := State.finish_startInstant hs hp hat hr hu hn ht
  have run := exec_audioStartInstant p s hd port
  refine ⟨fun hm hst hb => ⟨_, run, ?_⟩, fun hm hst hb => ⟨_, run, ?_⟩, fun hm hc hb => ⟨_, run, ?_⟩, fun hm hc => ⟨_, run, ?_⟩⟩
  · have effect : s.startInstant p = s.portRefuse p := by
      refine (if_neg ?_).trans (if_pos ?_)
      · have some : (s.port p).startAt.isNone = false := by
          cases h : (s.port p).startAt with
          | none => exact absurd h hat
          | some _ => rfl
        simp [some, is hr, hu, is hm]
      · simp [State.portRuns, is hst, hb]
    obtain ⟨frame, runs, stopped, at_⟩ := s.portRefuse_leaves hp
    rw [effect]
    obtain ⟨steady, ports, _, shows⟩ := State.finish_framed hs frame
    refine ⟨(shows _ (pinKey_port hp _ (by simp)).2).trans (stopped.trans hst), (shows _ (pinKey_port hp _ (by simp)).2).trans runs, ?_, steady⟩
    rw [State.port, ports]
    exact at_
  · obtain ⟨stopped, out, div, at_, steady⟩ := start (.inl (is hm)) (.inr hb)
    refine ⟨stopped, out, div.trans (masterDiv (is hm) (by simp [State.portRuns, is hst])), ?_, steady⟩
    rw [State.position, at_, State.portRuns, State.on, stopped]
    rfl
  · obtain ⟨stopped, out, div, at_, steady⟩ := start (.inr hc) (hb.imp_left fun h => by simp [State.portRuns, is h])
    refine ⟨stopped, out, div.trans (slave (is hm)), ?_, steady⟩
    rw [at_, ← found]
    exact if_neg (by rw [is hm]; decide)
  · rw [show s.startInstant p = s from if_pos (by rw [is hm, hc]; simp)]
    exact State.onlyFields_self hs

end Sys2Proof.Machine

/-! Late slots and underruns of the audio ports (R268, R311, R316). -/

namespace Sys2Proof.Machine

/-! What a fill, and an entry of the error journal, leave. -/

/-- A field of the register map, apart from the two of the request for attention: no hold's fill shows in it. -/
theorem State.get_holdFill_low (s : State) (h n : Nat) {f : Fld} (hl : f.key < 0x100000) (h1 : f.key ≠ F.TW_ATTN_SRC_SOURCES.key)
    (h2 : f.key ≠ F.TW_STATUS_ATTN_PENDING.key) : (s.holdFill h n).get f = s.get f := by
  have apart (g : Fld) : f.key ≠ (g.ofHold h).key := by
    rw [holdKey_eq]
    omega
  have put (t : State) (g : Fld) (v : Nat) : (t.put (g.ofHold h) v).get f = t.get f := State.get_put_ne _ _ (apart g)
  have event (t : State) (g : Fld) (e : Bool) : (t.holdEvent h g e).get f = t.get f := by
    unfold State.holdEvent State.when
    dsimp only
    split
    · exact (State.get_attn _ _ h1 h2).trans (put _ _ _)
    · exact put _ _ _
  have judge (t : State) : (t.holdJudge h).get f = t.get f := by
    unfold State.holdJudge
    dsimp only
    split
    · exact (event _ _ _).trans ((put _ _ _).trans (put _ _ _))
    · split
      · exact (event _ _ _).trans ((put _ _ _).trans (put _ _ _))
      · rfl
  unfold State.holdFill State.when
  dsimp only
  rw [judge, put]
  split
  · exact (put _ _ _).trans (put _ _ _)
  · exact put _ _ _

theorem State.get_ringShow_low (s : State) (h n : Nat) {f : Fld} (hl : f.key < 0x100000) (h1 : f.key ≠ F.TW_ATTN_SRC_SOURCES.key)
    (h2 : f.key ≠ F.TW_STATUS_ATTN_PENDING.key) : (s.ringShow h n).get f = s.get f := by
  unfold State.ringShow State.ringFill
  exact State.get_holdFill_low _ h n hl h1 h2

theorem State.errCount_ringShow (s : State) (h n : Nat) : (s.ringShow h n).errCount = s.errCount := by
  unfold State.ringShow State.ringFill
  rw [(State.regsOnly.refl _).holdFill h n]
  rfl

theorem State.errCount_putPort (s : State) (p : Nat) (v : Port) : (s.putPort p v).errCount = s.errCount := rfl

/-- The ports and the number of the newest entry are as before. -/
def State.sameEntries (s t : State) : Prop := t.ports = s.ports ∧ t.errCount = s.errCount

theorem State.sameEntries_accept (s : State) (p content flags ts : Nat) (payload : List Byte) (reserve : Bool) :
    s.sameEntries (s.accept p content flags ts payload reserve) := by
  rw [State.sameEntries, s.accept_rest p content flags ts payload reserve]
  exact ⟨rfl, rfl⟩

theorem State.sameEntries_exportOne {s t : State} {e : EEntry} (h : s.exportOne e = some t) : s.sameEntries t := by
  unfold State.exportOne at h
  dsimp only at h
  split at h
  · exact Option.some.inj h ▸ s.sameEntries_accept ..
  · split at h
    · exact Option.some.inj h ▸ s.sameEntries_accept ..
    · cases h

theorem State.sameEntries_exportDrain (s : State) : s.sameEntries s.exportDrain := by
  unfold State.exportDrain
  refine List.foldlRecOn _ _ ⟨rfl, rfl⟩ fun t ht _ _ => ?_
  have step {e : EEntry} {x : State} {v : List EEntry} (h : t.exportOne e = some x) : s.sameEntries (x.setErrExport v) :=
    ⟨(State.sameEntries_exportOne h).1.trans ht.1, (State.sameEntries_exportOne h).2.trans ht.2⟩
  split
  · split
    · next h => exact step h
    · split
      · split
        · next h => exact step h
        · exact ht
      · exact ht
  · exact ht

/-- An entry of the error journal takes the next number, and leaves the ports. -/
theorem State.error_leaves (s : State) (detector : Nat) (u : UnitType) (index : Nat) (o : Outc) (a : EArgs) :
    (s.error detector u index o a).ports = s.ports ∧ (s.error detector u index o a).errCount = s.errCount + 1 := by
  have attn (t : State) (c : Bool) : (t.when c (·.attn 5)).ports = t.ports ∧ (t.when c (·.attn 5)).errCount = t.errCount := by
    cases c with
    | false => exact ⟨rfl, rfl⟩
    | true =>
      show (t.attn 5).ports = _ ∧ (t.attn 5).errCount = _
      rw [t.attn_regs]
      exact ⟨rfl, rfl⟩
  have marked (t : State) (c : Bool) : (t.when c fun x => (x.up F.PROT_STATUS_INJECTED_EV).setInjSeen true).ports = t.ports ∧
      (t.when c fun x => (x.up F.PROT_STATUS_INJECTED_EV).setInjSeen true).errCount = t.errCount := by cases c <;> exact ⟨rfl, rfl⟩
  have counted (t : State) (c : Bool) : (t.when c (·.bump F.ERR_STATUS_UNREAD_LOST)).ports = t.ports ∧
      (t.when c (·.bump F.ERR_STATUS_UNREAD_LOST)).errCount = t.errCount := by cases c <;> exact ⟨rfl, rfl⟩
  have entered (e : EEntry) (c d f : Bool) : let x := ((((((s.setErr ((e :: s.err).take 4096)).setErrCount (s.errCount + 1)).put F.ERR_NEWEST_NUMBER
      (s.errCount + 1)).when c (·.bump F.ERR_STATUS_UNREAD_LOST)).when d fun x => (x.up F.PROT_STATUS_INJECTED_EV).setInjSeen true).when f (·.attn 5))
      x.ports = s.ports ∧ x.errCount = s.errCount + 1 :=
    ⟨(attn _ _).1.trans ((marked _ _).1.trans (counted _ _).1), (attn _ _).2.trans ((marked _ _).2.trans (counted _ _).2)⟩
  unfold State.error
  dsimp only
  split
  · split
    · obtain ⟨ports, count⟩ := State.sameEntries_exportDrain (State.setErrExport _ _)
      rw [ports, count]
      exact entered ..
    · exact entered ..
  · exact entered ..

/-! A late slot (R311). -/

theorem bit_eq_testBit (x i : Nat) : bit x i = x.testBit i := by
  rw [Nat.testBit_eq_decide_div_mod_eq]
  unfold bit bits
  rw [Nat.pow_one]
  rfl

/-- A bit that one number has and another has not stands in their difference, where the lower bits leave no borrow. -/
theorem bit_sub {a b i : Nat} (ha : bit a i = true) (hb : bit b i = false) (hl : b % 2 ^ i ≤ a % 2 ^ i) (hle : b ≤ a) : bit (a - b) i = true := by
  have pos : 0 < 2 ^ i := Nat.two_pow_pos i
  have quotients : b / 2 ^ i ≤ a / 2 ^ i := Nat.div_le_div_right hle
  have lower : a % 2 ^ i - b % 2 ^ i < 2 ^ i := Nat.lt_of_le_of_lt (Nat.sub_le _ _) (Nat.mod_lt _ pos)
  have split : a - b = 2 ^ i * (a / 2 ^ i - b / 2 ^ i) + (a % 2 ^ i - b % 2 ^ i) := by
    have wholeA := Nat.div_add_mod a (2 ^ i)
    have wholeB := Nat.div_add_mod b (2 ^ i)
    have products := Nat.mul_le_mul_left (2 ^ i) quotients
    rw [Nat.mul_sub]
    omega
  have quotient : (a - b) / 2 ^ i = a / 2 ^ i - b / 2 ^ i := by
    rw [split, Nat.mul_add_div pos, Nat.div_eq_of_lt lower, Nat.add_zero]
  unfold bit bits at ha hb ⊢
  rw [quotient]
  simp only [beq_iff_eq, beq_eq_false_iff_ne, ne_eq] at ha hb ⊢
  omega

/-- Which numbers below `n` a sum of powers of 2 names: a number that it leaves out is no bit of it. -/
theorem sum_powers_lt (q : Nat → Bool) (n : Nat) : (((List.range n).filter q).map (2 ^ ·)).sum < 2 ^ n := by
  induction n with
  | zero => exact Nat.one_pos
  | succ n ih =>
    rw [List.range_succ, List.filter_append, List.map_append, List.sum_append, Nat.pow_succ]
    cases hq : q n <;> simp [hq] <;> omega

theorem testBit_sum_powers {q : Nat → Bool} {i : Nat} (hq : q i = false) (n : Nat) : (((List.range n).filter q).map (2 ^ ·)).sum.testBit i = false := by
  induction n with
  | zero => exact Nat.zero_testBit i
  | succ n ih =>
    rcases Nat.lt_trichotomy n i with h | h | h
    · exact Nat.testBit_lt_two_pow (Nat.lt_of_lt_of_le (sum_powers_lt q (n + 1)) (Nat.pow_le_pow_right (by decide) h))
    · subst h
      rw [List.range_succ, List.filter_append, show [n].filter q = [] by simp [hq], List.append_nil]
      exact ih
    · rw [List.range_succ, List.filter_append, List.map_append, List.sum_append]
      cases hn : q n with
      | false => simpa [hn] using ih
      | true =>
        rw [show (([n].filter q).map (2 ^ ·)).sum = 2 ^ n by simp [hn], Nat.add_comm, Nat.testBit_two_pow_add_gt h]
        exact ih

/-- Marked late, a slot shows so, whichever others show late no longer. -/
theorem bit_late {old back i w : Nat} (hb : back.testBit i = false) (hi : i < w) : bit (((old ||| 2 ^ i) - (old &&& back)) % 2 ^ w) i = true := by
  have below : (old &&& back) ≤ old := Nat.and_le_left
  have above : old ≤ (old ||| 2 ^ i) := Nat.left_le_or
  have late : bit ((old ||| 2 ^ i) - (old &&& back)) i = true := by
    refine bit_sub ?_ ?_ ?_ (Nat.le_trans below above)
    · rw [bit_eq_testBit, Nat.testBit_or, Nat.testBit_two_pow_self, Bool.or_true]
    · rw [bit_eq_testBit, Nat.testBit_and, hb, Bool.and_false]
    · rw [Nat.and_mod_two_pow, Nat.or_mod_two_pow, Nat.mod_self, Nat.or_zero]
      exact Nat.and_le_left
  rw [bit_eq_testBit] at late ⊢
  rw [Nat.testBit_mod_two_pow, late, Bool.and_true, decide_eq_true_eq]
  exact hi

/-- A frame that the converter writes without the audio of a slot (R309, R311). -/
theorem State.convertOne_late (s : State) {p slot : Nat} (hp : p < 4) (hs : slot < 32) (hw : slot ≤ s.get (F.AU_CFG_SLOTS p)) :
    (s.convertOne p [slot]).get (F.AU_STATUS_LATE_EV p) = 1 ∧ bit ((s.convertOne p [slot]).get (F.AU_LATE_SLOTS p)) slot = true ∧
      ∃ f, ((s.convertOne p [slot]).port p).fifo.getLast? = some f ∧ f.number = (s.port p).ahead ∧ f.words[slot]? = some 0 := by
  have keys : (F.AU_STATUS_LATE_EV p).key ≠ (F.AU_LATE_SLOTS p).key := by
    clear * - hp
    revert p
    decide
  have length : (s.frameWords p (s.port p).ahead [slot]).length = s.get (F.AU_CFG_SLOTS p) + 1 := by simp [State.frameWords]
  have missing : (s.frameWords p (s.port p).ahead [slot])[slot]? = some none := by
    have here : slot < s.get (F.AU_CFG_SLOTS p) + 1 := by omega
    simp only [State.frameWords, List.getElem?_map, List.getElem?_range here, Option.map_some]
    split <;> simp
  unfold State.convertOne
  dsimp only
  generalize s.frameWords p (s.port p).ahead [slot] = words at *
  have back : (((List.range words.length).filter (fun i => ((words[i]?).join).isSome)).map (2 ^ ·)).sum.testBit slot = false :=
    testBit_sum_powers (by rw [missing]; rfl) _
  generalize (((List.range words.length).filter (fun i => ((words[i]?).join).isSome)).map (2 ^ ·)).sum = b at *
  refine ⟨?_, ?_, ?_⟩
  · refine (State.get_put_ne _ _ keys).trans ?_
    show (s.up (F.AU_STATUS_LATE_EV p)).get (F.AU_STATUS_LATE_EV p) = 1
    rw [State.get_up, if_pos rfl]
    rfl
  · exact (congrArg (bit · slot) (State.get_put_same ..)).trans (bit_late back hs)
  · rw [State.port_putPort]
    refine ⟨_, List.getLast?_concat .., rfl, ?_⟩
    rw [List.getElem?_map, missing]
    rfl

/-- A late slot at the end of its command. -/
theorem State.finish_slotLate {s : State} (hs : s.Settled) {p slot : Nat} (hp : p < 4) (hl : slot < 32) (hr : s.portRuns p = true)
    (hw : slot ≤ s.get (F.AU_CFG_SLOTS p)) (hrt : s.slotRouted p slot = true) :
    let t := s.finish (s.slotLate p slot)
    t.get (F.AU_STATUS_LATE_EV p) = 1 ∧ bit (t.get (F.AU_LATE_SLOTS p)) slot = true ∧
      (∃ f, (t.port p).fifo.getLast? = some f ∧ f.number = (s.port p).ahead ∧ f.words[slot]? = some 0) ∧ s.steady t := by
  obtain ⟨v, n, ahead, effect⟩ : ∃ v n, v.ahead = (s.port p).ahead ∧ s.slotLate p slot = ((s.putPort p v).convertOne p [slot]).ringShow (100 + p) n := by
    refine ⟨{ s.port p with fifo := (s.port p).fifo.drop ((s.port p).fifo.length - s.get (F.HLD_LOW_LOW.ofHold (100 + p))) }, _, rfl, if_pos ?_⟩
    rw [hr, hrt, Nat.ble_eq_true_of_le hw]
    rfl
  obtain ⟨ev, late, f, last, number, word⟩ := (s.putPort p v).convertOne_late hp hl hw
  have written := ((State.Island.refl s).putPort p v).convertOne p [slot]
  rw [State.port_putPort, ahead] at number
  rw [effect]
  generalize (s.putPort p v).convertOne p [slot] = x at *
  have keys : ∀ f ∈ [F.AU_STATUS_LATE_EV p, F.AU_LATE_SLOTS p], f.key ∉ shownKeys ∧ f.key < 0x100000 ∧ f.key ≠ F.TW_ATTN_SRC_SOURCES.key ∧
      f.key ≠ F.TW_STATUS_ATTN_PENDING.key := by
    clear * - hp
    revert p
    decide
  obtain ⟨steady, ports, _, shows⟩ := State.finish_framed hs (written.ringShow (100 + p) n).frame
  have reads {f : Fld} (hf : f ∈ [F.AU_STATUS_LATE_EV p, F.AU_LATE_SLOTS p]) : (s.finish (x.ringShow (100 + p) n)).get f = x.get f := by
    obtain ⟨shown, low, sources, pending⟩ := keys f hf
    exact (shows _ shown).trans (State.get_ringShow_low x _ _ low sources pending)
  refine ⟨(reads (by simp)).trans ev, (congrArg (bit · slot) (reads (by simp))).trans late, ⟨f, ?_, number, word⟩, steady⟩
  rw [State.port, ports, ← last, State.port]
  exact congrArg (fun y : Port => y.fifo.getLast?) (State.port_ringFill x (100 + p) _ n p)

/-! An underrun (R268, R316). -/

/-- What an underrun marks. -/
def State.underrunNote (s : State) (p : Nat) : State :=
  ((s.up (F.AU_STATUS_UNDERRUN p)).bump (F.AU_COUNTS_UNDERRUNS p)).up (F.HLD_STATUS_UNDERRUN_EV.ofHold (100 + p))

/-- What an underrun marks, and the port without audio. -/
def State.underrunMark (s : State) (p : Nat) : State :=
  ((s.underrunNote p).ringShow (100 + p) 0).putPort p { (s.underrunNote p).port p with dry := true, fifo := [] }

theorem State.underrunNote_frame (s : State) (p : Nat) : (s.underrunNote p).islandFrame = s.islandFrame :=
  (State.frame_put ..).trans ((State.frame_put ..).trans (State.frame_put ..))

theorem State.underrunNote_errCount (s : State) (p : Nat) : (s.underrunNote p).errCount = s.errCount := rfl

theorem State.underrunNote_reads (s : State) {p : Nat} (hp : p < 4) :
    (s.underrunNote p).get (F.AU_STATUS_UNDERRUN p) = 1 ∧
      (s.underrunNote p).get (F.AU_COUNTS_UNDERRUNS p) = min 255 (s.get (F.AU_COUNTS_UNDERRUNS p) + 1) ∧
      (s.underrunNote p).get (F.HLD_STATUS_UNDERRUN_EV.ofHold (100 + p)) = 1 ∧ (s.underrunNote p).outState p = s.outState p := by
  have keys : (F.AU_STATUS_UNDERRUN p).key ≠ (F.AU_COUNTS_UNDERRUNS p).key ∧ (F.AU_STATUS_UNDERRUN p).key ≠ (F.HLD_STATUS_UNDERRUN_EV.ofHold (100 + p)).key ∧
      (F.AU_COUNTS_UNDERRUNS p).key ≠ (F.HLD_STATUS_UNDERRUN_EV.ofHold (100 + p)).key ∧
      (F.AU_STATUS_OUT_STATE p).key ≠ (F.HLD_STATUS_UNDERRUN_EV.ofHold (100 + p)).key ∧ (F.AU_STATUS_OUT_STATE p).key ≠ (F.AU_COUNTS_UNDERRUNS p).key ∧
      (F.AU_STATUS_OUT_STATE p).key ≠ (F.AU_STATUS_UNDERRUN p).key := by
    clear * - hp
    revert p
    decide
  obtain ⟨markCount, markHold, countHold, outHold, outCount, outMark⟩ := keys
  unfold State.underrunNote
  refine ⟨?_, ?_, ?_, ?_⟩
  · rw [State.get_up, if_neg markHold, State.get_bump, if_neg markCount, State.get_up, if_pos rfl]
    rfl
  · rw [State.get_up, if_neg countHold, State.get_bump, if_pos rfl, State.get_up, if_neg markCount.symm]
    rfl
  · rw [State.get_up, if_pos rfl]
    rfl
  · rw [State.outState, State.get_up, if_neg outHold, State.get_bump, if_neg outCount, State.get_up, if_neg outMark]
    rfl

theorem State.underrunMark_leaves (s : State) {p : Nat} (hp : p < 4) :
    let t := s.underrunMark p
    t.islandFrame = s.islandFrame ∧ t.errCount = s.errCount ∧ t.get (F.AU_STATUS_UNDERRUN p) = 1 ∧
      t.get (F.AU_COUNTS_UNDERRUNS p) = min 255 (s.get (F.AU_COUNTS_UNDERRUNS p) + 1) ∧ t.get (F.HLD_STATUS_UNDERRUN_EV.ofHold (100 + p)) = 1 ∧
      (t.port p).dry = true ∧ (t.port p).fifo = [] ∧ t.outState p = s.outState p := by
  have holdPin : pinKey (F.HLD_STATUS_UNDERRUN_EV.ofHold (100 + p)).key = true := by
    clear * - hp
    revert p
    decide
  have frame := s.underrunNote_frame p
  have entries := s.underrunNote_errCount p
  obtain ⟨mark, count, event, out⟩ := s.underrunNote_reads hp
  unfold State.underrunMark
  generalize s.underrunNote p = x at *
  have island := ((State.Island.refl x).ringShow (100 + p) 0).putPort p { x.port p with dry := true, fifo := [] }
  refine ⟨island.frame.trans frame, ?_, (island.get _ (pinKey_port hp _ (by simp)).1).trans mark, (island.get _ (pinKey_port hp _ (by simp)).1).trans count,
    (island.get _ holdPin).trans event, ?_, ?_, (island.outState hp).trans out⟩
  · rw [State.errCount_putPort, State.errCount_ringShow]
    exact entries
  · rw [State.port_putPort]
  · rw [State.port_putPort]

theorem State.frame_putPort (s : State) (p : Nat) (v : Port) : (s.putPort p v).islandFrame = s.islandFrame := rfl

theorem State.frame_portFade (s : State) (p : Nat) : (s.portFade p).islandFrame = s.islandFrame := (State.frame_put ..).trans (State.frame_putPort ..)

theorem State.frame_portRamp (s : State) (p : Nat) : (s.portRamp p).islandFrame = s.islandFrame := (State.frame_put ..).trans (State.frame_putPort ..)

theorem State.port_setOut (s : State) (p q v : Nat) : (s.setOut q v).port p = s.port p := rfl

theorem State.port_portFade (s : State) (p : Nat) : (s.portFade p).port p = { s.port p with moveFrom := s.portStep p, moveAt := s.position p } := by
  unfold State.portFade
  rw [State.port_setOut, State.port_putPort]

theorem State.port_portRamp (s : State) (p : Nat) :
    (s.portRamp p).port p = { s.port p with moveFrom := 0, moveAt := max (s.position p) (s.port p).fresh } := by
  unfold State.portRamp
  rw [State.port_setOut, State.port_putPort]

/-- The port fades where it was heard. -/
theorem State.fadeHeard_leaves (s : State) {p : Nat} (st : Nat) (ho : s.outState p = st) :
    let t := s.when (st == osPlaying || st == osRamping) (·.portFade p)
    t.islandFrame = s.islandFrame ∧ t.errCount = s.errCount ∧ (∀ f : Fld, f.key ≠ (F.AU_STATUS_OUT_STATE p).key → t.get f = s.get f) ∧
      (t.port p).dry = (s.port p).dry ∧ (t.port p).fifo = (s.port p).fifo ∧
      t.outState p = (if st = osPlaying ∨ st = osRamping then osFading else st) := by
  cases hc : (st == osPlaying || st == osRamping) with
  | false =>
    have still : ¬(st = osPlaying ∨ st = osRamping) := by simpa using hc
    exact ⟨rfl, rfl, fun _ _ => rfl, rfl, rfl, by rw [if_neg still]; exact ho⟩
  | true =>
    have heard : st = osPlaying ∨ st = osRamping := by simpa using hc
    show let t := s.portFade p; _
    refine ⟨s.frame_portFade p, rfl, fun f hf => State.get_put_ne _ _ hf, ?_, ?_, ?_⟩
    · show ((s.portFade p).port p).dry = _
      rw [s.port_portFade]
    · show ((s.portFade p).port p).fifo = _
      rw [s.port_portFade]
    · rw [if_pos heard]
      exact State.get_put_same ..

/-- A test of the converter starts, or one runs already: the ports, their fields and the journal stay. -/
theorem State.startTest_leaves (s : State) (i d : Nat) (injected c : Bool) :
    let t := if c then s else s.startTest .converter i d injected
    t.regs = s.regs ∧ t.ports = s.ports ∧ t.errCount = s.errCount ∧ t.core = s.core ∧ t.berths = s.berths ∧ t.follow = s.follow := by
  unfold State.startTest
  dsimp only
  split
  · exact ⟨rfl, rfl, rfl, rfl, rfl, rfl⟩
  · split <;> exact ⟨rfl, rfl, rfl, rfl, rfl, rfl⟩

/-- An underrun at the end of its command. -/
theorem State.finish_portUnderrun {s : State} (hs : s.Settled) {p : Nat} (hp : p < 4) (hr : s.portRuns p = true) :
    let t := s.finish (s.portUnderrun p)
    t.get (F.AU_STATUS_UNDERRUN p) = 1 ∧ t.get (F.AU_COUNTS_UNDERRUNS p) = min 255 (s.get (F.AU_COUNTS_UNDERRUNS p) + 1) ∧
      t.get (F.HLD_STATUS_UNDERRUN_EV.ofHold (100 + p)) = 1 ∧ (t.port p).dry = true ∧ (t.port p).fifo = [] ∧
      t.outState p = (if s.outState p = osPlaying ∨ s.outState p = osRamping then osFading else s.outState p) ∧
      s.errCount < t.errCount ∧ s.steady t := by
  have keys : (F.AU_STATUS_UNDERRUN p).key ≠ (F.AU_STATUS_OUT_STATE p).key ∧ (F.AU_COUNTS_UNDERRUNS p).key ≠ (F.AU_STATUS_OUT_STATE p).key ∧
      (F.HLD_STATUS_UNDERRUN_EV.ofHold (100 + p)).key ≠ (F.AU_STATUS_OUT_STATE p).key ∧ pinKey (F.HLD_STATUS_UNDERRUN_EV.ofHold (100 + p)).key = true := by
    clear * - hp
    revert p
    decide
  obtain ⟨markOut, countOut, holdOut, holdPin⟩ := keys
  obtain ⟨frame, entries, mark, count, event, dry, fifo, out⟩ := s.underrunMark_leaves hp
  obtain ⟨u, effect, fade⟩ : ∃ u, u = (s.underrunMark p).when (s.outState p == osPlaying || s.outState p == osRamping) (·.portFade p) ∧
      s.portUnderrun p = if ((u.error 0x0802 .converter p .detected {}).unit .converter p).testing then u.error 0x0802 .converter p .detected {}
        else (u.error 0x0802 .converter p .detected {}).startTest .converter p 0x0802 false :=
    ⟨_, rfl, if_neg (by rw [hr]; decide)⟩
  obtain ⟨frame', entries', reads, dry', fifo', out'⟩ := (s.underrunMark p).fadeHeard_leaves (s.outState p) out
  rw [← effect] at frame' entries' reads dry' fifo' out'
  have noted := (State.Island.refl u).error 0x0802 .converter p .detected {}
  obtain ⟨ports, number⟩ := u.error_leaves 0x0802 .converter p .detected {}
  obtain ⟨regs, ports', number', core, berths, follow⟩ := (u.error 0x0802 .converter p .detected {}).startTest_leaves p 0x0802 false
    ((u.error 0x0802 .converter p .detected {}).unit .converter p).testing
  rw [← fade] at regs ports' number' core berths follow
  generalize u.error 0x0802 .converter p .detected {} = x at *
  have whole : x.islandFrame = s.islandFrame := noted.frame.trans (frame'.trans frame)
  have calm : (s.portUnderrun p).Calm := hs.2.of_eq
    (berths.trans (show x.islandFrame.berths = s.islandFrame.berths by rw [whole])) (follow.trans (show x.islandFrame.follow = s.islandFrame.follow by rw [whole]))
  have rest := (State.finish_rest s calm).1
  have shows {f : Fld} (hk : f.key ∉ shownKeys) (hf : pinKey f.key = true) : (s.finish (s.portUnderrun p)).get f = u.get f := by
    rw [State.get_finish calm hk, State.get, regs]
    exact noted.get f hf
  have port : (s.finish (s.portUnderrun p)).port p = u.port p := by
    rw [rest]
    show Tbl.get _ (s.portUnderrun p).ports p = _
    rw [ports', ports]
    rfl
  have pin {f : Fld} := pinKey_port hp f
  refine ⟨?_, ?_, ?_, ?_, ?_, ?_, ?_, ?_⟩
  · rw [shows (pin (by simp)).2 (pin (by simp)).1, reads _ markOut, mark]
  · rw [shows (pin (by simp)).2 (pin (by simp)).1, reads _ countOut, count]
  · rw [shows (hold_not_shown _ _) holdPin, reads _ holdOut, event]
  · rw [port, dry', dry]
  · rw [port, fifo', fifo]
  · exact (shows (pin (by simp)).2 (pin (by simp)).1).trans out'
  · rw [rest]
    show s.errCount < (s.portUnderrun p).errCount
    omega
  · refine State.steady_of_core ?_
    rw [rest]
    show (s.portUnderrun p).core = s.core
    rw [core]
    show x.islandFrame.core = s.islandFrame.core
    rw [whole]

/-! The converter runs again (R316). -/

/-- What the converter and the output stage leave of a port. -/
def Port.calling (x : Port) : Option Nat × Bool × Bool × Nat × Nat := (x.startAt, x.survey, x.dry, x.frames, x.fresh)

theorem Port.calling_wrote (x : Port) (k : Nat) (words : List (Option Int)) : (x.wrote k words).calling = x.calling := by
  unfold Port.wrote
  refine List.foldlRecOn (motive := fun y : Port => y.calling = x.calling) _ _ rfl fun y hy w _ => ?_
  dsimp only
  split
  · split <;> exact hy
  · split <;> exact hy

theorem State.calling_convertOne (s : State) (p : Nat) (missing : List Nat) : ((s.convertOne p missing).port p).calling = (s.port p).calling := by
  unfold State.convertOne
  dsimp only
  rw [State.port_putPort]
  exact (s.port p).calling_wrote _ _

theorem State.calling_convertAhead (s : State) (p n : Nat) : ((s.convertAhead p n).port p).calling = (s.port p).calling := by
  induction n generalizing s with
  | zero => rfl
  | succ n ih =>
    unfold State.convertAhead
    dsimp only
    split
    · rfl
    · split
      · exact (ih _).trans (s.calling_convertOne p _)
      · rfl

theorem State.calling_guardFill (s : State) (p : Nat) : ((s.guardFill p).1.port p).calling = (s.port p).calling := by
  unfold State.guardFill
  dsimp only
  rw [State.port_putPort]
  rfl

theorem State.calling_pumped (s : State) (p : Nat) : ((s.pumped p).port p).calling = (s.port p).calling := by
  have filled (t : State) (cap : Nat) : ((if (t.guardFill p).2 = 0 then (t.guardFill p).1 else (t.guardFill p).1.convertAhead p cap).port p).calling =
      (t.port p).calling := by
    have guarded := t.calling_guardFill p
    generalize t.guardFill p = x at *
    split
    · exact guarded
    · exact (x.1.calling_convertAhead p cap).trans guarded
  exact (filled _ _).trans ((State.calling_convertAhead _ p _).trans (s.calling_guardFill p))

theorem State.calling_portPump (s : State) (p : Nat) : ((s.portPump p).port p).calling = (s.port p).calling := by
  obtain ⟨n, e⟩ := s.portPump_eq p
  rw [e, State.port_ringFill]
  exact s.calling_pumped p

/-- What a running port is asked for leaves it wet; where RUN stays it leaves the frame from which it is fresh. -/
theorem State.portShow_running {s : State} {p : Nat} (hp : p < 4) (h : s.portRuns p = true) (hw : (s.port p).dry = false) :
    (s.portShow p).islandFrame = s.islandFrame ∧ ((s.portShow p).port p).dry = false ∧
      (s.get (F.AU_CTRL_RUN p) = 1 → ((s.portShow p).port p).fresh = (s.port p).fresh) := by
  have shown := (State.Island.refl s).showOutputs
  have runs : s.showOutputs.portRuns p = true := (shown.portRuns hp).trans h
  have run : s.showOutputs.on (F.AU_CTRL_RUN p) = s.on (F.AU_CTRL_RUN p) := by
    unfold State.on
    rw [shown.get _ (pinKey_port hp _ (by simp)).1]
  have port : s.showOutputs.port p = s.port p := by rw [State.port, s.showOutputs_ports, State.port]
  have frame := shown.frame
  unfold State.portShow
  dsimp only
  generalize s.showOutputs = t at *
  have fades (u : State) : ((u.portFade p).port p).dry = (u.port p).dry ∧ ((u.portFade p).port p).fresh = (u.port p).fresh := by
    rw [u.port_portFade]
    exact ⟨rfl, rfl⟩
  have ramps : ((t.portRamp p).port p).dry = (t.port p).dry ∧ ((t.portRamp p).port p).fresh = (t.port p).fresh := by
    rw [t.port_portRamp]
    exact ⟨rfl, rfl⟩
  have wet : (t.port p).dry = false := by rw [port]; exact hw
  have fresh : (t.port p).fresh = (s.port p).fresh := by rw [port]
  rw [runs, if_neg (show ¬(!true) = true by decide)]
  split
  · next stopping =>
    have asked : s.get (F.AU_CTRL_RUN p) ≠ 1 := by
      rw [run] at stopping
      simpa [State.on] using stopping
    have marked (c : Bool) : (t.when c (·.putPort p { t.port p with stop := true })).islandFrame = s.islandFrame ∧
        ((t.when c (·.putPort p { t.port p with stop := true })).port p).dry = false := by
      cases c with
      | false => exact ⟨frame, wet⟩
      | true =>
        refine ⟨(t.frame_putPort p _).trans frame, ?_⟩
        show (State.port (t.putPort p _) p).dry = false
        rw [State.port_putPort]
        exact wet
    obtain ⟨frame', wet'⟩ := marked (t.outState p == osPlaying || t.outState p == osRamping || t.outState p == osFading)
    generalize State.when _ _ _ = u at *
    split
    · exact ⟨(u.frame_portFade p).trans frame', (fades u).1.trans wet', fun h => absurd h asked⟩
    · split
      · exact ⟨frame', wet', fun h => absurd h asked⟩
      · obtain ⟨stopFrame, _, _, stopWet⟩ := u.portStopped_leaves hp
        exact ⟨stopFrame.trans frame', stopWet, fun h => absurd h asked⟩
  · split
    · exact ⟨(t.frame_portFade p).trans frame, (fades t).1.trans wet, fun _ => (fades t).2.trans fresh⟩
    · split
      · exact ⟨(t.frame_portRamp p).trans frame, ramps.1.trans wet, fun _ => ramps.2.trans fresh⟩
      · exact ⟨frame, wet, fun _ => fresh⟩

/-- A silent port that nothing keeps silent ramps (R312). -/
theorem State.portShow_ramps {s : State} {p : Nat} (hp : p < 4) (h : s.portRuns p = true) (hr : s.get (F.AU_CTRL_RUN p) = 1) (ho : s.outState p = osSilent)
    (hq : s.portQuiet p = false) (hat : (s.port p).startAt = none) : (s.portShow p).outState p = osRamping := by
  have shown := (State.Island.refl s).showOutputs
  have quiet : s.showOutputs.portQuiet p = false := by
    rw [← hq]
    unfold State.portQuiet State.port State.on
    rw [s.showOutputs_ports, shown.get _ (pinKey_port hp _ (by simp)).1]
  have run : s.showOutputs.on (F.AU_CTRL_RUN p) = true := by rw [State.on, shown.get _ (pinKey_port hp _ (by simp)).1, hr]; rfl
  have at_ : (s.showOutputs.port p).startAt = none := by rw [State.port, s.showOutputs_ports]; exact hat
  have effect : s.portShow p = s.showOutputs.portRamp p := by
    unfold State.portShow
    dsimp only
    rw [(shown.portRuns hp).trans h, run, quiet, (shown.outState hp).trans ho, at_]
    rfl
  rw [effect]
  exact State.get_put_same ..

/-- The converter of a port at the end of the command with which it runs again. -/
theorem State.finish_portResume {s : State} (hs : s.Settled) {p : Nat} (hp : p < 4) (hdry : (s.port p).dry = true)
    (ht : (s.unit .converter p).testing = false) (hr : s.isRetired .converter p = false) :
    let t := s.finish (s.portResume p)
    (t.port p).dry = false ∧ s.steady t ∧ (s.get (F.AU_CTRL_RUN p) = 1 → (t.port p).fresh = (s.port p).frames + 65) ∧
      (s.portRuns p = true → s.get (F.AU_CTRL_RUN p) = 1 → s.on (F.AU_CTRL_MUTE p) = false → (s.port p).survey = false →
        (s.port p).startAt = none → s.outState p = osSilent → t.outState p = osRamping) := by
  obtain ⟨a, effect, begun, calling⟩ : ∃ a : State, s.portResume p = (a.portPump p).when (s.portRuns p) (·.portShow p) ∧ s.Island a ∧
      (a.port p).calling = ((s.port p).startAt, (s.port p).survey, false, (s.port p).frames, (s.port p).frames + 65) := by
    refine ⟨_, if_pos (by rw [hdry, ht, hr]; rfl), (State.Island.refl s).putPort p _, ?_⟩
    rw [State.port_putPort]
    rfl
  have pumped := begun.portPump p
  have called := (a.calling_portPump p).trans calling
  generalize a.portPump p = b at *
  simp only [Port.calling, Prod.mk.injEq] at called
  obtain ⟨startAt, survey, wet, _, fresh⟩ := called
  have runs := pumped.portRuns hp
  have run := pumped.get (F.AU_CTRL_RUN p) (pinKey_port hp _ (by simp)).1
  cases hrun : s.portRuns p with
  | false =>
    rw [hrun] at effect
    rw [effect, show b.when false (·.portShow p) = b from if_neg (by decide)]
    obtain ⟨steady, ports, _, _⟩ := State.finish_framed hs pumped.frame
    have port : (s.finish b).port p = b.port p := by rw [State.port, ports, State.port]
    exact ⟨by rw [port, wet], steady, fun _ => by rw [port, fresh], fun h => absurd h (by decide)⟩
  | true =>
    rw [hrun] at effect
    rw [effect, show b.when true (·.portShow p) = b.portShow p from if_pos rfl]
    obtain ⟨frame, wet', fresh'⟩ := State.portShow_running hp (runs.trans hrun) wet
    obtain ⟨steady, ports, _, shows⟩ := State.finish_framed hs (t := b.portShow p) (frame.trans pumped.frame)
    have port : (s.finish (b.portShow p)).port p = (b.portShow p).port p := by rw [State.port, ports, State.port]
    refine ⟨(congrArg Port.dry port).trans wet', steady, fun h => (congrArg Port.fresh port).trans ((fresh' (run.trans h)).trans fresh), fun _ hru hmute hsurvey hat ho => ?_⟩
    have quiet : b.portQuiet p = false := by
      unfold State.portQuiet
      rw [survey, hsurvey, wet, State.on, pumped.get _ (pinKey_port hp _ (by simp)).1, ← State.on, hmute]
      rfl
    exact (shows _ (pinKey_port hp (F.AU_STATUS_OUT_STATE p) (by simp)).2).trans
      (State.portShow_ramps hp (runs.trans hrun) (run.trans hru) ((pumped.outState hp).trans ho) quiet (startAt.trans hat))

/-- Settles O48: each of the three events at the end of its command. -/
theorem audioGaps : Obligations.AudioGaps := by
  intro s hs hd p hp
  have port : Nat.blt p 4 = true := by rw [Nat.blt_eq]; exact hp
  exact ⟨fun slot hl hr hw hrt => ⟨_, exec_audioSlotLate p slot s hd port, State.finish_slotLate hs hp hl hr hw hrt⟩,
    fun hr => ⟨_, exec_audioUnderrun p s hd port, State.finish_portUnderrun hs hp hr⟩,
    fun hdry ht hr => ⟨_, exec_audioConverterResume p s hd port, State.finish_portResume hs hp hdry ht hr⟩⟩

end Sys2Proof.Machine

/-! Reception of pilot frames (R366, R370 to R373). -/

namespace Sys2Proof.Machine

/-- Where a receive berth's window of the map holds its standard and what a reception counts and marks. -/
def airMarks : List Nat := [0x08, 0x90, 0x91, 0x95, 0x96, 0xA0, 0xD8]

/-- The keys of these fields of berth `n`, of CAPTURE_OVERRUN in `PLT_STATUS`, and of OVERRUN_EV of the holds. -/
def airKey (n k : Nat) : Bool := (k / 0x400 == 0x10 + n && airMarks.contains (k % 0x400)) || k == 0x25027 || (Nat.ble 0x100000 k && k % 256 == 0x74)

theorem airKey_eq_false {n k : Nat} (h : k / 0x400 ≠ 0x10 + n ∨ k % 0x400 ∉ airMarks) (h27 : k % 256 ≠ 0x27)
    (h74 : k % 256 ≠ 0x74) : airKey n k = false := by
  have capture : k ≠ 0x25027 := fun e => h27 (by rw [e])
  rcases h with h | h <;> simp [airKey, h, capture, h74]

/-- A field of a berth's window: of another berth, or one that a reception neither counts nor marks. -/
theorem airKey_berth {f : Fld} {a l : Nat} (n m : Nat) (hf : f.key = (a + 0x40 * m) * 16 + l) (h : m = n → (a * 16 + l) % 0x400 ∉ airMarks)
    (hw : 0x4000 ≤ a * 16 + l ∧ a * 16 + l < 0x4400) (h27 : (a * 16 + l) % 256 ≠ 0x27) (h74 : (a * 16 + l) % 256 ≠ 0x74) : airKey n f.key = false := by
  rw [hf]
  refine airKey_eq_false ?_ (by omega) (by omega)
  by_cases e : m = n
  · right
    rw [show ((a + 0x40 * m) * 16 + l) % 0x400 = (a * 16 + l) % 0x400 by omega]
    exact h e
  · left
    omega

/-- A field above the berths' windows, or below them. -/
theorem airKey_outside {n k : Nat} (hn : n < 96) (h : 0x1C000 ≤ k ∨ k < 0x4000) (h27 : k % 256 ≠ 0x27) (h74 : k % 256 ≠ 0x74) : airKey n k = false :=
  airKey_eq_false (.inl (by omega)) h27 h74

theorem airKey_crane {f : Fld} {n a l : Nat} (hn : n < 96) (c : Nat) (hf : f.key = (a + 0x10 * c) * 16 + l) (ha : 0x1C00 ≤ a)
    (h27 : (a * 16 + l) % 256 ≠ 0x27) (h74 : (a * 16 + l) % 256 ≠ 0x74) : airKey n f.key = false := by
  rw [hf]
  exact airKey_outside hn (.inl (by omega)) (by omega) (by omega)

theorem airKey_ofHold {f : Fld} {n : Nat} (hn : n < 96) (h : Nat) (h27 : ((f.addr - 0x2000) * 16 + f.lo) % 256 ≠ 0x27)
    (h74 : ((f.addr - 0x2000) * 16 + f.lo) % 256 ≠ 0x74) : airKey n (f.ofHold h).key = false := by
  have key := holdKey_eq f h
  exact airKey_outside hn (.inl (by omega)) (by omega) (by omega)

/-- From `z` to `s` the fields of `airKey` of berth `n`, a receive berth, are as they were. -/
structure State.Air (n : Nat) (z s : State) : Prop where
  berth : n < 96
  standard : z.std n = 7
  get : ∀ f : Fld, airKey n f.key = true → s.get f = z.get f

namespace State.Air

variable {n : Nat} {z s t : State}

theorem refl (hn : n < 96) (hs : s.std n = 7) : s.Air n s := ⟨hn, hs, fun _ _ => rfl⟩

theorem std (h : z.Air n s) : s.std n = 7 :=
  (h.get _ (by
    have := h.berth
    clear * - this
    revert n
    decide)).trans h.standard

/-! One rule per update of a part that no register field shows. -/

theorem custody (h : z.Air n s) {v : List Item} : z.Air n { s with custody := v } := ⟨h.berth, h.standard, h.get⟩
theorem putProd (h : z.Air n s) (p : Nat) (v : Producer) : z.Air n (s.putProd p v) := ⟨h.berth, h.standard, h.get⟩
theorem putBerth (h : z.Air n s) (m : Nat) (v : Berth) : z.Air n (s.putBerth m v) := ⟨h.berth, h.standard, h.get⟩
theorem putQueue (h : z.Air n s) (cls : Nat) (q : List Nat) : z.Air n (s.putQueue cls q) := ⟨h.berth, h.standard, h.get⟩
theorem putWaiting (h : z.Air n s) (p : Nat) (l : List Wait) : z.Air n (s.putWaiting p l) := ⟨h.berth, h.standard, h.get⟩
theorem putRx (h : z.Air n s) (m : Nat) (v : Rx) : z.Air n (s.putRx m v) := ⟨h.berth, h.standard, h.get⟩
theorem putUnit (h : z.Air n s) (u : UnitType) (i : Nat) (v : UnitRec) : z.Air n (s.putUnit u i v) := ⟨h.berth, h.standard, h.get⟩
theorem setErr (h : z.Air n s) (v : List EEntry) : z.Air n (s.setErr v) := ⟨h.berth, h.standard, h.get⟩
theorem setErrCount (h : z.Air n s) (v : Nat) : z.Air n (s.setErrCount v) := ⟨h.berth, h.standard, h.get⟩
theorem setErrExport (h : z.Air n s) (v : List EEntry) : z.Air n (s.setErrExport v) := ⟨h.berth, h.standard, h.get⟩
theorem setInjSeen (h : z.Air n s) (v : Bool) : z.Air n (s.setInjSeen v) := ⟨h.berth, h.standard, h.get⟩

theorem of_regs (h : z.Air n s) (hr : t.regs = s.regs) : z.Air n t := ⟨h.berth, h.standard, fun f hf => by rw [← h.get f hf, State.get, State.get, hr]⟩

theorem put (h : z.Air n s) {f : Fld} {v : Nat} (hf : airKey n f.key = false) : z.Air n (s.put f v) :=
  ⟨h.berth, h.standard, fun g hg => (State.get_put_ne s v fun e => by rw [e, hf] at hg; cases hg).trans (h.get g hg)⟩

theorem up (h : z.Air n s) {f : Fld} (hf : airKey n f.key = false) : z.Air n (s.up f) := h.put hf
theorem down (h : z.Air n s) {f : Fld} (hf : airKey n f.key = false) : z.Air n (s.down f) := h.put hf
theorem bump (h : z.Air n s) {f : Fld} (hf : airKey n f.key = false) : z.Air n (s.bump f) := h.put hf

theorem ite {c : Prop} [Decidable c] (hs : z.Air n s) (ht : z.Air n t) : z.Air n (if c then s else t) := by split <;> assumption

theorem when (h : z.Air n s) {c : Bool} {g : State → State} (hg : ∀ t, z.Air n t → z.Air n (g t)) : z.Air n (s.when c g) := (hg s h).ite h

theorem each {α : Type} (h : z.Air n s) {l : List α} {g : α → State → State} (hg : ∀ a ∈ l, ∀ t, z.Air n t → z.Air n (g a t)) :
    z.Air n (s.each l g) := by
  unfold State.each
  induction l generalizing s with
  | nil => exact h
  | cons a l ih => exact ih (hg a (by simp) s h) fun b hb => hg b (by simp [hb])

/-- A register outside the berths' windows. -/
theorem putOutside (h : z.Air n s) {f : Fld} {v : Nat} (hf : (0x1C000 ≤ f.key ∨ f.key < 0x4000) ∧ f.key % 256 ≠ 0x27 ∧ f.key % 256 ≠ 0x74) :
    z.Air n (s.put f v) := h.put (airKey_outside h.berth hf.1 hf.2.1 hf.2.2)

theorem mask (h : z.Air n s) {f : Fld} {b : Nat} {v : Bool} (hf : airKey n f.key = false) : z.Air n (s.mask f b v) := ite h (h.put hf)

theorem attn (h : z.Air n s) (b : Nat) : z.Air n (s.attn b) := by
  unfold State.attn
  dsimp only
  refine ite (putOutside ?_ (by decide)) ?_ <;> exact ite h (putOutside h (by decide))

/-! Holds and the error journal (R261 to R270, R396, R409). -/

theorem putHold (h : z.Air n s) (m : Nat) {f : Fld} {v : Nat}
    (hf : ((f.addr - 0x2000) * 16 + f.lo) % 256 ≠ 0x27 ∧ ((f.addr - 0x2000) * 16 + f.lo) % 256 ≠ 0x74) :
    z.Air n (s.put (f.ofHold m) v) := h.put (airKey_ofHold h.berth m hf.1 hf.2)

theorem holdEvent (h : z.Air n s) {m : Nat} {f : Fld} {en : Bool}
    (hf : ((f.addr - 0x2000) * 16 + f.lo) % 256 ≠ 0x27 ∧ ((f.addr - 0x2000) * 16 + f.lo) % 256 ≠ 0x74) :
    z.Air n (s.holdEvent m f en) := by
  unfold State.holdEvent
  exact when (putHold h m hf) fun _ ht => attn ht 1

theorem holdJudge (h : z.Air n s) (m : Nat) : z.Air n (s.holdJudge m) := by
  unfold State.holdJudge
  exact ite (holdEvent (putHold (putHold h m (by decide)) m (by decide)) (by decide))
    (ite (holdEvent (putHold (putHold h m (by decide)) m (by decide)) (by decide)) h)

theorem holdFill (h : z.Air n s) (m fill : Nat) : z.Air n (s.holdFill m fill) := by
  unfold State.holdFill
  exact holdJudge (putHold (when (putHold h m (by decide)) fun _ ht => putHold ht m (by decide)) m (by decide)) m

theorem accept (h : z.Air n s) (p content flags ts : Nat) (payload : List Byte) (reserve : Bool) : z.Air n (s.accept p content flags ts payload reserve) := by
  unfold State.accept State.numbered State.refreshHolds State.showHeld
  refine putOutside (holdFill (holdFill (putProd (custody h) _ _) _ _) _ _) ?_
  simp only [Fld.key, F.QY_STATUS_HELD_OFF]
  omega

theorem exportOne (h : z.Air n s) {e : EEntry} {x : State} (hx : s.exportOne e = some x) : z.Air n x := by
  unfold State.exportOne at hx
  dsimp only at hx
  split at hx
  · exact Option.some.inj hx ▸ h.accept ..
  · split at hx
    · exact Option.some.inj hx ▸ h.accept ..
    · cases hx

theorem exportDrain (h : z.Air n s) : z.Air n s.exportDrain := by
  unfold State.exportDrain
  refine List.foldlRecOn _ _ h fun t ht _ _ => ?_
  split
  · split
    · next hx => exact (ht.exportOne hx).setErrExport _
    · split
      · split
        · next hx => exact (ht.exportOne hx).setErrExport _
        · exact ht
      · exact ht
  · exact ht

theorem error (h : z.Air n s) (detector : Nat) (u : UnitType) (index : Nat) (o : Outc) (a : EArgs) : z.Air n (s.error detector u index o a) := by
  unfold State.error
  dsimp only
  have listed (e : EEntry) : z.Air n (((s.setErr ((e :: s.err).take 4096)).setErrCount (s.errCount + 1)).put F.ERR_NEWEST_NUMBER (s.errCount + 1)) :=
    putOutside ((h.setErr _).setErrCount _) (f := F.ERR_NEWEST_NUMBER) (by decide)
  have counted (e : EEntry) := (listed e).when (c := Nat.ble 4096 s.err.length) (g := (·.bump F.ERR_STATUS_UNREAD_LOST))
    fun _ ht => ht.putOutside (f := F.ERR_STATUS_UNREAD_LOST) (by decide)
  have marked (e : EEntry) := (counted e).when (c := a.injected) (g := fun t => (t.up F.PROT_STATUS_INJECTED_EV).setInjSeen true)
    fun t ht => (ht.putOutside (f := F.PROT_STATUS_INJECTED_EV) (v := 1) (by decide)).setInjSeen true
  have asked (e : EEntry) := (marked e).when (c := o == .lasting || o == .noSpare || o == .lost) fun _ ht => ht.attn 5
  exact ite (ite (exportDrain (setErrExport (asked _) _)) (putOutside (asked _) (f := F.ERR_STATUS_EXPORT_MISSED) (by decide))) (asked _)

/-! Cranes and tickets (R150, R151, R160 to R163). -/

/-- A field of crane `c`, of the family `g`. -/
theorem putCrane (h : z.Air n s) (g : Nat → Fld) (c v : Nat) (hk : (g c).key = ((g 0).addr + 0x10 * c) * 16 + (g 0).lo)
    (hl : 0x1C00 ≤ (g 0).addr ∧ (g 0).key % 256 ≠ 0x27 ∧ (g 0).key % 256 ≠ 0x74) : z.Air n (s.put (g c) v) :=
  h.put (airKey_crane h.berth c hk hl.1 hl.2.1 hl.2.2)

/-- A field of the window of berth `m`, of the family `g`. -/
theorem putWindow (h : z.Air n s) (g : Nat → Fld) (m v : Nat) (hk : (g m).key = ((g 0).addr + 0x40 * m) * 16 + (g 0).lo)
    (hl : (g 0).key % 0x400 ∉ airMarks ∧ 0x4000 ≤ (g 0).key ∧ (g 0).key < 0x4400 ∧ (g 0).key % 256 ≠ 0x27 ∧ (g 0).key % 256 ≠ 0x74) :
    z.Air n (s.put (g m) v) := h.put (airKey_berth n m hk (fun _ => hl.1) ⟨hl.2.1, hl.2.2.1⟩ hl.2.2.2.1 hl.2.2.2.2)

theorem craneIdle (h : z.Air n s) (c : Nat) : z.Air n (s.craneIdle c) :=
  ((h.putCrane F.CRN_STATUS_BUSY c 0 rfl (by decide)).putCrane F.CRN_STATUS_URGENT c 0 rfl (by decide)).putCrane F.CRN_STATUS_BERTH c 0x7F rfl (by decide)

theorem craneTake (h : z.Air n s) (c m : Nat) : z.Air n (s.craneTake c m) := by
  unfold State.craneTake
  dsimp only
  have waited := h.when (c := Nat.blt (s.get (F.BTH_WAIT_MAX_WAIT m)) (min 65535 ((s.clock - (s.berth m).readyAt) / 100)))
    (g := (·.put (F.BTH_WAIT_MAX_WAIT m) (min 65535 ((s.clock - (s.berth m).readyAt) / 100)))) fun _ ht => ht.putWindow F.BTH_WAIT_MAX_WAIT m _ rfl (by decide)
  generalize State.when _ _ _ = w at *
  have busy := (waited.putCrane F.CRN_STATUS_BUSY c 1 rfl (by decide)).putCrane F.CRN_STATUS_BERTH c m rfl (by decide)
  generalize (w.put (F.CRN_STATUS_BUSY c) 1).put (F.CRN_STATUS_BERTH c) m = b at *
  have taken := (busy.putCrane F.CRN_STATUS_URGENT c (b.get (F.BTH_TICKET_URGENT m)) rfl (by decide)).putWindow F.BTH_TICKET_CRANE m c rfl (by decide)
  refine ite ?_ taken
  exact ((((taken.putBerth m _).putCrane F.CRN_FAULTS_REPLAYS c _ rfl (by decide)).putWindow F.BTH_REPLAY_REPLAYS m _ rfl
    (by decide)).putWindow F.BTH_EVENTS_REPLAY_EV m _ rfl (by decide)).putOutside (f := F.ENG_STATUS_REPLAY_EV) (by decide)

theorem craneChoose (h : z.Air n s) (c : Nat) : z.Air n (s.craneChoose c) := by
  unfold State.craneChoose
  dsimp only
  split
  · exact h.craneIdle c
  · exact (h.putQueue _ _).craneTake c _

theorem requeue (h : z.Air n s) (m cls : Nat) : z.Air n (s.requeue m cls) :=
  ((h.putWindow F.BTH_TICKET_CRANE m 0x3F rfl (by decide)).putBerth m _).putQueue cls _

theorem startTest (h : z.Air n s) (u : UnitType) (i d : Nat) (injected : Bool) : z.Air n (s.startTest u i d injected) := by
  unfold State.startTest
  exact ite h (h.putUnit ..)

theorem spareTakes (h : z.Air n s) (c : Nat) : z.Air n (s.spareTakes c) :=
  (h.putCrane F.CRN_STATUS_ROLE c roleWorking rfl (by decide)).putCrane F.CRN_EVENTS_TAKEOVER_EV c 1 rfl (by decide)

theorem judgeClass (h : z.Air n s) {cls : Nat} (hc : cls < 5) : z.Air n (s.judgeClass cls) := by
  have capKey : (0x1C000 ≤ (F.ENG_CAP_CAP cls).key ∨ (F.ENG_CAP_CAP cls).key < 0x4000) ∧ (F.ENG_CAP_CAP cls).key % 256 ≠ 0x27 ∧
      (F.ENG_CAP_CAP cls).key % 256 ≠ 0x74 := by
    clear * - hc
    revert cls
    decide
  unfold State.judgeClass
  exact (h.putOutside capKey).mask (airKey_outside h.berth (by decide) (by decide) (by decide))

theorem showLoads (h : z.Air n s) : z.Air n s.showLoads := each h fun c hc _ ht => ht.putOutside (by
  have := List.mem_range.1 hc
  clear * - this
  revert c
  decide)

theorem freeLoads (h : z.Air n s) (m : Nat) : z.Air n (s.freeLoads m) := (h.putBerth m _).showLoads

theorem shed (h : z.Air n s) (cls : Nat) : z.Air n (s.shed cls) := by
  unfold State.shed
  refine List.foldlRecOn _ _ h fun t ht _ _ => ?_
  refine ite ht ?_
  split
  · exact ht
  · next m _ =>
    refine ite ?_ (((ht.putBerth m _).freeLoads m).putWindow F.BTH_STATUS_STATE m _ rfl (by decide))
    exact (((((ht.putBerth m _).freeLoads m).putBerth m _).putWindow F.BTH_STATUS_STATE m bsShed rfl (by decide)).putWindow
      F.BTH_EVENTS_SHED_EV m 1 rfl (by decide)).putOutside (f := F.ENG_STATUS_SHED_EV) (v := 1) (by decide) |>.error ..

theorem rejudge (h : z.Air n s) {cls : Nat} (hc : cls < 5) : z.Air n (s.rejudge cls) := by
  have judged := h.judgeClass hc
  unfold State.rejudge
  dsimp only
  generalize s.judgeClass cls = t at *
  have overloaded := (judged.putOutside (f := F.ENG_STATUS_OVERLOAD) (v := 1) (by decide)).shed cls
  exact ite (overloaded.when fun _ ht => ht.putOutside (f := F.ENG_STATUS_OVERLOAD) (by decide))
    (judged.when fun _ ht => ht.putOutside (f := F.ENG_STATUS_OVERLOAD) (by decide))

end State.Air

/-- The decoder fields of every standard stand in the berth's window; those of a receive berth are no mark of its receptions. -/
theorem decoderFields_window {std : Nat} {g : Nat → Fld} (h : g ∈ decoderFields std) :
    (∀ m, (g m).key = ((g 0).addr + 0x40 * m) * 16 + (g 0).lo) ∧ (std = 7 → (g 0).key % 0x400 ∉ airMarks) ∧ 0x4000 ≤ (g 0).key ∧ (g 0).key < 0x4400 ∧
      (g 0).key % 256 ≠ 0x27 ∧ (g 0).key % 256 ≠ 0x74 := by
  have all : ∀ k < 8, ∀ f ∈ decoderFields k, (k = 7 → (f 0).key % 0x400 ∉ airMarks) ∧ 0x4000 ≤ (f 0).key ∧ (f 0).key < 0x4400 ∧
      (f 0).key % 256 ≠ 0x27 ∧ (f 0).key % 256 ≠ 0x74 := by decide
  have few : std < 8 := by
    by_contra big
    have none : decoderFields std = [] := by
      unfold decoderFields
      simp only [show std ≠ 1 by omega, show std ≠ 2 by omega, show std ≠ 3 by omega, show std ≠ 4 by omega, show std ≠ 5 by omega,
        show std ≠ 6 by omega, show std ≠ 7 by omega, if_false]
    rw [none] at h
    cases h
  refine ⟨fun m => ?_, all std few g h⟩
  have window : ∀ k < 8, List.Forall (fun f : Nat → Fld => (f m).key = ((f 0).addr + 0x40 * m) * 16 + (f 0).lo) (decoderFields k) := by
    intro k hk
    interval_cases k
    exacts [trivial, rfl, ⟨rfl, rfl, rfl⟩, ⟨rfl, rfl, rfl, rfl, rfl⟩, ⟨rfl, rfl, rfl, rfl, rfl⟩, ⟨rfl, rfl⟩, ⟨rfl, rfl⟩, ⟨rfl, rfl⟩]
  exact List.forall_iff_forall_mem.1 (window std few) g h

namespace State.Air

variable {n : Nat} {z s t : State}

/-- What the decoder of berth `m` shows is loaded with a context. -/
theorem loadSync (h : z.Air n s) (m : Nat) (v : Tbl Rx) (l : List Nat) :
    z.Air n ((s.setRx v).each ((decoderFields (s.std m)).zip l) fun e t => t.put (e.1 m) e.2) :=
  each (s := s.setRx v) (h.of_regs rfl) fun e he u hu => by
    obtain ⟨window, marks, above, below, h27, h74⟩ := decoderFields_window (List.of_mem_zip (a := e.1) (b := e.2) he).1
    refine hu.put (airKey_berth n m (window m) (fun e => marks ?_) ⟨above, below⟩ h27 h74)
    subst e
    exact h.std

theorem loadCtx (h : z.Air n s) (m : Nat) (c : Ctx) : z.Air n (s.loadCtx m c) := by
  unfold State.loadCtx
  have base : z.Air n (((((s.setRds (Tbl.give s.rds m c.rds)).setDab (Tbl.give s.dab m c.dab)).setDrm (Tbl.give s.drm m c.drm)).setDvb
    (Tbl.give s.dvb m c.dvb)).setAud (Tbl.give s.aud m c.aud)) :=
    h.of_regs (by simp only [State.setAud_regs, State.setDvb_regs, State.setDrm_regs, State.setDab_regs, State.setRds_regs])
  generalize State.setAud _ _ = t at *
  exact (base.loadSync m _ _).putWaiting _ _

theorem toMark (h : z.Air n s) (m : Nat) : z.Air n (s.toMark m) := ((h.putProd _ _).putBerth _ _).loadCtx m _

end State.Air

end Sys2Proof.Machine


namespace Sys2Proof.Machine

theorem classOf_lt (c : Nat) : classOf c < 5 := by
  unfold classOf
  split_ifs <;> omega

namespace State.Air

variable {n : Nat} {z s t : State}

theorem handover (h : z.Air n s) {v : List Nat} : z.Air n { s with handover := v } := ⟨h.berth, h.standard, h.get⟩

/-- The spare of the faulted crane's class takes its ticket, or the ticket goes back to its queue (R161, R163). -/
theorem craneFault (h : z.Air n s) (c detector : Nat) (a : EArgs) : z.Air n (s.craneFault c detector a) := by
  unfold State.craneFault
  extract_lets role marked e cls m busy idle test replay noSpare requeued given
  refine ite h ?_
  have noted : z.Air n e := (((h.putCrane F.CRN_EVENTS_FAULT_EV c 1 rfl (by decide)).bump (f := F.CRN_FAULTS_FAULTS c)
    (airKey_crane h.berth c (a := (F.CRN_FAULTS_FAULTS 0).addr) (l := (F.CRN_FAULTS_FAULTS 0).lo) rfl (by decide) (by decide) (by decide))).putCrane
    F.CRN_LAST_FAULT_DETECTOR c detector rfl (by decide)).error detector .crane c .detected a
  refine ite (noted.startTest ..) ?_
  refine rejudge ?_ (classOf_lt c)
  have idled : z.Air n idle := noted.handover.craneIdle c
  have tested : z.Air n test := (idled.putCrane F.CRN_STATUS_ROLE c roleTest rfl (by decide)).startTest .crane c detector a.injected
  have back : z.Air n replay := tested.when fun _ ht => (ht.toMark m).putBerth m _
  refine ite back ?_
  split
  · exact ite ((back.spareTakes _).craneTake _ _) ((back.spareTakes _).craneChoose _)
  · have reported : z.Air n noSpare := back.error detector .crane c .noSpare a
    refine ite ?_ reported
    split
    · exact (reported.requeue _ _).craneChoose _
    · exact reported.requeue _ _

/-- A dropped duplicate, and the test of the crane that made a false one (R162). -/
theorem dedup (h : z.Air n s) (m c seq : Nat) (payload : List Byte) : z.Air n (s.dedup m c seq payload) := by
  unfold State.dedup
  have counted := (h.putWindow F.BTH_REPLAY_DEDUPS m (satAdd (F.BTH_REPLAY_DEDUPS m).width (s.get (F.BTH_REPLAY_DEDUPS m)) 1) rfl
    (by decide)).putWindow F.BTH_EVENTS_DEDUP_EV m 1 rfl (by decide)
  extract_lets u
  split
  · refine ite counted (craneFault ?_ ..)
    exact (counted.putWindow F.BTH_EVENTS_DEDUP_MISMATCH_EV m 1 rfl (by decide)).putOutside (f := F.ENG_STATUS_DEDUP_MISMATCH_EV) (by decide)
  · exact counted

/-- A pilot frame feeds no capture channel and starts no alert (R342, R376). -/
theorem acceptFrame (h : z.Air n s) (p flags ts : Nat) (payload : List Byte) (reserve : Bool) : z.Air n (s.acceptFeed p 0x0D flags ts payload reserve) := by
  have fed : s.captureOf p 0x0D = none := if_neg (by simp)
  have quiet (t : State) : t.markerAccepted p 0x0D flags payload = t := if_neg (by simp)
  unfold State.acceptFeed
  simp only [fed, quiet]
  exact h.accept ..

/-- A pilot frame that waits at the hold entrance, or passes it (R262, R265). -/
theorem offer (h : z.Air n s) (p : Nat) {w : Wait} (hw : w.request = false ∧ w.content = 0x0D) (x : State) (hx : s.offer p w = some x) : z.Air n x := by
  obtain ⟨feed, content⟩ := hw
  unfold State.offer at hx
  rw [feed, content, if_neg Bool.false_ne_true] at hx
  split_ifs at hx
  · exact Option.some.inj hx ▸ h.acceptFrame ..
  · exact Option.some.inj hx ▸ h.acceptFrame ..

theorem emitFrame (h : z.Air n s) (p flags ts : Nat) (payload : List Byte) : z.Air n (s.emit p 0x0D flags ts payload) := by
  unfold State.emit State.emitWait
  extract_lets w0 seq w wait
  refine ite ((h.putProd _ _).dedup ..) (ite (h.putWaiting _ _) ?_)
  split
  · next x hx => exact h.offer p ⟨rfl, rfl⟩ x hx
  · exact h.putWaiting _ _

theorem rxEmit (h : z.Air n s) (m status fev : Nat) (psdu : List Byte) : z.Air n (s.rxEmit m status fev psdu) := h.emitFrame ..

end State.Air

end Sys2Proof.Machine


namespace Sys2Proof.Machine

/-! The reception's own state, and the fields of a receive berth's window (Table 16.6). -/

@[simp] theorem State.rxOf_putRx (s : State) (n : Nat) (r : Rx) : (s.putRx n r).rxOf n = r := Tbl.get_set_eq ..

theorem State.rxOf_of {s t : State} (h : t.rx = s.rx) (n : Nat) : t.rxOf n = s.rxOf n := by rw [State.rxOf, h, ← State.rxOf]

theorem State.Beside.rx (s : State) (x : Tbl Rx) : s.Beside { s with rx := x } := ⟨rfl, rfl, rfl, rfl, rfl, rfl, rfl⟩

theorem State.Writes.putRx {l : List Fld} {u t : State} (h : State.Writes l u t) (n : Nat) (r : Rx) : State.Writes l (u.putRx n r) (t.putRx n r) :=
  h.beside (g := fun x => x.putRx n r) fun _ _ => rfl

/-- At the end of its command, a reception that has changed beside register fields. -/
theorem State.Writes.finish_rx {l : List Fld} {s t : State} {x : Tbl Rx} (hs : s.Settled) (h : State.Writes l { s with rx := x } t)
    (hk : ∀ k ∈ shownKeys, k ∉ l.map Fld.key) :
    s.changes l { s with rx := (s.finish t).rx } (s.finish t) ∧ (s.finish t).rx = x ∧ ∀ f : Fld, f.key ∉ shownKeys → (s.finish t).get f = t.get f := by
  obtain ⟨changes, shows⟩ := h.finish hs (State.Beside.rx s x) hk
  have rx : (s.finish t).rx = x := by rw [changes.1]
  exact ⟨rx ▸ changes, rx, shows⟩

/-- A key of a berth's window belongs to no field that a command's end shows or a fade writes. -/
theorem not_shown_of_rx {n o : Nat} (hn : n < 96) (ho : o < 0x400) : 0x4000 + 0x400 * n + o ∉ shownKeys := not_shown_of_berth (by omega) (by omega)

theorem key_rxState (n : Nat) : (F.PRX_SVC1_STATE n).key = 0x4000 + 0x400 * n + 0x9D := by
  simp only [Fld.key, F.PRX_SVC1_STATE]
  omega

theorem rxState_not_shown {n : Nat} (hn : n < 96) : ∀ k ∈ shownKeys, k ∉ [F.PRX_SVC1_STATE n].map Fld.key := fun k hk hm => by
  rw [List.map_singleton, List.mem_singleton, key_rxState] at hm
  exact not_shown_of_rx hn (by decide) (hm ▸ hk)

/-- A reception enters a state, with what it has found, at the end of its command. -/
theorem State.finish_rxEnter {s : State} (hs : s.Settled) {n : Nat} (hn : n < 96) {st : Nat} (hst : st < 8) (r : Rx) :
    let t := s.finish ((s.rxState n st).putRx n r)
    t.get (F.PRX_SVC1_STATE n) = st ∧ t.rxOf n = r ∧ s.changes [F.PRX_SVC1_STATE n] { s with rx := t.rx } t := by
  have w := ((State.Writes.refl [F.PRX_SVC1_STATE n] s).put (f := F.PRX_SVC1_STATE n) (by simp) st).putRx n r
  obtain ⟨changes, rx, shows⟩ := State.Writes.finish_rx hs w (rxState_not_shown hn)
  refine ⟨(shows _ fun h => rxState_not_shown hn _ h (by simp)).trans ?_, ?_, changes⟩
  · exact (State.get_put_same s (F.PRX_SVC1_STATE n) st).trans (Nat.mod_eq_of_lt hst)
  · exact (congrArg (fun x => Tbl.get (fun _ => Rx.reset) x n) rx).trans (Tbl.get_set_eq ..)

/-! The preamble, the SFD, and a false preamble (R366, R370, R372). -/

/-- The reception that a preamble begins. -/
def State.rxBegun (s : State) (n timing : Nat) (freq : Int) : Rx := { Rx.reset with timing := timing, freq := freq, level := s.rxLevel n 16 }

theorem State.preamble_idle {s : State} {n : Nat} (hw : s.rxWorks n = true) (hst : s.get (F.PRX_SVC1_STATE n) = 0) (timing : Nat) (freq : Int) :
    s.preamble n timing freq = (s.rxState n 1).putRx n (s.rxBegun n timing freq) := by
  unfold State.preamble
  rw [if_neg (by simp [hw]), if_pos (by simp [hst]), State.rxBegun]

theorem State.preamble_syncing {s : State} {n : Nat} (hw : s.rxWorks n = true) (hst : s.get (F.PRX_SVC1_STATE n) = 1) (timing : Nat) (freq : Int) :
    s.preamble n timing freq = if (s.rxOf n).differs timing freq (s.rxLevel n 16) then (s.rxState n 1).putRx n (s.rxBegun n timing freq) else s := by
  unfold State.preamble State.rxBegun
  cases hd : (s.rxOf n).differs timing freq (s.rxLevel n 16) <;> simp [hw, hst, hd]

theorem State.sfd_syncing {s : State} {n : Nat} (hw : s.rxWorks n = true) (hst : s.get (F.PRX_SVC1_STATE n) = 1) (freq : Int) :
    s.sfd n freq = (s.rxState n 2).putRx n
      { s.rxOf n with freq := freq, level := s.rxLevel n 16, branches := s.get (F.LN_STATUS_VALID1 n) + 2 * s.get (F.LN_STATUS_VALID2 n),
                      ts := tsOfPs (s.rxSince n 16), listen := s.listenAt (s.get (F.PRX_SVC0_CHANNEL n)) (s.rxSince n 16 / 1000) } :=
  if_pos (by simp [hw, hst])

theorem State.sfdTimeout_syncing {s : State} {n : Nat} (hw : s.rxWorks n = true) (hst : s.get (F.PRX_SVC1_STATE n) = 1) :
    s.sfdTimeout n = ((s.rxState n 0).up (F.PRX_SVC1_FALSE_PREAMBLE_EV n)).bump (F.PRX_SVC4_FALSE_PREAMBLE n) := if_pos (by simp [hw, hst])

/-- A false preamble at the end of its command. -/
theorem State.finish_falsePreamble {s : State} (hs : s.Settled) {n : Nat} (hn : n < 96) :
    let t := s.finish (((s.rxState n 0).up (F.PRX_SVC1_FALSE_PREAMBLE_EV n)).bump (F.PRX_SVC4_FALSE_PREAMBLE n))
    t.get (F.PRX_SVC1_STATE n) = 0 ∧ t.get (F.PRX_SVC1_FALSE_PREAMBLE_EV n) = 1 ∧
      s.onlyFields [F.PRX_SVC1_STATE n, F.PRX_SVC1_FALSE_PREAMBLE_EV n, F.PRX_SVC4_FALSE_PREAMBLE n] t := by
  have w := (((State.Writes.refl [F.PRX_SVC1_STATE n, F.PRX_SVC1_FALSE_PREAMBLE_EV n, F.PRX_SVC4_FALSE_PREAMBLE n] s).put (f := F.PRX_SVC1_STATE n)
    (by simp) 0).up (f := F.PRX_SVC1_FALSE_PREAMBLE_EV n) (by simp)).bump (f := F.PRX_SVC4_FALSE_PREAMBLE n) (by simp)
  have keys : (F.PRX_SVC1_STATE n).key = 0x4000 + 0x400 * n + 0x9D ∧ (F.PRX_SVC1_FALSE_PREAMBLE_EV n).key = 0x4000 + 0x400 * n + 0x93 ∧
      (F.PRX_SVC4_FALSE_PREAMBLE n).key = 0x4000 + 0x400 * n + 0xC8 := by
    simp only [Fld.key, F.PRX_SVC1_STATE, F.PRX_SVC1_FALSE_PREAMBLE_EV, F.PRX_SVC4_FALSE_PREAMBLE]
    omega
  obtain ⟨stateKey, eventKey, countKey⟩ := keys
  have hidden : ∀ k ∈ shownKeys, k ∉ [F.PRX_SVC1_STATE n, F.PRX_SVC1_FALSE_PREAMBLE_EV n, F.PRX_SVC4_FALSE_PREAMBLE n].map Fld.key := fun k hk hm => by
    simp only [List.map_cons, List.map_nil, List.mem_cons, List.not_mem_nil, or_false, stateKey, eventKey, countKey] at hm
    rcases hm with rfl | rfl | rfl <;> exact not_shown_of_rx hn (by decide) hk
  obtain ⟨changes, shows⟩ := w.finish hs (State.Beside.refl s) hidden
  refine ⟨(shows _ fun h => hidden _ h (by simp)).trans ?_, (shows _ fun h => hidden _ h (by simp)).trans ?_, changes⟩
  · rw [State.get_bump, if_neg (by omega), State.get_up, if_neg (by omega)]
    exact State.get_put_same s (F.PRX_SVC1_STATE n) 0
  · rw [State.get_bump, if_neg (by omega), State.get_up, if_pos rfl]
    rfl

end Sys2Proof.Machine


namespace Sys2Proof.Machine

/-- What a reception counts and marks is written by no fade's end, and shown by no command's end. -/
theorem airKey_unfaded {n : Nat} {f : Fld} (hn : n < 96) (h : airKey n f.key = true) : f.Unfaded ∧ f.key ∉ shownKeys := by
  have places : (f.key / 0x400 = 0x10 + n ∧ f.key % 0x400 ∈ airMarks) ∨ f.key = 0x25027 ∨ (0x100000 ≤ f.key ∧ f.key % 256 = 0x74) := by
    simpa [airKey, and_assoc, or_assoc] using h
  have marks : ∀ o ∈ airMarks, o % 256 = 0x08 ∨ o % 256 = 0x90 ∨ o % 256 = 0x91 ∨
      o % 256 = 0x95 ∨ o % 256 = 0x96 ∨ o % 256 = 0xA0 ∨ o % 256 = 0xD8 := by decide
  constructor
  · have pages : f.key % 256 = 0x27 ∧ f.key = 0x25027 ∨ f.key % 256 = 0x74 ∧ 0x100000 ≤ f.key ∨
        (f.key / 0x400 = 0x10 + n ∧ (f.key % 256 = 0x08 ∨ f.key % 256 = 0x90 ∨
        f.key % 256 = 0x91 ∨ f.key % 256 = 0x95 ∨ f.key % 256 = 0x96 ∨ f.key % 256 = 0xA0 ∨ f.key % 256 = 0xD8)) := by
      rcases places with ⟨page, mark⟩ | capture | ⟨high, low⟩
      · have := marks _ mark
        omega
      · omega
      · omega
    clear h places marks
    constructor
    all_goals
      simp only [Fld.key, F.FM_SVC7_XF_STATE, F.FM_SVC7_XF_RESULT, F.FM_SVC7_XF_DONE_EV, F.BTH_STATUS_STATE, fPending,
        berthCommit, laneCommit, F.JNL_NEWEST_NUMBER, F.JNL_STATUS_UNREAD_LOST] at *
      omega
  · intro shown
    rcases places with ⟨page, -⟩ | capture | ⟨high, -⟩
    · exact not_shown_of_berth (by omega) (by omega) shown
    · rw [capture] at shown
      revert shown
      decide
    · have small : ∀ k ∈ shownKeys, k < 0x100000 := by decide
      exact absurd (small _ shown) (by omega)

theorem unfaded_rxState {n : Nat} (hn : n < 96) : (F.PRX_SVC1_STATE n).Unfaded := by
  constructor <;>
    simp only [Fld.key, F.PRX_SVC1_STATE, F.FM_SVC7_XF_STATE, F.FM_SVC7_XF_RESULT, F.FM_SVC7_XF_DONE_EV, F.BTH_STATUS_STATE, fPending,
      berthCommit, laneCommit, F.JNL_NEWEST_NUMBER, F.JNL_STATUS_UNREAD_LOST] <;>
    omega

/-- A reception is over at the end of its command: it is idle, and what it counts and marks stands. -/
theorem State.Air.finish_idle {n : Nat} {z u : State} (h : z.Air n u) (s : State) :
    (s.finish (u.rxState n 0)).get (F.PRX_SVC1_STATE n) = 0 ∧ ∀ f : Fld, airKey n f.key = true → (s.finish (u.rxState n 0)).get f = z.get f := by
  have idleKey : airKey n (F.PRX_SVC1_STATE n).key = false :=
    airKey_berth n n (a := (F.PRX_SVC1_STATE 0).addr) (l := (F.PRX_SVC1_STATE 0).lo) rfl (fun _ => by decide) (by decide) (by decide) (by decide)
  refine ⟨?_, fun f hf => ?_⟩
  · rw [State.get_finish_unfaded _ _ (unfaded_rxState h.berth) fun hk => rxState_not_shown h.berth _ hk (by simp)]
    exact State.get_put_same ..
  · obtain ⟨unfaded, hidden⟩ := airKey_unfaded h.berth hf
    exact (State.get_finish_unfaded _ _ unfaded hidden).trans ((h.put idleKey).get f hf)

/-- The fields that a reception counts and marks, at their place in the window of its berth. -/
theorem airKey_marks {n : Nat} (hn : n < 96) : ∀ f ∈ [F.BTH_CTRL_STANDARD n, F.PRX_SVC1_PHR_INVALID_EV n, F.PRX_SVC1_CAPTURE_OVERRUN_EV n, F.PRX_SVC1_FCS_FAIL_EV n,
    F.PRX_SVC1_FRAME_EV n, F.PRX_SVC2_FRAMES_OK n, F.PRX_SVC5_LAST_LQI n, F.PLT_STATUS_CAPTURE_OVERRUN], airKey n f.key = true := by
  revert n
  decide

theorem airKey_holdOverrun (n i : Nat) : airKey n (F.HLD_STATUS_OVERRUN_EV.ofHold i).key = true := by
  have key := holdKey_eq F.HLD_STATUS_OVERRUN_EV i
  simp only [F.HLD_STATUS_OVERRUN_EV] at key
  unfold airKey
  rw [Bool.or_eq_true, Bool.and_eq_true, beq_iff_eq, Nat.ble_eq]
  right
  simp only [F.HLD_STATUS_OVERRUN_EV]
  omega

/-- What the end of a failed reception marks. -/
def State.rxNote (s : State) (n status : Nat) : State :=
  if status = rxFcsFail then (s.up (F.PRX_SVC1_FCS_FAIL_EV n)).bump (F.PRX_SVC3_FCS_FAIL n)
  else if status = rxPreempted then (s.up (F.PRX_SVC1_PREEMPT_EV n)).bump (F.PRX_SVC3_PREEMPTED n)
  else if status = rxBlanked then (s.up (F.PRX_SVC1_BLANKED_EV n)).bump (F.PRX_SVC4_BLANKED n)
  else if status = rxPhrInvalid then s.up (F.PRX_SVC1_PHR_INVALID_EV n)
  else s.up (F.PRX_SVC1_CAPTURE_OVERRUN_EV n)

/-- A failed reception leaves what its end marks, whether it is reported or not (R370 to R372). -/
theorem State.rxFail_air (s : State) {n : Nat} (hn : n < 96) (status fev : Nat) (hs : (s.rxNote n status).std n = 7) :
    (s.rxNote n status).Air n (s.rxFail n status fev) :=
  (State.Air.refl hn hs).when fun _ ht => ht.rxEmit ..

end Sys2Proof.Machine


namespace Sys2Proof.Machine

/-! The PSDU: its FCS, and whitening (Table 16.1, R371). -/

theorem ofBe_be_four {x : Nat} (hx : x < 2 ^ 32) : ofBe (be 4 x) = x := by
  simp only [ofBe, be, List.foldl_cons, List.foldl_nil, BitVec.toNat_ofNat]
  omega

theorem whitened_length (l : List Byte) : (whitened l).length = l.length := List.length_mapIdx

theorem whitened_whitened (l : List Byte) : whitened (whitened l) = l := by
  unfold whitened
  dsimp only
  rw [List.length_mapIdx, List.mapIdx_mapIdx]
  refine List.ext_getElem List.length_mapIdx fun i _ _ => ?_
  rw [List.getElem_mapIdx, Function.comp_apply, BitVec.xor_assoc, BitVec.xor_self, BitVec.xor_zero]

/-- What the FCS protects, and the FCS, of a frame's octets. -/
theorem psdu_split (d : List Byte) {x : Nat} (hx : x < 2 ^ 32) :
    (d ++ be 4 x).length = d.length + 4 ∧ (d ++ be 4 x).take (d.length + 4 - 4) = d ∧ ofBe ((d ++ be 4 x).drop (d.length + 4 - 4)) = x := by
  rw [Nat.add_sub_cancel]
  exact ⟨by simp [be], List.take_left, by rw [List.drop_left, ofBe_be_four hx]⟩

/-! The header (R370, R371). -/

theorem State.rxNote_std (s : State) (n status : Nat) : (s.rxNote n status).std n = s.std n := by
  have keys : (F.BTH_CTRL_STANDARD n).key = 0x4000 + 0x400 * n + 0x08 := by
    simp only [Fld.key, F.BTH_CTRL_STANDARD]
    omega
  have other {t : State} {f : Fld} {v : Nat} (hf : 0x4090 ≤ f.key - 0x400 * n) : (t.put f v).std n = t.std n := State.get_put_ne t v (by omega)
  have mark (t : State) : (t.up (F.PRX_SVC1_FCS_FAIL_EV n)).std n = t.std n ∧ (t.up (F.PRX_SVC1_PREEMPT_EV n)).std n = t.std n ∧
      (t.up (F.PRX_SVC1_BLANKED_EV n)).std n = t.std n ∧ (t.up (F.PRX_SVC1_PHR_INVALID_EV n)).std n = t.std n ∧
      (t.up (F.PRX_SVC1_CAPTURE_OVERRUN_EV n)).std n = t.std n ∧ (t.bump (F.PRX_SVC3_FCS_FAIL n)).std n = t.std n ∧
      (t.bump (F.PRX_SVC3_PREEMPTED n)).std n = t.std n ∧ (t.bump (F.PRX_SVC4_BLANKED n)).std n = t.std n := by
    refine ⟨other ?_, other ?_, other ?_, other ?_, other ?_, other ?_, other ?_, other ?_⟩ <;>
      simp only [Fld.key, F.PRX_SVC1_FCS_FAIL_EV, F.PRX_SVC1_PREEMPT_EV, F.PRX_SVC1_BLANKED_EV, F.PRX_SVC1_PHR_INVALID_EV, F.PRX_SVC1_CAPTURE_OVERRUN_EV,
        F.PRX_SVC3_FCS_FAIL, F.PRX_SVC3_PREEMPTED, F.PRX_SVC4_BLANKED] <;> omega
  unfold State.rxNote
  split_ifs <;> simp only [mark]

theorem State.phr_good {s : State} {n : Nat} (hw : s.rxWorks n = true) (hst : s.get (F.PRX_SVC1_STATE n) = 2) {w : Nat} (h15 : bit w 15 = false)
    (h12 : bit w 12 = false) (hl : 5 ≤ bits w 0 11) (snr : Int) :
    s.phr n w snr = (s.rxState n 3).putRx n { s.rxOf n with phr := w, lqi := lqi snr, power := roundDiv (s.rxLevel n 32) 100 } := by
  unfold State.phr
  rw [if_pos (by simp [hw, hst])]
  exact if_neg (by simp [h15, h12, hl])

theorem State.phr_bad {s : State} {n : Nat} (hw : s.rxWorks n = true) (hst : s.get (F.PRX_SVC1_STATE n) = 2) {w : Nat}
    (hbad : bit w 15 = true ∨ bit w 12 = true ∨ bits w 0 11 < 5) (snr : Int) :
    s.phr n w snr = ((s.putRx n { s.rxOf n with phr := w, lqi := lqi snr, power := roundDiv (s.rxLevel n 32) 100 }).rxFail n rxPhrInvalid).rxState n 0 := by
  unfold State.phr
  rw [if_pos (by simp [hw, hst])]
  exact if_pos (by simpa [or_assoc] using hbad)

theorem State.rxWorks_std {s : State} {n : Nat} (hw : s.rxWorks n = true) : s.std n = 7 := by
  simp only [State.rxWorks, Bool.and_eq_true, beq_iff_eq] at hw
  obtain ⟨⟨⟨⟨-, std⟩, -⟩, -⟩, -⟩ := hw
  exact std

theorem State.finish_phrInvalid {s : State} {n : Nat} (hn : n < 96) (hw : s.rxWorks n = true) (r : Rx) :
    let t := s.finish (((s.putRx n r).rxFail n rxPhrInvalid).rxState n 0)
    t.get (F.PRX_SVC1_STATE n) = 0 ∧ t.get (F.PRX_SVC1_PHR_INVALID_EV n) = 1 := by
  have failed := (s.putRx n r).rxFail_air hn rxPhrInvalid 0 (((s.putRx n r).rxNote_std n rxPhrInvalid).trans (State.rxWorks_std hw))
  obtain ⟨idle, stands⟩ := failed.finish_idle s
  refine ⟨idle, (stands _ (airKey_marks hn _ (by simp))).trans ?_⟩
  exact State.get_put_same (s.putRx n r) (F.PRX_SVC1_PHR_INVALID_EV n) 1

theorem State.steady_finish {s t : State} (h : s.Keeps (fun _ => true) t) : s.steady (s.finish t) := (h.finish s).steady fun _ => rfl

end Sys2Proof.Machine


namespace Sys2Proof.Machine

/-! The frame (R371, R372). -/

/-- What the end of a PSDU shows of it. -/
def State.rxShown (s : State) (n : Nat) (air : List Byte) (freqs : List Int) : State :=
  ((s.put (F.PRX_SVC5_LAST_LQI n) (s.rxOf n).lqi).put (F.PRX_SVC6_LAST_FEV n)
    (fevOf (s.on (F.PRX_SVC0_RATE n)) (s.rxOf n).phr air freqs)).put (F.PRX_SVC7_LAST_FOFFSET n) (toBits 16 (s.rxOf n).freq)

theorem State.rxFrame_eq {s : State} {n : Nat} (hw : s.rxWorks n = true) (hst : s.get (F.PRX_SVC1_STATE n) = 3) (air : List Byte) (freqs : List Int)
    {d : List Byte} {x : Nat} (hx : x < 2 ^ 32) (hp : (if bit (s.rxOf n).phr 11 then whitened air else air) = d ++ be 4 x) :
    s.rxFrame n air freqs = (if x = (crc32 d).toNat ∧ bits (s.rxOf n).phr 0 11 = d.length + 4 then
        (((s.rxShown n air freqs).up (F.PRX_SVC1_FRAME_EV n)).bump (F.PRX_SVC2_FRAMES_OK n)).rxEmit n rxOk
          (fevOf (s.on (F.PRX_SVC0_RATE n)) (s.rxOf n).phr air freqs) d
      else (s.rxShown n air freqs).rxFail n rxFcsFail (fevOf (s.on (F.PRX_SVC0_RATE n)) (s.rxOf n).phr air freqs)).rxState n 0 := by
  obtain ⟨length, data, fcs⟩ := psdu_split d hx
  unfold State.rxFrame
  rw [if_pos (by simp [hw, hst])]
  simp only [hp, length, data, fcs]
  simp only [Bool.and_eq_true, decide_eq_true_eq, beq_iff_eq, eq_comm (a := d.length + 4), State.rxShown]

/-- What the end of a PSDU shows is none of the standard, FRAME_EV, FCS_FAIL_EV and FRAMES_OK of its berth. -/
theorem State.rxShown_reads (s : State) {n : Nat} (hn : n < 96) (air : List Byte) (freqs : List Int) :
    (s.rxShown n air freqs).std n = s.std n ∧ (s.rxShown n air freqs).get (F.PRX_SVC2_FRAMES_OK n) = s.get (F.PRX_SVC2_FRAMES_OK n) ∧
      (s.rxShown n air freqs).get (F.PRX_SVC5_LAST_LQI n) = (s.rxOf n).lqi % 256 := by
  have keys : (∀ f ∈ [F.BTH_CTRL_STANDARD n, F.PRX_SVC2_FRAMES_OK n], f.key ≠ (F.PRX_SVC5_LAST_LQI n).key ∧ f.key ≠ (F.PRX_SVC6_LAST_FEV n).key ∧
      f.key ≠ (F.PRX_SVC7_LAST_FOFFSET n).key) ∧ (F.PRX_SVC5_LAST_LQI n).key ≠ (F.PRX_SVC6_LAST_FEV n).key ∧
      (F.PRX_SVC5_LAST_LQI n).key ≠ (F.PRX_SVC7_LAST_FOFFSET n).key := by
    clear * - hn
    revert n
    decide
  obtain ⟨others, lqiFev, lqiOffset⟩ := keys
  have same {f : Fld} (hf : f ∈ [F.BTH_CTRL_STANDARD n, F.PRX_SVC2_FRAMES_OK n]) : (s.rxShown n air freqs).get f = s.get f := by
    obtain ⟨lqi, fev, offset⟩ := others f hf
    exact (State.get_put_ne _ _ offset).trans ((State.get_put_ne _ _ fev).trans (State.get_put_ne _ _ lqi))
  refine ⟨same (by simp), same (by simp), ?_⟩
  exact (State.get_put_ne _ _ lqiOffset).trans ((State.get_put_ne _ _ lqiFev).trans (State.get_put_same ..))

/-- A frame whose FCS holds, at the end of its command. -/
theorem State.finish_rxOk {s : State} {n : Nat} (hn : n < 96) (hw : s.rxWorks n = true) (air : List Byte) (freqs : List Int) (fev : Nat) (d : List Byte) :
    let t := s.finish (((((s.rxShown n air freqs).up (F.PRX_SVC1_FRAME_EV n)).bump (F.PRX_SVC2_FRAMES_OK n)).rxEmit n rxOk fev d).rxState n 0)
    t.get (F.PRX_SVC1_STATE n) = 0 ∧ t.get (F.PRX_SVC1_FRAME_EV n) = 1 ∧
      t.get (F.PRX_SVC2_FRAMES_OK n) = min 65535 (s.get (F.PRX_SVC2_FRAMES_OK n) + 1) ∧ t.get (F.PRX_SVC5_LAST_LQI n) = (s.rxOf n).lqi % 256 := by
  obtain ⟨std, count, lqi⟩ := s.rxShown_reads hn air freqs
  have keys : (∀ f ∈ [F.BTH_CTRL_STANDARD n, F.PRX_SVC5_LAST_LQI n], f.key ≠ (F.PRX_SVC1_FRAME_EV n).key ∧ f.key ≠ (F.PRX_SVC2_FRAMES_OK n).key) ∧
      (F.PRX_SVC1_FRAME_EV n).key ≠ (F.PRX_SVC2_FRAMES_OK n).key := by
    clear * - hn
    revert n
    decide
  obtain ⟨others, eventCount⟩ := keys
  generalize s.rxShown n air freqs = u at *
  have same {f : Fld} (hf : f ∈ [F.BTH_CTRL_STANDARD n, F.PRX_SVC5_LAST_LQI n]) :
      ((u.up (F.PRX_SVC1_FRAME_EV n)).bump (F.PRX_SVC2_FRAMES_OK n)).get f = u.get f := by
    obtain ⟨event, total⟩ := others f hf
    exact (State.get_put_ne _ _ total).trans (State.get_put_ne _ _ event)
  have passed := (State.Air.refl hn ((same (f := F.BTH_CTRL_STANDARD n) (by simp)).trans (std.trans (State.rxWorks_std hw)))).rxEmit n rxOk fev d
  obtain ⟨idle, stands⟩ := passed.finish_idle s
  refine ⟨idle, (stands _ (airKey_marks hn _ (by simp))).trans ?_, (stands _ (airKey_marks hn _ (by simp))).trans ?_,
    (stands _ (airKey_marks hn _ (by simp))).trans ((same (by simp)).trans lqi)⟩
  · exact (State.get_put_ne _ _ eventCount).trans (State.get_put_same ..)
  · rw [State.get_bump, if_pos rfl, State.get_up, if_neg eventCount.symm, count]
    rfl

/-- A frame whose FCS fails, at the end of its command. -/
theorem State.finish_fcsFail {s : State} {n : Nat} (hn : n < 96) (hw : s.rxWorks n = true) (air : List Byte) (freqs : List Int) (fev : Nat) :
    let t := s.finish (((s.rxShown n air freqs).rxFail n rxFcsFail fev).rxState n 0)
    t.get (F.PRX_SVC1_STATE n) = 0 ∧ t.get (F.PRX_SVC1_FCS_FAIL_EV n) = 1 ∧ t.get (F.PRX_SVC2_FRAMES_OK n) = s.get (F.PRX_SVC2_FRAMES_OK n) := by
  obtain ⟨std, count, -⟩ := s.rxShown_reads hn air freqs
  have keys : (F.PRX_SVC1_FCS_FAIL_EV n).key ≠ (F.PRX_SVC3_FCS_FAIL n).key ∧ (F.PRX_SVC2_FRAMES_OK n).key ≠ (F.PRX_SVC1_FCS_FAIL_EV n).key ∧
      (F.PRX_SVC2_FRAMES_OK n).key ≠ (F.PRX_SVC3_FCS_FAIL n).key := by
    clear * - hn
    revert n
    decide
  obtain ⟨eventCount, okEvent, okCount⟩ := keys
  generalize s.rxShown n air freqs = u at *
  have failed := u.rxFail_air hn rxFcsFail fev ((u.rxNote_std n rxFcsFail).trans (std.trans (State.rxWorks_std hw)))
  have noted : u.rxNote n rxFcsFail = (u.up (F.PRX_SVC1_FCS_FAIL_EV n)).bump (F.PRX_SVC3_FCS_FAIL n) := if_pos rfl
  rw [noted] at failed
  obtain ⟨idle, stands⟩ := failed.finish_idle s
  refine ⟨idle, (stands _ (airKey_marks hn _ (by simp))).trans ?_, (stands _ (airKey_marks hn _ (by simp))).trans ?_⟩
  · exact (State.get_put_ne _ _ eventCount).trans (State.get_put_same ..)
  · exact (State.get_put_ne _ _ okCount).trans ((State.get_put_ne _ _ okEvent).trans count)

/-! A capture overrun (R268, R373). -/

/-- What an overrun of a capture FIFO marks. -/
def State.overrunNote (s : State) (i : Nat) : State := (s.up (F.HLD_STATUS_OVERRUN_EV.ofHold (112 + i))).up F.PLT_STATUS_CAPTURE_OVERRUN

/-- An overrun is marked and entered in the error journal; the frame that a pilot window has ended is over. -/
def State.overrunOver (s : State) (i n : Nat) : State :=
  ((s.overrunNote i).error 0x0601 .hold (112 + i) .detected).when
    ((s.overrunNote i).error 0x0601 .hold (112 + i) .detected).pilotWindow (·.rxState n 0)

theorem State.captureOverrun_eq {s : State} {i n : Nat} (h : s.rxBerth i = some n) :
    s.captureOverrun i = ((s.overrunOver i n).rxFail n rxCaptureLost).rxState n 0 := by
  unfold State.captureOverrun
  rw [h]
  rfl

theorem State.overrunOver_reads (s : State) {i n : Nat} (hn : n < 96) (hs : s.std n = 7) :
    (s.overrunOver i n).std n = 7 ∧ (s.overrunOver i n).get F.PLT_STATUS_CAPTURE_OVERRUN = 1 ∧
      (s.overrunOver i n).get (F.HLD_STATUS_OVERRUN_EV.ofHold (112 + i)) = 1 := by
  have holdKey := holdKey_eq F.HLD_STATUS_OVERRUN_EV (112 + i)
  have standardKey : (F.BTH_CTRL_STANDARD n).key = 0x4000 + 0x400 * n + 0x08 := by
    simp only [Fld.key, F.BTH_CTRL_STANDARD]
    omega
  have captureKey : F.PLT_STATUS_CAPTURE_OVERRUN.key = 0x25027 := by decide
  have std : (s.overrunNote i).std n = 7 := (State.get_put_ne _ _ (by omega)).trans ((State.get_put_ne _ _ (by omega)).trans hs)
  have entered := (State.Air.refl hn std).error 0x0601 .hold (112 + i) .detected {}
  have idleKey : airKey n (F.PRX_SVC1_STATE n).key = false :=
    airKey_berth n n (a := (F.PRX_SVC1_STATE 0).addr) (l := (F.PRX_SVC1_STATE 0).lo) rfl (fun _ => by decide) (by decide) (by decide) (by decide)
  have ended : (s.overrunNote i).Air n (s.overrunOver i n) := entered.when fun _ ht => ht.put idleKey
  refine ⟨ended.std, (ended.get _ (airKey_marks hn _ (by simp))).trans (State.get_put_same ..), (ended.get _ (airKey_holdOverrun ..)).trans ?_⟩
  exact (State.get_put_ne _ _ (by omega)).trans (State.get_put_same ..)

/-- A capture overrun at the end of its command. -/
theorem State.finish_captureOverrun {s : State} {i n : Nat} (hn : n < 96) (hs : s.std n = 7) (h : s.rxBerth i = some n) :
    let t := s.finish (s.captureOverrun i)
    t.get (F.PRX_SVC1_STATE n) = 0 ∧ t.get (F.PRX_SVC1_CAPTURE_OVERRUN_EV n) = 1 ∧ t.get F.PLT_STATUS_CAPTURE_OVERRUN = 1 ∧
      t.get (F.HLD_STATUS_OVERRUN_EV.ofHold (112 + i)) = 1 := by
  obtain ⟨std, capture, hold⟩ := s.overrunOver_reads (i := i) hn hs
  rw [State.captureOverrun_eq h]
  have holdKey := holdKey_eq F.HLD_STATUS_OVERRUN_EV (112 + i)
  have captureKey : F.PLT_STATUS_CAPTURE_OVERRUN.key = 0x25027 := by decide
  have eventKey : (F.PRX_SVC1_CAPTURE_OVERRUN_EV n).key = 0x4000 + 0x400 * n + 0x91 := by
    simp only [Fld.key, F.PRX_SVC1_CAPTURE_OVERRUN_EV]
    omega
  generalize s.overrunOver i n = u at *
  have failed := u.rxFail_air hn rxCaptureLost 0 ((u.rxNote_std n rxCaptureLost).trans std)
  have noted : u.rxNote n rxCaptureLost = u.up (F.PRX_SVC1_CAPTURE_OVERRUN_EV n) := rfl
  rw [noted] at failed
  obtain ⟨idle, stands⟩ := failed.finish_idle s
  refine ⟨idle, (stands _ (airKey_marks hn _ (by simp))).trans (State.get_put_same ..), (stands _ (airKey_marks hn _ (by simp))).trans ?_,
    (stands _ (airKey_holdOverrun ..)).trans ?_⟩
  · exact (State.get_put_ne _ _ (by omega)).trans capture
  · exact (State.get_put_ne _ _ (by omega)).trans hold

end Sys2Proof.Machine


namespace Sys2Proof.Machine

/-- Settles O55: each signal enters its state of the reception; a reception that ends leaves its marks, whatever the report of it meets at the hold
entrance (`State.Air`). -/
theorem pilotReception : Obligations.PilotReception := by
  unfold Obligations.PilotReception
  intro s hs hd n hn hw
  have sited : Nat.blt n 96 = true := Nat.blt_eq ▸ hn
  refine ⟨fun timing freq hst => ?_, fun timing freq hst => ?_, fun hst => ⟨fun freq => ?_, ?_⟩,
    fun w snr hst => ⟨fun h15 h12 hl => ?_, fun hbad => ?_⟩,
    fun d freqs hst => ⟨fun hl => ?_, fun x hx hwhite => ?_⟩, fun i _ hi => ?_⟩
  · obtain ⟨state, rx, changes⟩ := State.finish_rxEnter hs hn (st := 1) (by decide) (s.rxBegun n timing freq)
    rw [exec_preambleDeclared n timing freq s hd sited, State.preamble_idle hw hst]
    exact ⟨_, rfl, state, by rw [rx, State.rxBegun], by rw [rx, State.rxBegun], by rw [rx, State.rxBegun], changes⟩
  · rw [exec_preambleDeclared n timing freq s hd sited, State.preamble_syncing hw hst]
    refine ⟨_, rfl, ?_⟩
    split
    · obtain ⟨state, rx, changes⟩ := State.finish_rxEnter hs hn (st := 1) (by decide) (s.rxBegun n timing freq)
      exact ⟨state, by rw [rx, State.rxBegun], by rw [rx, State.rxBegun], by rw [rx, State.rxBegun], changes⟩
    · exact ⟨(State.get_finish hs.2 fun h => rxState_not_shown hn _ h (by simp)).trans hst, State.onlyFields_self hs⟩
  · rw [exec_sfdFound n freq s hd sited, State.sfd_syncing hw hst]
    obtain ⟨state, rx, changes⟩ := State.finish_rxEnter hs hn (st := 2) (by decide) { s.rxOf n with
      freq := freq, level := s.rxLevel n 16, branches := s.get (F.LN_STATUS_VALID1 n) + 2 * s.get (F.LN_STATUS_VALID2 n),
      ts := tsOfPs (s.rxSince n 16), listen := s.listenAt (s.get (F.PRX_SVC0_CHANNEL n)) (s.rxSince n 16 / 1000) }
    exact ⟨_, rfl, state, by rw [rx], by rw [rx], by rw [rx], by rw [rx], changes⟩
  · rw [exec_sfdTimeout n s hd sited, State.sfdTimeout_syncing hw hst]
    exact ⟨_, rfl, State.finish_falsePreamble hs hn⟩
  · rw [exec_phrReceived n w snr s hd sited, State.phr_good hw hst h15 h12 hl]
    obtain ⟨state, rx, changes⟩ := State.finish_rxEnter hs hn (st := 3) (by decide)
      { s.rxOf n with phr := w.toNat, lqi := lqi snr, power := roundDiv (s.rxLevel n 32) 100 }
    exact ⟨_, rfl, state, by rw [rx], by rw [rx], changes⟩
  · have steady := State.steady_finish ((State.Keeps.refl (fun _ => true) s).phr n w.toNat snr)
    rw [exec_phrReceived n w snr s hd sited]
    refine ⟨_, rfl, ?_, ?_, steady⟩ <;> rw [State.phr_bad hw hst hbad]
    · exact (State.finish_phrInvalid hn hw _).1
    · exact (State.finish_phrInvalid hn hw _).2
  · have octets : (if bit (s.rxOf n).phr 11 then whitened (if bit (s.rxOf n).phr 11 then whitened (d ++ be 4 (crc32 d).toNat) else d ++ be 4 (crc32 d).toNat)
        else if bit (s.rxOf n).phr 11 then whitened (d ++ be 4 (crc32 d).toNat) else d ++ be 4 (crc32 d).toNat) = d ++ be 4 (crc32 d).toNat := by
      split
      · exact whitened_whitened _
      · rfl
    generalize (if bit (s.rxOf n).phr 11 then whitened (d ++ be 4 (crc32 d).toNat) else d ++ be 4 (crc32 d).toNat) = air at *
    have steady := State.steady_finish ((State.Keeps.refl (fun _ => true) s).rxFrame n air freqs)
    have effect := State.rxFrame_eq hw hst air freqs (crc32 d).isLt octets
    rw [if_pos ⟨rfl, hl⟩] at effect
    obtain ⟨state, event, count, lqi⟩ := State.finish_rxOk hn hw air freqs (fevOf (s.on (F.PRX_SVC0_RATE n)) (s.rxOf n).phr air freqs) d
    rw [exec_pilotFrameReceived n _ freqs s hd sited]
    rw [← effect] at state event count lqi
    exact ⟨_, rfl, state, event, count, lqi, steady⟩
  · have steady := State.steady_finish ((State.Keeps.refl (fun _ => true) s).rxFrame n (d ++ be 4 x.toNat) freqs)
    have effect := State.rxFrame_eq hw hst (d ++ be 4 x.toNat) freqs x.isLt (if_neg (by simp [hwhite]))
    rw [if_neg fun h => hx (BitVec.eq_of_toNat_eq h.1)] at effect
    obtain ⟨state, event, count⟩ := State.finish_fcsFail hn hw (d ++ be 4 x.toNat) freqs
      (fevOf (s.on (F.PRX_SVC0_RATE n)) (s.rxOf n).phr (d ++ be 4 x.toNat) freqs)
    rw [exec_pilotFrameReceived n _ freqs s hd sited]
    rw [← effect] at state event count
    exact ⟨_, rfl, state, event, count, steady⟩
  · have steady := State.steady_finish ((State.Keeps.refl (fun _ => true) s).captureOverrun i)
    obtain ⟨state, event, capture, hold⟩ := State.finish_captureOverrun hn (State.rxWorks_std hw) hi
    exact ⟨_, exec_captureOverrun i s hd, state, event, capture, hold, steady⟩

end Sys2Proof.Machine
